-- ==== Sys2Proof/Word.lean ====
section
/-!
DEFINITION. The word types of the block and the plainest arithmetic on them (R6-R8 of 00_scope.md).
-/
namespace Sys2Proof

/-- A 32-bit register word (R52). -/
abbrev Word := BitVec 32

/-- The smallest addressed unit of HBM and of a message. -/
abbrev Byte := BitVec 8

end Sys2Proof
end

