-- ==== Sys2Proof/Machine/Operands.lean ====
section
/-!
DEFINITION. The types of the operands that commands carry (index ranges of R4; message bodies and observations
of the chapters).
-/
namespace Sys2Proof

/-! Index ranges of R4, R34, R39, R53, R539. -/

abbrev HeadIx := Fin 33
abbrev WheelIx := Fin 9
abbrev BeamIx := Fin 16
abbrev AxisIx := Fin 38
abbrev SlotIx := Fin 192
abbrev TokenIx := Fin 44
abbrev PllIx := Fin 23
abbrev IslandIx := Fin 61
abbrev RegionIx := Fin 9
/-- Ethernet ports in the order of their pages: P0, P1, T, M. -/
abbrev PortIx := Fin 4
abbrev SessionIx := Fin 16
abbrev QueueIx := Fin 64

/-- The access paths of R72 to R74. -/
inductive Path where
  | mc
  | host
  | steb (sid : SessionIx)
  deriving DecidableEq, Repr

/-- The roles of R87. -/
inductive Role where
  | observer | operator | custodian
  deriving DecidableEq, Repr

/-- The pages of R53. -/
inductive Page where
  | chip | rdy | ck | st | er | te | tw | hy | mc | trim
  | region (r : RegionIx) | head (h : HeadIx) | band (h : HeadIx) | wheel (w : WheelIx)
  | loader | kick | motion | ctrleng | ldpc | outer | mediacrypt | hbm (k : Fin 2) | setter | ecctab
  | stripe | journal | eth (p : PortIx) | nvme | tls | stebaro | obsq
  deriving DecidableEq, Repr

/-- The reference clocks of R67. -/
inductive RefClock where
  | sys
  | eth (k : Fin 2)
  | head (g : Fin 4)
  deriving DecidableEq, Repr

/-- One crossing between two islands (R39, R40): its source and receiving island and its number
among the crossings of that pair. -/
structure Crossing where
  src : IslandIx
  dst : IslandIx
  no : Fin 4096
  deriving DecidableEq, Repr

/-- The two classes of crossing (R40, R42). -/
inductive XingClass where
  | control | data
  deriving DecidableEq, Repr

/-- The sides of a crossing that a reset enters (R43). -/
structure Sides where
  src : Bool
  dst : Bool
  deriving DecidableEq, Repr

/-- An operand for what a row's event reports and the block works out itself: it carries nothing. -/
abbrev Computed := Unit

/-- A word written to a register, and the W1C bits that a hardware set meets as the write arrives (R13). -/
structure RegWord where
  value : Word
  sets : Word
  deriving DecidableEq, Repr

/-- A datagram at a Stebaro port: whether DTLS record protection passes, and its bytes (R77, R78). -/
structure Datagram where
  port : PortIx
  recordOk : Bool
  bytes : List Nat
  deriving DecidableEq, Repr

/-- The key that a peer's certificate carries (R528). -/
inductive CertKey where
  | p384 | ed25519 | other
  deriving DecidableEq, Repr

/-- The certificates that a peer presents, its own first, and the key that its own carries (R75, R528). -/
structure CertChain where
  key : CertKey
  certs : List (List Nat)
  deriving DecidableEq, Repr

/-- The header of a Stebaro datagram after MAGIC (R77). -/
structure SbHeader where
  version : Nat
  opcode : Nat
  tag : Nat
  count : Nat
  address : Nat
  status : Nat
  flags : Nat
  deriving DecidableEq, Repr

/-- The filter of a SUBSCRIBE (R85). -/
structure SubFilter where
  minSev : Nat
  selectors : Nat
  regionMask : Nat
  reserved : Nat
  queueMask : Nat
  deriving DecidableEq, Repr


/-! The slip link (chapter 05). -/

/-- Link lanes of a head: UL0 to UL8 are 0 to 8, DL0 and DL1 are 9 and 10 (R133). -/
abbrev LaneIx := Fin 11

/-- Why a link lane faults (R143). -/
inductive LaneFault where
  | lockLost | duplicateLpos | crcThreshold
  deriving DecidableEq, Repr

/-- Why a link is lost (R166, R68). -/
inductive LossCause where
  | noFrame | bothDown | uncovered | pll
  deriving DecidableEq, Repr

/-- A 66-bit block of a link lane (R133): its sync header as the rule writes it, and its 64 bits as the line carries
them, bit 0 first. -/
structure LineBlock where
  hdr : Fin 4
  bits : BitVec 64
  deriving DecidableEq, Repr

/-- Sync headers that a link lane receives, oldest first (R133). -/
structure LaneHdrs where
  lane : LaneIx
  hdrs : List (Fin 4)
  deriving DecidableEq, Repr

/-- What a training step shows (R163): the TRAIN blocks last received, descrambled; the downstream link lanes that
the companion reports locked (mask, bit i for DL i), the eyes measured on UL0 to UL8 (width in 1/128 UI, height in
mV), the skew in 0.64 ns. -/
structure TrainObs where
  blocks : List (BitVec 64)
  dl : Fin 4
  eyes : List (Nat × Nat)
  skew : Nat
  deriving DecidableEq, Repr

/-- One upstream frame of a link lane as the line carries it (R135): 33 payload blocks and the trailer. -/
structure UpFrame where
  blocks : List LineBlock
  deriving DecidableEq, Repr

/-- SERVO_ERR (R154): servo frame counter, flags, and the six signed 16-bit errors as numbers. -/
structure ServoErr where
  sfn : Fin 256
  capture : Bool
  laserOn : Bool
  focus : BitVec 16
  track : BitVec 16
  tilt : BitVec 16
  sum : BitVec 16
  sa : BitVec 16
  rf : BitVec 16
  deriving DecidableEq, Repr

/-- STATUS body (R155). -/
structure StatusBody where
  port : Fin 2
  owner : Fin 3
  epoch : Fin 256
  flags : Fin 256
  dlCrc : Word
  nonownDrop : Fin 65536
  eye0w : Fin 256
  eye0h : Fin 256
  eye1w : Fin 256
  eye1h : Fin 256
  temp : BitVec 16
  deriving DecidableEq, Repr

/-- IDENT body (R154). -/
structure IdentBody where
  port : Fin 2
  beams : Fin 256
  model : Fin 65536
  fwMajor : Fin 256
  fwMinor : Fin 256
  serial : BitVec 64
  deriving DecidableEq, Repr

/-- FIRE_EVENT body (R154). -/
structure FireEventBody where
  event : Fin 256
  slot : Fin 2
  setting : Nat
  segment : Fin 256
  reason : Fin 256
  deriving DecidableEq, Repr

/-! The read channel and the ladder (chapters 6 and 7) -/

/-- Segment positions of a setting, blocks of a setting, LDPC slots of a setting. -/
abbrev SegIx := Fin 72
abbrev BlockIx := Fin 4

/-- A sync candidate (R188): offset in channel bits from the predicted start, distance in bits. -/
structure SyncCand where
  offset : Int
  distance : Nat
  deriving DecidableEq, Repr

/-- What a segment's vote takes from outside (R182, R188): the samples that stand before the predicted start less 960
channel bits at a first acquisition, and whether an edge-track buffer is empty. -/
structure SegmentObs where
  ahead : Nat
  edgeEmpty : Bool
  deriving DecidableEq, Repr

/-- Adapted values of a channel cell (R171, R178, R180): gain, offset, asymmetry, 24 taps and six
canceller coefficients (inner -1, 0, +1, then outer). -/
structure CellVals where
  gain : Int
  offset : Int
  asym : Int
  taps : List Int
  canc : List Int
  deriving DecidableEq, Repr

/-! Servo, motion (chapters 09 to 11). -/

/-- What a servo frame shows beside the SERVO_ERR (R295, R305, R313): the time in ns from the sample's delivery to each
loop's drive (FO, TR, TL), whether the slope of the tracking error puts the spot on the groove centre line, and the mean
detector error power over target energy (Q1.31). -/
structure ServoObs where
  delayFo : Nat
  delayTr : Nat
  delayTl : Nat
  goodSlope : Bool
  quality : Nat
  deriving DecidableEq, Repr

/-- An upstream frame as it arrives, and what serves a SERVO_ERR that it completes (R135, R295). -/
structure UpArrival where
  frame : UpFrame
  obs : ServoObs
  deriving DecidableEq, Repr

/-- The switches of an axis (R366). -/
inductive Switch where
  | home | far
  deriving DecidableEq, Repr

/-- A chattering switch (R367): for a pin, how long before now each raw transition was (ns). -/
structure Chatter where
  axis : AxisIx
  sw : Switch
  ages : List Nat
  deriving DecidableEq, Repr


/-! Wheels (chapter 10). -/

/-- A comparator transition of a wheel (R330, R348): phase U, V, W as 0, 1, 2, its polarity, its time in ns, for how long the
comparator then holds its level and how long before the last gate edge was (ns), and whether the high side was on. -/
structure Trans where
  phase : Fin 3
  rising : Bool
  t : Nat
  hold : Nat
  edge : Nat
  highOn : Bool
  deriving DecidableEq, Repr

/-- A current sample that trips (R329): its ADC code and its time in ns. -/
structure TripSample where
  code : Fin 4096
  t : Nat
  deriving DecidableEq, Repr

/-- A wheel and a time in ns. -/
structure WheelAt where
  wheel : WheelIx
  t : Nat
  deriving DecidableEq, Repr

/-! Firing, stripes and the journal (chapters 8 and 12) -/

/-- Groups of wheels that run together (R255): W0-W7, or W8. -/
abbrev RunIx := Fin 2
/-- Lanes, lane zones, stripe positions. -/
abbrev LaneOf := Fin 4
abbrev ZoneIx := Fin 300
abbrev PosIx := Fin 8

/-- A journal record (R392); `a`, `b`, `c` its last three words before the CRC. `zone` counts over the
lanes: 300 * lane + lane zone. -/
structure JRec where
  ty : Nat
  flags : Nat
  width : Nat
  zone : Nat
  expect : Nat
  fired : Nat
  stripe : Nat
  gen : Nat
  load : Nat
  ns : Nat
  seq : Nat
  time : Nat
  pwr : Nat
  stg : Nat
  a : Nat
  b : Nat
  c : Nat
  deriving DecidableEq, Repr

/-- Why a member is write-retired (R277), by RETIRE_CAUSE. -/
inductive RetireCause where
  | beamDead | misses | laser | noRead | noSpare | written
  deriving DecidableEq, Repr

/-- What a completed step of a re-throw shows (R410-R413). -/
inductive RtStep where
  | mounted (discs : List Nat)
  | settingDone
  | slotCaught
  | finalDone
  | recordsFired
  | swapped
  | failed
  deriving DecidableEq, Repr

/-! Memory (chapter 13) -/

/-- Who issues a request (R37, R443, R445). -/
inductive Requester where
  | mc | ce | catalogue | journal | stream
  deriving DecidableEq, Repr

/-- What a request does: read so many bytes, write bytes, zero the line (R447). -/
inductive MemAcc where
  | read (len : Nat)
  | write (bytes : List Nat)
  | zero
  deriving DecidableEq, Repr

/-- HBM stacks, memory blocks of R432, fill tags, eviction buffer entries, physical ways. -/
abbrev StackIx := Fin 2
abbrev MemBlockIx := Fin 40
abbrev FillTag := Fin 256
abbrev EvbIx := Fin 64
abbrev PhysWay := Fin 17

/-- How a post-package repair ends (R434). -/
inductive PprEnd where
  | repaired | failed | noResource
  deriving DecidableEq, Repr

/-- What a scrub read shows of a word (R437); a corrected one has a syndrome. -/
inductive ScrubEnd where
  | clean | corrected | bad
  deriving DecidableEq, Repr

/-! Host attachment (chapter 14) -/

/-- Connections (R463, R504), commands' identifiers on a connection. -/
abbrev ConnIx := Fin 576

/-- What a received frame is (R456, R457, R459). Addresses as numbers. -/
inductive RxFrame where
  | badFcs | pause | pfc (mask : BitVec 8) | otherMac | fragment | options | extHeader | twin | other
  | arp (ip : Nat) | ndp (ip : Nat) | icmp4 (ip : Nat) | icmp6 (ip : Nat)
  | tcp4 (ip : Nat) | tcp6 (ip : Nat) | udp4 (ip : Nat) (port : Nat) | udp6 (ip : Nat) (port : Nat)
  deriving DecidableEq, Repr

/-- A received frame with its VLAN ID, 0 for untagged, and its length in bytes (R456). -/
structure RxEth where
  tag : Nat
  len : Nat
  frame : RxFrame
  deriving DecidableEq, Repr

/-- What shows of a PDU that is received: good, a digest that fails (R461), a TLS record that fails authentication (R504). -/
inductive PduCheck where
  | good | badDigest | badRecord
  deriving DecidableEq, Repr

/-- A TCP segment (RFC 9293): destination port, whether it came in IPv6, flags, sequence and acknowledgment numbers, length of
its data. -/
structure TcpSeg where
  dst : Nat
  six : Bool
  syn : Bool
  ack : Bool
  fin : Bool
  rst : Bool
  seq : Nat
  ackNo : Nat
  len : Nat
  deriving DecidableEq, Repr

/-- Zone Management Send actions (R475). -/
inductive ZoneAct where
  | open_ | close | finish | reset | offline
  deriving DecidableEq, Repr

/-- I/O commands (R475-R479, R496). -/
inductive IoCmd where
  | read (slba nlb : Nat)
  | write (slba nlb : Nat) (fua : Bool)
  | append (zslba nlb : Nat) (fua : Bool)
  | zeroes (slba nlb : Nat) (fua : Bool)
  | flush
  | zone (act : ZoneAct) (slba : Nat) (all : Bool)
  | zoneExt (slba : Nat)
  deriving DecidableEq, Repr

/-- Admin commands that wait for the catalogue (R569). -/
inductive CatCmd where
  | create (lbaf nsze ncap : Nat) (binding : List Nat)
  | delete (ns : Nat)
  | attach (ns : Nat) (sides : List Nat) (on : Bool)
  | stage (id : Nat)
  | unmount (id : Nat) (store : Bool)
  deriving DecidableEq, Repr

/-- A firmware image (R529): VERSION, SVN, the bytes that the signature covers, the signature. -/
structure FwImage where
  version : Nat
  svn : Nat
  bytes : List Nat
  sig : List Nat
  deriving DecidableEq, Repr

/-- Standard features (R492). -/
inductive StdFeature where
  | keepAlive (ms : Nat)
  | asyncEvents (mask : Nat)
  | queues (n : Nat)
  | hostBehavior (acre : Bool)
  | apst (on : Bool)
  deriving DecidableEq, Repr

/-- Completion status of a command (R463, R467-R498). `notReady` and `interrupted` carry the CRD of R480. -/
inductive NvStatus where
  | ok | invalidField | accessDenied | invalidNs | notReady (crd : Nat) | interrupted (crd : Nat) | anaTransition | anaInaccessible
  | unrecoveredRead | writeFault | internalError | zoneReadOnly | zoneFull | zoneInvalidWrite | zoneBoundary | zoneOffline
  | zoneTransition | tooManyActive | tooManyOpen | insufficientCapacity | nsidUnavailable | invalidHost | controllerBusy
  | connectParams | vendor (code : Nat) | opDenied | fwProhibited | invalidImage | lbaRange
  deriving DecidableEq, Repr

/-! Port T (chapter 16) -/

/-- Tokens of R537. -/
abbrev Side := Fin 2

/-- What stands in front of a message of port T (R540): the sender's BOOT, SEQ and MSN. -/
structure THdr where
  boot : BitVec 32
  seq : Nat
  msn : Nat
  deriving DecidableEq, Repr

/-- The body of TWIN_STATE (R638); tokens as (side, epoch). -/
structure TwinState where
  rdySys : Nat
  headLo : Nat
  headHi : Nat
  wheel : Nat
  linkLo : Nat
  linkHi : Nat
  cmpOk : List Nat
  tokens : List (Nat × Nat)
  deriving DecidableEq, Repr

/-- The body of HELLO (R541). -/
structure HelloBody where
  serial : Nat
  domain : Nat
  kcv : Nat
  side : Nat
  role : Nat
  shelf : Nat
  split : Nat
  tokens : List (Nat × Nat)
  deriving DecidableEq, Repr

/-- What EXPORT carries (R318, R349, R371, R541): the record's words, positions and homed bits of axes,
the custody record, a wheel's commanded speed and reference. -/
structure ExportBody where
  record : List Nat
  axes : List (Int × Bool)
  custody : Nat × Nat × Nat × Nat
  spd : Nat
  ref : Nat
  deriving DecidableEq, Repr

/-- What FORWARD carries (R541): commands, key messages, catalogue updates. -/
inductive Forward where
  | stageLoad (id : Nat)
  | unmountLoad (id : Nat) (store : Bool)
  | loadResult (status : Nat)
  | nsKey (ns keyId : Nat) (wrappedE wrappedNk : List Nat)
  | nsKeyAck (ns keyId : Nat)
  | psk (id : List Nat) (wrapped : List Nat)
  | pskDel (id : List Nat)
  | nsBinding (ns : Nat) (binding : List Nat)
  | nsAttach (ns : Nat) (ids : List Nat)
  | seal (ns zone : Nat) (bytes : List Nat)
  | nsDelete (ns : Nat)
  | nsDeleted (ns : Nat)
  | catalogue (serial slot ty : Nat) (body : List Nat) (seq : Nat)
  | custody (kind intent wheel store : Nat)
  deriving DecidableEq, Repr

/-- The messages of port T (R541). -/
inductive TMsg where
  | hello (b : HelloBody)
  | helloAuth (serial boot : Nat)
  | heartbeat (chip tw staging : Nat) (msns : List Nat)
  | tokenOffer (tok epoch : Nat)
  | exported (tok epoch : Nat) (b : ExportBody)
  | tokenTake (tok epoch : Nat)
  | tokenDone (tok epoch result : Nat)
  | journal (recs : List JRec)
  | stage (ns zone first : Nat) (lbas : List (List Nat))
  | stageFree (zone : Nat) (stripes : List Nat)
  | mirrorAck (msn : Nat)
  | member (head sa blk offset : Nat) (bytes : List Nat)
  | fireReport (head sa event segment : Nat) (verdict : Option Bool)
  | releaseConf (wheel result : Nat)
  | forward (f : Forward)
  | writer (ns side : Nat)
  | twinState (b : TwinState)
  deriving DecidableEq, Repr

/-! The rack (R554-R556) -/

/-- The body of ANNOUNCE (R554). -/
structure AnnounceBody where
  magic : Nat
  version : Nat
  flags : Nat
  shelf : Fin 64
  serial : Nat
  domain : Nat
  kcv : Nat
  boot : Nat
  deriving DecidableEq, Repr

/-! Bring-up and self-test (R563-R591, R617-R635). -/

/-- The straps (R617). -/
structure Straps where
  manager : Bool
  sideB : Bool
  shelf : Fin 64
  bootSrc : Fin 2
  deriving DecidableEq, Repr

/-- The sources of the trim store (R567, R568): the words of the eFuse block and those of the copy in boot
flash with its signature, as they are read. -/
structure TrimSources where
  fuse : List Word
  flash : List Word
  sig : List Nat
  deriving DecidableEq, Repr

/-- Tests 1 to 9 of R577, counted from 0. -/
abbrev TestIx := Fin 9

/-- Why a test runs: for its pass (R578), forced for an overdue pass (R579), or by TEST_REQ (R580). -/
inductive TestKind where
  | pass | forced | request
  deriving DecidableEq, Repr

/-- Why a test ends early (R581): a fault in the block needs the spare, HOLDUP_N falls, the wheel is granted
to a start or changes owner. -/
inductive EarlyEnd where
  | spareNeeded | holdup | wheelTaken
  deriving DecidableEq, Repr

/-- Consumers of a poisoned word (R439), with what each of them was doing: `stagedRead` of a staged LBA of a
lane zone by the host engine or the stripe engine; `context` of the host engine. -/
inductive PoisonUse where
  | firedRead (conn : Nat) (cid : Nat)
  | stagedRead (lane : Fin 4) (zone : Fin 300) (lba : Nat)
  | stripeOp
  | outerOp
  | ldpc (head : HeadIx) (sa : Nat) (slot : Fin 72) (beam : BeamIx)
  | headShelf (head : HeadIx) (sa : Nat) (seg : Nat) (beam : BeamIx)
  | journal
  | core (c : Fin 10)
  | catalogue
  | ceSlot (n : SlotIx)
  | context (conn : Nat) (cid : Nat)
  | tcp (conn : Nat)
  | recorder
  | queue (q : QueueIx)
  deriving DecidableEq, Repr


end Sys2Proof
end

