-- ==== Sys2Proof/Syntax.lean ====
section
/-!
DEFINITION. The commands of the block: one constructor per row of the opcode table, with its operands.
Operands that a command carries from outside (what a sensor, a companion, a host or the twin presents)
are part of the command; what the block knows is in its state.
-/
namespace Sys2Proof

/-- The commands (one constructor per row of the opcode table). -/
inductive Instr where
  /-- REGISTER_WRITE (R60): A write, from any path, to a register field that has no row of its own is checked field by field and then executed or refused whole. -/
  | registerWrite (path : Path) (addr : Nat) (value : RegWord)
  /-- RC_REGISTER_READ (R13): A read of an RC register returns its value and clears it to its reset value; a hardware update that meets the read applies to the cleared value. -/
  | rcRegisterRead (path : Path) (addr : Nat) (meets : List (Nat × Nat))
  /-- WRITE_RELEASED_AFTER_TRANSFER (R61): A write held at the page arbiter by XFER_PENDING is released within 1 µs after the transfer ends and is then checked against the new owner. -/
  | writeReleasedAfterTransfer
  /-- WRITE_TRANSFER_TIMEOUT (R61): When 10 ms pass with a transfer still pending, the waiting write is refused whole with class 4 and status OWNER. -/
  | writeTransferTimeout
  /-- SOFT_RESET (R55): A write of 1 to SOFT_RESET resets the object's logic and its page-specific RW fields, and the object's crossings enter RESYNC. -/
  | softReset (path : Path) (page : Page)
  /-- SOFT_RESET_COMPLETE (R55): The reset of the object ends and SOFT_RESET reads 0: within 1 ms, or for HBM0 and HBM1 after the handover, the training and the fill. -/
  | softResetComplete (page : Page)
  /-- ENABLE_CLEAR (R54): A write of 0 to PG_CTRL.ENABLE drains the object as QUIESCE does and then stops it. -/
  | enableClear (path : Path) (page : Page)
  /-- QUIESCE (R54): A write of 1 to PG_CTRL.QUIESCE makes the object finish its units in progress and accept no new work. -/
  | quiesce (path : Path) (page : Page)
  /-- OBJECT_DRAINED (R54): The units in progress of a quiescing or disabled object complete, and the object stops. -/
  | objectDrained (page : Page)
  /-- ISOLATE_CLEAR (R50): A write clearing PG_CTRL.ISOLATE returns an isolated block to service only if READY reads 1 after its soft reset. -/
  | isolateClear (path : Path) (page : Page)
  /-- CHIP_RESET_HANDOVER (R62): A write of 0x0000_A5A5 to CHIP_RESET hands the shelf to the twin by planned handover and then resets the chip. -/
  | chipResetHandover (path : Path)
  /-- CHIP_RESET_IMMEDIATE (R62): A write of 0x0000_5A5A to CHIP_RESET resets the chip at once. -/
  | chipResetImmediate (path : Path)
  /-- TIME_LO_READ (R63): A read of TIME_LO returns bits [31:0] of the time and latches TIME_HI for the same path. -/
  | timeLoRead (path : Path)
  /-- FMON_START (R67): A write of 1 to FMON_START begins a 1 ms frequency measurement of the island named by FMON_SRC. -/
  | fmonStart (path : Path)
  /-- FMON_RESULT (R67): The 1 ms gate ends; FMON_KHZ and FMON_VALID are set and FMON_START reads 0. -/
  | fmonResult (khz : Nat)
  /-- ISL_RST_REQ (R67): A custodian write resets the named clock island; islands 33 and 60 are refused with class 8. -/
  | islRstReq (path : Path) (island : Fin 64)
  /-- ISLAND_RELEASE (R67): 10 µs after an island reset request, the island is released from reset. -/
  | islandRelease (island : IslandIx)
  /-- PLL_LOSS_OF_LOCK (R68): A PLL loses lock; its islands are held in reset and the outcome of R68 follows: fatal, a core restart, ports down, or the loss of a head group's links. -/
  | pllLossOfLock (pll : PllIx)
  /-- PLL_RELOCK (R68): A PLL regains lock; the Ethernet links or head links of its islands retrain. -/
  | pllRelock (pll : PllIx)
  /-- REFERENCE_CLOCK_LOST (R67): A reference clock input stops and PG_ISTAT bit 9 of CK is set. -/
  | referenceClockLost (clk : RefClock)
  /-- XTAL_AO_LOST (R68): XTAL_AO stops; within 20 µs the always-on island runs from REFCLK_SYS divided by 4, and a warning is raised. -/
  | xtalAoLost
  /-- CONTROL_VALUE_WRITE (R41): The source of a control-class crossing changes its value; it raises the take flag, or the value becomes or replaces the pending update. -/
  | controlValueWrite (x : Crossing) (v : Nat)
  /-- CONTROL_CAPTURE (R40): The receiver of a control-class crossing captures the whole value 2 to 3 receiving cycles after the flag and clears its stale flag. -/
  | controlCapture (x : Crossing)
  /-- CONTROL_ACK_ARRIVAL (R41): The acknowledgement reaches the source, which then launches the pending update, if any. -/
  | controlAckArrival (x : Crossing)
  /-- DATA_ITEM_WRITE (R42): The source writes an item into a data-class FIFO, or is held off while the FIFO is full. -/
  | dataItemWrite (x : Crossing) (item : Nat)
  /-- DATA_ITEM_READABLE (R42): An item becomes readable at the receiver 4 to 14 receiving cycles after its write. -/
  | dataItemReadable (x : Crossing)
  /-- RESYNC_ENTRY (R43): A side of a crossing enters reset; in-flight items are discarded and counted, and control receivers hold their values with the stale flag set. -/
  | resyncEntry (x : Crossing) (cls : XingClass) (sides : Sides)
  /-- RESYNC_HANDSHAKE_DONE (R43): Both sides are out of reset, the four-phase handshake zeroes the pointers, and the source launches its current value. -/
  | resyncHandshakeDone (x : Crossing) (cls : XingClass)
  /-- CELL_FAULT_DETECTED (R47): A cell detects a fault, stops its output at its next unit boundary and reports to its block within 1 µs. -/
  | cellFaultDetected (region : RegionIx) (block : Nat) (cell : Nat) (sev : Fin 8) (shared : Bool)
  /-- SPARE_SUBSTITUTION (R48): At the next unit boundary a block substitutes a spare for a faulted cell, or passes the report up to its region. -/
  | spareSubstitution (region : RegionIx) (block : Nat) (spareFails : Bool)
  /-- BLOCK_ISOLATION (R50): A region isolates a block whose shared logic failed or that can carry none of its work, and re-routes its work, one block at a time. -/
  | blockIsolation (region : RegionIx)
  /-- CHIP_DEGRADE (R47): The chip degrades a function that no block can carry, with its C3h entry, or declares fatal. -/
  | chipDegrade
  /-- DTLS_HANDSHAKE (R75): A Stebaro peer completes a DTLS 1.3 handshake; its role is fixed from its certificate, or it is refused when 16 sessions exist or no anchor matches. -/
  | dtlsHandshake (port : PortIx) (chain : CertChain)
  /-- DATAGRAM_DISCARD (R78): A datagram with a wrong MAGIC, or that fails DTLS record protection, is discarded without response and counted. -/
  | datagramDiscard (port : Datagram)
  /-- BAD_REQUEST (R82): A request with a bad version, opcode, count or address receives a NAK with its status code. -/
  | badRequest (sid : SessionIx) (hdr : SbHeader) (words : Nat)
  /-- READ (R79): A Stebaro READ of up to 256 listed addresses is checked and answered with an ACK carrying the values. -/
  | sbRead (sid : SessionIx) (hdr : SbHeader) (addrs : List Nat)
  /-- WRITE (R81): A Stebaro WRITE of up to 128 address-value pairs is checked whole and then executed page by page in payload order. -/
  | sbWrite (sid : SessionIx) (hdr : SbHeader) (pairs : List (Nat × Word))
  /-- READ_BLOCK (R80): A Stebaro READ_BLOCK reads consecutive registers within one page or window area, as one unit. -/
  | readBlock (sid : SessionIx) (hdr : SbHeader)
  /-- WRITE_BLOCK (R80): A Stebaro WRITE_BLOCK writes consecutive registers within one page or window area, as one unit. -/
  | writeBlock (sid : SessionIx) (hdr : SbHeader) (values : List Word)
  /-- WINDOW_READ (R84): A Stebaro WINDOW_READ reads one address COUNT times as one unit and stops early, with SHORT set, when the window reports empty. -/
  | windowRead (sid : SessionIx) (hdr : SbHeader)
  /-- SUBSCRIBE (R85): A SUBSCRIBE installs, replaces or cancels the session's filter of records and queue items, or is refused with BAD_FILTER or SUB_FULL. -/
  | subscribe (sid : SessionIx) (hdr : SbHeader) (filter : SubFilter)
  /-- EVENT_ACK (R86): A client ACK carrying an EVENT's TAG acknowledges that EVENT and frees room in the unacknowledged window. -/
  | eventAck (sid : SessionIx) (tag : Nat)
  /-- EVENT_NAK (R86): A client NAK answering an EVENT counts as no acknowledgement; the EVENT stays unacknowledged. -/
  | eventNak (sid : SessionIx) (tag : Nat)
  /-- EVENT_SEND (R86): When fewer than 8 EVENTs are unacknowledged, matching records and items waiting in the session buffer are sent in an EVENT datagram. -/
  | eventSend (sid : SessionIx)
  /-- EVENT_RESEND (R86): An EVENT without an ACK is resent after t_SB_RETX. -/
  | eventResend (sid : SessionIx) (tag : Nat)
  /-- SUBSCRIPTION_CANCEL (R86): A subscription whose EVENTs stay unacknowledged for t_SB_SUB is cancelled and a notice is recorded. -/
  | subscriptionCancel (sid : SessionIx)
  /-- SESSION_IDLE_TIMEOUT (R75): A session ends after SB_IDLE_TMO seconds without a datagram. -/
  | sessionIdleTimeout (sid : SessionIx)
  /-- SESSION_CLOSE (R75): The peer closes its Stebaro session. -/
  | sessionClose (sid : SessionIx)
  /-- STEBARO_PORT_DISABLE (R89): Clearing an EN bit of SB_CTRL closes that port's sessions at once; a request in execution completes and its response is discarded. -/
  | stebaroPortDisable (path : Path) (port : PortIx)
  /-- BLOCK_LOCK_GAINED (R133): A link lane gains block lock after 64 consecutive valid sync headers. -/
  | blockLockGained (h : HeadIx) (lane : LaneHdrs)
  /-- BLOCK_LOCK_LOST (R133): A link lane loses block lock at 16 invalid sync headers within 64. -/
  | blockLockLost (h : HeadIx) (lane : LaneHdrs)
  /-- UPSTREAM_FRAME (R140): An upstream frame of one link lane ends; its CRC is checked, its samples are placed by LPOS and FSEQ, and its sideband messages are used only if it passes. -/
  | upstreamFrame (h : HeadIx) (lane : Fin 9) (f : UpArrival)
  /-- FRAME_LOCK_GAINED (R141): A link lane enters frame lock after four consecutive valid trailers. -/
  | frameLockGained (h : HeadIx) (lane : LaneIx)
  /-- FRAME_LOCK_LOST (R141): A link lane leaves frame lock after four consecutive failed trailers. -/
  | frameLockLost (h : HeadIx) (lane : LaneIx)
  /-- LINK_LANE_FAULT (R143): A link lane faults by lock loss, duplicate LPOS or CRC threshold; it is counted toward retirement and spared, or leaves the head out of service. -/
  | linkLaneFault (h : HeadIx) (lane : LaneIx) (why : LaneFault)
  /-- FORCE_POS (R144): A write of p to LINK_CTRL.FORCE_POS moves position p to the standby link lane once, or is refused with class 8 when none is in standby. -/
  | forcePos (path : Path) (h : HeadIx) (p : Fin 16)
  /-- RETRAIN (R166): A write of 1 to LINK_CTRL.RETRAIN starts a training with a new retry budget. -/
  | linkRetrain (path : Path) (h : HeadIx)
  /-- TRAINING_STEP_ADVANCE (R163): A training step's condition holds and the peer reports the same step, so the port advances to the next step. -/
  | trainingStepAdvance (h : HeadIx) (obs : TrainObs)
  /-- TRAINING_STEP_TIMEOUT (R163): A training step exceeds its limit and the attempt fails; it is retried or the link is set failed. -/
  | trainingStepTimeout (h : HeadIx)
  /-- LINK_LOSS (R166): No frame passes CRC for t_DLOSS, or both downstream lanes fault, or an upstream fault cannot be covered; the head leaves READY, PARK is sent and retraining starts. -/
  | linkLoss (h : HeadIx) (why : LossCause)
  /-- RETRAIN_RETRY (R166): RETRY_GAP passes and another training attempt starts, or after RETRY_MAX attempts the link is set failed with a critical event. -/
  | retrainRetry (h : HeadIx)
  /-- SERVO_ERR (R295): A usable SERVO_ERR of a head arrives; CE evaluates the fire permit, computes FO, TR and TL, queues SERVO within DEADLINE, and then computes due SL and OQ samples. -/
  | servoErr (h : HeadIx) (e : ServoErr) (obs : ServoObs)
  /-- FIRE_MON (R271): A FIRE_MON report updates the running power control trims of the beams and sends PWR_TRIM when a trim changes. -/
  | fireMon (h : HeadIx) (segment : Fin 256) (half : Fin 2) (power : List Nat)
  /-- LASER_MON (R154): A LASER_MON report gives read power, laser current and temperature; out of range during firing, it causes an immediate stop. -/
  | laserMon (h : HeadIx) (power current : Nat) (temp : BitVec 16)
  /-- SLED (R365): A SLED report gives the sled switches and microstep position; ME compares the position with its own count and declares a slip beyond 64 steps. -/
  | sledMsg (h : HeadIx) (home far : Bool) (pos : Int)
  /-- STATUS (R155): A STATUS report updates COMP_STAT and the link status fields, and a newer EPOCH for an owned head marks the claim stale. -/
  | statusMsg (h : HeadIx) (b : StatusBody)
  /-- FIRE_EVENT (R257): A FIRE_EVENT report is handled: done marks the setting fired and goes to the journal; skipped, stopped, refused or loss lead to re-arming or a remap. -/
  | fireEvent (h : HeadIx) (b : FireEventBody)
  /-- FIRE_CREDIT (R160): A FIRE_CREDIT report gives the chunks held, and its NACKs cause the named chunks to be resent before any chunk of a later setting. -/
  | fireCredit (h : HeadIx) (held0 held1 : Nat) (nacks : List (Fin 2 × Nat))
  /-- ECHO_RSP (R168): An ECHO_RSP gives the round trip less the companion's turnaround into LAT.RTT. -/
  | echoRsp (h : HeadIx) (tag elapsed turnaround : Nat)
  /-- IDENT (R162): An IDENT is checked against the SIDE strap; a mismatch marks the link miswired and the head is not used. -/
  | identMsg (h : HeadIx) (b : IdentBody)
  /-- TABLE_ACK (R269): A TABLE_ACK confirms a table load, or a result other than 0 causes up to three resends and then an immediate stop of firing on the head. -/
  | tableAck (h : HeadIx) (table result offset nbody : Nat)
  /-- GROOVE (R156): A GROOVE report with a passing CRC confirms the address of a blank band, supplies disc-ID quarters, or reveals that the head is off its expected setting. -/
  | grooveWord (h : HeadIx) (crcOk : Bool) (setting quarter q : Nat)
  /-- SEGMENT_VOTE (R189): After the last beam's search window closes, the band votes the segment's sync, re-times beams or flywheels, confirms the address and delivers each beam's piece. -/
  | segmentVote (h : HeadIx) (obs : SegmentObs)
  /-- BAND_LOST (R192): After three consecutive address mismatches the band is declared lost, CE repositions the head and the band is re-acquired. -/
  | bandLost (h : HeadIx)
  /-- BAND_LOCK_LOST (R176): The shared frequency term leaves its lock range; it is clamped, segments are erased until the next setting, and re-acquisition follows. -/
  | bandLockLost (h : HeadIx)
  /-- REACQUISITION_START (R194): At the start of the next setting after the flywheel limit, a lock loss or a band loss, the band restarts acquisition and REACQ_CNT rises. -/
  | reacquisitionStart (h : HeadIx)
  /-- BAND_LOCKED (R194): Two consecutive voted segments with confirmed addresses lock the band; PG_ISTAT bit 8 is set and event 0xg204 is raised. -/
  | bandLocked (h : HeadIx)
  /-- RING_BOUNDARY (R195): On the predicted first bit of a new ring's first band, the head block switches r, the sync prediction and the start values. -/
  | ringBoundary (h : HeadIx)
  /-- ADAPT_RELOAD (R207): A write of 1 to ADAPT_CTRL.RELOAD requests a reload of start values at the next segment boundary. -/
  | adaptReload (path : Path) (h : HeadIx)
  /-- ADAPT_REACQ (R194): A write of 1 to ADAPT_CTRL.REACQ requests re-acquisition at the next setting. -/
  | adaptReacq (path : Path) (h : HeadIx)
  /-- BAND_CONFIG_APPLY (R217): At the next segment boundary, pending BAND writes such as TARGET, BEAM_MASK and RELOAD take effect on every beam at once. -/
  | bandConfigApply (h : HeadIx)
  /-- PIECE_LEAVES_SHELF (R197): A piece leaves the sample shelf and, if weak and within WEAK_CAP, is copied into a shard-capture buffer. -/
  | pieceLeavesShelf (h : HeadIx)
  /-- FAILED_CODEWORD_COPY (R198): On the pool's report of an L0 failure, the head block copies every piece of that codeword that it still holds. -/
  | failedCodewordCopy (h : HeadIx)
  /-- REDETECTION_REQUEST (R200): The ladder requests a re-detection of a captured piece, which runs on an available CC16 or returns not run. -/
  | redetectionRequest (h : HeadIx)
  /-- REDETECTION_DONE (R202): A re-detection pass ends after t_REDET and returns 2,560 LLRs; the ladder then decodes or requests the next piece. -/
  | redetectionDone (h : HeadIx) (mse : Computed)
  /-- PIECE_FILED (R218): The pool files a delivered piece under its key; a complete codeword is queued for decoding or, with the queue full, is overrun. -/
  | pieceFiled
  /-- DECODE_START (R224): A free LD cell takes the next codeword by class and weighted round-robin, or fails at once one with too many erasures. -/
  | decodeStart
  /-- DECODE_RESULT (R222): A cell ends a decode by pass or by its iteration limit; a failure at L0 issues rung L1 and notifies the head block. -/
  | decodeResult (cell : Fin 18) (pass iters info : Computed)
  /-- BAND_READ_START (R225): A waiting head starts its band read at the first setting boundary at which the pool's admission permits its load. -/
  | bandReadStart (h : HeadIx)
  /-- SHARD_IDX (R231): A write of SHARD_IDX selects a retained piece and restarts the shard window at its descriptor. -/
  | shardIdx (path : Path) (n : Fin 65536)
  /-- SHARD_WIN (R231): A read of SHARD_WIN returns the next word of the selected piece and advances to the next retained piece after its last word. -/
  | shardWin (path : Path)
  /-- OUTER_ATTEMPT_DONE (R233): An outer RS(72,68) attempt on a setting ends, verified, unverified or failed, with miscorrected slots added as erasures. -/
  | outerAttemptDone (h : HeadIx) (sa : Nat)
  /-- NOREV_BUDGET_EXPIRY (R241): The setting's NOREV_BUDGET for rungs L2 and L3 runs out; untried codewords go to the outer attempt. -/
  | norevBudgetExpiry (h : HeadIx) (sa : Nat)
  /-- REVOLUTION_STEP_DONE (R242): A rung L4 or L5 re-read of the band with one offset completes, and L1 decodes and an outer attempt follow. -/
  | revolutionStepDone (h : HeadIx)
  /-- LADDER_TIMEOUT (R249): A setting under the ladder for LADDER_TMO stops its revolution steps after the one in progress and continues at step 8. -/
  | ladderTimeout (h : HeadIx) (sa : Nat)
  /-- RECONSTRUCTION_DONE (R246): The stripe engine returns a reconstructed block or a failure; a verified block is released and a failure makes the block a shard. -/
  | reconstructionDone (h : HeadIx) (sa : Nat) (blk : BlockIx) (tagOk : Computed)
  /-- GCM_VERIFY_DONE (R248): Media crypto verifies a data block's tag; a block passes to the host engine, or a failure after an outer result raises a security event and goes to L7. -/
  | gcmVerifyDone (h : HeadIx) (sa : Nat) (blk : BlockIx) (ok : Computed)
  /-- FIRING_RUN_START (R256): A start condition holds and W0–W7 (or W8) are commanded to 4,500 rpm. -/
  | firingRunStart (g : RunIx)
  /-- FIRING_BEGIN (R334): Every wheel of the run reports AT_SPEED at 4,500 rpm; heads arm and fire ready, scanned settings and firm coefficients swap in. -/
  | firingBegin (g : RunIx)
  /-- SETTING_ARM (R258): The head block arms the free firing slot with the next ready setting and sends its FIRE_ARM and 1,665 FIRE_DATA chunks. -/
  | settingArm (h : HeadIx)
  /-- FIRING_RUN_END (R256): An end condition holds, heads stop at a setting boundary, and the wheels return to 9,000 rpm for the bisque pass. -/
  | firingRunEnd (g : RunIx)
  /-- RUN_MAX_EXPIRY (R256): RUN_MAX_S elapses in a firing run, which ends the run. -/
  | runMaxExpiry (g : RunIx)
  /-- READ_WAIT_EXPIRY (R256): A host read has waited READ_WAIT_MAX for a firing head, which ends the run. -/
  | readWaitExpiry (g : RunIx)
  /-- BLANK_SCAN_DONE (R259): A blank scan of a setting at 9,000 rpm completes; the setting is recorded blank or is a collision. -/
  | blankScanDone (h : HeadIx)
  /-- CALIBRATION (R262): Before the first data on a blank layer, the head fires and reads test settings at eight powers and writes the calibrated pulse entries. -/
  | calibration (h : HeadIx) (mse mon : Computed)
  /-- CAL_REQ (R262): A write of a CAL_REQ bit requests a calibration of the head at the start of the next run. -/
  | calReq (path : Path) (hi : Bool) (mask : Word)
  /-- BISQUE_VERDICT (R274): Within t_BQ after a read-back setting's last segment it passes or misses; a miss is re-fired into a spare and stripes are confirmed when all pass. -/
  | bisqueVerdict (h : HeadIx)
  /-- WRITE_RETIREMENT (R277): A member becomes write-retired; the head stops at its next setting boundary and the lane narrows or stops firing. -/
  | writeRetirement (h : HeadIx) (cause : RetireCause)
  /-- WR_RETIRE (R277): A custodian write of WR_RETIRE retires a head, or clears it only for a ready head with no dead beam. -/
  | wrRetire (path : Path) (hi : Bool) (mask : Word)
  /-- TABLE_WINDOW_WRITE (R269): A write to the table window updates a ring, pulse or equaliser table; a pulse entry is reloaded to the companion within t_TBL. -/
  | tableWindowWrite (path : Path) (addr : Nat) (value : Word)
  /-- CE_MEMORY_WRITE (R294): A write to the CE memory window is refused with class 8 when it targets the active bank, a pending bank, a running descriptor or state. -/
  | ceMemoryWrite (path : Path) (addr : Nat) (value : Word)
  /-- BANK_CRC_RECOMPUTE (R291): 2 µs after a write to a bank, its BANK_CRC is recomputed. -/
  | bankCrcRecompute (slot : SlotIx) (bank : Fin 2)
  /-- SERVO_FRAME_MISSING (R296): A servo frame passes without a usable SERVO_ERR; the slots count a missed sample and the companion holds its drives. -/
  | servoFrameMissing (h : HeadIx)
  /-- LOOP_MISS_FAULT (R296): After MISS_MAX consecutive missing frames the head's loops go to FAULT and the focus recovery follows. -/
  | loopMissFault (h : HeadIx)
  /-- MAC_RESIDUE_FAIL (R298): A MAC lane fails its residue check; its samples of the frame are discarded and the spare lane takes over from the next frame. -/
  | macResidueFail (lane : Fin 5)
  /-- SWAP_REQ (R301): A write of SWAP_REQ requests coefficient bank swaps of the slots named, together for slots sharing a trigger. -/
  | swapReq (path : Path) (k : Fin 6) (mask : Word)
  /-- SWAP_HEAD (R301): A write of SWAP_HEAD requests swaps of the named slots of one head together, or is refused for a head above 32. -/
  | swapHead (path : Path) (h : Fin 64) (slots : Fin 32)
  /-- SLOT_EN (R322): A write of SLOT_EN takes slots from OFF to OPEN or sets them OFF, refused when the slot's object is not owned or LOAD would exceed its limit. -/
  | slotEn (path : Path) (k : Fin 6) (mask : Word)
  /-- SATURATION_RUN (R309): A slot's LIMIT_RUN reaches SAT_RUN; it goes to FAULT and its head or wheel recovery follows. -/
  | saturationRun (slot : SlotIx)
  /-- ACQUIRE (R312): The sequencer command sweeps focus to the layer, captures tracking, closes TL, enables SL and OQ and reaches the target band. -/
  | seqAcquire (path : Path) (h : HeadIx) (layer : Fin 16) (band : Fin 16384)
  /-- LAYER_JUMP (R314): The sequencer command kicks focus to another layer, brakes, closes FO by preset, captures tracking and reaches the target band. -/
  | layerJump (path : Path) (h : HeadIx) (layer : Fin 16) (band : Fin 16384)
  /-- BAND_JUMP (R315): The sequencer command moves the spot by the tracking actuator across a counted number of grooves and closes TR by preset. -/
  | bandJump (path : Path) (h : HeadIx) (bands : BitVec 20)
  /-- SEEK (R315): The sequencer command moves the sled to the target radius and finishes with a band jump from the confirmed address. -/
  | seqSeek (path : Path) (h : HeadIx) (band : Fin 16384)
  /-- STEP (R316): The sequencer command jumps back one band and applies a tracking, focus, tilt or read-power offset for one revolution. -/
  | seqStep (path : Path) (h : HeadIx) (kind : Fin 8) (value : BitVec 8)
  /-- HOLD (R311): The sequencer command aborts any command in progress and holds the head's loops. -/
  | seqHold (path : Path) (h : HeadIx)
  /-- RESUME (R311): The sequencer command resumes the head's held loops. -/
  | seqResume (path : Path) (h : HeadIx)
  /-- PARK (R311): The sequencer command aborts any command in progress and parks the head. -/
  | seqPark (path : Path) (h : HeadIx)
  /-- EXPORT (R318): At the next servo frame CE writes the head's item record, puts its slots in HOLD and sends no further SERVO. -/
  | seqExport (path : Path) (h : HeadIx)
  /-- IMPORT (R319): CE loads the item record into the slots, puts them in ARMED and queues OWN = 1, or refuses on a bank CRC mismatch. -/
  | seqImport (path : Path) (h : HeadIx)
  /-- SEQ_CMD_UNDEFINED (R311): A SEQ_CMD write with an undefined OP or a head above 32 is refused with class 8 and result 11. -/
  | seqCmdUndefined (path : Path) (h : Fin 64) (op : Fin 16) (arg : BitVec 20)
  /-- ACQ_SWEEP_TIMEOUT (R312): The focus sweep exceeds ACQ_SWEEP_TMO; the step fails and the command retries from PARK or ends after ACQ_RETRY. -/
  | acqSweepTimeout (h : HeadIx)
  /-- TRACKING_CAPTURE_TIMEOUT (R313): No capturing zero crossing occurs within 5 ms and the step fails with result 4. -/
  | trackingCaptureTimeout (h : HeadIx)
  /-- LAYER_JUMP_TIMEOUT (R314): No zero crossing within LJ_TMO returns the head to ACQUIRE for the target layer. -/
  | layerJumpTimeout (h : HeadIx)
  /-- STEP_REMOVED (R316): After one revolution from the band's first setting, the step offset is removed. -/
  | stepRemoved (h : HeadIx)
  /-- FOCUS_LOST (R317): Focus sum below FS_MIN for 4 frames holds all five slots, drops the permit and re-closes or re-acquires. -/
  | focusLost (h : HeadIx)
  /-- TRACKING_LOST (R317): Tracking error above 200 nm for 8 frames opens TR, holds SL, and recaptures with an address check. -/
  | trackingLost (h : HeadIx)
  /-- TRACE_START (R322): A write of 1 to TRACE_CFG.START fills the trace buffer once with the chosen slot's values. -/
  | traceStart (path : Path) (slot : SlotIx) (what : Fin 4)
  /-- TRACE_FULL (R322): The trace buffer is full and START reads 0. -/
  | traceFull
  /-- SPEED_TICK (R331): Every 100 µs CM publishes the measured speed, ramps N_ref and triggers the wheel's SPD slot. -/
  | speedTick (w : WheelIx)
  /-- ZERO_CROSSING (R330): A floating-phase crossing is taken inside its window; T̄ updates, the next commutation is scheduled and any rotor-loss episode ends. -/
  | zeroCrossing (w : WheelIx) (x : Trans)
  /-- COMMUTATION (R330): T̄/2 after a crossing, or at a predicted time while flywheeling, CM commutates to the next step. -/
  | commutation (w : WheelIx) (t : Nat)
  /-- CURRENT_SAMPLE (R328): At each PWM peak and valley CM samples the current and computes the next duty. -/
  | currentSample (w : WheelIx) (code : Fin 4096)
  /-- OVERCURRENT_TRIP (R329): The current reaches OC_TRIP; on-time ends for the half period, and OC_MAX trips in 10 ms fault the wheel. -/
  | overcurrentTrip (w : WheelIx) (t : TripSample)
  /-- SPD_CMD (R332): A write of SPD_CMD sets the ramp target, starts a stopped wheel by measuring, or stops the wheel with 0. -/
  | spdCmd (path : Path) (w : WheelIx) (rpm : Fin 16384)
  /-- AT_SPEED_SET (R333): The speed stays within SPD_TOL for SPD_SETTLE after the ramp ends, so AT_SPEED is set and ROTOR_UNSURE clears. -/
  | atSpeedSet (w : WheelIx)
  /-- MEASURING_END (R337): At the third transition or MEAS_T, the start decision is made: catch, or brake to rest then align-and-go. -/
  | measuringEnd (w : WheelIx) (seen : List Trans)
  /-- BRAKE_ON_EXPIRY (R337): BRK_ON of braking ends and a rest window with all phases floating starts. -/
  | brakeOnExpiry (w : WheelIx)
  /-- REST_WINDOW_END (R337): A rest window ends; with no transition, rest is confirmed, otherwise braking resumes. -/
  | restWindowEnd (w : WheelIx) (seen : Nat)
  /-- ALIGN_END (R338): ALIGN_T expires and the open-loop start steps forward from step 0. -/
  | alignEnd (w : WheelIx) (t : Nat)
  /-- OPEN_LOOP_TIMEOUT (R338): HANDOFF is not reached within its limit; the start repeats from measuring, or the third failure faults the wheel. -/
  | openLoopTimeout (w : WheelIx)
  /-- CROSSING_WINDOW_EMPTY (R340): A crossing window closes empty; the wheel flywheels, ROTOR_UNSURE is raised, and after FLY_STEPS empty windows it coasts. -/
  | crossingWindowEmpty (w : WheelAt)
  /-- COAST_END (R341): After two electrical periods of coasting, the catch rule applies; a failed catch coasts again or faults after CATCH_TRIES. -/
  | coastEnd (w : WheelIx) (seen : List Trans)
  /-- BRAKE_HOLD_EXPIRY (R343): BRAKE_HOLD ends in a stop and the wheel continues with brake to rest. -/
  | brakeHoldExpiry (w : WheelIx)
  /-- RELEASE (R344): WH_CMD RELEASE runs a fresh rest window and asserts CLAMPw_REL only when owned, at rest and with heads parked. -/
  | wheelRelease (path : Path) (w : WheelIx)
  /-- CLAMP (R344): WH_CMD CLAMP deasserts CLAMPw_REL. -/
  | wheelClamp (path : Path) (w : WheelIx)
  /-- CLEAR_FAULT (R345): WH_CMD CLEAR_FAULT clears a wheel fault, accepted only at confirmed rest. -/
  | clearFault (path : Path) (w : WheelIx)
  /-- HANDOVER_REL (R349): WH_CMD HANDOVER_REL turns the gates off at the next commutation, deasserts SPw_OWN 1 µs later and shadows the wheel. -/
  | handoverRel (path : Path) (w : WheelIx)
  /-- HANDOVER_REL_TIMEOUT (R349): A HANDOVER_REL waiting for a rotor-loss episode to end returns result 6 after 100 ms. -/
  | handoverRelTimeout (w : WheelIx)
  /-- HANDOVER_ARM (R349): WH_CMD HANDOVER_ARM arms the wheel for a take when SHADOW_VALID is 1. -/
  | handoverArm (path : Path) (w : WheelIx)
  /-- DISARM (R352): WH_CMD DISARM cancels a HANDOVER_ARM; the wheel stays in shadow. -/
  | wheelDisarm (path : Path) (w : WheelIx)
  /-- COAST (R352): WH_CMD COAST parks the heads, turns every gate off and lets the owned wheel coast without a catch. -/
  | wheelCoast (path : Path) (w : WheelIx)
  /-- CLAMP_SENSE_CHANGE (R345): CLAMPw_SNS changes; a fall while turning faults the wheel with cause 4, a rise starts the 100 ms start qualification. -/
  | clampSenseChange (w : WheelIx) (high : Bool)
  /-- COMPARATOR_FAULT (R346): A comparator's phase misses three windows while the others cross; the spare is switched in, or the wheel runs on two comparators. -/
  | comparatorFault (w : WheelIx) (c : Fin 4) (condemned : Bool)
  /-- SHADOW_CROSSING (R348): While the twin drives, a comparator holding its level for SHADOW_HOLD counts as a shadow crossing toward SHADOW_VALID. -/
  | shadowCrossing (w : WheelIx) (x : Trans)
  /-- OWNX_FALL (R349): SPw_OWNX falls on an armed wheel; CM asserts SPw_OWN within t_TAKE and enters the next step from the shadow. -/
  | ownxFall (w : WheelIx)
  /-- UNPLANNED_WHEEL_TAKE (R350): A wheel granted without a planned release starts from its shadow or by measuring, with SPD_CMD set from the speed found. -/
  | unplannedWheelTake (w : WheelIx)
  /-- OWN_CONFLICT (R351): SPw_OWN and SPw_OWNX are both asserted for over 1 µs; CM turns its gates off and enters conflict. -/
  | ownConflict (w : WheelIx)
  /-- MOVE (R358): MV_CMD MOVE starts a trapezoidal move of one axis, or an interpolated move of two or three pin axes, after its checks and interlocks. -/
  | axisMove (path : Path) (nax : Fin 4) (ax0 ax1 ax2 : Fin 64)
  /-- HOME (R369): MV_CMD HOME starts the four-phase homing of an axis. -/
  | axisHome (path : Path) (ax : Fin 64)
  /-- STOP (R360): MV_CMD STOP decelerates the axis along its programmed ramp and ends the move. -/
  | axisStop (path : Path) (ax : Fin 64)
  /-- DISABLE (R360): MV_CMD DISABLE deasserts EN at once so the shelf's brake stops the axis. -/
  | axisDisable (path : Path) (ax : Fin 64)
  /-- SET_POS (R375): MV_CMD SET_POS sets the axis POS and clears its fault. -/
  | setPos (path : Path) (ax : Fin 64)
  /-- STOP_ALL (R375): A write of STOP_ALL stops every owned axis under R360. -/
  | stopAll (path : Path)
  /-- MOVE_END (R358): An axis takes its last step, stops, or ends on a fault, and AX_STAT.END reports how. -/
  | moveEnd (a : AxisIx) (pos : Computed)
  /-- EN_LAG_EXPIRY (R362): EN_LAG after the last step, EN is deasserted when HOLD_EN is 0. -/
  | enLagExpiry (a : AxisIx)
  /-- SWITCH_ACCEPTED (R366): A switch level is stable for DEBOUNCE and is accepted; it ends a homing phase or stops a move at a limit. -/
  | switchAccepted (a : AxisIx) (sw : Switch) (level : Bool) (stable : Nat) (pos : Computed)
  /-- SWITCH_CHATTER (R367): A switch makes more than CHAT_N raw transitions in CHAT_WIN; the axis stops with a chatter fault. -/
  | switchChatter (a : Chatter)
  /-- LD_OWN_CONFLICT (R357): LD_OWN and LD_OWNX are both asserted; ME deasserts every loader EN within 1 µs. -/
  | ldOwnConflict
  /-- LOADER_RECOVERY (R372): After bring-up or takeover, the new owner reads the custody record, tests for a sagger and homes and completes the interrupted transfer. -/
  | loaderRecovery (farTripped : Computed)
  /-- ELV_CMD (R373): A write of ELV_CMD moves the kick elevator to a slot or the clear position when owned, homed, idle and H32 parked. -/
  | elvCmd (path : Path) (target : Fin 8)
  /-- STRIPE_ENCODE (R381): Once a stripe's LBAs are staged it is encrypted, P and Q are formed and the blocks pass to the firing encoders. -/
  | stripeEncode (lane : LaneOf) (zone : ZoneIx)
  /-- WRITE_COMPLETION (R390): A write reaches its zone's durability point and its completion is sent. -/
  | writeCompletion
  /-- JOURNAL_RECORD_WRITE (R394): A journal record is written to HBM, to the twin's mirror and to the xSPI ring in order. -/
  | journalRecordWrite
  /-- XSPI_WRITE_DONE (R395): An xSPI ring write completes or fails; a failure marks the journal degraded. -/
  | xspiWriteDone (ok : Bool)
  /-- XSPI_WRITE_RETRY (R395): 10 ms after a failed xSPI journal write, it is retried. -/
  | xspiWriteRetry
  /-- XSPI_RING_COMPACT (R395): With less than 1 MiB free, current records are appended again and the ring's tail moves past the older copies. -/
  | xspiRingCompact
  /-- RUN_CLOSE (R396): At the end of a firing run or Unmount Load, journal blocks and catalogue records are fired to two discs per lane. -/
  | runClose
  /-- HOLDUP (R397): HOLDUP_N falls; firing stops, arming stops, journal and seal go to xSPI, events are flushed and heads are parked. -/
  | holdup
  /-- HOLDUP_REARM (R625): HOLDUP_N stays high for t_HU_REARM; write data and arming resume, a run record opens and parked heads re-acquire. -/
  | holdupRearm
  /-- JOURNAL_REPLAY (R399): Per zone, incomplete stripes are fired from staging or the zone rolls back, and unconfirmed settings are rechecked. -/
  | journalReplay (lane : LaneOf) (zone : ZoneIx)
  /-- RETHROW_START (R409): RT_CMD re-throw or relocation starts a re-throw of a position, or holds it pending. -/
  | rethrowStart (path : Path) (pos : PosIx) (relocate : Bool)
  /-- RETHROW_AUTO_START (R409): With RT_AUTO, a position missing for 10 minutes, or a write retirement, starts a re-throw. -/
  | rethrowAutoStart (pos : PosIx)
  /-- RETHROW_STEP_DONE (R410): A step of the re-throw completes and the next begins: mount, slot passes, catch-up, final pass, records and swap. -/
  | rethrowStepDone (step : RtStep)
  /-- RETHROW_ABORT (R414): RT_CMD abort cancels a pending re-throw or stops a running one, leaving a partial sagger. -/
  | rethrowAbort (path : Path)
  /-- CRAZE_PATROL (R415): A head idle for PATROL_IDLE reads the next whole stripe and checks parity and tags. -/
  | crazePatrol (lane : LaneOf) (zone : ZoneIx)
  /-- CONE_READ (R417): At mount an idle ready head reads its witnesses, writes a cone trend record and may raise an advisory. -/
  | coneRead (h : HeadIx) (layer : Fin 10) (witnesses : Computed)
  /-- HBM_TRAINING_DONE (R426): A stack's training ends, with lane repairs, or fails and makes the controller fatal. -/
  | hbmTrainingDone (k : StackIx) (lanes : List (Fin 32 × Fin 36)) (failed : BitVec 32)
  /-- ZERO_FILL_COMPLETE (R427): A stack's zero-fill completes and RDY.HBMn_FILLED sets. -/
  | zeroFillComplete (k : StackIx)
  /-- WATERMARK_STALL_RELEASE (R428): The fill's watermark has passed stalled requests' lines and the requests proceed. -/
  | watermarkStallRelease (k : StackIx) (pc wm : Computed)
  /-- SELF_REFRESH_ENTRY (R429): The cache is cleaned and invalidated and the stacks enter self-refresh. -/
  | selfRefreshEntry
  /-- SELF_REFRESH_EXIT (R429): The stacks leave self-refresh and the cache's macros are initialised again. -/
  | selfRefreshExit
  /-- CORRECTABLE_ERROR (R431): A single-bit error is corrected, written back and entered in the correction table, which may start a repair. -/
  | correctableError (blk : MemBlockIx) (addr : BitVec 32) (syndrome : BitVec 8)
  /-- UNCORRECTABLE_ERROR (R431): An uncorrectable error is counted and the word is poisoned. -/
  | uncorrectableError (blk : MemBlockIx) (addr : BitVec 32)
  /-- SRAM_ROW_SUBSTITUTION (R433): An SRAM row is copied into a spare row and the item switches to it. -/
  | sramRowSubstitution (blk : MemBlockIx) (ok : Bool)
  /-- POST_PACKAGE_REPAIR (R434): An HBM row is repaired with its bank stalled, or the failure leads to page retirement. -/
  | postPackageRepair (k : StackIx) (res : PprEnd)
  /-- PAGE_RETIREMENT (R435): A 2 MiB page is copied to a reserve page under a copy pointer, and the table entry becomes valid. -/
  | pageRetirement (page : Fin 16384)
  /-- SCRUB (R437): Scrubbing reads words in the background, corrects and writes back, and poisons uncorrectable words. -/
  | scrubWord (k : StackIx) (syn : Fin 256) (res : ScrubEnd)
  /-- POISON_CONSUMED (R439): A block uses a poisoned word and recovers as R439 states per consumer. -/
  | poisonConsumed (use : PoisonUse)
  /-- CACHE_REQUEST (R443): A request reaches the setter cache: hit, miss with a fill tag, eviction-buffer hit, or uncached. -/
  | cacheRequest (who : Requester) (acc : MemAcc) (addr : BitVec 35)
  /-- BYPASS_ACCESS (R444): A request on HC0 or HC1's own ports is checked against the cache tags. -/
  | bypassAccess (acc : MemAcc) (addr : BitVec 35)
  /-- CACHE_FILL_DONE (R445): A line fill completes and serves the joined requesters. -/
  | cacheFillDone (tag : FillTag)
  /-- WRITEBACK_DONE (R446): An evicted line's writeback is acknowledged and its buffer entry frees. -/
  | writebackDone (k : EvbIx)
  /-- CLEAN (R448): MAINT_CMD CLEAN writes back a dirty line and keeps it clean. -/
  | cleanLine (path : Path) (bySw : Bool) (set : Fin 8192) (way : Fin 16)
  /-- INVALIDATE (R449): MAINT_CMD INVALIDATE discards a line, or marks a fill so the line is not kept. -/
  | invalidateLine (path : Path) (bySw : Bool) (set : Fin 8192) (way : Fin 16)
  /-- CLEAN_INVALIDATE (R448): MAINT_CMD CLEAN_INVALIDATE writes back and invalidates a line. -/
  | cleanInvalidate (path : Path) (bySw : Bool) (set : Fin 8192) (way : Fin 16)
  /-- ZERO (R447): MAINT_CMD ZERO allocates or zeroes a line, dirty, without a fetch. -/
  | zeroLine (path : Path) (bySw : Bool) (set : Fin 8192) (way : Fin 16)
  /-- CLEAN_ALL (R448): MAINT_CMD CLEAN_ALL writes back every dirty line. -/
  | cleanAll (path : Path)
  /-- CLEAN_INVALIDATE_ALL (R448): MAINT_CMD CLEAN_INVALIDATE_ALL writes back and invalidates every line. -/
  | cleanInvalidateAll (path : Path)
  /-- MAINTENANCE_DONE (R448): Every writeback of a maintenance operation is acknowledged and BUSY clears. -/
  | maintenanceDone
  /-- WAY_SPARING (R450): A failed way is emptied and the spare way enters service, or the way is removed. -/
  | waySparing (way : PhysWay)
  /-- ECT_CLEAR (R455): A write of ECT_CLEAR frees the counting entries of the selected correction table. -/
  | ectClear (path : Path)
  /-- ETH_LINK_UP (R458): A port's PCS gains alignment and the link comes up. -/
  | ethLinkUp (p : PortIx) (lanes : BitVec 8) (fec74 : Bool)
  /-- ETH_LINK_FALLBACK (R458): Without lock in 500 ms, or on a lane loss, the data port restarts as 200GBASE-R on a whole group. -/
  | ethLinkFallback (p : PortIx) (lanes : BitVec 8)
  /-- ETH_LINK_DOWN (R458): A port's link goes down. -/
  | ethLinkDown (p : PortIx)
  /-- ETH_FRAME_RECEIVE (R459): A frame arrives; ARP, NDP and ICMP are answered in hardware, others are passed or discarded. -/
  | ethFrameReceive (p : PortIx) (f : RxEth)
  /-- TCP_SEGMENT (R460): A TCP segment is processed under RFC 9293. -/
  | tcpSegment (c : ConnIx) (p : PortIx) (seg : TcpSeg)
  /-- TCP_RETRANSMIT_TIMEOUT (R460): A TCP retransmission timer expires. -/
  | tcpRetransmitTimeout (c : ConnIx)
  /-- ICREQ (R461): An ICReq PDU is answered with ICResp and sets digests. -/
  | icreq (c : ConnIx) (pfv : Nat) (hdgst ddgst : Bool) (maxr2t : Nat)
  /-- CAPSULE_CMD (R464): A CapsuleCmd PDU is taken when a context is free; the host engine stops reading its connection otherwise. -/
  | capsuleCmd (c : ConnIx) (cid : Nat) (data : List Nat) (chk : PduCheck)
  /-- H2C_DATA (R461): An H2CData PDU delivers write data for a command. -/
  | h2cData (c : ConnIx) (cid : Nat) (offset : Nat) (bytes : List Nat) (chk : PduCheck)
  /-- H2C_TERM_REQ (R461): An H2CTermReq ends the connection. -/
  | h2cTermReq (c : ConnIx)
  /-- TLS_HANDSHAKE (R462): A TLS 1.3 handshake on a data port completes or fails. -/
  | tlsHandshake (c : ConnIx) (psk : Nat) (suite128 : Bool) (ok : Bool)
  /-- CONNECT (R463): A Fabrics Connect is accepted or refused by access list and limits. -/
  | nvmeConnect (c : ConnIx) (cid : Nat) (host : Nat) (disc : Bool) (qid size cntlid kato : Nat)
  /-- IDENTIFY (R465): Identify returns the controller and namespace values. -/
  | nvmeIdentify (c : ConnIx) (cid : Nat) (cns ns : Nat)
  /-- NAMESPACE_CREATE (R469): Namespace Management create checks the binding, assigns an NSID and generates keys. -/
  | namespaceCreate (c : ConnIx) (cid : Nat) (lbaf nsze ncap : Nat) (binding : List Nat)
  /-- NAMESPACE_DELETE (R470): Namespace Management delete performs the crypto-erase. -/
  | namespaceDelete (c : ConnIx) (cid : Nat) (ns : Nat)
  /-- NAMESPACE_ATTACHMENT (R470): Namespace Attachment attaches or detaches the namespace. -/
  | namespaceAttachment (c : ConnIx) (cid : Nat) (ns : Nat) (ids : List Nat) (on : Bool)
  /-- READ_COMMAND (R479): A Read is served from zeros, staging or the medium. -/
  | readCommand (c : ConnIx) (cid : Nat) (ns slba nlb : Nat)
  /-- WRITE_COMMAND (R477): A Write at the write pointer is staged when staging accepts it. -/
  | writeCommand (c : ConnIx) (cid : Nat) (ns slba nlb : Nat) (fua : Bool)
  /-- ZONE_APPEND (R477): Zone Append writes at the write pointer. -/
  | zoneAppend (c : ConnIx) (cid : Nat) (ns zslba nlb : Nat) (fua : Bool)
  /-- WRITE_ZEROES (R477): Write Zeroes writes encrypted zeros. -/
  | writeZeroes (c : ConnIx) (cid : Nat) (ns slba nlb : Nat) (fua : Bool)
  /-- STAGING_WAIT_EXPIRY (R477): A write held above STG_FULL for STG_WAIT_MAX completes with Command Interrupted. -/
  | stagingWaitExpiry (c : ConnIx) (cid : Nat)
  /-- FLUSH (R496): A Flush pads fired-ack zones and completes at the durability point. -/
  | nvmeFlush (c : ConnIx) (cid : Nat) (ns : Nat)
  /-- ZONE_OPEN (R475): Zone Management Send Open opens a zone. -/
  | zoneOpen (c : ConnIx) (cid : Nat) (ns slba : Nat) (all : Bool)
  /-- ZONE_CLOSE (R475): Zone Management Send Close closes a zone. -/
  | zoneClose (c : ConnIx) (cid : Nat) (ns slba : Nat) (all : Bool)
  /-- ZONE_FINISH (R475): Zone Management Send Finish completes when every stripe is confirmed and the seal is made. -/
  | zoneFinish (c : ConnIx) (cid : Nat) (ns slba : Nat) (all : Bool)
  /-- ZONE_RESET (R475): Zone Management Send Reset empties a zone with no fired setting or is refused. -/
  | zoneReset (c : ConnIx) (cid : Nat) (ns slba : Nat) (all : Bool)
  /-- ZONE_OFFLINE (R475): Zone Management Send Offline is accepted only for a Read Only zone. -/
  | zoneOffline (c : ConnIx) (cid : Nat) (ns slba : Nat) (all : Bool)
  /-- SET_ZONE_DESCRIPTOR_EXT (R475): Set Zone Descriptor Extension is refused. -/
  | setZoneDescriptorExt (c : ConnIx) (cid : Nat) (ns slba : Nat)
  /-- STAGE_LOAD (R483): Stage Load stops I/O, fires staged data and exchanges saggers to mount a load. -/
  | stageLoad (c : ConnIx) (cid : Nat) (id : Nat)
  /-- UNMOUNT_LOAD (R484): Unmount Load fires staged data, closes the run and brakes W0–W7 to rest. -/
  | unmountLoad (c : ConnIx) (cid : Nat) (id : Nat) (store : Bool)
  /-- GET_LOG_C0 (R485): Get Log Page C0h returns load status. -/
  | getLogC0 (c : ConnIx) (cid : Nat) (len : Nat)
  /-- GET_LOG_C1 (R486): Get Log Page C1h returns event records from a sequence number. -/
  | getLogC1 (c : ConnIx) (cid : Nat) (offset len : Nat)
  /-- GET_LOG_C2 (R487): Get Log Page C2h returns interrupted zones, clearing them with bit 0. -/
  | getLogC2 (c : ConnIx) (cid : Nat) (clear : Bool) (len : Nat)
  /-- GET_LOG_C3 (R488): Get Log Page C3h returns health and spares. -/
  | getLogC3 (c : ConnIx) (cid : Nat) (len : Nat)
  /-- GET_LOG_C4 (R490): Get Log Page C4h returns zone seals. -/
  | getLogC4 (c : ConnIx) (cid : Nat) (ns offset len : Nat)
  /-- GET_LOG_C5 (R491): Get Log Page C5h returns the zone durability bitmap. -/
  | getLogC5 (c : ConnIx) (cid : Nat) (ns offset len : Nat)
  /-- GET_LOG_SMART (R489): SMART / Health Information log returns spares and warnings. -/
  | getLogSmart (c : ConnIx) (cid : Nat)
  /-- GET_FEATURES_C0 (R492): Get Features C0h reads a register. -/
  | getFeaturesC0 (c : ConnIx) (cid : Nat) (addr : Nat)
  /-- SET_FEATURES_C0 (R492): Set Features C0h writes a register with operator rights. -/
  | setFeaturesC0 (c : ConnIx) (cid : Nat) (addr : Nat) (value : Word)
  /-- SET_FEATURES_C1 (R492): Set Features C1h sets the namespace's default durability point. -/
  | setFeaturesC1 (c : ConnIx) (cid : Nat) (ns : Nat) (mirrorAck : Bool)
  /-- SET_FEATURES_STANDARD (R492): A standard feature such as Keep Alive Timer is set. -/
  | setFeaturesStandard (c : ConnIx) (cid : Nat) (f : StdFeature)
  /-- POWER_MANAGEMENT (R494): Power Management selects a power state. -/
  | powerManagement (c : ConnIx) (cid : Nat) (ps : Fin 5)
  /-- AUTONOMOUS_PS_TRANSITION (R494): An autonomous transition to PS1 or PS2 occurs. -/
  | autonomousPsTransition (a : Fin 64) (ps : Fin 5)
  /-- PS_REQ (R495): A write of NVME.PS_REQ enters or leaves PS3 or PS4. -/
  | psReq (path : Path) (value : Fin 8)
  /-- KEEP_ALIVE (R497): Keep Alive restarts the association's timer. -/
  | keepAlive (c : ConnIx) (cid : Nat)
  /-- KEEP_ALIVE_EXPIRY (R497): Keep-alive expires and the association is reset. -/
  | keepAliveExpiry (a : Fin 64)
  /-- CONNECTION_LOSS (R497): An I/O queue's TCP connection is lost and the queue is reset. -/
  | connectionLoss (c : ConnIx)
  /-- CONTROLLER_RESET (R497): CC.EN cleared or NVM Subsystem Reset resets the controller. -/
  | controllerReset (a : Fin 64) (subsystem : Bool)
  /-- FIRMWARE_DOWNLOAD (R530): Firmware Download is verified before commit. -/
  | firmwareDownload (c : ConnIx) (cid : Nat) (img : FwImage)
  /-- FIRMWARE_COMMIT_STORE (R498): Firmware Commit actions 0 to 2 store the image. -/
  | firmwareCommitStore (c : ConnIx) (cid : Nat) (action : Fin 3)
  /-- FIRMWARE_COMMIT_ACTIVATE (R498): Firmware Commit action 3 hands objects to the twin and activates the image. -/
  | firmwareCommitActivate (c : ConnIx) (cid : Nat)
  /-- FW_ACTIVATION_DRAIN_END (R498): At 2 s remaining commands complete and the controller resets. -/
  | fwActivationDrainEnd
  /-- SECURITY_RECEIVE (R508): Security Receive returns an SPDM response. -/
  | securityReceive (c : ConnIx) (cid : Nat) (protocol spsp : Nat)
  /-- GET_VERSION (R508): SPDM GET_VERSION is answered. -/
  | getVersion (c : ConnIx) (cid : Nat)
  /-- GET_CAPABILITIES (R508): SPDM GET_CAPABILITIES is answered. -/
  | getCapabilities (c : ConnIx) (cid : Nat)
  /-- NEGOTIATE_ALGORITHMS (R508): SPDM NEGOTIATE_ALGORITHMS is answered. -/
  | negotiateAlgorithms (c : ConnIx) (cid : Nat)
  /-- GET_DIGESTS (R508): SPDM GET_DIGESTS returns chain digests. -/
  | getDigests (c : ConnIx) (cid : Nat)
  /-- GET_CERTIFICATE (R508): SPDM GET_CERTIFICATE returns a chain. -/
  | getCertificate (c : ConnIx) (cid : Nat) (slot : Fin 8) (offset len : Nat)
  /-- CHALLENGE (R508): SPDM CHALLENGE is answered with a signature. -/
  | spdmChallenge (c : ConnIx) (cid : Nat) (slot : Fin 8) (nonce : List Nat)
  /-- GET_MEASUREMENTS (R509): SPDM GET_MEASUREMENTS returns signed measurements. -/
  | getMeasurements (c : ConnIx) (cid : Nat) (index : Fin 256) (nonce : List Nat)
  /-- SPDM_UNSUPPORTED (R508): Another SPDM request gets ERROR UnsupportedRequest. -/
  | spdmUnsupported (c : ConnIx) (cid : Nat)
  /-- TRUST_LOCK (R512): TRUST_CMD LOCK applies trust lock. -/
  | trustLock (path : Path)
  /-- SVN_COMMIT (R530): TRUST_CMD SVN_COMMIT blows fuses to the running SVN. -/
  | svnCommit (path : Path)
  /-- LEAVE (R513): TRUST_CMD LEAVE zeroises the domain material. -/
  | trustLeave (path : Path)
  /-- DOMAIN_CREATE (R515): TRUST_CMD DOMAIN_CREATE makes a new DRK on a manager. -/
  | domainCreate (path : Path)
  /-- ENROL_OFFER (R513): A mailbox ENROL_OFFER is verified and answered with ENROL_RESP. -/
  | enrolOffer (path : Path) (body : List Nat)
  /-- DRK_WRAP (R513): A mailbox DRK_WRAP is unwrapped, checked and sealed, answered with ENROL_DONE. -/
  | drkWrap (path : Path) (body : List Nat)
  /-- ENROL_TIMEOUT (R513): An enrolment not completed in 10 s is abandoned. -/
  | enrolTimeout
  /-- PSK_ADD (R527): A PSK_ADD message stores a PSK. -/
  | pskAdd (path : Path) (body : List Nat)
  /-- PSK_DEL (R527): A PSK_DEL message removes a PSK. -/
  | pskDel (path : Path) (body : List Nat)
  /-- NSKEY_RESTORE (R518): An NSKEY_RESTORE supplies a namespace's wrapped keys. -/
  | nskeyRestore (path : Path) (body : List Nat)
  /-- ERASE_CONFIRM (R523): An ERASE_CONFIRM makes the manager destroy its key copies. -/
  | eraseConfirm (path : Path) (body : List Nat)
  /-- ERASE_CONFIRM_RETRY (R523): An unconfirmed manager erase is retried every 10 s, with an event after 60 s. -/
  | eraseConfirmRetry
  /-- DRBG_RESEED (R506): After 2^20 requests the DRBG reseeds. -/
  | drbgReseed
  /-- ENTROPY_HEALTH_FAIL (R506): An entropy health test fails and no key is generated. -/
  | entropyHealthFail
  /-- LOAD_KEY_DERIVED (R519): A load key is derived into a media-crypto slot and waiting blocks proceed. -/
  | loadKeyDerived (ns load : Nat)
  /-- ENCRYPT_BLOCK (R522): A data block is encrypted and self-checked. -/
  | encryptBlock (lane : LaneOf) (zone : ZoneIx) (stripe : Nat) (engine : Fin 5) (checkOk : Bool)
  /-- ZONE_SEAL (R524): The zone writer makes the seal once every stripe is confirmed. -/
  | zoneSeal (lane : LaneOf) (zone : ZoneIx) (readBack : List Nat)
  /-- DEBUG_CHALLENGE_READ (R532): A debugger reads the unlock challenge. -/
  | debugChallengeRead
  /-- DEBUG_UNLOCK (R532): A valid signature hands over, zeroises keys and unlocks. -/
  | debugUnlock (sig : List Nat)
  /-- KEY_FLUSH (R536): A write of KEY_FLUSH clears every key slot. -/
  | keyFlush (path : Path)
  /-- T_FRAME_REFUSED (R540): A port T frame with a failed tag or old SEQ is discarded. -/
  | tFrameRefused (tagFails : Bool)
  /-- HELLO (R542): A HELLO of the same domain is answered with HELLO_AUTH. -/
  | helloMsg (h : THdr) (b : HelloBody)
  /-- HELLO_AUTH (R542): Accepting HELLO_AUTH completes pairing. -/
  | helloAuth (h : THdr) (serial boot : Nat)
  /-- HELLO_SEND (R542): Every 10 ms while unpaired, HELLO is sent. -/
  | helloSend
  /-- HEARTBEAT (R544): A HEARTBEAT keeps port T alive. -/
  | heartbeat (h : THdr) (chip tw staging : Nat) (msns : List Nat)
  /-- HEARTBEAT_SEND (R544): Every 100 µs while paired, HEARTBEAT is sent. -/
  | heartbeatSend
  /-- RELIABLE_RESEND (R541): A reliable message unacknowledged for 200 µs is resent. -/
  | reliableResend (cls : Fin 4)
  /-- TOKEN_OFFER (R547): A TOKEN_OFFER makes the receiver prepare to import or arm. -/
  | tokenOffer (h : THdr) (tok : TokenIx) (epoch : Nat)
  /-- EXPORT_MESSAGE (R547): An EXPORT message is imported and answered with TOKEN_TAKE. -/
  | exportMessage (h : THdr) (tok : TokenIx) (epoch : Nat) (b : ExportBody)
  /-- TOKEN_TAKE (R547): TOKEN_TAKE makes the releaser release the object. -/
  | tokenTake (h : THdr) (tok : TokenIx) (epoch : Nat)
  /-- TOKEN_DONE (R547): TOKEN_DONE completes a handover or reports its refusal. -/
  | tokenDone (h : THdr) (tok : TokenIx) (epoch result : Nat)
  /-- JOURNAL (R550): JOURNAL records are stored in the mirror area. -/
  | journalMsg (h : THdr) (recs : List JRec)
  /-- STAGE (R550): STAGE data is stored in staging. -/
  | stageMsg (h : THdr) (ns zone first : Nat) (lbas : List (List Nat))
  /-- STAGE_FREE (R550): STAGE_FREE frees mirrored stripes. -/
  | stageFree (h : THdr) (zone : Nat) (stripes : List Nat)
  /-- MIRROR_ACK (R550): MIRROR_ACK acknowledges mirror messages. -/
  | mirrorAck (h : THdr) (msn : Nat)
  /-- MEMBER (R551): A MEMBER message delivers a block for the twin to fire. -/
  | memberMsg (h : THdr) (head : HeadIx) (sa : Nat) (blk : Fin 4) (offset : Nat) (bytes : List Nat)
  /-- FIRE_REPORT (R551): FIRE_REPORT enters twin-fired settings into the journal. -/
  | fireReport (h : THdr) (head : HeadIx) (sa event segment : Nat) (verdict : Option Bool)
  /-- RELEASE_CONF (R370): RELEASE_CONF sets LOADER.TWIN_REL. -/
  | releaseConf (h : THdr) (wheel : WheelIx) (result : Nat)
  /-- FORWARD (R541): A FORWARD carries commands, keys or catalogue updates. -/
  | forwardMsg (h : THdr) (f : Forward)
  /-- WRITER (R548): WRITER makes the receiver zone writer of a namespace. -/
  | writerMsg (h : THdr) (ns side : Nat)
  /-- TWIN_STATE (R638): TWIN_STATE updates the twin's readiness and tokens. -/
  | twinState (h : THdr) (b : TwinState)
  /-- TWIN_STATE_SEND (R638): TWIN_STATE is sent on change or every 100 ms. -/
  | twinStateSend
  /-- TWIN_HB_PIN_LOST (R543): PIN_MISS edges are missed and the pin is lost. -/
  | twinHbPinLost
  /-- PORT_T_LOST (R544): T_HB_MISS periods pass without a frame and port T is lost. -/
  | portTLost
  /-- UNPLANNED_TAKEOVER (R546): With the twin absent, the survivor takes the twin's tokens. -/
  | unplannedTakeover
  /-- PARTITION_WITHDRAW (R545): In a partition side A withdraws within t_WD. -/
  | partitionWithdraw
  /-- PART_WAIT_EXPIRY (R545): Side B takes over after PART_WAIT. -/
  | partWaitExpiry
  /-- HO_GIVE (R547): HO_CMD give hands tokens to the twin. -/
  | hoGive (path : Path) (tok : Fin 64)
  /-- HO_RETURN (R549): HO_CMD return hands back objects to SPLIT owners. -/
  | hoReturn (path : Path) (tok : Fin 64)
  /-- AUTO_RETURN (R549): When the twin is ready, objects return automatically. -/
  | autoReturn
  /-- WRITER_MOVE (R548): When MIRROR_LAG is 0, WRITER is sent. -/
  | writerMove (ns : Nat)
  /-- CONFLICT_RESOLUTION (R552): An ownership conflict is resolved by epoch and SPLIT. -/
  | conflictResolution (tok : TokenIx)
  /-- ANNOUNCE_SEND (R554): A worker sends ANNOUNCE every 200 ms. -/
  | announceSend
  /-- ANNOUNCE (R554): The manager opens a session and registers the worker. -/
  | announceMsg (b : AnnounceBody) (block : List Word)
  /-- NO_MANAGER_TIMEOUT (R554): With no manager for 60 s, an event is raised. -/
  | noManagerTimeout
  /-- REG_ACK (R554): A write of REG_ACK sets REGISTERED. -/
  | regAck (path : Path) (value : Word)
  /-- WORKER_POLL (R555): Every 1 s the manager reads registration blocks. -/
  | workerPoll (shelf : Fin 64) (side : Side) (block : Option (List Word))
  /-- SHELF_POWER_CYCLE (R555): After WMISS_PC the manager power-cycles a missing shelf. -/
  | shelfPowerCycle (shelf : Fin 64)
  /-- PMBUS_TRANSACTION_DONE (R556): A PMBus transaction completes or fails. -/
  | pmbusTransactionDone (ok : Bool) (status : Nat)
  /-- PWR_CMD_ON (R556): PWR_CMD on powers a shelf or queues it. -/
  | pwrCmdOn (path : Path) (shelf : Fin 64)
  /-- PWR_CMD_SOFT_OFF (R556): PWR_CMD soft off turns off a shelf in PS4. -/
  | pwrCmdSoftOff (path : Path) (shelf : Fin 64)
  /-- PWR_CMD_POWER_CYCLE (R556): PWR_CMD power cycle cycles a shelf. -/
  | pwrCmdPowerCycle (path : Path) (shelf : Fin 64)
  /-- POWER_ON_DEQUEUE (R556): A queued power-on starts when the budget allows. -/
  | powerOnDequeue
  /-- STAGE_REQ (R557): A write of STAGE_REQ_HI issues Stage Load. -/
  | stageReq (path : Path) (value : Word)
  /-- PORST_N_RELEASE (R563): PORST_N release starts bring-up. -/
  | porstNRelease (straps : Straps) (trim : TrimSources) (holdup : Bool) (keys : Bool × Bool)
  /-- BOOT_HOLD_EXPIRY (R565): After BOOT_HOLD with the twin absent, every token is taken. -/
  | bootHoldExpiry
  /-- FATAL_RESET (R566): FATAL_HOLD after a fatal event, the controller resets itself. -/
  | fatalReset
  /-- SELF_TEST_START (R578): ST starts an object's test in an idle slot. -/
  | selfTestStart (test : TestIx) (kind : TestKind)
  /-- SELF_TEST_DONE (R581): A test of an object ends and coverage is written. -/
  | selfTestDone (test : TestIx) (kind : TestKind) (pass : Bool)
  /-- SELF_TEST_EARLY_END (R581): A test ends early and the object returns. -/
  | selfTestEarlyEnd (test : TestIx) (why : EarlyEnd)
  /-- PASS_OVERDUE (R579): A pass running ST_PERIOD hours is overdue. -/
  | passOverdue (test : TestIx)
  /-- FORCED_TEST_TICK (R579): Every 10 powered minutes an overdue pass forces an object. -/
  | forcedTestTick (test : TestIx)
  /-- TEST_REQ (R580): TEST_REQ without FORCE requests a test. -/
  | testReq (path : Path) (test : Fin 16) (page : Fin 4096) (cell : Fin 256)
  /-- TEST_REQ_FORCE (R580): TEST_REQ with FORCE takes the object at once. -/
  | testReqForce (path : Path) (test : Fin 16) (page : Fin 4096) (cell : Fin 256)
  /-- WATCHDOG_EXPIRY (R583): A core's watchdog expires and its task group restarts on a spare. -/
  | watchdogExpiry (core : Fin 10)
  /-- OVERLOAD_ENTER (R586): LOAD above OVL_ON for 10 ms enters overload. -/
  | overloadEnter (load : Nat)
  /-- OVERLOAD_LEAVE (R586): LOAD below OVL_OFF for 100 ms leaves overload. -/
  | overloadLeave (load : Nat)
  /-- POWERED_TIME_SAVE (R576): Every 60 s POWERED_S is written. -/
  | poweredTimeSave
  /-- EVENT_RAISED (R592): An event becomes a record: stored, folded, overwriting, or dropped. -/
  | eventRaised
  /-- WIN_CURSOR (R598): A write of WIN_CURSOR moves the path's cursor. -/
  | winCursor (path : Path) (seq : Word)
  /-- WIN_DATA (R598): A read of WIN_DATA returns the next record word. -/
  | winData (path : Path)
  /-- ER_CLEAR_LOG (R600): ER_CLEAR 0x0000_C1EA clears the log. -/
  | erClearLog (path : Path)
  /-- ER_CLEAR_MIRROR (R600): ER_CLEAR 0x0001_C1EA clears log and mirror. -/
  | erClearMirror (path : Path)
  /-- MIRROR_WRITE_DONE (R601): An event mirror write completes or fails. -/
  | mirrorWriteDone (ok : Bool)
  /-- MIRROR_RETRY (R601): 10 ms after a failure, the mirror write is retried. -/
  | mirrorRetry
  /-- QUEUE_ITEM_WRITE (R606): An item enters a queue or is dropped behind a gap marker. -/
  | queueItemWrite (q : QueueIx)
  /-- TELEMETRY_PERIOD (R602): Every PERIOD a telemetry item is written. -/
  | telemetryPeriod (q : QueueIx)
  /-- OQ_WIN (R605): A read of OQ_WIN consumes the next item by priority. -/
  | oqWin (path : Path)
  /-- Q_FLUSH (R607): Q_FLUSH requests a flush of one queue. -/
  | qFlush (path : Path) (q : QueueIx)
  /-- Q_FLUSH_ALL (R607): Q_FLUSH ALL requests a flush of every queue. -/
  | qFlushAll (path : Path)
  /-- Q_FLUSH_EFFECT (R607): At the next packet boundary the flush discards complete items. -/
  | qFlushEffect (q : QueueIx)
  /-- PWRGD_FALL (R620): A PWRGD falls for over 1 µs and the chip resets. -/
  | pwrgdFall
  /-- THERMAL_TRIP (R635): DIE_TEMP at 115 °C for 1 ms trips the chip. -/
  | thermalTrip
  /-- THERMAL_TRIP_END (R635): Below 100 °C bring-up runs again. -/
  | thermalTripEnd (temp : BitVec 12)
  /-- TEMP_ALARM (R62): DIE_TEMP reaches TEMP_ALARM. -/
  | tempAlarm (temp : BitVec 12)
  /-- HBM_OVERTEMP (R635): A stack exceeds its rated temperature. -/
  | hbmOvertemp (k : StackIx)
  /-- PORST_N_ASSERTION (R30): PORST_N falls; the chip enters reset and drives every OWN, CLAMPw_REL, gate and loader EN output to its deasserted level. -/
  | porstNAssertion
  /-- TWIN_HB_OUT_TOGGLE (R543): Every 1.000 ms, while running and with MC watchdog and CE reporting, TWIN_HB_OUT toggles. -/
  | twinHbOutToggle
  /-- TWIN_HB_IN_EDGE (R543): An edge arrives at TWIN_HB_IN, keeping or making the twin's pin alive and ending a pin fault. -/
  | twinHbInEdge
  /-- LD_OWNX_FALL (R547): LD_OWNX falls during a loader handover and the receiver asserts LD_OWN. -/
  | ldOwnxFall
  /-- CLAMP_SENSE_TIMEOUT (R371): CLAMPw_SNS has not read high within 1 s of CLAMP in a mount or recovery, so the mount fails with 0x7308. -/
  | clampSenseTimeout (w : WheelIx)
  /-- NAMESPACE_KEY_ACK_TIMEOUT (R518): Neither twin nor manager acknowledges the wrapped keys within 1 s, so the create completes with Internal Error and the keys are destroyed. -/
  | namespaceKeyAckTimeout (ns : Nat)
  /-- CATALOGUE_WAIT_EXPIRY (R569): A Namespace Management, Stage Load or Unmount Load waiting for the catalogue for 1 s completes with Command Interrupted. -/
  | catalogueWaitExpiry (c : ConnIx) (cid : Nat)
  /-- ASYNCHRONOUS_EVENT_REQUEST (R499): The host's Asynchronous Event Request command is held until the controller posts one of the events of R499 on it. -/
  | asynchronousEventRequest (c : ConnIx) (cid : Nat)
  /-- HB_CNT_TICK (R562): Every 100 ms HY.HB_CNT advances. -/
  | hbCntTick
  /-- TEMP_ALARM_CLEAR (R628): DIE_TEMP falls below TEMP_ALARM and ALERT_N returns high when no other cause holds. -/
  | tempAlarmClear (temp : BitVec 12)
  deriving DecidableEq, Repr

end Sys2Proof
end

