-- ==== Sys2Proof/Config.lean ====
section
/-!
DEFINITION. What an implementation fixes and what the spec leaves open. An opaque constant has no
body that a proof can see: a statement about it holds whatever its value (log entry 2).
-/
namespace Sys2Proof.Config

/-- The n-th free value: a value that the spec leaves open (log entry 2). -/
opaque freeValue : Nat → Nat

/-- Depth of a data-class FIFO in items beyond its first (R42 gives none; a FIFO holds at least one), by the crossing's key. -/
opaque fifoDepth : Nat → Nat

/-- Reset value of a control-class receiver (R43 names it and gives no number), by the crossing's key. -/
opaque receiverReset : Nat → Nat

/-- What an item on its way to the spine is (R37, R46; no rule lays items out): the output port that it goes to, its class
(0 urgent, 1 data, 2 background), and which of the blocks on that port takes it, by the crossing's key and the item. -/
opaque spinePort : Nat → Nat → Nat
opaque spineClass : Nat → Nat → Nat
opaque spineBlock : Nat → Nat → Nat

/-- To which of the blocks that share a clock island a crossing of that island belongs (R55 speaks of the crossings of an
object; no rule lists them), by the crossing's key and the island. -/
opaque xingBlock : Nat → Nat → Nat

/-- The task group of MC that executes an admin command (R583 names the groups and gives no assignment), by its connection
and command identifier. -/
opaque adminGroup : Nat → Nat → Nat

/-- Spare SRAM rows of a memory block in all (R488 reports them; no rule gives their number). -/
opaque sramSpares : Nat → Nat

/-- The transmit preset that the controller asks for on an upstream link lane (R163 gives the request and no choice), by
head and lane (log entry 144). -/
opaque presetAsk : Nat → Nat → Nat

/-- Bytes of an Identify data structure (by its CNS) and of the SMART log (page 0x102) that no rule of R465 and R489 gives. -/
opaque hostByte : Nat → Nat → Nat

/-- Where the loader's X and Z stand at a store slot, and the store slot of a sagger by its serial (R371 names store slots; no
rule places them; log entry 164). -/
opaque storeX : Nat → Int
opaque storeZ : Nat → Int
opaque storeSlot : Nat → Nat

/-- Coefficients of the interpolator's polyphase filter (R174 gives its taps and phases and no values), in units of
2^-14: by phase 0 to 63 and tap 0 to 7, tap 0 for the newest sample (log entry 141). -/
opaque interpTap : Nat → Nat → Int

/-- How far one unit of a phase error moves the timing loop, in 2^-48 of a channel bit (R175 gives the shifts and no
unit; log entry 141). -/
opaque timingUnit : Int

/-- How long a planned handover of one object may take, in nanoseconds, before it is given up (log entry 168). -/
opaque hoLimit : Nat

/-- The body of a port T message of an MTYPE whose bytes no rule lays out, sent with a SEQ (log entry 168). -/
opaque portTBody : Nat → Nat → List Nat

/-- Seconds since 1970 at the bring-up with a boot number: no rule says where the controller has the time of
day from (log entry 2). -/
opaque utcStart : Nat → Nat

/-! Cryptographic functions by name (log entry 3): the spec fixes each by a standard that it does not
restate. Keys are named by numbers. -/

/-- AES-256-GCM sealing: key, nonce, additional data, plaintext; ciphertext and tag, as bytes. -/
opaque gcmSeal : Nat → Nat → List Nat → List Nat → List Nat × Nat

/-- AES-256-GCM opening: the plaintext, whatever the tag. -/
opaque gcmOpen : Nat → Nat → List Nat → List Nat → List Nat

/-- HKDF-SHA-384 with 32 bytes of output, as a key: input key, salt, info. -/
opaque hkdf : Nat → List Nat → List Nat → Nat

/-- SHA-384 of a list of bytes: 48 bytes. -/
opaque sha384 : List Nat → List Nat

/-- AES key wrap: wrapping key, key; 40 bytes. -/
opaque keyWrap : Nat → Nat → List Nat

/-- AES key unwrap: wrapping key, 40 bytes; none when the check fails. -/
opaque keyUnwrap : Nat → List Nat → Option Nat

/-- Key check value of a key: 8 bytes as a number. -/
opaque kcv : Nat → Nat

/-- ECDSA P-384 signature with a key over bytes: 96 bytes. -/
opaque sign : Nat → List Nat → List Nat

/-- ECDSA P-384 verification: public key, bytes, signature. -/
opaque verify : List Nat → List Nat → List Nat → Bool

/-- ECDH P-384: own private key, the other's public key; a shared secret. -/
opaque ecdh : Nat → List Nat → Nat

/-- The public key of a private key. -/
opaque publicKey : Nat → List Nat

/-- The Waenvik firmware signing key whose digest the boot ROM holds (R529). -/
opaque firmwareKey : List Nat

/-- HMAC-SHA-384 under a key over bytes: 48 bytes. -/
opaque hmac : Nat → List Nat → List Nat

/-- The public key that a SHA-384 digest belongs to. -/
opaque keyOfDigest : List Nat → List Nat

/-- This controller's serial, identity key (private) and hardware unique key (R505). -/
opaque serial : Nat
opaque identityKey : Nat
opaque huk : Nat

/-- The certificate chain of the controller with a serial: Waenvik root, device CA, identity certificate (R508). -/
opaque certChain : Nat → List Nat

/-- The boot ROM and the image that a controller leaves the factory with, as bytes (R509, R529). -/
opaque bootRom : List Nat
opaque factoryImage : List Nat

/-- Version and SVN of that image (R529). -/
opaque factoryVersion : Nat
opaque factorySvn : Nat

/-- The words of the trim store's ROM defaults that the rules do not give (R568), by word. -/
opaque romTrim : Nat → Nat

/-- The Waenvik debug key held in ROM (R532). -/
opaque debugKey : List Nat

/-- The controller's identity certificate (R120, R505), as bytes. -/
opaque identityCert : List Nat

end Sys2Proof.Config
end

