-- ==== Sys2Proof/Machine/RegTypes.lean ====
section
/-!
DEFINITION. What a register field is: its place on a page, its width, its access type and its reset
value (R10-R12 of 00_scope.md, R53-R54 of 03_register_pages_and_stebaro.md).
-/
namespace Sys2Proof.Machine

/-- The access types of R11. -/
inductive Access where
  | rw | ro | wo | w1c | rc | rwl
  deriving DecidableEq, Repr

/-- One field of a register page, or `count` like fields `stride` bytes apart.
`cust` marks a custodian-only field (R87 and the pages' own tables). -/
structure Fld where
  off : Nat
  lsb : Nat
  width : Nat
  acc : Access
  reset : Nat
  count : Nat := 1
  stride : Nat := 4
  cust : Bool := false
  deriving DecidableEq, Repr

/-- The kinds of page of R53, the common header set apart, and the areas of the two windows that
hold fields (R70, R279, R280, R290). -/
inductive PageKind where
  | chip | rdy | ck | st | er | te | tw | hy | mc | trim | region | head | band | wheel | loader
  | kick | motion | ctrleng | ldpc | outer | mediacrypt | hbm | setter | ecctab | stripe | journal
  | eth | nvme | tls | stebaro | obsq | ceslot | fire | firestat
  deriving DecidableEq, Repr

/-- The index of a field's copy at a byte offset of the page, if the field lies there. -/
def Fld.indexAt (f : Fld) (o : Nat) : Option Nat :=
  if o < f.off then none
  else if f.count = 1 then (if o = f.off then some 0 else none)
  else
    let i := (o - f.off) / f.stride
    if f.off + f.stride * i = o ∧ i < f.count then some i else none

/-- The key of a field's copy in the field store: register address times 32, plus the field's least
significant bit. -/
def fldKey (base : Nat) (f : Fld) (i : Nat) : Nat := (base + f.off + f.stride * i) * 32 + f.lsb

end Sys2Proof.Machine
end

