-- ==== Sys2Proof/Machine/RegsChip.lean ====
section
/-!
DEFINITION. Fields of the common header and of the REGION, CHIP, RDY, CK and STEBARO pages (chapters 02 and 03).
-/

namespace Sys2Proof.Machine.HDR

/-! Fields of the common header of every page (R54 of 03_register_pages_and_stebaro.md). -/

/-- Region, kind, item, layout version -/
def PG_ID : Fld :=
  { off := 0x000, lsb := 0, width := 32, acc := .ro, reset := 0x0 }
/-- Block revision; BASE[15:8], METAL[7:0] -/
def PG_REV : Fld :=
  { off := 0x004, lsb := 0, width := 32, acc := .ro, reset := 0x101 }
/-- The page's object is usable -/
def READY : Fld :=
  { off := 0x008, lsb := 0, width := 1, acc := .ro, reset := 0x0 }
/-- Running below full function -/
def DEGRADED : Fld :=
  { off := 0x008, lsb := 1, width := 1, acc := .ro, reset := 0x0 }
/-- Out of service for good -/
def RETIRED : Fld :=
  { off := 0x008, lsb := 2, width := 1, acc := .ro, reset := 0x0 }
/-- Units in progress -/
def BUSY : Fld :=
  { off := 0x008, lsb := 3, width := 1, acc := .ro, reset := 0x0 }
/-- Level code of the object -/
def LEVEL : Fld :=
  { off := 0x008, lsb := 4, width := 4, acc := .ro, reset := 0x0 }
/-- Spares substituted -/
def SPARES_USED : Fld :=
  { off := 0x008, lsb := 8, width := 8, acc := .ro, reset := 0x0 }
/-- Spares still available -/
def SPARES_LEFT : Fld :=
  { off := 0x008, lsb := 16, width := 8, acc := .ro, reset := 0x0 }
/-- 0 drains the object as QUIESCE does, then stops it; writes are ignored on CHIP, RDY, CK and TRIM -/
def ENABLE : Fld :=
  { off := 0x00C, lsb := 0, width := 1, acc := .rw, reset := 0x1 }
/-- Finish units in progress; accept no new work -/
def QUIESCE : Fld :=
  { off := 0x00C, lsb := 1, width := 1, acc := .rw, reset := 0x0 }
/-- Isolation under R50 -/
def ISOLATE : Fld :=
  { off := 0x00C, lsb := 2, width := 1, acc := .rw, reset := 0x0 }
/-- Write 1 to reset the object; reads 1 until the reset completes -/
def SOFT_RESET : Fld :=
  { off := 0x00C, lsb := 3, width := 1, acc := .rw, reset := 0x0 }
/-- The self-test orchestrator may take this object's cells -/
def TEST_PERMIT : Fld :=
  { off := 0x00C, lsb := 8, width := 1, acc := .rw, reset := 0x1 }
/-- PG_ISTAT: 0 READY_CHG, 1 CORRECTED, 2 UNCORRECTED, 3 SPARE_USED, 4 SPARE_EXH, 5 TEST_DONE, 6 ACCESS_REFUSED, 31:8 page bits; bit 7 reserved -/
def ISTAT : Fld :=
  { off := 0x010, lsb := 0, width := 32, acc := .w1c, reset := 0x0 }
/-- Bit n enables PG_ISTAT bit n -/
def PG_IEN : Fld :=
  { off := 0x014, lsb := 0, width := 32, acc := .rw, reset := 0x0 }
/-- Corrected errors, saturating at 0xFFFF_FFFF -/
def PG_ECNT_C : Fld :=
  { off := 0x018, lsb := 0, width := 32, acc := .rc, reset := 0x0 }
/-- Uncorrected errors, saturating at 0xFFFF_FFFF -/
def PG_ECNT_U : Fld :=
  { off := 0x01C, lsb := 0, width := 32, acc := .rc, reset := 0x0 }
/-- Event code of the last error; 0x0000 for classes 3 to 6 and 8 (R57) -/
def LAST_ERR_CODE : Fld :=
  { off := 0x020, lsb := 0, width := 16, acc := .ro, reset := 0x0 }
/-- 0 none, 1 corrected, 2 uncorrected, 3 lock refusal, 4 owner refusal, 5 role refusal, 6 access fault, 7 spare failed, 8–15 page-defined -/
def LAST_ERR_CLASS : Fld :=
  { off := 0x020, lsb := 16, width := 4, acc := .ro, reset := 0x0 }
/-- Cell index within the object, or 0xFF for none -/
def LAST_ERR_CELL : Fld :=
  { off := 0x020, lsb := 20, width := 8, acc := .ro, reset := 0x0 }
/-- Set by the first error after reset -/
def LAST_ERR_VALID : Fld :=
  { off := 0x020, lsb := 31, width := 1, acc := .ro, reset := 0x0 }
/-- This device owns the object -/
def OWN_SELF : Fld :=
  { off := 0x024, lsb := 0, width := 1, acc := .ro, reset := 0x1 }
/-- The twin owns the object -/
def OWN_TWIN : Fld :=
  { off := 0x024, lsb := 1, width := 1, acc := .ro, reset := 0x0 }
/-- Ownership transfer in progress -/
def XFER_PENDING : Fld :=
  { off := 0x024, lsb := 2, width := 1, acc := .ro, reset := 0x0 }
/-- Page lock; custodian only -/
def LOCK : Fld :=
  { off := 0x028, lsb := 0, width := 1, acc := .rw, reset := 0x0, cust := true }
/-- Copy of CHIP.TRUST_STAT.TRUST_LOCKED -/
def TRUST_LOCKED : Fld :=
  { off := 0x028, lsb := 1, width := 1, acc := .ro, reset := 0x0 }
/-- Change counter; wraps -/
def PG_SEQ : Fld :=
  { off := 0x02C, lsb := 0, width := 32, acc := .ro, reset := 0x0 }

/-- Part 0 of the page's fields. -/
def fields0 : List Fld :=
  [PG_ID, PG_REV, READY, DEGRADED,
   RETIRED, BUSY, LEVEL, SPARES_USED,
   SPARES_LEFT, ENABLE, QUIESCE, ISOLATE,
   SOFT_RESET, TEST_PERMIT, ISTAT, PG_IEN,
   PG_ECNT_C, PG_ECNT_U, LAST_ERR_CODE, LAST_ERR_CLASS,
   LAST_ERR_CELL, LAST_ERR_VALID, OWN_SELF, OWN_TWIN,
   XFER_PENDING, LOCK, TRUST_LOCKED, PG_SEQ]

/-- Every field of the page, in the order of its table. -/
def fields : List Fld := fields0

end Sys2Proof.Machine.HDR

namespace Sys2Proof.Machine.REGION

/-! Fields of REGION[r] (R51 of 02_architecture_and_islands.md). -/

/-- Bit n = 1: block n ready under R637 (R34 block index) -/
def RG_BLK_STAT : Fld :=
  { off := 0x040, lsb := 0, width := 32, acc := .ro, reset := 0x0 }
/-- Bit n = 1: block n isolated -/
def RG_BLK_ISOL : Fld :=
  { off := 0x044, lsb := 0, width := 32, acc := .ro, reset := 0x0 }
/-- Region isolates blocks under R47 without MC intervention -/
def AUTO_ISOLATE : Fld :=
  { off := 0x048, lsb := 0, width := 1, acc := .rwl, reset := 0x1 }
/-- Region re-routes work of an isolated block -/
def AUTO_REROUTE : Fld :=
  { off := 0x048, lsb := 1, width := 1, acc := .rwl, reset := 0x1 }
/-- Reports that pass up reach the chip level; 0 holds them for MC -/
def CHIP_ESC_EN : Fld :=
  { off := 0x048, lsb := 2, width := 1, acc := .rwl, reset := 0x1 }
/-- Data-class weight of the region's spine port n, at 0x050 + 4n, n = 0 to 7; n counts the spine ports that R37 assigns to the region, in ascending port number; 0 means 1 -/
def RG_SPW_WEIGHT_DATA : Fld :=
  { off := 0x050, lsb := 0, width := 8, acc := .rw, reset := 0x8, count := 8, stride := 4 }
/-- Background-class weight; 0 means 1 -/
def RG_SPW_WEIGHT_BG : Fld :=
  { off := 0x050, lsb := 8, width := 8, acc := .rw, reset := 0x1, count := 8, stride := 4 }
/-- Background floor in percent of grants, 0 to 100; larger values act as 100 -/
def RG_SPW_BG_FLOOR : Fld :=
  { off := 0x050, lsb := 16, width := 7, acc := .rw, reset := 0x5, count := 8, stride := 4 }
/-- Saturating count of data-class items discarded by RESYNC at crossings received in this region -/
def RG_XING_DROP : Fld :=
  { off := 0x070, lsb := 0, width := 32, acc := .rc, reset := 0x0 }
/-- Saturating count of completed RESYNC handshakes -/
def RG_RESYNC_CNT : Fld :=
  { off := 0x074, lsb := 0, width := 16, acc := .rc, reset := 0x0 }
/-- Number of control-class receivers in this region with their stale flag set -/
def RG_STALE_NOW : Fld :=
  { off := 0x074, lsb := 16, width := 16, acc := .ro, reset := 0x0 }
/-- Region power estimate in units of 0.1 W, updated every 1 ms -/
def RG_PWR_W : Fld :=
  { off := 0x078, lsb := 0, width := 16, acc := .ro, reset := 0x0 }
/-- For the last report passed up from this region: the event code that the receiving level raised for its outcome, for example 0xg202 for a beam declared dead; written together with LEVEL when that level has acted -/
def RG_LAST_ESC_CODE : Fld :=
  { off := 0x07C, lsb := 0, width := 16, acc := .ro, reset := 0x0 }
/-- Level code of R33 to which it passed; written with CODE -/
def RG_LAST_ESC_LEVEL : Fld :=
  { off := 0x07C, lsb := 16, width := 4, acc := .ro, reset := 0x0 }

/-- Part 0 of the page's fields. -/
def fields0 : List Fld :=
  [RG_BLK_STAT, RG_BLK_ISOL, AUTO_ISOLATE, AUTO_REROUTE,
   CHIP_ESC_EN, RG_SPW_WEIGHT_DATA, RG_SPW_WEIGHT_BG, RG_SPW_BG_FLOOR,
   RG_XING_DROP, RG_RESYNC_CNT, RG_STALE_NOW, RG_PWR_W,
   RG_LAST_ESC_CODE, RG_LAST_ESC_LEVEL]

/-- Every field of the page, in the order of its table. -/
def fields : List Fld := fields0

end Sys2Proof.Machine.REGION

namespace Sys2Proof.Machine.CHIP

/-! Fields of CHIP (R62 of 03_register_pages_and_stebaro.md). -/

/-- Part identity -/
def CHIP_ID : Fld :=
  { off := 0x040, lsb := 0, width := 32, acc := .ro, reset := 0x6633 }
/-- Version of the running firmware; written at verification -/
def FW_VER : Fld :=
  { off := 0x044, lsb := 0, width := 32, acc := .ro, reset := 0x0 }
/-- 0 worker, 1 manager -/
def ROLE : Fld :=
  { off := 0x048, lsb := 0, width := 1, acc := .ro, reset := 0x0 }
/-- 0 side A, 1 side B -/
def SIDE : Fld :=
  { off := 0x048, lsb := 1, width := 1, acc := .ro, reset := 0x0 }
/-- Shelf number -/
def SHELF_ID : Fld :=
  { off := 0x048, lsb := 2, width := 6, acc := .ro, reset := 0x0 }
/-- As strapped; meaning in the chapter Bring-up, Readiness and Self-Repair -/
def BOOT_SRC : Fld :=
  { off := 0x048, lsb := 8, width := 1, acc := .ro, reset := 0x0 }
/-- 0 reset, 1 booting, 2 running, 3 degraded, 4 quiescing, 5 handed over, 6 fatal; 7–15 reserved -/
def STATE : Fld :=
  { off := 0x04C, lsb := 0, width := 4, acc := .ro, reset := 0x1 }
/-- Event code of the fatal event; 0 otherwise -/
def FATAL_CODE : Fld :=
  { off := 0x04C, lsb := 16, width := 16, acc := .ro, reset := 0x0 }
/-- Trust lock applied -/
def TRUST_LOCKED : Fld :=
  { off := 0x050, lsb := 0, width := 1, acc := .ro, reset := 0x0 }
/-- JTAG unlocked by signed challenge -/
def DEBUG_UNLOCKED : Fld :=
  { off := 0x050, lsb := 1, width := 1, acc := .ro, reset := 0x0 }
/-- Member of a Plombisar domain -/
def DOMAIN_ENROLLED : Fld :=
  { off := 0x050, lsb := 2, width := 1, acc := .ro, reset := 0x0 }
/-- Bits [31:0] of ns since bring-up; a read latches TIME_HI for the same path -/
def TIME_LO : Fld :=
  { off := 0x054, lsb := 0, width := 32, acc := .ro, reset := 0x0 }
/-- Bits [63:32], as latched -/
def TIME_HI : Fld :=
  { off := 0x058, lsb := 0, width := 32, acc := .ro, reset := 0x0 }
/-- Power-cycle count used in event headers -/
def PWR_CYCLES : Fld :=
  { off := 0x05C, lsb := 0, width := 32, acc := .ro, reset := 0x0 }
/-- Hottest sensor, signed, 0.125 °C per LSB -/
def DIE_TEMP : Fld :=
  { off := 0x060, lsb := 0, width := 12, acc := .ro, reset := 0x0 }
/-- Peak since bring-up, same format -/
def DIE_TEMP_PEAK : Fld :=
  { off := 0x060, lsb := 16, width := 12, acc := .ro, reset := 0x0 }
/-- Threshold for page bit 9; reset 90.0 °C -/
def TEMP_ALARM : Fld :=
  { off := 0x064, lsb := 0, width := 12, acc := .rw, reset := 0x2D0 }
/-- Free for software -/
def SCRATCH0 : Fld :=
  { off := 0x068, lsb := 0, width := 32, acc := .rw, reset := 0x0 }
/-- Free for software -/
def SCRATCH1 : Fld :=
  { off := 0x06C, lsb := 0, width := 32, acc := .rw, reset := 0x0 }
/-- Custodian only. 0x0000_A5A5: planned handover to the twin, then reset. 0x0000_5A5A: immediate reset. Other values are refused with CLASS 8 -/
def CHIP_RESET : Fld :=
  { off := 0x070, lsb := 0, width := 32, acc := .wo, reset := 0x0, cust := true }

/-- Part 0 of the page's fields. -/
def fields0 : List Fld :=
  [CHIP_ID, FW_VER, ROLE, SIDE,
   SHELF_ID, BOOT_SRC, STATE, FATAL_CODE,
   TRUST_LOCKED, DEBUG_UNLOCKED, DOMAIN_ENROLLED, TIME_LO,
   TIME_HI, PWR_CYCLES, DIE_TEMP, DIE_TEMP_PEAK,
   TEMP_ALARM, SCRATCH0, SCRATCH1, CHIP_RESET]

/-- Every field of the page, in the order of its table. -/
def fields : List Fld := fields0

end Sys2Proof.Machine.CHIP

namespace Sys2Proof.Machine.RDY

/-! Fields of RDY (R64 of 03_register_pages_and_stebaro.md). -/

/-- Firmware signature verified -/
def FW_VERIFIED : Fld :=
  { off := 0x040, lsb := 0, width := 1, acc := .ro, reset := 0x0 }
/-- MC running -/
def MC_RUN : Fld :=
  { off := 0x040, lsb := 1, width := 1, acc := .ro, reset := 0x0 }
/-- Port M link up -/
def PORT_M : Fld :=
  { off := 0x040, lsb := 2, width := 1, acc := .ro, reset := 0x0 }
/-- Stack 0 trained -/
def HBM0_TRAINED : Fld :=
  { off := 0x040, lsb := 3, width := 1, acc := .ro, reset := 0x0 }
/-- Stack 1 trained -/
def HBM1_TRAINED : Fld :=
  { off := 0x040, lsb := 4, width := 1, acc := .ro, reset := 0x0 }
/-- Stack 0 zero-fill complete -/
def HBM0_FILLED : Fld :=
  { off := 0x040, lsb := 5, width := 1, acc := .ro, reset := 0x0 }
/-- Stack 1 zero-fill complete -/
def HBM1_FILLED : Fld :=
  { off := 0x040, lsb := 6, width := 1, acc := .ro, reset := 0x0 }
/-- Host admin ready -/
def ADMIN : Fld :=
  { off := 0x040, lsb := 7, width := 1, acc := .ro, reset := 0x0 }
/-- Link up, one bit per port -/
def PORT_P0 : Fld :=
  { off := 0x040, lsb := 8, width := 1, acc := .ro, reset := 0x0 }
/-- Link up, one bit per port -/
def PORT_P1 : Fld :=
  { off := 0x040, lsb := 9, width := 1, acc := .ro, reset := 0x0 }
/-- Link up, one bit per port -/
def PORT_T : Fld :=
  { off := 0x040, lsb := 10, width := 1, acc := .ro, reset := 0x0 }
/-- CE programme loaded -/
def CE_LOADED : Fld :=
  { off := 0x040, lsb := 11, width := 1, acc := .ro, reset := 0x0 }
/-- Token protocol running with the twin -/
def TWIN_PAIRED : Fld :=
  { off := 0x040, lsb := 12, width := 1, acc := .ro, reset := 0x0 }
/-- Journal replay complete -/
def JOURNAL_REPLAYED : Fld :=
  { off := 0x040, lsb := 13, width := 1, acc := .ro, reset := 0x0 }
/-- Catalogue cache loaded -/
def CATALOGUE : Fld :=
  { off := 0x040, lsb := 14, width := 1, acc := .ro, reset := 0x0 }
/-- Domain keys available -/
def DOMAIN : Fld :=
  { off := 0x040, lsb := 15, width := 1, acc := .ro, reset := 0x0 }
/-- Loader homed -/
def LOADER_HOMED : Fld :=
  { off := 0x040, lsb := 16, width := 1, acc := .ro, reset := 0x0 }
/-- Kick elevator homed -/
def ELEVATOR_HOMED : Fld :=
  { off := 0x040, lsb := 17, width := 1, acc := .ro, reset := 0x0 }
/-- Stebaro accepting sessions -/
def STEBARO : Fld :=
  { off := 0x040, lsb := 18, width := 1, acc := .ro, reset := 0x0 }
/-- Bit h: H(h) ready, h = 0 to 31 -/
def HEAD_LO : Fld :=
  { off := 0x044, lsb := 0, width := 32, acc := .ro, reset := 0x0 }
/-- H32 ready -/
def HEAD_HI : Fld :=
  { off := 0x048, lsb := 0, width := 1, acc := .ro, reset := 0x0 }
/-- Bit w: W(w) at commanded speed -/
def WHEEL_SPEED : Fld :=
  { off := 0x04C, lsb := 0, width := 9, acc := .ro, reset := 0x0 }
/-- Bit w: CLAMPw_SNS high -/
def WHEEL_CLAMPED : Fld :=
  { off := 0x04C, lsb := 16, width := 9, acc := .ro, reset := 0x0 }
/-- Bit s: lane s accepts I/O under R28 -/
def LANE_IO : Fld :=
  { off := 0x050, lsb := 0, width := 4, acc := .ro, reset := 0x0 }
/-- Bit s: all eight members of lane s ready -/
def LANE_FULL : Fld :=
  { off := 0x050, lsb := 4, width := 4, acc := .ro, reset := 0x0 }
/-- Zero-fill progress of stack 0 in units of 1/1,000; 1,000 when complete -/
def FILL0 : Fld :=
  { off := 0x054, lsb := 0, width := 10, acc := .ro, reset := 0x0 }
/-- As FILL0, stack 1 -/
def FILL1 : Fld :=
  { off := 0x054, lsb := 16, width := 10, acc := .ro, reset := 0x0 }
/-- µs after PORST_N release at which milestone n first became ready: 0 FW_VERIFIED, 1 MC_RUN, 2 PORT_M, 3 both stacks trained, 4 both stacks filled, 5 ADMIN, 6 CE_LOADED, 7 LOADER_HOMED -/
def RDY_TIME : Fld :=
  { off := 0x060, lsb := 0, width := 32, acc := .ro, reset := 0xFFFFFFFF, count := 8, stride := 4 }
/-- RDY_SYS bits that SUMMARY requires -/
def SUMMARY_MASK : Fld :=
  { off := 0x080, lsb := 0, width := 32, acc := .rw, reset := 0x8FF }
/-- All masked bits of 0x040 read 1 -/
def SUMMARY : Fld :=
  { off := 0x084, lsb := 0, width := 1, acc := .ro, reset := 0x0 }

/-- Part 0 of the page's fields. -/
def fields0 : List Fld :=
  [FW_VERIFIED, MC_RUN, PORT_M, HBM0_TRAINED,
   HBM1_TRAINED, HBM0_FILLED, HBM1_FILLED, ADMIN,
   PORT_P0, PORT_P1, PORT_T, CE_LOADED,
   TWIN_PAIRED, JOURNAL_REPLAYED, CATALOGUE, DOMAIN,
   LOADER_HOMED, ELEVATOR_HOMED, STEBARO, HEAD_LO,
   HEAD_HI, WHEEL_SPEED, WHEEL_CLAMPED, LANE_IO,
   LANE_FULL, FILL0, FILL1, RDY_TIME,
   SUMMARY_MASK, SUMMARY]

/-- Every field of the page, in the order of its table. -/
def fields : List Fld := fields0

end Sys2Proof.Machine.RDY

namespace Sys2Proof.Machine.CK

/-! Fields of CK (R67 of 03_register_pages_and_stebaro.md). -/

/-- REFCLK_SYS present -/
def REF_SYS : Fld :=
  { off := 0x040, lsb := 0, width := 1, acc := .ro, reset := 0x0 }
/-- XTAL_AO oscillating -/
def REF_AO : Fld :=
  { off := 0x040, lsb := 1, width := 1, acc := .ro, reset := 0x0 }
/-- REFCLK_ETH0, REFCLK_ETH1 present -/
def REF_ETH : Fld :=
  { off := 0x040, lsb := 2, width := 2, acc := .ro, reset := 0x0 }
/-- REFCLK_HEAD0–3 present -/
def REF_HEAD : Fld :=
  { off := 0x040, lsb := 4, width := 4, acc := .ro, reset := 0x0 }
/-- Bit p: PLL p locked -/
def PLL_LOCK : Fld :=
  { off := 0x044, lsb := 0, width := 23, acc := .ro, reset := 0x0 }
/-- Lock losses, saturating -/
def PLL_LOSS_CNT : Fld :=
  { off := 0x048, lsb := 0, width := 8, acc := .rc, reset := 0x0 }
/-- Index of the last PLL to lose lock -/
def PLL_LOSS_LAST : Fld :=
  { off := 0x048, lsb := 8, width := 5, acc := .rc, reset := 0x0 }
/-- Bit i: island i clocked and out of reset, i = 0 to 31 -/
def ISL_RUN0 : Fld :=
  { off := 0x04C, lsb := 0, width := 32, acc := .ro, reset := 0x0 }
/-- Bit i: island 32 + i -/
def ISL_RUN1 : Fld :=
  { off := 0x050, lsb := 0, width := 29, acc := .ro, reset := 0x0 }
/-- Island index to measure -/
def FMON_SRC : Fld :=
  { off := 0x054, lsb := 0, width := 6, acc := .rw, reset := 0x0 }
/-- Write 1 to start; reads 1 until the result is valid -/
def FMON_START : Fld :=
  { off := 0x054, lsb := 31, width := 1, acc := .rw, reset := 0x0 }
/-- Island clock frequency in kHz over a 1 ms gate timed by XTAL_AO -/
def FMON_KHZ : Fld :=
  { off := 0x058, lsb := 0, width := 31, acc := .ro, reset := 0x0 }
/-- Result valid -/
def FMON_VALID : Fld :=
  { off := 0x058, lsb := 31, width := 1, acc := .ro, reset := 0x0 }
/-- Cause of the last chip reset, one bit set: 0 PORST_N, 1 CHIP_RESET, 2 thermal trip, 3 power-good lost, 4 JTAG, 5 fatal-event reset -/
def RESET_CAUSE : Fld :=
  { off := 0x05C, lsb := 0, width := 8, acc := .ro, reset := 0x1 }
/-- Custodian only. Resets the island named and releases it after 10 µs. Islands 33 and 60 are refused with CLASS 8 -/
def ISL_RST_REQ_ISLAND : Fld :=
  { off := 0x060, lsb := 0, width := 6, acc := .wo, reset := 0x0, cust := true }

/-- Part 0 of the page's fields. -/
def fields0 : List Fld :=
  [REF_SYS, REF_AO, REF_ETH, REF_HEAD,
   PLL_LOCK, PLL_LOSS_CNT, PLL_LOSS_LAST, ISL_RUN0,
   ISL_RUN1, FMON_SRC, FMON_START, FMON_KHZ,
   FMON_VALID, RESET_CAUSE, ISL_RST_REQ_ISLAND]

/-- Every field of the page, in the order of its table. -/
def fields : List Fld := fields0

end Sys2Proof.Machine.CK

namespace Sys2Proof.Machine.STEBARO

/-! Fields of STEBARO (R89 of 03_register_pages_and_stebaro.md). -/

/-- Serve Stebaro on port M; custodian only -/
def EN_M : Fld :=
  { off := 0x040, lsb := 0, width := 1, acc := .rw, reset := 0x1, cust := true }
/-- Serve Stebaro on port P0; custodian only -/
def EN_P0 : Fld :=
  { off := 0x040, lsb := 1, width := 1, acc := .rw, reset := 0x0, cust := true }
/-- Serve Stebaro on port P1; custodian only -/
def EN_P1 : Fld :=
  { off := 0x040, lsb := 2, width := 1, acc := .rw, reset := 0x0, cust := true }
/-- Open sessions, 0 to 16 -/
def SESSIONS : Fld :=
  { off := 0x044, lsb := 0, width := 5, acc := .ro, reset := 0x0 }
/-- Active subscriptions, 0 to 8 -/
def SUBSCRIPTIONS : Fld :=
  { off := 0x044, lsb := 8, width := 4, acc := .ro, reset := 0x0 }
/-- Requests received and not discarded under R78, whatever their status, excluding repeats answered from the kept responses of R83; saturating -/
def SB_RX_CNT : Fld :=
  { off := 0x048, lsb := 0, width := 32, acc := .rc, reset := 0x0 }
/-- NAKs sent, saturating -/
def SB_NAK_CNT : Fld :=
  { off := 0x04C, lsb := 0, width := 32, acc := .rc, reset := 0x0 }
/-- Datagrams discarded under R78, saturating -/
def SB_DROP_CNT : Fld :=
  { off := 0x050, lsb := 0, width := 32, acc := .rc, reset := 0x0 }
/-- Records and items dropped from subscription buffers, saturating -/
def SB_EVT_DROP : Fld :=
  { off := 0x054, lsb := 0, width := 32, acc := .rc, reset := 0x0 }
/-- Session idle timeout in seconds, 10 to 3,600; values outside act as the nearer bound -/
def SB_IDLE_TMO : Fld :=
  { off := 0x058, lsb := 0, width := 16, acc := .rw, reset := 0x12C }

/-- Part 0 of the page's fields. -/
def fields0 : List Fld :=
  [EN_M, EN_P0, EN_P1, SESSIONS,
   SUBSCRIPTIONS, SB_RX_CNT, SB_NAK_CNT, SB_DROP_CNT,
   SB_EVT_DROP, SB_IDLE_TMO]

/-- Every field of the page, in the order of its table. -/
def fields : List Fld := fields0

end Sys2Proof.Machine.STEBARO
end

