-- ==== Sys2Proof/Machine/RegsMotion.lean ====
section
/-!
DEFINITION. Fields of the CE slot descriptors and of the CTRLENG, WHEEL, MOTION, LOADER and KICK pages (chapters 09 to 11).
-/

namespace Sys2Proof.Machine.CESLOT

/-! Fields of the descriptor of CE slot n (R291 of 09_servo_loops_and_control_engine.md). -/

/-- 0 user, 1 FO, 2 TR, 3 TL, 4 SL, 5 OQ, 6 SPD -/
def TYPE : Fld :=
  { off := 0x000, lsb := 0, width := 3, acc := .ro, reset := 0x0 }
/-- User slots only: 0 servo frame, 1 every 16 frames, 2 CM tick; 3 off -/
def RATE : Fld :=
  { off := 0x000, lsb := 4, width := 2, acc := .rw, reset := 0x0 }
/-- SFN mod 16 on which a 16-frame slot runs -/
def PHASE : Fld :=
  { off := 0x000, lsb := 8, width := 4, acc := .rw, reset := 0x0 }
/-- Head or wheel index; fixed slots RO -/
def UNIT : Fld :=
  { off := 0x000, lsb := 16, width := 6, acc := .rw, reset := 0x0 }
/-- User slots: 0–5 sideband field of R154 bytes 4–15 in order, of head UNIT; 0x40 + k output of slot k, k = 0–191; any other value feeds 0; fixed slots RO -/
def IN_SRC : Fld :=
  { off := 0x004, lsb := 0, width := 8, acc := .rw, reset := 0x0 }
/-- Slot whose output is the cascade input; 0xFF none -/
def SP_SRC : Fld :=
  { off := 0x004, lsb := 8, width := 8, acc := .rw, reset := 0xFF }
/-- 0 none, 1 layer feedforward word, 2 spiral velocity (R304), 3 output of slot IN_SRC -/
def FF_SRC : Fld :=
  { off := 0x004, lsb := 16, width := 8, acc := .rw, reset := 0x0 }
/-- 0 type default; 1 USER_OUT[n - 174]; 2 set-point of slot SP_SRC of that slot -/
def OUT_DST : Fld :=
  { off := 0x004, lsb := 24, width := 8, acc := .rw, reset := 0x0 }
/-- 0 bank A, 1 bank B -/
def ACTIVE : Fld :=
  { off := 0x008, lsb := 0, width := 1, acc := .ro, reset := 0x0 }
/-- Swap requested, not yet taken -/
def SWAP_PEND : Fld :=
  { off := 0x008, lsb := 1, width := 1, acc := .ro, reset := 0x0 }
/-- 1 requests a swap under R300 -/
def SWAP : Fld :=
  { off := 0x008, lsb := 2, width := 1, acc := .wo, reset := 0x0 }
/-- Apply R289 against u_prev at the swap -/
def SWAP_PRESET : Fld :=
  { off := 0x008, lsb := 3, width := 1, acc := .rw, reset := 0x0 }
/-- As R288: 0 OFF, 1 OPEN, 2 CLOSED, 3 HOLD, 4 FAULT, 5 ARMED -/
def MODE : Fld :=
  { off := 0x00C, lsb := 0, width := 3, acc := .ro, reset := 0x0 }
/-- Sequencer set-point offset -/
def SP_STEP : Fld :=
  { off := 0x010, lsb := 0, width := 32, acc := .ro, reset := 0x0 }
/-- OPEN output; writable only in a user slot -/
def MANUAL : Fld :=
  { off := 0x014, lsb := 0, width := 32, acc := .rw, reset := 0x0 }
/-- Saturations under R285 -/
def SAT_CNT : Fld :=
  { off := 0x018, lsb := 0, width := 32, acc := .rc, reset := 0x0 }
/-- Samples missing or discarded -/
def MISS_CNT : Fld :=
  { off := 0x01C, lsb := 0, width := 32, acc := .rc, reset := 0x0 }
/-- Consecutive samples at OUT_MIN or OUT_MAX -/
def LIMIT_RUN : Fld :=
  { off := 0x020, lsb := 0, width := 16, acc := .ro, reset := 0x0 }
/-- R289 -/
def PRESET_CLIP : Fld :=
  { off := 0x020, lsb := 16, width := 16, acc := .rc, reset := 0x0 }
/-- u_prev -/
def LAST_OUT : Fld :=
  { off := 0x024, lsb := 0, width := 32, acc := .ro, reset := 0x0 }
/-- Last x0 -/
def LAST_IN : Fld :=
  { off := 0x028, lsb := 0, width := 32, acc := .ro, reset := 0x0 }
/-- CRC-32 (polynomial 0x04C1_1DB7, reflected, initial and final all ones) of each bank's 512 bytes, recomputed 2 µs after any write -/
def BANK_CRC_A : Fld :=
  { off := 0x02C, lsb := 0, width := 32, acc := .ro, reset := 0x0 }
/-- CRC-32 (polynomial 0x04C1_1DB7, reflected, initial and final all ones) of each bank's 512 bytes, recomputed 2 µs after any write -/
def BANK_CRC_B : Fld :=
  { off := 0x030, lsb := 0, width := 32, acc := .ro, reset := 0x0 }

/-- Part 0 of the page's fields. -/
def fields0 : List Fld :=
  [TYPE, RATE, PHASE, UNIT,
   IN_SRC, SP_SRC, FF_SRC, OUT_DST,
   ACTIVE, SWAP_PEND, SWAP, SWAP_PRESET,
   MODE, SP_STEP, MANUAL, SAT_CNT,
   MISS_CNT, LIMIT_RUN, PRESET_CLIP, LAST_OUT,
   LAST_IN, BANK_CRC_A, BANK_CRC_B]

/-- Every field of the page, in the order of its table. -/
def fields : List Fld := fields0

end Sys2Proof.Machine.CESLOT

namespace Sys2Proof.Machine.CTRLENG

/-! Fields of CTRLENG (R322 of 09_servo_loops_and_control_engine.md). -/

/-- Active MAC lanes -/
def CE_STAT_LANES : Fld :=
  { off := 0x040, lsb := 0, width := 3, acc := .ro, reset := 0x4 }
/-- Bit i: lane i active -/
def CE_STAT_LANE_MAP : Fld :=
  { off := 0x040, lsb := 4, width := 5, acc := .ro, reset := 0xF }
/-- Bit i: lane i failed -/
def CE_STAT_LANE_FAILED : Fld :=
  { off := 0x040, lsb := 9, width := 5, acc := .ro, reset := 0x0 }
/-- OQ slots shed under R299 -/
def CE_STAT_SHED_OQ : Fld :=
  { off := 0x040, lsb := 14, width := 1, acc := .ro, reset := 0x0 }
/-- Heads released under R299 -/
def CE_STAT_SHED_HEADS : Fld :=
  { off := 0x040, lsb := 15, width := 1, acc := .ro, reset := 0x0 }
/-- LOAD in 0.1 % -/
def LOAD_NOW : Fld :=
  { off := 0x044, lsb := 0, width := 16, acc := .ro, reset := 0x0 }
/-- Peak LOAD in 0.1 % -/
def LOAD_PEAK : Fld :=
  { off := 0x044, lsb := 16, width := 16, acc := .rc, reset := 0x0 }
/-- Percent, 50–95 -/
def LOAD_CFG_LOAD_LIMIT : Fld :=
  { off := 0x048, lsb := 0, width := 7, acc := .rw, reset := 0x55 }
/-- R299 steps 2 and 3 permitted -/
def LOAD_CFG_SHED_EN : Fld :=
  { off := 0x048, lsb := 8, width := 1, acc := .rwl, reset := 0x1 }
/-- R317 -/
def LOAD_CFG_AUTO_REACQ : Fld :=
  { off := 0x048, lsb := 9, width := 1, acc := .rw, reset := 0x1 }
/-- Frames, 2–255 -/
def FRAME_CFG_MISS_MAX : Fld :=
  { off := 0x04C, lsb := 0, width := 8, acc := .rw, reset := 0x8 }
/-- Frames, 1–255 -/
def FRAME_CFG_FP_GOOD : Fld :=
  { off := 0x04C, lsb := 8, width := 8, acc := .rw, reset := 0x40 }
/-- Units of 10 ns, 20–100 -/
def FRAME_CFG_DEADLINE : Fld :=
  { off := 0x04C, lsb := 16, width := 8, acc := .rw, reset := 0x3C }
/-- Units of 4 samples, 1–255 -/
def FRAME_CFG_SAT_RUN : Fld :=
  { off := 0x04C, lsb := 24, width := 8, acc := .rw, reset := 0xFA }
/-- nm -/
def FP_LIM_FP_TR : Fld :=
  { off := 0x050, lsb := 0, width := 8, acc := .rw, reset := 0xF }
/-- nm -/
def FP_LIM_FP_FO : Fld :=
  { off := 0x050, lsb := 8, width := 8, acc := .rw, reset := 0x32 }
/-- 0.01° -/
def FP_LIM_FP_TL : Fld :=
  { off := 0x050, lsb := 16, width := 8, acc := .rw, reset := 0xA }
/-- Focus-sum units of R302 -/
def FS_CFG_FS_MIN : Fld :=
  { off := 0x054, lsb := 0, width := 16, acc := .rw, reset := 0x1000 }
/-- Focus-sum units -/
def FS_CFG_FS_SURF : Fld :=
  { off := 0x054, lsb := 16, width := 16, acc := .rw, reset := 0x5000 }
/-- ms, 5–50 -/
def ACQ_CFG_ACQ_SWEEP_TMO : Fld :=
  { off := 0x058, lsb := 0, width := 8, acc := .rw, reset := 0x1E }
/-- 1–15 -/
def ACQ_CFG_ACQ_RETRY : Fld :=
  { off := 0x058, lsb := 8, width := 4, acc := .rw, reset := 0x3 }
/-- µs -/
def ACQ_CFG_TR_CAP : Fld :=
  { off := 0x058, lsb := 16, width := 8, acc := .rw, reset := 0x14 }
/-- nm -/
def ACQ_CFG_FO_LOCK : Fld :=
  { off := 0x058, lsb := 24, width := 8, acc := .rw, reset := 0x64 }
/-- Bands, 1–63 -/
def JUMP_CFG_BJ_MAX : Fld :=
  { off := 0x05C, lsb := 0, width := 6, acc := .rw, reset := 0x20 }
/-- Units of 0.1 ms -/
def JUMP_CFG_LJ_TMO : Fld :=
  { off := 0x05C, lsb := 8, width := 8, acc := .rw, reset := 0x14 }
/-- nm; 0 holds the focus-offset channel -/
def JUMP_CFG_DITHER : Fld :=
  { off := 0x05C, lsb := 16, width := 8, acc := .rw, reset := 0x4 }
/-- Units of 2 nm -/
def JUMP_CFG_FO_OFS_MAX : Fld :=
  { off := 0x05C, lsb := 24, width := 8, acc := .rw, reset := 0x32 }
/-- Head 0–32 -/
def SEQ_CMD_HEAD : Fld :=
  { off := 0x060, lsb := 0, width := 6, acc := .wo, reset := 0x0 }
/-- Command of R311 -/
def SEQ_CMD_OP : Fld :=
  { off := 0x060, lsb := 8, width := 4, acc := .wo, reset := 0x0 }
/-- Argument of R311 -/
def SEQ_CMD_ARG : Fld :=
  { off := 0x060, lsb := 12, width := 20, acc := .wo, reset := 0x0 }
/-- Head of the last completed command -/
def SEQ_RESULT_HEAD : Fld :=
  { off := 0x064, lsb := 0, width := 6, acc := .ro, reset := 0x0 }
/-- Its command -/
def SEQ_RESULT_OP : Fld :=
  { off := 0x064, lsb := 8, width := 4, acc := .ro, reset := 0x0 }
/-- Result of R311 -/
def SEQ_RESULT_CODE : Fld :=
  { off := 0x064, lsb := 12, width := 4, acc := .ro, reset := 0x0 }
/-- Bit n of register k requests a swap of slot 32k + n; R301 -/
def SWAP_REQ : Fld :=
  { off := 0x068, lsb := 0, width := 32, acc := .wo, reset := 0x0, count := 6, stride := 4 }
/-- Bit n: slot 32k + n enabled; a 1 takes the slot from OFF to OPEN; a 0 sets OFF -/
def SLOT_EN : Fld :=
  { off := 0x080, lsb := 0, width := 32, acc := .rw, reset := 0x0, count := 6, stride := 4 }
/-- Bit n: slot in FAULT -/
def SLOT_FAULT : Fld :=
  { off := 0x098, lsb := 0, width := 32, acc := .ro, reset := 0x0, count := 6, stride := 4 }
/-- Bit h: fire permit of H(h) -/
def FP_STAT_LO : Fld :=
  { off := 0x0B0, lsb := 0, width := 32, acc := .ro, reset := 0x0 }
/-- H32 -/
def FP_STAT_HI : Fld :=
  { off := 0x0B4, lsb := 0, width := 1, acc := .ro, reset := 0x0 }
/-- R295 -/
def DEADLINE_MISS : Fld :=
  { off := 0x0B8, lsb := 0, width := 32, acc := .rc, reset := 0x0 }
/-- R296 -/
def SAMPLE_MISS : Fld :=
  { off := 0x0BC, lsb := 0, width := 32, acc := .rc, reset := 0x0 }
/-- Failed acquisition attempts -/
def ACQ_FAIL : Fld :=
  { off := 0x0C0, lsb := 0, width := 32, acc := .rc, reset := 0x0 }
/-- Slots entering FAULT -/
def LOOP_FAULT : Fld :=
  { off := 0x0C4, lsb := 0, width := 32, acc := .rc, reset := 0x0 }
/-- Permit losses -/
def PERMIT_LOSS : Fld :=
  { off := 0x0C8, lsb := 0, width := 32, acc := .rc, reset := 0x0 }
/-- Slot traced -/
def TRACE_CFG_SLOT : Fld :=
  { off := 0x0CC, lsb := 0, width := 8, acc := .rw, reset := 0x0 }
/-- 0 x0 and output; 1 e and I; 2 every stage output; 3 reserved -/
def TRACE_CFG_WHAT : Fld :=
  { off := 0x0CC, lsb := 8, width := 2, acc := .rw, reset := 0x0 }
/-- Write 1 to fill the trace buffer once; reads 1 until full -/
def TRACE_CFG_START : Fld :=
  { off := 0x0CC, lsb := 10, width := 1, acc := .rw, reset := 0x0 }
/-- Next trace word, in units of 4 bytes -/
def TRACE_PTR : Fld :=
  { off := 0x0D0, lsb := 0, width := 17, acc := .ro, reset := 0x0 }
/-- Head 0–32; R301 -/
def SWAP_HEAD_HEAD : Fld :=
  { off := 0x0D4, lsb := 0, width := 6, acc := .wo, reset := 0x0 }
/-- Bit j requests a swap of slot 5·HEAD + j: FO, TR, TL, SL, OQ for j = 0 to 4 -/
def SWAP_HEAD_SLOTS : Fld :=
  { off := 0x0D4, lsb := 8, width := 5, acc := .wo, reset := 0x0 }
/-- Outputs of user slots 174–191, at 0x0E0 + 4n; n = 8 to 17 continue at 0x100 + 4(n - 8) -/
def USER_OUT : Fld :=
  { off := 0x0E0, lsb := 0, width := 32, acc := .ro, reset := 0x0, count := 18, stride := 4 }

/-- Part 0 of the page's fields. -/
def fields0 : List Fld :=
  [CE_STAT_LANES, CE_STAT_LANE_MAP, CE_STAT_LANE_FAILED, CE_STAT_SHED_OQ,
   CE_STAT_SHED_HEADS, LOAD_NOW, LOAD_PEAK, LOAD_CFG_LOAD_LIMIT,
   LOAD_CFG_SHED_EN, LOAD_CFG_AUTO_REACQ, FRAME_CFG_MISS_MAX, FRAME_CFG_FP_GOOD,
   FRAME_CFG_DEADLINE, FRAME_CFG_SAT_RUN, FP_LIM_FP_TR, FP_LIM_FP_FO,
   FP_LIM_FP_TL, FS_CFG_FS_MIN, FS_CFG_FS_SURF, ACQ_CFG_ACQ_SWEEP_TMO,
   ACQ_CFG_ACQ_RETRY, ACQ_CFG_TR_CAP, ACQ_CFG_FO_LOCK, JUMP_CFG_BJ_MAX,
   JUMP_CFG_LJ_TMO, JUMP_CFG_DITHER, JUMP_CFG_FO_OFS_MAX, SEQ_CMD_HEAD,
   SEQ_CMD_OP, SEQ_CMD_ARG, SEQ_RESULT_HEAD, SEQ_RESULT_OP,
   SEQ_RESULT_CODE, SWAP_REQ, SLOT_EN, SLOT_FAULT,
   FP_STAT_LO, FP_STAT_HI, DEADLINE_MISS, SAMPLE_MISS]

/-- Part 1 of the page's fields. -/
def fields1 : List Fld :=
  [ACQ_FAIL, LOOP_FAULT, PERMIT_LOSS, TRACE_CFG_SLOT,
   TRACE_CFG_WHAT, TRACE_CFG_START, TRACE_PTR, SWAP_HEAD_HEAD,
   SWAP_HEAD_SLOTS, USER_OUT]

/-- Every field of the page, in the order of its table. -/
def fields : List Fld := fields0 ++ fields1

end Sys2Proof.Machine.CTRLENG

namespace Sys2Proof.Machine.WHEEL

/-! Fields of WHEEL[w] (R355 of 10_spindle_commutation.md). -/

/-- R335 -/
def WH_STAT_STATE : Fld :=
  { off := 0x040, lsb := 0, width := 4, acc := .ro, reset := 0x0 }
/-- Current step -/
def WH_STAT_STEP : Fld :=
  { off := 0x040, lsb := 4, width := 3, acc := .ro, reset := 0x0 }
/-- Last measured direction reverse -/
def WH_STAT_REVERSE : Fld :=
  { off := 0x040, lsb := 7, width := 1, acc := .ro, reset := 0x0 }
/-- R333 -/
def WH_STAT_AT_SPEED : Fld :=
  { off := 0x040, lsb := 8, width := 1, acc := .ro, reset := 0x0 }
/-- R343 -/
def WH_STAT_REST_OK : Fld :=
  { off := 0x040, lsb := 9, width := 1, acc := .ro, reset := 0x0 }
/-- CLAMPw_SNS -/
def WH_STAT_CLAMP_SNS : Fld :=
  { off := 0x040, lsb := 10, width := 1, acc := .ro, reset := 0x0 }
/-- SPw_OWN -/
def WH_STAT_OWN_OUT : Fld :=
  { off := 0x040, lsb := 11, width := 1, acc := .ro, reset := 0x0 }
/-- SPw_OWNX, filtered -/
def WH_STAT_OWNX_IN : Fld :=
  { off := 0x040, lsb := 12, width := 1, acc := .ro, reset := 0x0 }
/-- R348 -/
def WH_STAT_SHADOW_VALID : Fld :=
  { off := 0x040, lsb := 13, width := 1, acc := .ro, reset := 0x0 }
/-- R340 -/
def WH_STAT_ROTOR_UNSURE : Fld :=
  { off := 0x040, lsb := 14, width := 1, acc := .ro, reset := 0x0 }
/-- CLAMPw_REL -/
def WH_STAT_REL_OUT : Fld :=
  { off := 0x040, lsb := 15, width := 1, acc := .ro, reset := 0x0 }
/-- 0 none; 1 catch; 2 start; 3 overcurrent; 4 clamp; 5 comparators; 6 SPD slot -/
def WH_STAT_FAULT_CAUSE : Fld :=
  { off := 0x040, lsb := 16, width := 3, acc := .ro, reset := 0x0 }
/-- Failed catches in the current episode, 0–7 -/
def WH_STAT_CATCH_FAILS : Fld :=
  { off := 0x040, lsb := 19, width := 4, acc := .ro, reset := 0x0 }
/-- Signed, 0.1 rpm; negative is reverse -/
def SPD_MEAS_N : Fld :=
  { off := 0x044, lsb := 0, width := 20, acc := .ro, reset := 0x0 }
/-- R331 -/
def SPD_MEAS_STALE : Fld :=
  { off := 0x044, lsb := 31, width := 1, acc := .ro, reset := 0x1 }
/-- N_ref, signed, 0.1 rpm -/
def SPD_REF : Fld :=
  { off := 0x048, lsb := 0, width := 20, acc := .ro, reset := 0x0 }
/-- rpm; 0 stop; 1,000–10,000 run; 1–999 act as 1,000 and larger values as 10,000 (R332) -/
def SPD_CMD : Fld :=
  { off := 0x04C, lsb := 0, width := 14, acc := .rw, reset := 0x0 }
/-- rpm/s, 500–10,000 -/
def RAMP_CFG_ACC_RATE : Fld :=
  { off := 0x050, lsb := 0, width := 16, acc := .rw, reset := 0xE10 }
/-- rpm/s, 500–10,000 -/
def RAMP_CFG_DEC_RATE : Fld :=
  { off := 0x050, lsb := 16, width := 16, acc := .rw, reset := 0x1194 }
/-- 0.1 %, 1–20 -/
def TOL_CFG_SPD_TOL : Fld :=
  { off := 0x054, lsb := 0, width := 8, acc := .rw, reset := 0x5 }
/-- ms, 1–255 -/
def TOL_CFG_SPD_SETTLE : Fld :=
  { off := 0x054, lsb := 8, width := 8, acc := .rw, reset := 0x32 }
/-- Percent, 10–40 -/
def TOL_CFG_ZC_WIN : Fld :=
  { off := 0x054, lsb := 16, width := 8, acc := .rw, reset := 0x19 }
/-- 1–12 -/
def TOL_CFG_FLY_STEPS : Fld :=
  { off := 0x054, lsb := 24, width := 4, acc := .rw, reset := 0x6 }
/-- 1–7 -/
def TOL_CFG_CATCH_TRIES : Fld :=
  { off := 0x054, lsb := 28, width := 3, acc := .rw, reset := 0x3 }
/-- ms, 5–20 -/
def START_CFG_MEAS_T : Fld :=
  { off := 0x058, lsb := 0, width := 5, acc := .rw, reset := 0x14 }
/-- Units of 10 rpm, 15–100 -/
def START_CFG_CATCH_MIN : Fld :=
  { off := 0x058, lsb := 8, width := 8, acc := .rw, reset := 0x14 }
/-- Units of 10 ms, 9–100 -/
def START_CFG_REST_WIN : Fld :=
  { off := 0x058, lsb := 16, width := 8, acc := .rw, reset := 0xA }
/-- ms, 10–255 -/
def START_CFG_BRK_ON : Fld :=
  { off := 0x058, lsb := 24, width := 8, acc := .rw, reset := 0x32 }
/-- Units of 10 ms, 5–100 -/
def ALIGN_CFG_ALIGN_T : Fld :=
  { off := 0x05C, lsb := 0, width := 8, acc := .rw, reset := 0xF }
/-- Percent of I_FS, 5–100 -/
def ALIGN_CFG_ALIGN_I : Fld :=
  { off := 0x05C, lsb := 8, width := 8, acc := .rw, reset := 0x20 }
/-- Units of 100 rpm/s, 5–100 -/
def ALIGN_CFG_OL_RATE : Fld :=
  { off := 0x05C, lsb := 16, width := 8, acc := .rw, reset := 0x1E }
/-- Units of 10 rpm, 20–100 -/
def ALIGN_CFG_HANDOFF : Fld :=
  { off := 0x05C, lsb := 24, width := 8, acc := .rw, reset := 0x1E }
/-- mA at ADC code 4,095 -/
def CUR_CFG_I_FS : Fld :=
  { off := 0x060, lsb := 0, width := 16, acc := .rw, reset := 0x1388 }
/-- Percent of I_FS, 10–100 -/
def CUR_CFG_I_MAX : Fld :=
  { off := 0x060, lsb := 16, width := 8, acc := .rw, reset := 0x64 }
/-- Percent of I_FS, 10–100 -/
def CUR_CFG_I_BRK : Fld :=
  { off := 0x060, lsb := 24, width := 8, acc := .rw, reset := 0x50 }
/-- Units of 2^-12 -/
def CUR_LOOP_CUR_KP : Fld :=
  { off := 0x064, lsb := 0, width := 16, acc := .rw, reset := 0x400 }
/-- Units of 2^-12 per sample -/
def CUR_LOOP_CUR_KI : Fld :=
  { off := 0x064, lsb := 16, width := 16, acc := .rw, reset := 0x40 }
/-- Units of 5 ns, 10–100 -/
def PWM_CFG_DEAD_T : Fld :=
  { off := 0x068, lsb := 0, width := 8, acc := .rw, reset := 0x14 }
/-- Units of 5 ns -/
def PWM_CFG_BLANK_T : Fld :=
  { off := 0x068, lsb := 8, width := 8, acc := .rw, reset := 0x50 }
/-- Samples, 1–15 -/
def PWM_CFG_FILT_N : Fld :=
  { off := 0x068, lsb := 16, width := 4, acc := .rw, reset := 0x4 }
/-- Percent, 50–98 -/
def PWM_CFG_DUTY_MAX : Fld :=
  { off := 0x068, lsb := 20, width := 8, acc := .rw, reset := 0x62 }
/-- ADC codes from 2,048 -/
def OC_CFG_OC_TRIP : Fld :=
  { off := 0x06C, lsb := 0, width := 11, acc := .rw, reset := 0x7C0 }
/-- Trips per 10 ms, 1–255 -/
def OC_CFG_OC_MAX : Fld :=
  { off := 0x06C, lsb := 16, width := 8, acc := .rw, reset := 0x40 }
/-- Units of 10 rpm, 10–100 -/
def REST_CFG_BRAKE_LOW : Fld :=
  { off := 0x070, lsb := 0, width := 8, acc := .rw, reset := 0x1E }
/-- Units of 10 ms, 1–255 -/
def REST_CFG_BRAKE_HOLD : Fld :=
  { off := 0x070, lsb := 8, width := 8, acc := .rw, reset := 0x14 }
/-- µs, 10–100 -/
def REST_CFG_SHADOW_HOLD : Fld :=
  { off := 0x070, lsb := 16, width := 8, acc := .rw, reset := 0x1E }
/-- 1 RELEASE, 2 CLAMP, 3 CLEAR_FAULT, 4 HANDOVER_REL, 5 HANDOVER_ARM, 6 DISARM and 7 COAST under R352; others refused with CLASS 8 -/
def WH_CMD_OP : Fld :=
  { off := 0x074, lsb := 0, width := 4, acc := .wo, reset := 0x0 }
/-- Last command or start -/
def WH_RESULT_OP : Fld :=
  { off := 0x078, lsb := 0, width := 4, acc := .ro, reset := 0x0 }
/-- 0 done, 1 pending, 2 clamp not ready, 3 rest not confirmed, 4 no shadow, 5 not owned, 6 timeout, 7 wrong state (R349) -/
def WH_RESULT_CODE : Fld :=
  { off := 0x078, lsb := 4, width := 4, acc := .ro, reset := 0x0 }
/-- Duty per 1,000 rpm at zero current, 2^-12 -/
def DUTY_KE : Fld :=
  { off := 0x07C, lsb := 0, width := 12, acc := .rw, reset := 0x111 }
/-- Signed, 2^-15 of I_FS -/
def CUR_MEAS : Fld :=
  { off := 0x080, lsb := 0, width := 16, acc := .ro, reset := 0x0 }
/-- Signed, 2^-15 of I_FS -/
def CUR_SET : Fld :=
  { off := 0x080, lsb := 16, width := 16, acc := .ro, reset := 0x0 }
/-- Signed, 2^-12 -/
def DUTY_NOW : Fld :=
  { off := 0x084, lsb := 0, width := 13, acc := .ro, reset := 0x0 }
/-- 0 U, 1 V, 2 W, 3 none -/
def CMP_MAP_SPARE_PHASE : Fld :=
  { off := 0x088, lsb := 0, width := 2, acc := .ro, reset := 0x3 }
/-- Bit c: comparator c failed -/
def CMP_MAP_FAILED : Fld :=
  { off := 0x088, lsb := 4, width := 4, acc := .ro, reset := 0x0 }
/-- Empty windows -/
def ZC_MISS : Fld :=
  { off := 0x08C, lsb := 0, width := 32, acc := .rc, reset := 0x0 }
/-- Rotor-loss episodes -/
def FLY_EVENTS : Fld :=
  { off := 0x090, lsb := 0, width := 32, acc := .rc, reset := 0x0 }
/-- Catches, starts included -/
def CATCH_CNT : Fld :=
  { off := 0x094, lsb := 0, width := 32, acc := .rc, reset := 0x0 }
/-- R329 -/
def OC_CNT : Fld :=
  { off := 0x098, lsb := 0, width := 32, acc := .rc, reset := 0x0 }
/-- Thousands of revolutions -/
def REV_K : Fld :=
  { off := 0x09C, lsb := 0, width := 32, acc := .rc, reset := 0x0 }
/-- 0 none, 1 catch, 2 brake reverse, 3 brake slow or unknown, 4 align-and-go from rest, 5 shadow -/
def LAST_START_KIND : Fld :=
  { off := 0x0A0, lsb := 0, width := 3, acc := .ro, reset := 0x0 }
/-- Signed rpm at measurement -/
def LAST_START_SPEED : Fld :=
  { off := 0x0A0, lsb := 16, width := 16, acc := .ro, reset := 0x0 }
/-- ms from the last start to AT_SPEED -/
def T_ATSPEED : Fld :=
  { off := 0x0A4, lsb := 0, width := 16, acc := .ro, reset := 0x0 }
/-- Largest |N - N_ref| over the last 1 s, 0.01 % -/
def SPD_DEV : Fld :=
  { off := 0x0A8, lsb := 0, width := 16, acc := .ro, reset := 0x0 }

/-- Part 0 of the page's fields. -/
def fields0 : List Fld :=
  [WH_STAT_STATE, WH_STAT_STEP, WH_STAT_REVERSE, WH_STAT_AT_SPEED,
   WH_STAT_REST_OK, WH_STAT_CLAMP_SNS, WH_STAT_OWN_OUT, WH_STAT_OWNX_IN,
   WH_STAT_SHADOW_VALID, WH_STAT_ROTOR_UNSURE, WH_STAT_REL_OUT, WH_STAT_FAULT_CAUSE,
   WH_STAT_CATCH_FAILS, SPD_MEAS_N, SPD_MEAS_STALE, SPD_REF,
   SPD_CMD, RAMP_CFG_ACC_RATE, RAMP_CFG_DEC_RATE, TOL_CFG_SPD_TOL,
   TOL_CFG_SPD_SETTLE, TOL_CFG_ZC_WIN, TOL_CFG_FLY_STEPS, TOL_CFG_CATCH_TRIES,
   START_CFG_MEAS_T, START_CFG_CATCH_MIN, START_CFG_REST_WIN, START_CFG_BRK_ON,
   ALIGN_CFG_ALIGN_T, ALIGN_CFG_ALIGN_I, ALIGN_CFG_OL_RATE, ALIGN_CFG_HANDOFF,
   CUR_CFG_I_FS, CUR_CFG_I_MAX, CUR_CFG_I_BRK, CUR_LOOP_CUR_KP,
   CUR_LOOP_CUR_KI, PWM_CFG_DEAD_T, PWM_CFG_BLANK_T, PWM_CFG_FILT_N]

/-- Part 1 of the page's fields. -/
def fields1 : List Fld :=
  [PWM_CFG_DUTY_MAX, OC_CFG_OC_TRIP, OC_CFG_OC_MAX, REST_CFG_BRAKE_LOW,
   REST_CFG_BRAKE_HOLD, REST_CFG_SHADOW_HOLD, WH_CMD_OP, WH_RESULT_OP,
   WH_RESULT_CODE, DUTY_KE, CUR_MEAS, CUR_SET,
   DUTY_NOW, CMP_MAP_SPARE_PHASE, CMP_MAP_FAILED, ZC_MISS,
   FLY_EVENTS, CATCH_CNT, OC_CNT, REV_K,
   LAST_START_KIND, LAST_START_SPEED, T_ATSPEED, SPD_DEV]

/-- Every field of the page, in the order of its table. -/
def fields : List Fld := fields0 ++ fields1

end Sys2Proof.Machine.WHEEL

namespace Sys2Proof.Machine.MOTION

/-! Fields of MOTION (R375 of 11_sled_and_loader_motion.md). -/

/-- Target of the first to third axis named; for SET_POS, the new POS -/
def MV_TGT : Fld :=
  { off := 0x040, lsb := 0, width := 32, acc := .rw, reset := 0x0, count := 3, stride := 4 }
/-- 1 MOVE, 2 HOME, 3 STOP, 4 DISABLE, 5 SET_POS -/
def MV_CMD_OP : Fld :=
  { off := 0x04C, lsb := 0, width := 4, acc := .wo, reset := 0x0 }
/-- Axes named, 1–3; MOVE only above 1 -/
def MV_CMD_NAX : Fld :=
  { off := 0x04C, lsb := 4, width := 2, acc := .wo, reset := 0x0 }
/-- Axis indices -/
def MV_CMD_AX0 : Fld :=
  { off := 0x04C, lsb := 8, width := 6, acc := .wo, reset := 0x0 }
/-- Axis indices -/
def MV_CMD_AX1 : Fld :=
  { off := 0x04C, lsb := 16, width := 6, acc := .wo, reset := 0x0 }
/-- Axis indices -/
def MV_CMD_AX2 : Fld :=
  { off := 0x04C, lsb := 24, width := 6, acc := .wo, reset := 0x0 }
/-- First axis of the last command -/
def MV_RESULT_AX : Fld :=
  { off := 0x050, lsb := 0, width := 6, acc := .ro, reset := 0x0 }
/-- Its operation -/
def MV_RESULT_OP : Fld :=
  { off := 0x050, lsb := 8, width := 4, acc := .ro, reset := 0x0 }
/-- 0 accepted, 1 busy, 2 not owned, 3 not homed or not referenced, 4 outside soft limits, 5 interlock, 6 invalid profile, 7 fault present, 8 invalid group -/
def MV_RESULT_CODE : Fld :=
  { off := 0x050, lsb := 12, width := 4, acc := .ro, reset := 0x0 }
/-- Bit a: axis a moving -/
def MOVING_LO : Fld :=
  { off := 0x054, lsb := 0, width := 32, acc := .ro, reset := 0x0 }
/-- Bit a: axis a moving -/
def MOVING_HI : Fld :=
  { off := 0x058, lsb := 0, width := 6, acc := .ro, reset := 0x0 }
/-- Bit a: axis a homed -/
def HOMED_LO : Fld :=
  { off := 0x05C, lsb := 0, width := 32, acc := .ro, reset := 0x0 }
/-- Bit a: axis a homed -/
def HOMED_HI : Fld :=
  { off := 0x060, lsb := 0, width := 6, acc := .ro, reset := 0x0 }
/-- Bit a: axis a in fault; a HOME or SET_POS clears it -/
def FAULT_LO : Fld :=
  { off := 0x064, lsb := 0, width := 32, acc := .ro, reset := 0x0 }
/-- Bit a: axis a in fault; a HOME or SET_POS clears it -/
def FAULT_HI : Fld :=
  { off := 0x068, lsb := 0, width := 6, acc := .ro, reset := 0x0 }
/-- 1 stops every owned axis under R360 -/
def STOP_ALL : Fld :=
  { off := 0x06C, lsb := 0, width := 1, acc := .wo, reset := 0x0 }

/-- Part 0 of the page's fields. -/
def fields0 : List Fld :=
  [MV_TGT, MV_CMD_OP, MV_CMD_NAX, MV_CMD_AX0,
   MV_CMD_AX1, MV_CMD_AX2, MV_RESULT_AX, MV_RESULT_OP,
   MV_RESULT_CODE, MOVING_LO, MOVING_HI, HOMED_LO,
   HOMED_HI, FAULT_LO, FAULT_HI, STOP_ALL]

/-- Every field of the page, in the order of its table. -/
def fields : List Fld := fields0

end Sys2Proof.Machine.MOTION

namespace Sys2Proof.Machine.AXIS

/-! Fields of the block of axis a, sleds and pin axes (sled reset values; R375) (R375 of 11_sled_and_loader_motion.md). -/

/-- 0 disabled, 1 idle, 2 moving, 3 homing, 4 stopping, 5 fault, 6 not owned -/
def AX_STAT_STATE : Fld :=
  { off := 0x000, lsb := 0, width := 4, acc := .ro, reset := 0x6 }
/-- R369 -/
def AX_STAT_HOMED : Fld :=
  { off := 0x000, lsb := 4, width := 1, acc := .ro, reset := 0x0 }
/-- Sled referenced, R364 -/
def AX_STAT_REFD : Fld :=
  { off := 0x000, lsb := 5, width := 1, acc := .ro, reset := 0x0 }
/-- Accepted home [6], far limit [7] -/
def AX_STAT_SW : Fld :=
  { off := 0x000, lsb := 6, width := 2, acc := .ro, reset := 0x0 }
/-- EN [8], DIR [9] as driven -/
def AX_STAT_PINS : Fld :=
  { off := 0x000, lsb := 8, width := 2, acc := .ro, reset := 0x0 }
/-- 0 none, 1 done, 2 stopped, 3 fault -/
def AX_STAT_END : Fld :=
  { off := 0x000, lsb := 10, width := 2, acc := .ro, reset := 0x0 }
/-- 0 none, 1 limit, 2 chatter, 3 home not found, 4 ownership lost, 5 slip, 6 link lost -/
def AX_STAT_FAULT : Fld :=
  { off := 0x000, lsb := 12, width := 4, acc := .ro, reset := 0x0 }
/-- Signed steps -/
def POS : Fld :=
  { off := 0x004, lsb := 0, width := 32, acc := .ro, reset := 0x0 }
/-- Target of the current or last move -/
def TARGET : Fld :=
  { off := 0x008, lsb := 0, width := 32, acc := .ro, reset := 0x0 }
/-- Steps/s -/
def V_START : Fld :=
  { off := 0x00C, lsb := 0, width := 32, acc := .rw, reset := 0x1000 }
/-- Steps/s -/
def V_STOP : Fld :=
  { off := 0x010, lsb := 0, width := 32, acc := .rw, reset := 0x1000 }
/-- Steps/s -/
def V_BRK : Fld :=
  { off := 0x014, lsb := 0, width := 32, acc := .rw, reset := 0x10000 }
/-- Steps/s -/
def V_MAX : Fld :=
  { off := 0x018, lsb := 0, width := 32, acc := .rw, reset := 0x3E800 }
/-- Steps/s² -/
def A1 : Fld :=
  { off := 0x01C, lsb := 0, width := 32, acc := .rw, reset := 0x4E2000 }
/-- Steps/s² -/
def A2 : Fld :=
  { off := 0x020, lsb := 0, width := 32, acc := .rw, reset := 0x271000 }
/-- Signed steps -/
def SOFT_MIN : Fld :=
  { off := 0x024, lsb := 0, width := 32, acc := .rw, reset := 0x0 }
/-- Signed steps; 0 on a pin axis refuses every MOVE until set -/
def SOFT_MAX : Fld :=
  { off := 0x028, lsb := 0, width := 32, acc := .rw, reset := 0x25800 }
/-- Steps/s -/
def HOME_FAST : Fld :=
  { off := 0x02C, lsb := 0, width := 32, acc := .rw, reset := 0x10000 }
/-- Steps/s -/
def HOME_SLOW : Fld :=
  { off := 0x030, lsb := 0, width := 16, acc := .rw, reset := 0x800 }
/-- Steps -/
def BACKOFF : Fld :=
  { off := 0x030, lsb := 16, width := 16, acc := .rw, reset := 0x800 }
/-- POS assigned at home -/
def HOME_OFS : Fld :=
  { off := 0x034, lsb := 0, width := 32, acc := .rw, reset := 0x0 }
/-- ms, 0–16 -/
def SW_CFG_DEBOUNCE : Fld :=
  { off := 0x038, lsb := 0, width := 5, acc := .rw, reset := 0x0 }
/-- 0 toward lower POS -/
def SW_CFG_HOME_DIR : Fld :=
  { off := 0x038, lsb := 5, width := 1, acc := .rw, reset := 0x0 }
/-- Home [6], far [7]; 0 active low -/
def SW_CFG_POL : Fld :=
  { off := 0x038, lsb := 6, width := 2, acc := .rw, reset := 0x0 }
/-- Transitions, 2–255 -/
def SW_CFG_CHAT_N : Fld :=
  { off := 0x038, lsb := 8, width := 8, acc := .rw, reset := 0x8 }
/-- ms, 1–255 -/
def SW_CFG_CHAT_WIN : Fld :=
  { off := 0x038, lsb := 16, width := 8, acc := .rw, reset := 0x64 }
/-- Keep EN after a move -/
def SW_CFG_HOLD_EN : Fld :=
  { off := 0x038, lsb := 24, width := 1, acc := .rw, reset := 0x0 }

/-- Part 0 of the page's fields. -/
def fields0 : List Fld :=
  [AX_STAT_STATE, AX_STAT_HOMED, AX_STAT_REFD, AX_STAT_SW,
   AX_STAT_PINS, AX_STAT_END, AX_STAT_FAULT, POS,
   TARGET, V_START, V_STOP, V_BRK,
   V_MAX, A1, A2, SOFT_MIN,
   SOFT_MAX, HOME_FAST, HOME_SLOW, BACKOFF,
   HOME_OFS, SW_CFG_DEBOUNCE, SW_CFG_HOME_DIR, SW_CFG_POL,
   SW_CFG_CHAT_N, SW_CFG_CHAT_WIN, SW_CFG_HOLD_EN]

/-- Every field of the page, in the order of its table. -/
def fields : List Fld := fields0

end Sys2Proof.Machine.AXIS

namespace Sys2Proof.Machine.AXISS

/-! Fields of the block of a sled axis (R375 of 11_sled_and_loader_motion.md). -/

/-- Sleds: signed, 1/16 step, R364 -/
def BAND0_POS : Fld :=
  { off := 0x03C, lsb := 0, width := 32, acc := .ro, reset := 0x0 }

/-- Part 0 of the page's fields. -/
def fields0 : List Fld :=
  [BAND0_POS]

/-- Every field of the page, in the order of its table. -/
def fields : List Fld := fields0

end Sys2Proof.Machine.AXISS

namespace Sys2Proof.Machine.AXISP

/-! Fields of the block of a pin axis (R375 of 11_sled_and_loader_motion.md). -/

/-- Pin axes: 100 ns units, 5–25 -/
def STEP_CFG_STEP_W : Fld :=
  { off := 0x03C, lsb := 0, width := 8, acc := .rw, reset := 0x19 }
/-- ms -/
def STEP_CFG_EN_LEAD : Fld :=
  { off := 0x03C, lsb := 8, width := 8, acc := .rw, reset := 0x5 }
/-- ms -/
def STEP_CFG_EN_LAG : Fld :=
  { off := 0x03C, lsb := 16, width := 8, acc := .rw, reset := 0x64 }

/-- Part 0 of the page's fields. -/
def fields0 : List Fld :=
  [STEP_CFG_STEP_W, STEP_CFG_EN_LEAD, STEP_CFG_EN_LAG]

/-- Every field of the page, in the order of its table. -/
def fields : List Fld := fields0

end Sys2Proof.Machine.AXISP

namespace Sys2Proof.Machine.LOADER

/-! Fields of LOADER (R376 of 11_sled_and_loader_motion.md). -/

/-- LD_OWN -/
def LD_STAT_OWN_OUT : Fld :=
  { off := 0x040, lsb := 0, width := 1, acc := .ro, reset := 0x0 }
/-- LD_OWNX, filtered -/
def LD_STAT_OWNX_IN : Fld :=
  { off := 0x040, lsb := 1, width := 1, acc := .ro, reset := 0x0 }
/-- R357 -/
def LD_STAT_CONFLICT : Fld :=
  { off := 0x040, lsb := 2, width := 1, acc := .ro, reset := 0x0 }
/-- X, Z, G and P homed -/
def LD_STAT_HOMED : Fld :=
  { off := 0x040, lsb := 3, width := 1, acc := .ro, reset := 0x0 }
/-- R370 -/
def LD_STAT_G_HOLD : Fld :=
  { off := 0x040, lsb := 4, width := 1, acc := .ro, reset := 0x0 }
/-- R372 in progress -/
def LD_STAT_RECOVERY : Fld :=
  { off := 0x040, lsb := 5, width := 1, acc := .ro, reset := 0x0 }
/-- 0 unknown, 1 store, 2 gripper, 3 wheel -/
def CUSTODY_KIND : Fld :=
  { off := 0x044, lsb := 0, width := 2, acc := .rw, reset := 0x0 }
/-- 0 none, 1 take from wheel, 2 place on wheel, 3 take from store, 4 place in store -/
def CUSTODY_INTENT : Fld :=
  { off := 0x044, lsb := 2, width := 3, acc := .rw, reset := 0x0 }
/-- Wheel, 0–8 -/
def CUSTODY_WHEEL : Fld :=
  { off := 0x044, lsb := 8, width := 4, acc := .rw, reset := 0x0 }
/-- Store slot -/
def CUSTODY_STORE : Fld :=
  { off := 0x044, lsb := 16, width := 16, acc := .rw, reset := 0x0 }
/-- Bit w: release confirmed by the twin -/
def TWIN_REL : Fld :=
  { off := 0x048, lsb := 0, width := 9, acc := .ro, reset := 0x0 }
/-- Steps -/
def STN_TOL : Fld :=
  { off := 0x04C, lsb := 0, width := 16, acc := .rw, reset := 0x32 }
/-- Station of W(w), w = 0–8 -/
def X_STN : Fld :=
  { off := 0x050, lsb := 0, width := 32, acc := .rw, reset := 0x0, count := 9, stride := 8 }
/-- Station of W(w), w = 0–8 -/
def Z_STN : Fld :=
  { off := 0x054, lsb := 0, width := 32, acc := .rw, reset := 0x0, count := 9, stride := 8 }
/-- Positions, in this order -/
def P_SAFE : Fld :=
  { off := 0x098, lsb := 0, width := 32, acc := .rw, reset := 0x0 }
/-- Positions, in this order -/
def P_HUB : Fld :=
  { off := 0x09C, lsb := 0, width := 32, acc := .rw, reset := 0x0 }
/-- Positions, in this order -/
def P_STORE : Fld :=
  { off := 0x0A0, lsb := 0, width := 32, acc := .rw, reset := 0x0 }
/-- Positions, in this order -/
def G_GRIP : Fld :=
  { off := 0x0A4, lsb := 0, width := 32, acc := .rw, reset := 0x0 }
/-- Refusals under R370, saturating -/
def INTLK_CNT : Fld :=
  { off := 0x0A8, lsb := 0, width := 32, acc := .rc, reset := 0x0 }
/-- Recoveries, saturating -/
def RECOV_CNT : Fld :=
  { off := 0x0AC, lsb := 0, width := 32, acc := .rc, reset := 0x0 }

/-- Part 0 of the page's fields. -/
def fields0 : List Fld :=
  [LD_STAT_OWN_OUT, LD_STAT_OWNX_IN, LD_STAT_CONFLICT, LD_STAT_HOMED,
   LD_STAT_G_HOLD, LD_STAT_RECOVERY, CUSTODY_KIND, CUSTODY_INTENT,
   CUSTODY_WHEEL, CUSTODY_STORE, TWIN_REL, STN_TOL,
   X_STN, Z_STN, P_SAFE, P_HUB,
   P_STORE, G_GRIP, INTLK_CNT, RECOV_CNT]

/-- Every field of the page, in the order of its table. -/
def fields : List Fld := fields0

end Sys2Proof.Machine.LOADER

namespace Sys2Proof.Machine.KICK

/-! Fields of KICK (R377 of 11_sled_and_loader_motion.md). -/

/-- 0–3 slot, 4 clear, 7 between or unhomed -/
def ELV_STAT_SLOT : Fld :=
  { off := 0x040, lsb := 0, width := 3, acc := .ro, reset := 0x7 }
def ELV_STAT_MOVING : Fld :=
  { off := 0x040, lsb := 3, width := 1, acc := .ro, reset := 0x0 }
/-- 0–3 slot, 4 clear -/
def ELV_CMD_TARGET : Fld :=
  { off := 0x044, lsb := 0, width := 3, acc := .wo, reset := 0x0 }
/-- 0 done, 1 busy, 2 not owned, 3 H32 not parked, 4 not homed, 5 fault -/
def ELV_RESULT_CODE : Fld :=
  { off := 0x048, lsb := 0, width := 4, acc := .ro, reset := 0x0 }
/-- Slot positions, steps -/
def ELV_POS : Fld :=
  { off := 0x04C, lsb := 0, width := 32, acc := .rw, reset := 0x0, count := 4, stride := 4 }
/-- Clear position, steps -/
def ELV_CLEAR : Fld :=
  { off := 0x05C, lsb := 0, width := 32, acc := .rw, reset := 0x0 }
/-- Moves completed, saturating -/
def ELV_MOVES : Fld :=
  { off := 0x060, lsb := 0, width := 32, acc := .rc, reset := 0x0 }

/-- Part 0 of the page's fields. -/
def fields0 : List Fld :=
  [ELV_STAT_SLOT, ELV_STAT_MOVING, ELV_CMD_TARGET, ELV_RESULT_CODE,
   ELV_POS, ELV_CLEAR, ELV_MOVES]

/-- Every field of the page, in the order of its table. -/
def fields : List Fld := fields0

end Sys2Proof.Machine.KICK
end

