-- ==== Sys2Proof/Machine/RegsRead.lean ====
section
/-!
DEFINITION. Fields of the HEAD, BAND, LDPC and OUTER pages and of the firing tables (chapters 05 to 08).
-/

namespace Sys2Proof.Machine.HEAD

/-! Fields of HEAD[h] (R168 of 05_slip_link.md). -/

/-- 0 down, 1 T0, 2 T1, 3 T2, 4 T3, 5 up, 6 out of service, 7 miswired, 8 failed; 9–15 reserved -/
def LINK_STAT_STATE : Fld :=
  { off := 0x040, lsb := 0, width := 4, acc := .ro, reset := 0x0 }
/-- Bit i: UL i in block and frame lock -/
def LINK_STAT_UL_OK : Fld :=
  { off := 0x040, lsb := 4, width := 9, acc := .ro, reset := 0x0 }
/-- Bit i: DL i locked, as reported by the companion -/
def LINK_STAT_DL_OK : Fld :=
  { off := 0x040, lsb := 13, width := 2, acc := .ro, reset := 0x0 }
/-- 0 none, 1 this port, 2 other port, from STATUS -/
def LINK_STAT_COMP_OWNER : Fld :=
  { off := 0x040, lsb := 16, width := 2, acc := .ro, reset := 0x0 }
/-- This controller sends OWN = 1 -/
def LINK_STAT_OWN_TX : Fld :=
  { off := 0x040, lsb := 18, width := 1, acc := .ro, reset := 0x0 }
/-- STATUS.FLAGS bit 4 -/
def LINK_STAT_CONFLICT : Fld :=
  { off := 0x040, lsb := 19, width := 1, acc := .ro, reset := 0x0 }
/-- STATUS.FLAGS bit 5 -/
def LINK_STAT_SHELF_MISMATCH : Fld :=
  { off := 0x040, lsb := 20, width := 1, acc := .ro, reset := 0x0 }
/-- Write 1 to retrain; reads 1 until T4 or failure -/
def LINK_CTRL_RETRAIN : Fld :=
  { off := 0x044, lsb := 0, width := 1, acc := .rw, reset := 0x0 }
/-- Spare under R144 -/
def LINK_CTRL_AUTO_SPARE : Fld :=
  { off := 0x044, lsb := 1, width := 1, acc := .rw, reset := 0x1 }
/-- Retrain under R166 -/
def LINK_CTRL_AUTO_RETRAIN : Fld :=
  { off := 0x044, lsb := 2, width := 1, acc := .rw, reset := 0x1 }
/-- A write of p, 0–7, moves position p to the standby link lane; 0xF none -/
def LINK_CTRL_FORCE_POS : Fld :=
  { off := 0x044, lsb := 4, width := 4, acc := .rw, reset := 0xF }
/-- Position on UL8; 0xF standby -/
def LINK_MAP_UL8_POS : Fld :=
  { off := 0x048, lsb := 0, width := 4, acc := .ro, reset := 0xF }
/-- Bit i: UL i faulted or retired -/
def LINK_MAP_UL_FAILED : Fld :=
  { off := 0x048, lsb := 4, width := 9, acc := .ro, reset := 0x0 }
/-- Downstream link lane in use -/
def LINK_MAP_DL_ACTIVE : Fld :=
  { off := 0x048, lsb := 13, width := 1, acc := .ro, reset := 0x0 }
/-- Bit i: DL i faulted or retired -/
def LINK_MAP_DL_FAILED : Fld :=
  { off := 0x048, lsb := 14, width := 2, acc := .ro, reset := 0x0 }
/-- R143 threshold; 0 acts as 1 -/
def CRC_CFG_CRC_THR : Fld :=
  { off := 0x04C, lsb := 0, width := 8, acc := .rw, reset := 0x8 }
/-- Window of 2^CRC_WIN frames -/
def CRC_CFG_CRC_WIN : Fld :=
  { off := 0x04C, lsb := 8, width := 4, acc := .rw, reset := 0xC }
/-- Retraining attempts -/
def CRC_CFG_RETRY_MAX : Fld :=
  { off := 0x04C, lsb := 16, width := 8, acc := .rw, reset := 0x8 }
/-- Gap between attempts, in units of 100 ms -/
def CRC_CFG_RETRY_GAP : Fld :=
  { off := 0x04C, lsb := 24, width := 8, acc := .rw, reset := 0xA }
/-- Corrupt upstream frames, saturating -/
def UL_CRC_ERR : Fld :=
  { off := 0x050, lsb := 0, width := 32, acc := .rc, reset := 0x0 }
/-- STATUS.DL_CRC -/
def DL_CRC_ERR : Fld :=
  { off := 0x054, lsb := 0, width := 32, acc := .ro, reset := 0x0 }
/-- Sideband messages discarded, saturating -/
def SB_DROP : Fld :=
  { off := 0x058, lsb := 0, width := 32, acc := .rc, reset := 0x0 }
/-- Link losses, saturating -/
def LOSS_CNT : Fld :=
  { off := 0x05C, lsb := 0, width := 32, acc := .rc, reset := 0x0 }
/-- Eye width of UL n, n = 0 to 8, at 0x060 + 4n, in 1/128 UI -/
def EYE_UL_WIDTH : Fld :=
  { off := 0x060, lsb := 0, width := 8, acc := .ro, reset := 0x0, count := 9, stride := 4 }
/-- Eye height in mV -/
def EYE_UL_HEIGHT : Fld :=
  { off := 0x060, lsb := 8, width := 10, acc := .ro, reset := 0x0, count := 9, stride := 4 }
/-- Measurement present -/
def EYE_UL_VALID : Fld :=
  { off := 0x060, lsb := 31, width := 1, acc := .ro, reset := 0x0, count := 9, stride := 4 }
/-- As EYE_UL, from STATUS -/
def EYE_DL0 : Fld :=
  { off := 0x084, lsb := 0, width := 32, acc := .ro, reset := 0x0 }
/-- As EYE_UL, from STATUS -/
def EYE_DL1 : Fld :=
  { off := 0x088, lsb := 0, width := 32, acc := .ro, reset := 0x0 }
/-- ECHO round trip less turnaround, in units of 0.64 ns -/
def LAT_RTT : Fld :=
  { off := 0x08C, lsb := 0, width := 16, acc := .ro, reset := 0x0 }
/-- Upstream skew between link lanes, in units of 0.64 ns -/
def LAT_SKEW : Fld :=
  { off := 0x08C, lsb := 16, width := 8, acc := .ro, reset := 0x0 }
/-- IDENT bytes 4–7 -/
def COMP_ID : Fld :=
  { off := 0x090, lsb := 0, width := 32, acc := .ro, reset := 0x0 }
/-- IDENT serial -/
def COMP_SER_LO : Fld :=
  { off := 0x094, lsb := 0, width := 32, acc := .ro, reset := 0x0 }
/-- IDENT serial -/
def COMP_SER_HI : Fld :=
  { off := 0x098, lsb := 0, width := 32, acc := .ro, reset := 0x0 }
/-- STATUS bytes 2–5 -/
def COMP_STAT : Fld :=
  { off := 0x09C, lsb := 0, width := 32, acc := .ro, reset := 0x0 }
/-- 0 empty, 1 filling, 2 complete, 3 firing -/
def FIRE_STAT_SLOT0 : Fld :=
  { off := 0x0A0, lsb := 0, width := 2, acc := .ro, reset := 0x0 }
/-- As SLOT0 -/
def FIRE_STAT_SLOT1 : Fld :=
  { off := 0x0A0, lsb := 2, width := 2, acc := .ro, reset := 0x0 }
/-- Settings skipped under R158, saturating -/
def FIRE_SKIP : Fld :=
  { off := 0x0A4, lsb := 0, width := 32, acc := .rc, reset := 0x0 }
/-- Chunks resent under R160, saturating -/
def FIRE_NACK : Fld :=
  { off := 0x0A8, lsb := 0, width := 32, acc := .rc, reset := 0x0 }

/-- Part 0 of the page's fields. -/
def fields0 : List Fld :=
  [LINK_STAT_STATE, LINK_STAT_UL_OK, LINK_STAT_DL_OK, LINK_STAT_COMP_OWNER,
   LINK_STAT_OWN_TX, LINK_STAT_CONFLICT, LINK_STAT_SHELF_MISMATCH, LINK_CTRL_RETRAIN,
   LINK_CTRL_AUTO_SPARE, LINK_CTRL_AUTO_RETRAIN, LINK_CTRL_FORCE_POS, LINK_MAP_UL8_POS,
   LINK_MAP_UL_FAILED, LINK_MAP_DL_ACTIVE, LINK_MAP_DL_FAILED, CRC_CFG_CRC_THR,
   CRC_CFG_CRC_WIN, CRC_CFG_RETRY_MAX, CRC_CFG_RETRY_GAP, UL_CRC_ERR,
   DL_CRC_ERR, SB_DROP, LOSS_CNT, EYE_UL_WIDTH,
   EYE_UL_HEIGHT, EYE_UL_VALID, EYE_DL0, EYE_DL1,
   LAT_RTT, LAT_SKEW, COMP_ID, COMP_SER_LO,
   COMP_SER_HI, COMP_STAT, FIRE_STAT_SLOT0, FIRE_STAT_SLOT1,
   FIRE_SKIP, FIRE_NACK]

/-- Every field of the page, in the order of its table. -/
def fields : List Fld := fields0

end Sys2Proof.Machine.HEAD

namespace Sys2Proof.Machine.BAND

/-! Fields of BAND[h] (R217 of 06_read_channel_band_detection.md). -/

/-- Current ring, 0–20; 0x1F none -/
def BAND_STAT_RING : Fld :=
  { off := 0x040, lsb := 0, width := 5, acc := .ro, reset := 0x1F }
/-- Current layer -/
def BAND_STAT_LAYER : Fld :=
  { off := 0x040, lsb := 5, width := 4, acc := .ro, reset := 0x0 }
/-- 0 idle, 1 acquiring, 2 locked, 3 flywheeling -/
def BAND_STAT_MODE : Fld :=
  { off := 0x040, lsb := 9, width := 2, acc := .ro, reset := 0x0 }
/-- Edge reconstruction in use under R182 -/
def BAND_STAT_EDGE_VALID : Fld :=
  { off := 0x040, lsb := 11, width := 1, acc := .ro, reset := 0x0 }
/-- Consecutive flywheeled segments -/
def BAND_STAT_FLY_RUN : Fld :=
  { off := 0x040, lsb := 12, width := 4, acc := .ro, reset := 0x0 }
/-- Head out of reading service under R206 -/
def BAND_STAT_NO_READ : Fld :=
  { off := 0x040, lsb := 16, width := 1, acc := .ro, reset := 0x0 }
/-- Setting address (R116) being read -/
def BAND_POS : Fld :=
  { off := 0x044, lsb := 0, width := 32, acc := .ro, reset := 0x0 }
/-- Bit b: beam Bb masked under R205 -/
def BEAM_MASK : Fld :=
  { off := 0x048, lsb := 0, width := 16, acc := .rw, reset := 0x0 }
/-- Bit 16 + b: beam Bb dead under R204 -/
def BEAM_DEAD : Fld :=
  { off := 0x048, lsb := 16, width := 16, acc := .ro, reset := 0x0 }
/-- Beam served by CC16; 0x1F none -/
def CC_MAP_SPARE_BEAM : Fld :=
  { off := 0x04C, lsb := 0, width := 5, acc := .ro, reset := 0x1F }
/-- CC16 re-detecting -/
def CC_MAP_REDET_BUSY : Fld :=
  { off := 0x04C, lsb := 5, width := 1, acc := .ro, reset := 0x0 }
/-- CC16 under rotating self-test -/
def CC_MAP_TEST_BUSY : Fld :=
  { off := 0x04C, lsb := 6, width := 1, acc := .ro, reset := 0x0 }
/-- Bit c: CCc failed -/
def CC_FAILED : Fld :=
  { off := 0x050, lsb := 0, width := 17, acc := .ro, reset := 0x0 }
/-- 2–12 -/
def TR_CFG_KP_SHIFT : Fld :=
  { off := 0x054, lsb := 0, width := 5, acc := .rw, reset := 0x6 }
/-- 8–20 -/
def TR_CFG_KI_SHIFT : Fld :=
  { off := 0x054, lsb := 8, width := 5, acc := .rw, reset := 0xD }
/-- 1–12 -/
def TR_CFG_ACQ_KP_SHIFT : Fld :=
  { off := 0x054, lsb := 16, width := 5, acc := .rw, reset := 0x3 }
/-- 4–20 -/
def TR_CFG_ACQ_KI_SHIFT : Fld :=
  { off := 0x054, lsb := 24, width := 5, acc := .rw, reset := 0x9 }
/-- Channel bits at acquisition gains, 256–65,535 -/
def TR_ACQ_ACQ_LEN : Fld :=
  { off := 0x058, lsb := 0, width := 16, acc := .rw, reset := 0x1000 }
/-- Units of 10^-4 of r, 10–1,000 -/
def TR_ACQ_LOCK_RANGE : Fld :=
  { off := 0x058, lsb := 16, width := 16, acc := .rw, reset := 0xC8 }
/-- 8–20 -/
def EQ_CFG_MU_SHIFT : Fld :=
  { off := 0x05C, lsb := 0, width := 5, acc := .rw, reset := 0xE }
/-- Tap bound in units of 1/256 -/
def EQ_CFG_EQ_BOUND : Fld :=
  { off := 0x05C, lsb := 8, width := 8, acc := .rw, reset := 0x40 }
/-- Tap 11 fixed -/
def EQ_CFG_FIX_MAIN : Fld :=
  { off := 0x05C, lsb := 16, width := 1, acc := .rw, reset := 0x1 }
/-- Equaliser adapts -/
def EQ_CFG_EQ_ADAPT : Fld :=
  { off := 0x05C, lsb := 17, width := 1, acc := .rw, reset := 0x1 }
/-- Canceller on -/
def EQ_CFG_CANC_EN : Fld :=
  { off := 0x05C, lsb := 18, width := 1, acc := .rw, reset := 0x1 }
/-- Canceller adapts -/
def EQ_CFG_CANC_ADAPT : Fld :=
  { off := 0x05C, lsb := 19, width := 1, acc := .rw, reset := 0x1 }
/-- Edge reconstruction permitted -/
def EQ_CFG_EDGE_EN : Fld :=
  { off := 0x05C, lsb := 20, width := 1, acc := .rw, reset := 0x1 }
/-- 6–20 -/
def EQ_CFG_CANC_MU_SHIFT : Fld :=
  { off := 0x05C, lsb := 24, width := 5, acc := .rw, reset := 0xC }
/-- g0 [7:0], g1 [15:8], g2 [23:16], g3 [31:24], signed; under R179 -/
def TARGET : Fld :=
  { off := 0x060, lsb := 0, width := 32, acc := .rw, reset := 0xC18180C }
/-- 6–20 -/
def AGC_CFG_GAIN_MU_SHIFT : Fld :=
  { off := 0x064, lsb := 0, width := 5, acc := .rw, reset := 0xC }
/-- 6–20 -/
def AGC_CFG_OFS_MU_SHIFT : Fld :=
  { off := 0x064, lsb := 8, width := 5, acc := .rw, reset := 0xE }
/-- 6–24 -/
def AGC_CFG_ASYM_MU_SHIFT : Fld :=
  { off := 0x064, lsb := 16, width := 5, acc := .rw, reset := 0x10 }
/-- Units of 1/16 of the start gain -/
def AGC_CFG_GAIN_BOUND : Fld :=
  { off := 0x064, lsb := 24, width := 3, acc := .rw, reset := 0x4 }
/-- Units of 2 sample LSB -/
def AGC_CFG_OFS_BOUND : Fld :=
  { off := 0x064, lsb := 27, width := 3, acc := .rw, reset := 0x4 }
/-- 0: marks lower the level (Lualith) -/
def AGC_CFG_SIG_POL : Fld :=
  { off := 0x064, lsb := 30, width := 1, acc := .rw, reset := 0x0 }
/-- 0–24 -/
def SYNC_CFG_MAXERR : Fld :=
  { off := 0x068, lsb := 0, width := 6, acc := .rw, reset := 0x6 }
/-- 1–16 -/
def SYNC_CFG_SYNC_MIN : Fld :=
  { off := 0x068, lsb := 8, width := 5, acc := .rw, reset := 0x9 }
/-- 1–15 -/
def SYNC_CFG_FLY_MAX : Fld :=
  { off := 0x068, lsb := 16, width := 4, acc := .rw, reset := 0x8 }
/-- Acquisition window in units of ±64 channel bits, 1–15 -/
def SYNC_CFG_ACQ_WIN : Fld :=
  { off := 0x068, lsb := 20, width := 4, acc := .rw, reset := 0x8 }
/-- MSE average over 2^MSE_AVG segments, 0–12 -/
def SYNC_CFG_MSE_AVG : Fld :=
  { off := 0x068, lsb := 24, width := 4, acc := .rw, reset := 0x6 }
/-- 1–16 -/
def ADDR_CFG_ADDR_MIN : Fld :=
  { off := 0x06C, lsb := 0, width := 5, acc := .rw, reset := 0x5 }
/-- R185 -/
def LLR_CFG_LLR_SCALE : Fld :=
  { off := 0x070, lsb := 0, width := 8, acc := .rw, reset := 0x20 }
/-- -14.0 dB, signed, 0.1 dB -/
def SHELF_CFG_WEAK_MSE : Fld :=
  { off := 0x074, lsb := 0, width := 12, acc := .rw, reset := 0xF74 }
/-- Weak copies per segment time, 0–15 -/
def SHELF_CFG_WEAK_CAP : Fld :=
  { off := 0x074, lsb := 16, width := 4, acc := .rw, reset := 0x2 }
/-- Weak capture on -/
def SHELF_CFG_CAPTURE_EN : Fld :=
  { off := 0x074, lsb := 24, width := 1, acc := .rw, reset := 0x1 }
/-- Copies of failed codewords on -/
def SHELF_CFG_FAIL_COPY : Fld :=
  { off := 0x074, lsb := 25, width := 1, acc := .rw, reset := 0x1 }
/-- This head's CC16 serves re-detections -/
def SHELF_CFG_REDET_EN : Fld :=
  { off := 0x074, lsb := 26, width := 1, acc := .rw, reset := 0x1 }
/-- R193, in sample LSB -/
def BLANK_CFG_BLANK_THR : Fld :=
  { off := 0x078, lsb := 0, width := 7, acc := .rw, reset := 0x8 }
/-- 1: reload under R207 -/
def ADAPT_CTRL_RELOAD : Fld :=
  { off := 0x07C, lsb := 0, width := 1, acc := .wo, reset := 0x0 }
/-- Hold all adaptation -/
def ADAPT_CTRL_FREEZE : Fld :=
  { off := 0x07C, lsb := 1, width := 1, acc := .rw, reset := 0x0 }
/-- 1: re-acquire at the next setting -/
def ADAPT_CTRL_REACQ : Fld :=
  { off := 0x07C, lsb := 2, width := 1, acc := .wo, reset := 0x0 }
/-- R210, signed, 0.1 dB -/
def MSE_AVG : Fld :=
  { off := 0x080, lsb := 0, width := 12, acc := .ro, reset := 0x0, count := 16, stride := 4 }
/-- Average present -/
def MSE_VALID : Fld :=
  { off := 0x080, lsb := 31, width := 1, acc := .ro, reset := 0x0, count := 16, stride := 4 }
/-- Segments processed, saturating -/
def SEG_CNT : Fld :=
  { off := 0x0C0, lsb := 0, width := 32, acc := .rc, reset := 0x0 }
/-- Segments flywheeled -/
def FLY_SEG : Fld :=
  { off := 0x0C4, lsb := 0, width := 32, acc := .rc, reset := 0x0 }
/-- Beams re-timed -/
def RETIME_CNT : Fld :=
  { off := 0x0C8, lsb := 0, width := 32, acc := .rc, reset := 0x0 }
/-- Re-acquisitions, including those under R176 and R192 -/
def REACQ_CNT : Fld :=
  { off := 0x0CC, lsb := 0, width := 32, acc := .rc, reset := 0x0 }
/-- Mismatched segments -/
def ADDR_ERR : Fld :=
  { off := 0x0D0, lsb := 0, width := 32, acc := .rc, reset := 0x0 }
/-- Pieces erased under R187 -/
def ERASED_PIECES : Fld :=
  { off := 0x0D4, lsb := 0, width := 32, acc := .rc, reset := 0x0 }
/-- Pieces copied to shard capture -/
def SHELF_CAPT : Fld :=
  { off := 0x0D8, lsb := 0, width := 32, acc := .rc, reset := 0x0 }
/-- Copies and edge reads dropped -/
def SHELF_DROP : Fld :=
  { off := 0x0DC, lsb := 0, width := 32, acc := .rc, reset := 0x0 }
/-- Tap-bound hits under R178 -/
def EQ_BOUND_HIT : Fld :=
  { off := 0x0E0, lsb := 0, width := 32, acc := .rc, reset := 0x0 }
/-- Shared frequency term minus r, signed, units of 10^-6 of r -/
def TR_STAT_FREQ_OFS : Fld :=
  { off := 0x0E4, lsb := 0, width := 16, acc := .ro, reset := 0x0 }
/-- Last consensus offset, signed -/
def SYNC_LAST_C : Fld :=
  { off := 0x0E8, lsb := 0, width := 8, acc := .ro, reset := 0x0 }
/-- Beams that found sync -/
def SYNC_LAST_FOUND : Fld :=
  { off := 0x0E8, lsb := 8, width := 5, acc := .ro, reset := 0x0 }
/-- Last segment flywheeled -/
def SYNC_LAST_FLY : Fld :=
  { off := 0x0E8, lsb := 13, width := 1, acc := .ro, reset := 0x0 }
/-- Re-detection passes run on this head's CC16 -/
def REDET_CNT : Fld :=
  { off := 0x0EC, lsb := 0, width := 32, acc := .rc, reset := 0x0 }

/-- Part 0 of the page's fields. -/
def fields0 : List Fld :=
  [BAND_STAT_RING, BAND_STAT_LAYER, BAND_STAT_MODE, BAND_STAT_EDGE_VALID,
   BAND_STAT_FLY_RUN, BAND_STAT_NO_READ, BAND_POS, BEAM_MASK,
   BEAM_DEAD, CC_MAP_SPARE_BEAM, CC_MAP_REDET_BUSY, CC_MAP_TEST_BUSY,
   CC_FAILED, TR_CFG_KP_SHIFT, TR_CFG_KI_SHIFT, TR_CFG_ACQ_KP_SHIFT,
   TR_CFG_ACQ_KI_SHIFT, TR_ACQ_ACQ_LEN, TR_ACQ_LOCK_RANGE, EQ_CFG_MU_SHIFT,
   EQ_CFG_EQ_BOUND, EQ_CFG_FIX_MAIN, EQ_CFG_EQ_ADAPT, EQ_CFG_CANC_EN,
   EQ_CFG_CANC_ADAPT, EQ_CFG_EDGE_EN, EQ_CFG_CANC_MU_SHIFT, TARGET,
   AGC_CFG_GAIN_MU_SHIFT, AGC_CFG_OFS_MU_SHIFT, AGC_CFG_ASYM_MU_SHIFT, AGC_CFG_GAIN_BOUND,
   AGC_CFG_OFS_BOUND, AGC_CFG_SIG_POL, SYNC_CFG_MAXERR, SYNC_CFG_SYNC_MIN,
   SYNC_CFG_FLY_MAX, SYNC_CFG_ACQ_WIN, SYNC_CFG_MSE_AVG, ADDR_CFG_ADDR_MIN]

/-- Part 1 of the page's fields. -/
def fields1 : List Fld :=
  [LLR_CFG_LLR_SCALE, SHELF_CFG_WEAK_MSE, SHELF_CFG_WEAK_CAP, SHELF_CFG_CAPTURE_EN,
   SHELF_CFG_FAIL_COPY, SHELF_CFG_REDET_EN, BLANK_CFG_BLANK_THR, ADAPT_CTRL_RELOAD,
   ADAPT_CTRL_FREEZE, ADAPT_CTRL_REACQ, MSE_AVG, MSE_VALID,
   SEG_CNT, FLY_SEG, RETIME_CNT, REACQ_CNT,
   ADDR_ERR, ERASED_PIECES, SHELF_CAPT, SHELF_DROP,
   EQ_BOUND_HIT, TR_STAT_FREQ_OFS, SYNC_LAST_C, SYNC_LAST_FOUND,
   SYNC_LAST_FLY, REDET_CNT]

/-- Every field of the page, in the order of its table. -/
def fields : List Fld := fields0 ++ fields1

end Sys2Proof.Machine.BAND

namespace Sys2Proof.Machine.LDPC

/-! Fields of LDPC (R253 of 07_ldpc_outer_code_and_retry.md). -/

/-- Active cells, 0–18 -/
def POOL_STAT_ACTIVE : Fld :=
  { off := 0x040, lsb := 0, width := 5, acc := .ro, reset := 0x0 }
/-- Spares not in use -/
def POOL_STAT_SPARE_IDLE : Fld :=
  { off := 0x040, lsb := 8, width := 5, acc := .ro, reset := 0x0 }
/-- Bit c: LDc active -/
def CELL_MAP : Fld :=
  { off := 0x044, lsb := 0, width := 18, acc := .ro, reset := 0xFFFF }
/-- Bit c: LDc failed -/
def CELL_FAILED : Fld :=
  { off := 0x048, lsb := 0, width := 18, acc := .ro, reset := 0x0 }
/-- 1–63 -/
def ITER_CFG_ITER_L0 : Fld :=
  { off := 0x04C, lsb := 0, width := 6, acc := .rw, reset := 0x8 }
/-- 1–63 -/
def ITER_CFG_ITER_L1 : Fld :=
  { off := 0x04C, lsb := 8, width := 6, acc := .rw, reset := 0x20 }
/-- Normalisation in 1/16, 8–15 -/
def ITER_CFG_NORM : Fld :=
  { off := 0x04C, lsb := 16, width := 4, acc := .rw, reset := 0xC }
/-- R223, 0–8,192 -/
def ERASE_MAX : Fld :=
  { off := 0x050, lsb := 0, width := 14, acc := .rw, reset := 0x2000 }
/-- Percent, 5–100 -/
def SCHED_CFG_L1_SHARE : Fld :=
  { off := 0x054, lsb := 0, width := 7, acc := .rw, reset := 0x19 }
/-- Percent, 50–100 -/
def SCHED_CFG_ADMIT_PCT : Fld :=
  { off := 0x054, lsb := 8, width := 7, acc := .rw, reset := 0x5A }
/-- Admissible coded rate, Gbit/s -/
def CAPACITY : Fld :=
  { off := 0x058, lsb := 0, width := 16, acc := .ro, reset := 0x300 }
/-- Offered coded rate over the last 1 ms, Gbit/s -/
def LOAD : Fld :=
  { off := 0x058, lsb := 16, width := 16, acc := .ro, reset := 0x0 }
/-- Class A codewords queued, 0–40 -/
def QUEUE_A : Fld :=
  { off := 0x05C, lsb := 0, width := 8, acc := .ro, reset := 0x0 }
/-- Class B codewords waiting -/
def QUEUE_B : Fld :=
  { off := 0x05C, lsb := 8, width := 8, acc := .ro, reset := 0x0 }
/-- Peak of QUEUE.A -/
def QUEUE_A_PEAK : Fld :=
  { off := 0x05C, lsb := 16, width := 8, acc := .rc, reset := 0x0 }
/-- Bits [4n+3:4n]: weight of cell 8k + n for register k; 0 means 1 -/
def CELL_WT0 : Fld :=
  { off := 0x060, lsb := 0, width := 32, acc := .rw, reset := 0x11111111 }
/-- Bits [4n+3:4n]: weight of cell 8k + n for register k; 0 means 1 -/
def CELL_WT1 : Fld :=
  { off := 0x064, lsb := 0, width := 32, acc := .rw, reset := 0x11111111 }
/-- Weights of LD16 and LD17 -/
def CELL_WT2 : Fld :=
  { off := 0x068, lsb := 0, width := 8, acc := .rw, reset := 0x11 }
/-- Codewords decoded at L0 -/
def CW_L0 : Fld :=
  { off := 0x070, lsb := 0, width := 32, acc := .rc, reset := 0x0 }
/-- L0 failures -/
def CW_L0_FAIL : Fld :=
  { off := 0x074, lsb := 0, width := 32, acc := .rc, reset := 0x0 }
/-- L1 passes -/
def CW_L1_PASS : Fld :=
  { off := 0x078, lsb := 0, width := 32, acc := .rc, reset := 0x0 }
/-- L1 failures -/
def CW_L1_FAIL : Fld :=
  { off := 0x07C, lsb := 0, width := 32, acc := .rc, reset := 0x0 }
/-- R226 -/
def CW_OVERRUN : Fld :=
  { off := 0x080, lsb := 0, width := 32, acc := .rc, reset := 0x0 }
/-- R223 -/
def CW_ERASE_SKIP : Fld :=
  { off := 0x084, lsb := 0, width := 32, acc := .rc, reset := 0x0 }
/-- Codewords re-issued under R227; a cell fault that meets no codeword in decode re-issues nothing and is not counted -/
def CW_REISSUE : Fld :=
  { off := 0x088, lsb := 0, width := 32, acc := .rc, reset := 0x0 }
/-- Mean L0 iterations over the last 65,536 codewords, 1/256 units -/
def ITER_AVG : Fld :=
  { off := 0x08C, lsb := 0, width := 16, acc := .ro, reset := 0x0 }

/-- Part 0 of the page's fields. -/
def fields0 : List Fld :=
  [POOL_STAT_ACTIVE, POOL_STAT_SPARE_IDLE, CELL_MAP, CELL_FAILED,
   ITER_CFG_ITER_L0, ITER_CFG_ITER_L1, ITER_CFG_NORM, ERASE_MAX,
   SCHED_CFG_L1_SHARE, SCHED_CFG_ADMIT_PCT, CAPACITY, LOAD,
   QUEUE_A, QUEUE_B, QUEUE_A_PEAK, CELL_WT0,
   CELL_WT1, CELL_WT2, CW_L0, CW_L0_FAIL,
   CW_L1_PASS, CW_L1_FAIL, CW_OVERRUN, CW_ERASE_SKIP,
   CW_REISSUE, ITER_AVG]

/-- Every field of the page, in the order of its table. -/
def fields : List Fld := fields0

end Sys2Proof.Machine.LDPC

namespace Sys2Proof.Machine.OUTER

/-! Fields of OUTER (R254 of 07_ldpc_outer_code_and_retry.md). -/

/-- Rung L0, always enabled -/
def LADDER_CFG_RUNG_EN0 : Fld :=
  { off := 0x040, lsb := 0, width := 1, acc := .ro, reset := 0x1 }
/-- Bit n enables rung Ln, n = 1–7 -/
def LADDER_CFG_RUNG_EN : Fld :=
  { off := 0x040, lsb := 1, width := 7, acc := .rw, reset := 0x7F }
/-- Rung L8, always enabled -/
def LADDER_CFG_RUNG_EN8 : Fld :=
  { off := 0x040, lsb := 8, width := 1, acc := .ro, reset := 0x1 }
/-- R244 -/
def LADDER_CFG_REV_POLICY : Fld :=
  { off := 0x040, lsb := 12, width := 1, acc := .rw, reset := 0x0 }
/-- R232 -/
def LADDER_CFG_OUTER_CHECK : Fld :=
  { off := 0x040, lsb := 13, width := 1, acc := .rw, reset := 0x1 }
/-- Bit i enables ALTi -/
def L2_CFG_ALT_MASK : Fld :=
  { off := 0x044, lsb := 0, width := 3, acc := .rw, reset := 0x7 }
/-- 0–8 -/
def L2_CFG_TURBO_MAX : Fld :=
  { off := 0x044, lsb := 4, width := 4, acc := .rw, reset := 0x2 }
/-- R240, 0–15 -/
def L2_CFG_SLIDE_MAX : Fld :=
  { off := 0x044, lsb := 8, width := 4, acc := .rw, reset := 0x4 }
/-- R241, units of 10 µs, 10–10,000 -/
def L2_CFG_NOREV_BUDGET : Fld :=
  { off := 0x044, lsb := 16, width := 16, acc := .rw, reset := 0x64 }
/-- First tracking offset, nm -/
def L4_CFG_TR_STEP1 : Fld :=
  { off := 0x048, lsb := 0, width := 8, acc := .rw, reset := 0xF }
/-- Second tracking offset, nm -/
def L4_CFG_TR_STEP2 : Fld :=
  { off := 0x048, lsb := 8, width := 8, acc := .rw, reset := 0x1E }
/-- Focus offset, nm -/
def L4_CFG_FO_STEP : Fld :=
  { off := 0x048, lsb := 16, width := 8, acc := .rw, reset := 0x28 }
/-- Steps taken in table order, 1–6 -/
def L4_CFG_L4_STEPS : Fld :=
  { off := 0x048, lsb := 24, width := 3, acc := .rw, reset := 0x6 }
/-- Units of 0.01° -/
def L5_CFG_TILT_STEP : Fld :=
  { off := 0x04C, lsb := 0, width := 8, acc := .rw, reset := 0xA }
/-- Percent of read power -/
def L5_CFG_PWR_STEP : Fld :=
  { off := 0x04C, lsb := 8, width := 8, acc := .rw, reset := 0xA }
/-- 1–4 -/
def L5_CFG_L5_STEPS : Fld :=
  { off := 0x04C, lsb := 16, width := 3, acc := .rw, reset := 0x4 }
/-- R249, ms, 10–1,000 -/
def LADDER_TMO : Fld :=
  { off := 0x050, lsb := 0, width := 16, acc := .rw, reset := 0x96 }
/-- R228, buffers -/
def FAIL_RESERVE : Fld :=
  { off := 0x054, lsb := 0, width := 20, acc := .rw, reset := 0x10000 }
/-- Free capture buffers -/
def SHARD_FREE : Fld :=
  { off := 0x058, lsb := 0, width := 20, acc := .ro, reset := 0x80000 }
/-- Settings under the ladder -/
def LADDER_STAT_SETTINGS : Fld :=
  { off := 0x05C, lsb := 0, width := 8, acc := .ro, reset := 0x0 }
/-- Heads in a revolution step -/
def LADDER_STAT_REV_HEADS : Fld :=
  { off := 0x05C, lsb := 8, width := 6, acc := .ro, reset := 0x0 }
/-- n = 0–8: settings completed at Ln for n ≤ 6, blocks for n = 7, 8 -/
def RUNG_DONE : Fld :=
  { off := 0x070, lsb := 0, width := 32, acc := .rc, reset := 0x0, count := 9, stride := 4 }
/-- Revolution steps taken -/
def REV_USED : Fld :=
  { off := 0x094, lsb := 0, width := 32, acc := .rc, reset := 0x0 }
/-- Slots corrected by the outer code -/
def OUTER_CORR : Fld :=
  { off := 0x098, lsb := 0, width := 32, acc := .rc, reset := 0x0 }
/-- R233 -/
def MISCORR : Fld :=
  { off := 0x09C, lsb := 0, width := 32, acc := .rc, reset := 0x0 }
/-- R234 -/
def OUTER_UNVERIFIED : Fld :=
  { off := 0x0A0, lsb := 0, width := 32, acc := .rc, reset := 0x0 }
/-- Failed outer attempts -/
def OUTER_FAIL : Fld :=
  { off := 0x0A4, lsb := 0, width := 32, acc := .rc, reset := 0x0 }
/-- R248 -/
def GCM_FAIL : Fld :=
  { off := 0x0A8, lsb := 0, width := 32, acc := .rc, reset := 0x0 }
/-- R249 -/
def LADDER_TIMEOUT : Fld :=
  { off := 0x0AC, lsb := 0, width := 32, acc := .rc, reset := 0x0 }
/-- PBA of the last block lost -/
def LAST_SHARD_PBA : Fld :=
  { off := 0x0B0, lsb := 0, width := 24, acc := .ro, reset := 0x0 }
/-- Head that read it -/
def LAST_SHARD_HEAD : Fld :=
  { off := 0x0B0, lsb := 24, width := 6, acc := .ro, reset := 0x0 }
/-- A block has been lost since reset -/
def LAST_SHARD_VALID : Fld :=
  { off := 0x0B0, lsb := 31, width := 1, acc := .ro, reset := 0x0 }
/-- Retention number of the oldest retained piece, R231 -/
def SHARD_SEQ_OLDEST : Fld :=
  { off := 0x0C0, lsb := 0, width := 16, acc := .ro, reset := 0x0 }
/-- Retention number of the newest retained piece -/
def SHARD_SEQ_NEWEST : Fld :=
  { off := 0x0C0, lsb := 16, width := 16, acc := .ro, reset := 0x0 }
/-- Piece in the shard window; a write restarts the window at its descriptor -/
def SHARD_IDX : Fld :=
  { off := 0x0C4, lsb := 0, width := 16, acc := .rw, reset := 0x0 }
/-- No retained piece at or after SHARD_IDX -/
def SHARD_STAT_EMPTY : Fld :=
  { off := 0x0C4, lsb := 16, width := 1, acc := .ro, reset := 0x1 }
/-- The selected piece had been freed; R231 -/
def SHARD_STAT_SKIPPED : Fld :=
  { off := 0x0C4, lsb := 17, width := 1, acc := .ro, reset := 0x0 }
/-- Window port, R231 -/
def SHARD_WIN : Fld :=
  { off := 0x0C8, lsb := 0, width := 32, acc := .ro, reset := 0x0 }

/-- Part 0 of the page's fields. -/
def fields0 : List Fld :=
  [LADDER_CFG_RUNG_EN0, LADDER_CFG_RUNG_EN, LADDER_CFG_RUNG_EN8, LADDER_CFG_REV_POLICY,
   LADDER_CFG_OUTER_CHECK, L2_CFG_ALT_MASK, L2_CFG_TURBO_MAX, L2_CFG_SLIDE_MAX,
   L2_CFG_NOREV_BUDGET, L4_CFG_TR_STEP1, L4_CFG_TR_STEP2, L4_CFG_FO_STEP,
   L4_CFG_L4_STEPS, L5_CFG_TILT_STEP, L5_CFG_PWR_STEP, L5_CFG_L5_STEPS,
   LADDER_TMO, FAIL_RESERVE, SHARD_FREE, LADDER_STAT_SETTINGS,
   LADDER_STAT_REV_HEADS, RUNG_DONE, REV_USED, OUTER_CORR,
   MISCORR, OUTER_UNVERIFIED, OUTER_FAIL, GCM_FAIL,
   LADDER_TIMEOUT, LAST_SHARD_PBA, LAST_SHARD_HEAD, LAST_SHARD_VALID,
   SHARD_SEQ_OLDEST, SHARD_SEQ_NEWEST, SHARD_IDX, SHARD_STAT_EMPTY,
   SHARD_STAT_SKIPPED, SHARD_WIN]

/-- Every field of the page, in the order of its table. -/
def fields : List Fld := fields0

end Sys2Proof.Machine.OUTER

namespace Sys2Proof.Machine.FIRE

/-! Fields of the firing parameter table at 0x26_1000 (R279 of 08_firing_and_bisque.md). -/

/-- Run length limit, s, 1–255 -/
def RUN_MAX_S : Fld :=
  { off := 0x000, lsb := 0, width := 8, acc := .rw, reset := 0x3C }
/-- Units of 100 ms, 1–255 -/
def READ_WAIT_MAX : Fld :=
  { off := 0x000, lsb := 8, width := 8, acc := .rw, reset := 0x14 }
/-- Ready settings in the load -/
def RUN_START : Fld :=
  { off := 0x000, lsb := 16, width := 16, acc := .rw, reset := 0x200 }
/-- 0–4 -/
def BQ_FAIL_MAX : Fld :=
  { off := 0x004, lsb := 0, width := 4, acc := .rw, reset := 0x1 }
/-- 0–15 -/
def BQ_FLY_MAX : Fld :=
  { off := 0x004, lsb := 4, width := 4, acc := .rw, reset := 0x0 }
/-- Units of 1/16 iteration -/
def BQ_ITER_MAX : Fld :=
  { off := 0x004, lsb := 8, width := 8, acc := .rw, reset := 0x30 }
/-- -17.0 dB, signed, 0.1 dB -/
def BQ_MSE_MAX : Fld :=
  { off := 0x004, lsb := 16, width := 12, acc := .rw, reset := 0xF56 }
/-- R271 -/
def RPC_EN : Fld :=
  { off := 0x008, lsb := 0, width := 1, acc := .rw, reset := 0x1 }
/-- 1–8 -/
def RPC_GAIN_SHIFT : Fld :=
  { off := 0x008, lsb := 4, width := 4, acc := .rw, reset := 0x3 }
/-- Units of 1/256 -/
def RPC_DEADBAND : Fld :=
  { off := 0x008, lsb := 16, width := 8, acc := .rw, reset := 0x3 }
/-- R277 -/
def RETIRE_MISS : Fld :=
  { off := 0x00C, lsb := 0, width := 8, acc := .rw, reset := 0x8 }
/-- Settings -/
def RETIRE_WIN : Fld :=
  { off := 0x00C, lsb := 8, width := 16, acc := .rw, reset := 0x400 }
/-- 1–15 -/
def REFIRE_MAX : Fld :=
  { off := 0x00C, lsb := 24, width := 4, acc := .rw, reset := 0x3 }
/-- Custodian only -/
def AUTO_RETIRE : Fld :=
  { off := 0x00C, lsb := 28, width := 1, acc := .rw, reset := 0x1, cust := true }
/-- R264, units of 1/16 -/
def VEL_EXP : Fld :=
  { off := 0x010, lsb := 0, width := 5, acc := .rw, reset := 0x8 }
/-- R261, 1–255 -/
def COLLIDE_MAX : Fld :=
  { off := 0x010, lsb := 8, width := 8, acc := .rw, reset := 0x4 }
/-- R260, settings -/
def PLAN_AHEAD : Fld :=
  { off := 0x010, lsb := 16, width := 16, acc := .rw, reset := 0x2000 }
/-- Bit h: calibrate H(h) -/
def CAL_REQ_LO : Fld :=
  { off := 0x014, lsb := 0, width := 32, acc := .wo, reset := 0x0 }
/-- Calibrate H32 -/
def CAL_REQ_HI : Fld :=
  { off := 0x018, lsb := 0, width := 1, acc := .wo, reset := 0x0 }
/-- Bit h: H(h) write-retired; custodian only -/
def WR_RETIRE_LO : Fld :=
  { off := 0x01C, lsb := 0, width := 32, acc := .rw, reset := 0x0, cust := true }
/-- H32 -/
def WR_RETIRE_HI : Fld :=
  { off := 0x020, lsb := 0, width := 1, acc := .rw, reset := 0x0, cust := true }
/-- µW -/
def READ_PWR_MIN : Fld :=
  { off := 0x024, lsb := 0, width := 16, acc := .rw, reset := 0x12C }
/-- µW -/
def READ_PWR_MAX : Fld :=
  { off := 0x024, lsb := 16, width := 16, acc := .rw, reset := 0x5DC }

/-- Part 0 of the page's fields. -/
def fields0 : List Fld :=
  [RUN_MAX_S, READ_WAIT_MAX, RUN_START, BQ_FAIL_MAX,
   BQ_FLY_MAX, BQ_ITER_MAX, BQ_MSE_MAX, RPC_EN,
   RPC_GAIN_SHIFT, RPC_DEADBAND, RETIRE_MISS, RETIRE_WIN,
   REFIRE_MAX, AUTO_RETIRE, VEL_EXP, COLLIDE_MAX,
   PLAN_AHEAD, CAL_REQ_LO, CAL_REQ_HI, WR_RETIRE_LO,
   WR_RETIRE_HI, READ_PWR_MIN, READ_PWR_MAX]

/-- Every field of the page, in the order of its table. -/
def fields : List Fld := fields0

end Sys2Proof.Machine.FIRE

namespace Sys2Proof.Machine.FIRESTAT

/-! Fields of the firing status record of head h (R280 of 08_firing_and_bisque.md). -/

/-- 0 idle, 1 blank scan, 2 calibrating, 3 firing, 4 bisque, 5 retired -/
def STATE : Fld :=
  { off := 0x000, lsb := 0, width := 3, acc := .ro, reset := 0x0 }
/-- R277; 0 none -/
def RETIRE_CAUSE : Fld :=
  { off := 0x000, lsb := 8, width := 8, acc := .ro, reset := 0x0 }
/-- Settings fired -/
def FIRED : Fld :=
  { off := 0x004, lsb := 0, width := 32, acc := .ro, reset := 0x0 }
/-- Settings given a verdict -/
def BQ_CHECKED : Fld :=
  { off := 0x008, lsb := 0, width := 32, acc := .ro, reset := 0x0 }
/-- Misses -/
def BQ_MISS : Fld :=
  { off := 0x00C, lsb := 0, width := 32, acc := .ro, reset := 0x0 }
/-- Remap entries made -/
def REMAPS : Fld :=
  { off := 0x010, lsb := 0, width := 32, acc := .ro, reset := 0x0 }
/-- R261 -/
def COLLISIONS : Fld :=
  { off := 0x014, lsb := 0, width := 32, acc := .ro, reset := 0x0 }
/-- Signed, 0.1 dB -/
def BQ_MARGIN : Fld :=
  { off := 0x018, lsb := 0, width := 12, acc := .ro, reset := 0x0 }
/-- t_b at bits [4b+3:4b] of the 64-bit value -/
def TRIM_NOW_LO : Fld :=
  { off := 0x01C, lsb := 0, width := 32, acc := .ro, reset := 0x0 }
/-- t_b at bits [4b+3:4b] of the 64-bit value -/
def TRIM_NOW_HI : Fld :=
  { off := 0x020, lsb := 0, width := 32, acc := .ro, reset := 0x0 }
/-- Setting address of the last miss -/
def LAST_MISS : Fld :=
  { off := 0x024, lsb := 0, width := 32, acc := .ro, reset := 0x0 }
/-- Immediate stops -/
def STOP_IMM : Fld :=
  { off := 0x028, lsb := 0, width := 16, acc := .ro, reset := 0x0 }
/-- Boundary stops -/
def STOP_BND : Fld :=
  { off := 0x028, lsb := 16, width := 16, acc := .ro, reset := 0x0 }
/-- Test settings used on the current layer -/
def TF_USED : Fld :=
  { off := 0x02C, lsb := 0, width := 11, acc := .ro, reset := 0x0 }

/-- Part 0 of the page's fields. -/
def fields0 : List Fld :=
  [STATE, RETIRE_CAUSE, FIRED, BQ_CHECKED,
   BQ_MISS, REMAPS, COLLISIONS, BQ_MARGIN,
   TRIM_NOW_LO, TRIM_NOW_HI, LAST_MISS, STOP_IMM,
   STOP_BND, TF_USED]

/-- Every field of the page, in the order of its table. -/
def fields : List Fld := fields0

end Sys2Proof.Machine.FIRESTAT
end

