-- ==== Sys2Proof/Machine/RegsStore.lean ====
section
/-!
DEFINITION. Fields of the STRIPE, JOURNAL, HBM, SETTER, ECCTAB, ETH, NVME and TLS pages (chapters 12 to 14).
-/

namespace Sys2Proof.Machine.STRIPE

/-! Fields of STRIPE (R420 of 12_stripes_journal_and_rebuild.md). -/

/-- A kiln load is mounted -/
def SE_STAT_MOUNTED : Fld :=
  { off := 0x040, lsb := 0, width := 1, acc := .ro, reset := 0x0 }
/-- Bit s: lane s has one missing member -/
def SE_STAT_LANE_DEGRADED : Fld :=
  { off := 0x040, lsb := 1, width := 4, acc := .ro, reset := 0x0 }
/-- Bit s: two missing members -/
def SE_STAT_LANE_NOREDUN : Fld :=
  { off := 0x040, lsb := 5, width := 4, acc := .ro, reset := 0x0 }
/-- Bit s: lane s fires narrowed -/
def SE_STAT_LANE_NARROW : Fld :=
  { off := 0x040, lsb := 9, width := 4, acc := .ro, reset := 0x0 }
/-- Bit s: lane s stopped firing -/
def SE_STAT_LANE_NOFIRE : Fld :=
  { off := 0x040, lsb := 13, width := 4, acc := .ro, reset := 0x0 }
/-- R418 -/
def SE_STAT_AT_RISK : Fld :=
  { off := 0x040, lsb := 17, width := 1, acc := .ro, reset := 0x0 }
/-- Bit 8s + p: member at position p of lane s present -/
def MEMBER_OK : Fld :=
  { off := 0x044, lsb := 0, width := 32, acc := .ro, reset := 0x0 }
/-- Bit 8s + p: that member can fire -/
def MEMBER_FIRE : Fld :=
  { off := 0x048, lsb := 0, width := 32, acc := .ro, reset := 0x0 }
/-- Percent, 50–95 -/
def STG_CFG_STG_HIGH : Fld :=
  { off := 0x04C, lsb := 0, width := 7, acc := .rw, reset := 0x4B }
/-- Percent, STG_HIGH–98 -/
def STG_CFG_STG_FULL : Fld :=
  { off := 0x04C, lsb := 8, width := 7, acc := .rw, reset := 0x5F }
/-- MiB of own staged data -/
def STG_USE_OWN : Fld :=
  { off := 0x050, lsb := 0, width := 16, acc := .ro, reset := 0x0 }
/-- MiB of the twin's mirrored data -/
def STG_USE_MIRROR : Fld :=
  { off := 0x050, lsb := 16, width := 16, acc := .ro, reset := 0x0 }
/-- Reads served under R388 -/
def STG_READ_HIT : Fld :=
  { off := 0x054, lsb := 0, width := 32, acc := .rc, reset := 0x0 }
/-- Percent, 10–100 -/
def RT_CFG_RT_FLOOR : Fld :=
  { off := 0x058, lsb := 0, width := 7, acc := .rw, reset := 0x19 }
/-- Units of 100 ms, 1–100 -/
def RT_CFG_RT_WIN : Fld :=
  { off := 0x058, lsb := 8, width := 8, acc := .rw, reset := 0xA }
/-- R409 -/
def RT_CFG_RT_AUTO : Fld :=
  { off := 0x058, lsb := 16, width := 1, acc := .rw, reset := 0x1 }
/-- R415 -/
def RT_CFG_PATROL_EN : Fld :=
  { off := 0x058, lsb := 17, width := 1, acc := .rw, reset := 0x1 }
/-- ms, 10–255 -/
def RT_CFG_PATROL_IDLE : Fld :=
  { off := 0x058, lsb := 24, width := 8, acc := .rw, reset := 0x64 }
/-- Stripe position -/
def RT_CMD_POSITION : Fld :=
  { off := 0x05C, lsb := 0, width := 3, acc := .wo, reset := 0x0 }
/-- 1 re-throw, 2 relocation, 3 abort under R414 -/
def RT_CMD_OP : Fld :=
  { off := 0x05C, lsb := 4, width := 2, acc := .wo, reset := 0x0 }
/-- 0 idle, 1 pending, 2 mounting, 3 copying, 4 catch-up, 5 final pass, 6 swap, 7 done, 8 failed, 9 aborted (R414) -/
def RT_STAT_STATE : Fld :=
  { off := 0x060, lsb := 0, width := 4, acc := .ro, reset := 0x0 }
def RT_STAT_POSITION : Fld :=
  { off := 0x060, lsb := 4, width := 3, acc := .ro, reset := 0x0 }
/-- Slot in progress -/
def RT_STAT_SLOT : Fld :=
  { off := 0x060, lsb := 8, width := 2, acc := .ro, reset := 0x0 }
/-- 0 none, 1 no spare sagger, 2 W8 or loader not owned, 3 too few members, 4 another re-throw -/
def RT_STAT_WAIT : Fld :=
  { off := 0x060, lsb := 10, width := 4, acc := .ro, reset := 0x0 }
/-- Per mille of settings fired -/
def RT_STAT_PROGRESS : Fld :=
  { off := 0x060, lsb := 16, width := 10, acc := .ro, reset := 0x0 }
/-- Estimated seconds to swap -/
def RT_ETA : Fld :=
  { off := 0x064, lsb := 0, width := 32, acc := .ro, reset := 0x0 }
/-- 0.1 dB -/
def CONE_CFG_CONE_ADV_MSE : Fld :=
  { off := 0x068, lsb := 0, width := 8, acc := .rw, reset := 0xF }
/-- R417, 1–31 -/
def CONE_CFG_CONE_ADV_BER : Fld :=
  { off := 0x068, lsb := 8, width := 5, acc := .rw, reset := 0x7 }
/-- Cone reads at mount -/
def CONE_CFG_CONE_EN : Fld :=
  { off := 0x068, lsb := 16, width := 1, acc := .rw, reset := 0x1 }
/-- Blank saggers catalogued in the store -/
def SPARE_SAGGERS : Fld :=
  { off := 0x06C, lsb := 0, width := 16, acc := .ro, reset := 0x0 }
/-- Blocks reconstructed -/
def RECON_BLOCKS : Fld :=
  { off := 0x070, lsb := 0, width := 32, acc := .rc, reset := 0x0 }
/-- R408 -/
def SHARDS : Fld :=
  { off := 0x074, lsb := 0, width := 32, acc := .rc, reset := 0x0 }
/-- Stripes checked -/
def PATROL_STRIPES : Fld :=
  { off := 0x078, lsb := 0, width := 32, acc := .rc, reset := 0x0 }
/-- R416 -/
def PATROL_REFRESH : Fld :=
  { off := 0x07C, lsb := 0, width := 32, acc := .rc, reset := 0x0 }
/-- Mismatches found -/
def PATROL_MISMATCH : Fld :=
  { off := 0x080, lsb := 0, width := 32, acc := .rc, reset := 0x0 }
/-- Blocks voided by rollback -/
def VOID_BLOCKS : Fld :=
  { off := 0x084, lsb := 0, width := 32, acc := .rc, reset := 0x0 }
/-- LBAs padded under R386 -/
def PAD_LBAS : Fld :=
  { off := 0x088, lsb := 0, width := 32, acc := .rc, reset := 0x0 }

/-- Part 0 of the page's fields. -/
def fields0 : List Fld :=
  [SE_STAT_MOUNTED, SE_STAT_LANE_DEGRADED, SE_STAT_LANE_NOREDUN, SE_STAT_LANE_NARROW,
   SE_STAT_LANE_NOFIRE, SE_STAT_AT_RISK, MEMBER_OK, MEMBER_FIRE,
   STG_CFG_STG_HIGH, STG_CFG_STG_FULL, STG_USE_OWN, STG_USE_MIRROR,
   STG_READ_HIT, RT_CFG_RT_FLOOR, RT_CFG_RT_WIN, RT_CFG_RT_AUTO,
   RT_CFG_PATROL_EN, RT_CFG_PATROL_IDLE, RT_CMD_POSITION, RT_CMD_OP,
   RT_STAT_STATE, RT_STAT_POSITION, RT_STAT_SLOT, RT_STAT_WAIT,
   RT_STAT_PROGRESS, RT_ETA, CONE_CFG_CONE_ADV_MSE, CONE_CFG_CONE_ADV_BER,
   CONE_CFG_CONE_EN, SPARE_SAGGERS, RECON_BLOCKS, SHARDS,
   PATROL_STRIPES, PATROL_REFRESH, PATROL_MISMATCH, VOID_BLOCKS,
   PAD_LBAS]

/-- Every field of the page, in the order of its table. -/
def fields : List Fld := fields0

end Sys2Proof.Machine.STRIPE

namespace Sys2Proof.Machine.JOURNAL

/-! Fields of JOURNAL (R421 of 12_stripes_journal_and_rebuild.md). -/

/-- Live stripe records, 0–8,192 -/
def JR_STAT_INFLIGHT : Fld :=
  { off := 0x040, lsb := 0, width := 14, acc := .ro, reset := 0x0 }
/-- R397 step 5 done -/
def JR_STAT_SEALED : Fld :=
  { off := 0x040, lsb := 16, width := 1, acc := .ro, reset := 0x0 }
/-- 0 not run, 1 running, 2 done, 3 done with rollback -/
def JR_STAT_REPLAY : Fld :=
  { off := 0x040, lsb := 17, width := 2, acc := .ro, reset := 0x0 }
/-- xSPI ring writable -/
def JR_STAT_XSPI_OK : Fld :=
  { off := 0x040, lsb := 19, width := 1, acc := .ro, reset := 0x0 }
/-- Twin mirror acknowledging -/
def JR_STAT_MIRROR_OK : Fld :=
  { off := 0x040, lsb := 20, width := 1, acc := .ro, reset := 0x0 }
/-- Last shutdown sealed cleanly -/
def JR_STAT_CLEAN_SEAL : Fld :=
  { off := 0x040, lsb := 21, width := 1, acc := .ro, reset := 0x0 }
/-- SEQ of the last record written -/
def JR_SEQ : Fld :=
  { off := 0x044, lsb := 0, width := 32, acc := .ro, reset := 0x0 }
/-- R394 -/
def JR_CFG_MIRROR_REQ : Fld :=
  { off := 0x048, lsb := 0, width := 1, acc := .rwl, reset := 0x1 }
/-- On-disc copies at run close -/
def JR_CFG_DISC_EN : Fld :=
  { off := 0x048, lsb := 1, width := 1, acc := .rw, reset := 0x1 }
/-- 512–8,192 -/
def JR_CFG_INFLIGHT_MAX : Fld :=
  { off := 0x048, lsb := 16, width := 14, acc := .rw, reset := 0x2000 }
/-- Free records in the xSPI ring -/
def XSPI_FREE : Fld :=
  { off := 0x04C, lsb := 0, width := 18, acc := .ro, reset := 0x30000 }
/-- Records not yet acknowledged by the twin -/
def MIRROR_LAG : Fld :=
  { off := 0x050, lsb := 0, width := 16, acc := .ro, reset := 0x0 }
/-- Records awaiting a run close, in units of 1,024 -/
def DISC_PENDING : Fld :=
  { off := 0x050, lsb := 16, width := 16, acc := .ro, reset := 0x0 }
/-- Records written to xSPI -/
def XSPI_WR : Fld :=
  { off := 0x054, lsb := 0, width := 32, acc := .rc, reset := 0x0 }
/-- Failed xSPI writes -/
def XSPI_ERR : Fld :=
  { off := 0x058, lsb := 0, width := 32, acc := .rc, reset := 0x0 }
/-- Stripes completed from staging at the last replay -/
def REPLAY_COMPLETED : Fld :=
  { off := 0x05C, lsb := 0, width := 16, acc := .ro, reset := 0x0 }
/-- Zones rolled back -/
def REPLAY_ROLLED : Fld :=
  { off := 0x05C, lsb := 16, width := 16, acc := .ro, reset := 0x0 }
/-- Zones listed under R397 at the last hold-up -/
def INTERRUPTED : Fld :=
  { off := 0x060, lsb := 0, width := 16, acc := .ro, reset := 0x0 }
/-- µs from HOLDUP_N to seal, last hold-up -/
def HOLDUP_T_SEAL : Fld :=
  { off := 0x064, lsb := 0, width := 16, acc := .ro, reset := 0x0 }
/-- Units of 10 µs from HOLDUP_N to all heads parked -/
def HOLDUP_T_PARK : Fld :=
  { off := 0x064, lsb := 16, width := 16, acc := .ro, reset := 0x0 }

/-- Part 0 of the page's fields. -/
def fields0 : List Fld :=
  [JR_STAT_INFLIGHT, JR_STAT_SEALED, JR_STAT_REPLAY, JR_STAT_XSPI_OK,
   JR_STAT_MIRROR_OK, JR_STAT_CLEAN_SEAL, JR_SEQ, JR_CFG_MIRROR_REQ,
   JR_CFG_DISC_EN, JR_CFG_INFLIGHT_MAX, XSPI_FREE, MIRROR_LAG,
   DISC_PENDING, XSPI_WR, XSPI_ERR, REPLAY_COMPLETED,
   REPLAY_ROLLED, INTERRUPTED, HOLDUP_T_SEAL, HOLDUP_T_PARK]

/-- Every field of the page, in the order of its table. -/
def fields : List Fld := fields0

end Sys2Proof.Machine.JOURNAL

namespace Sys2Proof.Machine.HBM

/-! Fields of HBM0 and HBM1 (R453 of 13_hbm_setter_cache_and_ecc.md). -/

/-- 0 untrained, 1 training, 2 filling, 3 ready, 4 self-refresh, 5 failed -/
def HB_STAT_STATE : Fld :=
  { off := 0x040, lsb := 0, width := 3, acc := .ro, reset := 0x0 }
/-- Lanes replaced at training -/
def HB_STAT_LANES_REPAIRED : Fld :=
  { off := 0x040, lsb := 8, width := 8, acc := .ro, reset := 0x0 }
/-- Stack temperature, °C -/
def HB_STAT_TEMP : Fld :=
  { off := 0x040, lsb := 16, width := 8, acc := .ro, reset := 0x0 }
/-- Bit p: pseudo-channel p failed training -/
def PC_FAILED : Fld :=
  { off := 0x044, lsb := 0, width := 32, acc := .ro, reset := 0x0 }
/-- Lowest watermark, in units of 64 KiB of local space; 0x2000 when filled -/
def FILL_STAT_MIN_WM : Fld :=
  { off := 0x048, lsb := 0, width := 14, acc := .ro, reset := 0x0 }
/-- Percent, 25–100 -/
def FILL_CFG_FILL_SHARE : Fld :=
  { off := 0x04C, lsb := 0, width := 7, acc := .rw, reset := 0x32 }
/-- R428 -/
def FILL_CFG_BOOST_EN : Fld :=
  { off := 0x04C, lsb := 8, width := 1, acc := .rw, reset := 0x1 }
/-- R437 -/
def SCRUB_CFG_SCRUB_EN : Fld :=
  { off := 0x050, lsb := 0, width := 1, acc := .rw, reset := 0x1 }
/-- Hours, 1–255 -/
def SCRUB_CFG_SCRUB_PERIOD : Fld :=
  { off := 0x050, lsb := 8, width := 8, acc := .rw, reset := 0x18 }
/-- Current pass, per mille -/
def SCRUB_PROG : Fld :=
  { off := 0x054, lsb := 0, width := 10, acc := .ro, reset := 0x0 }
/-- Rows repaired in this stack -/
def PPR_DONE : Fld :=
  { off := 0x058, lsb := 0, width := 16, acc := .ro, reset := 0x0 }
/-- Repairs failed -/
def PPR_FAIL : Fld :=
  { off := 0x058, lsb := 16, width := 16, acc := .ro, reset := 0x0 }
/-- On-die corrections reported -/
def ODECC_CNT : Fld :=
  { off := 0x05C, lsb := 0, width := 32, acc := .rc, reset := 0x0 }
/-- Requests stalled under R428 -/
def STALL_CNT : Fld :=
  { off := 0x060, lsb := 0, width := 32, acc := .rc, reset := 0x0 }
/-- Longest stall since reset, µs -/
def STALL_MAX : Fld :=
  { off := 0x064, lsb := 0, width := 16, acc := .ro, reset := 0x0 }
/-- Read rate over the last 1 ms, GB/s -/
def BW_RD : Fld :=
  { off := 0x068, lsb := 0, width := 16, acc := .ro, reset := 0x0 }
/-- Write rate, GB/s -/
def BW_WR : Fld :=
  { off := 0x068, lsb := 16, width := 16, acc := .ro, reset := 0x0 }
/-- Words corrected by scrubbing -/
def SCRUB_CORR : Fld :=
  { off := 0x06C, lsb := 0, width := 32, acc := .rc, reset := 0x0 }

/-- Part 0 of the page's fields. -/
def fields0 : List Fld :=
  [HB_STAT_STATE, HB_STAT_LANES_REPAIRED, HB_STAT_TEMP, PC_FAILED,
   FILL_STAT_MIN_WM, FILL_CFG_FILL_SHARE, FILL_CFG_BOOST_EN, SCRUB_CFG_SCRUB_EN,
   SCRUB_CFG_SCRUB_PERIOD, SCRUB_PROG, PPR_DONE, PPR_FAIL,
   ODECC_CNT, STALL_CNT, STALL_MAX, BW_RD,
   BW_WR, SCRUB_CORR]

/-- Every field of the page, in the order of its table. -/
def fields : List Fld := fields0

end Sys2Proof.Machine.HBM

namespace Sys2Proof.Machine.SETTER

/-! Fields of SETTER (R454 of 13_hbm_setter_cache_and_ecc.md). -/

/-- Active ways -/
def SC_STAT_WAYS : Fld :=
  { off := 0x040, lsb := 0, width := 5, acc := .ro, reset := 0x10 }
/-- Spare way in service -/
def SC_STAT_SPARE_IN_USE : Fld :=
  { off := 0x040, lsb := 5, width := 1, acc := .ro, reset := 0x0 }
/-- Fill tags in use, 0–256 -/
def SC_STAT_FILLS : Fld :=
  { off := 0x040, lsb := 8, width := 9, acc := .ro, reset := 0x0 }
/-- Eviction buffer entries in use, 0–64 -/
def SC_STAT_EVB : Fld :=
  { off := 0x040, lsb := 17, width := 7, acc := .ro, reset := 0x0 }
/-- Bit w: physical way w active -/
def WAY_MAP : Fld :=
  { off := 0x044, lsb := 0, width := 17, acc := .ro, reset := 0xFFFF }
/-- Bit w: physical way w failed -/
def WAY_FAILED : Fld :=
  { off := 0x048, lsb := 0, width := 17, acc := .ro, reset := 0x0 }
/-- n = 0–7; first 2 MiB page -/
def AREA_BASE : Fld :=
  { off := 0x050, lsb := 0, width := 14, acc := .rw, reset := 0x0, count := 8, stride := 4 }
/-- Last 2 MiB page -/
def AREA_LIMIT : Fld :=
  { off := 0x050, lsb := 16, width := 14, acc := .rw, reset := 0x0, count := 8, stride := 4 }
/-- 0 disabled, 1 write-back with allocation, 2 no allocation, 3 uncached -/
def AREA_POLICY : Fld :=
  { off := 0x050, lsb := 30, width := 2, acc := .rw, reset := 0x0, count := 8, stride := 4 }
/-- A[31:0]; bits [7:0] ignored -/
def MAINT_ADDR : Fld :=
  { off := 0x070, lsb := 0, width := 32, acc := .rw, reset := 0x0 }
/-- A[34:32] -/
def MAINT_ADDR_HI : Fld :=
  { off := 0x074, lsb := 0, width := 3, acc := .rw, reset := 0x0 }
/-- 1 CLEAN, 2 INVALIDATE, 3 CLEAN_INVALIDATE, 4 ZERO, 5 CLEAN_ALL, 6 CLEAN_INVALIDATE_ALL -/
def MAINT_CMD_OP : Fld :=
  { off := 0x078, lsb := 0, width := 3, acc := .wo, reset := 0x0 }
/-- 1: by set and way -/
def MAINT_CMD_BY_SW : Fld :=
  { off := 0x078, lsb := 3, width := 1, acc := .wo, reset := 0x0 }
/-- Set, 0–8,191 -/
def MAINT_CMD_SET : Fld :=
  { off := 0x078, lsb := 4, width := 13, acc := .wo, reset := 0x0 }
/-- Logical way, 0–15 -/
def MAINT_CMD_WAY : Fld :=
  { off := 0x078, lsb := 17, width := 4, acc := .wo, reset := 0x0 }
/-- Register-path operation in progress -/
def MAINT_STAT_BUSY : Fld :=
  { off := 0x07C, lsb := 0, width := 1, acc := .ro, reset := 0x0 }
/-- 0 done, 1 refused: busy, 2 address in the retirement reserve, 3 way not active, 4 ZERO by set and way refused -/
def MAINT_STAT_RESULT : Fld :=
  { off := 0x07C, lsb := 1, width := 3, acc := .ro, reset := 0x0 }
/-- Read hits -/
def RD_HIT : Fld :=
  { off := 0x080, lsb := 0, width := 32, acc := .rc, reset := 0x0 }
/-- Read misses -/
def RD_MISS : Fld :=
  { off := 0x084, lsb := 0, width := 32, acc := .rc, reset := 0x0 }
/-- Write hits -/
def WR_HIT : Fld :=
  { off := 0x088, lsb := 0, width := 32, acc := .rc, reset := 0x0 }
/-- Write misses -/
def WR_MISS : Fld :=
  { off := 0x08C, lsb := 0, width := 32, acc := .rc, reset := 0x0 }
/-- Lines written back -/
def WRITEBACKS : Fld :=
  { off := 0x090, lsb := 0, width := 32, acc := .rc, reset := 0x0 }
/-- Requests served under R446 -/
def EVB_HITS : Fld :=
  { off := 0x094, lsb := 0, width := 32, acc := .rc, reset := 0x0 }
/-- Bypass accesses that met a line under R444 -/
def SNOOP_HITS : Fld :=
  { off := 0x098, lsb := 0, width := 32, acc := .rc, reset := 0x0 }
/-- Lines zeroed under R447 -/
def ZERO_LINES : Fld :=
  { off := 0x09C, lsb := 0, width := 32, acc := .rc, reset := 0x0 }

/-- Part 0 of the page's fields. -/
def fields0 : List Fld :=
  [SC_STAT_WAYS, SC_STAT_SPARE_IN_USE, SC_STAT_FILLS, SC_STAT_EVB,
   WAY_MAP, WAY_FAILED, AREA_BASE, AREA_LIMIT,
   AREA_POLICY, MAINT_ADDR, MAINT_ADDR_HI, MAINT_CMD_OP,
   MAINT_CMD_BY_SW, MAINT_CMD_SET, MAINT_CMD_WAY, MAINT_STAT_BUSY,
   MAINT_STAT_RESULT, RD_HIT, RD_MISS, WR_HIT,
   WR_MISS, WRITEBACKS, EVB_HITS, SNOOP_HITS,
   ZERO_LINES]

/-- Every field of the page, in the order of its table. -/
def fields : List Fld := fields0

end Sys2Proof.Machine.SETTER

namespace Sys2Proof.Machine.ECCTAB

/-! Fields of ECCTAB (R455 of 13_hbm_setter_cache_and_ecc.md). -/

/-- Memory block of R432, 0–39 -/
def ECT_SEL : Fld :=
  { off := 0x040, lsb := 0, width := 6, acc := .rw, reset := 0x0 }
/-- 2–15 -/
def ECT_CFG_REPEAT_THR : Fld :=
  { off := 0x044, lsb := 0, width := 4, acc := .rw, reset := 0x4 }
/-- R432 -/
def ECT_CFG_AUTO_REPAIR : Fld :=
  { off := 0x044, lsb := 8, width := 1, acc := .rwl, reset := 0x1 }
/-- Bit i: table of block i holds an entry, i = 0–31 -/
def ECT_BUSY_LO : Fld :=
  { off := 0x048, lsb := 0, width := 32, acc := .ro, reset := 0x0 }
/-- Blocks 32–39 -/
def ECT_BUSY_HI : Fld :=
  { off := 0x04C, lsb := 0, width := 8, acc := .ro, reset := 0x0 }
/-- Reserve pages in use, 0–512 -/
def RET_USED : Fld :=
  { off := 0x050, lsb := 0, width := 10, acc := .ro, reset := 0x0 }
/-- R438 -/
def POISON_MADE : Fld :=
  { off := 0x054, lsb := 0, width := 32, acc := .rc, reset := 0x0 }
/-- R439 -/
def POISON_USED : Fld :=
  { off := 0x058, lsb := 0, width := 32, acc := .rc, reset := 0x0 }
/-- R439 -/
def POISON_LOST : Fld :=
  { off := 0x05C, lsb := 0, width := 32, acc := .rc, reset := 0x0 }
/-- 1 frees the counting entries of the selected table -/
def ECT_CLEAR : Fld :=
  { off := 0x060, lsb := 0, width := 1, acc := .wo, reset := 0x0 }
/-- n = 0–15; byte address ÷ 8, of A for HBM, within the block for SRAM -/
def ECT_ENTRY_ADDR : Fld :=
  { off := 0x080, lsb := 0, width := 32, acc := .ro, reset := 0x0, count := 16, stride := 8 }
/-- Saturating at 0xFF -/
def ECT_ENTRY_COUNT : Fld :=
  { off := 0x084, lsb := 0, width := 8, acc := .ro, reset := 0x0, count := 16, stride := 8 }
/-- Last syndrome -/
def ECT_ENTRY_SYNDROME : Fld :=
  { off := 0x084, lsb := 8, width := 8, acc := .ro, reset := 0x0, count := 16, stride := 8 }
/-- 0 free, 1 counting, 2 row repaired, 3 page retired, 4 way removed -/
def ECT_ENTRY_STATE : Fld :=
  { off := 0x084, lsb := 16, width := 3, acc := .ro, reset := 0x0, count := 16, stride := 8 }
/-- Entry in use -/
def ECT_ENTRY_VALID : Fld :=
  { off := 0x084, lsb := 31, width := 1, acc := .ro, reset := 0x0, count := 16, stride := 8 }
/-- k = 0–511; retired 2 MiB page mapped to reserve page 15,872 + k -/
def RET_MAP_PAGE : Fld :=
  { off := 0x800, lsb := 0, width := 14, acc := .ro, reset := 0x0, count := 512, stride := 4 }
/-- Entry in use -/
def RET_MAP_VALID : Fld :=
  { off := 0x800, lsb := 31, width := 1, acc := .ro, reset := 0x0, count := 512, stride := 4 }

/-- Part 0 of the page's fields. -/
def fields0 : List Fld :=
  [ECT_SEL, ECT_CFG_REPEAT_THR, ECT_CFG_AUTO_REPAIR, ECT_BUSY_LO,
   ECT_BUSY_HI, RET_USED, POISON_MADE, POISON_USED,
   POISON_LOST, ECT_CLEAR, ECT_ENTRY_ADDR, ECT_ENTRY_COUNT,
   ECT_ENTRY_SYNDROME, ECT_ENTRY_STATE, ECT_ENTRY_VALID, RET_MAP_PAGE,
   RET_MAP_VALID]

/-- Every field of the page, in the order of its table. -/
def fields : List Fld := fields0

end Sys2Proof.Machine.ECCTAB

namespace Sys2Proof.Machine.ETH

/-! Fields of ETHP0 to ETHM (R502 of 14_host_nvme_tcp_zones.md). -/

/-- Link up -/
def ETH_STAT_LINK : Fld :=
  { off := 0x040, lsb := 0, width := 1, acc := .ro, reset := 0x0 }
/-- 0 down, 1 400GBASE-R, 2 200GBASE-R on SerDes lanes 0–3, 3 on lanes 4–7, 4 10GBASE-KR -/
def ETH_STAT_MODE : Fld :=
  { off := 0x040, lsb := 1, width := 3, acc := .ro, reset := 0x0 }
/-- PCS alignment lock -/
def ETH_STAT_ALIGNED : Fld :=
  { off := 0x040, lsb := 4, width := 1, acc := .ro, reset := 0x0 }
/-- Clause 73 complete; M only -/
def ETH_STAT_AN_DONE : Fld :=
  { off := 0x040, lsb := 5, width := 1, acc := .ro, reset := 0x0 }
/-- BASE-R FEC in use; M only -/
def ETH_STAT_FEC74 : Fld :=
  { off := 0x040, lsb := 6, width := 1, acc := .ro, reset := 0x0 }
/-- Bit n: SerDes lane n in lock -/
def ETH_STAT_LANE_OK : Fld :=
  { off := 0x040, lsb := 8, width := 8, acc := .ro, reset := 0x0 }
/-- Bit p: priority p paused by the partner -/
def ETH_STAT_PFC_PAUSED : Fld :=
  { off := 0x040, lsb := 16, width := 8, acc := .ro, reset := 0x0 }
/-- P: 0 400GBASE-R with fallback, 1 400GBASE-R only, 2 200GBASE-R only -/
def ETH_CFG_RATE : Fld :=
  { off := 0x044, lsb := 0, width := 2, acc := .rw, reset := 0x0 }
/-- P and T: 0 chip-to-module, 1 chip-to-chip -/
def ETH_CFG_AUI : Fld :=
  { off := 0x044, lsb := 2, width := 1, acc := .rw, reset := 0x0 }
/-- Bit p: PFC on priority p -/
def ETH_CFG_PFC_EN : Fld :=
  { off := 0x044, lsb := 8, width := 8, acc := .rw, reset := 0x0 }
/-- IP: bytes, 1,280–9,000 -/
def ETH_CFG_MTU : Fld :=
  { off := 0x044, lsb := 16, width := 14, acc := .rw, reset := 0x5DC }
/-- MAC address [31:0] -/
def MAC_LO : Fld :=
  { off := 0x048, lsb := 0, width := 32, acc := .rwl, reset := 0x0 }
/-- MAC address [47:32] -/
def MAC_HI : Fld :=
  { off := 0x04C, lsb := 0, width := 16, acc := .rwl, reset := 0x0 }
/-- VLAN ID; 0 untagged -/
def VLAN_VID : Fld :=
  { off := 0x050, lsb := 0, width := 12, acc := .rw, reset := 0x0 }
/-- Priority of frames sent -/
def VLAN_PCP : Fld :=
  { off := 0x050, lsb := 12, width := 3, acc := .rw, reset := 0x3 }
/-- IP: k = 0–3; 0 unused -/
def IPV4 : Fld :=
  { off := 0x060, lsb := 0, width := 32, acc := .rw, reset := 0x0, count := 4, stride := 4 }
/-- IP: k = 0–3; first word holds address bits [127:96]; all zeros unused -/
def IPV6 : Fld :=
  { off := 0x070, lsb := 0, width := 32, acc := .rw, reset := 0x0, count := 16, stride := 4 }
/-- IP: bits [8k+7:8k], item length of IPV4[k] -/
def IPV4_PFX : Fld :=
  { off := 0x0B0, lsb := 0, width := 32, acc := .rw, reset := 0x0 }
/-- IP: bits [8k+7:8k], item length of IPV6[k] -/
def IPV6_PFX : Fld :=
  { off := 0x0B4, lsb := 0, width := 32, acc := .rw, reset := 0x0 }
/-- IP: IPv4 gateway; 0 none -/
def GW4 : Fld :=
  { off := 0x0B8, lsb := 0, width := 32, acc := .rw, reset := 0x0 }
/-- IP: IPv6 gateway; zeros for router advertisement -/
def GW6 : Fld :=
  { off := 0x0C0, lsb := 0, width := 32, acc := .rw, reset := 0x0, count := 4, stride := 4 }
/-- Frames received -/
def RX_FRAMES : Fld :=
  { off := 0x0E0, lsb := 0, width := 32, acc := .rc, reset := 0x0 }
/-- Frames sent -/
def TX_FRAMES : Fld :=
  { off := 0x0E4, lsb := 0, width := 32, acc := .rc, reset := 0x0 }
/-- FCS errors -/
def RX_FCS_ERR : Fld :=
  { off := 0x0E8, lsb := 0, width := 32, acc := .rc, reset := 0x0 }
/-- Frames discarded under R457 and R459 -/
def RX_DROP : Fld :=
  { off := 0x0EC, lsb := 0, width := 32, acc := .rc, reset := 0x0 }
/-- FEC codewords corrected -/
def FEC_CORR : Fld :=
  { off := 0x0F0, lsb := 0, width := 32, acc := .rc, reset := 0x0 }
/-- FEC codewords uncorrectable -/
def FEC_UNCORR : Fld :=
  { off := 0x0F4, lsb := 0, width := 32, acc := .rc, reset := 0x0 }
/-- PFC frames received -/
def PFC_RX : Fld :=
  { off := 0x0F8, lsb := 0, width := 32, acc := .rc, reset := 0x0 }
/-- PFC frames sent -/
def PFC_TX : Fld :=
  { off := 0x0FC, lsb := 0, width := 32, acc := .rc, reset := 0x0 }
/-- SerDes lane n, n = 0–7: width in 1/128 UI -/
def EYE_WIDTH : Fld :=
  { off := 0x100, lsb := 0, width := 8, acc := .ro, reset := 0x0, count := 8, stride := 4 }
/-- Height in mV -/
def EYE_HEIGHT : Fld :=
  { off := 0x100, lsb := 8, width := 10, acc := .ro, reset := 0x0, count := 8, stride := 4 }
/-- Measurement present -/
def EYE_VALID : Fld :=
  { off := 0x100, lsb := 31, width := 1, acc := .ro, reset := 0x0, count := 8, stride := 4 }

/-- Part 0 of the page's fields. -/
def fields0 : List Fld :=
  [ETH_STAT_LINK, ETH_STAT_MODE, ETH_STAT_ALIGNED, ETH_STAT_AN_DONE,
   ETH_STAT_FEC74, ETH_STAT_LANE_OK, ETH_STAT_PFC_PAUSED, ETH_CFG_RATE,
   ETH_CFG_AUI, ETH_CFG_PFC_EN, ETH_CFG_MTU, MAC_LO,
   MAC_HI, VLAN_VID, VLAN_PCP, IPV4,
   IPV6, IPV4_PFX, IPV6_PFX, GW4,
   GW6, RX_FRAMES, TX_FRAMES, RX_FCS_ERR,
   RX_DROP, FEC_CORR, FEC_UNCORR, PFC_RX,
   PFC_TX, EYE_WIDTH, EYE_HEIGHT, EYE_VALID]

/-- Every field of the page, in the order of its table. -/
def fields : List Fld := fields0

end Sys2Proof.Machine.ETH

namespace Sys2Proof.Machine.NVME

/-! Fields of NVME (R503 of 14_host_nvme_tcp_zones.md). -/

/-- Associations, 0–64 -/
def NV_STAT_ASSOC : Fld :=
  { off := 0x040, lsb := 0, width := 7, acc := .ro, reset := 0x0 }
/-- I/O queues, 0–512 -/
def NV_STAT_IOQ : Fld :=
  { off := 0x040, lsb := 16, width := 10, acc := .ro, reset := 0x0 }
/-- Contexts in use, 0–16,384 -/
def CTX_IN_USE : Fld :=
  { off := 0x044, lsb := 0, width := 15, acc := .ro, reset := 0x0 }
/-- Peak of IN_USE -/
def CTX_PEAK : Fld :=
  { off := 0x044, lsb := 16, width := 15, acc := .rc, reset := 0x0 }
/-- Contexts reserved per I/O queue, 0–32 -/
def CTX_CFG_CTX_MIN : Fld :=
  { off := 0x048, lsb := 0, width := 8, acc := .rw, reset := 0x8 }
/-- Units of 100 ms, 1–255 -/
def CTX_CFG_STG_WAIT_MAX : Fld :=
  { off := 0x048, lsb := 16, width := 8, acc := .rw, reset := 0x32 }
/-- Current power state -/
def PS_CUR : Fld :=
  { off := 0x04C, lsb := 0, width := 3, acc := .ro, reset := 0x0 }
/-- Power state requested over Stebaro; operator; R495 -/
def PS_REQ : Fld :=
  { off := 0x04C, lsb := 4, width := 3, acc := .rw, reset := 0x0 }
/-- 0 idle, 1 handing over, 2 draining, 3 resetting -/
def FW_ACT : Fld :=
  { off := 0x050, lsb := 0, width := 4, acc := .ro, reset := 0x0 }
/-- Completions under R480, rows 1 to 3 -/
def NS_NOT_READY : Fld :=
  { off := 0x054, lsb := 0, width := 32, acc := .rc, reset := 0x0 }
/-- Completions under R480, rows 5 and 6 -/
def ANA_REFUSED : Fld :=
  { off := 0x058, lsb := 0, width := 32, acc := .rc, reset := 0x0 }
/-- Completions with any other error status -/
def CMD_ERR : Fld :=
  { off := 0x05C, lsb := 0, width := 32, acc := .rc, reset := 0x0 }
/-- Read commands completed -/
def CMD_RD : Fld :=
  { off := 0x060, lsb := 0, width := 32, acc := .rc, reset := 0x0 }
/-- Write, Write Zeroes and Zone Append commands completed -/
def CMD_WR : Fld :=
  { off := 0x064, lsb := 0, width := 32, acc := .rc, reset := 0x0 }
/-- Connects refused under R463 -/
def CONN_REFUSED : Fld :=
  { off := 0x068, lsb := 0, width := 32, acc := .rc, reset := 0x0 }
/-- m = 0–7; bits [4i+3:4i] give the ANA state of NSID 8m + i + 1 on this controller: 1 Optimized, 3 Inaccessible, 4 Persistent Loss, 15 Change -/
def ANA_STATE : Fld :=
  { off := 0x100, lsb := 0, width := 32, acc := .ro, reset := 0x44444444, count := 8, stride := 4 }
/-- Bit n: namespace n + 1 has home side B -/
def HOME_SIDE_LO : Fld :=
  { off := 0x120, lsb := 0, width := 32, acc := .ro, reset := 0x0 }
/-- Bit n: namespace n + 1 has home side B -/
def HOME_SIDE_HI : Fld :=
  { off := 0x124, lsb := 0, width := 32, acc := .ro, reset := 0x0 }
/-- Subsystem NQN, UTF-8, zero-padded -/
def SUBNQN : Fld :=
  { off := 0x200, lsb := 0, width := 32, acc := .rwl, reset := 0x0, count := 64, stride := 4 }
/-- ACL[k] host identifier word -/
def ACL_HOST0 : Fld :=
  { off := 0x400, lsb := 0, width := 32, acc := .rw, reset := 0x0, count := 48, stride := 64, cust := true }
/-- ACL[k] host identifier word -/
def ACL_HOST1 : Fld :=
  { off := 0x404, lsb := 0, width := 32, acc := .rw, reset := 0x0, count := 48, stride := 64, cust := true }
/-- ACL[k] host identifier word -/
def ACL_HOST2 : Fld :=
  { off := 0x408, lsb := 0, width := 32, acc := .rw, reset := 0x0, count := 48, stride := 64, cust := true }
/-- ACL[k] host identifier word -/
def ACL_HOST3 : Fld :=
  { off := 0x40C, lsb := 0, width := 32, acc := .rw, reset := 0x0, count := 48, stride := 64, cust := true }
/-- ACL[k] host identifier word -/
def ACL_HOST4 : Fld :=
  { off := 0x410, lsb := 0, width := 32, acc := .rw, reset := 0x0, count := 48, stride := 64, cust := true }
/-- ACL[k] host identifier word -/
def ACL_HOST5 : Fld :=
  { off := 0x414, lsb := 0, width := 32, acc := .rw, reset := 0x0, count := 48, stride := 64, cust := true }
/-- ACL[k] host identifier word -/
def ACL_HOST6 : Fld :=
  { off := 0x418, lsb := 0, width := 32, acc := .rw, reset := 0x0, count := 48, stride := 64, cust := true }
/-- ACL[k] host identifier word -/
def ACL_HOST7 : Fld :=
  { off := 0x41C, lsb := 0, width := 32, acc := .rw, reset := 0x0, count := 48, stride := 64, cust := true }
/-- ACL[k].RIGHTS (R467) -/
def ACL_RIGHTS : Fld :=
  { off := 0x420, lsb := 0, width := 6, acc := .rw, reset := 0x0, count := 48, stride := 64, cust := true }
/-- ACL[k].VALID -/
def ACL_VALID : Fld :=
  { off := 0x420, lsb := 31, width := 1, acc := .rw, reset := 0x0, count := 48, stride := 64, cust := true }
/-- ACL[k] namespace mask, NSID 1-32 -/
def ACL_MASK_LO : Fld :=
  { off := 0x424, lsb := 0, width := 32, acc := .rw, reset := 0x0, count := 48, stride := 64, cust := true }
/-- ACL[k] namespace mask, NSID 33-64 -/
def ACL_MASK_HI : Fld :=
  { off := 0x428, lsb := 0, width := 32, acc := .rw, reset := 0x0, count := 48, stride := 64, cust := true }

/-- Part 0 of the page's fields. -/
def fields0 : List Fld :=
  [NV_STAT_ASSOC, NV_STAT_IOQ, CTX_IN_USE, CTX_PEAK,
   CTX_CFG_CTX_MIN, CTX_CFG_STG_WAIT_MAX, PS_CUR, PS_REQ,
   FW_ACT, NS_NOT_READY, ANA_REFUSED, CMD_ERR,
   CMD_RD, CMD_WR, CONN_REFUSED, ANA_STATE,
   HOME_SIDE_LO, HOME_SIDE_HI, SUBNQN, ACL_HOST0,
   ACL_HOST1, ACL_HOST2, ACL_HOST3, ACL_HOST4,
   ACL_HOST5, ACL_HOST6, ACL_HOST7, ACL_RIGHTS,
   ACL_VALID, ACL_MASK_LO, ACL_MASK_HI]

/-- Every field of the page, in the order of its table. -/
def fields : List Fld := fields0

end Sys2Proof.Machine.NVME

namespace Sys2Proof.Machine.TLS

/-! Fields of TLS (R504 of 14_host_nvme_tcp_zones.md). -/

/-- Active engines -/
def TLS_STAT_ENGINES : Fld :=
  { off := 0x040, lsb := 0, width := 3, acc := .ro, reset := 0x4 }
/-- Bit i: engine i active -/
def TLS_STAT_ENGINE_MAP : Fld :=
  { off := 0x040, lsb := 4, width := 5, acc := .ro, reset := 0xF }
/-- Open sessions, 0–576 -/
def TLS_STAT_SESSIONS : Fld :=
  { off := 0x040, lsb := 16, width := 10, acc := .ro, reset := 0x0 }
/-- R462 -/
def TLS_CFG_REQUIRE : Fld :=
  { off := 0x044, lsb := 0, width := 1, acc := .rwl, reset := 0x1 }
/-- Permit TLS_AES_128_GCM_SHA256 -/
def TLS_CFG_SUITE_128 : Fld :=
  { off := 0x044, lsb := 1, width := 1, acc := .rwl, reset := 0x0 }
/-- Retained PSKs held -/
def PSK_CNT : Fld :=
  { off := 0x048, lsb := 0, width := 16, acc := .ro, reset := 0x0 }
/-- Handshakes completed -/
def HS_OK : Fld :=
  { off := 0x04C, lsb := 0, width := 32, acc := .rc, reset := 0x0 }
/-- Handshakes failed -/
def HS_FAIL : Fld :=
  { off := 0x050, lsb := 0, width := 32, acc := .rc, reset := 0x0 }
/-- Records failing authentication; each closes its connection -/
def REC_AUTH_FAIL : Fld :=
  { off := 0x054, lsb := 0, width := 32, acc := .rc, reset := 0x0 }
/-- KeyUpdate messages processed -/
def KEY_UPDATES : Fld :=
  { off := 0x058, lsb := 0, width := 32, acc := .rc, reset := 0x0 }

/-- Part 0 of the page's fields. -/
def fields0 : List Fld :=
  [TLS_STAT_ENGINES, TLS_STAT_ENGINE_MAP, TLS_STAT_SESSIONS, TLS_CFG_REQUIRE,
   TLS_CFG_SUITE_128, PSK_CNT, HS_OK, HS_FAIL,
   REC_AUTH_FAIL, KEY_UPDATES]

/-- Every field of the page, in the order of its table. -/
def fields : List Fld := fields0

end Sys2Proof.Machine.TLS
end

