-- ==== Sys2Proof/Machine/RegsSystem.lean ====
section
/-!
DEFINITION. Fields of the TE, MEDIACRYPT, TW, HY, ST, TRIM, MC, ER and OBSQ pages (chapters 15 to 18).
-/

namespace Sys2Proof.Machine.TE

/-! Fields of TE (R535 of 15_trust_keys_and_media_encryption.md). -/

/-- Open state, R510 -/
def TE_STAT_OPEN : Fld :=
  { off := 0x040, lsb := 0, width := 1, acc := .ro, reset := 0x0, cust := true }
/-- DRK held -/
def TE_STAT_ENROLLED : Fld :=
  { off := 0x040, lsb := 1, width := 1, acc := .ro, reset := 0x0, cust := true }
/-- DRK unsealed, KCV matched -/
def TE_STAT_DRK_OK : Fld :=
  { off := 0x040, lsb := 2, width := 1, acc := .ro, reset := 0x0, cust := true }
/-- K_T valid -/
def TE_STAT_TWIN_KEY : Fld :=
  { off := 0x040, lsb := 3, width := 1, acc := .ro, reset := 0x0, cust := true }
/-- Entropy health passing -/
def TE_STAT_DRBG_OK : Fld :=
  { off := 0x040, lsb := 4, width := 1, acc := .ro, reset := 0x0, cust := true }
/-- Both key store copies valid -/
def TE_STAT_STORE_OK : Fld :=
  { off := 0x040, lsb := 5, width := 1, acc := .ro, reset := 0x0, cust := true }
/-- c, 0–64 -/
def SVN_FUSE : Fld :=
  { off := 0x044, lsb := 0, width := 7, acc := .ro, reset := 0x0, cust := true }
/-- SVN of the running image -/
def SVN_RUNNING : Fld :=
  { off := 0x044, lsb := 8, width := 7, acc := .ro, reset := 0x0, cust := true }
/-- Domain ID -/
def DOMAIN_ID_LO : Fld :=
  { off := 0x048, lsb := 0, width := 32, acc := .ro, reset := 0x0, cust := true }
/-- Domain ID -/
def DOMAIN_ID_HI : Fld :=
  { off := 0x04C, lsb := 0, width := 32, acc := .ro, reset := 0x0, cust := true }
/-- KCV of the DRK -/
def DRK_KCV_LO : Fld :=
  { off := 0x050, lsb := 0, width := 32, acc := .ro, reset := 0x0, cust := true }
/-- KCV of the DRK -/
def DRK_KCV_HI : Fld :=
  { off := 0x054, lsb := 0, width := 32, acc := .ro, reset := 0x0, cust := true }
/-- 0x0000_4C4B LOCK; 0x0000_5356 SVN_COMMIT; 0x0000_4C56 LEAVE; 0x0000_4443 DOMAIN_CREATE, manager only; others refused with CLASS 8 -/
def TRUST_CMD : Fld :=
  { off := 0x058, lsb := 0, width := 32, acc := .wo, reset := 0x0, cust := true }
/-- 0 done, 1 refused, 2 no pinned manager, 3 already enrolled, 4 DRBG failed -/
def TRUST_RESULT : Fld :=
  { off := 0x05C, lsb := 0, width := 4, acc := .ro, reset := 0x0, cust := true }
/-- SHA-384 of the manager's identity public key -/
def MGR_PIN0 : Fld :=
  { off := 0x060, lsb := 0, width := 32, acc := .rwl, reset := 0x0, count := 12, stride := 4, cust := true }
/-- As MGR_PIN[0], for its twin -/
def MGR_PIN1 : Fld :=
  { off := 0x090, lsb := 0, width := 32, acc := .rwl, reset := 0x0, count := 12, stride := 4, cust := true }
/-- Bit n: MGR_PIN[n] valid -/
def PIN_VALID : Fld :=
  { off := 0x0C0, lsb := 0, width := 2, acc := .rwl, reset := 0x0, cust := true }
/-- Digest of the domain debug key; all zeros for none -/
def DBG_PIN : Fld :=
  { off := 0x0C4, lsb := 0, width := 32, acc := .rwl, reset := 0x0, count := 12, stride := 4, cust := true }
/-- Namespaces with keys held, 0–64 -/
def NS_KEYS : Fld :=
  { off := 0x0F4, lsb := 0, width := 8, acc := .ro, reset := 0x0, cust := true }
/-- Manager confirmations pending, R523 -/
def ERASE_PEND : Fld :=
  { off := 0x0F4, lsb := 8, width := 8, acc := .ro, reset := 0x0, cust := true }
/-- Seals made -/
def SEAL_CNT : Fld :=
  { off := 0x0F8, lsb := 0, width := 32, acc := .rc, reset := 0x0, cust := true }
/-- SPDM responses signed -/
def SPDM_CNT : Fld :=
  { off := 0x0FC, lsb := 0, width := 32, acc := .rc, reset := 0x0, cust := true }
/-- 1 processes MBOX_IN -/
def MBOX_CTRL_GO : Fld :=
  { off := 0x100, lsb := 0, width := 1, acc := .wo, reset := 0x0, cust := true }
/-- Processing -/
def MBOX_CTRL_BUSY : Fld :=
  { off := 0x100, lsb := 1, width := 1, acc := .ro, reset := 0x0, cust := true }
/-- 0 done, 1 malformed, 2 check failed, 3 out of order, 4 store full -/
def MBOX_CTRL_RESULT : Fld :=
  { off := 0x100, lsb := 8, width := 4, acc := .ro, reset := 0x0, cust := true }
/-- Bytes in MBOX_OUT -/
def MBOX_CTRL_LEN_OUT : Fld :=
  { off := 0x100, lsb := 16, width := 12, acc := .ro, reset := 0x0, cust := true }
/-- n = 0–15 -/
def ROLE_ANCHOR_DIGEST0 : Fld :=
  { off := 0x400, lsb := 0, width := 32, acc := .rwl, reset := 0x0, count := 16, stride := 64, cust := true }
/-- n = 0–15 -/
def ROLE_ANCHOR_DIGEST1 : Fld :=
  { off := 0x404, lsb := 0, width := 32, acc := .rwl, reset := 0x0, count := 16, stride := 64, cust := true }
/-- n = 0–15 -/
def ROLE_ANCHOR_DIGEST2 : Fld :=
  { off := 0x408, lsb := 0, width := 32, acc := .rwl, reset := 0x0, count := 16, stride := 64, cust := true }
/-- n = 0–15 -/
def ROLE_ANCHOR_DIGEST3 : Fld :=
  { off := 0x40C, lsb := 0, width := 32, acc := .rwl, reset := 0x0, count := 16, stride := 64, cust := true }
/-- n = 0–15 -/
def ROLE_ANCHOR_DIGEST4 : Fld :=
  { off := 0x410, lsb := 0, width := 32, acc := .rwl, reset := 0x0, count := 16, stride := 64, cust := true }
/-- n = 0–15 -/
def ROLE_ANCHOR_DIGEST5 : Fld :=
  { off := 0x414, lsb := 0, width := 32, acc := .rwl, reset := 0x0, count := 16, stride := 64, cust := true }
/-- n = 0–15 -/
def ROLE_ANCHOR_DIGEST6 : Fld :=
  { off := 0x418, lsb := 0, width := 32, acc := .rwl, reset := 0x0, count := 16, stride := 64, cust := true }
/-- n = 0–15 -/
def ROLE_ANCHOR_DIGEST7 : Fld :=
  { off := 0x41C, lsb := 0, width := 32, acc := .rwl, reset := 0x0, count := 16, stride := 64, cust := true }
/-- n = 0–15 -/
def ROLE_ANCHOR_DIGEST8 : Fld :=
  { off := 0x420, lsb := 0, width := 32, acc := .rwl, reset := 0x0, count := 16, stride := 64, cust := true }
/-- n = 0–15 -/
def ROLE_ANCHOR_DIGEST9 : Fld :=
  { off := 0x424, lsb := 0, width := 32, acc := .rwl, reset := 0x0, count := 16, stride := 64, cust := true }
/-- n = 0–15 -/
def ROLE_ANCHOR_DIGEST10 : Fld :=
  { off := 0x428, lsb := 0, width := 32, acc := .rwl, reset := 0x0, count := 16, stride := 64, cust := true }
/-- n = 0–15 -/
def ROLE_ANCHOR_DIGEST11 : Fld :=
  { off := 0x42C, lsb := 0, width := 32, acc := .rwl, reset := 0x0, count := 16, stride := 64, cust := true }
/-- 1 observer, 2 operator, 3 custodian; 0 none -/
def ROLE_ANCHOR_ROLE : Fld :=
  { off := 0x430, lsb := 0, width := 2, acc := .rwl, reset := 0x0, count := 16, stride := 64, cust := true }
/-- Entry in use -/
def ROLE_ANCHOR_VALID : Fld :=
  { off := 0x430, lsb := 31, width := 1, acc := .rwl, reset := 0x0, count := 16, stride := 64, cust := true }
/-- Message in -/
def MBOX_IN : Fld :=
  { off := 0x800, lsb := 0, width := 32, acc := .rw, reset := 0x0, count := 256, stride := 4, cust := true }
/-- Message out -/
def MBOX_OUT : Fld :=
  { off := 0xC00, lsb := 0, width := 32, acc := .ro, reset := 0x0, count := 256, stride := 4, cust := true }

/-- Part 0 of the page's fields. -/
def fields0 : List Fld :=
  [TE_STAT_OPEN, TE_STAT_ENROLLED, TE_STAT_DRK_OK, TE_STAT_TWIN_KEY,
   TE_STAT_DRBG_OK, TE_STAT_STORE_OK, SVN_FUSE, SVN_RUNNING,
   DOMAIN_ID_LO, DOMAIN_ID_HI, DRK_KCV_LO, DRK_KCV_HI,
   TRUST_CMD, TRUST_RESULT, MGR_PIN0, MGR_PIN1,
   PIN_VALID, DBG_PIN, NS_KEYS, ERASE_PEND,
   SEAL_CNT, SPDM_CNT, MBOX_CTRL_GO, MBOX_CTRL_BUSY,
   MBOX_CTRL_RESULT, MBOX_CTRL_LEN_OUT, ROLE_ANCHOR_DIGEST0, ROLE_ANCHOR_DIGEST1,
   ROLE_ANCHOR_DIGEST2, ROLE_ANCHOR_DIGEST3, ROLE_ANCHOR_DIGEST4, ROLE_ANCHOR_DIGEST5,
   ROLE_ANCHOR_DIGEST6, ROLE_ANCHOR_DIGEST7, ROLE_ANCHOR_DIGEST8, ROLE_ANCHOR_DIGEST9,
   ROLE_ANCHOR_DIGEST10, ROLE_ANCHOR_DIGEST11, ROLE_ANCHOR_ROLE, ROLE_ANCHOR_VALID]

/-- Part 1 of the page's fields. -/
def fields1 : List Fld :=
  [MBOX_IN, MBOX_OUT]

/-- Every field of the page, in the order of its table. -/
def fields : List Fld := fields0 ++ fields1

end Sys2Proof.Machine.TE

namespace Sys2Proof.Machine.MEDIACRYPT

/-! Fields of MEDIACRYPT (R536 of 15_trust_keys_and_media_encryption.md). -/

/-- Active engines -/
def MX_STAT_ENGINES : Fld :=
  { off := 0x040, lsb := 0, width := 3, acc := .ro, reset := 0x4 }
/-- Bit i: engine i active -/
def MX_STAT_ENGINE_MAP : Fld :=
  { off := 0x040, lsb := 4, width := 5, acc := .ro, reset := 0xF }
/-- Bit i: engine i failed -/
def MX_STAT_ENGINE_FAILED : Fld :=
  { off := 0x040, lsb := 12, width := 5, acc := .ro, reset := 0x0 }
/-- Key slots holding a key, 0–256 -/
def SLOTS_USED : Fld :=
  { off := 0x044, lsb := 0, width := 9, acc := .ro, reset := 0x0 }
/-- Blocks encrypted -/
def ENC_BLOCKS : Fld :=
  { off := 0x048, lsb := 0, width := 32, acc := .rc, reset := 0x0 }
/-- Blocks verified -/
def DEC_BLOCKS : Fld :=
  { off := 0x04C, lsb := 0, width := 32, acc := .rc, reset := 0x0 }
/-- Tags failed, all causes -/
def TAG_FAIL : Fld :=
  { off := 0x050, lsb := 0, width := 32, acc := .rc, reset := 0x0 }
/-- Blocks that waited under R519 -/
def KEY_MISS : Fld :=
  { off := 0x054, lsb := 0, width := 32, acc := .rc, reset := 0x0 }
/-- Comparisons failed under R522 -/
def SELFCHK_FAIL : Fld :=
  { off := 0x058, lsb := 0, width := 32, acc := .rc, reset := 0x0 }
/-- 1 clears every key slot -/
def KEY_FLUSH : Fld :=
  { off := 0x05C, lsb := 0, width := 1, acc := .wo, reset := 0x0 }

/-- Part 0 of the page's fields. -/
def fields0 : List Fld :=
  [MX_STAT_ENGINES, MX_STAT_ENGINE_MAP, MX_STAT_ENGINE_FAILED, SLOTS_USED,
   ENC_BLOCKS, DEC_BLOCKS, TAG_FAIL, KEY_MISS,
   SELFCHK_FAIL, KEY_FLUSH]

/-- Every field of the page, in the order of its table. -/
def fields : List Fld := fields0

end Sys2Proof.Machine.MEDIACRYPT

namespace Sys2Proof.Machine.TW

/-! Fields of TW (R561 of 16_twin_pairing_and_rack_hierarchy.md). -/

/-- 0 unpaired, 1 pairing, 2 paired, 3 alone, 4 partition holding (side B), 5 withdrawn (side A), 6 handing over -/
def TW_STAT_STATE : Fld :=
  { off := 0x040, lsb := 0, width := 3, acc := .ro, reset := 0x0 }
/-- R543 -/
def TW_STAT_PIN_ALIVE : Fld :=
  { off := 0x040, lsb := 3, width := 1, acc := .ro, reset := 0x0 }
/-- R544 -/
def TW_STAT_T_ALIVE : Fld :=
  { off := 0x040, lsb := 4, width := 1, acc := .ro, reset := 0x0 }
/-- R545 -/
def TW_STAT_PIN_FAULT : Fld :=
  { off := 0x040, lsb := 5, width := 1, acc := .ro, reset := 0x0 }
/-- Newest epoch in the token table -/
def TW_STAT_EPOCH : Fld :=
  { off := 0x040, lsb := 8, width := 8, acc := .ro, reset := 0x0 }
/-- Twin's CHIP.STATE from HEARTBEAT -/
def TW_STAT_TWIN_STATE : Fld :=
  { off := 0x040, lsb := 16, width := 4, acc := .ro, reset := 0x0 }
/-- Twin's serial from HELLO -/
def TWIN_SER_LO : Fld :=
  { off := 0x044, lsb := 0, width := 32, acc := .ro, reset := 0x0 }
/-- Twin's serial from HELLO -/
def TWIN_SER_HI : Fld :=
  { off := 0x048, lsb := 0, width := 32, acc := .ro, reset := 0x0 }
/-- Bit n: token n to side B at pairing -/
def SPLIT_LO : Fld :=
  { off := 0x04C, lsb := 0, width := 32, acc := .rwl, reset := 0xFFFF0000 }
/-- Tokens 32–43 -/
def SPLIT_HI : Fld :=
  { off := 0x050, lsb := 0, width := 12, acc := .rwl, reset := 0x7E1 }
/-- Bit n: this side holds token n -/
def OWNED_LO : Fld :=
  { off := 0x054, lsb := 0, width := 32, acc := .ro, reset := 0x0 }
/-- Tokens 32–43 -/
def OWNED_HI : Fld :=
  { off := 0x058, lsb := 0, width := 12, acc := .ro, reset := 0x0 }
/-- Token; 0x3F every held token -/
def HO_CMD_TOKEN : Fld :=
  { off := 0x05C, lsb := 0, width := 6, acc := .wo, reset := 0x0, cust := true }
/-- Custodian only: 1 give, 2 return to SPLIT under R549 -/
def HO_CMD_OP : Fld :=
  { off := 0x05C, lsb := 8, width := 2, acc := .wo, reset := 0x0, cust := true }
/-- Token of the last handover -/
def HO_RESULT_TOKEN : Fld :=
  { off := 0x060, lsb := 0, width := 6, acc := .ro, reset := 0x0 }
/-- 0 done, 1 busy, 2 twin not paired, 3 twin not ready, 4 object did not come idle, 5 import or arm refused, 6 timeout -/
def HO_RESULT_CODE : Fld :=
  { off := 0x060, lsb := 8, width := 4, acc := .ro, reset := 0x0 }
/-- R545 -/
def TW_CFG_AUTO_TAKE : Fld :=
  { off := 0x064, lsb := 0, width := 1, acc := .rwl, reset := 0x1 }
/-- R549 -/
def TW_CFG_AUTO_RETURN : Fld :=
  { off := 0x064, lsb := 1, width := 1, acc := .rw, reset := 0x1 }
/-- Units of 100 µs, 10–255 -/
def TW_CFG_T_HB_MISS : Fld :=
  { off := 0x064, lsb := 8, width := 8, acc := .rw, reset := 0x32 }
/-- Edges, 3–15 -/
def TW_CFG_PIN_MISS : Fld :=
  { off := 0x064, lsb := 16, width := 4, acc := .rw, reset := 0x5 }
/-- ms, 10–255 -/
def TW_CFG_PART_WAIT : Fld :=
  { off := 0x064, lsb := 24, width := 8, acc := .rw, reset := 0x64 }
/-- Port T send rate over the last 1 ms, Gbit/s -/
def T_RATE_TX : Fld :=
  { off := 0x068, lsb := 0, width := 16, acc := .ro, reset := 0x0 }
/-- Receive rate, Gbit/s -/
def T_RATE_RX : Fld :=
  { off := 0x068, lsb := 16, width := 16, acc := .ro, reset := 0x0 }
/-- Unplanned takeovers -/
def TAKEOVERS : Fld :=
  { off := 0x06C, lsb := 0, width := 32, acc := .rc, reset := 0x0 }
/-- Objects handed either way -/
def HANDOVERS : Fld :=
  { off := 0x070, lsb := 0, width := 32, acc := .rc, reset := 0x0 }
/-- R552 -/
def CONFLICTS : Fld :=
  { off := 0x074, lsb := 0, width := 32, acc := .rc, reset := 0x0 }
/-- R540 -/
def T_AUTH_FAIL : Fld :=
  { off := 0x078, lsb := 0, width := 32, acc := .rc, reset := 0x0 }
/-- R540 -/
def T_REPLAY : Fld :=
  { off := 0x07C, lsb := 0, width := 32, acc := .rc, reset := 0x0 }
/-- ms of I/O stall at the last takeover -/
def LAST_TO_STALL : Fld :=
  { off := 0x080, lsb := 0, width := 16, acc := .ro, reset := 0x0 }
/-- ms from declaration to every taken head locked -/
def LAST_TO_FOCUS : Fld :=
  { off := 0x080, lsb := 16, width := 16, acc := .ro, reset := 0x0 }
/-- Current boot number -/
def BOOT : Fld :=
  { off := 0x084, lsb := 0, width := 31, acc := .ro, reset := 0x0 }

/-- Part 0 of the page's fields. -/
def fields0 : List Fld :=
  [TW_STAT_STATE, TW_STAT_PIN_ALIVE, TW_STAT_T_ALIVE, TW_STAT_PIN_FAULT,
   TW_STAT_EPOCH, TW_STAT_TWIN_STATE, TWIN_SER_LO, TWIN_SER_HI,
   SPLIT_LO, SPLIT_HI, OWNED_LO, OWNED_HI,
   HO_CMD_TOKEN, HO_CMD_OP, HO_RESULT_TOKEN, HO_RESULT_CODE,
   TW_CFG_AUTO_TAKE, TW_CFG_AUTO_RETURN, TW_CFG_T_HB_MISS, TW_CFG_PIN_MISS,
   TW_CFG_PART_WAIT, T_RATE_TX, T_RATE_RX, TAKEOVERS,
   HANDOVERS, CONFLICTS, T_AUTH_FAIL, T_REPLAY,
   LAST_TO_STALL, LAST_TO_FOCUS, BOOT]

/-- Every field of the page, in the order of its table. -/
def fields : List Fld := fields0

end Sys2Proof.Machine.TW

namespace Sys2Proof.Machine.HY

/-! Fields of HY (R562 of 16_twin_pairing_and_rack_hierarchy.md). -/

/-- REG_ACK received since PORST_N -/
def HY_STAT_REGISTERED : Fld :=
  { off := 0x040, lsb := 0, width := 1, acc := .ro, reset := 0x0 }
/-- This controller holds token 43 -/
def HY_STAT_ACTIVE_MGR : Fld :=
  { off := 0x040, lsb := 1, width := 1, acc := .ro, reset := 0x0 }
/-- Manager: shelves registered -/
def HY_STAT_WORKERS : Fld :=
  { off := 0x040, lsb := 8, width := 8, acc := .ro, reset := 0x0 }
/-- Manager: shelves missing -/
def HY_STAT_MISSING : Fld :=
  { off := 0x040, lsb := 16, width := 8, acc := .ro, reset := 0x0 }
/-- Manager IPv6 address, first word bits [127:96]; zeros for multicast only -/
def MGR_ADDR : Fld :=
  { off := 0x044, lsb := 0, width := 32, acc := .rw, reset := 0x0, count := 4, stride := 4 }
/-- Advances every 100 ms -/
def HB_CNT : Fld :=
  { off := 0x054, lsb := 0, width := 32, acc := .ro, reset := 0x0 }
/-- Custodian: any write sets REGISTERED -/
def REG_ACK : Fld :=
  { off := 0x058, lsb := 0, width := 32, acc := .wo, reset := 0x0, cust := true }
/-- CHIP.TIME_LO at REG_ACK -/
def REG_TIME : Fld :=
  { off := 0x05C, lsb := 0, width := 32, acc := .ro, reset := 0x0 }
/-- Device serial -/
def SERIAL_LO : Fld :=
  { off := 0x060, lsb := 0, width := 32, acc := .ro, reset := 0x0 }
/-- Device serial -/
def SERIAL_HI : Fld :=
  { off := 0x064, lsb := 0, width := 32, acc := .ro, reset := 0x0 }
/-- LOAD_ID of log C0h -/
def LOAD_LO : Fld :=
  { off := 0x068, lsb := 0, width := 32, acc := .ro, reset := 0x0 }
/-- LOAD_ID of log C0h -/
def LOAD_HI : Fld :=
  { off := 0x06C, lsb := 0, width := 32, acc := .ro, reset := 0x0 }
/-- STATE of log C0h -/
def SHELF_LOAD_STATE : Fld :=
  { off := 0x070, lsb := 0, width := 8, acc := .ro, reset := 0x0 }
/-- NVME.PS.CUR -/
def SHELF_PS : Fld :=
  { off := 0x070, lsb := 8, width := 3, acc := .ro, reset := 0x0 }
/-- Catalogue generation -/
def SHELF_CAT_GEN : Fld :=
  { off := 0x070, lsb := 16, width := 16, acc := .ro, reset := 0x0 }
/-- Operator; a write of HI issues Stage Load of the 64-bit value (R483) -/
def STAGE_REQ_LO : Fld :=
  { off := 0x074, lsb := 0, width := 32, acc := .rw, reset := 0x0 }
/-- Operator; a write of HI issues Stage Load of the 64-bit value (R483) -/
def STAGE_REQ_HI : Fld :=
  { off := 0x078, lsb := 0, width := 32, acc := .rw, reset := 0x0 }
/-- 0 accepted, or the status of R483 -/
def STAGE_RESULT : Fld :=
  { off := 0x07C, lsb := 0, width := 8, acc := .ro, reset := 0x0 }
/-- R554 -/
def MGR_CFG_AUTO_ENROL : Fld :=
  { off := 0x080, lsb := 0, width := 1, acc := .rwl, reset := 0x0 }
/-- R555 -/
def MGR_CFG_PC_EN : Fld :=
  { off := 0x080, lsb := 1, width := 1, acc := .rw, reset := 0x0 }
/-- s, 2–60 -/
def MGR_CFG_WMISS : Fld :=
  { off := 0x080, lsb := 8, width := 8, acc := .rw, reset := 0x3 }
/-- s, 10–3,600 -/
def MGR_CFG_WMISS_PC : Fld :=
  { off := 0x080, lsb := 16, width := 16, acc := .rw, reset := 0x3C }
/-- 7-bit address -/
def PMB_CFG_PMB_ADDR : Fld :=
  { off := 0x084, lsb := 0, width := 7, acc := .rw, reset := 0x40 }
/-- 1–15 -/
def PMB_CFG_PWR_CONC : Fld :=
  { off := 0x084, lsb := 8, width := 4, acc := .rw, reset := 0x2 }
/-- s -/
def PMB_CFG_PWR_GAP : Fld :=
  { off := 0x084, lsb := 16, width := 8, acc := .rw, reset := 0xA }
/-- Rack budget, W -/
def RACK_W : Fld :=
  { off := 0x088, lsb := 0, width := 32, acc := .rw, reset := 0x9C40 }
/-- Budget per powered shelf, W -/
def SHELF_W : Fld :=
  { off := 0x08C, lsb := 0, width := 16, acc := .rw, reset := 0x5DC }
/-- R557; 0 none -/
def CAT_NSID : Fld :=
  { off := 0x090, lsb := 0, width := 7, acc := .rw, reset := 0x0 }
/-- Shelf -/
def PWR_CMD_SHELF : Fld :=
  { off := 0x094, lsb := 0, width := 6, acc := .wo, reset := 0x0 }
/-- 1 on, 2 soft off, 3 power cycle (custodian) -/
def PWR_CMD_OP : Fld :=
  { off := 0x094, lsb := 8, width := 2, acc := .wo, reset := 0x0 }
/-- 0 done, 1 queued, 2 refused: controllers not in PS4, 3 PMBus failed -/
def PWR_RESULT : Fld :=
  { off := 0x098, lsb := 0, width := 4, acc := .ro, reset := 0x0 }
/-- k = 0–63: side A 0 unknown, 1 registered, 2 missing, 3 dark -/
def WORKER_A : Fld :=
  { off := 0x0A0, lsb := 0, width := 2, acc := .ro, reset := 0x0, count := 64, stride := 8 }
/-- Side B, as A -/
def WORKER_B : Fld :=
  { off := 0x0A0, lsb := 2, width := 2, acc := .ro, reset := 0x0, count := 64, stride := 8 }
/-- OPERATION on -/
def WORKER_POWERED : Fld :=
  { off := 0x0A0, lsb := 4, width := 1, acc := .ro, reset := 0x0, count := 64, stride := 8 }
/-- Power-on queued -/
def WORKER_QUEUED : Fld :=
  { off := 0x0A0, lsb := 5, width := 1, acc := .ro, reset := 0x0, count := 64, stride := 8 }
/-- From the registration block -/
def WORKER_LOAD_STATE : Fld :=
  { off := 0x0A0, lsb := 8, width := 8, acc := .ro, reset := 0x0, count := 64, stride := 8 }
/-- Last PMBus STATUS_WORD -/
def WORKER_STATUS_WORD : Fld :=
  { off := 0x0A4, lsb := 0, width := 16, acc := .ro, reset := 0x0, count := 64, stride := 8 }
/-- s since the last heartbeat, saturating -/
def WORKER_SILENT : Fld :=
  { off := 0x0A4, lsb := 16, width := 16, acc := .ro, reset := 0x0, count := 64, stride := 8 }

/-- Part 0 of the page's fields. -/
def fields0 : List Fld :=
  [HY_STAT_REGISTERED, HY_STAT_ACTIVE_MGR, HY_STAT_WORKERS, HY_STAT_MISSING,
   MGR_ADDR, HB_CNT, REG_ACK, REG_TIME,
   SERIAL_LO, SERIAL_HI, LOAD_LO, LOAD_HI,
   SHELF_LOAD_STATE, SHELF_PS, SHELF_CAT_GEN, STAGE_REQ_LO,
   STAGE_REQ_HI, STAGE_RESULT, MGR_CFG_AUTO_ENROL, MGR_CFG_PC_EN,
   MGR_CFG_WMISS, MGR_CFG_WMISS_PC, PMB_CFG_PMB_ADDR, PMB_CFG_PWR_CONC,
   PMB_CFG_PWR_GAP, RACK_W, SHELF_W, CAT_NSID,
   PWR_CMD_SHELF, PWR_CMD_OP, PWR_RESULT, WORKER_A,
   WORKER_B, WORKER_POWERED, WORKER_QUEUED, WORKER_LOAD_STATE,
   WORKER_STATUS_WORD, WORKER_SILENT]

/-- Every field of the page, in the order of its table. -/
def fields : List Fld := fields0

end Sys2Proof.Machine.HY

namespace Sys2Proof.Machine.ST

/-! Fields of ST (R589 of 17_bringup_readiness_and_self_repair.md). -/

/-- 0 idle, 1 testing, 2 paused by overload -/
def ST_STAT_STATE : Fld :=
  { off := 0x040, lsb := 0, width := 2, acc := .ro, reset := 0x0 }
/-- Test running; 0 none -/
def ST_STAT_TEST : Fld :=
  { off := 0x040, lsb := 4, width := 4, acc := .ro, reset := 0x0 }
/-- Register address [23:12] of the object's page -/
def ST_STAT_PAGE : Fld :=
  { off := 0x040, lsb := 8, width := 12, acc := .ro, reset := 0x0 }
/-- Cell index -/
def ST_STAT_CELL : Fld :=
  { off := 0x040, lsb := 20, width := 8, acc := .ro, reset := 0x0 }
/-- Self-test on -/
def ST_CFG_ST_EN : Fld :=
  { off := 0x044, lsb := 0, width := 1, acc := .rw, reset := 0x1 }
/-- R579 -/
def ST_CFG_AUTO_FORCE : Fld :=
  { off := 0x044, lsb := 1, width := 1, acc := .rw, reset := 0x0 }
/-- Powered hours, 1–255 -/
def ST_CFG_ST_PERIOD : Fld :=
  { off := 0x044, lsb := 8, width := 8, acc := .rw, reset := 0x18 }
/-- Units of 10 ms, 1–255 -/
def ST_CFG_IDLE_MIN : Fld :=
  { off := 0x044, lsb := 16, width := 8, acc := .rw, reset := 0xA }
/-- Bit t - 1 enables test t -/
def TEST_MASK : Fld :=
  { off := 0x048, lsb := 0, width := 9, acc := .rw, reset := 0x1FF }
/-- Test 1–9 -/
def TEST_REQ_TEST : Fld :=
  { off := 0x04C, lsb := 0, width := 4, acc := .wo, reset := 0x0 }
/-- Address [23:12] of the object's page -/
def TEST_REQ_PAGE : Fld :=
  { off := 0x04C, lsb := 4, width := 12, acc := .wo, reset := 0x0 }
/-- Cell index; 0xFF every cell of the object in turn -/
def TEST_REQ_CELL : Fld :=
  { off := 0x04C, lsb := 16, width := 8, acc := .wo, reset := 0x0 }
/-- R580 -/
def TEST_REQ_FORCE : Fld :=
  { off := 0x04C, lsb := 24, width := 1, acc := .wo, reset := 0x0 }
/-- 0 none, 1 pending, 2 running, 3 done -/
def REQ_STAT_STATE : Fld :=
  { off := 0x050, lsb := 0, width := 2, acc := .ro, reset := 0x0 }
/-- 0 pass, 1 fail, 2 ended early, 3 refused, 4 invalid target -/
def REQ_STAT_RESULT : Fld :=
  { off := 0x050, lsb := 2, width := 4, acc := .ro, reset := 0x0 }
/-- Powered seconds in total -/
def POWERED_S : Fld :=
  { off := 0x054, lsb := 0, width := 32, acc := .ro, reset := 0x0 }
/-- t = 1–9: next object -/
def COV_CURSOR : Fld :=
  { off := 0x060, lsb := 0, width := 16, acc := .ro, reset := 0x0, count := 9, stride := 8 }
/-- Objects in a pass -/
def COV_OBJECTS : Fld :=
  { off := 0x060, lsb := 16, width := 16, acc := .ro, reset := 0x0, count := 9, stride := 8 }
/-- Passes completed -/
def COV_PASS : Fld :=
  { off := 0x064, lsb := 0, width := 16, acc := .ro, reset := 0x0, count := 9, stride := 8 }
/-- Powered hours since the pass began, saturating -/
def COV_AGE_H : Fld :=
  { off := 0x064, lsb := 16, width := 16, acc := .ro, reset := 0x0, count := 9, stride := 8 }
/-- Objects condemned -/
def TEST_FAIL : Fld :=
  { off := 0x0A8, lsb := 0, width := 32, acc := .rc, reset := 0x0 }
/-- Objects passed -/
def TEST_PASS : Fld :=
  { off := 0x0AC, lsb := 0, width := 32, acc := .rc, reset := 0x0 }
/-- Test of the last failure -/
def LAST_FAIL_TEST : Fld :=
  { off := 0x0B0, lsb := 0, width := 4, acc := .ro, reset := 0x0 }
/-- Its page -/
def LAST_FAIL_PAGE : Fld :=
  { off := 0x0B0, lsb := 4, width := 12, acc := .ro, reset := 0x0 }
/-- Its cell -/
def LAST_FAIL_CELL : Fld :=
  { off := 0x0B0, lsb := 16, width := 8, acc := .ro, reset := 0x0 }
/-- A failure since reset -/
def LAST_FAIL_VALID : Fld :=
  { off := 0x0B0, lsb := 31, width := 1, acc := .ro, reset := 0x0 }

/-- Part 0 of the page's fields. -/
def fields0 : List Fld :=
  [ST_STAT_STATE, ST_STAT_TEST, ST_STAT_PAGE, ST_STAT_CELL,
   ST_CFG_ST_EN, ST_CFG_AUTO_FORCE, ST_CFG_ST_PERIOD, ST_CFG_IDLE_MIN,
   TEST_MASK, TEST_REQ_TEST, TEST_REQ_PAGE, TEST_REQ_CELL,
   TEST_REQ_FORCE, REQ_STAT_STATE, REQ_STAT_RESULT, POWERED_S,
   COV_CURSOR, COV_OBJECTS, COV_PASS, COV_AGE_H,
   TEST_FAIL, TEST_PASS, LAST_FAIL_TEST, LAST_FAIL_PAGE,
   LAST_FAIL_CELL, LAST_FAIL_VALID]

/-- Every field of the page, in the order of its table. -/
def fields : List Fld := fields0

end Sys2Proof.Machine.ST

namespace Sys2Proof.Machine.TRIM

/-! Fields of TRIM (R590 of 17_bringup_readiness_and_self_repair.md). -/

/-- 0 eFuse, 1 flash copy, 2 ROM defaults -/
def TRIM_STAT_SOURCE : Fld :=
  { off := 0x040, lsb := 0, width := 2, acc := .ro, reset := 0x0 }
/-- eFuse check word valid -/
def TRIM_STAT_FUSE_OK : Fld :=
  { off := 0x040, lsb := 2, width := 1, acc := .ro, reset := 0x0 }
/-- Flash copy signature and check word valid -/
def TRIM_STAT_FLASH_OK : Fld :=
  { off := 0x040, lsb := 3, width := 1, acc := .ro, reset := 0x0 }
/-- Flash copy equals the eFuse -/
def TRIM_STAT_MATCH : Fld :=
  { off := 0x040, lsb := 4, width := 1, acc := .ro, reset := 0x0 }
/-- Check word in use -/
def TRIM_CRC : Fld :=
  { off := 0x044, lsb := 0, width := 32, acc := .ro, reset := 0x0 }
/-- n = 0–255, word n of the store in use -/
def TRIM_WORD : Fld :=
  { off := 0x400, lsb := 0, width := 32, acc := .ro, reset := 0x0, count := 256, stride := 4 }

/-- Part 0 of the page's fields. -/
def fields0 : List Fld :=
  [TRIM_STAT_SOURCE, TRIM_STAT_FUSE_OK, TRIM_STAT_FLASH_OK, TRIM_STAT_MATCH,
   TRIM_CRC, TRIM_WORD]

/-- Every field of the page, in the order of its table. -/
def fields : List Fld := fields0

end Sys2Proof.Machine.TRIM

namespace Sys2Proof.Machine.MC

/-! Fields of MC (R591 of 17_bringup_readiness_and_self_repair.md). -/

/-- Active cores -/
def MC_STAT_ACTIVE : Fld :=
  { off := 0x040, lsb := 0, width := 4, acc := .ro, reset := 0x8 }
/-- R586 -/
def MC_STAT_OVERLOAD : Fld :=
  { off := 0x040, lsb := 4, width := 1, acc := .ro, reset := 0x0 }
/-- Watchdog reporting to TW (R584) -/
def MC_STAT_WDOG_OK : Fld :=
  { off := 0x040, lsb := 5, width := 1, acc := .ro, reset := 0x0 }
/-- Bit c: core c active -/
def CORE_MAP : Fld :=
  { off := 0x044, lsb := 0, width := 10, acc := .ro, reset := 0xFF }
/-- Bit c: core c retired -/
def CORE_FAILED : Fld :=
  { off := 0x048, lsb := 0, width := 10, acc := .ro, reset := 0x0 }
/-- Busy share of active cores over the last 1 ms, 0.1 % -/
def LOAD_NOW : Fld :=
  { off := 0x04C, lsb := 0, width := 16, acc := .ro, reset := 0x0 }
/-- Peak, 0.1 % -/
def LOAD_PEAK : Fld :=
  { off := 0x04C, lsb := 16, width := 16, acc := .rc, reset := 0x0 }
/-- ms, 2–100 -/
def WDT_CFG_WDT_MS : Fld :=
  { off := 0x050, lsb := 0, width := 8, acc := .rw, reset := 0xA }
/-- Percent, 50–99 -/
def WDT_CFG_OVL_ON : Fld :=
  { off := 0x050, lsb := 8, width := 8, acc := .rw, reset := 0x5A }
/-- Percent, 30 to OVL_ON -/
def WDT_CFG_OVL_OFF : Fld :=
  { off := 0x050, lsb := 16, width := 8, acc := .rw, reset := 0x4B }
/-- R584 -/
def WDT_CFG_MIN_CORES : Fld :=
  { off := 0x050, lsb := 24, width := 4, acc := .ro, reset := 0x4 }
/-- Units of 100 ms, 1–255 -/
def BOOT_CFG_BOOT_HOLD : Fld :=
  { off := 0x054, lsb := 0, width := 8, acc := .rw, reset := 0xA }
/-- R566 -/
def BOOT_CFG_FATAL_RESET_EN : Fld :=
  { off := 0x054, lsb := 8, width := 1, acc := .rwl, reset := 0x1 }
/-- Units of 100 ms, 1–255 -/
def BOOT_CFG_FATAL_HOLD : Fld :=
  { off := 0x054, lsb := 16, width := 8, acc := .rw, reset := 0xA }
/-- Longest wait under R585 since reset, ms -/
def ADMIN_WAIT_MAX : Fld :=
  { off := 0x058, lsb := 0, width := 16, acc := .ro, reset := 0x0 }
/-- Admin commands waiting -/
def ADMIN_QUEUED : Fld :=
  { off := 0x058, lsb := 16, width := 16, acc := .ro, reset := 0x0 }
/-- R583 -/
def CORE_RESTARTS : Fld :=
  { off := 0x05C, lsb := 0, width := 32, acc := .rc, reset := 0x0 }
/-- Watchdog expiries -/
def WDT_EXPIRED : Fld :=
  { off := 0x060, lsb := 0, width := 32, acc := .rc, reset := 0x0 }
/-- Time in overload, ms -/
def OVERLOAD_MS : Fld :=
  { off := 0x064, lsb := 0, width := 32, acc := .rc, reset := 0x0 }
/-- Fatal resets within the last powered hour -/
def FATAL_RESETS : Fld :=
  { off := 0x068, lsb := 0, width := 8, acc := .ro, reset := 0x0 }
/-- c = 0–9: 0 off, 1 starting, 2 running, 3 spare idle, 4 under test, 5 retired -/
def CORE_STATE : Fld :=
  { off := 0x100, lsb := 0, width := 3, acc := .ro, reset := 0x0, count := 10, stride := 4 }
/-- Task group, 0–7; 0xF none -/
def CORE_GROUP : Fld :=
  { off := 0x100, lsb := 8, width := 4, acc := .ro, reset := 0xF, count := 10, stride := 4 }
/-- Busy percent over the last 1 ms -/
def CORE_LOAD : Fld :=
  { off := 0x100, lsb := 16, width := 8, acc := .ro, reset := 0x0, count := 10, stride := 4 }

/-- Part 0 of the page's fields. -/
def fields0 : List Fld :=
  [MC_STAT_ACTIVE, MC_STAT_OVERLOAD, MC_STAT_WDOG_OK, CORE_MAP,
   CORE_FAILED, LOAD_NOW, LOAD_PEAK, WDT_CFG_WDT_MS,
   WDT_CFG_OVL_ON, WDT_CFG_OVL_OFF, WDT_CFG_MIN_CORES, BOOT_CFG_BOOT_HOLD,
   BOOT_CFG_FATAL_RESET_EN, BOOT_CFG_FATAL_HOLD, ADMIN_WAIT_MAX, ADMIN_QUEUED,
   CORE_RESTARTS, WDT_EXPIRED, OVERLOAD_MS, FATAL_RESETS,
   CORE_STATE, CORE_GROUP, CORE_LOAD]

/-- Every field of the page, in the order of its table. -/
def fields : List Fld := fields0

end Sys2Proof.Machine.MC

namespace Sys2Proof.Machine.ER

/-! Fields of ER (R612 of 18_event_recorder_and_observation_queues.md). -/

/-- R601 -/
def ER_STAT_MIRROR_OK : Fld :=
  { off := 0x040, lsb := 0, width := 1, acc := .ro, reset := 0x0 }
/-- SEQ of the newest record -/
def NEWEST_SEQ : Fld :=
  { off := 0x044, lsb := 0, width := 32, acc := .ro, reset := 0x0 }
/-- Lowest SEQ held -/
def OLDEST_SEQ : Fld :=
  { off := 0x048, lsb := 0, width := 32, acc := .ro, reset := 0x0 }
/-- Records held -/
def RECORDS : Fld :=
  { off := 0x04C, lsb := 0, width := 16, acc := .ro, reset := 0x0 }
/-- KiB in use, 0–1,024 -/
def USED_KIB : Fld :=
  { off := 0x04C, lsb := 16, width := 11, acc := .ro, reset := 0x0 }
/-- Removals under R596; wraps -/
def REMOVALS : Fld :=
  { off := 0x050, lsb := 0, width := 32, acc := .ro, reset := 0x0 }
/-- Records removed -/
def OVERWRITE_CNT : Fld :=
  { off := 0x054, lsb := 0, width := 32, acc := .rc, reset := 0x0 }
/-- R597 -/
def DROP_CNT : Fld :=
  { off := 0x058, lsb := 0, width := 32, acc := .rc, reset := 0x0 }
/-- R595 -/
def FOLD_CNT : Fld :=
  { off := 0x05C, lsb := 0, width := 32, acc := .rc, reset := 0x0 }
/-- Per path, R598 -/
def WIN_CURSOR : Fld :=
  { off := 0x060, lsb := 0, width := 32, acc := .rw, reset := 0x0 }
/-- Window port -/
def WIN_DATA : Fld :=
  { off := 0x064, lsb := 0, width := 32, acc := .ro, reset := 0x0 }
/-- Cursor above NEWEST_SEQ -/
def WIN_STAT_EMPTY : Fld :=
  { off := 0x068, lsb := 0, width := 1, acc := .ro, reset := 0x1 }
/-- R598 -/
def WIN_STAT_SKIPPED : Fld :=
  { off := 0x068, lsb := 1, width := 1, acc := .ro, reset := 0x0 }
/-- Words left in the record in progress -/
def WIN_STAT_WORDS_LEFT : Fld :=
  { off := 0x068, lsb := 2, width := 7, acc := .ro, reset := 0x0 }
/-- Highest SEQ in the mirror -/
def MIRROR_NEWEST : Fld :=
  { off := 0x06C, lsb := 0, width := 32, acc := .ro, reset := 0x0 }
/-- Failed mirror writes -/
def MIRROR_ERR : Fld :=
  { off := 0x070, lsb := 0, width := 32, acc := .rc, reset := 0x0 }
/-- R600 -/
def ER_CLEAR : Fld :=
  { off := 0x074, lsb := 0, width := 32, acc := .wo, reset := 0x0, cust := true }

/-- Part 0 of the page's fields. -/
def fields0 : List Fld :=
  [ER_STAT_MIRROR_OK, NEWEST_SEQ, OLDEST_SEQ, RECORDS,
   USED_KIB, REMOVALS, OVERWRITE_CNT, DROP_CNT,
   FOLD_CNT, WIN_CURSOR, WIN_DATA, WIN_STAT_EMPTY,
   WIN_STAT_SKIPPED, WIN_STAT_WORDS_LEFT, MIRROR_NEWEST, MIRROR_ERR,
   ER_CLEAR]

/-- Every field of the page, in the order of its table. -/
def fields : List Fld := fields0

end Sys2Proof.Machine.ER

namespace Sys2Proof.Machine.OBSQ

/-! Fields of OBSQ (R613 of 18_event_recorder_and_observation_queues.md). -/

/-- Bit q: queue q holds an item -/
def NONEMPTY_LO : Fld :=
  { off := 0x040, lsb := 0, width := 32, acc := .ro, reset := 0x0 }
/-- Bit q: queue q holds an item -/
def NONEMPTY_HI : Fld :=
  { off := 0x044, lsb := 0, width := 32, acc := .ro, reset := 0x0 }
/-- Bit q: queue q taken by OQ_WIN -/
def OQ_READ_MASK_LO : Fld :=
  { off := 0x048, lsb := 0, width := 32, acc := .rw, reset := 0xFFFFFFFF }
/-- Bit q: queue q taken by OQ_WIN -/
def OQ_READ_MASK_HI : Fld :=
  { off := 0x04C, lsb := 0, width := 32, acc := .rw, reset := 0xFFFFFFFF }
/-- Window port, R605 -/
def OQ_WIN : Fld :=
  { off := 0x050, lsb := 0, width := 32, acc := .ro, reset := 0x0 }
/-- Queue of the item in progress -/
def OQ_WSTAT_QUEUE : Fld :=
  { off := 0x054, lsb := 0, width := 6, acc := .ro, reset := 0x0 }
/-- No masked queue holds an item -/
def OQ_WSTAT_EMPTY : Fld :=
  { off := 0x054, lsb := 6, width := 1, acc := .ro, reset := 0x1 }
/-- Words left in the item in progress -/
def OQ_WSTAT_WORDS_LEFT : Fld :=
  { off := 0x054, lsb := 8, width := 8, acc := .ro, reset := 0x0 }
/-- Queue to flush -/
def Q_FLUSH_QUEUE : Fld :=
  { off := 0x058, lsb := 0, width := 6, acc := .wo, reset := 0x0 }
/-- 1 flushes every queue -/
def Q_FLUSH_ALL : Fld :=
  { off := 0x058, lsb := 6, width := 1, acc := .wo, reset := 0x0 }
/-- Items dropped, all queues -/
def GAP_TOTAL : Fld :=
  { off := 0x05C, lsb := 0, width := 32, acc := .rc, reset := 0x0 }
/-- 7 highest -/
def Q_CFG_PRIO : Fld :=
  { off := 0x100, lsb := 0, width := 3, acc := .rw, reset := 0x0, count := 64, stride := 4 }
/-- Queue accepts items -/
def Q_CFG_ENABLE : Fld :=
  { off := 0x100, lsb := 3, width := 1, acc := .rw, reset := 0x0, count := 64, stride := 4 }
/-- R602; read-only 0 for q below 16 -/
def Q_CFG_SRC : Fld :=
  { off := 0x100, lsb := 8, width := 4, acc := .rw, reset := 0x0, count := 64, stride := 4 }
/-- ms, 1–255 -/
def Q_CFG_PERIOD : Fld :=
  { off := 0x100, lsb := 16, width := 8, acc := .rw, reset := 0xA, count := 64, stride := 4 }
/-- Bytes held, 0–65,536 -/
def Q_FILL : Fld :=
  { off := 0x200, lsb := 0, width := 17, acc := .ro, reset := 0x0, count := 64, stride := 4 }
/-- Items dropped from queue q -/
def Q_DROP : Fld :=
  { off := 0x300, lsb := 0, width := 32, acc := .rc, reset := 0x0, count := 64, stride := 4 }

/-- Part 0 of the page's fields. -/
def fields0 : List Fld :=
  [NONEMPTY_LO, NONEMPTY_HI, OQ_READ_MASK_LO, OQ_READ_MASK_HI,
   OQ_WIN, OQ_WSTAT_QUEUE, OQ_WSTAT_EMPTY, OQ_WSTAT_WORDS_LEFT,
   Q_FLUSH_QUEUE, Q_FLUSH_ALL, GAP_TOTAL, Q_CFG_PRIO,
   Q_CFG_ENABLE, Q_CFG_SRC, Q_CFG_PERIOD, Q_FILL,
   Q_DROP]

/-- Every field of the page, in the order of its table. -/
def fields : List Fld := fields0

end Sys2Proof.Machine.OBSQ
end

