-- ==== Sys2Proof/Machine/RegSpace.lean ====
section
/-!
DEFINITION. The page map (R52, R53, R70, R290), the fields of each kind of page, and the reset value
of every field (the reset columns of the pages' tables).
-/
namespace Sys2Proof.Machine

/-- A page, or an area of a window that holds fields: its kind, its object's index, its base address. -/
structure PageRef where
  kind : PageKind
  idx : Nat
  base : Nat
  deriving DecidableEq, Repr

/-! Base addresses of the pages (R53). -/

def chipPage : Nat := 0x000000
def rdyPage : Nat := 0x001000
def ckPage : Nat := 0x002000
def stPage : Nat := 0x003000
def erPage : Nat := 0x004000
def tePage : Nat := 0x005000
def twPage : Nat := 0x006000
def hyPage : Nat := 0x007000
def mcPage : Nat := 0x008000
def trimPage : Nat := 0x009000
def regionPage (r : Nat) : Nat := 0x010000 + r * 0x1000
def headPage (h : Nat) : Nat := 0x020000 + h * 0x1000
def bandPage (h : Nat) : Nat := 0x050000 + h * 0x1000
def wheelPage (w : Nat) : Nat := 0x080000 + w * 0x1000
def loaderPage : Nat := 0x089000
def kickPage : Nat := 0x08A000
def motionPage : Nat := 0x08B000
def ctrlengPage : Nat := 0x08C000
def ldpcPage : Nat := 0x090000
def outerPage : Nat := 0x091000
def mediacryptPage : Nat := 0x092000
def hbmPage (k : Nat) : Nat := 0x0A0000 + k * 0x1000
def setterPage : Nat := 0x0A2000
def ecctabPage : Nat := 0x0A3000
def stripePage : Nat := 0x0A4000
def journalPage : Nat := 0x0A5000
def ethPage (p : Nat) : Nat := 0x0B0000 + p * 0x1000
def nvmePage : Nat := 0x0B4000
def tlsPage : Nat := 0x0B5000
def stebaroPage : Nat := 0x0B6000
def obsqPage : Nat := 0x0C0000

/-- The block of axis a on the MOTION page (R375). -/
def axisBlock (a : Nat) : Nat := motionPage + 0x100 + 0x40 * a
/-- The CE memory window (R69). -/
def ceWindow : Nat := 0x100000
/-- The descriptor of CE slot n (R290, R291). -/
def ceSlot (n : Nat) : Nat := ceWindow + 0x800 * n
/-- The firing parameter table (R279). -/
def firePage : Nat := 0x261000
/-- The firing status record of head h (R280). -/
def firestatPage (h : Nat) : Nat := 0x262000 + h * 0x100

/-- The page that an address lies on, by R53; `none` where the map assigns no page or the address
lies in a window word that is no field. -/
def pageAt (a : Nat) : Option PageRef :=
  let p := a / 0x1000
  let one (k : PageKind) (i : Nat) : Option PageRef := some { kind := k, idx := i, base := p * 0x1000 }
  if p < 0x10 then
    match p with
    | 0 => one .chip 0 | 1 => one .rdy 0 | 2 => one .ck 0 | 3 => one .st 0 | 4 => one .er 0
    | 5 => one .te 0 | 6 => one .tw 0 | 7 => one .hy 0 | 8 => one .mc 0 | 9 => one .trim 0
    | _ => none
  else if 0x10 ≤ p ∧ p < 0x19 then one .region (p - 0x10)
  else if 0x20 ≤ p ∧ p < 0x41 then one .head (p - 0x20)
  else if 0x50 ≤ p ∧ p < 0x71 then one .band (p - 0x50)
  else if 0x80 ≤ p ∧ p < 0x89 then one .wheel (p - 0x80)
  else if p = 0x89 then one .loader 0
  else if p = 0x8A then one .kick 0
  else if p = 0x8B then one .motion 0
  else if p = 0x8C then one .ctrleng 0
  else if p = 0x90 then one .ldpc 0
  else if p = 0x91 then one .outer 0
  else if p = 0x92 then one .mediacrypt 0
  else if p = 0xA0 ∨ p = 0xA1 then one .hbm (p - 0xA0)
  else if p = 0xA2 then one .setter 0
  else if p = 0xA3 then one .ecctab 0
  else if p = 0xA4 then one .stripe 0
  else if p = 0xA5 then one .journal 0
  else if 0xB0 ≤ p ∧ p < 0xB4 then one .eth (p - 0xB0)
  else if p = 0xB4 then one .nvme 0
  else if p = 0xB5 then one .tls 0
  else if p = 0xB6 then one .stebaro 0
  else if p = 0xC0 then one .obsq 0
  else if 0x100000 ≤ a ∧ a < 0x160000 ∧ (a - 0x100000) % 0x800 < 0x40 then
    let n := (a - 0x100000) / 0x800
    some { kind := .ceslot, idx := n, base := ceSlot n }
  else if 0x261000 ≤ a ∧ a < 0x261028 then some { kind := .fire, idx := 0, base := 0x261000 }
  else if 0x262000 ≤ a ∧ a < 0x264100 ∧ (a - 0x262000) % 0x100 < 0x30 then
    let h := (a - 0x262000) / 0x100
    some { kind := .firestat, idx := h, base := firestatPage h }
  else none

/-- True of the areas of the windows (R69, R70), which are assigned but belong to no page (R71). -/
def isWindow (a : Nat) : Bool := decide (0x100000 ≤ a ∧ a < 0x300000)

/-- Address check of R12, R52: some page or window area is assigned there. -/
def assigned (a : Nat) : Bool := isWindow a || (pageAt a).isSome

/-- True of the kinds that open with the common header of R54. -/
def PageKind.hasHeader : PageKind → Bool
  | .ceslot | .fire | .firestat => false
  | _ => true

/-- The fields special to a kind of page. MOTION's axis blocks are set apart (R375). -/
def PageKind.fields : PageKind → List Fld
  | .chip => CHIP.fields | .rdy => RDY.fields | .ck => CK.fields | .st => ST.fields | .er => ER.fields
  | .te => TE.fields | .tw => TW.fields | .hy => HY.fields | .mc => MC.fields | .trim => TRIM.fields
  | .region => REGION.fields | .head => HEAD.fields | .band => BAND.fields | .wheel => WHEEL.fields
  | .loader => LOADER.fields | .kick => KICK.fields | .motion => MOTION.fields
  | .ctrleng => CTRLENG.fields | .ldpc => LDPC.fields | .outer => OUTER.fields
  | .mediacrypt => MEDIACRYPT.fields | .hbm => HBM.fields | .setter => SETTER.fields
  | .ecctab => ECCTAB.fields | .stripe => STRIPE.fields | .journal => JOURNAL.fields
  | .eth => ETH.fields | .nvme => NVME.fields | .tls => TLS.fields | .stebaro => STEBARO.fields
  | .obsq => OBSQ.fields | .ceslot => CESLOT.fields | .fire => FIRE.fields | .firestat => FIRESTAT.fields

/-- The field's copy that one 32-bit address holds: its base, field and index. -/
structure FldAt where
  base : Nat
  fld : Fld
  idx : Nat
  deriving DecidableEq, Repr

/-- The fields of `fs` that lie in the word at offset `o` from `base`. -/
def fieldsIn (base o : Nat) (fs : List Fld) : List FldAt :=
  fs.filterMap fun f => (f.indexAt o).map fun i => { base := base, fld := f, idx := i }

/-- Every field in the word at a register address (R52, R54, R375). The axis blocks hold the sleds'
or the pin axes' own last word. -/
def fieldsAt (a : Nat) : List FldAt :=
  match pageAt a with
  | none => []
  | some p =>
    let o := a - p.base
    if p.kind.hasHeader && o < 0x40 then fieldsIn p.base o HDR.fields
    else if p.kind = .motion ∧ 0x100 ≤ o ∧ o < 0x100 + 0x40 * 38 then
      let x := (o - 0x100) / 0x40
      let b := axisBlock x
      fieldsIn b (a - b) AXIS.fields ++ fieldsIn b (a - b) (if x < 33 then AXISS.fields else AXISP.fields)
    else fieldsIn p.base o p.kind.fields

/-- Region index and block index of a page's object (R34, R53): the head blocks of a group, and the
block that a page's registers describe. 0xFF stands at region and chip level (R592). -/
def PageRef.place (p : PageRef) : Nat × Nat :=
  match p.kind with
  | .head | .band | .firestat => if p.idx = 32 then (3, 8) else (p.idx / 8, p.idx % 8)
  | .wheel => (7, 2)
  | .loader | .kick | .motion => (7, 1)
  | .ctrleng | .ceslot => (7, 0)
  | .obsq => (7, 3)
  | .ldpc => (4, 0) | .outer => (4, 1) | .mediacrypt => (4, 2) | .fire => (4, 3)
  | .hbm => (5, p.idx) | .setter => (5, 2) | .ecctab => (5, 0xFF) | .stripe => (5, 3) | .journal => (5, 4)
  | .eth => (6, p.idx) | .nvme => (6, 4) | .tls => (6, 5) | .stebaro => (6, 6)
  | .mc => (8, 0) | .te => (8, 1) | .er => (8, 2) | .st => (8, 3) | .tw => (8, 4) | .hy => (8, 4)
  | .ck => (8, 5) | .trim => (8, 6) | .rdy => (8, 7)
  | .region => (p.idx, 0xFF)
  | .chip => (0xF, 0xFF)

/-- PG_ID[31:16] of a page: region index and page kind (R53). -/
def PageRef.idHigh (p : PageRef) : Nat :=
  let code : Nat := match p.kind with
    | .chip => 0x001 | .rdy => 0x002 | .ck => 0x003 | .st => 0x004 | .er => 0x005 | .te => 0x006
    | .tw => 0x007 | .hy => 0x008 | .mc => 0x009 | .trim => 0x00A | .region => 0x010 | .head => 0x011
    | .band => 0x012 | .wheel => 0x020 | .loader => 0x021 | .kick => 0x022 | .motion => 0x023
    | .ctrleng => 0x024 | .obsq => 0x025 | .ldpc => 0x030 | .outer => 0x031 | .mediacrypt => 0x032
    | .hbm => 0x040 | .setter => 0x041 | .ecctab => 0x042 | .stripe => 0x043 | .journal => 0x044
    | .eth => 0x050 | .nvme => 0x051 | .tls => 0x052 | .stebaro => 0x053
    | .ceslot | .fire | .firestat => 0
  p.place.1 * 0x1000 + code

/-- PG_ID[15:8]: the block index of a block's page, else the object's index, or 0 (R53). -/
def PageRef.instanceNo (p : PageRef) : Nat :=
  match p.kind with
  | .wheel => p.idx
  | .motion => 1
  | .chip | .region | .loader | .kick | .ecctab => 0
  | _ => p.place.2

/-- PG_STATE.LEVEL (R33). -/
def PageKind.level : PageKind → Nat
  | .chip => 3
  | .region => 2
  | .wheel => 0
  | _ => 1

/-- The reset value of SPARES_LEFT on each kind of page (the pages' own chapters; 0 where a page
names no spare). -/
def PageKind.sparesLeft : PageKind → Nat
  | .head => 2 | .band => 1 | .ldpc => 2 | .ctrleng => 1 | .wheel => 1 | .hbm => 64 | .setter => 1
  | .ecctab => 255 | .tls => 1 | .mediacrypt => 1 | .mc => 2
  | _ => 0

/-- The loop of fixed slots 0 to 173 (R283): type, rate, phase, unit, feedforward source. -/
def ceSlotType (n : Nat) : Nat :=
  if n < 165 then n % 5 + 1 else if n < 174 then 6 else 0

/-- Unit of a fixed slot (R283). -/
def ceSlotUnit (n : Nat) : Nat :=
  if n < 165 then n / 5 else if n < 174 then n - 165 else 0

/-- Reset rate of a slot: servo frame, every 16 frames, CM tick; a user slot is off (R283, R291;
log entry 7). -/
def ceSlotRate (n : Nat) : Nat :=
  match ceSlotType n with
  | 1 | 2 | 3 => 0
  | 4 | 5 => 1
  | 6 => 2
  | _ => 3

/-- Reset phase of a slot (R283). -/
def ceSlotPhase (n : Nat) : Nat :=
  match ceSlotType n with
  | 4 => ceSlotUnit n % 16
  | 5 => (ceSlotUnit n + 8) % 16
  | _ => 0

/-- Reset feedforward source of a slot: the spiral velocity in SL slots (R304), none otherwise. -/
def ceSlotFf (n : Nat) : Nat := if ceSlotType n = 4 then 2 else 0

/-- Reset input source of a fixed slot (R283): the sideband field, the slot read, or 0. -/
def ceSlotIn (n : Nat) : Nat :=
  match ceSlotType n with
  | 1 => 0 | 2 => 1 | 3 => 2
  | 4 => 0x40 + (n - 2)
  | 5 => 4
  | _ => 0

/-- Objects in a pass of self-test t (R577 to R579). -/
def covObjects (t : Nat) : Nat :=
  match t with
  | 1 => 561 | 2 => 384 | 3 => 18 | 4 => 10 | 5 => 55 | 6 => 10 | 7 => 5 | 8 => 9 | 9 => 2
  | _ => 0

/-- The reset value of a field's copy on a page (the pages' reset columns). -/
def resetOf (p : PageRef) (f : Fld) (i : Nat) : Nat :=
  if p.kind.hasHeader && f.off < 0x40 then
    if f = HDR.PG_ID then p.idHigh * 0x10000 + p.instanceNo * 0x100 + 1
    else if f = HDR.LEVEL then p.kind.level
    else if f = HDR.SPARES_LEFT then p.kind.sparesLeft
    else f.reset
  else match p.kind with
  | .setter =>
    if f = SETTER.AREA_LIMIT then (if i = 0 then 0x3DFF else 0)
    else if f = SETTER.AREA_POLICY then (if i = 0 then 1 else 0)
    else f.reset
  | .obsq =>
    if f = OBSQ.Q_CFG_PRIO then (if i < 9 then 6 else if i = 15 then 7 else 2)
    else if f = OBSQ.Q_CFG_ENABLE then (if i < 9 ∨ i = 15 then 1 else 0)
    else f.reset
  | .ceslot =>
    if f = CESLOT.TYPE then ceSlotType p.idx
    else if f = CESLOT.RATE then ceSlotRate p.idx
    else if f = CESLOT.PHASE then ceSlotPhase p.idx
    else if f = CESLOT.UNIT then ceSlotUnit p.idx
    else if f = CESLOT.IN_SRC then ceSlotIn p.idx
    else if f = CESLOT.FF_SRC then ceSlotFf p.idx
    else f.reset
  | .st => if f = ST.COV_OBJECTS then covObjects (i + 1) else f.reset
  | _ => f.reset

/-- Reset values that differ on the pin axes (axes 33 to 37) from the sleds' (R375). -/
def pinAxisReset (f : Fld) : Nat :=
  if f = AXIS.V_START then 0x3E8
  else if f = AXIS.V_STOP then 0x3E8
  else if f = AXIS.V_BRK then 0x4E20
  else if f = AXIS.V_MAX then 0x186A0
  else if f = AXIS.A1 then 0x30D40
  else if f = AXIS.A2 then 0x186A0
  else if f = AXIS.SOFT_MAX then 0
  else if f = AXIS.HOME_FAST then 0x4E20
  else if f = AXIS.HOME_SLOW then 0x1F4
  else if f = AXIS.BACKOFF then 0x7D0
  else if f = AXIS.SW_CFG_DEBOUNCE then 2
  else if f = AXIS.SW_CFG_HOLD_EN then 1
  else f.reset

/-- What an unlisted key of the field store reads as: the field's reset value. -/
def regDefault (key : Nat) : Nat :=
  let a := key / 32
  match (fieldsAt a).find? (fun x => x.fld.lsb = key % 32), pageAt a with
  | some x, some p =>
    if p.kind = .motion ∧ x.base ≠ p.base then
      (if (x.base - axisBlock 0) / 0x40 < 33 then x.fld.reset else pinAxisReset x.fld)
    else resetOf p x.fld x.idx
  | _, _ => 0

/-- A word of an ALT equaliser set at reset (R215): two taps a word, tap 2k in bits 15:0. -/
def altTap (i t : Nat) : Nat :=
  match i, t with
  | 0, 11 => 0x2800 | 0, 10 => 0xF800 | 0, 12 => 0xF800
  | 1, 11 => 0x2000
  | 2, 11 => 0x2000 | 2, 10 => 0xFA00 | 2, 12 => 0xFA00 | 2, 9 => 0xFE00 | 2, 13 => 0xFE00
  | _, _ => 0

/-- What an unlisted word of the windows reads as: ALT sets per R215, every other word 0
(log entry 4). -/
def wordDefault (a : Nat) : Nat :=
  if 0x280000 ≤ a ∧ a < 0x2A1000 then
    let o := (a - 0x280000) % 0x1000
    if 0x300 ≤ o ∧ o < 0x390 then
      let i := (o - 0x300) / 48
      let t := (o - 0x300) % 48 / 2
      altTap i t + altTap i (t + 1) * 0x10000
    else 0
  else 0

end Sys2Proof.Machine
end

