-- ==== Sys2Proof/Machine/Store.lean ====
section
/-!
DEFINITION. Sparse data by key, in one canonical form: keys strictly rising, and no entry equal to
what an unlisted key reads as. Registers, heads, wheels, axes, memory and the other numbered parts
of the block are held so.
-/
namespace Sys2Proof.Machine

/-- A list of keys and values. -/
abbrev Store (α : Type) := List (Nat × α)

/-- The value at a key; an unlisted key reads as the default `d`. -/
def storeFind {α : Type} (d : Nat → α) : Store α → Nat → α
  | [], k => d k
  | (j, v) :: m, k => if j = k then v else storeFind d m k

/-- The store without a key. -/
def storeErase {α : Type} : Store α → Nat → Store α
  | [], _ => []
  | (j, v) :: m, k => if j = k then storeErase m k else (j, v) :: storeErase m k

/-- The store with an entry put in the place of its key. -/
def storeInsert {α : Type} : Store α → Nat → α → Store α
  | [], k, v => [(k, v)]
  | (j, w) :: m, k, v => if k < j then (k, v) :: (j, w) :: m else (j, w) :: storeInsert m k v

/-- Write a value at a key: a value equal to the default removes the entry. -/
def storePut {α : Type} [DecidableEq α] (d : Nat → α) (m : Store α) (k : Nat) (v : α) : Store α :=
  if v = d k then storeErase m k else storeInsert (storeErase m k) k v

/-- The keys rise strictly, starting above `lo`. -/
def keysAbove {α : Type} : Nat → Store α → Bool
  | _, [] => true
  | lo, (k, _) :: m => decide (lo ≤ k) && keysAbove (k + 1) m

/-- No entry equals the default. -/
def noDefaults {α : Type} [DecidableEq α] (d : Nat → α) : Store α → Bool
  | [] => true
  | (k, v) :: m => decide (v ≠ d k) && noDefaults d m

/-- The canonical form. -/
def storeWf {α : Type} [DecidableEq α] (d : Nat → α) (m : Store α) : Bool :=
  keysAbove 0 m && noDefaults d m

end Sys2Proof.Machine
end

