-- ==== Sys2Proof/Machine/StCore.lean ====
section
/-!
DEFINITION. State types of the parts that every chapter uses: events and records (R592-R601),
observation queues (R602-R607), Stebaro sessions (R75-R86), crossings (R40-R43), fault reports
(R47-R50).
-/
namespace Sys2Proof.Machine

/-- An event as raised (R592, R593): what the recorder makes a record of. `data` is the detail from
byte 16 on. -/
structure Event where
  code : Nat
  sev : Nat
  level : Nat
  block : Nat
  cell : Nat
  arg0 : Nat
  arg1 : Nat
  data : List Nat
  time : Nat
  deriving DecidableEq, Repr

/-- A stored record (R592, R593). `seq` counts on past 2^32; its low 32 bits are SEQ. -/
structure Record where
  seq : Nat
  ev : Event
  pwr : Nat
  rep : Nat
  lastTime : Nat
  mirrored : Bool
  loaded : Bool
  repSat : Bool
  deriving DecidableEq, Repr

/-- A path's window cursor (R598). `seq` none: the path has not moved it since it opened, and it
reads OLDEST_SEQ; `word` counts the words read of the record in progress. -/
structure Cursor where
  seq : Option Nat
  word : Nat
  started : Nat
  skipped : Bool
  deriving DecidableEq, Repr

/-- The event recorder's own state: events raised and not yet recorded, the log, the next SEQ, the paths' cursors, the
mirror, the records that wait for it, whether a mirror write is in progress, and the failures in a row with the time of
the last (R592-R601). -/
structure RecSt where
  raised : List Event
  log : List Record
  nextSeq : Nat
  cursors : Store Cursor
  mirror : List Record
  mirrorQ : List Record
  mirrorBusy : Bool
  mirrorFails : Nat
  mirrorFailAt : Nat
  deriving DecidableEq, Repr

/-- An item of an observation queue (R603). A gap marker has `gap` = some (DROPPED, FIRST_QSEQ). `pos`: its first byte
in the queue's 64 KiB of HBM; none while it waits in the write buffer (R602). -/
structure OqItem where
  ty : Nat
  queue : Nat
  qseq : Nat
  time : Nat
  gap : Option (Nat × Nat)
  body : List Nat
  pos : Option Nat
  deriving DecidableEq, Repr

/-- One observation queue: items oldest first, item counter, flush requested, whether a drop since
it was last empty has been raised, and where the next item goes in the queue's part of HBM (R602-R607, R613). -/
structure OQueue where
  items : List OqItem
  nextQseq : Nat
  flush : Bool
  dropRaised : Bool
  wptr : Nat
  deriving DecidableEq, Repr

/-- An item in progress of being read by a path (R605): the words that remain. -/
structure OqRead where
  queue : Nat
  words : List Nat
  deriving DecidableEq, Repr

/-- The queue block's own state: the queues, the items raised and not yet written, the item in
progress of each path, where each head's L0 sums stood as a telemetry queue's period began (key 64 × queue + head), and
when each telemetry queue's period began. -/
structure OqSt where
  queues : Store OQueue
  l0 : Store (Nat × Nat)
  telAt : Store Nat
  waiting : List (Nat × OqItem)
  reading : Store (Option OqRead)
  deriving DecidableEq, Repr

/-- An entry of a subscription buffer (R86): a record, an item or a gap marker. -/
inductive SubEntry where
  | record (bytes : List Nat)
  | item (bytes : List Nat)
  | gap (first dropped : Nat) (time : Nat)
  deriving DecidableEq, Repr

/-- A subscription (R85, R86). -/
structure Sub where
  filter : SubFilter
  buffer : List SubEntry
  nextNo : Nat
  evTag : Nat
  unacked : List (Nat × List Nat)
  deriving DecidableEq, Repr

/-- A kept response (R83): the request's header, the response's header and payload. -/
structure Kept where
  req : SbHeader
  resp : SbHeader
  payload : List Nat
  time : Nat
  deriving DecidableEq, Repr

/-- A Stebaro session (R75); `cert` the digest of the peer certificate's public key (R511, R513). -/
structure Session where
  port : Nat
  role : Role
  cert : List Nat
  sub : Option Sub
  kept : List Kept
  lastDatagram : Nat
  deriving DecidableEq, Repr

/-- Whom a write answers: a register command of its path, a Stebaro request with its header (R79), or an admin
command of the host (R492): connection and command identifier. -/
inductive WriteFor where
  | plain
  | steb (req : SbHeader)
  | admin (conn cid : Nat)
  deriving DecidableEq, Repr

/-- A write waiting at the page arbiter (R61): its path, its words, its arrival, and whom it answers. -/
structure HeldWrite where
  path : Path
  pairs : List (Nat × Nat)
  arrival : Nat
  for' : WriteFor
  deriving DecidableEq, Repr

/-- A control-class crossing (R40, R41, R43). `flight`: the value under transfer and whether the
receiver has captured it; `used`: a command or a reset has touched it (log entry 50). -/
structure CtlXing where
  cur : Nat
  flight : Option (Nat × Bool)
  update : Option Nat
  recv : Nat
  stale : Bool
  resync : Bool
  used : Bool
  deriving DecidableEq, Repr

/-- A data-class crossing (R42, R43): items written and not readable yet, items readable. -/
structure DataXing where
  inFlight : List Nat
  readable : List Nat
  heldOff : Bool
  resync : Bool
  deriving DecidableEq, Repr

/-- An item at an output port of the spine (R46): the input port it came by, and the key of the crossing it goes to,
none where its block stands in the spine's own island. -/
structure SpineItem where
  port : Nat
  dest : Option Nat
  item : Nat
  deriving DecidableEq, Repr

/-- A class of weighted round-robin (R46): its items in the order of arrival, and the grants that each input port still
has in the round in progress. -/
structure SpineRobin where
  items : List SpineItem
  credit : Store Nat
  deriving DecidableEq, Repr

/-- An output port of the spine (R46): urgent items, the data and background classes; whether each of the last three port
cycles granted an urgent item, newest first, and what the background class has earned of its share, in percent of a
grant. -/
structure SpineOut where
  urgent : List SpineItem
  data : SpineRobin
  back : SpineRobin
  recent : List Bool
  earned : Nat
  deriving DecidableEq, Repr

/-- A cell's fault report at its block (R47, R49), with its time of arrival. -/
structure FaultReport where
  block : Nat
  cell : Nat
  sev : Nat
  shared : Bool
  arrival : Nat
  deriving DecidableEq, Repr

/-- A report that a level passed up (R47): region, block, cell, whether the whole block is lost. -/
structure UpReport where
  region : Nat
  block : Nat
  cell : Nat
  whole : Bool
  deriving DecidableEq, Repr

/-- Fault containment state: reports at each block (key region * 64 + block), the region's isolation
queue, the reports at chip level, the cells lost without a spare, the blocks isolated and those of them that have been
reset since (R50). -/
structure FaultSt where
  blocks : Store (List FaultReport)
  regions : Store (List UpReport)
  chip : List UpReport
  lost : List (Nat × Nat × Nat)
  isolated : List (Nat × Nat)
  freshened : List (Nat × Nat)
  sharedOk : List (Nat × Nat)
  deriving DecidableEq, Repr

/-- Clock and arbiter state: TIME_HI latches per path, writes waiting, the frequency monitor's island,
islands held in reset by request, the always-on source, draining pages; `cut` the RDY_SYS bits that wait for
READY of their page (R65). -/
structure ArbSt where
  latches : Store Nat
  waiting : List HeldWrite
  fmon : Option Nat
  islandResets : List Nat
  aoOnRef : Bool
  draining : List Nat
  stopped : List Nat
  resetting : List Nat
  summarySeen : Bool
  cut : List Nat
  ctl : Store CtlXing
  data : Store DataXing
  spine : Store SpineOut
  deriving DecidableEq, Repr

end Sys2Proof.Machine
end

