-- ==== Sys2Proof/Machine/Crc.lean ====
section
/-!
DEFINITION. Cyclic redundancy codes over lists of bits, first bit first, and the bit lists they run
over (R98, R117, R140, R291).
-/
namespace Sys2Proof.Machine

/-- The n lowest bits of a number, most significant first. -/
def bitsMSB : Nat → Nat → List Bool
  | 0, _ => []
  | n + 1, v => decide (v / 2 ^ n % 2 = 1) :: bitsMSB n v

/-- The n lowest bits of a number, least significant first. -/
def bitsLSB : Nat → Nat → List Bool
  | 0, _ => []
  | n + 1, v => decide (v % 2 = 1) :: bitsLSB n (v / 2)

/-- The number whose bits are given most significant first. -/
def ofBitsMSB (bs : List Bool) : Nat := bs.foldl (fun a b => 2 * a + (if b then 1 else 0)) 0

/-- One bit enters a CRC register of width w (most significant bit first). -/
def crcStep (w poly c : Nat) (b : Bool) : Nat :=
  let top := c / 2 ^ (w - 1) % 2
  let c' := c * 2 % 2 ^ w
  if (decide (top = 1)) != b then Nat.xor c' poly else c'

/-- CRC of width w over bits in order. -/
def crc (w poly init : Nat) (bs : List Bool) : Nat := bs.foldl (crcStep w poly) init

/-- CRC-16 of R94, R98 and R140: polynomial 0x1021, initial value 0xFFFF, no final inversion. -/
def crc16 (bs : List Bool) : Nat := crc 16 0x1021 0xFFFF bs

/-- CRC-8 of a disc ID (R117): polynomial 0x07, initial value 0. -/
def crc8 (bs : List Bool) : Nat := crc 8 0x07 0 bs

/-- The number with its w bits in reverse order. -/
def reverseBits (w v : Nat) : Nat := ofBitsMSB (bitsLSB w v)

/-- CRC-32 of R291: polynomial 0x04C1_1DB7, reflected, initial and final all ones. -/
def crc32 (bytes : List Nat) : Nat :=
  Nat.xor (reverseBits 32 (crc 32 0x04C11DB7 0xFFFFFFFF (bytes.flatMap (bitsLSB 8)))) 0xFFFFFFFF

end Sys2Proof.Machine
end

