-- ==== Sys2Proof/Machine/Format.lean ====
section
/-!
DEFINITION. The Lualith recording format (R90-R132): geometry, addresses, groove words, segments, RLC89,
the LDPC code, the outer code, block headers, reserved areas, zones.
-/
namespace Sys2Proof.Machine

/-! Rings, bands, settings (R92-R96) -/

/-- Bands, settings and layers of a disc (R90, R95). -/
def bandsPerLayer : Nat := 10626
def settingsPerLayer : Nat := 251584
def layersPerDisc : Nat := 10

/-- Settings per revolution in ring k (R95). -/
def ringS (k : Nat) : Nat := 14 + k

/-- First band of ring k (R95). -/
def ringFirstBand (k : Nat) : Nat := if k = 0 then 0 else 450 + 530 * (k - 1)

/-- First setting index of ring k (R95). -/
def ringFirstSetting (k : Nat) : Nat :=
  [0, 6300, 14250, 22730, 31740, 41280, 51350, 61950, 73080, 84740, 96930, 109650, 122900, 136680, 150990,
   165830, 181200, 197100, 213530, 230490, 247980].getD k 251584

/-- The ring of a band (R95). -/
def ringOfBand (n : Nat) : Nat := if n < 450 then 0 else min 20 ((n - 450) / 530 + 1)

/-- The ring of a setting index (R95). -/
def ringOfSetting (g : Nat) : Nat :=
  ((List.range 21).filter fun k => decide (ringFirstSetting k ≤ g)).length - 1

/-- First setting index of a band (R96). -/
def bandFirstSetting (n : Nat) : Nat :=
  let k := ringOfBand n
  ringFirstSetting k + (n - ringFirstBand k) * ringS k

/-- Setting index at angular position a of band n (R96). -/
def settingAt (n a : Nat) : Nat := bandFirstSetting n + a

/-- The band of a setting index (R96). -/
def bandOfSetting (g : Nat) : Nat :=
  let k := ringOfSetting g
  ringFirstBand k + (g - ringFirstSetting k) / ringS k

/-- The angular position of a setting index (R96). -/
def angleOfSetting (g : Nat) : Nat := g - bandFirstSetting (bandOfSetting g)

/-- Position in recording order of a setting of a layer (R93, R130). -/
def recordingPos (layer g : Nat) : Nat :=
  if layer % 2 = 0 then g
  else
    let n := bandOfSetting g
    settingsPerLayer - (bandFirstSetting n + ringS (ringOfBand n)) + angleOfSetting g

/-- The setting index at a position in recording order of a layer (R93, R130). -/
def settingAtPos (layer p : Nat) : Nat :=
  if layer % 2 = 0 then p
  else
    let n := bandOfSetting (settingsPerLayer - 1 - p)
    bandFirstSetting n + (p - (settingsPerLayer - (bandFirstSetting n + ringS (ringOfBand n))))

/-! Addresses (R116) -/

/-- A physical block address: layer, setting index, block. -/
def pbaOf (layer g blk : Nat) : Nat := layer * 2 ^ 20 + g * 4 + blk
def pbaLayer (p : Nat) : Nat := p / 2 ^ 20 % 16
def pbaSetting (p : Nat) : Nat := p / 4 % 2 ^ 18
def pbaBlock (p : Nat) : Nat := p % 4
def pbaValid (p : Nat) : Bool := decide (pbaLayer p < 10) && decide (pbaSetting p < settingsPerLayer) && decide (p < 2 ^ 24)

/-- A setting address: layer and setting index. -/
def settingAddr (layer g : Nat) : Nat := layer * 2 ^ 18 + g
def saLayer (a : Nat) : Nat := a / 2 ^ 18 % 16
def saSetting (a : Nat) : Nat := a % 2 ^ 18
def saValid (a : Nat) : Bool := decide (saLayer a < 10) && decide (saSetting a < settingsPerLayer) && decide (a < 2 ^ 22)

/-- The setting that follows another in a layer's recording order, if the layer goes on. -/
def nextSetting (layer g : Nat) : Option Nat :=
  let p := recordingPos layer g + 1
  if p < settingsPerLayer then some (settingAtPos layer p) else none

/-! Disc IDs and groove words (R94, R117) -/

/-- A disc ID from maker code and serial (R117). -/
def discIdOf (maker serial : Nat) : Nat :=
  let v := maker % 2 ^ 16 * 2 ^ 40 + serial % 2 ^ 40
  v * 256 + crc8 (bitsMSB 56 v)

/-- A disc ID passes its CRC-8 (R117). -/
def discIdOk (d : Nat) : Bool := crc8 (bitsMSB 56 (d / 256)) == d % 256

/-- Disc serial of a disc ID (R117). -/
def discSerial (d : Nat) : Nat := d / 256 % 2 ^ 40

/-- The physical block identity (R117). -/
def blockIdentity (d homePba : Nat) : Nat := discSerial d * 2 ^ 24 + homePba % 2 ^ 24

/-- The disc-ID quarter that setting index g carries (R94). -/
def discIdQuarter (d q : Nat) : Nat := d / 2 ^ (48 - 16 * q) % 2 ^ 16

/-- The groove word of a setting: 72 bits in recording order (R94). -/
def grooveBits (layer g disc : Nat) : List Bool :=
  let body := bitsMSB 4 layer ++ bitsMSB 18 g ++ [false, false] ++ bitsMSB 16 (discIdQuarter disc (g % 4))
  [true, true, true, false, false, true, false, false] ++ body ++ bitsMSB 16 (crc16 body) ++ List.replicate 8 false

/-! Segments (R97-R100) -/

/-- The sync mark (R98). -/
def syncMark : List Bool := bitsMSB 48 0x4FFF000F3596

/-- The 16 address bits of a segment (R99). -/
def segmentAddr (pos g : Nat) : Nat := pos * 512 + g % 512

/-- An address bit and its complement (R99). -/
def addrField (a : Nat) : List Bool := (bitsMSB 16 a).flatMap fun b => [b, !b]

/-- What a beam's address field carries, when it is valid (R99, R100): 32 channel bits. -/
def addrDecode (f : Nat) : Option Nat :=
  let bs := bitsMSB 32 f
  let pairs := (List.range 16).map fun i => (bs.getD (2 * i) false, bs.getD (2 * i + 1) false)
  let a := ofBitsMSB (pairs.map fun p => p.1)
  if pairs.all (fun p => p.1 != p.2) && decide (a / 512 ≤ 71) then some a else none

/-! RLC89 (R101-R103) -/

/-- Sum of a list of channel bits: +1 for 1 and -1 for 0. -/
def runSum (bs : List Bool) : Int := bs.foldl (fun z b => if b then z + 1 else z - 1) 0

/-- The 9-bit channel word of a byte, given the running digital sum before it (R102, R103). -/
def rlc89 (sum : Int) (byte : Nat) : List Bool :=
  let bs := bitsMSB 8 byte
  let b (i : Nat) : Bool := bs.getD (7 - i) false
  let word (x : Bool) : List Bool := [b 7, b 6, b 5, b 4, x, b 3, b 2, b 1, b 0]
  let same (l : List Bool) : Bool := l.all (fun v => v == l.headD false)
  let mayCopy := !(same [b 7, b 6, b 5, b 4, b 3] || same [b 5, b 4, b 3, b 2, b 1, b 0])
  let wn := word (!b 4)
  let wc := word (b 4)
  if mayCopy && decide ((sum + runSum wc).natAbs < (sum + runSum wn).natAbs) then wc else wn

/-- The data field of a piece: 320 bytes to 2,880 channel bits; the sum starts at 0 (R103, R108). -/
def dataField (bytes : List Nat) : List Bool :=
  (bytes.foldl (fun (acc : List Bool × Int) v => let w := rlc89 acc.2 v; (acc.1 ++ w, acc.2 + runSum w)) ([], 0)).1

/-- The byte of a channel word: the fifth bit is dropped (R101). -/
def rlc89Byte (w : List Bool) : Nat := ofBitsMSB (w.take 4 ++ w.drop 5)

/-- The 2,960 channel bits of a segment (R97). -/
def segmentBits (pos g : Nat) (bytes : List Nat) : List Bool := syncMark ++ addrField (segmentAddr pos g) ++ dataField bytes

/-! The LDPC code (R104-R108) -/

/-- Shift-table entry of row r and column j; none is the zero matrix (R104-R106). -/
def ldpcShift (r j : Nat) : Option Nat :=
  if j < 64 then
    let s := 4 + j / 16
    ((List.range 4).find? fun m => decide ((j + m * s) % 16 = r)).map fun m => ((2 * m + 1) * (j * j + 3 * j) + 64 * m + 17) % 512
  else if j = 64 then (if r = 0 ∨ r = 15 then some 1 else if r = 8 then some 0 else none)
  else if r = j - 65 ∨ r = j - 64 then some 0 else none

/-- The shift table as it is stored: 1,280 entries, row by row (R104). -/
def ldpcTable : List Nat := (List.range 16).flatMap fun r => (List.range 80).map fun j => (ldpcShift r j).getD 0xFFFF

/-- A block of bits turned by v: element a becomes element (a + v) mod 512. -/
def rotBits (v : Nat) (b : List Bool) : List Bool := b.drop v ++ b.take v

/-- Sum over GF(2), bit by bit. -/
def xorBits (x y : List Bool) : List Bool := x.zipWith (fun a b => a != b) y

/-- Block j of 512 bits. -/
def bitBlock (v : List Bool) (j : Nat) : List Bool := (v.drop (512 * j)).take 512

/-- Sum of the information columns in block row r (R105). -/
def ldpcRowSum (u : List Bool) (r : Nat) : List Bool :=
  (List.range 64).foldl (fun acc j => match ldpcShift r j with
    | some v => xorBits acc (rotBits v (bitBlock u j))
    | none => acc) (List.replicate 512 false)

/-- The 16 parity blocks (R106, R107): column 64 from the sum of all rows, then columns 65 to 79. -/
def ldpcParity (u : List Bool) : List (List Bool) :=
  let s := (List.range 16).map (ldpcRowSum u)
  let p0 := s.foldl xorBits (List.replicate 512 false)
  let step (acc : List (List Bool)) (t : Nat) : List (List Bool) :=
    let prev := if t = 0 then rotBits 1 p0 else acc.getD t []
    let x := xorBits (s.getD t []) prev
    acc ++ [if t = 8 then xorBits x p0 else x]
  (List.range 15).foldl step [p0]

/-- The 40,960 coded bits of a codeword (R107). -/
def ldpcEncode (u : List Bool) : List Bool := u ++ (ldpcParity u).flatten

/-- The information bits of 4,096 bytes (R108). -/
def infoBits (bytes : List Nat) : List Bool := bytes.flatMap (bitsMSB 8)

/-- The 320 coded bytes of piece b of a codeword (R108). -/
def pieceBytes (coded : List Bool) (b : Nat) : List Nat :=
  (List.range 320).map fun m => ofBitsMSB ((coded.drop (2560 * b + 8 * m)).take 8)

/-- The segment position on beam Bb of piece b of slot c (R109). -/
def piecePos (c b : Nat) : Nat := (c + 5 * b) % 72

/-- The slot whose piece lies at segment position p of beam Bb (R109). -/
def slotAtPos (p b : Nat) : Nat := (p + 360 - 5 * b) % 72

/-! The outer code (R110, R111) -/

/-- Product in GF(2^8) with field polynomial 0x11D (R111): bits of y from the top. -/
def gfMul (x y : Nat) : Nat :=
  (bitsMSB 8 y).foldl (fun acc b =>
    let d := if acc < 128 then 2 * acc else (2 * acc - 256) ^^^ 0x1D
    if b then d ^^^ x else d) 0

/-- A power in GF(2^8). -/
def gfPow (x : Nat) : Nat → Nat
  | 0 => 1
  | n + 1 => gfMul x (gfPow x n)

/-- The four outer parity bytes of 68 information bytes: the remainder by g(x) (R111). -/
def rsParity (d : List Nat) : List Nat :=
  d.foldl (fun r v =>
    let f := v ^^^ r.getD 0 0
    [r.getD 1 0 ^^^ gfMul f 0x0F, r.getD 2 0 ^^^ gfMul f 0x36, r.getD 3 0 ^^^ gfMul f 0x78, gfMul f 0x40]) [0, 0, 0, 0]

/-- The 72 slots of a setting from its 68 codewords of 4,096 bytes each: slots 68 to 71 are the outer
codewords (R110, R111). -/
def settingSlots (cws : List (List Nat)) : List (List Nat) :=
  let par := (List.range 4096).map fun t => rsParity ((List.range 68).map fun i => (cws.getD i []).getD t 0)
  cws ++ (List.range 4).map fun k => par.map fun p => p.getD k 0

/-- The kind of a slot: block and data codeword, or 16 for its header; none for the outer slots (R110). -/
def slotBlock (c : Nat) : Option (Nat × Nat) := if c < 68 then some (c / 17, c % 17) else none

/-- The channel bits of one segment position of a setting: 16 beams (R97, R109). -/
def settingSegment (g : Nat) (slots : List (List Nat)) (p b : Nat) : List Bool :=
  segmentBits p g (pieceBytes (ldpcEncode (infoBits (slots.getD (slotAtPos p b) []))) b)

/-! Blocks (R112, R113, R115) -/

/-- CRC-64 of a list of bytes (R113). -/
def crc64 (bytes : List Nat) : Nat := crc 64 0x42F0E1EBA9EA3693 (2 ^ 64 - 1) (bytes.flatMap (bitsMSB 8)) ^^^ (2 ^ 64 - 1)

/-- Bytes of a number, most significant first. -/
def bytesBE : Nat → Nat → List Nat
  | 0, _ => []
  | n + 1, v => v / 256 ^ n % 256 :: bytesBE n v

/-- The number of a list of bytes, most significant first. -/
def ofBytesBE (bs : List Nat) : Nat := bs.foldl (fun a b => 256 * a + b % 256) 0

/-- The header codeword of a block (R113). -/
structure BlockHeader where
  kind : Nat
  flags : Nat
  discId : Nat
  pba : Nat
  homePba : Nat
  loadId : Nat
  nsid : Nat
  zone : Nat
  lane : Nat
  position : Nat
  stripe : Nat
  width : Nat
  member : Nat
  generation : Nat
  nonce : Nat
  tag : Nat
  lbaFirst : Nat
  journalPtr : List Nat
  metadata : List Nat
  deriving DecidableEq, Repr

/-- FLAGS of R113. -/
def flagRemapped : Nat := 1
def flagNarrow : Nat := 2
def flagRethrown : Nat := 4
def flagZoneLast : Nat := 8
def flagClear : Nat := 16

/-- The 4,096 bytes of a header codeword (R113). -/
def headerBytes (h : BlockHeader) : List Nat :=
  let top := bytesBE 4 0x4C554248 ++ [1, h.kind] ++ bytesBE 2 h.flags ++ bytesBE 8 h.discId ++ bytesBE 4 h.pba ++
    bytesBE 4 h.homePba ++ bytesBE 8 h.loadId ++ bytesBE 4 h.nsid ++ bytesBE 2 h.zone ++ [h.lane, h.position] ++
    bytesBE 4 h.stripe ++ [h.width, h.member, 0, 0] ++ bytesBE 4 h.generation ++ bytesBE 12 h.nonce ++ bytesBE 16 h.tag ++
    bytesBE 8 h.lbaFirst ++ ((h.journalPtr ++ List.replicate 16 0).take 16) ++ List.replicate 152 0 ++
    ((h.metadata ++ List.replicate 256 0).take 256) ++ List.replicate 3576 0
  top ++ bytesBE 8 (crc64 top)

/-- The header of 4,096 bytes (R113). -/
def headerOf (bs : List Nat) : BlockHeader :=
  let f (o n : Nat) : Nat := ofBytesBE ((bs.drop o).take n)
  { kind := f 5 1, flags := f 6 2, discId := f 8 8, pba := f 0x10 4, homePba := f 0x14 4, loadId := f 0x18 8, nsid := f 0x20 4,
    zone := f 0x24 2, lane := f 0x26 1, position := f 0x27 1, stripe := f 0x28 4, width := f 0x2C 1, member := f 0x2D 1,
    generation := f 0x30 4, nonce := f 0x34 12, tag := f 0x40 16, lbaFirst := f 0x50 8, journalPtr := (bs.drop 0x58).take 16,
    metadata := (bs.drop 0x100).take 256 }

/-- A header codeword that a reader accepts at a block's address (R115). -/
def headerOk (bs : List Nat) (pba : Nat) : Bool :=
  decide (ofBytesBE (bs.take 4) = 0x4C554248) && decide (bs.getD 4 0 = 1) && decide (ofBytesBE ((bs.drop 0x10).take 4) = pba) &&
  decide (crc64 (bs.take 0xFF8) = ofBytesBE ((bs.drop 0xFF8).take 8))

/-- The 17 codewords of a block: 16 of payload and the header (R110, R112). -/
def blockCodewords (payload header : List Nat) : List (List Nat) :=
  ((List.range 16).map fun i => (payload.drop (4096 * i)).take 4096) ++ [header]

/-! Reserved areas (R118) -/

/-- The areas of a layer. -/
inductive Area where
  | layerHeader | testFiring | catalogue | remapSpare | journal | cone | user
  deriving DecidableEq, Repr

/-- The area that a setting lies in (R118, R130). -/
def areaOf (layer g : Nat) : Area :=
  if g < 64 then .layerHeader
  else if g < 1088 then .testFiring
  else if g < 2112 then (if layer = 0 ∨ layer = 9 then .catalogue else .remapSpare)
  else if g < 3136 then .journal
  else if g < 3200 then .cone
  else if g < 5824 then .remapSpare
  else .user

/-- The remap spares of a layer in their order of allocation (R127): how many there are, and the n-th. -/
def spareCount (layer : Nat) : Nat := if layer = 0 ∨ layer = 9 then 2624 else 2624 + 1024
def spareAt (n : Nat) : Nat := if n < 2624 then 3200 + n else 1088 + (n - 2624)

/-- The place of a setting among its layer's remap spares. -/
def spareIndex (g : Nat) : Option Nat :=
  if 3200 ≤ g ∧ g < 5824 then some (g - 3200) else if 1088 ≤ g ∧ g < 2112 then some (2624 + (g - 1088)) else none

/-- The layers of a disc from the nearest to a layer by number, the lower of two as near first (R127;
log entry 13). -/
def layersByDistance (layer : Nat) : List Nat :=
  (List.range 10).flatMap fun d => if d = 0 then [layer] else
    (if d ≤ layer then [layer - d] else []) ++ (if layer + d < 10 then [layer + d] else [])

/-- Settings base to base + 1,023 of a layer in recording order (R93, R123, R128). -/
def areaOrder (layer base : Nat) : List Nat :=
  let all := (List.range 1024).map fun i => base + i
  if layer % 2 = 0 then all
  else
    let top := bandOfSetting (base + 1023)
    (List.range 76).flatMap fun k => all.filter fun g => decide (bandOfSetting g + k = top)

/-- The n-th journal setting of a disc: the lowest layer first (R396), and the n-th catalogue setting of
an area. -/
def journalSetting (n : Nat) : Nat := settingAddr (n / 1024) ((areaOrder (n / 1024) 2112).getD (n % 1024) 2112)
def catalogueSetting (layer n : Nat) : Nat := settingAddr layer ((areaOrder layer 1088).getD n 1088)

/-- The layer header record (R120): 65,536 bytes. -/
def layerHeaderRecord (layer slot disc sagger time firer depth saFf foTl : Nat) (tableCrc : List Nat) : List Nat :=
  let top := bytesBE 4 0x4C554C48 ++ bytesBE 2 0x0100 ++ [layer, slot] ++ bytesBE 8 disc ++ bytesBE 8 sagger ++ bytesBE 8 time ++
    bytesBE 8 firer ++ bytesBE 2 depth ++ bytesBE 2 saFf ++ bytesBE 2 foTl ++ [0, 0] ++
    tableCrc.flatMap (bytesBE 4) ++ [0, 0, 0, 0] ++ List.replicate 65464 0
  top ++ bytesBE 8 (crc64 top)

/-- One catalogue record (R123). -/
def catalogueRecord (type seq : Nat) (body : List Nat) : List Nat :=
  let r := bytesBE 2 type ++ bytesBE 2 body.length ++ bytesBE 4 seq ++ body
  r ++ List.replicate ((8 - r.length % 8) % 8) 0

/-- The payload of a cone witness block (R129): bytes from the generator's state. -/
def conePayload (g blk : Nat) : List Nat :=
  let bit (st : Nat) : Nat := (st / 2 ^ 22 + st / 2 ^ 17) % 2
  let byte (st : Nat) : Nat × Nat :=
    (List.range 8).foldl (fun (acc : Nat × Nat) _ => (2 * acc.1 + bit acc.2, (2 * acc.2 + bit acc.2) % 2 ^ 23)) (0, st)
  ((List.range 65536).foldl (fun (acc : List Nat × Nat) _ => let (v, st) := byte acc.2; (v :: acc.1, st))
    ([], (4 * g + blk + 1) % 2 ^ 23)).1.reverse

/-! Zones and lanes (R130-R132) -/

/-- Settings of a zone, zones of a layer and of a lane, stripes of a zone (R130, R131). -/
def settingsPerZone : Nat := 8192
def zonesPerLayer : Nat := 30
def zonesPerLane : Nat := 300
def stripesPerZone : Nat := 32768

/-- The layer of a lane zone (R131). -/
def zoneLayer (z : Nat) : Nat := z / 30

/-- The setting index of setting i of a lane zone (R130, R131). -/
def zoneSetting (z i : Nat) : Nat :=
  let layer := zoneLayer z
  let u := settingsPerZone * (z % 30) + i
  settingAtPos layer (if layer % 2 = 0 then 5824 + u else u)

/-- The lane zone and the setting within it of a setting of a layer (R130). -/
def zoneOfSetting (layer g : Nat) : Option (Nat × Nat) :=
  let p := recordingPos layer g
  if g < 5824 then none
  else
    let u := if layer % 2 = 0 then p - 5824 else p
    some (30 * layer + u / settingsPerZone, u % settingsPerZone)

/-- Positions of P and Q of stripe i (R131). -/
def stripeP (i : Nat) : Nat := i % 8
def stripeQ (i : Nat) : Nat := (i + 1) % 8

/-- The stripe position of data member d of a stripe whose live positions are given (R132). -/
def dataPosition (i : Nat) (live : List Nat) (d : Nat) : Option Nat :=
  (live.filter fun p => p ≠ stripeP i ∧ p ≠ stripeQ i)[d]?

end Sys2Proof.Machine
end

