-- ==== Sys2Proof/Machine/StStripe.lean ====
section
/-!
DEFINITION. State types of firing (R255-R282), stripes, staging, the journal, the catalogue cache and
re-throw (R378-R418), and the mounted load (R26, R27, R483).
-/
namespace Sys2Proof.Machine

/-! Loads -/

/-- A member sagger of a load: stripe position, serial, the wheel it is on (none in the store), the
disc IDs of its four slots, and whether it was accepted (R17). -/
structure Member where
  pos : Nat
  serial : Nat
  wheel : Option Nat
  discs : List Nat
  accepted : Bool
  deriving DecidableEq, Repr

/-- Where a Stage Load or an Unmount Load stands (R483, R484). -/
inductive LoadPhase where
  | none | padding | closing | braking | exchanging | mounting
  deriving DecidableEq, Repr

/-- The load: identity, members; what is being staged or unmounted, the last record that its run close
covers, wheels whose sagger was refused (R17),
`others` saggers on wheels that are no members of the load: serial and disc IDs, by wheel; `stopped` lanes with two write-retired
members (R278);
whether the twin asked for it, the stripe positions missing since (time, R409), and disc and layer of the cone reads
asked for since the mount (R417). -/
structure LoadSt where
  mounted : Bool
  id : Nat
  members : List Member
  phase : LoadPhase
  target : Nat
  unmount : Bool
  store : Bool
  state : Nat
  reason : Nat
  since : Nat
  closeAt : Option Nat
  refused : List Nat
  others : Store (Option (Nat × List Nat))
  stopped : List Nat
  forTwin : Bool
  missing : Store (Option Nat)
  cones : List (Nat × Nat)
  deriving DecidableEq, Repr

/-! Zones and stripes -/

/-- One entry of WIDTH_MAP (R402): first stripe, excluded position, narrowed. -/
structure WidthEntry where
  first : Nat
  excluded : Nat
  narrowed : Bool
  deriving DecidableEq, Repr

/-- A lane zone (R386-R402, R471-R478). `state` as the Zoned Namespace command set has it: 0 empty,
1 implicitly open, 2 explicitly open, 3 closed, 4 full, 5 read only, 6 offline. `wp` in LBAs; `enc`,
`fired` and `conf` in stripes. `staged` by zone-relative LBA; `unmirrored` LBAs whose copy the twin has
not acknowledged; `pads` ranges of padding. `finish` a Zone Finish waits; `byCtl` finished by the
controller; `seal` the state of the zone seal's digest. -/
structure ZoneSt where
  ns : Nat
  state : Nat
  wp : Nat
  zcap : Nat
  enc : Nat
  fired : Nat
  conf : Nat
  gen : Nat
  pad : Nat
  mirrorAck : Bool
  sealed : Bool
  stopped : Bool
  width : List WidthEntry
  collide : Nat
  staged : Store (List Nat)
  unmirrored : List Nat
  pads : List (Nat × Nat)
  everFired : Bool
  finish : Bool
  byCtl : Bool
  replaying : Bool
  digest : List Nat
  digestOk : Bool
  nextPatrol : Nat
  passes : Nat
  lastPass : Nat
  patrolSaved : Nat
  deriving DecidableEq, Repr

/-- A block encoded for a stripe member: stripe position, header, payload. -/
structure EncBlock where
  pos : Nat
  header : BlockHeader
  payload : List Nat
  deriving DecidableEq, Repr

/-- A stripe from its encoding to its confirmation (R381, R389, R392). `expect`, `fired`, `passed`:
masks by stripe position; `plain`: data members that wait for encryption (member, plaintext);
`replay`: completed by
replay; `recorded`: its record has been queued, `journalled`: written to xSPI; `msn`: the number of the JOURNAL
message that carried it to the twin (0 none); `sent`: its MEMBER messages have gone out. -/
structure StripeRec where
  zone : Nat
  stripe : Nat
  width : Nat
  excluded : Nat
  gen : Nat
  expect : Nat
  fired : Nat
  passed : Nat
  plain : List (Nat × List Nat)
  blocks : List EncBlock
  staged : Bool
  replay : Bool
  recorded : Bool
  journalled : Bool
  msn : Nat
  sent : Bool
  deriving DecidableEq, Repr

/-! The journal -/

/-- An interrupted zone (R487): namespace, load, zone, FLAGS, write pointer when the entry was made, and
after replay or completion. -/
structure IntZone where
  ns : Nat
  load : Nat
  zone : Nat
  flags : Nat
  before : Nat
  after : Nat
  deriving DecidableEq, Repr

/-- The journal (R392-R397): records to write, the HBM ring, the xSPI ring, writes to xSPI under way and
failed, records sent to the twin and not acknowledged, the twin's journal in our mirror area, SEQ of
the last record that a run close covered, the run number, when the last write to xSPI failed (none once it is tried again), the records of the mounted load's discs, and the list of interrupted zones. -/
structure JournalSt where
  waiting : List JRec
  hbm : List JRec
  xspi : List JRec
  xspiQ : List JRec
  xspiFail : Bool
  failAt : Option Nat
  unacked : List Nat
  mirror : List JRec
  disc : List JRec
  closed : Nat
  run : Nat
  interrupted : List IntZone
  deriving DecidableEq, Repr

/-! Catalogue -/

/-- A catalogue record in the cache (R123, R401): the disc it belongs to (sagger serial, slot) or none
for every disc of a lane (`lane`), type, body, SEQ, and the slots whose disc it has been fired to. -/
structure CatRec where
  serial : Nat
  slot : Option Nat
  ty : Nat
  body : List Nat
  seq : Nat
  fired : List Nat
  deriving DecidableEq, Repr

/-- A remap entry (R125, R126): disc (`discKeyOf`), home and spare settings, generation, reason, SEQ. -/
structure Remap where
  disc : Nat
  home : Nat
  spare : Nat
  gen : Nat
  reason : Nat
  seq : Nat
  deriving DecidableEq, Repr

/-- Void and shard marks (R403): disc (`discKeyOf`), setting, mask of blocks, kind (1 void, 2 shard). -/
structure Mark where
  disc : Nat
  sa : Nat
  blocks : Nat
  kind : Nat
  gen : Nat
  zone : Nat
  deriving DecidableEq, Repr

/-- A sagger as the catalogue lists it (R124): serial, load (0 for a blank spare), position (0xFF left,
0xFE partial re-throw), disc IDs. -/
structure SaggerRec where
  serial : Nat
  load : Nat
  pos : Nat
  discs : List Nat
  seq : Nat
  deriving DecidableEq, Repr

/-- Figures of a cone witness as read (R266, R405): worst-beam MSE, mean L0 iterations in 1/256, errors in its coded bits and their
number, codewords that failed L0. -/
structure WitnessFig where
  mse : Int
  iters : Nat
  errors : Nat
  bits : Nat
  fails : Nat
  deriving DecidableEq, Repr

/-- The catalogue cache. `spares`: remap spares used, by 16 * disc + layer (`discKeyOf`); `areaUsed`, `journalUsed`:
settings of the catalogue and journal areas used, by disc. `noFire`: discs that are not fired on (R117). -/
structure CatSt where
  recs : List CatRec
  remaps : List Remap
  marks : List Mark
  saggers : List SaggerRec
  spares : Store Nat
  seq : Nat
  areaUsed : Store Nat
  journalUsed : Store Nat
  layersFired : List (Nat × Nat)
  baseline : Store WitnessFig
  excluded : List (Nat × Nat)
  noFire : List Nat
  deriving DecidableEq, Repr

/-! Firing -/

/-- What a setting that is to be fired holds. -/
inductive FireKind where
  | data (zone : Nat)
  | remap (home reason : Nat)
  | layerHeader
  | witness
  | test (power : Nat)
  | journal
  | catalogue
  | rethrow
  | forTwin
  deriving DecidableEq, Repr

/-- A ready setting (R256): head, setting address, kind, its four blocks. -/
structure ReadySet where
  head : Nat
  sa : Nat
  kind : FireKind
  blocks : List (BlockHeader × List Nat)
  deriving DecidableEq, Repr

/-- Firing state of a head (R258-R277). `arm`: settings in the companion's two slots; `scanned`:
settings found blank by a scan; `await`: fired settings that wait for their verdict; `trims` t_b,
`every` counts of segments for the fourth-segment rule, `bound` segments at the bound; `half` the
first FIRE_MON report of a segment; `stops` laser stops; `misses` the last verdicts, `margins` the last
margins; `calDue` a calibration asked for; `stopping` a boundary stop sent; `tests` test settings
used, by layer (TF_USED); `mon` sum and number of the FIRE_MON readings of the setting being fired, `mons` those of the test
settings, by address (R262). -/
structure FireHead where
  arm : Store (Option ReadySet)
  firing : Option Nat
  scanned : List Nat
  collided : List Nat
  place : Option (Nat × Nat)
  await : List ReadySet
  trims : List Int
  every : List Nat
  bound : List Nat
  half : Option (Nat × List Nat)
  segs : Nat
  stops : Nat
  misses : List Bool
  margins : List Int
  calDue : Bool
  stopping : Bool
  calibrated : List Nat
  headerPass : Nat
  tests : Store Nat
  mon : Nat × Nat
  mons : Store (Nat × Nat)
  deriving DecidableEq, Repr

/-- A firing run of a group, 0 for W0-W7 and 1 for W8 (R255, R256): phase 0 none, 1 to 4,500 rpm,
2 firing, 3 bisque. -/
structure RunSt where
  phase : Nat
  start : Nat
  deriving DecidableEq, Repr

/-- The firing path. `refires`: misses by home setting; `urgent`: flushes and finishes that wait on
settings not yet fired; `held`: values in force of FIRE fields written since the run began (R279); `holdupAt`
the time of the last hold-up, `parked` heads that it parked with layer and band (R625). -/
structure FireSt where
  runs : Store RunSt
  ready : List ReadySet
  heads : Store FireHead
  refires : Store Nat
  urgent : Nat
  held : Store (Option Nat)
  holdup : Bool
  holdupAt : Nat
  parked : List (Nat × Nat × Nat)
  deriving DecidableEq, Repr

/-! Re-throw -/

/-- Progress of a re-throw that was aborted or cut off, as xSPI memory keeps it (R413, R414): load, position and sagger, settings
copied with the SEQ of their remap entry then, counts, slot. -/
structure RtProgress where
  load : Nat
  pos : Nat
  serial : Nat
  copied : List (Nat × Nat × Nat)
  total : Nat
  done : Nat
  slot : Nat
  deriving DecidableEq, Repr

/-- A re-throw (R409-R414): operation, position, old and new sagger, disc IDs of the new one, settings copied with the SEQ of
their remap entry then, settings to fire in the slot's pass, a pending request, progress kept of others, slot, layer and last setting
fired as xSPI memory keeps them; `finalRun`: a run of W8 has ended in the final pass; `recording`: its membership records are being fired. -/
structure RethrowSt where
  op : Nat
  pos : Nat
  old : Nat
  new : Nat
  discs : List Nat
  copied : List (Nat × Nat × Nat)
  todo : List (Nat × Nat)
  total : Nat
  done : Nat
  pending : Option (Nat × Nat)
  partials : List RtProgress
  xspi : Option (Nat × Nat × Nat)
  finalRun : Bool
  recording : Bool
  deriving DecidableEq, Repr

/-- Stripes, staging and rebuild. `stripes`: stripes encoded and not confirmed; `mirror`: the twin's
data in our staging by (zone, LBA); `stgOver`: staging above STG_FULL. -/
structure StripeSt where
  zones : Store ZoneSt
  stripes : List StripeRec
  mirror : List (Nat × Nat × List Nat)
  stgOver : Bool
  cat : CatSt
  rt : RethrowSt
  deriving DecidableEq, Repr

end Sys2Proof.Machine
end

