-- ==== Sys2Proof/Machine/StHost.lean ====
section
/-!
DEFINITION. State types of host attachment (R456-R504) and of the trust engine (R505-R536).
-/
namespace Sys2Proof.Machine

/-! Host attachment -/

/-- An extent of a namespace (R468). -/
structure Extent where
  load : Nat
  lane : Nat
  first : Nat
  zones : Nat
  deriving DecidableEq, Repr

/-- A namespace (R468-R470, R478, R482): home side, default durability, LBA format, extents, the controller
IDs that it is attached to, KEY_ID, whether it is being deleted, whether 0x4302 has been raised for it. -/
structure NsSt where
  home : Nat
  mirrorAck : Bool
  lbaf : Nat
  extents : List Extent
  attached : List Nat
  keyId : Nat
  deleting : Bool
  keyRaised : Bool
  deriving DecidableEq, Repr

/-- Asynchronous events (R499). -/
inductive Notice where
  | ana | zoneDesc | nsAttr | fwAct | load | health | c2h | discLog
  deriving DecidableEq, Repr

/-- An association (R463, R492-R497): the host's digest, a discovery association, keep-alive timeout (ms) and last sign (ns),
ACRE, event configuration, requests held, notices pending, power state chosen by command and by its autonomous
transition, whether those are on, errors logged (NSID, LBA). -/
structure Assoc where
  host : Nat
  disc : Bool
  kato : Nat
  last : Nat
  acre : Bool
  aec : Nat
  aers : List (Nat × Nat)
  pend : List Notice
  ps : Nat
  auto : Nat
  apst : Bool
  errs : List (Nat × Nat)
  deriving DecidableEq, Repr

/-- States of a TCP connection (R460, RFC 9293). -/
inductive TcpState where
  | synRcvd | established
  deriving DecidableEq, Repr

/-- A connection (R460-R464): its port, TCP state and numbers, retransmission timeout and since when its timer runs (ns), MSS, TLS
suite if any, ICReq seen, digests, R2T limit, association and queue, whether the engine has stopped reading it,
capsules that wait in its window. -/
structure Conn where
  port : Nat
  tcp : TcpState
  rcvNxt : Nat
  sndNxt : Nat
  sndUna : Nat
  rto : Nat
  timer : Nat
  mss : Nat
  tls : Option Bool
  ic : Bool
  hdgst : Bool
  ddgst : Bool
  maxR2t : Nat
  assoc : Option Nat
  qid : Nat
  size : Nat
  stopped : Bool
  window : List (Nat × List Nat)
  deriving DecidableEq, Repr

/-- What a command in its context does. `write`: namespace, zone, first LBA and count, FUA, append,
Write Zeroes, whether its Ready-to-Transfer has been sent; `durable` after its data is staged; `flush`: zones and the
write pointers to reach; `create`: waits for its keys' acknowledgment; `forwarded` to the twin, which
owns the loader. -/
inductive HostWork where
  | fresh
  | held (ns : Nat) (cmd : IoCmd)
  | write (ns k first n : Nat) (fua append zeroes granted : Bool)
  | durable (ns k first n : Nat) (fua append : Bool)
  | read (ns k first n : Nat)
  | flush (zones : List (Nat × Nat))
  | finish (zones : List Nat)
  | catWait (cmd : CatCmd) (since : Nat)
  | create (ns : Nat)
  | forwarded
  | delete (ns : Nat)
  | unmount
  | reg
  | aer
  deriving DecidableEq, Repr

/-- A context (R464): connection, command identifier, what it counts as (1 read, 2 write, 0 other), work,
data received so far by byte, since when; `gone` the FLAGS bits of its C2h entry once its completion will
not be sent (R497). -/
structure Ctx where
  conn : Nat
  cid : Nat
  op : Nat
  work : HostWork
  data : List Nat
  since : Nat
  gone : Nat
  deriving DecidableEq, Repr

/-- Reading the layer headers of a disc (R17, R121): the layer and the copy that come next, whether a fired copy of the layer
has been seen, the disc ID found in the lowest fired layer, whether that search is over, the layers found fired, and whether a header
disagreed with its slot or with another layer's (R121). -/
structure HdrRead where
  layer : Nat
  copy : Nat
  fired : Bool
  id : Option Nat
  known : Bool
  opened : List Nat
  bad : Bool
  deriving DecidableEq, Repr

/-- What a qualifying layer-header copy gives (R120, R212, R268): SA_FF, FO_OFS and TL_OFS as fired, the ring table of block 1,
the pulse table of block 2. -/
structure LayerTables where
  saFf : Nat
  foTl : Nat
  ring : List Nat
  pulse : List Nat
  deriving DecidableEq, Repr

/-- Host attachment. `key n` of `assocs` is CNTLID n; `zoneSets`: zones of loads that are not mounted, as
the catalogue keeps them; `retired` capacity (load, lane, zone); `seals` (NSID, namespace zone, seal);
`fallback` ports at 200 Gbit/s; `linkStart` when a port's link last started; `exhausted` an episode of R464; `fw`: image downloaded; `stored` the two images of boot flash and `running` the one that runs (none: the factory's);
`psBefore` the state before PS2, `psHost` PS3 or PS4 once its hosts
selected it, `fwAt` when the last activation began, `psClose` the last record that the run close before PS4 covers; `loadChanges`, `loadTime` of log C0h; `hdrs` how far the layer headers of a
head's disc have been read, `tables` what they hold, by 16 * head + layer; `quarters` of disc IDs from grooves, by 2 * head for layer L0 and by
2 * head + 1 for any layer; `spareScan` layers whose remap area a head's disc still has to be scanned for (R276). -/
structure HostSt where
  assocs : Store (Option Assoc)
  conns : Store (Option Conn)
  ctxs : List Ctx
  nss : Store (Option NsSt)
  zoneSets : List (Nat × Store ZoneSt)
  retired : List (Nat × Nat × Nat)
  seals : List (Nat × Nat × List Nat)
  holdPwr : Nat
  fallback : List Nat
  linkStart : Store Nat
  exhausted : Bool
  fw : Option FwImage
  stored : List (Option FwImage)
  running : Option FwImage
  psBefore : Nat
  psHost : Nat
  psClose : Option Nat
  fwAt : Nat
  loadChanges : Nat
  loadTime : Nat
  hdrs : Store (Option HdrRead)
  tables : Store (Option LayerTables)
  spareScan : Store (List Nat)
  quarters : Store (List (Option Nat))
  spdm : List (Nat × List Nat)
  deriving DecidableEq, Repr

/-! The trust engine -/

/-- An enrolment under way (R513). -/
structure EnrolSt where
  domain : Nat
  mgr : Nat
  nonceM : List Nat
  nonceW : List Nat
  ephM : List Nat
  priv : Nat
  since : Nat
  deriving DecidableEq, Repr

/-- An erase that the manager has not confirmed (R523): namespace, KEY_ID, when it was first and last asked, whether 0x810C has
been raised. -/
structure EraseAsk where
  ns : Nat
  keyId : Nat
  first : Nat
  last : Nat
  raised : Bool
  deriving DecidableEq, Repr

/-- The trust engine. Keys are named by numbers. `locked`, `anchors`, ... that persist stand in the
registers; `copies` which key store copies are valid; `ens`, `nk`, `keyIds` by NSID; `psks`: digest, hash,
wrapped key; `slots` of media crypto by (NSID, load), least recently used first; `requests` of the
DRBG; `erase`: erases that wait for the manager; `challenge` of a debug unlock, `unlocking` since when one waits for the handover; `others`: keys held as manager for
others (NSID, KEY_ID, wrapped E, wrapped NK). -/
structure TeSt where
  drk : Option Nat
  copies : Bool × Bool
  ens : Store (Option Nat)
  nk : Store (Option Nat)
  keyIds : Store Nat
  psks : List (Nat × Nat × List Nat)
  slots : List (Nat × Nat)
  requests : Nat
  healthOk : Bool
  enrol : Option EnrolSt
  erase : List EraseAsk
  challenge : Option (List Nat)
  unlocking : Option Nat
  others : List (Nat × Nat × List Nat × List Nat)
  deriving DecidableEq, Repr

end Sys2Proof.Machine
end

