-- ==== Sys2Proof/Machine/StLink.lean ====
section
/-!
DEFINITION. State types of the slip link (R133-R168): link lanes, training, what the companion last
reported, and the messages sent to it.
-/
namespace Sys2Proof.Machine

/-- A downstream message (R149). Drives and steps are signed. -/
inductive DownMsg where
  | servo (sfn : Nat) (tl fo tr sled : Int)
  | slow (sfn : Nat) (sa : Int)
  | laser (mode power : Nat)
  | park
  | fireStop (immediate : Bool)
  | linkMap (pos lane : Nat)
  | echo (tag : Nat)
  | fireArm (slot setting : Nat)
  | fireData (slot chunk : Nat) (body : List Nat)
  | pwrTrim (segment : Nat) (trims : List Int)
  | tableLoad (table layer ring offset : Nat) (body : List Nat)
  | statusReq
  deriving DecidableEq, Repr

/-- One link lane (R133, R138, R141, R143): block lock, frame lock, the validity of the last 64 sync headers (newest
first), the last 58 scrambled bits, consecutive good and failed trailers; the link position carried (none in standby or
unassigned), whether it sends standby frames, FSEQ and SV of its last good trailer. `frames` counts its frames,
`corrupt` lists the numbers of corrupt ones, `left` the frames left of the present window with its threshold and
length (R168). -/
structure LaneSt where
  block : Bool
  frame : Bool
  hdrs : List Bool
  scr : Nat
  good : Nat
  bad : Nat
  lpos : Option Nat
  standby : Bool
  fseq : Nat
  sv : Bool
  frames : Nat
  corrupt : List Nat
  left : Nat
  thr : Nat
  win : Nat
  deriving DecidableEq, Repr

/-- A link position's part of the frames of one FSEQ (R136, R138): whether its frame passed CRC, SV, the 33 payload
blocks, the four sideband bytes as a word. -/
structure UpPart where
  ok : Bool
  sv : Bool
  payload : List Nat
  sb : Nat
  deriving DecidableEq, Repr

/-- The frames of one FSEQ as they come together (R142), by link position. -/
structure UpSet where
  fseq : Nat
  parts : Store (Option UpPart)
  deriving DecidableEq, Repr

/-- The downstream direction of a head (R135, R139): the next FSEQ, the last 58 scrambled bits, the frames sent,
oldest first, which DL0 and DL1 both carry; the TRAIN blocks of the present training step, and the transmit preset in
use on each link lane (R163, R632). -/
structure DlSt where
  fseq : Nat
  scr : Nat
  sent : List (List LineBlock)
  train : List Nat
  presets : List Nat
  deriving DecidableEq, Repr

/-- The link of one head. `attempt` counts the attempts of the retry budget, `began` is when the last one started, `uncounted` marks
attempts after a PLL relock (R166); `mapPending` is the position under way and the lane it moves to
(R144); `set` the upstream frames that come together (R142); `tables` holds the table loads not yet acknowledged
(R269), each with its failures; `quarters` the disc-ID quarters seen (R156). -/
structure LinkSt where
  lanes : Store LaneSt
  attempt : Nat
  began : Nat
  uncounted : Bool
  retryDue : Bool
  identOk : Bool
  mapPending : Option (Nat × Nat)
  set : Option UpSet
  laserPower : Nat
  laserCurrent : Nat
  laserTemp : Int
  compTemp : Int
  nonownDrop : Nat
  tables : List (DownMsg × Nat)
  quarters : Store Nat
  deriving DecidableEq, Repr

end Sys2Proof.Machine
end

