-- ==== Sys2Proof/Machine/StMem.lean ====
section
/-!
DEFINITION. State types of HBM, the setter cache and error correction (R422-R455).
-/
namespace Sys2Proof.Machine

/-- A 64-bit word with its poison mark (R430, R438). -/
structure MWord where
  val : Nat
  poison : Bool
  deriving DecidableEq, Repr

/-- A line of the cache (R442): the physical line number (tag and set), dirty, its 32 words. -/
structure CLine where
  line : Nat
  dirty : Bool
  words : List MWord
  deriving DecidableEq, Repr

/-- A request for one line: `kind` 0 at the cache's ports, 1 at an HC's own ports (bypass), 2 from
MAINT_CMD; `stalled` once it has been counted as stalled by the watermark. -/
structure MemReq where
  kind : Nat
  who : Requester
  addr : Nat
  acc : MemAcc
  time : Nat
  stalled : Bool
  deriving DecidableEq, Repr

/-- A fill under a fill tag (R442, R445, R449): line, the physical way it will take, the requests joined
in order, and whether the line is kept; since when it stalls at the watermark. -/
structure FillSt where
  line : Nat
  way : Nat
  joined : List MemReq
  kept : Bool
  stalled : Option Nat
  deriving DecidableEq, Repr

/-- A maintenance operation of the register path (R448, R449): operation, the fill tags whose end it
waits for, and writebacks that stall at the watermark. -/
structure MaintSt where
  op : Nat
  tags : List Nat
  pend : List (Nat × List MWord)
  deriving DecidableEq, Repr

/-- An entry of a correction table (R432): word address, count, syndrome, state (1 counting, 2 row
repaired, 3 page retired, 4 way removed), order of arrival, and that no repair was left when one fell due. -/
structure EctEntry where
  addr : Nat
  count : Nat
  syn : Nat
  state : Nat
  age : Nat
  spent : Bool
  deriving DecidableEq, Repr

/-- A repair that is due (R432). -/
inductive RepairKind where
  | sramRow | package | page | way
  deriving DecidableEq, Repr

/-- The memory system. `words`: HBM by physical 64-bit word; `wm`: watermarks by 32 * stack +
pseudo-channel, in hundredths of a byte; `scrub` by stack: words of its pass that were read, and the time of the last; `cache` by 32 * set + physical way; `plru` tree bits by set; `fills` by tag; `evb` the
eviction buffer, oldest first; `waiting` requests in order of arrival; `ect` by memory block; `retired` the retirement
table, entry k for reserve page 15,872 + k; `repairs` due; `sram` poisoned words of the SRAM blocks
(block, word address). -/
structure MemSt where
  words : Store MWord
  wm : Store Nat
  scrub : Store (Nat × Nat)
  cache : Store (Option CLine)
  plru : Store Nat
  fills : Store (Option FillSt)
  evb : List (Nat × List MWord)
  waiting : List MemReq
  maint : Option MaintSt
  ect : Store (List EctEntry)
  ectAge : Nat
  retired : List (Option Nat)
  repairs : List (Nat × Nat × RepairKind)
  sram : List (Nat × Nat)
  deriving DecidableEq, Repr

end Sys2Proof.Machine
end

