-- ==== Sys2Proof/Machine/StMotion.lean ====
section
/-!
DEFINITION. State types of the control engine (R283-R322) and the motion engine (R356-R377) beside
their registers and CE memory.
-/
namespace Sys2Proof.Machine

/-- Where a head's sequence stands (R312-R316). -/
inductive SeqPhase where
  | idle | sweep | settle | capture | address | jump | seek
  | kick | watch | brake | stepBack | stepHold | exporting
  deriving DecidableEq, Repr

/-- A head's sequencer (R310-R319). `op` is the command in progress (0 none, 16 a recapture of R317) with
its target `layer` and `band`; `left` counts bands or frames still to go, `curves` the S-curves met,
`gap` frames since the last tracking-error crossing, `jumps` and `seeks` the moves made toward the
target; `locked` that a band has been locked since the last ACQUIRE. `sfn` is the frame counter last
seen. The run counters serve R296, R310 and R317; `saved` the modes before a HOLD. `moved`: the head has left its
track since the last segment (R182, R192); `entered`: it has entered a layer since the last servo frame (R207). `prevTe` is
the tracking error of the frame before and `mid` that a jump has crossed between two grooves since it left the last one
(R313, R315); `since` the time at which the phase began, `stepRun` that the revolution of a STEP has begun (R316); `params`
the words of the sequencer's block as the command in progress read them (R322). -/
structure SeqSt where
  op : Nat
  phase : SeqPhase
  attempts : Nat
  layer : Nat
  band : Nat
  curves : Nat
  surface : Bool
  settle : Nat
  gap : Nat
  left : Nat
  toLow : Bool
  jumps : Nat
  seeks : Nat
  layers : Int
  base : Int
  prevFe : Int
  stepKind : Nat
  stepValue : Int
  locked : Bool
  sfn : Nat
  missRun : Nat
  sinceMiss : Nat
  goodRun : Nat
  fsLow : Nat
  trErr : Nat
  recover : Bool
  saved : List Nat
  flew : Bool
  qPrev : Nat
  saSum : Int
  saCount : Nat
  saPrev : Int
  moved : Bool
  entered : Bool
  prevTe : Int
  mid : Bool
  since : Nat
  stepRun : Bool
  params : List Nat
  deriving DecidableEq, Repr

/-- Control-engine state beside CE memory: sequencers, slots
whose next sample is preset after a swap, slots shed, the trace in progress (words left). `held`: values in force of
configuration fields of CTRLENG and WHEEL written since the last servo frame or speed tick (R322, R355). -/
structure CeSt where
  seqs : Store SeqSt
  presetNext : List Nat
  shed : List Nat
  traceLeft : Nat
  held : Store (Option Nat)
  deriving DecidableEq, Repr

/-- A trapezoid profile as latched at the start of a move (R358). -/
structure Profile where
  vStart : Nat
  vStop : Nat
  vBrk : Nat
  vMax : Nat
  a1 : Nat
  a2 : Nat
  deriving DecidableEq, Repr

/-- A stretch of a motion (R358): from speed v0 to v1, in steps/s, at acceleration `a` over `dist`, in 10^-6 steps; a
cruise where v0 = v1. -/
structure Seg where
  v0 : Nat
  v1 : Nat
  a : Nat
  dist : Nat
  deriving DecidableEq, Repr

/-- What an axis is doing. Homing carries its step 1 to 4, or 5 for the way back to HOME_OFS, and whether its switch has
ended the present motion (R369). `presence` is the presence test of loader G (R372). -/
inductive AxMode where
  | none
  | move
  | home (step : Nat) (rest : Bool)
  | presence
  deriving DecidableEq, Repr

/-- A switch of a sled as SLED messages show it (R366, R367): its level, the time and POS of its last raw edge, the times of
its raw edges, latest first. -/
structure RawSwitch where
  level : Option Bool
  since : Nat
  pos : Int
  edges : List Nat
  deriving DecidableEq, Repr

/-- Motion of one axis beside its registers. `segs` is what remains of the motion from time `t0` (pin axes, ns) or from
`run` = 0 (sleds, ns of servo frames), of the axis itself or of the master of its group, whose `made` 10^-6 steps lie before
it; the axis makes `num` steps in `den` of the master's (R361). `acc` is a sled's accumulator in 10^-12 steps (R363); `fault`
a fault that the stop will report; `ofs` the companion's position less POS (R365); `travel` the steps of a homing before its
present motion (R369); `endAt` the time of the last step (R362). -/
structure AxisSt where
  mode : AxMode
  start : Int
  up : Bool
  group : List Nat
  prof : Profile
  segs : List Seg
  t0 : Nat
  run : Nat
  made : Nat
  num : Nat
  den : Nat
  stopping : Bool
  fault : Nat
  farHits : Nat
  reversed : Bool
  travel : Nat
  endAt : Nat
  acc : Int
  ofs : Option Int
  seeking : Bool
  home : RawSwitch
  far : RawSwitch
  deriving DecidableEq, Repr

/-- One step of a transfer or of a recovery of the loader (R371, R372): `rest` waits for the wheel's confirmed rest and parked
heads; `station` and `slot` move X and Z; `hub`, `store` and `pull` move P to P_HUB, P_STORE and 0; `grip` and `opened` move G to
G_GRIP and home; `intent` writes the custody record's intent and `held` its place; `gripped` ends the sequence at an empty
gripper; `release`, `released`, `clamp` and `sensed` are of the wheel's clamp; `home` homes an axis; `test` is the presence test
and `decide` acts on it; `over` ends a recovery. -/
inductive XferStep where
  | rest (w : Nat) | station (w : Nat) | slot (k : Nat)
  | hub | store | pull | grip | opened
  | intent (n w k : Nat) | held (kind : Nat) | gripped
  | release (w : Nat) | released (w : Nat) | clamp (w : Nat) | sensed (w : Nat)
  | home (a : Nat) | test | decide | over
  deriving DecidableEq, Repr

/-- Motion-engine state: axes, the steps that the loader still has to make, a sequence that a refusal or an unknown custody has
stopped, the serials of saggers that the loader or the mount before it left on a wheel, the slot for which the elevator is bound, values of axis blocks in force until the next move (R375). -/
structure MotSt where
  axes : Store AxisSt
  plan : List XferStep
  stuck : Bool
  onWheel : Store (Option Nat)
  elvTarget : Option Nat
  /-- The last custody record in xSPI memory (R371): kind, intent, wheel, store. -/
  custodyXspi : Nat × Nat × Nat × Nat
  deriving DecidableEq, Repr

end Sys2Proof.Machine
end

