-- ==== Sys2Proof/Machine/StRead.lean ====
section
/-!
DEFINITION. State types of the read channel (R169-R217), the LDPC pool (R218-R227), shard capture
(R228-R231) and the retry ladder (R232-R250) beside their registers and tables.
-/
namespace Sys2Proof.Machine

/-- A value of a sample stream with its validity (R170, R174). -/
structure Samp where
  v : Int
  ok : Bool
  deriving DecidableEq, Repr

/-- An interpolated sample (R174) with the sum of |x| over the input samples since the one before it, and their
number (R193). -/
structure WBit where
  s : Samp
  abs : Nat
  n : Nat
  deriving DecidableEq, Repr

/-- A survivor of the trellis (R184): its metric, and its decisions with their reliabilities, newest first. -/
structure Survivor where
  metric : Int
  bits : List (Bool × Nat)
  deriving DecidableEq, Repr

/-- A channel cell at work on its beam (R169-R185). `inp`: input samples that wait, oldest first, -128 for an
invalid one; `xs` the last eight corrected samples, `acc` the timing accumulator in 2^-48 of a channel bit, `sum`
|x| and samples since the last output, `len` the outputs so far. The streams of a bit index, newest first: `ws` interpolated samples, `ys`
equalised (11 bits behind), `zs` cancelled (12 behind), `tents` tentative decisions and `errs` detector errors (28
behind), `decs` decisions with reliabilities (76 behind). `hits`: taps that reached a bound in the segment. -/
structure CellRun where
  inp : List Int
  xs : List Samp
  acc : Int
  sum : Nat × Nat
  len : Nat
  ws : List WBit
  ys : List Samp
  zs : List Samp
  tents : List Bool
  errs : List (Option Int)
  decs : List (Bool × Nat)
  paths : List Survivor
  hits : List Nat
  deriving DecidableEq, Repr

/-- A piece in a sample shelf or in shard capture (R196): descriptor, samples, and the head that read
it. `attempt` is the read attempt (R218), `bounds` the taps at their bounds, `best` set and MSE of the
re-detection that gave the lowest MSE (R239). -/
structure Piece where
  head : Nat
  sa : Nat
  seg : Nat
  beam : Nat
  attempt : Nat
  mse : Int
  cand : Option SyncCand
  cand2 : Option SyncCand
  slide : Option SyncCand
  offset : Int
  retimed : Bool
  fly : Bool
  invalid : Bool
  erased : Bool
  bounds : Nat
  weakCopy : Bool
  bestSet : Option (Nat × Int)
  samples : List Nat
  deriving DecidableEq, Repr

/-- Band state of a head's read channel (R175-R210). `expect`: setting address and segment position
predicted next. `again`: the acquisition is a re-acquisition; `reacq`: re-acquisition at the next
setting is due, and `erase` that segments are erased until then. `run`: consecutive good segments of
an acquisition, `wide` that its first segment is still to come, `miss` consecutive mismatches with the address last confirmed, `cont` segments read
without a break in one ring and layer. `held`: values in force of fields whose written values wait for
the next segment boundary (R179, R205, R217). `start`: start values by beam; `cur`: adapted values in units of
2^-24 of a register LSB. `ratio` (R173), `freq` the shared frequency term less it (R175), both in 2^-48 of a channel
bit a sample; `acqLeft` channel bits still at acquisition gains, `lockOut` that the term left its range (R176).
`cells` by beam; `edge` the edge beam's decisions by segment, newest first (R182).
`flyIn`, `missIn`, `blankIn`, `mseIn`: figures of the setting in progress. -/
structure BandSt where
  expect : Option (Nat × Nat)
  again : Bool
  reacq : Bool
  erase : Bool
  run : Nat
  wide : Bool
  miss : Nat
  missAt : Option Nat
  cont : Nat
  ratio : Nat
  freq : Int
  acqLeft : Nat
  lockOut : Bool
  cells : Store CellRun
  edge : List (List (Option Bool))
  held : Store (Option Nat)
  reload : Bool
  start : Store (Option CellVals)
  cur : Store (Option CellVals)
  mse : Store (List Int)
  shelf : List Piece
  group : List Piece
  flyIn : Nat
  missIn : Nat
  blankIn : Nat
  segsIn : Nat
  mseIn : Store (Int × Nat)
  blank : Bool
  deriving DecidableEq, Repr

/-- Figures of a setting that a head has read to its end (R259, R274): segments flywheeled, mismatched,
blank; each beam's mean MSE, where it has one, and the worst live beam's. -/
structure SettingFig where
  sa : Nat
  fly : Nat
  miss : Nat
  blank : Nat
  segs : Nat
  beams : List (Option Int)
  mse : Int
  deriving DecidableEq, Repr

/-- What a read is for (R250, R259, R273): `member` a member that a reconstruction needs (R407), `cone` cone witnesses
(R417). -/
inductive ReadFor where
  | host | bisque | blankScan | patrol | rethrow | calibration | catalogue | refire | member | cone
  deriving DecidableEq, Repr

/-- A setting that a head is to read; `on` once its band read has been admitted (R225). -/
structure ReadReq where
  head : Nat
  sa : Nat
  why : ReadFor
  on : Bool
  since : Nat
  deriving DecidableEq, Repr

/-- The 2,560 LLRs of a filed piece (R220), whether it came as erasures (R187), and its MSE. -/
structure KeptPiece where
  llrs : List Int
  erased : Bool
  mse : Int
  deriving DecidableEq, Repr

/-- An open gather (R218-R220): the pieces filed, by beam. -/
structure Gather where
  head : Nat
  sa : Nat
  slot : Nat
  attempt : Nat
  pieces : Store (Option KeptPiece)
  deriving DecidableEq, Repr

/-- A codeword to decode (R222-R224): rung 0 to 5, its 40,960 input LLRs; NORM and the iteration limit as they were
when a cell started it (R253). -/
structure CwJob where
  head : Nat
  sa : Nat
  slot : Nat
  attempt : Nat
  rung : Nat
  llrs : List Int
  norm : Nat
  limit : Nat
  deriving DecidableEq, Repr

/-- A piece delivered to the pool and not filed yet (R186, R218). -/
structure Arrival where
  head : Nat
  sa : Nat
  seg : Nat
  beam : Nat
  attempt : Nat
  piece : KeptPiece
  deriving DecidableEq, Repr

/-- Where a codeword of a setting stands: not decoded, passed, failed at L0 with L1 due, failed after
L1, failed without a decode (R219, R223, R226), corrected by the outer code. -/
inductive SlotState where
  | open | pass | failed0 | failed | skipped | corrected
  deriving DecidableEq, Repr

/-- One codeword slot of a setting under read: its state, the rung that completed it, its L0
iterations, its information bytes. `kept`: the pieces received, the better read of each (R220, R243); `work`: LLRs
of pieces re-detected in L2 that stand in place of those (R239), `slid` those of the slides being tried, in place of
both (R240); `ext`: what the last failed decode added to its 40,960 inputs (R239); `raw`: of a cone witness, errors in its coded bits
and the bits compared (R417). -/
structure SlotRes where
  st : SlotState
  rung : Nat
  iters : Nat
  info : List Nat
  kept : Store (Option KeptPiece)
  work : Store (Option (List Int))
  slid : Store (Option (List Int))
  ext : List Int
  raw : Nat × Nat
  deriving DecidableEq, Repr

/-- The configuration of OUTER as a setting entered the ladder (R254). -/
structure LadderCfg where
  rungEn : Nat
  revPolicy : Bool
  outerCheck : Bool
  altMask : Nat
  turboMax : Nat
  slideMax : Nat
  budget : Nat
  l4 : List Nat
  l4Steps : Nat
  l5 : List Nat
  l5Steps : Nat
  tmo : Nat
  deriving DecidableEq, Repr

/-- The pass of L2 or L3 in progress (R239, R240): an ALT set, a turbo pass, the joint slide pass, a
single slide trial. -/
inductive LadderPass where
  | alt (set : Nat)
  | turbo (n : Nat)
  | joint
  | trial (n : Nat)
  deriving DecidableEq, Repr

/-- A re-detection to run (R200): slot, beam, equaliser set, whether with the slide candidate, whether with a priori
LLRs; `taps` and `canc`: the set's taps and the canceller's coefficients as they were when the pass started (R214). -/
structure Redet where
  slot : Nat
  beam : Nat
  set : Nat
  slide : Bool
  turbo : Bool
  taps : List Int
  canc : List Int
  deriving DecidableEq, Repr

/-- The step of R237 that a setting is in. -/
inductive LadderStep where
  | reading | l1 | norev | outer | revWait | rev | revOuter | blocks | l7
  deriving DecidableEq, Repr

/-- A setting under read and, once something failed, under the ladder (R232-R250). `rev` counts the
L4 and L5 steps begun, `revs` the revolutions spent; `pass` with the re-detections still to run
(`todo`), those that ran (`ran`) and the decodes out (`decoding`); `outer` 0 none, 1 verified,
2 unverified. `blocks`: per block 0 open, 1 waiting for its tag, 2 at L7, 3 released, 4 shard. -/
structure SettingRd where
  head : Nat
  sa : Nat
  why : ReadFor
  slots : Store SlotRes
  cfg : LadderCfg
  since : Option Nat
  step : LadderStep
  pass : Option LadderPass
  norevStart : Nat
  todo : List Redet
  ran : List Redet
  decoding : List Nat
  rev : Nat
  revs : Nat
  top : Nat
  outer : Nat
  timedOut : Bool
  revAfter : Bool
  blocks : List Nat
  deriving DecidableEq, Repr

/-- A block released by the engine (R250): its place, its kind and header, payload, highest rung and
revolutions. -/
structure BlockOut where
  head : Nat
  sa : Nat
  blk : Nat
  why : ReadFor
  header : BlockHeader
  payload : List Nat
  rung : Nat
  revs : Nat
  deriving DecidableEq, Repr

/-- A retained piece (R230, R231): its number, whether its first word has been read, and since when it is due to be
freed. -/
structure Retained where
  no : Nat
  piece : Piece
  read : Bool
  due : Option Nat
  deriving DecidableEq, Repr

/-- The pool, shard capture and the ladder. `bTime` and `aTime`: cell time given to each class while
class A waited, in iterations; `rr`: the cell that took the last codeword and how many in a row;
`iters`: the last L0 iteration counts, `l0` their sum and number by head (R604); `failed`: L0 failures reported to the head blocks; `caps`:
pieces captured; `retained` with their numbers; `redet`: re-detections in progress by the head whose
CC16 runs them; `released` and `lost`: blocks for the stripe engine, the host engine and the patrol; `unread`: blocks whose
ladder without L7 ended unreadable (R408, R411); `lastRead`: when each head last had a read under way (R415); `share`: each head's time
that a re-throw wanted and got in the present RT_WIN, and the window's number (R412). -/
structure PoolSt where
  wants : List ReadReq
  arrivals : List Arrival
  gathers : List Gather
  queueA : List CwJob
  queueB : List CwJob
  cells : Store (Option CwJob)
  rr : Nat × Nat
  aTime : Nat
  bTime : Nat
  iters : List Nat
  l0 : Store (Nat × Nat)
  failed : List (Nat × Nat × Nat)
  caps : List Piece
  retained : List Retained
  nextNo : Nat
  winWord : Nat
  reserveLow : Bool
  redet : Store (Option (Nat × Nat × Redet))
  settings : List SettingRd
  figs : List (Nat × SettingFig)
  released : List BlockOut
  lost : List (Nat × Nat × Nat)
  unread : List (Nat × Nat × Nat)
  lastRead : Store Nat
  share : Store (Nat × Nat × Nat)
  deriving DecidableEq, Repr

end Sys2Proof.Machine
end

