-- ==== Sys2Proof/Machine/StSvc.lean ====
section
/-!
DEFINITION. State types of bring-up, self-test and the management complex (R563-R591, R617-R635).
-/
namespace Sys2Proof.Machine

/-- A running self-test (R577): test 1 to 9, its object (page number, cell) and why it runs. -/
structure TestRun where
  test : Nat
  page : Nat
  cell : Nat
  kind : TestKind
  deriving DecidableEq, Repr

/-- A test asked for by TEST_REQ (R580): the cells still to test of its object, whether one has failed, and FORCE. -/
structure TestReq where
  test : Nat
  page : Nat
  cells : List Nat
  failed : Bool
  force : Bool
  deriving DecidableEq, Repr

/-- Why the chip is held in reset: not held, PORST_N low, a power-good lost, a thermal trip (R30, R620, R635). -/
inductive HeldReset where
  | no | porst | power | thermal
  deriving DecidableEq, Repr

/-- Bring-up and self-repair. `held`: the chip is in reset; `hold`: HOLDUP_N was low as PORST_N rose (R626);
`trim` the sources of the trim store; `tests` running and `request` asked for; `overdue` tests whose pass has
been reported; `began` powered seconds at the start of each test's pass; `wdt` watchdog resets (core, powered
second); `fatals` powered seconds of fatal resets, `fatalAt` when the chip entered state 6; `powered` seconds of power before this bring-up and
`poweredXspi` as last saved; `ovlAt` when the overload began; `spun` wheels that bring-up has
started, `busyAt` when the idle condition of a self-test was last found broken, by `idleKey`, `forcedAt` the powered second of each test's last
forced object, `homed` axes that it has homed; `catRead` catalogue settings read of each head's disc, 2,000 once its records are in (R574);
`jrnRead` journal settings of it, 20,000 once its records are in (R398). -/
structure SvcSt where
  held : HeldReset
  hold : Bool
  trim : TrimSources
  tests : List TestRun
  request : Option TestReq
  overdue : List Nat
  began : Store Nat
  wdt : List (Nat × Nat)
  fatals : List Nat
  fatalAt : Nat
  busyAt : Store Nat
  forcedAt : List (Nat × Nat)
  powered : Nat
  poweredXspi : Nat
  ovlAt : Nat
  spun : List Nat
  homed : List Nat
  catRead : Store Nat
  jrnRead : Store Nat
  deriving DecidableEq, Repr

end Sys2Proof.Machine
end

