-- ==== Sys2Proof/Machine/StTwin.lean ====
section
/-!
DEFINITION. State types of the twin engine and the rack hierarchy (R537-R562).
-/
namespace Sys2Proof.Machine

/-- A handover under way (R547) of an object by token: whether this side releases it; where it stands;
since when. -/
inductive HoStage where
  | waiting | offered | exporting | exportSent | taken | importing | armed
  deriving DecidableEq, Repr

structure Handover where
  tok : Nat
  release : Bool
  stage : HoStage
  since : Nat
  deriving DecidableEq, Repr

/-- A message of a reliable class that its sender keeps (R541): class, number, time of its last sending. -/
structure Unacked where
  cls : Nat
  msn : Nat
  sent : Nat
  msg : TMsg
  deriving DecidableEq, Repr

/-- The twin engine. `table`: owning side (0, 1, 255 none) and epoch of each token; `hello`: the twin's
HELLO accepted; `authIn`, `authOut`: HELLO_AUTH accepted and sent; `kt` the pairing key (opaque);
`rx` the last (BOOT, SEQ) accepted; `seq` frames sent; `msnTx`, `msnRx` numbers sent and received by
class (0 token, 1 mirror, 2 fire, 3 control); `unacked` messages kept; `acked` the mirror number the
twin has acknowledged; `twin` its latest TWIN_STATE; `ho` handovers under way, `hoQueue` tokens to
hand over; `lastEdge`, `lastFrame` times of the last pin edge and of the last frame whose tag passed; `everPaired` since bring-up; `writers` the namespaces
whose zone writer is this side, `moves` writer roles to move; `lastSign`, `declared` times of the last
sign of the twin and of the declaration; `doneAt` when each token's last TOKEN_DONE came; `partials` member data by (head, setting, block);
`takenHeads` tokens of a takeover that are not yet in use; `after` what follows a handover (bit 0 a chip
reset, bits 1 and 2 the training of an HBM stack). -/
structure TwSt where
  table : List (Nat × Nat)
  hello : Option HelloBody
  authIn : Bool
  authOut : Bool
  kt : Nat
  rx : Option (Nat × Nat)
  seq : Nat
  msnTx : Store Nat
  msnRx : Store Nat
  unacked : List Unacked
  acked : Nat
  twin : Option TwinState
  ho : List Handover
  hoQueue : List Nat
  lastEdge : Option Nat
  lastFrame : Nat
  hbOut : Bool
  everPaired : Bool
  foreign : Bool
  writers : List Nat
  moves : List (Nat × Nat)
  lastSign : Nat
  declared : Nat
  taking : Bool
  takenHeads : List Nat
  partials : List (Nat × Nat × Nat × Nat × List Nat)
  doneAt : List (Nat × Nat)
  pendingConflict : List Nat
  after : Nat
  deriving DecidableEq, Repr

/-- A shelf's workers as the manager knows them, each pair by side: serial, last HB_CNT, seconds silent, power
state; catalogue generation and load (R554-R556). -/
structure Worker where
  serial : Nat × Nat
  hb : Nat × Nat
  silent : Nat × Nat
  ps : Nat × Nat
  catGen : Nat
  load : Nat
  deriving DecidableEq, Repr

/-- A PMBus transaction (R556): shelf, operation (0x80 on, 0x40 soft off, 0x00 immediate off, 0x79 read
status), tries made, for a power cycle the on that follows. -/
structure Pmbus where
  shelf : Nat
  op : Nat
  tries : Nat
  cycle : Bool
  deriving DecidableEq, Repr

/-- The rack hierarchy: workers, PMBus transactions (the first is under way), queued power-ons, shelves
still within PWR_GAP of their power-on, the time since no manager answered, stage requests forwarded to
shelves (load, shelf, written); `announced` the last ANNOUNCE sent. -/
structure HySt where
  workers : Store (Option Worker)
  pmbus : List Pmbus
  queue : List Nat
  gaps : List (Nat × Nat)
  noMgr : Bool
  rackLoads : List (Nat × Nat)
  stage : Option (Nat × Nat × Bool)
  enrol : List Nat
  announced : Option Nat
  deriving DecidableEq, Repr

end Sys2Proof.Machine
end

