-- ==== Sys2Proof/Machine/StWheel.lean ====
section
/-!
DEFINITION. State types of the commutation engine (R323-R355) beside its registers.
-/
namespace Sys2Proof.Machine

/-- What drives a phase (R326, R327): nothing, its low side, or PWM with its high side on for a part of the period (2^-12) and
its low side for the rest. -/
inductive PhaseDrive where
  | off | low
  | pwm (duty : Nat)
  deriving DecidableEq, Repr

/-- The gate outputs of a wheel by phase (R323, R335). -/
structure Gates where
  u : PhaseDrive
  v : PhaseDrive
  w : PhaseDrive
  deriving DecidableEq, Repr

/-- All gates off; all low sides on. -/
def Gates.off : Gates := { u := .off, v := .off, w := .off }
def Gates.lowSides : Gates := { u := .low, v := .low, w := .low }

/-- The outputs of a wheel at its pins: gates, SPw_OWN, CLAMPw_REL (R633). -/
structure WheelPins where
  gates : Gates
  ownOut : Bool
  rel : Bool
  deriving DecidableEq, Repr

/-- Nothing driven. -/
def WheelPins.off : WheelPins := { gates := .off, ownOut := false, rel := false }

/-- Instructions of the JTAG port (R531-R633): BYPASS, IDCODE, the challenge of R532, boundary scan (SAMPLE, and EXTEST
of IEEE 1149.1 and 1149.6), other debug access. -/
inductive JtagInstr where
  | bypass | idcode | challenge | sample | extest | debug
  deriving DecidableEq, Repr

/-- The JTAG port: its instruction, and the boundary register's outputs of the wheels and the loader (R633). -/
structure JtagSt where
  ir : JtagInstr
  pins : Store WheelPins
  loaderOwn : Bool
  deriving DecidableEq, Repr

/-- Why a wheel brakes to rest (R337, R343, R345). -/
inductive BrakeFor where
  | start | stop
  deriving DecidableEq, Repr

/-- What a wheel does at its next commutation instant (R349, R352). -/
inductive AtCommutation where
  | none | release | coast
  deriving DecidableEq, Repr

/-- A wheel beside its registers. `ivals` are the last crossing intervals in ns (six at most), `base` the
last crossing or, while flywheeling, its predicted time; `recent` whether each of the last twelve steps
had a crossing; `empties` consecutive empty windows and `missU`, `missV`, `missW` those of one phase;
`episode` a rotor-loss episode; `caught` a catch whose first window is not over; `regained` how the last
episode ended (0, 1 flywheel, 2 coast); `sum` the current loop's sum in 2^-27; `trips` the times of
overcurrent trips; `commT`, `olStart` the last forced commutation and the start of the open loop;
`good` crossings in a row; `sense` the time from which CLAMPw_SNS counts as high; `nref` the ramped
reference in 10^-4 rpm; `devs` the deviations that may yet be the largest of the last second;
`given` the SPD_CMD and N_ref of the twin's EXPORT message; `phaseAt` the time at which the state or its rest window
began, `window` that a rest window of a fault runs (R345); `within` the time since which N is within SPD_TOL (R333); `relAt`
the time of a HANDOVER_REL that waits (R349); `ownAt` the time of the last rise
of SPw_OWN (R327), `clampAt` that of the last CLAMP (R371). -/
structure WheelSt where
  ivals : List Nat
  base : Nat
  recent : List Bool
  empties : Nat
  missU : Nat
  missV : Nat
  missW : Nat
  episode : Bool
  caught : Bool
  regained : Nat
  tries : Nat
  brakeFor : BrakeFor
  hold : Bool
  stopping : Bool
  stopPending : Bool
  stopAfter : Bool
  taking : Bool
  coasting : Bool
  release : Bool
  armed : Bool
  relWait : Bool
  atComm : AtCommutation
  sum : Int
  trips : List Nat
  commT : Nat
  olStart : Nat
  good : Nat
  sense : Option Nat
  nref : Nat
  devs : List (Nat × Nat)
  steps : Nat
  startAt : Option Nat
  given : Option (Nat × Nat)
  shadowRun : Nat
  shadowEmpty : Nat
  shadowLast : Option Nat
  phaseAt : Nat
  window : Bool
  within : Option Nat
  relAt : Nat
  ownAt : Nat
  clampAt : Nat
  deriving DecidableEq, Repr

end Sys2Proof.Machine
end

