-- ==== Sys2Proof/Machine/State.lean ====
section
/-!
DEFINITION. The state of the block as plain data, its faults and refusals, and the state right after
reset.
-/
namespace Sys2Proof.Machine

/-- What the block has sent to the outside, oldest first (the model's own record of its outputs). -/
inductive Out where
  /-- A read answered to a path: address and value. -/
  | readData (path : Path) (addr : Nat) (value : Nat)
  /-- A write answered: 0 executed, else the LAST_ERR.CLASS of the refusal. -/
  | writeDone (path : Path) (addr : Nat) (cls : Nat)
  /-- A Stebaro datagram of a session: a response or an EVENT, its header first (R77, R79, R608). -/
  | sbDatagram (sid : SessionIx) (bytes : List Nat)
  /-- A downstream message to a head's companion (R149). -/
  | down (h : Nat) (m : DownMsg)
  /-- A memory read answered: the bytes, and which of their words are poisoned (R445, R438). -/
  | mem (who : Requester) (addr : Nat) (data : List Nat) (poison : List Nat)
  /-- The 32-byte sector with the requested word, ahead of the rest of its line, and its poisoned words (R445). -/
  | memSector (who : Requester) (addr : Nat) (data : List Nat) (poison : List Nat)
  /-- A frame answered in hardware (R459). -/
  | frame (port tag pcp : Nat) (f : RxFrame)
  /-- A TCP segment sent: SYN, ACK, FIN, RST, sequence and acknowledgment numbers (R460). -/
  | tcp (conn : Nat) (syn ack fin rst : Bool) (seq ackNo : Nat)
  /-- A SYN with its acknowledgment and the MSS (R460). -/
  | tcpSyn (conn : Nat) (seq ackNo mss : Nat)
  /-- ICResp with the digests enabled (R461). -/
  | icResp (conn : Nat) (hdgst ddgst : Bool)
  /-- Ready-to-Transfer for a command (R461, R477). -/
  | r2t (conn cid : Nat)
  /-- C2HTermReq (R461). -/
  | termReq (conn : Nat)
  /-- A command completed: status, completion dword 0, data sent before it. -/
  | cqe (conn cid : Nat) (st : NvStatus) (dw0 : Nat) (data : List Nat)
  /-- The challenge of a debug unlock, read through JTAG (R532). -/
  | challenge (bytes : List Nat)
  /-- A mailbox message that the manager is asked to take (R515, R518, R523). -/
  | toManager (msg : List Nat)
  /-- An Asynchronous Event Request completed with an event of the table of R499. -/
  | aen (conn cid : Nat) (n : Notice)
  /-- An ANNOUNCE datagram of a worker on port M (R554): IPv6 address and UDP port it goes to, body. -/
  | announce (address port : Nat) (body : List Nat)
  /-- A manager's custodian write to a worker (R554, R557): shelf, side, address, value. -/
  | custodian (shelf side addr value : Nat)
  /-- A PMBus transaction of the manager with packet error checking (R556): address, shelf (PAGE), and the value of
  OPERATION, or 0x79 for a read of STATUS_WORD. -/
  | pmbus (address shelf op : Nat)
  /-- A port T frame: class and MSN, its bytes behind the Ethernet header, and the message that its body holds
  (R540, R541). -/
  | portT (cls msn : Nat) (frame : List Nat) (m : TMsg)
  deriving DecidableEq, Repr

/-- Where a step stops. -/
inductive Fault where
  /-- Raised by a meaning whose operand has a form that no command of the spec can carry (a list
  shorter or longer than the message's own layout). Safe: the block never sees such a command. -/
  | malformed (what : String)
  deriving DecidableEq, Repr

/-- Commands without a meaning. -/
inductive Refusal where
  /-- Raised by exec's own arm for a command that has no meaning yet. Safe. -/
  | notModelled (mnemonic : String)
  deriving DecidableEq, Repr

/-- The whole machine. -/
structure State where
  /-- Commands waiting, first in, first out (the model's own queue). -/
  pending : List Instr
  /-- Every register field that differs from its reset value, by field key (R52-R54). -/
  regs : Store Nat
  /-- Words of the CE memory window and the table window that are no fields (R69, R70). -/
  words : Store Nat
  /-- ns since bring-up (R62). -/
  now : Nat
  recd : RecSt
  oq : OqSt
  sess : Store (Option Session)
  arb : ArbSt
  flt : FaultSt
  links : Store LinkSt
  /-- Downstream frames by head (R139). -/
  dls : Store DlSt
  /-- Always-on fault counts of the link lanes, key 16 * head + lane (R146). -/
  aon : Store Nat
  ce : CeSt
  mot : MotSt
  wheels : Store WheelSt
  bands : Store BandSt
  pool : PoolSt
  fire : FireSt
  load : LoadSt
  st : StripeSt
  jr : JournalSt
  mem : MemSt
  host : HostSt
  te : TeSt
  tw : TwSt
  hy : HySt
  svc : SvcSt
  jtag : JtagSt
  out : List Out
  /-- Names the next free value (the model's own counter). -/
  freeCount : Nat
  deriving DecidableEq, Repr

/-- The state right after reset: every register at its reset value, nothing in any queue. -/
def State.reset : State where
  pending := []
  regs := []
  words := []
  now := 0
  recd := { raised := [], log := [], nextSeq := 1, cursors := [], mirror := [], mirrorQ := [],
            mirrorBusy := false, mirrorFails := 0, mirrorFailAt := 0 }
  oq := { queues := [], l0 := [], telAt := [], waiting := [], reading := [] }
  sess := []
  arb := { latches := [], waiting := [], fmon := none, islandResets := [], aoOnRef := false, draining := [],
           stopped := [], resetting := [], summarySeen := false, cut := [], ctl := [], data := [], spine := [] }
  flt := { blocks := [], regions := [], chip := [], lost := [], isolated := [], freshened := [], sharedOk := [] }
  links := []
  dls := []
  aon := []
  ce := { seqs := [], presetNext := [], shed := [], traceLeft := 0, held := [] }
  mot := { axes := [], plan := [], stuck := false, onWheel := [], elvTarget := none, custodyXspi := (0, 0, 0, 0) }
  wheels := []
  bands := []
  pool := { wants := [], arrivals := [], gathers := [], queueA := [], queueB := [], cells := [], rr := (0, 0), aTime := 0,
            bTime := 0, iters := [], l0 := [], failed := [], caps := [], retained := [], nextNo := 0, winWord := 0, reserveLow := false,
            redet := [], settings := [], figs := [], released := [], lost := [], unread := [], lastRead := [], share := [] }
  fire := { runs := [], ready := [], heads := [], refires := [], urgent := 0, held := [], holdup := false, holdupAt := 0, parked := [] }
  load := { mounted := false, id := 0, members := [], phase := .none, target := 0, unmount := false, store := false, state := 0,
            reason := 0, since := 0, closeAt := none, refused := [], others := [], stopped := [], forTwin := false, missing := [], cones := [] }
  st := { zones := [], stripes := [], mirror := [], stgOver := false,
          cat := { recs := [], remaps := [], marks := [], saggers := [], spares := [], seq := 0, areaUsed := [],
                   journalUsed := [], layersFired := [], baseline := [], excluded := [], noFire := [] },
          rt := { op := 0, pos := 0, old := 0, new := 0, discs := [], copied := [], todo := [], total := 0, done := 0, pending := none, partials := [],
                  xspi := none, finalRun := false, recording := false } }
  jr := { waiting := [], hbm := [], xspi := [], xspiQ := [], xspiFail := false, failAt := none, unacked := [], mirror := [], disc := [], closed := 0,
          run := 0, interrupted := [] }
  mem := { words := [], wm := [], scrub := [], cache := [], plru := [], fills := [], evb := [], waiting := [], maint := none, ect := [],
           ectAge := 0, retired := [], repairs := [], sram := [] }
  host := { assocs := [], conns := [], ctxs := [], nss := [], zoneSets := [], retired := [], seals := [], holdPwr := 0, fallback := [], linkStart := [],
            exhausted := false, fw := none, stored := [none, none], running := none, psBefore := 0, psHost := 0, psClose := none, fwAt := 0, loadChanges := 0,
            loadTime := 0, hdrs := [], tables := [], spareScan := [], quarters := [], spdm := [] }
  te := { drk := none, copies := (true, true), ens := [], nk := [], keyIds := [], psks := [], slots := [], requests := 0, healthOk := true,
          enrol := none, erase := [], challenge := none, unlocking := none, others := [] }
  tw := { table := List.replicate 44 (255, 0), hello := none, authIn := false, authOut := false, kt := 0, rx := none, seq := 0,
          msnTx := [], msnRx := [], unacked := [], acked := 0, twin := none, ho := [], hoQueue := [], lastEdge := none, lastFrame := 0, hbOut := false,
          everPaired := false, foreign := false, writers := [], moves := [], lastSign := 0, declared := 0,
          taking := false, takenHeads := [], partials := [], doneAt := [], pendingConflict := [], after := 0 }
  hy := { workers := [], pmbus := [], queue := [], gaps := [], noMgr := false, rackLoads := [], stage := none, enrol := [], announced := none }
  svc := { held := .no, hold := false, trim := { fuse := [], flash := [], sig := [] }, tests := [], request := none, overdue := [],
           began := [], wdt := [], fatals := [], fatalAt := 0, busyAt := [], forcedAt := [], powered := 0, poweredXspi := 0, ovlAt := 0, spun := [], homed := [], catRead := [], jrnRead := [] }
  jtag := { ir := .idcode, pins := [], loaderOwn := false }
  out := []
  freeCount := 0

end Sys2Proof.Machine
end

