-- ==== Sys2Proof/Machine/Wire.lean ====
section
/-!
DEFINITION. The slip link on the wire (R133-R140, R147-R149, R152-R155, R163): blocks and the scrambler, upstream
frames and trailers, sideband messages by their byte offsets, downstream messages as header and body blocks, downstream
frames, TRAIN blocks.
-/
namespace Sys2Proof.Machine

/-! Numbers -/

/-- The number of a w-bit field read as signed. -/
def signed (w v : Nat) : Int := if v % 2 ^ w < 2 ^ (w - 1) then (v % 2 ^ w : Nat) else (v % 2 ^ w : Nat) - (2 ^ w : Nat)

/-- A signed number as a w-bit field. -/
def unsigned (w : Nat) (z : Int) : Nat := (z % (2 ^ w : Nat)).toNat

/-- Bits [hi:lo] of a word. -/
def slice (v hi lo : Nat) : Nat := v / 2 ^ lo % 2 ^ (hi + 1 - lo)

/-! Blocks (R133) -/

/-- Sync headers of a data block and of a control block. -/
def hdrData : Fin 4 := 1
def hdrControl : Fin 4 := 2

/-- A sync header is valid. -/
def hdrValid (h : Fin 4) : Bool := h == hdrData || h == hdrControl

/-- The payload of a scrambled block (R133), given the 58 scrambled bits before it, the latest in bit 57: each bit is
added to those 39 and 58 before it. -/
def descramble (scr w : Nat) : Nat :=
  let x := w * 2 ^ 58 + scr
  (w ^^^ (x / 2 ^ 19) ^^^ x) % 2 ^ 64

/-- The last 58 bits of a scrambled block. -/
def scrAfter (w : Nat) : Nat := w / 2 ^ 6 % 2 ^ 58

/-- A payload scrambled (R133): the low 39 bits need only the bits before the block, the others also those. -/
def scramble (scr w : Nat) : Nat :=
  let low := (w ^^^ (scr / 2 ^ 19) ^^^ scr) % 2 ^ 39
  let x := low * 2 ^ 58 + scr
  low + (w ^^^ (x / 2 ^ 19) ^^^ x) / 2 ^ 39 % 2 ^ 25 * 2 ^ 39

/-- The payloads of consecutive blocks, and the scrambled bits after the last. -/
def descrambleAll : Nat → List LineBlock → List Nat × Nat
  | scr, [] => ([], scr)
  | scr, b :: r =>
    let (ws, e) := descrambleAll (scrAfter b.bits.toNat) r
    (descramble scr b.bits.toNat :: ws, e)

/-- Consecutive payloads with their sync headers as the line carries them, and the scrambled bits after the last. -/
def scrambleAll : Nat → List (Fin 4 × Nat) → List LineBlock × Nat
  | scr, [] => ([], scr)
  | scr, (h, w) :: r =>
    let x := scramble scr w
    let (bs, e) := scrambleAll (scrAfter x) r
    ({ hdr := h, bits := BitVec.ofNat 64 x } :: bs, e)

/-- The CRC of a trailer (R140): payload blocks from bit 63 down, then trailer bits [63:48] and [31:0]. -/
def frameCrc (payload : List Nat) (trailer : Nat) : Nat :=
  crc16 (payload.flatMap (bitsMSB 64) ++ bitsMSB 16 (trailer / 2 ^ 48) ++ bitsMSB 32 trailer)

/-! Upstream frames (R135-R138) -/

/-- An upstream frame without its line code: 33 payload blocks and the trailer, and whether block 33 is a control
block (R135). -/
structure UpWords where
  payload : List Nat
  trailer : Nat
  control : Bool
  deriving DecidableEq, Repr

/-- The words of a frame, and the scrambled bits after it. -/
def upWords (scr : Nat) (f : UpFrame) : UpWords × Nat :=
  let (ws, e) := descrambleAll scr f.blocks
  ({ payload := ws.take 33, trailer := ws.getD 33 0,
     control := match f.blocks[33]? with | some b => b.hdr == hdrControl | none => false }, e)

/-- Trailer fields (R138). -/
def UpWords.type (f : UpWords) : Nat := slice f.trailer 63 56
def UpWords.sv (f : UpWords) : Bool := decide (slice f.trailer 55 55 = 1)
def UpWords.lpos (f : UpWords) : Nat := slice f.trailer 54 52
def UpWords.fseq (f : UpWords) : Nat := slice f.trailer 51 48
def UpWords.sb (f : UpWords) : Nat := slice f.trailer 31 0

/-- The frame passes its CRC (R140). -/
def UpWords.crcOk (f : UpWords) : Bool := f.control && decide (frameCrc f.payload f.trailer = slice f.trailer 47 32)

/-- Its trailer has a TYPE of R138. -/
def UpWords.typeOk (f : UpWords) : Bool := decide (f.type = 0xB4) || decide (f.type = 0xB6)

/-- The 132 samples of a beam in a position's payload (R136): `odd` for B(2p+1). -/
def posSamples (payload : List Nat) (odd : Bool) : List Int :=
  payload.flatMap fun w => (List.range 4).map fun i => signed 8 (w / 256 ^ (2 * i + (if odd then 1 else 0)))

/-- 132 invalid samples (R137, R142). -/
def noSamples : List Int := List.replicate 132 (-128)

/-- The samples of a beam from the frames of one FSEQ (R136, R142, R170): invalid where its position has none or where
SV is 0. -/
def UpSet.samples (x : UpSet) (b : Nat) : List Int :=
  match storeFind (fun _ => none) x.parts (b / 2) with
  | some p => if p.sv then posSamples p.payload (b % 2 == 1) else noSamples
  | none => noSamples

/-- The 32 sideband bytes (R138, R152), each with whether its position passed CRC. -/
def UpSet.bytes (x : UpSet) : List (Nat × Bool) :=
  (List.range 8).flatMap fun p =>
    match storeFind (fun _ => none) x.parts p with
    | some y => (List.range 4).map fun j => (y.sb / 256 ^ j % 256, y.ok)
    | none => List.replicate 4 (0, false)

/-- Split sideband bytes into messages (R152, R153): none for one that is discarded. A PAD byte ends them. Where the
MTYPE or LEN of a message did not pass CRC, its end is not known: it is discarded and ends them (log entry 143). -/
def sbSplit : Nat → List (Nat × Bool) → List (Option (List Nat))
  | fuel + 1, (ty, ok) :: (len, lok) :: r =>
    if !ok then [none]
    else if ty = 0 then []
    else if !lok then [none]
    else if len < 2 ∨ r.length + 2 < len then [none]
    else
      let m := ((ty, ok) :: (len, lok) :: r).take len
      (if m.all fun b => b.2 then some (m.map fun b => b.1) else none) :: sbSplit fuel (r.drop (len - 2))
  | _, [(ty, ok)] => if ok && ty == 0 then [] else [none]
  | _, _ => []

/-- The messages of the frames of one FSEQ. -/
def UpSet.messages (x : UpSet) : List (Option (List Nat)) := sbSplit 16 x.bytes

/-! Upstream messages (R154, R155) -/

/-- Bytes o to o + n - 1 of a message as a number, least significant first (R133). -/
def msgField (m : List Nat) (o n : Nat) : Nat := (List.range n).foldr (fun i a => m.getD (o + i) 0 + 256 * a) 0

/-- A report of the companion. -/
inductive UpMsg where
  | servoErr (e : ServoErr)
  | fireMon (segment half : Nat) (power : List Nat)
  | laserMon (power current : Nat) (temp : Int)
  | sled (home far : Bool) (pos : Int)
  | status (b : StatusBody)
  | fireEvent (b : FireEventBody)
  | fireCredit (held0 held1 : Nat) (nacks : List (Fin 2 × Nat))
  | echoRsp (tag turnaround : Nat)
  | ident (b : IdentBody)
  | tableAck (table result offset nbody : Nat)
  | groove (crcOk : Bool) (setting quarter q : Nat)
  deriving DecidableEq, Repr

/-- A number modulo 2 ^ n as an index. -/
def fin2 (v : Nat) : Fin 2 := if v % 2 = 1 then 1 else 0
def fin3 (v : Nat) : Fin 3 := if v = 1 then 1 else if v = 2 then 2 else 0

/-- A message by MTYPE and LEN (R154, R155): none for one that the table does not list. -/
def upMsg (m : List Nat) : Option UpMsg :=
  let u (o n : Nat) : Nat := msgField m o n
  let z (o : Nat) : BitVec 16 := BitVec.ofNat 16 (u o 2)
  match m.getD 0 0, m.length with
  | 0x81, 16 => some (.servoErr {
      sfn := Fin.ofNat 256 (u 2 1), capture := u 3 1 % 2 == 1, laserOn := u 3 1 / 2 % 2 == 1,
      focus := z 4, track := z 6, tilt := z 8, sum := z 10, sa := z 12, rf := z 14 })
  | 0x82, 20 => some (.fireMon (u 2 1) (u 3 1) ((List.range 8).map fun i => u (4 + 2 * i) 2))
  | 0x83, 8 => some (.laserMon (u 2 2) (u 4 2) (signed 16 (u 6 2)))
  | 0x84, 8 => some (.sled (u 2 1 % 2 == 1) (u 2 1 / 2 % 2 == 1) (signed 32 (u 4 4)))
  | 0x85, 24 => some (.status {
      port := fin2 (u 2 1), owner := fin3 (u 3 1), epoch := Fin.ofNat 256 (u 4 1),
      flags := Fin.ofNat 256 (u 5 1), dlCrc := BitVec.ofNat 32 (u 6 4), nonownDrop := Fin.ofNat 65536 (u 10 2),
      eye0w := Fin.ofNat 256 (u 12 1), eye0h := Fin.ofNat 256 (u 13 1), eye1w := Fin.ofNat 256 (u 14 1),
      eye1h := Fin.ofNat 256 (u 15 1), temp := z 16 })
  | 0x86, 12 => some (.fireEvent {
      event := Fin.ofNat 256 (u 2 1), slot := fin2 (u 3 1), setting := u 4 4,
      segment := Fin.ofNat 256 (u 8 1), reason := Fin.ofNat 256 (u 9 1) })
  | 0x87, 16 => some (.fireCredit (u 2 2) (u 4 2)
      ((List.range (min 4 (u 6 1))).map fun i => (fin2 (u (8 + 2 * i) 2 / 2 ^ 15), u (8 + 2 * i) 2 % 2 ^ 11)))
  | 0x88, 6 => some (.echoRsp (u 2 2) (u 4 2))
  | 0x89, 24 => some (.ident {
      port := fin2 (u 2 1), beams := Fin.ofNat 256 (u 3 1), model := Fin.ofNat 65536 (u 4 2),
      fwMajor := Fin.ofNat 256 (u 6 1), fwMinor := Fin.ofNat 256 (u 7 1), serial := BitVec.ofNat 64 (u 8 8) })
  | 0x8A, 8 => some (.tableAck (u 2 1) (u 3 1) (u 4 2) (u 6 1))
  | 0x8B, 12 => some (.groove (u 2 1 % 2 == 1) (u 4 4) (u 8 2) (u 10 1))
  | _, _ => none

/-! Downstream messages (R147, R149) -/

/-- A signed value in a field of w bits at bit n. -/
def sField (w n : Nat) (v : Int) : Nat := unsigned w v * 2 ^ n

/-- The header block's word of a message (R149): MTYPE, NBODY of a bulk message, and the fields of its row. -/
def downHeader : DownMsg → Nat
  | .servo sfn tl fo tr sled =>
    0x01 * 2 ^ 56 + sfn % 16 * 2 ^ 52 + sField 12 40 tl + sField 16 24 fo + sField 16 8 tr + sField 8 0 sled
  | .slow sfn sa => 0x02 * 2 ^ 56 + sfn % 16 * 2 ^ 52 + sField 16 36 sa
  | .laser mode power => 0x03 * 2 ^ 56 + mode % 16 * 2 ^ 52 + power % 2 ^ 12 * 2 ^ 40
  | .park => 0x04 * 2 ^ 56
  | .fireStop immediate => 0x05 * 2 ^ 56 + (if immediate then 2 ^ 55 else 0)
  | .linkMap pos lane => 0x06 * 2 ^ 56 + pos % 16 * 2 ^ 52 + lane % 16 * 2 ^ 48
  | .echo tag => 0x07 * 2 ^ 56 + tag % 2 ^ 16 * 2 ^ 40
  | .fireArm slot setting =>
    0x10 * 2 ^ 56 + slot % 2 * 2 ^ 47 + setting / 2 ^ 18 % 16 * 2 ^ 42 + setting % 2 ^ 18 * 2 ^ 24
  | .fireData slot chunk body => 0x11 * 2 ^ 56 + body.length % 256 * 2 ^ 48 + slot % 2 * 2 ^ 47 + chunk % 2 ^ 11 * 2 ^ 36
  | .pwrTrim segment _ => 0x12 * 2 ^ 56 + 1 * 2 ^ 48 + segment % 2 ^ 7 * 2 ^ 41
  | .tableLoad table layer ring offset body =>
    0x13 * 2 ^ 56 + body.length % 256 * 2 ^ 48 + table % 256 * 2 ^ 40 + layer % 16 * 2 ^ 36 + ring % 32 * 2 ^ 31 + offset % 2 ^ 15 * 2 ^ 16
  | .statusReq => 0x14 * 2 ^ 56

/-- The body blocks of a message (R149). -/
def downBody : DownMsg → List Nat
  | .fireData _ _ body => body
  | .pwrTrim _ trims => [(trims.zipIdx.map fun (t, b) => sField 4 (4 * b) t).sum]
  | .tableLoad _ _ _ _ body => body
  | _ => []

/-- The blocks of a message (R147): the header a control block, the body data blocks. -/
def downBlocks (m : DownMsg) : List (Fin 4 × Nat) :=
  (hdrControl, downHeader m) :: (downBody m).map fun w => (hdrData, w % 2 ^ 64)

/-- FILL (R149). -/
def fillBlock : Fin 4 × Nat := (hdrControl, 0)

/-! Downstream frames (R139, R140) -/

/-- What the trailer of a downstream frame carries beside FSEQ and CRC (R139). -/
structure DownTrailer where
  own : Bool
  side : Nat
  shelf : Nat
  epoch : Nat
  deriving DecidableEq, Repr

/-- The trailer of a frame without its CRC. -/
def downTrailer (fseq : Nat) (x : DownTrailer) : Nat :=
  0xB5 * 2 ^ 56 + fseq % 16 * 2 ^ 48 + (if x.own then 2 ^ 31 else 0) + x.side % 2 * 2 ^ 30 + x.shelf % 64 * 2 ^ 24 + x.epoch % 256 * 2 ^ 16

/-- One frame (R135, R139, R140): 33 blocks of the message stream, FILL where it has none, and the trailer. -/
def downFrame (x : DownTrailer) (d : DlSt) (blocks : List (Fin 4 × Nat)) : DlSt :=
  let body := (blocks ++ List.replicate 33 fillBlock).take 33
  let tr := downTrailer d.fseq x
  let tr := tr + frameCrc (body.map fun b => b.2) tr * 2 ^ 32
  let (line, e) := scrambleAll d.scr (body ++ [(hdrControl, tr)])
  { d with fseq := (d.fseq + 1) % 16, scr := e, sent := d.sent ++ [line] }

/-- The frames of some blocks of the message stream, 33 to a frame (R147); one frame of FILL for none. -/
def downFrames (x : DownTrailer) : Nat → DlSt → List (Fin 4 × Nat) → DlSt
  | 0, d, _ => d
  | fuel + 1, d, blocks =>
    let t := downFrame x d blocks
    if blocks.length ≤ 33 then t else downFrames x fuel t (blocks.drop 33)

/-! TRAIN blocks (R163) -/

/-- A TRAIN block: link lane, STEP, the lane in the reverse direction and the preset asked for on it, the preset in use
here. -/
def trainBlock (lane step rev ask use : Nat) : Nat :=
  let b := 0xB8 * 2 ^ 56 + lane % 16 * 2 ^ 52 + step % 16 * 2 ^ 48 + rev % 16 * 2 ^ 28 + ask % 16 * 2 ^ 24 + use % 16 * 2 ^ 20
  b + frameCrc [] b * 2 ^ 32

/-- A TRAIN block with its TYPE and a good CRC. -/
def trainOk (w : Nat) : Bool := decide (slice w 63 56 = 0xB8) && decide (frameCrc [] w = slice w 47 32)

/-- Its fields. -/
def trainLane (w : Nat) : Nat := slice w 55 52
def trainStep (w : Nat) : Nat := slice w 51 48
def trainRev (w : Nat) : Nat := slice w 31 28
def trainAsk (w : Nat) : Nat := slice w 27 24

end Sys2Proof.Machine
end

