-- ==== Sys2Proof/Machine/Ops.lean ====
section
/-!
DEFINITION. The named operations that every chapter uses: reading and updating register fields,
counters that saturate (R54), interrupt bits (R13, R56), page state and the change counter (R58),
events (R592), outputs, bits and signed numbers.
-/
namespace Sys2Proof.Machine

/-! Outcomes -/

/-- The outcome of a command that completes. -/
abbrev Res := Host.Outcome State Fault Refusal

/-! Numbers -/

/-- Bit n of a number. -/
def bitOf (v n : Nat) : Bool := v / 2 ^ n % 2 = 1

/-- 1 for true. -/
def boolNat (b : Bool) : Nat := if b then 1 else 0

/-- The number with bit n set or cleared. -/
def setBit (v n : Nat) (b : Bool) : Nat :=
  if b then (if bitOf v n then v else v + 2 ^ n) else (if bitOf v n then v - 2 ^ n else v)

/-- Bits [hi:lo] of a number. -/
def bitsOf (v hi lo : Nat) : Nat := v / 2 ^ lo % 2 ^ (hi + 1 - lo)

/-- How many of the lowest n bits are set. -/
def popCount : Nat → Nat → Nat
  | 0, _ => 0
  | n + 1, v => boolNat (bitOf v n) + popCount n v

/-- Saturating addition at a top value. -/
def addSat (top a b : Nat) : Nat := min top (a + b)

/-- A field given a range acts as the nearer bound outside it. -/
def clampNat (lo hi v : Nat) : Nat := max lo (min hi v)

/-- A signed value held between bounds. -/
def clampInt (lo hi v : Int) : Int := max lo (min hi v)

/-- The bytes of a number, least significant first (R8). -/
def bytesLE : Nat → Nat → List Nat
  | 0, _ => []
  | n + 1, v => v % 256 :: bytesLE n (v / 256)

/-- The number of a list of bytes, least significant first. -/
def ofBytesLE : List Nat → Nat
  | [] => 0
  | b :: bs => b % 256 + 256 * ofBytesLE bs

/-- The 32-bit words of a list of bytes, four at a time; a short last word is padded with zeros. -/
def wordsLE : List Nat → List Nat
  | a :: b :: c :: d :: r => ofBytesLE [a, b, c, d] :: wordsLE r
  | [] => []
  | [a] => [ofBytesLE [a]]
  | [a, b] => [ofBytesLE [a, b]]
  | [a, b, c] => [ofBytesLE [a, b, c]]

/-- Zero bytes added up to a multiple of 8 (R604). -/
def padTo8 (bs : List Nat) : List Nat := bs ++ List.replicate ((8 - bs.length % 8) % 8) 0

/-- Change the n-th entry of a list. -/
def listSet {α : Type} : List α → Nat → α → List α
  | [], _, _ => []
  | _ :: r, 0, v => v :: r
  | a :: r, n + 1, v => a :: listSet r n v

/-! Register fields -/

/-- The value of a field's copy (R54 and the pages' tables). -/
def State.fld (s : State) (base : Nat) (f : Fld) (i : Nat := 0) : Nat :=
  storeFind regDefault s.regs (fldKey base f i)

/-- Set a field's copy, as hardware does; the value is cut to the field's width. -/
def State.setFld (s : State) (base : Nat) (f : Fld) (v : Nat) (i : Nat := 0) : State :=
  { s with regs := storePut regDefault s.regs (fldKey base f i) (v % 2 ^ f.width) }

/-- A one-bit field read as a Bool. -/
def State.flag (s : State) (base : Nat) (f : Fld) (i : Nat := 0) : Bool := decide (s.fld base f i = 1)

/-- Set a one-bit field. -/
def State.setFlag (s : State) (base : Nat) (f : Fld) (b : Bool) (i : Nat := 0) : State :=
  s.setFld base f (boolNat b) i

/-- A field read as signed. -/
def State.fldS (s : State) (base : Nat) (f : Fld) (i : Nat := 0) : Int := signed f.width (s.fld base f i)

/-- Set a field from a signed value. -/
def State.setFldS (s : State) (base : Nat) (f : Fld) (z : Int) (i : Nat := 0) : State :=
  s.setFld base f (unsigned f.width z) i

/-- A field given a range, as it acts (the nearer bound outside it). -/
def State.fldIn (s : State) (base : Nat) (f : Fld) (lo hi : Nat) (i : Nat := 0) : Nat :=
  clampNat lo hi (s.fld base f i)

/-- The value in force of a configuration field whose write takes effect later: at the next servo frame, speed tick, setting
boundary, MOVE or link restart (R322, R355, R420, R502). -/
def State.cfg (s : State) (base : Nat) (f : Fld) (i : Nat := 0) : Nat :=
  match storeFind (fun _ => none) s.ce.held (fldKey base f i) with
  | some v => v
  | none => s.fld base f i
def State.cfgIn (s : State) (base : Nat) (f : Fld) (lo hi : Nat) : Nat := clampNat lo hi (s.cfg base f)

/-- Keep a field's old value in force. -/
def State.holdCfg (s : State) (base : Nat) (f : Fld) (old : Nat) (i : Nat := 0) : State :=
  let k := fldKey base f i
  if (storeFind (fun _ => none) s.ce.held k).isSome then s
  else { s with ce := { s.ce with held := storePut (fun _ => none) s.ce.held k (some old) } }

/-- What was written to the configuration of a page, or of `len` bytes of one, takes effect. -/
def State.applyCfg (s : State) (base : Nat) (len : Nat := 0x1000) : State :=
  { s with ce := { s.ce with held := s.ce.held.filter fun e => !(decide (base * 32 ≤ e.1) && decide (e.1 < (base + len) * 32)) } }

/-- A counter counts and saturates (R54 and the pages' counters). -/
def State.count (s : State) (base : Nat) (f : Fld) (n : Nat := 1) (i : Nat := 0) : State :=
  s.setFld base f (addSat (2 ^ f.width - 1) (s.fld base f i) n) i

/-- A counter counts and wraps. -/
def State.countWrap (s : State) (base : Nat) (f : Fld) (n : Nat := 1) : State :=
  s.setFld base f (s.fld base f + n)

/-- A peak field keeps the larger value. -/
def State.peak (s : State) (base : Nat) (f : Fld) (v : Nat) (i : Nat := 0) : State :=
  s.setFld base f (max v (s.fld base f i)) i

/-- The word that the fields at an address hold, without what a read computes. -/
def State.plainWord (s : State) (a : Nat) : Nat :=
  ((fieldsAt a).map fun x => s.fld x.base x.fld x.idx * 2 ^ x.fld.lsb).sum

/-- Set bit n of a field. -/
def State.setFldBit (s : State) (base : Nat) (f : Fld) (n : Nat) (b : Bool) (i : Nat := 0) : State :=
  s.setFld base f (setBit (s.fld base f i) n b) i

/-- Bit n of a field. -/
def State.fldBit (s : State) (base : Nat) (f : Fld) (n : Nat) (i : Nat := 0) : Bool :=
  bitOf (s.fld base f i) n

/-- Bit n of a pair of words LO and HI. -/
def State.pairBit (s : State) (base : Nat) (lo hi : Fld) (n : Nat) : Bool :=
  if n < 32 then s.fldBit base lo n else s.fldBit base hi (n - 32)

/-- Set bit n of a pair of words LO and HI. -/
def State.setPairBit (s : State) (base : Nat) (lo hi : Fld) (n : Nat) (b : Bool) : State :=
  if n < 32 then s.setFldBit base lo n b else s.setFldBit base hi (n - 32) b

/-- Set a pair of words LO and HI from one number. -/
def State.setPair (s : State) (base : Nat) (lo hi : Fld) (v : Nat) : State :=
  (s.setFld base lo v).setFld base hi (v / 2 ^ 32)

/-- A pair of words LO and HI as one number. -/
def State.pair (s : State) (base : Nat) (lo hi : Fld) : Nat := s.fld base lo + 2 ^ 32 * s.fld base hi

/-! Window words -/

/-- A 32-bit word of a window (R69, R70). -/
def State.word (s : State) (a : Nat) : Nat := storeFind wordDefault s.words a

/-- Set a 32-bit word of a window. -/
def State.setWord (s : State) (a v : Nat) : State :=
  { s with words := storePut wordDefault s.words a (v % 2 ^ 32) }

/-- Set consecutive words of a window. -/
def State.setWords (s : State) (a : Nat) : List Nat → State
  | [] => s
  | v :: r => (s.setWord a v).setWords (a + 4) r

/-- Read n consecutive words of a window. -/
def State.wordsFrom (s : State) : Nat → Nat → List Nat
  | _, 0 => []
  | a, n + 1 => s.word a :: s.wordsFrom (a + 4) n

/-- A byte of a window. -/
def State.winByte (s : State) (a : Nat) : Nat := s.word (a / 4 * 4) / 2 ^ (8 * (a % 4)) % 256

/-! Pages -/

/-- Set a PG_ISTAT bit (R13: a set wins over a clear of the same bus event). -/
def State.istat (s : State) (base n : Nat) : State := s.setFldBit base HDR.ISTAT n true

/-- Change a field of PG_STATE: PG_SEQ counts each change (R58), and a change of READY sets READY_CHG. -/
def State.setPg (s : State) (base : Nat) (f : Fld) (v : Nat) : State :=
  if s.fld base f = v % 2 ^ f.width then s
  else
    let t := (s.setFld base f v).countWrap base HDR.PG_SEQ
    if f = HDR.READY then t.istat base 0 else t

/-- READY of a page. -/
def State.ready (s : State) (base : Nat) : Bool := s.flag base HDR.READY

/-- Set bit n of a RDY field; PG_ISTAT bit 8 shows a change (R64). -/
def State.setRdyBit (s : State) (f : Fld) (n : Nat) (b : Bool) : State :=
  if s.fldBit rdyPage f n = b then s else (s.setFldBit rdyPage f n b).istat rdyPage 8

/-- RDY bits of a wheel (R64, R65): at speed, and its clamp sense high, while READY of its page reads 1. -/
def State.wheelRdy (s : State) (w : Nat) : State :=
  let b := wheelPage w
  (s.setRdyBit RDY.WHEEL_SPEED w (s.ready b && s.flag b WHEEL.WH_STAT_AT_SPEED)).setRdyBit RDY.WHEEL_CLAMPED w
    (s.ready b && s.flag b WHEEL.WH_STAT_CLAMP_SNS)

/-- Members of a lane, of 32 bits in 4 lanes. -/
def lanePop (v lane : Nat) : Nat := popCount 8 (v / 2 ^ (8 * lane))

/-- RDY bits of a lane (R28, R64, R65): six members ready, and all eight, while READY of STRIPE reads 1. -/
def State.laneRdy (s : State) (lane : Nat) : State :=
  let n := lanePop (s.fld stripePage STRIPE.MEMBER_OK) lane
  (s.setRdyBit RDY.LANE_IO lane (s.ready stripePage && decide (6 ≤ n))).setRdyBit RDY.LANE_FULL lane
    (s.ready stripePage && decide (n = 8))

/-- Set or clear READY of a page; the RDY bits of wheels and lanes follow (R65; log entry 54). -/
def State.setReady (s : State) (base : Nat) (b : Bool) : State :=
  let t := s.setPg base HDR.READY (boolNat b)
  if s.ready base = b then t
  else if base = stripePage then (List.range 4).foldl State.laneRdy t
  else match (List.range 9).find? fun w => decide (wheelPage w = base) with
    | some w => t.wheelRdy w
    | none => t

/-- All masked RDY_SYS bits read 1 (R64); a masked bit that is reserved reads 0. -/
def State.summary (s : State) : Bool :=
  let m := s.fld rdyPage RDY.SUMMARY_MASK
  let bits := [s.fld rdyPage RDY.FW_VERIFIED, s.fld rdyPage RDY.MC_RUN, s.fld rdyPage RDY.PORT_M,
    s.fld rdyPage RDY.HBM0_TRAINED, s.fld rdyPage RDY.HBM1_TRAINED, s.fld rdyPage RDY.HBM0_FILLED,
    s.fld rdyPage RDY.HBM1_FILLED, s.fld rdyPage RDY.ADMIN, s.fld rdyPage RDY.PORT_P0,
    s.fld rdyPage RDY.PORT_P1, s.fld rdyPage RDY.PORT_T, s.fld rdyPage RDY.CE_LOADED,
    s.fld rdyPage RDY.TWIN_PAIRED, s.fld rdyPage RDY.JOURNAL_REPLAYED, s.fld rdyPage RDY.CATALOGUE,
    s.fld rdyPage RDY.DOMAIN, s.fld rdyPage RDY.LOADER_HOMED, s.fld rdyPage RDY.ELEVATOR_HOMED,
    s.fld rdyPage RDY.STEBARO]
  (List.range 32).all fun n => !bitOf m n || bits.getD n 0 == 1

/-- The downstream direction of a head at reset, and of head h. -/
def DlSt.start : DlSt := { fseq := 0, scr := 0, sent := [], train := [], presets := [] }
def State.dl (s : State) (h : Nat) : DlSt := storeFind (fun _ => DlSt.start) s.dls h
def State.setDl (s : State) (h : Nat) (x : DlSt) : State := { s with dls := storePut (fun _ => DlSt.start) s.dls h x }

/-- What this controller's trailers to a head say (R139). -/
def State.trailerOf (s : State) (h : Nat) : DownTrailer :=
  { own := s.flag (headPage h) HEAD.LINK_STAT_OWN_TX, side := s.fld chipPage CHIP.SIDE, shelf := s.fld chipPage CHIP.SHELF_ID,
    epoch := (s.tw.table.getD h (255, 0)).2 }

/-- Frames go to a companion from T2 on (R163), but from a controller in reset (R164). -/
def State.framesGo (s : State) (h : Nat) : Bool :=
  let n := s.fld (headPage h) HEAD.LINK_STAT_STATE
  decide (3 ≤ n ∧ n ≤ 7) && decide (s.svc.held = .no)

/-- The frames after some blocks of the message stream of a head have gone out (R135, R147, log entry 144). -/
def State.dlAfter (s : State) (h : Nat) (blocks : List (Fin 4 × Nat)) : Store DlSt :=
  if s.framesGo h then storePut (fun _ => DlSt.start) s.dls h (downFrames (s.trailerOf h) (blocks.length + 1) (s.dl h) blocks)
  else s.dls

/-- An output; a downstream message also goes out in frames. -/
def State.send (s : State) (o : Out) : State :=
  { s with
    out := s.out ++ [o],
    dls := match o with
      | .down h m => s.dlAfter h (downBlocks m)
      | _ => s.dls }

/-- A frame of FILL shows what the trailer now says (R139). -/
def State.sendFill (s : State) (h : Nat) : State := { s with dls := s.dlAfter h [] }

/-- This controller sends OWN = 1 to a head, or 0 (R139): never while the link trains (R163) or is miswired (R162). -/
def State.setOwnTx (s : State) (h : Nat) (b : Bool) : State :=
  let n := s.fld (headPage h) HEAD.LINK_STAT_STATE
  let v := b && !decide (1 ≤ n ∧ n ≤ 4) && decide (n ≠ 7)
  if s.flag (headPage h) HEAD.LINK_STAT_OWN_TX = v then s
  else (s.setFlag (headPage h) HEAD.LINK_STAT_OWN_TX v).sendFill h

/-- Raise an event: it waits for the recorder (R592). -/
def State.raise (s : State) (e : Event) : State :=
  { s with recd := { s.recd with raised := s.recd.raised ++ [{ e with time := s.now }] } }

/-- Raise an event of a page's object: level, block and ARG0 follow from the page (R33, R592, R593). -/
def State.event (s : State) (base code sev : Nat) (cell : Nat := 0xFF) (arg1 : Nat := 0)
    (data : List Nat := []) : State :=
  match pageAt base with
  | some p => s.raise { code := code, sev := sev, level := p.kind.level, block := p.place.2, cell := cell,
                        arg0 := base, arg1 := arg1 % 2 ^ 32, data := padTo8 data, time := 0 }
  | none => s.raise { code := code, sev := sev, level := 3, block := 0xFF, cell := cell, arg0 := base,
                      arg1 := arg1 % 2 ^ 32, data := padTo8 data, time := 0 }

/-- SUMMARY has risen (R64): PG_ISTAT bit 9, and event 0x8601 the first time (R563). -/
def State.summaryRose (s : State) : State :=
  let t := s.istat rdyPage 9
  if t.arb.summarySeen then t
  else State.event { t with arb := { t.arb with summarySeen := true } } rdyPage 0x8601 1

/-- The RDY_SYS bits that wait for READY of their page. -/
def State.setCut (s : State) (ns : List Nat) : State := { s with arb := { s.arb with cut := ns } }

/-- Set a RDY bit (R64): bit 8 of PG_ISTAT on a change, bit 9 when SUMMARY sets. -/
def State.setRdy (s : State) (f : Fld) (b : Bool) : State :=
  let s := s.setCut (s.arb.cut.filter fun n => decide (n ≠ f.lsb))
  if s.fld rdyPage f = boolNat b then s
  else
    let t := (s.setFlag rdyPage f b).istat rdyPage 8
    if !s.summary && t.summary then t.summaryRose else t

/-- The page that owns the function of each RDY_SYS bit (R65; log entry 54); FW_VERIFIED has none. -/
def rdyOwners : List (Nat × Fld) :=
  [(mcPage, RDY.MC_RUN), (ethPage 3, RDY.PORT_M), (hbmPage 0, RDY.HBM0_TRAINED), (hbmPage 1, RDY.HBM1_TRAINED),
   (hbmPage 0, RDY.HBM0_FILLED), (hbmPage 1, RDY.HBM1_FILLED), (nvmePage, RDY.ADMIN), (ethPage 0, RDY.PORT_P0),
   (ethPage 1, RDY.PORT_P1), (ethPage 2, RDY.PORT_T), (ctrlengPage, RDY.CE_LOADED), (twPage, RDY.TWIN_PAIRED),
   (journalPage, RDY.JOURNAL_REPLAYED), (stripePage, RDY.CATALOGUE), (tePage, RDY.DOMAIN),
   (loaderPage, RDY.LOADER_HOMED), (kickPage, RDY.ELEVATOR_HOMED), (stebaroPage, RDY.STEBARO)]

/-- A RDY_SYS bit clears with READY of its page, and returns with it (R65). -/
def State.settleBit (s : State) (x : Nat × Fld) : State :=
  if s.ready x.1 then (if s.arb.cut.contains x.2.lsb then s.setRdy x.2 true else s)
  else if s.flag rdyPage x.2 then
    ((s.setFlag rdyPage x.2 false).istat rdyPage 8).setCut (x.2.lsb :: s.arb.cut)
  else s

/-- Every RDY_SYS bit agrees with its page (R65). -/
@[irreducible] def State.settle (s : State) : State := rdyOwners.foldl State.settleBit s

/-- A command that completes with the state `s`, its readiness bits settled. -/
def done (s : State) : Res := .next s.settle

/-- A milestone's time is kept the first time only (R64). -/
def State.milestone (s : State) (n : Nat) : State :=
  if s.fld rdyPage RDY.RDY_TIME n = 0xFFFFFFFF then s.setFld rdyPage RDY.RDY_TIME (min (s.now / 1000) 0xFFFFFFFE) n
  else s

/-- A page's last error (R54, R57). -/
def State.lastErr (s : State) (base code cls cell : Nat) : State :=
  (((s.setFld base HDR.LAST_ERR_CODE code).setFld base HDR.LAST_ERR_CLASS cls).setFld base
    HDR.LAST_ERR_CELL cell).setFld base HDR.LAST_ERR_VALID 1

/-- An access refusal recorded on a page (R57, R60). -/
def State.refuse (s : State) (base cls : Nat) : State := (s.istat base 6).lastErr base 0 cls 0xFF

/-- A corrected error of a page. -/
def State.corrected (s : State) (base code cell : Nat) : State :=
  ((s.count base HDR.PG_ECNT_C).istat base 1).lastErr base code 1 cell

/-- An uncorrected error of a page. -/
def State.uncorrected (s : State) (base code cell : Nat) : State :=
  ((s.count base HDR.PG_ECNT_U).istat base 2).lastErr base code 2 cell

/-- Apply an update for each element of a list, in order. -/
def State.forEach {α : Type} (s : State) (xs : List α) (f : State → α → State) : State := xs.foldl f s

/-- A page's object takes new work: it is enabled, not quiescing and not isolated (R50, R54). -/
def State.accepts (s : State) (base : Nat) : Bool :=
  s.flag base HDR.ENABLE && !s.flag base HDR.QUIESCE && !s.flag base HDR.ISOLATE

/-! The work of MC (R585, R586) -/

/-- MC has work of priority 1: hold-up, or a handover of tokens. -/
def State.mcOwnership (s : State) : Bool := s.fire.holdup || decide (s.fld twPage TW.TW_STAT_STATE = 6)

/-- MC has work of priority 2: an admin command that has arrived and not begun. -/
def State.mcAdmin (s : State) : Bool :=
  s.host.ctxs.any fun x => decide (x.work = .fresh) && match storeFind (fun _ => none) s.host.conns x.conn with
    | some k => decide (k.qid = 0) && k.assoc.isSome
    | none => false

/-- Work of priority 5, self-test, craze patrol and scrub permits, may start: nothing of a higher priority waits, and MC is
not in overload (R585, R586, log entry 151). -/
def State.mcSpare (s : State) : Bool := !s.flag mcPage MC.MC_STAT_OVERLOAD && !s.mcOwnership && !s.mcAdmin

/-! Completions and notices of the host engine (R463, R464, R480, R499) -/

/-- Change the host engine's state; connections, associations. -/
def State.setHost (s : State) (x : HostSt) : State := { s with host := x }
def State.conn (s : State) (c : Nat) : Option Conn := storeFind (fun _ => none) s.host.conns c
def State.setConn (s : State) (c : Nat) (x : Option Conn) : State :=
  s.setHost { s.host with conns := storePut (fun _ => none) s.host.conns c x }
def State.assoc (s : State) (a : Nat) : Option Assoc := storeFind (fun _ => none) s.host.assocs a
def State.setAssoc (s : State) (a : Nat) (x : Option Assoc) : State :=
  s.setHost { s.host with assocs := storePut (fun _ => none) s.host.assocs a x }

/-- The association of a connection. -/
def State.assocOf (s : State) (c : Nat) : Option Assoc := (s.conn c).bind fun k => k.assoc.bind s.assoc

/-- The controller ID of a connection's association (R466); 0 for none. -/
def State.cntlid (s : State) (c : Nat) : Nat :=
  match (s.conn c).bind fun k => k.assoc with
  | some a => s.fld chipPage CHIP.SIDE * 0x100 + a
  | none => 0

/-- Connections that are I/O queues. -/
def State.ioConns (s : State) : List Nat :=
  (s.host.conns.filter fun e => match e.2 with
    | some k => decide (k.qid ≠ 0)
    | none => false).map fun e => e.1

/-- The context of a command. -/
def State.ctx (s : State) (c cid : Nat) : Option Ctx := s.host.ctxs.find? fun x => decide (x.conn = c) && decide (x.cid = cid)

/-- Change the context of a command. -/
def State.setCtx (s : State) (x : Ctx) : State :=
  s.setHost { s.host with ctxs := s.host.ctxs.map fun y => if y.conn = x.conn ∧ y.cid = x.cid then x else y }

/-- Contexts that a connection holds. -/
def State.queueCtx (s : State) (c : Nat) : Nat := (s.host.ctxs.filter fun x => decide (x.conn = c)).length

/-- The engine takes work and a context is free for a connection (R464): one of its reserved ones, or a shared one. -/
def State.ctxRoom (s : State) (c : Nat) : Bool :=
  let own := s.fldIn nvmePage NVME.CTX_CFG_CTX_MIN 0 32
  let ios := s.ioConns
  let used := (ios.map fun q => s.queueCtx q - own).sum + (s.host.ctxs.filter fun x => !ios.contains x.conn).length
  s.accepts nvmePage && ((ios.contains c && decide (s.queueCtx c < own)) || decide (used < 16384 - own * ios.length))

/-- CTX follows the contexts in use. -/
def State.ctxShow (s : State) : State :=
  let n := s.host.ctxs.length
  (s.setFld nvmePage NVME.CTX_IN_USE n).peak nvmePage NVME.CTX_PEAK n

/-- A capsule takes a context. -/
def State.takeCtx (s : State) (c cid : Nat) (data : List Nat) : State :=
  let x : Ctx := { conn := c, cid := cid, op := 0, work := .fresh, data := data, since := s.now, gone := 0 }
  State.ctxShow (s.setHost { s.host with ctxs := s.host.ctxs ++ [x] })

/-- A stopped connection takes the capsule in its window once a context is free. -/
def State.resumeConn (s : State) (c : Nat) : State :=
  match s.conn c with
  | none => s
  | some k => match k.window with
    | [] => s
    | (cid, data) :: r =>
      if s.ctxRoom c then (s.setConn c (some { k with window := r, stopped := !r.isEmpty })).takeCtx c cid data else s

/-- Every stopped connection, in order; the episode of R464 ends with the last. -/
def State.resumeConns (s : State) : State :=
  let t := s.forEach (s.host.conns.map fun e => e.1) State.resumeConn
  let stopped := t.host.conns.any fun e => match e.2 with
    | some k => k.stopped
    | none => false
  t.setHost { t.host with exhausted := t.host.exhausted && stopped }

/-- Free a context. -/
def State.dropCtx (s : State) (c cid : Nat) : State :=
  (s.setHost { s.host with ctxs := s.host.ctxs.filter fun x => !(decide (x.conn = c) && decide (x.cid = cid)) }).ctxShow.resumeConns

/-- The counters of R503 for a completion status. -/
def State.countStatus (s : State) (st : NvStatus) : State :=
  match st with
  | .ok => s
  | .notReady _ => s.count nvmePage NVME.NS_NOT_READY
  | .anaTransition | .anaInaccessible => s.count nvmePage NVME.ANA_REFUSED
  | _ => s.count nvmePage NVME.CMD_ERR

/-- The same status with CRD 0, for a host that has not enabled ACRE (R480). -/
def plainStatus : NvStatus → NvStatus
  | .notReady _ => .notReady 0
  | .interrupted _ => .interrupted 0
  | st => st

/-- Complete a command: its context is free once the completion is sent (R464). One that was taken from
its host sends none (R497). -/
def State.complete (s : State) (c cid : Nat) (st : NvStatus) (dw0 : Nat := 0) (data : List Nat := []) : State :=
  match s.ctx c cid with
  | none => s
  | some x =>
    if x.gone ≠ 0 then s.dropCtx c cid
    else
      let acre : Bool := match s.assocOf c with
        | some a => a.acre
        | none => false
      let st := if acre then st else plainStatus st
      let t := s.countStatus st
      let t := if x.op = 1 then t.count nvmePage NVME.CMD_RD else if x.op = 2 then t.count nvmePage NVME.CMD_WR else t
      (t.send (.cqe c cid st dw0 data)).dropCtx c cid

/-- The bit of Asynchronous Event Configuration that enables a notice (log entry 40); vendor events have none. -/
def Notice.aecBit : Notice → Option Nat
  | .nsAttr => some 8
  | .fwAct => some 9
  | .ana => some 11
  | .zoneDesc => some 27
  | .discLog => some 31
  | .load | .health | .c2h => none

/-- Post a notice to an association: an Asynchronous Event Request that it holds completes with it, or it
waits for one (R499). -/
def State.noticeTo (s : State) (n : Notice) (a : Nat) : State :=
  match s.assoc a with
  | none => s
  | some x =>
    let on : Bool := match n.aecBit with
      | some b => bitOf x.aec b
      | none => true
    -- a discovery association hears of the discovery log alone (R555)
    if !on || x.disc != decide (n = .discLog) then s
    else match x.aers with
      | (c, cid) :: r => ((s.setAssoc a (some { x with aers := r })).send (.aen c cid n)).dropCtx c cid
      | [] => if x.pend.contains n then s else s.setAssoc a (some { x with pend := x.pend ++ [n] })

/-- Post a notice to every association that enables it. -/
def State.notice (s : State) (n : Notice) : State := s.forEach (s.host.assocs.map fun e => e.1) fun u a => u.noticeTo n a

/-- A page reads DEGRADED or RETIRED: its health entry reads 3 or 4 (R488, R499). -/
def State.worsen (s : State) (base : Nat) (f : Fld) : State :=
  if s.flag base f then s else (s.setPg base f 1).notice .health

/-- The ANA state of a namespace on this controller (R482): a change posts a notice and 0x6106. -/
def State.ana (s : State) (ns : Nat) : Nat := s.fld nvmePage NVME.ANA_STATE ((ns - 1) / 8) / 16 ^ ((ns - 1) % 8) % 16
def State.setAna (s : State) (ns v : Nat) : State :=
  let old := s.ana ns
  if old = v then s
  else
    let w := s.fld nvmePage NVME.ANA_STATE ((ns - 1) / 8)
    let p := 16 ^ ((ns - 1) % 8)
    let t := s.setFld nvmePage NVME.ANA_STATE (w - old * p + v * p) ((ns - 1) / 8)
    ((t.istat nvmePage 9).event nvmePage 0x6106 2 0xFF ns).notice .ana

/-- A spare consumed on a page (R54): SPARES_USED and SPARES_LEFT move, SPARE_USED is set, and
SPARE_EXH with the last one. -/
def State.useSpare (s : State) (base : Nat) : State :=
  let left := s.fld base HDR.SPARES_LEFT
  let t := ((s.setFld base HDR.SPARES_USED (s.fld base HDR.SPARES_USED + 1)).setFld base HDR.SPARES_LEFT (left - 1)).countWrap
    base HDR.PG_SEQ
  let t := t.istat base 3
  if left = 1 then (t.istat base 4).notice .health else t

/-- The next free value (log entry 2). -/
def State.free (s : State) : Nat × State := (Config.freeValue s.freeCount, { s with freeCount := s.freeCount + 1 })

/-! Fault reports (R47, R49) -/

def State.setFlt (s : State) (x : FaultSt) : State := { s with flt := x }
def State.blockReports (s : State) (r b : Nat) : List FaultReport := storeFind (fun _ => []) s.flt.blocks (64 * r + b)
def State.setBlockReports (s : State) (r b : Nat) (xs : List FaultReport) : State :=
  s.setFlt { s.flt with blocks := storePut (fun _ => []) s.flt.blocks (64 * r + b) xs }
def State.regionReports (s : State) (r : Nat) : List UpReport := storeFind (fun _ => []) s.flt.regions r
def State.setRegionReports (s : State) (r : Nat) (xs : List UpReport) : State :=
  s.setFlt { s.flt with regions := storePut (fun _ => []) s.flt.regions r xs }

/-- A report passes up to the region. -/
def State.passUp (s : State) (r b cell : Nat) (whole : Bool) : State :=
  s.setRegionReports r (s.regionReports r ++ [{ region := r, block := b, cell := cell, whole := whole }])

/-- CHIP.STATE: a change sets bit 8 of PG_ISTAT (R62). -/
def State.chipState (s : State) (n : Nat) : State :=
  if s.fld chipPage CHIP.STATE = n then s else (s.setFld chipPage CHIP.STATE n).istat chipPage 8

/-- Powered seconds in total (R576, R589), and what xSPI memory last got of them. -/
def State.poweredS (s : State) : Nat := s.svc.powered + s.now / 1000000000
def State.savePowered (s : State) : State := { s with svc := { s.svc with poweredXspi := s.poweredS } }

/-- ALERT_N is low (R628). -/
def State.alert (s : State) : Bool :=
  decide (s.fld chipPage CHIP.STATE = 6) || decide (s.fldS chipPage CHIP.TEMP_ALARM ≤ s.fldS chipPage CHIP.DIE_TEMP) || decide (s.svc.held = .thermal)

/-- Whether this controller owns a page's object (R54). -/
def State.owned (s : State) (base : Nat) : Bool := s.flag base HDR.OWN_SELF

/-! Paths -/

/-- A path's number: MC 0, the host admin path 1, session i 2 + i. -/
def pathKey : Path → Nat
  | .mc => 0
  | .host => 1
  | .steb i => 2 + i.val

/-- A session, if open. -/
def State.session (s : State) (i : Nat) : Option Session := storeFind (fun _ => none) s.sess i

/-- Set a session. -/
def State.setSession (s : State) (i : Nat) (x : Option Session) : State :=
  { s with sess := storePut (fun _ => none) s.sess i x }

/-- Trust lock applied (R62). -/
def State.trustLocked (s : State) : Bool := s.flag chipPage CHIP.TRUST_LOCKED

end Sys2Proof.Machine
end

