-- ==== Sys2Proof/Machine/HbmWords.lean ====
section
/-!
DEFINITION. The words of HBM (R423, R424, R427, R435, R440, R441), and the writes of the blocks that
own the fixed areas of R424.
-/
namespace Sys2Proof.Machine

def State.setMem (s : State) (m : MemSt) : State := { s with mem := m }

/-- The first page and first address of the retirement reserve. -/
def reservePage : Nat := 15872
def reserveBase : Nat := reservePage * 2 ^ 21

/-- The entry of the retirement table that maps a page, if any. -/
def State.retirementOf (s : State) (page : Nat) : Option Nat := s.mem.retired.findIdx? fun e => e == some page

/-- The address after retirement translation (R435). -/
def State.translate (s : State) (a : Nat) : Nat :=
  match s.retirementOf (a / 2 ^ 21) with
  | some k => (reservePage + k) * 2 ^ 21 + a % 2 ^ 21
  | none => a

def MWord.zero : MWord := { val := 0, poison := false }

/-- A physical 64-bit word of HBM; zero where nothing was written since the fill (R427). -/
def State.memWord (s : State) (w : Nat) : MWord := storeFind (fun _ => MWord.zero) s.mem.words w

def State.setMemWord (s : State) (w : Nat) (x : MWord) : State :=
  s.setMem { s.mem with words := storePut (fun _ => MWord.zero) s.mem.words w x }

/-- A write of `bs` from byte `o` on, in the word at byte `lo`: bytes outside keep their value; a write
of the whole word clears its poison, a narrower one leaves it (R440, R441). -/
def mergeWord (x : MWord) (lo o : Nat) (bs : List Nat) : MWord :=
  let byte (j : Nat) : Nat :=
    if o ≤ lo + j ∧ lo + j < o + bs.length then bs.getD (lo + j - o) 0 % 256 else x.val / 2 ^ (8 * j) % 256
  let whole := decide (o ≤ lo) && decide (lo + 8 ≤ o + bs.length)
  { val := ofBytesLE ((List.range 8).map byte), poison := x.poison && !whole }

/-- A write in a line. -/
def mergeLine (ws : List MWord) (o : Nat) (bs : List Nat) : List MWord :=
  ws.zipIdx.map fun (x, i) => mergeWord x (8 * i) o bs

/-! The fixed areas (R424) -/

def journalArea : Nat := 0x7A0000000
def mirrorArea : Nat := 0x7B0000000
def queueArea : Nat := 0x3FC00000

/-- The word of HBM that an address names, as a reader sees it: a line of the cache or of the eviction buffer goes before
memory (R444, R446). -/
def State.hbmWord (s : State) (a : Nat) : MWord :=
  let p := s.translate a
  let i := p % 256 / 8
  match s.mem.cache.findSome? fun e => e.2.bind fun l => if l.line = p / 256 then some l.words else none with
  | some ws => ws.getD i MWord.zero
  | none => match s.mem.evb.reverse.find? fun e => e.1 == p / 256 with
    | some e => e.2.getD i MWord.zero
    | none => s.memWord (p / 8)

/-- A write of one word by the block that owns an area: every copy of the word takes the value (log entry 157). -/
def State.hbmPut (s : State) (a : Nat) (bs : List Nat) : State :=
  let p := s.translate a
  let put (ws : List MWord) : List MWord := mergeLine ws (p % 256) bs
  let line (l : CLine) : CLine := if l.line = p / 256 then { l with words := put l.words } else l
  let t := s.setMem { s.mem with
    cache := s.mem.cache.map fun e => (e.1, e.2.map line),
    evb := s.mem.evb.map fun e => if e.1 = p / 256 then (e.1, put e.2) else e }
  t.setMemWord (p / 8) (mergeWord (t.memWord (p / 8)) 0 0 bs)

/-- Words written into a ring of `size` bytes from `off` on; `n` words. -/
def State.hbmRingPut (s : State) (base size off : Nat) : Nat → List Nat → State
  | 0, _ => s
  | n + 1, bs => (s.hbmPut (base + off % size) (bs.take 8)).hbmRingPut base size (off + 8) n (bs.drop 8)

/-- A record of 64 bytes enters a journal area at the place of its SEQ (R393; log entry 157). -/
def State.journalStore (s : State) (area seq : Nat) (bs : List Nat) : State :=
  s.hbmRingPut area 0x10000000 (64 * (seq % 4194304)) 8 bs

end Sys2Proof.Machine
end

