-- ==== Sys2Proof/Machine/Recorder.lean ====
section
/-!
DEFINITION. The event recorder (R592-R601) and the observation queues (R602-R607): records, folding,
overwriting, drops, the window, the mirror; items, gap markers, telemetry, flushes. Subscribers'
copies (R86) are made here, since both an event and an item reach them.
-/
namespace Sys2Proof.Machine

/-! Records -/

/-- The empty mirror and log areas in 64-byte units (R596, R601). -/
def logUnits : Nat := 16384
def mirrorUnits : Nat := 32768

/-- Units a detail of the event takes (R596): header 24, detail 16 bytes and the event's own data. -/
def Event.units (e : Event) : Nat := (24 + 16 + e.data.length + 63) / 64

/-- Two events are identical when all but the time agrees (R595). -/
def Event.same (a b : Event) : Bool := { a with time := 0 } == { b with time := 0 }

/-- Units in use in a list of records. -/
def unitsUsed : List Record → Nat
  | [] => 0
  | r :: rs => r.ev.units + unitsUsed rs

/-- The records left after the removals of R596, oldest first: a record is passed over when its
severity exceeds the new one's or `keep` protects it. Answers the records, and how many were
removed. -/
def removeOld (keep : Record → Bool) (sev need free : Nat) : List Record → List Record × Nat × Nat
  | [] => ([], free, 0)
  | r :: rs =>
    if need ≤ free then (r :: rs, free, 0)
    else if sev < r.ev.sev || keep r then
      let (rs', f, n) := removeOld keep sev need free rs
      (r :: rs', f, n)
    else
      let (rs', f, n) := removeOld keep sev need (free + r.ev.units) rs
      (rs', f, n + 1)

/-- Header and detail of a record as bytes (R592, R593). -/
def Record.bytes (r : Record) : List Nat :=
  bytesLE 4 r.seq ++ bytesLE 8 r.ev.time ++ bytesLE 2 r.pwr ++ bytesLE 2 r.ev.code ++
  [r.ev.sev % 8 + 16 * (r.ev.level % 16), r.ev.block % 256, r.ev.cell % 256, (16 + r.ev.data.length) / 8] ++
  bytesLE 2 r.rep ++
  [boolNat r.mirrored + 2 * boolNat r.loaded + 4 * boolNat r.repSat, 0] ++
  bytesLE 8 r.lastTime ++ bytesLE 4 r.ev.arg0 ++ bytesLE 4 r.ev.arg1 ++ r.ev.data

/-- A record as the words of the window (R598). -/
def Record.words (r : Record) : List Nat := wordsLE r.bytes

/-- The state with the recorder's own state changed. -/
def State.withRec (s : State) (f : RecSt → RecSt) : State := { s with recd := f s.recd }

/-- NEWEST_SEQ, OLDEST_SEQ, RECORDS and USED_KIB follow the log, MIRROR_NEWEST the mirror (R612). -/
def State.recRegs (s : State) : State :=
  let log := s.recd.log
  let newest := match log.getLast? with | some r => r.seq | none => 0
  let oldest := match log.head? with | some r => r.seq | none => 0
  let t := (((s.setFld erPage ER.NEWEST_SEQ newest).setFld erPage ER.OLDEST_SEQ oldest).setFld erPage ER.RECORDS
    log.length).setFld erPage ER.USED_KIB ((unitsUsed log * 64 + 1023) / 1024)
  t.setFld erPage ER.MIRROR_NEWEST ((s.recd.mirror.map fun x => x.seq).foldl max 0)

/-- A record waits for the mirror, as it stands now (R601); the first one's write is launched at once, a write that failed is
retried with it. -/
def State.queueMirror (s : State) (x : Record) : State :=
  s.withRec fun r =>
    { r with mirrorQ := if r.mirrorQ.any (fun y => y.seq == x.seq) then r.mirrorQ.map fun y => if y.seq = x.seq then x else y
                        else r.mirrorQ ++ [x]
             mirrorBusy := true }

/-- A session's default: none. -/
def subEntryBytes : SubEntry → List Nat
  | .record b => b
  | .item b => b
  | .gap first dropped time =>
    [0, 0xFF] ++ bytesLE 2 24 ++ bytesLE 4 first ++ bytesLE 8 time ++ bytesLE 4 dropped ++ bytesLE 4 first

/-- Bytes that entries take in a subscription buffer. -/
def subBytes : List SubEntry → Nat
  | [] => 0
  | e :: es => (subEntryBytes e).length + subBytes es

/-- A matching record or item enters a subscription buffer of 64 KiB, or is dropped behind a gap
marker (R86, R606). Every matching entry takes a number, delivered or not. -/
def Sub.push (u : Sub) (e : SubEntry) (time : Nat) : Sub × Bool :=
  let no := u.nextNo
  let u1 := { u with nextNo := (no + 1) % 2 ^ 32 }
  if subBytes u.buffer + (subEntryBytes e).length + 24 ≤ 65536 then ({ u1 with buffer := u.buffer ++ [e] }, true)
  else match u.buffer.getLast? with
    | some (.gap first dropped t) => ({ u1 with buffer := u.buffer.dropLast ++ [.gap first (dropped + 1) t] }, false)
    | _ => ({ u1 with buffer := u.buffer ++ [.gap no 1 time] }, false)

/-- A filter matches a record (R85): selector bit 0, severity, region of the code. -/
def subMatchesRecord (f : SubFilter) (e : Event) : Bool :=
  let region := e.code / 0x1000
  bitOf f.selectors 0 && decide (f.minSev ≤ e.sev) && bitOf f.regionMask region

/-- A filter matches an item of a queue (R85). -/
def subMatchesItem (f : SubFilter) (q : Nat) : Bool := bitOf f.selectors 1 && bitOf f.queueMask q

/-- Copy an entry to every session whose subscription matches (R86); drops are counted. -/
def State.deliver (s : State) (p : SubFilter → Bool) (e : SubEntry) : State :=
  s.forEach (List.range 16) fun s i =>
    match s.session i with
    | some x => match x.sub with
      | some u =>
        if p u.filter then
          let (u', ok) := u.push e s.now
          let t := s.setSession i (some { x with sub := some u' })
          if ok then t else t.count stebaroPage STEBARO.SB_EVT_DROP
        else s
      | none => s
    | none => s

/-- A record that a path has begun to read within the last 1 ms is kept (R596). -/
def State.beingRead (s : State) (r : Record) : Bool :=
  s.recd.cursors.any fun (_, c) => c.seq == some r.seq && decide (0 < c.word) && decide (s.now ≤ c.started + 1000000)

/-- A new event of the recorder (R594-R597, R601): folded, stored (removing what R596 allows), or
dropped. -/
def State.record (s : State) (e : Event) : State :=
  let fold := match s.recd.log.getLast? with | some r => r.ev.same e | none => false
  if fold then
    let last (r : Record) : Record :=
      { r with rep := min 0xFFFF (r.rep + 1), lastTime := e.time, repSat := r.repSat || decide (0xFFFF ≤ r.rep + 1) }
    let s1 := (s.withRec fun x => { x with log := x.log.dropLast ++ (x.log.getLast?.map last).toList }).count erPage ER.FOLD_CNT
    match s1.recd.log.getLast? with
    | some r => if r.mirrored || s1.recd.mirrorQ.any (fun y => y.seq == r.seq) then s1.queueMirror r else s1
    | none => s1
  else
    let need := e.units
    let (log', free, n) := removeOld s.beingRead e.sev need (logUnits - unitsUsed s.recd.log) s.recd.log
    if free < need then (s.count erPage ER.DROP_CNT).istat erPage 9
    else
      let r : Record := { seq := s.recd.nextSeq, ev := e, pwr := s.fld chipPage CHIP.PWR_CYCLES % 0x10000, rep := 0,
                          lastTime := e.time, mirrored := false, loaded := false, repSat := false }
      let s1 := s.withRec fun x => { x with log := log' ++ [r], nextSeq := x.nextSeq + 1 }
      let s2 := ((s1.setFld erPage ER.REMOVALS (s1.fld erPage ER.REMOVALS + n)).count erPage ER.OVERWRITE_CNT n).recRegs
      let s3 := if 4 ≤ e.sev then (s2.istat erPage 8).queueMirror r else s2
      s3.deliver (fun f => subMatchesRecord f e) (.record r.bytes)

/-- EVENT_RAISED (R592): the oldest raised event becomes a record. -/
def State.recordNext (s : State) : State :=
  match s.recd.raised with
  | [] => s
  | e :: es => (s.withRec fun r => { r with raised := es }).record e

def execEventRaised (s : State) : Res := done s.recordNext

/-! The window -/

/-- The sequence number that a 32-bit SEQ names: the one at or below the next number, within half a
turn of it (log entry 8). -/
def RecSt.fullSeq (r : RecSt) (v : Nat) : Nat :=
  let ahead := (v + 2 ^ 32 - r.nextSeq % 2 ^ 32) % 2 ^ 32
  if ahead < 2 ^ 31 then r.nextSeq + ahead else r.nextSeq - (2 ^ 32 - ahead)

/-- The cursor of a path that has just opened (R598). -/
def Cursor.fresh : Cursor := { seq := none, word := 0, started := 0, skipped := false }

/-- A path's cursor; a path that has not moved it reads from the oldest record (R598). -/
def State.cursor (s : State) (k : Nat) : Cursor :=
  storeFind (fun _ => Cursor.fresh) s.recd.cursors k

/-- Set a path's cursor. -/
def State.setCursor (s : State) (k : Nat) (c : Cursor) : State :=
  s.withRec fun r => { r with cursors := storePut (fun _ => Cursor.fresh) r.cursors k c }

/-- SEQ of the oldest record held, or 0 (R612). -/
def RecSt.oldest (r : RecSt) : Nat := match r.log.head? with | some x => x.seq | none => 0

/-- Where a cursor stands. -/
def State.cursorSeq (s : State) (k : Nat) : Nat :=
  match (s.cursor k).seq with | some n => n | none => s.recd.oldest

/-- The first record held at or above a cursor. -/
def RecSt.firstFrom (r : RecSt) (n : Nat) : Option Record := r.log.find? fun x => decide (n ≤ x.seq)

/-- A write of WIN_CURSOR by a path (R598). -/
def State.moveCursor (s : State) (k v : Nat) : State :=
  let n := s.recd.fullSeq v
  let held := s.recd.log.any fun r => r.seq == n
  let skipped := !held && decide (0 < n) && decide (n < s.recd.nextSeq) && (s.recd.firstFrom n).isSome
  s.setCursor k { seq := some n, word := 0, started := 0, skipped := skipped }

/-- One read of WIN_DATA by a path (R598): the word, whether the window was empty, and the state
after. -/
def State.readWinData (s : State) (k : Nat) : Nat × Bool × State :=
  let c := s.cursor k
  let n := s.cursorSeq k
  match s.recd.firstFrom n with
  | none => (0, true, s)
  | some r =>
    let w := if r.seq = n then c.word else 0
    let ws := r.words
    let v := ws.getD w 0
    let c' : Cursor :=
      if w + 1 < ws.length then
        { seq := some r.seq, word := w + 1, started := if w = 0 then s.now else c.started, skipped := false }
      else { seq := some (match s.recd.firstFrom (r.seq + 1) with | some x => x.seq | none => r.seq + 1),
             word := 0, started := 0, skipped := false }
    (v, false, s.setCursor k c')

/-- WIN_STAT for a path (R612): EMPTY, SKIPPED, WORDS_LEFT. -/
def State.winStat (s : State) (k : Nat) : Nat :=
  let c := s.cursor k
  let n := s.cursorSeq k
  match s.recd.firstFrom n with
  | none => 1
  | some r =>
    let left := if r.seq = n ∧ 0 < c.word then r.words.length - c.word else 0
    let skipped := c.skipped || (decide (c.seq = some n) && decide (r.seq ≠ n) && decide (n < s.recd.nextSeq) && decide (0 < n))
    2 * boolNat skipped + 4 * left

/-- The log cleared (R600): event 0x8A01 is its first record and every path's cursor moves to it. -/
def State.clearLog (s : State) (mirrorToo : Bool) : State :=
  let s1 := s.withRec fun r =>
    if mirrorToo then { r with log := [], mirrorQ := [], mirrorBusy := false, mirrorFails := 0, mirror := [] } else { r with log := [] }
  let s2 := s1.istat erPage 11
  let e : Event := { code := 0x8A01, sev := 7, level := 1, block := 2, cell := 0xFF, arg0 := erPage, arg1 := 0,
                     data := [], time := s.now }
  let n := s2.recd.nextSeq
  let s3 := s2.record e
  s3.withRec fun r => { r with cursors := r.cursors.map fun (k, _) =>
    (k, ({ seq := some n, word := 0, started := 0, skipped := false } : Cursor)) }

/-! The mirror -/

/-- A record enters the mirror, or its copy there is renewed; R595 to R597 apply over 2 MiB (R601). -/
def RecSt.intoMirror (r : RecSt) (x : Record) : RecSt :=
  if r.mirror.any (fun y => y.seq == x.seq) then
    { r with mirror := r.mirror.map fun y => if y.seq = x.seq then x else y }
  else
    let (m', free, _) := removeOld (fun _ => false) x.ev.sev x.ev.units (mirrorUnits - unitsUsed r.mirror) r.mirror
    if free < x.ev.units then r else { r with mirror := m' ++ [x] }

/-- MIRROR_WRITE_DONE (R601): the mirror write in progress completes or fails. -/
def State.mirrorDone (s : State) (ok : Bool) : State :=
  match s.recd.mirrorBusy, s.recd.mirrorQ with
  | true, q :: qs =>
    if ok then
      let s1 := s.withRec fun r =>
        let log := r.log.map fun x => if x.seq = q.seq then { x with mirrored := true } else x
        RecSt.intoMirror { r with log := log, mirrorQ := qs, mirrorBusy := !qs.isEmpty, mirrorFails := 0 } { q with mirrored := true }
      (s1.setFlag erPage ER.ER_STAT_MIRROR_OK true).recRegs
    else
      let s1 := (s.withRec fun r => { r with mirrorBusy := false, mirrorFails := r.mirrorFails + 1, mirrorFailAt := s.now }).count erPage ER.MIRROR_ERR
      if s1.recd.mirrorFails = 3 then
        ((s1.setFlag erPage ER.ER_STAT_MIRROR_OK false).istat erPage 10).event erPage 0x8A02 5
      else s1
  | _, _ => s

def execMirrorWriteDone (ok : Bool) (s : State) : Res := done (s.mirrorDone ok)

/-- MIRROR_RETRY (R601): 10 ms after a failure the write is made again. -/
def execMirrorRetry (s : State) : Res :=
  if s.recd.mirrorQ.isEmpty ∨ s.now < s.recd.mirrorFailAt + 10000000 then done s else done (s.withRec fun r => { r with mirrorBusy := true })

/-! Observation queues -/

/-- A queue with nothing in it. -/
def OQueue.empty : OQueue := { items := [], nextQseq := 0, flush := false, dropRaised := false, wptr := 0 }

/-- A queue. -/
def State.oqueue (s : State) (q : Nat) : OQueue := storeFind (fun _ => OQueue.empty) s.oq.queues q

/-- Set a queue. -/
def State.setOqueue (s : State) (q : Nat) (x : OQueue) : State :=
  { s with oq := { s.oq with queues := storePut (fun _ => OQueue.empty) s.oq.queues q x } }

/-- Length of an item (R603). -/
def OqItem.len (i : OqItem) : Nat := match i.gap with | some _ => 24 | none => 16 + i.body.length

/-- An item as bytes (R603). -/
def OqItem.bytes (i : OqItem) : List Nat :=
  [i.ty, i.queue] ++ bytesLE 2 i.len ++ bytesLE 4 i.qseq ++ bytesLE 8 i.time ++
  (match i.gap with | some (d, f) => bytesLE 4 d ++ bytesLE 4 f | none => i.body)

/-- Bytes held in a list of items. -/
def itemBytes : List OqItem → Nat
  | [] => 0
  | i :: is => i.len + itemBytes is

/-- The zero-fill has passed the queue area of the firmware data area (R570, R602): the lowest
16 MiB of every pseudo-channel's local space, 256 units of 64 KiB. -/
def State.queueAreaFilled (s : State) : Bool :=
  decide (256 ≤ s.fld (hbmPage 0) HBM.FILL_STAT_MIN_WM) && decide (256 ≤ s.fld (hbmPage 1) HBM.FILL_STAT_MIN_WM)

/-- Bytes held in every queue. -/
def State.allQueueBytes (s : State) : Nat := (s.oq.queues.map fun (_, q) => itemBytes q.items).sum

/-- An item fits (R602, R606): 64 KiB less the reserve of 24 bytes, and the 32 KiB write buffer
while the fill has not passed the queue area. -/
def State.itemFits (s : State) (q : OQueue) (n : Nat) : Bool :=
  decide (itemBytes q.items + n + 24 ≤ 65536) && (s.queueAreaFilled || decide (s.allQueueBytes + n ≤ 32768))

/-- An item is raised for a queue and waits to be written (R602). -/
def State.queueItem (s : State) (q ty : Nat) (body : List Nat) : State :=
  { s with oq := { s.oq with waiting := s.oq.waiting ++
      [(q, { ty := ty, queue := q, qseq := 0, time := s.now, gap := none, body := padTo8 body, pos := none })] } }

/-- Reports climb (R47, R603): the header and detail of each event that has been raised since `old` waits as an item of the
region's queue, or of queue 15 at chip level. -/
def State.reportsTo (old s : State) (q : Nat) : State :=
  s.forEach (s.recd.raised.drop old.recd.raised.length) fun u e =>
    let r : Record := { seq := 0, ev := e, pwr := u.fld chipPage CHIP.PWR_CYCLES % 0x10000, rep := 0,
                        lastTime := e.time, mirrored := false, loaded := false, repSat := false }
    u.queueItem q 1 r.bytes

/-- The bytes of an item at its place in the queue's part of HBM (R602, R603). -/
def State.storeItem (s : State) (q : Nat) (i : OqItem) : State :=
  match i.pos with
  | none => s
  | some o => s.hbmRingPut (queueArea + 65536 * q) 65536 o (i.len / 8) i.bytes

/-- An item that leaves the write buffer takes the next place of its queue. -/
def State.placeItem (s : State) (q : Nat) (i : OqItem) : State :=
  let x := s.oqueue q
  let i' := { i with pos := some x.wptr }
  let items := x.items.map fun j => if j = i then i' else j
  (s.setOqueue q { x with items := items, wptr := (x.wptr + i.len) % 65536 }).storeItem q i'

/-- The write buffer empties once the zero-fill has passed the queue area (R602, R570). -/
def State.drainQueue (s : State) (q : Nat) : State :=
  if s.queueAreaFilled then (s.oqueue q).items.foldl (fun u i => if i.pos.isNone then u.placeItem q i else u) s else s

def State.drainQueues (s : State) : State := s.forEach (List.range 64) fun u q => u.drainQueue q

/-- A word of the item's place in HBM is poisoned (R439). -/
def State.itemPoisoned (s : State) (q : Nat) (i : OqItem) : Bool :=
  match i.pos with
  | none => false
  | some o => (List.range (i.len / 8)).any fun k => (s.hbmWord (queueArea + 65536 * q + (o + 8 * k) % 65536)).poison

/-- The item with QSEQ `no` is dropped (R606): the newest entry, where it is a gap marker, counts it; else a gap marker is
written. The first drop since the queue was last empty raises 0x7401. -/
def State.dropItem (s : State) (q no : Nat) : State :=
  let x := s.oqueue q
  let fresh : OqItem := { ty := 0, queue := q, qseq := no, time := s.now, gap := some (1, no), body := [], pos := none }
  let marker : List OqItem × Bool × OqItem := match x.items.getLast? with
    | some g => match g.gap with
      | some (d, f) =>
        let g' := { g with gap := some (d + 1, f) }
        (x.items.dropLast ++ [g'], false, g')
      | none => (x.items ++ [fresh], true, fresh)
    | none => (x.items ++ [fresh], true, fresh)
  let s1 := (s.setOqueue q { x with items := marker.1, dropRaised := true }).storeItem q marker.2.2
  let s2 := ((s1.drainQueue q).count obsqPage OBSQ.Q_DROP 1 q).count obsqPage OBSQ.GAP_TOTAL
  let s3 := if marker.2.1 then s2.istat obsqPage 9 else s2
  if x.dropRaised then s3 else s3.event obsqPage 0x7401 2 0xFF q

/-- An item enters its queue or is dropped behind a gap marker (R606), and is copied to subscribers
(R86). A queue that is not enabled takes no item. -/
def State.putItem (s : State) (q : Nat) (i : OqItem) : State :=
  let x := s.oqueue q
  if s.cfg obsqPage OBSQ.Q_CFG_ENABLE q = 0 then s
  else
    let no := x.nextQseq
    let i' := { i with qseq := no }
    let x1 := { x with nextQseq := (no + 1) % 2 ^ 32, dropRaised := x.dropRaised && !x.items.isEmpty }
    if s.itemFits x i'.len then
      let s1 := (s.setOqueue q { x1 with items := x1.items ++ [i'] }).drainQueue q
      let s2 := if q = 15 then s1.istat obsqPage 8 else s1
      s2.deliver (fun f => subMatchesItem f q) (.item i'.bytes)
    else
      (s.setOqueue q x1).dropItem q no

/-- POISON_USED counts a consumption of a poisoned word (R439). -/
def State.poisonUsed (s : State) : State := (s.count ecctabPage ECCTAB.POISON_USED).istat ecctabPage 11

/-- QUEUE_ITEM_WRITE (R606): the oldest item raised for the queue is written. -/
def execQueueItemWrite (q : QueueIx) (s : State) : Res :=
  match s.oq.waiting.find? (fun x => x.1 == q.val) with
  | none => done s
  | some x =>
    let t := { s with oq := { s.oq with waiting := s.oq.waiting.erase x } }
    done (t.putItem q.val x.2)

/-- The telemetry bodies of a source kind (R604): `l0` a head's mean L0 iterations in 1/256. A mean of MSEs is rounded
toward 0 (log entry 140). -/
def State.telemetryBodies (s : State) (l0 : Nat → Nat) (src : Nat) : List (List Nat) :=
  match src with
  | 1 =>
    let entry (h : Nat) : List Nat :=
      let rdy := s.pairBit rdyPage RDY.HEAD_LO RDY.HEAD_HI h
      let fp := s.pairBit ctrlengPage CTRLENG.FP_STAT_LO CTRLENG.FP_STAT_HI h
      let live := (List.range 16).filter fun b =>
        !s.fldBit (bandPage h) BAND.BEAM_DEAD b && !s.fldBit (bandPage h) BAND.BEAM_MASK b && s.flag (bandPage h) BAND.MSE_VALID b
      let ms : List Int := live.map fun b => s.fldS (bandPage h) BAND.MSE_AVG b
      let mean : Int := if ms.isEmpty then 0 else ms.sum.tdiv (ms.length : Int)
      let worst : Int := ms.foldl max (ms.headD 0)
      [h, boolNat rdy + 2 * boolNat fp] ++
        (if rdy then bytesLE 2 (unsigned 16 mean) ++ bytesLE 2 (unsigned 16 worst) ++ bytesLE 2 (l0 h)
         else List.replicate 6 0)
    [(List.range 33).flatMap entry]
  | 2 =>
    let entry (w : Nat) : List Nat :=
      let b := wheelPage w
      [w, s.fld b WHEEL.WH_STAT_STATE] ++ bytesLE 2 (s.fld b WHEEL.CUR_MEAS) ++
        bytesLE 4 (s.fld b WHEEL.SPD_MEAS_N + 2 ^ 31 * s.fld b WHEEL.SPD_MEAS_STALE)
    [(List.range 9).flatMap entry]
  | 3 =>
    let eye (b : Nat) (w h v : Fld) (i : Nat) : List Nat :=
      bytesLE 4 (s.fld b w i + 2 ^ 8 * s.fld b h i + 2 ^ 31 * s.fld b v i)
    let headItem (h : Nat) : List Nat :=
      [0, h, 11, 0] ++
      (List.range 9).flatMap (eye (headPage h) HEAD.EYE_UL_WIDTH HEAD.EYE_UL_HEIGHT HEAD.EYE_UL_VALID) ++
      bytesLE 4 (s.fld (headPage h) HEAD.EYE_DL0) ++ bytesLE 4 (s.fld (headPage h) HEAD.EYE_DL1)
    let ethItem : List Nat :=
      let lanes (p n : Nat) := (List.range n).flatMap (eye (ethPage p) ETH.EYE_WIDTH ETH.EYE_HEIGHT ETH.EYE_VALID)
      [1, 0, 21, 0] ++ lanes 0 8 ++ lanes 1 8 ++ lanes 2 4 ++ lanes 3 1
    (List.range 33).map headItem ++ [ethItem]
  | 4 =>
    [bytesLE 2 (s.fld ldpcPage LDPC.CAPACITY) ++ bytesLE 2 (s.fld ldpcPage LDPC.LOAD) ++
      [s.fld ldpcPage LDPC.QUEUE_A, s.fld ldpcPage LDPC.QUEUE_B, s.fld outerPage OUTER.LADDER_STAT_SETTINGS,
       s.fld outerPage OUTER.LADDER_STAT_REV_HEADS] ++
      bytesLE 2 (s.fld ldpcPage LDPC.ITER_AVG) ++ bytesLE 4 (s.fld outerPage OUTER.SHARD_FREE) ++ bytesLE 2 0]
  | 5 =>
    [(List.range 9).flatMap (fun r => bytesLE 2 (s.fld (regionPage r) REGION.RG_PWR_W)) ++
      bytesLE 2 (s.fld chipPage CHIP.DIE_TEMP) ++ bytesLE 4 0]
  | 6 =>
    [bytesLE 2 (s.fld stripePage STRIPE.STG_USE_OWN) ++ bytesLE 2 (s.fld stripePage STRIPE.STG_USE_MIRROR) ++
      bytesLE 2 (s.fld journalPage JOURNAL.JR_STAT_INFLIGHT) ++ bytesLE 2 (s.fld journalPage JOURNAL.MIRROR_LAG)]
  | _ => []

/-- Several free values in a row (log entry 2). -/
def State.frees (s : State) : Nat → List Nat × State
  | 0 => ([], s)
  | n + 1 => ((s.free).1 :: ((s.free).2.frees n).1, ((s.free).2.frees n).2)

/-- TELEMETRY_PERIOD (R602, R604): every PERIOD ms the items of the queue's source are raised. The mean over a
period without a codeword is a free value. -/
def execTelemetryPeriod (q : QueueIx) (s : State) : Res :=
  let n := q.val
  let src := s.cfg obsqPage OBSQ.Q_CFG_SRC n
  let due := storeFind (fun _ => 0) s.oq.telAt n + 1000000 * clampNat 1 255 (s.cfg obsqPage OBSQ.Q_CFG_PERIOD n)
  if n < 16 ∨ src = 0 ∨ 6 < src ∨ s.now < due then done s
  else
    let (ps, t) := if src = 1 then s.frees 33 else ([], s)
    let z (h : Nat) : Nat × Nat := storeFind (fun _ => (0, 0)) s.pool.l0 h
    let from' (h : Nat) : Nat × Nat := storeFind (fun _ => (0, 0)) s.oq.l0 (64 * n + h)
    let l0 (h : Nat) : Nat :=
      let k := (z h).2 - (from' h).2
      if k = 0 then ps.getD h 0 else ((z h).1 - (from' h).1) * 256 / k
    let bodies := t.telemetryBodies l0 src
    let t := t.forEach bodies fun u b => u.queueItem n 2 b
    let l := (List.range 33).foldl (fun m h => storePut (fun _ => (0, 0)) m (64 * n + h) (z h)) t.oq.l0
    let t := { t with oq := { t.oq with telAt := storePut (fun _ => 0) t.oq.telAt n s.now } }
    done (if src = 1 then { t with oq := { t.oq with l0 := l } } else t)

/-- The queue that a read of OQ_WIN takes from (R605): nonempty, in the mask, highest PRIO, lower
number first. -/
def State.oqChoose (s : State) : Option Nat :=
  let cand := (List.range 64).filter fun q =>
    s.pairBit obsqPage OBSQ.OQ_READ_MASK_LO OBSQ.OQ_READ_MASK_HI q && !(s.oqueue q).items.isEmpty
  cand.foldl (fun best q =>
    match best with
    | none => some q
    | some b => if s.cfg obsqPage OBSQ.Q_CFG_PRIO b < s.cfg obsqPage OBSQ.Q_CFG_PRIO q then some q else some b) none

/-- A path's item in progress. -/
def State.oqReading (s : State) (k : Nat) : Option OqRead := storeFind (fun _ => none) s.oq.reading k

/-- Whether some path reads an item of the queue (R607). -/
def State.oqInProgress (s : State) (q : Nat) : Bool :=
  s.oq.reading.any fun (_, r) => match r with | some x => x.queue == q | none => false

/-- Set a path's item in progress. At the packet boundary of the queue that it read, what was written to Q_CFG takes
effect (R613). -/
def State.setOqReading (s : State) (k : Nat) (x : Option OqRead) : State :=
  let t := { s with oq := { s.oq with reading := storePut (fun _ => none) s.oq.reading k x } }
  match s.oqReading k with
  | some r => if t.oqInProgress r.queue then t else t.applyCfg (obsqPage + 0x100 + 4 * r.queue) 4
  | none => t

/-- Discard the items of a queue for a flush (R607): every complete item goes; PG_ISTAT bit 10. -/
def State.flushQueue (s : State) (q : Nat) : State :=
  (s.setOqueue q { s.oqueue q with items := [], flush := false, dropRaised := false }).istat obsqPage 10

/-- Poisoned items at the front of a queue are dropped as they are read, and counted as drops (R439, R602); `n` looks. -/
def State.dropPoisoned (s : State) (q : Nat) : Nat → State
  | 0 => s
  | n + 1 => match (s.oqueue q).items with
    | [] => s
    | i :: is =>
      if s.itemPoisoned q i then
        (((s.setOqueue q { s.oqueue q with items := is }).poisonUsed).dropItem q i.qseq).dropPoisoned q n
      else s

/-- One read of OQ_WIN by a path (R605): the word, whether it was empty, and the state after. The
first read of an item consumes the item. -/
def State.readOqWin (s : State) (k : Nat) : Nat × Bool × State :=
  match s.oqReading k with
  | some r =>
    match r.words with
    | [] => (0, true, s.setOqReading k none)
    | [w] => (w, false, s.setOqReading k none)
    | w :: ws => (w, false, s.setOqReading k (some { r with words := ws }))
  | none =>
    match s.oqChoose with
    | none => (0, true, s)
    | some q =>
      let s := s.dropPoisoned q ((s.oqueue q).items.length + 1)
      let x := s.oqueue q
      match x.items with
      | [] => (0, true, s)
      | i :: is =>
        let s1 := s.setOqueue q { x with items := is, dropRaised := x.dropRaised && !is.isEmpty }
        match wordsLE i.bytes with
        | [] => (0, true, s1)
        | w :: ws => (w, false, s1.setOqReading k (some { queue := q, words := ws }))

/-- OQ_WSTAT for a path (R613). -/
def State.oqWstat (s : State) (k : Nat) : Nat :=
  match s.oqReading k with
  | some r => r.queue % 64 + 2 ^ 8 * (r.words.length % 256) + 2 ^ 6 * boolNat (s.oqChoose.isNone && r.words.isEmpty)
  | none => match s.oqChoose with | none => 2 ^ 6 | some _ => 0

/-- A write to Q_FLUSH (R607): the flush waits for the queue's next packet boundary. -/
def State.requestFlush (s : State) (q : Nat) : State := s.setOqueue q { s.oqueue q with flush := true }

/-- Q_FLUSH_EFFECT (R607): at the packet boundary every complete item is discarded; the item being
read finishes its read. -/
def execQFlushEffect (q : QueueIx) (s : State) : Res :=
  if (s.oqueue q.val).flush && !s.oqInProgress q.val then done (s.flushQueue q.val) else done s

end Sys2Proof.Machine
end

