-- ==== Sys2Proof/Machine/Hbm.lean ====
section
/-!
DEFINITION. HBM, the code's tables and repairs (R422-R441, R451, R453, R455), and a fatal event (R566).
-/
namespace Sys2Proof.Machine

/-- A fatal event (R47, R566): the chip enters state 6, which stops its heartbeat (R543); 0xF001 holds
the causing code. -/
def State.fatal (s : State) (code : Nat) : State :=
  if s.fld chipPage CHIP.STATE = 6 then s
  else
    let t : State := { s with svc := { s.svc with fatalAt := s.now } }
    ((t.chipState 6).setFld chipPage CHIP.FATAL_CODE code).event chipPage 0xF001 6 0xFF code

/-! Addresses (R423, R424, R435) -/

def stackOf (a : Nat) : Nat := a / 2 ^ 8 % 2
def pseudoChannelOf (a : Nat) : Nat := (a / 2 ^ 9 % 32) ^^^ (a / 2 ^ 14 % 32)
def localOf (a : Nat) : Nat := a / 2 ^ 14 * 256 + a % 256

/-- The size of a pseudo-channel (R427). -/
def channelBytes : Nat := 2 ^ 29

/-- How far a pseudo-channel is filled, in hundredths of a byte. -/
def State.filled (s : State) (k pc : Nat) : Nat := storeFind (fun _ => 0) s.mem.wm (32 * k + pc)

/-- The watermark of a pseudo-channel (R427). -/
def State.watermark (s : State) (k pc : Nat) : Nat := s.filled k pc / 100

/-- How far each pseudo-channel of a stack is filled is set; MIN_WM follows. -/
def State.setFilled (s : State) (k : Nat) (f : Nat → Nat) : State :=
  let wm := (List.range 32).foldl (fun w p => storePut (fun _ => 0) w (32 * k + p) (min (100 * channelBytes) (f p))) s.mem.wm
  let t := s.setMem { s.mem with wm := wm }
  let lowest := (List.range 32).foldl (fun m p => min m (t.watermark k p)) channelBytes
  t.setFld (hbmPage k) HBM.FILL_STAT_MIN_WM (lowest / 2 ^ 16)

/-- Zero-fill progress of a stack per mille (R64, RDY.FILL0 and FILL1). -/
def State.fillProgress (s : State) (k : Nat) : Nat :=
  ((List.range 32).map (s.watermark k)).sum * 1000 / (32 * channelBytes)

def State.hbmState (s : State) (k : Nat) : Nat := s.fld (hbmPage k) HBM.HB_STAT_STATE
def State.setHbmState (s : State) (k n : Nat) : State := s.setFld (hbmPage k) HBM.HB_STAT_STATE n

/-- A physical line can be accessed: its stack is in service and its watermark has passed the line
(R428). -/
def State.lineReady (s : State) (line : Nat) : Bool :=
  let a := line * 256
  (s.hbmState (stackOf a) == 2 || s.hbmState (stackOf a) == 3) &&
    decide (localOf a + 256 ≤ s.watermark (stackOf a) (pseudoChannelOf a))

/-! Words and lines -/

/-- The 32 words of a physical line. -/
def State.memLine (s : State) (line : Nat) : List MWord := (List.range 32).map fun i => s.memWord (line * 32 + i)

def State.setMemWords (s : State) (w : Nat) : List MWord → State
  | [] => s
  | x :: xs => (s.setMemWord w x).setMemWords (w + 1) xs

def State.setMemLine (s : State) (line : Nat) (ws : List MWord) : State := s.setMemWords (line * 32) ws

/-- Bytes of a line. -/
def lineBytes (ws : List MWord) (o n : Nat) : List Nat := ((ws.flatMap fun x => bytesLE 8 x.val).drop o).take n

/-- Poisoned words that a read of a line touches, by word of the line. -/
def linePoison (ws : List MWord) (o n : Nat) : List Nat :=
  (List.range 32).filter fun i => decide (o < 8 * i + 8) && decide (8 * i < o + n) && (ws.getD i MWord.zero).poison

/-! Training, filling, self-refresh (R426-R429) -/

/-- Where the scrubbing of a stack stands (R437): words of the pass that were read, and the time of the last. -/
def State.scrubbed (s : State) (k : Nat) : Nat × Nat := storeFind (fun _ => (0, 0)) s.mem.scrub k

def State.setScrub (s : State) (k : Nat) (x : Nat × Nat) : State :=
  s.setMem { s.mem with scrub := storePut (fun _ => (0, 0)) s.mem.scrub k x }

/-- A stack starts training (R426, R427): its contents are lost, and every word reads as the fill
leaves it. -/
def State.startHbmTraining (s : State) (k : Nat) : State :=
  let kept := s.mem.words.filter fun (w, _) => decide (stackOf (w * 8) ≠ k)
  let s1 := s.setMem { s.mem with words := kept }
  let s2 := (s1.setFilled k fun _ => 0).setScrub k (0, s1.now)
  let s3 := (((s2.setHbmState k 1).setReady (hbmPage k) false).setFld (hbmPage k) HBM.HB_STAT_LANES_REPAIRED 0).setFld
    (hbmPage k) HDR.SPARES_LEFT 64
  let s4 := s3.setRdy (if k = 0 then RDY.HBM0_TRAINED else RDY.HBM1_TRAINED) false
  s4.setRdy (if k = 0 then RDY.HBM0_FILLED else RDY.HBM1_FILLED) false

/-- The failing lanes that a redundant lane of their pseudo-channel replaces: two each (R422). -/
def replacedLanes (lanes : List (Fin 32 × Fin 36)) : List (Fin 32 × Fin 36) :=
  lanes.eraseDups.zipIdx.filterMap fun (x, i) => if ((lanes.eraseDups.take i).filter fun y => y.1 = x.1).length < 2 then some x else none

/-- The pseudo-channels with more failing lanes than redundant ones. -/
def lostChannels (lanes : List (Fin 32 × Fin 36)) : BitVec 32 :=
  BitVec.ofNat 32 ((List.range 32).foldl (fun v p => setBit v p (decide (2 < (lanes.eraseDups.filter fun x => x.1.val = p).length))) 0)

/-- Training of a stack ends (R426). -/
def State.hbmTrained (s : State) (k : Nat) (all : List (Fin 32 × Fin 36)) (down : BitVec 32) : State :=
  let b := hbmPage k
  let lanes := replacedLanes all
  let failed := down ||| lostChannels all
  let lane (u : State) (x : Fin 32 × Fin 36) : State :=
    ((u.useSpare b).count b HBM.HB_STAT_LANES_REPAIRED).event b 0x520A 3 0xFF (64 * x.1.val + x.2.val)
  let s1 := s.forEach lanes lane
  if failed = 0 then
    let s2 := ((s1.setHbmState k 2).setReady b true).istat b 8
    let s3 := s2.setRdy (if k = 0 then RDY.HBM0_TRAINED else RDY.HBM1_TRAINED) true
    if s3.flag rdyPage RDY.HBM0_TRAINED && s3.flag rdyPage RDY.HBM1_TRAINED then s3.milestone 3 else s3
  else
    let s2 := ((s1.setHbmState k 5).setFld b HBM.PC_FAILED failed.toNat).event b 0x520B 6
    (s2.setFlag b HDR.SOFT_RESET false).fatal 0x520B

/-- HBM_TRAINING_DONE (R426): lanes replaced by redundant ones, the fill starts; or pseudo-channels
that failed, and the controller is fatal. -/
def execHbmTrainingDone (k : StackIx) (lanes : List (Fin 32 × Fin 36)) (failed : BitVec 32) (s : State) : Res :=
  if s.hbmState k.val ≠ 1 then done s
  else done (s.hbmTrained k.val lanes failed)

/-! Correction tables (R431, R432) -/

/-- The page of a memory block (R432). -/
def memBlockPage (b : Nat) : Nat :=
  match b with
  | 0 => setterPage | 1 => ldpcPage | 2 => nvmePage | 3 => mcPage | 4 => ctrlengPage | 5 => erPage
  | 6 => hbmPage 0 | 7 => hbmPage 1
  | n => bandPage (n - 8)

def State.ectTable (s : State) (b : Nat) : List EctEntry := storeFind (fun _ => []) s.mem.ect b

/-- Set a table; ECT_BUSY follows. -/
def State.setEctTable (s : State) (b : Nat) (t : List EctEntry) : State :=
  (s.setMem { s.mem with ect := storePut (fun _ => []) s.mem.ect b t }).setPairBit ecctabPage ECCTAB.ECT_BUSY_LO
    ECCTAB.ECT_BUSY_HI b (!t.isEmpty)

/-- The entry that a new address replaces in a full table: the counting one with the lowest count, the
oldest of equals (R432). -/
def ectVictim (t : List EctEntry) : Option EctEntry :=
  (t.filter fun e => decide (e.state = 1)).foldl (fun best e =>
    match best with
    | none => some e
    | some b => if e.count < b.count ∨ e.count = b.count ∧ e.age < b.age then some e else some b) none

def State.repairDue (s : State) (b addr : Nat) (k : RepairKind) : State :=
  if s.mem.repairs.contains (b, addr, k) then s
  else s.setMem { s.mem with repairs := s.mem.repairs ++ [(b, addr, k)] }

def State.repairOver (s : State) (b addr : Nat) (k : RepairKind) : State :=
  s.setMem { s.mem with repairs := s.mem.repairs.erase (b, addr, k) }

/-- The oldest repair of a kind that is due for a block. -/
def State.repairOf (s : State) (b : Nat) (k : RepairKind) : Option Nat :=
  (s.mem.repairs.find? fun x => x.1 == b && x.2.2 == k).map fun x => x.2.1

/-- A repair starts (R432): 0x5201. -/
def State.startRepair (s : State) (b addr : Nat) (k : RepairKind) : State :=
  ((s.repairDue b addr k).istat ecctabPage 8).event ecctabPage 0x5201 2 0xFF b

/-- What repairs an address when its count reaches the threshold, or when the error comes back after a
repair (R432). `none`: no repair is left. `reserve`: a reserve page is left (R435). -/
def nextRepair (b state : Nat) (reserve : Bool) : Option RepairKind :=
  if b = 6 ∨ b = 7 then (if state = 1 then some .package else if reserve then some .page else none)
  else if state = 1 then some .sramRow
  else if b = 0 then some .way else none

/-- Set the state of an entry. -/
def State.setEctState (s : State) (b addr st : Nat) : State :=
  s.setEctTable b ((s.ectTable b).map fun e => if e.addr = addr then { e with state := st } else e)

/-- No repair is left for an address: its entry stays counting, with 0x5201 at 3 warning for SRAM; HBM has raised 0x5205
with its last reserve page (R432, R435). -/
def State.noRepair (s : State) (b addr : Nat) : State :=
  let t := s.setEctTable b ((s.ectTable b).map fun e => if e.addr = addr then { e with state := 1, spent := true } else e)
  if b = 6 ∨ b = 7 then t else t.event ecctabPage 0x5201 3 0xFF b

/-- An address enters its correction table (R432). -/
def State.ectError (s : State) (b addr syn : Nat) : State :=
  let t := s.ectTable b
  let thr := s.fldIn ecctabPage ECCTAB.ECT_CFG_REPEAT_THR 2 15
  let auto := s.flag ecctabPage ECCTAB.ECT_CFG_AUTO_REPAIR
  match t.find? fun e => decide (e.addr = addr) with
  | some e =>
    let e' : EctEntry := { e with count := addSat 255 e.count 1, syn := syn }
    let s1 := s.setEctTable b (t.map fun x => if x.addr = addr then e' else x)
    if !auto || e.spent || (decide (e.state = 1) && decide (e'.count < thr)) ||
        s1.mem.repairs.any (fun x => x.1 == b && x.2.1 == addr) then s1
    else match nextRepair b e.state (decide (s1.mem.retired.length < 512)) with
      | some k => s1.startRepair b addr k
      | none => s1.noRepair b addr
  | none =>
    let e : EctEntry := { addr := addr, count := 1, syn := syn, state := 1, age := s.mem.ectAge, spent := false }
    let s1 := s.setMem { s.mem with ectAge := s.mem.ectAge + 1 }
    if t.length < 16 then s1.setEctTable b (t ++ [e])
    else match ectVictim t with
      | none => s1
      | some v => s1.setEctTable b (t.map fun x => if x.age = v.age then e else x)

/-- A corrected error of a memory block (R431): the corrected word is in memory again. -/
def State.correctable (s : State) (b addr syn : Nat) : State :=
  (s.corrected (memBlockPage b) 0 0xFF).ectError b addr syn

/-- CORRECTABLE_ERROR (R431). -/
def execCorrectableError (blk : MemBlockIx) (addr : BitVec 32) (syndrome : BitVec 8) (s : State) : Res :=
  done (s.correctable blk.val addr.toNat syndrome.toNat)

/-- An uncorrectable word is counted and poisoned (R431, R438). -/
def State.uncorrectable (s : State) (b addr : Nat) : State :=
  let s1 := (s.uncorrected (memBlockPage b) 0 0xFF).count ecctabPage ECCTAB.POISON_MADE
  if b = 6 ∨ b = 7 then
    let w := s1.translate (addr * 8) / 8
    s1.setMemWord w { s1.memWord w with poison := true }
  else if b = 0 then
    let key := 32 * (addr / 32 / 17) + addr / 32 % 17
    match storeFind (fun _ => none) s1.mem.cache key with
    | none => s1
    | some c =>
      let ws := c.words.zipIdx.map fun (x, i) => if i = addr % 32 then { x with poison := true } else x
      s1.setMem { s1.mem with cache := storePut (fun _ => none) s1.mem.cache key (some { c with words := ws }) }
  else if s1.mem.sram.contains (b, addr) then s1
  else s1.setMem { s1.mem with sram := s1.mem.sram ++ [(b, addr)] }

/-- UNCORRECTABLE_ERROR (R431, R438). -/
def execUncorrectableError (blk : MemBlockIx) (addr : BitVec 32) (s : State) : Res :=
  done (s.uncorrectable blk.val addr.toNat)

/-- SRAM_ROW_SUBSTITUTION (R433): the row is in its spare; or the macro has no spare row, and the next
repair of R432 is due. -/
def execSramRowSubstitution (blk : MemBlockIx) (ok : Bool) (s : State) : Res :=
  match s.repairOf blk.val .sramRow with
  | none => done s
  | some addr =>
    let s1 := s.repairOver blk.val addr .sramRow
    if ok then
      let s2 := s1.setEctState blk.val addr 2
      let used := ((s2.ectTable blk.val).filter fun e => decide (e.state = 2)).length
      let s2 := if used = min 255 (Config.sramSpares blk.val) then s2.notice .health else s2
      done ((s2.istat (memBlockPage blk.val) 3).event ecctabPage 0x5202 2 0xFF blk.val)
    else if blk.val = 0 then done (s1.repairDue 0 addr .way)
    else done (s1.noRepair blk.val addr)

/-- The page of an address is to be retired, or no reserve page is left (R432). -/
def State.pageDue (s : State) (b addr : Nat) : State :=
  if s.mem.retired.length < 512 then s.repairDue b addr .page else s.noRepair b addr

/-- POST_PACKAGE_REPAIR (R434). -/
def execPostPackageRepair (k : StackIx) (res : PprEnd) (s : State) : Res :=
  let b := hbmPage k.val
  match s.repairOf (6 + k.val) .package with
  | none => done s
  | some addr =>
    let s1 := s.repairOver (6 + k.val) addr .package
    match res with
    | .repaired =>
      done (((((s1.setEctState (6 + k.val) addr 2).count b HBM.PPR_DONE).istat b 10).istat b 3).event b 0x5203 2)
    | .failed => done (((s1.count b HBM.PPR_FAIL).istat b 11).pageDue (6 + k.val) addr)
    | .noResource => done (s1.pageDue (6 + k.val) addr)

/-- ECT_CLEAR (R455): the counting entries of the selected table are freed. -/
def State.ectClear (s : State) : State :=
  let b := min 39 (s.fld ecctabPage ECCTAB.ECT_SEL)
  let s1 := s.setEctTable b ((s.ectTable b).filter fun e => decide (e.state ≠ 1))
  s1.setMem { s1.mem with repairs := s1.mem.repairs.filter fun x =>
    x.1 != b || (s1.ectTable b).any fun e => decide (e.addr = x.2.1) }

/-! Page retirement (R435, R436) -/

/-- RET_USED, SPARES_USED and SPARES_LEFT of ECCTAB follow the retirement table (R455). -/
def State.retShow (s : State) : State :=
  ((s.setFld ecctabPage ECCTAB.RET_USED (s.mem.retired.filter Option.isSome).length).setFld ecctabPage HDR.SPARES_USED
    (min 255 s.mem.retired.length)).setPg ecctabPage HDR.SPARES_LEFT (min 255 (512 - s.mem.retired.length))

/-- The physical line number with its page moved. -/
def movePage (old new line : Nat) : Nat := if line / 8192 = old then new * 8192 + line % 8192 else line

/-- A page's contents, and its lines in the cache, its fills and the eviction buffer, move to another
physical page; poison moves with its word. -/
def State.movePhysical (s : State) (old new : Nat) : State :=
  let ws := s.mem.words.filter fun (w, _) => decide (w / 2 ^ 18 = old)
  let s1 := s.forEach ws fun u (w, x) => (u.setMemWord w MWord.zero).setMemWord (new * 2 ^ 18 + w % 2 ^ 18) x
  let m := s1.mem
  s1.setMem { m with
    cache := m.cache.map fun (k, c) => (k, c.map fun l => { l with line := movePage old new l.line }),
    fills := m.fills.map fun (k, f) => (k, f.map fun l => { l with line := movePage old new l.line }),
    evb := m.evb.map fun l => (movePage old new l.1, l.2),
    maint := m.maint.map fun x => { x with pend := x.pend.map fun l => (movePage old new l.1, l.2) } }

/-- The copy of a page that is due ends, and its table entry is valid (R435). -/
def State.retirePage (s : State) (page : Nat) : State :=
  let mine := s.mem.repairs.filter fun x => x.2.2 == .page && decide (x.2.1 * 8 / 2 ^ 21 = page)
  let s1 := s.setMem { s.mem with repairs := s.mem.repairs.filter fun x => !mine.contains x }
  let n := s1.mem.retired.length
  if 512 ≤ n then s1
  else
    let old := s1.translate (page * 2 ^ 21) / 2 ^ 21
    let s2 := s1.movePhysical old (reservePage + n)
    let tbl := (s2.mem.retired.map fun e => if e = some page then none else e) ++ [some page]
    let s3 := s2.setMem { s2.mem with retired := tbl }
    let mark (b : Nat) (u : State) : State :=
      u.setEctTable b ((u.ectTable b).map fun e => if e.addr * 8 / 2 ^ 21 = page then { e with state := 3 } else e)
    let s4 := ((mark 7 (mark 6 s3)).retShow.istat ecctabPage 9).istat ecctabPage 3
    let s5 := s4.event ecctabPage 0x5204 3 0xFF page
    if n + 1 = 512 then ((s5.istat ecctabPage 10).istat ecctabPage 4).event ecctabPage 0x5205 5 |>.notice .health else s5

/-- PAGE_RETIREMENT (R435): the copy of a page that is due ends, and its table entry is valid. -/
def execPageRetirement (page : Fin 16384) (s : State) : Res :=
  let mine := s.mem.repairs.filter fun x => x.2.2 == .page && decide (x.2.1 * 8 / 2 ^ 21 = page.val)
  if mine.isEmpty ∨ reservePage ≤ page.val then done s
  else done (s.retirePage page.val)

/-- The words of a scrub pass of a stack: those of the addresses below the retirement reserve, whose pages in use are
read by the addresses that they serve (R435; log entry 166). -/
def scrubWords : Nat := reserveBase / 16

/-- The word address (byte address of A by 8) of word `n` of a stack's pass, in ascending order. -/
def scrubAddr (k n : Nat) : Nat := (2 * (n / 32) + k) * 32 + n % 32

/-- The time from one word of a pass to the next, at one pass per SCRUB_PERIOD hours (R437). -/
def State.scrubGap (s : State) (k : Nat) : Nat :=
  s.fldIn (hbmPage k) HBM.SCRUB_CFG_SCRUB_PERIOD 1 255 * 3600000000000 / scrubWords

/-- The next word of a stack may be scrubbed: scrubbing is enabled and permitted, and the word's time has come (R437). -/
def State.scrubDue (s : State) (k : Nat) : Bool :=
  let b := hbmPage k
  s.flag b HBM.SCRUB_CFG_SCRUB_EN && s.mcSpare && s.flag b HDR.TEST_PERMIT && s.hbmState k == 3 &&
    decide ((s.scrubbed k).2 + s.scrubGap k ≤ s.now)

/-- SCRUB (R437): the next word of the stack's pass is read in the background; `syn` is the syndrome of a corrected word. -/
def execScrubWord (k : StackIx) (syn : Fin 256) (res : ScrubEnd) (s : State) : Res :=
  let b := hbmPage k.val
  if !s.scrubDue k.val then done s
  else
    let n := (s.scrubbed k.val).1 % scrubWords
    let addr := scrubAddr k.val n
    let s1 := (s.setScrub k.val ((n + 1) % scrubWords, s.now)).setFld b HBM.SCRUB_PROG ((n + 1) % scrubWords * 1000 / scrubWords)
    match res with
    | .clean => done s1
    | .corrected => done ((s1.count b HBM.SCRUB_CORR).correctable (6 + k.val) addr syn.val)
    | .bad => done (s1.uncorrectable (6 + k.val) addr)

end Sys2Proof.Machine
end

