-- ==== Sys2Proof/Machine/Cache.lean ====
section
/-!
DEFINITION. The setter cache (R442-R450, R454): requests, fill tags, the eviction buffer, bypass
accesses, maintenance, way sparing, self-refresh.
-/
namespace Sys2Proof.Machine

/-! Sets, ways and replacement (R442, R454) -/

def setOf (line : Nat) : Nat := line % 8192

/-- The active physical ways, in ascending order: logical way i is the i-th of them (R454). -/
def State.activeWays (s : State) : List Nat :=
  (List.range 17).filter fun w => s.fldBit setterPage SETTER.WAY_MAP w

def State.cacheLine (s : State) (set way : Nat) : Option CLine := storeFind (fun _ => none) s.mem.cache (32 * set + way)

def State.setCacheLine (s : State) (set way : Nat) (c : Option CLine) : State :=
  s.setMem { s.mem with cache := storePut (fun _ => none) s.mem.cache (32 * set + way) c }

/-- The physical way that holds a line. -/
def State.lookup (s : State) (line : Nat) : Option Nat :=
  s.activeWays.find? fun w => match s.cacheLine (setOf line) w with | some c => c.line == line | none => false

/-- The way that a tree of bits names as victim among `2 ^ d` logical ways from `lo` on; a subtree with
no way that may be taken is passed over (log entry 35). Node n's children are 2n and 2n + 1. -/
def plruVictim (bits : Nat) (ok : Nat → Bool) : Nat → Nat → Nat → Option Nat
  | 0, _, lo => if ok lo then some lo else none
  | d + 1, n, lo =>
    let left := plruVictim bits ok d (2 * n) lo
    let right := plruVictim bits ok d (2 * n + 1) (lo + 2 ^ d)
    if bitOf bits n then right.orElse fun _ => left else left.orElse fun _ => right

/-- The tree's bits after logical way `w` was used: every node on its path points away from it. -/
def plruTouch (w : Nat) : Nat → Nat → Nat → Nat
  | 0, _, bits => bits
  | d + 1, n, bits =>
    let right := bitOf w d
    plruTouch w d (2 * n + boolNat right) (setBit bits n (!right))

def State.touchWay (s : State) (set way : Nat) : State :=
  match s.activeWays.idxOf? way with
  | none => s
  | some i => s.setMem { s.mem with
      plru := storePut (fun _ => 0) s.mem.plru set (plruTouch i 4 1 (storeFind (fun _ => 0) s.mem.plru set)) }

def State.fillAt (s : State) (t : Nat) : Option FillSt := storeFind (fun _ => none) s.mem.fills t

def State.setFill (s : State) (t : Nat) (f : Option FillSt) : State :=
  let u := s.setMem { s.mem with fills := storePut (fun _ => none) s.mem.fills t f }
  u.setFld setterPage SETTER.SC_STAT_FILLS u.mem.fills.length

/-- The tag of the fill that a request to a line joins (R445): one that is kept. -/
def State.fillTagOf (s : State) (line : Nat) : Option Nat :=
  (List.range 256).find? fun t => match s.fillAt t with | some f => f.kept && f.line == line | none => false

def State.freeTag (s : State) : Option Nat := (List.range 256).find? fun t => (s.fillAt t).isNone

/-- The tag whose fill has taken a way of a set. -/
def State.fillingWay (s : State) (set way : Nat) : Option Nat :=
  (List.range 256).find? fun t => match s.fillAt t with | some f => setOf f.line == set && f.way == way | none => false

/-! The eviction buffer (R446) -/

def State.setEvb (s : State) (b : List (Nat × List MWord)) : State :=
  (s.setMem { s.mem with evb := b }).setFld setterPage SETTER.SC_STAT_EVB b.length

/-- The contents of a line in the buffer: the newest. -/
def State.evbOf (s : State) (line : Nat) : Option (List MWord) :=
  (s.mem.evb.reverse.find? fun e => e.1 == line).map (·.2)

/-- A dirty line goes into the buffer; it counts as written back (R454). -/
def State.evict (s : State) (c : CLine) : State :=
  let s1 := (s.setEvb (s.mem.evb ++ [(c.line, c.words)])).count setterPage SETTER.WRITEBACKS
  if s1.mem.evb.length = 64 then s1.istat setterPage 11 else s1

/-- A way of a set for a new line, emptied: an invalid way first, the lowest, else the victim of the
tree (R442; log entry 35). None when no way can be taken, or the victim is dirty and the buffer is
full (R446). -/
def State.takeWay (s : State) (set : Nat) : Option (Nat × State) :=
  let act := s.activeWays
  let usable := act.filter fun w => (s.fillingWay set w).isNone
  match usable.find? fun w => (s.cacheLine set w).isNone with
  | some w => some (w, s)
  | none =>
    let ok (i : Nat) : Bool := match act[i]? with | some w => usable.contains w | none => false
    match (plruVictim (storeFind (fun _ => 0) s.mem.plru set) ok 4 1 0).bind (act[·]?) with
    | none => none
    | some w =>
      match s.cacheLine set w with
      | none => some (w, s)
      | some c =>
        if !c.dirty then some (w, s.setCacheLine set w none)
        else if s.mem.evb.length < 64 then some (w, (s.setCacheLine set w none).evict c)
        else none

/-! Requests -/

/-- The policy of an address (R443): that of the lowest-numbered enabled entry that contains it; 3,
uncached, in none. -/
def State.areaPolicy (s : State) (a : Nat) : Nat :=
  let p := a / 2 ^ 21
  match (List.range 8).find? fun n => decide (s.fld setterPage SETTER.AREA_POLICY n ≠ 0) &&
      decide (s.fld setterPage SETTER.AREA_BASE n ≤ p) && decide (p ≤ s.fld setterPage SETTER.AREA_LIMIT n) with
  | some n => s.fld setterPage SETTER.AREA_POLICY n
  | none => 3

def MemReq.line (s : State) (r : MemReq) : Nat := s.translate r.addr / 256
def MemReq.offset (r : MemReq) : Nat := r.addr % 256
def MemReq.isRead (r : MemReq) : Bool := match r.acc with | .read _ => true | _ => false

def zeroLine : List MWord := List.replicate 32 MWord.zero

/-- A read's answer (R445): bytes and poisoned words. -/
def State.answerRead (s : State) (r : MemReq) (ws : List MWord) (n : Nat) : State :=
  s.send (.mem r.who r.addr (lineBytes ws r.offset n) (linePoison ws r.offset n))

/-- The answer to a read that missed (R445): MC and CE first get the 32-byte sector that holds the requested word. -/
def State.answerMiss (s : State) (r : MemReq) (ws : List MWord) (n : Nat) : State :=
  let o := r.offset / 32 * 32
  let t := if r.who = .mc ∨ r.who = .ce then
      s.send (.memSector r.who (r.addr / 32 * 32) (lineBytes ws o 32) (linePoison ws o 32))
    else s
  t.answerRead r ws n

/-- A hit or a miss counts in its counter (R454). -/
def State.countAccess (s : State) (r : MemReq) (hit : Bool) : State :=
  if r.kind = 1 then (if hit then s.count setterPage SETTER.SNOOP_HITS else s)
  else if r.kind = 2 then s
  else match r.acc with
    | .read _ => s.count setterPage (if hit then SETTER.RD_HIT else SETTER.RD_MISS)
    | _ => s.count setterPage (if hit then SETTER.WR_HIT else SETTER.WR_MISS)

/-- A request acts on a present line (R444, R447): a write from the cache's ports makes it dirty; a
bypass write goes to HBM as well and leaves the line's state, unless the buffer holds the line
(R446). -/
def State.onLine (s : State) (r : MemReq) (set way : Nat) (c : CLine) : State :=
  let t := s.touchWay set way
  match r.acc with
  | .read n => t.answerRead r c.words n
  | .zero => (t.setCacheLine set way (some { c with dirty := true, words := zeroLine })).count setterPage SETTER.ZERO_LINES
  | .write bs =>
    let ws := mergeLine c.words r.offset bs
    if r.kind = 1 ∧ (s.evbOf c.line).isNone then
      (t.setCacheLine set way (some { c with words := ws })).setMemLine c.line (mergeLine (s.memLine c.line) r.offset bs)
    else t.setCacheLine set way (some { c with dirty := true, words := ws })

/-- A request acts on HBM. -/
def State.onHbm (s : State) (r : MemReq) (line : Nat) : State :=
  match r.acc with
  | .read n => s.answerRead r (s.memLine line) n
  | .zero => s.setMemLine line zeroLine
  | .write bs => s.setMemLine line (mergeLine (s.memLine line) r.offset bs)

/-- A request waits, in its order of arrival. -/
def State.waitMem (s : State) (r : MemReq) : State := s.setMem { s.mem with waiting := s.mem.waiting ++ [r] }

/-- A request stalls at the watermark: it counts once (R428). -/
def State.countStall (s : State) (line : Nat) : State := s.count (hbmPage (stackOf (line * 256))) HBM.STALL_CNT

/-- A request for one line, in the order of R442-R447. -/
def State.request (s : State) (r : MemReq) : State :=
  if reserveBase ≤ r.addr then
    let t := s.refuse (hbmPage (stackOf r.addr)) 6
    match r.acc with
    | .read n => t.send (.mem r.who r.addr (List.replicate n 0) (linePoison (zeroLine.map fun x => { x with poison := true })
        r.offset n))
    | _ => t
  else
    let line := r.line s
    let set := setOf line
    if !s.ready setterPage ∨ !s.accepts setterPage ∨ s.mem.waiting.any fun q => q.line s == line then s.waitMem r
    else match s.fillTagOf line with
      | some t =>
        match s.fillAt t with
        | some f => (s.setFill t (some { f with joined := f.joined ++ [r] })).countAccess r (decide (r.kind = 1))
        | none => s
      | none => match s.lookup line with
        | some w =>
          match s.cacheLine set w with
          | some c => (s.countAccess r true).onLine r set w c
          | none => s
        | none => match s.evbOf line with
          | some ws =>
            match s.takeWay set with
            | none => s.waitMem r
            | some (w, u) =>
              let c : CLine := { line := line, dirty := false, words := ws }
              (((u.setCacheLine set w (some c)).countAccess r true).count setterPage SETTER.EVB_HITS).onLine r set w c
          | none =>
            let alloc := decide (r.kind = 2) || (decide (r.kind = 0) && decide (s.areaPolicy r.addr = 1))
            if alloc then
              if r.acc = .zero then
                match s.takeWay set with
                | none => s.waitMem r
                | some (w, u) => ((u.countAccess r false).onLine r set w { line := line, dirty := true, words := zeroLine })
              else match s.freeTag, s.takeWay set with
                | some t, some (w, u) =>
                  let stalled := !s.lineReady line
                  let since := if stalled then some s.now else none
                  let f : FillSt := { line := line, way := w, joined := [r], kept := true, stalled := since }
                  let u1 := (u.countAccess r false).setFill t (some f)
                  if stalled && !r.stalled then u1.countStall line else u1
                | _, _ => s.waitMem r
            else if s.lineReady line then
              (if r.kind = 0 ∧ s.areaPolicy r.addr = 2 then s.countAccess r false else s).onHbm r line
            else (if r.stalled then s else s.countStall line).waitMem { r with stalled := true }

/-- Requests that wait are tried again, in their order of arrival. -/
def State.retryMem (s : State) : State :=
  let q := s.mem.waiting
  (s.setMem { s.mem with waiting := [] }).forEach q fun u r => u.request r

/-- A request as one request for each line that it touches. -/
def lineParts (kind : Nat) (who : Requester) (time : Nat) : Nat → Nat → MemAcc → List MemReq
  | 0, _, _ => []
  | fuel + 1, addr, acc =>
    let room := 256 - addr % 256
    let one (x : MemAcc) : MemReq := { kind := kind, who := who, addr := addr % (2 ^ 35), acc := x, time := time, stalled := false }
    match acc with
    | .zero => [one .zero]
    | .read n =>
      if n ≤ room then [one (.read n)] else one (.read room) :: lineParts kind who time fuel (addr + room) (.read (n - room))
    | .write bs =>
      if bs.length ≤ room then [one (.write bs)]
      else one (.write (bs.take room)) :: lineParts kind who time fuel (addr + room) (.write (bs.drop room))

def accSize : MemAcc → Nat
  | .read n => n
  | .write bs => bs.length
  | .zero => 256

def State.requests (s : State) (kind : Nat) (who : Requester) (addr : Nat) (acc : MemAcc) : State :=
  s.forEach (lineParts kind who s.now (accSize acc / 256 + 2) addr acc) fun u r => u.request r

/-- CACHE_REQUEST (R443). -/
def execCacheRequest (who : Requester) (acc : MemAcc) (addr : BitVec 35) (s : State) : Res :=
  done (s.requests 0 who addr.toNat acc)

/-- BYPASS_ACCESS (R444). -/
def execBypassAccess (acc : MemAcc) (addr : BitVec 35) (s : State) : Res := done (s.requests 1 .stream addr.toNat acc)

/-! Maintenance (R448, R449) -/

/-- The writeback of a dirty line by maintenance: to HBM, or held until the watermark has passed. -/
def State.writeBack (s : State) (c : CLine) : State :=
  let t := s.count setterPage SETTER.WRITEBACKS
  if t.lineReady c.line && (t.evbOf c.line).isNone then t.setMemLine c.line c.words
  else match t.mem.maint with
    | some m => t.setMem { t.mem with maint := some { m with pend := m.pend ++ [(c.line, c.words)] } }
    | none => t.setEvb (t.mem.evb ++ [(c.line, c.words)])

/-- A maintenance operation on a line of a set and way. -/
def State.maintain (s : State) (op set way : Nat) : State :=
  match s.cacheLine set way with
  | none => s
  | some c =>
    if op = 1 ∨ op = 5 then
      if c.dirty then (s.writeBack c).setCacheLine set way (some { c with dirty := false }) else s
    else if op = 2 then s.setCacheLine set way none
    else if op = 3 ∨ op = 6 then
      (if c.dirty then s.writeBack c else s).setCacheLine set way none
    else s

/-- The places that hold a line: set and way. -/
def State.heldPlaces (s : State) : List (Nat × Nat) := s.mem.cache.map fun (k, _) => (k / 32, k % 32)

def State.setMaint (s : State) (m : Option MaintSt) : State := s.setMem { s.mem with maint := m }

def State.maintResult (s : State) (n : Nat) : State := s.setFld setterPage SETTER.MAINT_STAT_RESULT n

/-- MAINT_CMD with an operation of R448 (R454): refused with a RESULT, or started. What meets a fill waits
for its tag, but INVALIDATE by address marks it (R449). -/
def State.maintCmd (s : State) (op : Nat) (bySw : Bool) (set way : Nat) : State :=
  let addr := s.fld setterPage SETTER.MAINT_ADDR / 256 * 256 + 2 ^ 32 * s.fld setterPage SETTER.MAINT_ADDR_HI
  let all := decide (op = 5) || decide (op = 6)
  if s.mem.maint.isSome then s.maintResult 1
  else if op = 4 ∧ bySw then s.maintResult 4
  else if !all && bySw && decide (s.activeWays.length ≤ way) then s.maintResult 3
  else if !all && !bySw && decide (reserveBase ≤ addr) then s.maintResult 2
  else
    let s1 := ((s.maintResult 0).setFlag setterPage SETTER.MAINT_STAT_BUSY true).setMaint
      (some { op := op, tags := [], pend := [] })
    let waitFor (u : State) (ts : List Nat) : State := u.setMaint (some { op := op, tags := ts, pend := [] })
    if all then
      let s2 := waitFor s1 (s1.mem.fills.map (·.1))
      s2.forEach s2.heldPlaces fun u (x, w) => u.maintain op x w
    else if bySw then
      match s1.activeWays[way]? with
      | none => s1
      | some w => match s1.fillingWay set w with
        | some t => waitFor s1 [t]
        | none => s1.maintain op set w
    else
      let line := s1.translate addr / 256
      if op = 4 then s1.request { kind := 2, who := .mc, addr := addr, acc := .zero, time := s1.now, stalled := false }
      else match s1.fillTagOf line with
        | some t =>
          if op = 2 then
            match s1.fillAt t with
            | some f => (waitFor s1 [t]).setFill t (some { f with kept := false })
            | none => s1
          else waitFor s1 [t]
        | none => match s1.lookup line with
          | some w => s1.maintain op (setOf line) w
          | none => s1

/-- Writebacks that waited for the watermark, and can be done, are done. -/
def State.pendingDone (s : State) : State :=
  match s.mem.maint with
  | none => s
  | some m =>
    let now := m.pend.filter fun x => s.lineReady x.1 && (s.evbOf x.1).isNone
    let s1 := s.forEach now fun u x => u.setMemLine x.1 x.2
    s1.setMaint (some { m with pend := m.pend.filter fun x => !(s.lineReady x.1 && (s.evbOf x.1).isNone) })

/-- A fill's joined request acts on the line that the fill brought. -/
def fillStep (line : Nat) (acc : State × CLine) (r : MemReq) : State × CLine :=
  let (s, c) := acc
  match r.acc with
  | .read n => ((if r.kind = 0 then s.answerMiss r c.words n else s.answerRead r c.words n), c)
  | .zero => (s.count setterPage SETTER.ZERO_LINES, { c with dirty := true, words := zeroLine })
  | .write bs =>
    let ws := mergeLine c.words r.offset bs
    if r.kind = 1 then (s.setMemLine line (mergeLine (s.memLine line) r.offset bs), { c with words := ws })
    else (s, { c with dirty := true, words := ws })

/-- The whole line of a tag is in: the requests joined to it are served in order, and waiting maintenance acts (R445, R449). -/
def State.lineFilled (s : State) (tag : Nat) (f : FillSt) : State :=
  let k := stackOf (f.line * 256)
  let s0 := match f.stalled with
    | some t => s.peak (hbmPage k) HBM.STALL_MAX (min 65535 ((s.now - t) / 1000))
    | none => s
  let base := s0.pendingDone
  let (s1, c) := f.joined.foldl (fillStep f.line) (base, { line := f.line, dirty := false, words := base.memLine f.line })
  let set := setOf f.line
  let s2 := s1.setFill tag none
  let s3 : State :=
    if !f.kept then s2
    else if s2.activeWays.contains f.way then (s2.setCacheLine set f.way (some c)).touchWay set f.way
    else if c.dirty then s2.setMemLine f.line c.words else s2
  let s4 : State := match s3.mem.maint with
    | some m =>
      if m.tags.contains tag then
        let u := s3.setMaint (some { m with tags := m.tags.erase tag })
        if f.kept then u.maintain m.op set f.way else u
      else s3
    | none => s3
  s4.retryMem

/-- CACHE_FILL_DONE (R445, R449): the whole line is in; the requests joined to the tag are served in
order, and the maintenance that waited for the tag acts on the line. -/
def execCacheFillDone (tag : FillTag) (s : State) : Res :=
  match s.fillAt tag.val with
  | none => done s
  | some f =>
    if !s.lineReady f.line || (s.evbOf f.line).isSome then done s
    else done (s.lineFilled tag.val f)

/-- WRITEBACK_DONE (R446): HBM has acknowledged the writeback of an entry; the oldest of a line goes
first. -/
def execWritebackDone (k : EvbIx) (s : State) : Res :=
  match s.mem.evb[k.val]? with
  | none => done s
  | some e =>
    match s.mem.evb.find? fun x => x.1 == e.1 with
    | none => done s
    | some x =>
      if !s.lineReady x.1 then done s
      else done (((s.setMemLine x.1 x.2).setEvb (s.mem.evb.erase x)).pendingDone.retryMem)

/-- MAINTENANCE_DONE (R448): every writeback of the operation is acknowledged. -/
def execMaintenanceDone (s : State) : Res :=
  let t := s.pendingDone
  match t.mem.maint with
  | none => done s
  | some m =>
    let zeroing := t.mem.waiting.any (fun r => r.kind == 2) ||
      t.mem.fills.any fun (_, f) => match f with | some x => x.joined.any (fun r => r.kind == 2) | none => false
    if m.tags.isEmpty && m.pend.isEmpty && !zeroing then
      done (((t.setMaint none).setFlag setterPage SETTER.MAINT_STAT_BUSY false).maintResult 0 |>.istat setterPage 10)
    else done t

/-! Way sparing (R450) -/

/-- A way of the cache is emptied and leaves service; the spare way takes its place, or the cache has one way
fewer (R450). -/
def State.wayOut (s : State) (w : Nat) : State :=
  if !s.fldBit setterPage SETTER.WAY_MAP w then s
  else
    let empty (u : State) (x : Nat × Nat) : State :=
      if x.2 ≠ w then u
      else match u.cacheLine x.1 w with
        | some c => (if c.dirty then u.writeBack c else u).setCacheLine x.1 w none
        | none => u
    let s1 := s.forEach s.heldPlaces empty
    let s2 := (s1.setFldBit setterPage SETTER.WAY_MAP w false).setFldBit setterPage SETTER.WAY_FAILED w true
    let due := s2.mem.repairs.filter fun x => x.1 == 0 && x.2.2 == .way
    let s3 := s2.forEach due fun u x => (u.repairOver 0 x.2.1 .way).setEctState 0 x.2.1 4
    if !s3.flag setterPage SETTER.SC_STAT_SPARE_IN_USE then
      let s4 := (s3.setFldBit setterPage SETTER.WAY_MAP 16 true).setFlag setterPage SETTER.SC_STAT_SPARE_IN_USE true
      ((s4.useSpare setterPage).istat setterPage 8).event setterPage 0x5206 2 w
    else
      let s4 := s3.setFld setterPage SETTER.SC_STAT_WAYS (s3.fld setterPage SETTER.SC_STAT_WAYS - 1)
      ((s4.worsen setterPage HDR.DEGRADED).istat setterPage 9).event setterPage 0x5207 5 w |>.passUp 5 2 w false

/-- WAY_SPARING (R450): a failed way is emptied; the spare way takes its place, or the cache runs with one
way fewer. -/
def execWaySparing (way : PhysWay) (s : State) : Res := done (s.wayOut way.val)

/-! The watermark and self-refresh (R427-R429, R450) -/

/-- The requests that the watermark held are released: longest stall (R453), then in order. -/
def State.releaseStalls (s : State) (k : Nat) : State :=
  let gone := s.mem.waiting.filter fun r => r.stalled && stackOf (r.line s * 256) == k && s.lineReady (r.line s)
  let longest := gone.foldl (fun m r => max m ((s.now - r.time) / 1000)) 0
  (s.peak (hbmPage k) HBM.STALL_MAX (min 65535 longest)).pendingDone.retryMem

/-- Lines that wait at the watermark: requests, fills and writebacks (R428). -/
def State.stalledLines (s : State) : List Nat :=
  let fills := s.mem.fills.filterMap fun e => match e.2 with
    | some f => if f.stalled.isSome then some f.line else none
    | none => none
  let maint := match s.mem.maint with
    | some m => m.pend.map (·.1)
    | none => []
  ((s.mem.waiting.filter fun r => r.stalled).map fun r => r.line s) ++ fills ++ maint ++ s.mem.evb.map (·.1)

/-- The fill of a stack goes on for 40 ns (R427, R428): FILL_SHARE percent of the 25.6 GB/s of each pseudo-channel; all of
it where BOOST_EN is 1 and a request is stalled (log entry 166). -/
def State.fillStack (s : State) (k : Nat) : State :=
  let b := hbmPage k
  if s.hbmState k ≠ 2 ∨ (List.range 32).all fun p => s.watermark k p = channelBytes then s
  else
    let held := (s.stalledLines.filter fun l => stackOf (l * 256) = k ∧ !s.lineReady l).map fun l => pseudoChannelOf (l * 256)
    let share := s.fldIn b HBM.FILL_CFG_FILL_SHARE 25 100
    let boost := s.flag b HBM.FILL_CFG_BOOST_EN
    s.setFilled k fun p => s.filled k p + 1024 * (if boost && held.contains p then 100 else share)

/-- WATERMARK_STALL_RELEASE (R428): the HC lets the requests proceed whose lines the watermark has passed. -/
def execWatermarkStallRelease (k : StackIx) (_ _ : Computed) (s : State) : Res :=
  if s.hbmState k.val ≠ 2 then done s
  else done (s.drainQueues.releaseStalls k.val)

/-- The cache's macros are initialised: every line reads invalid (R450). -/
def State.initCache (s : State) : State :=
  ((s.setMem { s.mem with cache := [], plru := [], fills := [] }).setEvb []).setReady setterPage true |>.retryMem

/-- Both stacks are filled (R569, R570): the blocks that use HBM are ready, and host admin is. -/
def State.bothFilled (s : State) : State :=
  let t := s.milestone 4
  let t := if t.ready setterPage then t else t.initCache
  let t := ((t.setReady nvmePage true).setReady stripePage true).setReady journalPage true
  (t.setRdy RDY.ADMIN true).milestone 5

/-- Every pseudo-channel of a stack is filled (R427). -/
def State.stackFilled (s : State) (k : Nat) : State :=
  let b := hbmPage k
  let s1 := s.drainQueues
  let s2 := ((s1.setHbmState k 3).istat b 9).setFlag b HDR.SOFT_RESET false
  let s3 := s2.setRdy (if k = 0 then RDY.HBM0_FILLED else RDY.HBM1_FILLED) true
  let s4 := if s3.flag rdyPage RDY.HBM0_FILLED && s3.flag rdyPage RDY.HBM1_FILLED then s3.bothFilled else s3
  s4.releaseStalls k

/-- ZERO_FILL_COMPLETE (R427): every pseudo-channel of the stack is filled. -/
def execZeroFillComplete (k : StackIx) (s : State) : Res :=
  if s.hbmState k.val ≠ 2 ∨ s.fld (hbmPage k.val) HBM.FILL_STAT_MIN_WM < 0x2000 then done s
  else done (s.stackFilled k.val)

/-- SELF_REFRESH_ENTRY (R429, R450): the cache is cleaned and invalidated, and the stacks keep their
contents in self-refresh in PS3 (R493). It waits while a fill or a request is outstanding. -/
def execSelfRefreshEntry (s : State) : Res :=
  if s.fld nvmePage NVME.PS_CUR ≠ 3 ∨ s.hbmState 0 ≠ 3 ∨ s.hbmState 1 ≠ 3 ∨ !s.mem.fills.isEmpty ∨ !s.mem.waiting.isEmpty ∨ s.mem.maint.isSome then done s
  else
    let s1 := (s.forEach s.mem.evb fun u x => u.setMemLine x.1 x.2).setEvb []
    let s2 := s1.forEach s1.heldPlaces fun u (x, w) => u.maintain 6 x w
    done (((s2.setHbmState 0 4).setHbmState 1 4).setReady setterPage false)

/-- SELF_REFRESH_EXIT (R429, R450): the stacks serve again, and the cache is initialised; no fill
starts. -/
def execSelfRefreshExit (s : State) : Res :=
  if s.fld nvmePage NVME.PS_CUR = 3 ∨ s.hbmState 0 ≠ 4 ∨ s.hbmState 1 ≠ 4 then done s
  else done (((s.setHbmState 0 3).setHbmState 1 3).initCache)

end Sys2Proof.Machine
end

