-- ==== Sys2Proof/Machine/TwinOps.lean ====
section
/-!
DEFINITION. What every chapter uses of port T (R540, R541): sending a message, whether the twin is
paired, who owns a token.
-/
namespace Sys2Proof.Machine

/-- This controller's side: 0 A, 1 B. -/
def State.side (s : State) : Nat := s.fld chipPage CHIP.SIDE

/-- TW_STAT.STATE. -/
def State.twState (s : State) : Nat := s.fld twPage TW.TW_STAT_STATE
def State.setTwState (s : State) (n : Nat) : State := s.setFld twPage TW.TW_STAT_STATE n

/-- The twin is paired (also while handing over). -/
def State.paired (s : State) : Bool := decide (s.twState = 2) || decide (s.twState = 6)

/-- Port T classes (R541). -/
def clsToken : Nat := 0
def clsMirror : Nat := 1
def clsFire : Nat := 2
def clsControl : Nat := 3
def clsNone : Nat := 15

/-- MTYPE of a message (R541). -/
def tMtype : TMsg → Nat
  | .hello _ => 0x01
  | .helloAuth _ _ => 0x02
  | .heartbeat _ _ _ _ => 0x03
  | .tokenOffer _ _ => 0x10
  | .exported _ _ _ => 0x11
  | .tokenTake _ _ => 0x12
  | .tokenDone _ _ _ => 0x13
  | .journal _ => 0x20
  | .stage _ _ _ _ => 0x21
  | .stageFree _ _ => 0x22
  | .mirrorAck _ => 0x23
  | .member _ _ _ _ _ => 0x30
  | .fireReport _ _ _ _ _ => 0x31
  | .releaseConf _ _ => 0x32
  | .forward _ => 0x40
  | .writer _ _ => 0x41
  | .twinState _ => 0x42

/-- A token table as HELLO and TWIN_STATE carry it (R638): entry n at byte 2n, owner and epoch. -/
def tokenTableBytes (ts : List (Nat × Nat)) : List Nat := ts.flatMap fun e => [e.1 % 256, e.2 % 256]

/-- The body of a message where a rule lays its bytes out (R541, R638). -/
def tBody : TMsg → Option (List Nat)
  | .hello b => some (bytesLE 8 b.serial ++ bytesLE 8 b.domain ++ bytesLE 8 b.kcv ++ [b.side, b.role, b.shelf, 0] ++ bytesLE 8 b.split ++
      tokenTableBytes b.tokens)
  | .helloAuth serial boot => some (bytesLE 8 serial ++ bytesLE 4 boot)
  | .heartbeat chip tw staging msns => some ([chip, tw, 0, 0] ++ bytesLE 4 staging ++ msns.flatMap (bytesLE 4))
  | .twinState b => some ([b.rdySys, b.headLo, b.headHi, b.wheel, b.linkLo, b.linkHi].flatMap (bytesLE 4) ++ b.cmpOk ++ [0, 0, 0] ++
      tokenTableBytes b.tokens)
  | _ => none

/-- The 24-byte header of a message (R540). -/
def tHeader (mtype len clear boot seq msn : Nat) : List Nat :=
  bytesLE 2 0x5457 ++ [1, mtype] ++ bytesLE 2 len ++ bytesLE 2 clear ++ bytesLE 4 boot ++ bytesLE 8 seq ++ bytesLE 4 msn

/-- A frame behind its Ethernet header (R540): HELLO alone is clear; another is sealed under K_T, its nonce BOOT and
SEQ, its header the additional data. A body that no rule lays out is a free value (log entry 168). -/
def tFrameBytes (kt boot seq msn : Nat) (m : TMsg) : List Nat :=
  let body := (tBody m).getD (Config.portTBody (tMtype m) seq)
  let clear := decide ((tMtype m) = 1)
  let head := tHeader (tMtype m) body.length (boolNat clear) boot seq msn
  if clear then head ++ body
  else
    let (text, tag) := Config.gcmSeal kt (boot * 2 ^ 64 + seq) head body
    head ++ text ++ bytesBE 16 tag

/-- Send one frame on port T (R540): SEQ counts this sender's frames. Without K_T nothing but HELLO can be sent. -/
def State.tFrame (s : State) (cls msn : Nat) (m : TMsg) : State :=
  if s.tw.hello.isNone ∧ (tMtype m) ≠ 1 then s
  else
    let boot := s.fld twPage TW.BOOT + 2 ^ 31 * s.side
    let t := { s with tw := { s.tw with seq := s.tw.seq + 1 } }
    t.send (.portT cls msn (tFrameBytes t.tw.kt boot t.tw.seq msn m) m)

/-- Highest number sent or received in a class. -/
def State.msnSent (s : State) (cls : Nat) : Nat := storeFind (fun _ => 0) s.tw.msnTx cls
def State.msnSeen (s : State) (cls : Nat) : Nat := storeFind (fun _ => 0) s.tw.msnRx cls

/-- Send a message of a reliable class while paired: it is kept until its MSN is acknowledged (R541). -/
def State.tSend (s : State) (cls : Nat) (m : TMsg) : State :=
  if !s.paired then s
  else
    let n := s.msnSent cls + 1
    let t := { s with tw := { s.tw with msnTx := storePut (fun _ => 0) s.tw.msnTx cls n, unacked := s.tw.unacked ++ [Unacked.mk cls n s.now m] } }
    t.tFrame cls n m

/-- Send a message of no class. -/
def State.tSend0 (s : State) (m : TMsg) : State := s.tFrame clsNone 0 m

/-- Owner and epoch of a token (R537). -/
def State.token (s : State) (n : Nat) : Nat × Nat := s.tw.table.getD n (255, 0)
def State.tokenMine (s : State) (n : Nat) : Bool := decide ((s.token n).1 = s.side)

end Sys2Proof.Machine
end

