-- ==== Sys2Proof/Machine/Lanes.lean ====
section
/-!
DEFINITION. Zones of the mounted load as the state holds them, its members, and what each lane can do
(R27, R28, R278, R382, R406, R573).
-/
namespace Sys2Proof.Machine

/-! Zones -/

/-- A zone that has never left Empty. -/
def ZoneSt.empty : ZoneSt :=
  { ns := 0, state := 0, wp := 0, zcap := 3145728, enc := 0, fired := 0, conf := 0, gen := 0, pad := 0, mirrorAck := false,
    sealed := false, stopped := false, width := [], collide := 0, staged := [], unmirrored := [], pads := [], everFired := false,
    finish := false, byCtl := false, replaying := false, digest := [], digestOk := true, nextPatrol := 0, passes := 0, lastPass := 0,
    patrolSaved := 0 }

/-- Zone k of the mounted load, k = 300 * lane + lane zone. -/
def State.zone (s : State) (k : Nat) : ZoneSt := storeFind (fun _ => ZoneSt.empty) s.st.zones k
def State.setZone (s : State) (k : Nat) (z : ZoneSt) : State :=
  { s with st := { s.st with zones := storePut (fun _ => ZoneSt.empty) s.st.zones k z } }

/-- Change the stripe engine's state. -/
def State.setSt (s : State) (x : StripeSt) : State := { s with st := x }
def State.setCat (s : State) (c : CatSt) : State := s.setSt { s.st with cat := c }

/-- The zone's entry of the interrupted list, for the reason `flags` (R487). -/
def ZoneSt.intZone (z : ZoneSt) (load k flags : Nat) : IntZone :=
  { ns := z.ns, load := load, zone := k, flags := flags, before := z.wp, after := z.wp }

/-- Add an entry to the interrupted zones (R487) and post its notice (R499). -/
def State.addInt (s : State) (k flags : Nat) : State :=
  State.notice { s with jr := { s.jr with interrupted := s.jr.interrupted ++ [(s.zone k).intZone s.load.id k flags] } } .c2h

/-- The write pointer after replay or completion enters the zone's entries with a FLAGS bit, and further
bits with it (R487). -/
def State.intAfter (s : State) (k bit more : Nat) : State :=
  let z := s.zone k
  { s with jr := { s.jr with interrupted := s.jr.interrupted.map fun e =>
    if e.load = s.load.id ∧ e.zone = k ∧ e.flags = bit then { e with after := z.wp, flags := bit + more } else e } }

/-! Widths and LBAs (R378, R402, R473) -/

/-- The width entry in force at a stripe: none for full width. -/
def widthAt (w : List WidthEntry) (i : Nat) : Option WidthEntry :=
  (w.filter fun e => decide (e.first ≤ i)).getLast?.bind fun e => if e.narrowed then some e else none

/-- LBAs of a stripe (R473). -/
def stripeLbas (w : List WidthEntry) (i : Nat) : Nat := if (widthAt w i).isSome then 80 else 96

/-- Runs of stripes of one width: first stripe, stripe after the last, LBAs each. -/
def widthRuns (w : List WidthEntry) : List (Nat × Nat × Nat) :=
  let starts := (0, 96) :: w.map fun e => (e.first, if e.narrowed then 80 else 96)
  let ends := (w.map fun e => e.first) ++ [stripesPerZone]
  starts.zipWith (fun s e => (s.1, e, s.2)) ends

/-- First LBA of a stripe (R473). -/
def stripeFirstLba (w : List WidthEntry) (i : Nat) : Nat :=
  ((widthRuns w).map fun (a, b, l) => (min i b - min i a) * l).sum

/-- LBAs that the zone's stripes hold. -/
def zoneLbas (w : List WidthEntry) : Nat := stripeFirstLba w stripesPerZone

/-- The stripe that holds an LBA, and the LBA's place in it (R473). -/
def stripeOfLba (w : List WidthEntry) (j : Nat) : Option (Nat × Nat) :=
  let step (acc : Option (Nat × Nat) × Nat) (r : Nat × Nat × Nat) : Option (Nat × Nat) × Nat :=
    let (found, base) := acc
    let (a, b, l) := r
    let n := (b - a) * l
    if found.isSome then acc
    else if j < base + n then (some (a + (j - base) / l, (j - base) % l), base)
    else (none, base + n)
  ((widthRuns w).foldl step (none, 0)).1

/-- The layout of a stripe: positions of P, Q and the data members (R378). -/
def stripeLayout (excluded : Option Nat) (i : Nat) : Nat × Nat × List Nat :=
  let q := match excluded with
    | none => List.range 8
    | some x => (List.range 8).filter fun p => p != x
  let p := q.getD (i % q.length) 0
  let r := q.getD ((i + 1) % q.length) 0
  (p, r, q.filter fun y => y != p && y != r)

/-- Excluded position of a stripe of a zone. -/
def ZoneSt.excluded (z : ZoneSt) (i : Nat) : Option Nat := (widthAt z.width i).map fun e => e.excluded

/-- Setting address of stripe i of zone k, and its block (R131). -/
def zoneSa (k i : Nat) : Nat := settingAddr (zoneLayer (k % 300)) (zoneSetting (k % 300) (i / 4))
def zonePba (k i : Nat) : Nat := pbaOf (zoneLayer (k % 300)) (zoneSetting (k % 300) (i / 4)) (i % 4)

/-- Zone and first stripe of a setting on a lane. -/
def zoneOfSa (lane sa : Nat) : Option (Nat × Nat) :=
  (zoneOfSetting (saLayer sa) (saSetting sa)).map fun x => (300 * lane + x.1, 4 * x.2)

/-! Members and lanes (R382, R406, R573) -/

/-- The member at a stripe position, and its head on a lane. -/
def State.memberAt (s : State) (p : Nat) : Option Member := s.load.members.find? fun m => decide (m.pos = p)
def State.memberHead (s : State) (lane p : Nat) : Option Nat :=
  (s.memberAt p).bind fun m => if m.accepted then m.wheel.map fun w => 4 * w + lane else none

/-- Wheels without an accepted member, and stripe positions without one: they are paired in order, so
that a position that is missing still has heads to name it by. -/
def State.freeWheels (s : State) : List Nat :=
  (List.range 8).filter fun w => !s.load.members.any fun m => decide (m.wheel = some w) && m.accepted
def State.missingPos (s : State) : List Nat := (List.range 8).filter fun p => match s.memberAt p with
  | some m => !(m.accepted && m.wheel.isSome)
  | none => true

/-- The stripe position of a head of a main wheel. -/
def State.headPos (s : State) (h : Nat) : Option Nat :=
  match s.load.members.find? fun m => decide (m.wheel = some (h / 4)) && m.accepted with
  | some m => some m.pos
  | none => (s.freeWheels.zip s.missingPos).findSome? fun x => if x.1 = h / 4 then some x.2 else none

/-- The head that a stripe position of a lane is named by. -/
def State.posHead (s : State) (lane p : Nat) : Nat :=
  match s.memberHead lane p with
  | some h => h
  | none => 4 * (((s.missingPos.zip s.freeWheels).findSome? fun x => if x.1 = p then some x.2 else none).getD 0) + lane

/-- The sagger on a main wheel, as far as it is known: serial and disc IDs. -/
def State.wheelSagger (s : State) (w : Nat) : Option (Nat × List Nat) :=
  match s.load.members.find? fun m => decide (m.wheel = some w) with
  | some m => some (m.serial, m.discs)
  | none => storeFind (fun _ => none) s.load.others w

/-- The disc under a main head, and the serial of its sagger; 0 while neither is known. -/
def State.headDisc (s : State) (h : Nat) : Nat := ((s.wheelSagger (h / 4)).map fun g => g.2.getD (h % 4) 0).getD 0
def State.headSagger (s : State) (h : Nat) : Nat := ((s.wheelSagger (h / 4)).map fun g => g.1).getD 0

/-- Serial of the sagger, and the slot, that the disc under a head is catalogued under; for H32 those of the re-throw. -/
def State.fireDisc (s : State) (h : Nat) : Nat × Nat :=
  if h = 32 then (s.st.rt.new, s.fld stripePage STRIPE.RT_STAT_SLOT) else (s.headSagger h, h % 4)

/-- The identity of the disc under a head; for H32 the one in the kick wheel's slot. -/
def State.fireDiscId (s : State) (h : Nat) : Nat :=
  if h = 32 then s.st.rt.discs.getD (s.fld stripePage STRIPE.RT_STAT_SLOT) 0 else s.headDisc h

/-- What the catalogue keeps of a disc goes with the disc: its number there, from sagger serial and slot. -/
def discKeyOf (serial slot : Nat) : Nat := 4 * serial + slot
def State.discKey (s : State) (h : Nat) : Nat := discKeyOf (s.fireDisc h).1 (s.fireDisc h).2

/-- The number of the disc that a head's stripe position has, also while its sagger is missing. -/
def State.memberKey (s : State) (h : Nat) : Nat := match (s.headPos h).bind s.memberAt with
  | some m => discKeyOf m.serial (h % 4)
  | none => s.discKey h

/-- A block of the disc at a head's stripe position is void or a shard (R403). -/
def State.marked (s : State) (h sa blk kind : Nat) : Bool :=
  s.st.cat.marks.any fun m => decide (m.disc = s.memberKey h) && decide (m.sa = sa) && bitOf m.blocks blk && decide (m.kind = kind)

/-- A disc that is not fired on (R117). -/
def State.noFire (s : State) (h : Nat) : Bool := s.st.cat.noFire.contains (s.fireDiscId h)

/-! Catalogue records (R401-R405) -/

/-- Seconds since 1970 (log entry 2). -/
def State.utc (s : State) : Nat := Config.utcStart (s.fld twPage TW.BOOT) + s.now / 1000000000

/-- Put a record into the cache with the next SEQ (R123, R401); the twin is told (R541). -/
def State.catPut (s : State) (serial : Nat) (slot : Option Nat) (ty : Nat) (body : List Nat) : State :=
  let c := s.st.cat
  let t := s.setCat { c with seq := c.seq + 1,
                             recs := c.recs ++ [{ serial := serial, slot := slot, ty := ty, body := body, seq := c.seq + 1, fired := [] }] }
  (t.setFld hyPage HY.SHELF_CAT_GEN ((c.seq + 1) % 65536)).tSend clsControl (.forward (.catalogue serial (slot.getD 4) ty body (c.seq + 1)))

/-- A record for every fireable member disc of a lane (R401). -/
def State.lanePut (s : State) (lane ty : Nat) (body : List Nat) : State :=
  s.forEach (List.range 8) fun u p =>
    match u.memberAt p with
    | some m => if u.fldBit stripePage STRIPE.MEMBER_FIRE (8 * lane + p) then u.catPut m.serial (some lane) ty body else u
    | none => u

/-- The body of a void or shard mark (R403), and putting one: every fireable member disc of the lane gets it (R401). -/
def markBody (sa blocks kind gen zone pos : Nat) : List Nat :=
  bytesBE 4 sa ++ [blocks, kind, 0, 0] ++ bytesBE 4 gen ++ bytesBE 2 (zone % 300) ++ [zone / 300, pos]
def State.putMark (s : State) (h sa blocks kind gen zone : Nat) : State :=
  let c := s.st.cat
  let t := s.setCat { c with marks := c.marks ++ [{ disc := s.memberKey h, sa := sa, blocks := blocks, kind := kind, gen := gen, zone := zone }] }
  t.lanePut (zone / 300) 5 (markBody sa blocks kind gen zone ((t.headPos h).getD 0))

/-! Readiness (R382, R406, R573) -/

/-- A head is reported ready by its owner: here, or in the twin's TWIN_STATE (R573). -/
def State.headReady (s : State) (h : Nat) : Bool :=
  (if h < 32 then s.fldBit rdyPage RDY.HEAD_LO h else s.fldBit rdyPage RDY.HEAD_HI 0) ||
  (s.paired && match s.tw.twin with
    | some t => if h < 32 then bitOf t.headLo h else bitOf t.headHi 0
    | none => false)

/-- A head is write-retired (R277, R279). -/
def State.retired (s : State) (h : Nat) : Bool :=
  if h < 32 then s.fldBit firePage FIRE.WR_RETIRE_LO h else s.fldBit firePage FIRE.WR_RETIRE_HI 0

/-- Bring the members' words, the lanes' states and their events up to date (R278, R382, R406, R418, R573). -/
def State.refreshLaneBits (s : State) (lane : Nat) : State :=
  let p := stripePage
  let s1 := s.forEach (List.range 8) fun u pos =>
    let ok := match u.memberHead lane pos with
      | some h => u.headReady h && decide (u.fld (wheelPage (h / 4)) WHEEL.WH_STAT_STATE ≠ 10) &&
          !u.flag (bandPage h) BAND.BAND_STAT_NO_READ
      | none => false
    let fire := match u.memberHead lane pos with
      | some h => !u.retired h && !u.noFire h
      | none => false
    (u.setFldBit p STRIPE.MEMBER_OK (8 * lane + pos) (ok && u.load.mounted)).setFldBit p STRIPE.MEMBER_FIRE (8 * lane + pos)
      (fire && u.load.mounted)
  if !s.load.mounted then s1
  else
    let okN := lanePop (s1.fld p STRIPE.MEMBER_OK) lane
    let fireN := lanePop (s1.fld p STRIPE.MEMBER_FIRE) lane
    let bit (f : Fld) (u : State) (b : Bool) := u.setFldBit p f lane b
    let was (f : Fld) := s.fldBit p f lane
    let t := bit STRIPE.SE_STAT_LANE_DEGRADED s1 (okN == 7)
    let t := bit STRIPE.SE_STAT_LANE_NOREDUN t (decide (okN ≤ 6))
    let t := bit STRIPE.SE_STAT_LANE_NARROW t (fireN == 7)
    let t := bit STRIPE.SE_STAT_LANE_NOFIRE t (decide (fireN ≤ 6))
    let t := if okN = 7 ∧ !was STRIPE.SE_STAT_LANE_DEGRADED then (t.istat p 8).event p 0x5101 3 0xFF lane else t
    let t := if okN ≤ 6 ∧ !was STRIPE.SE_STAT_LANE_NOREDUN then (t.istat p 9).event p 0x5102 5 0xFF lane else t
    let gone := ((List.range 8).filter fun pos => match s.memberHead lane pos with
      | some h => s.retired h
      | none => false).length
    -- since when each position has been missing (R406, R409)
    let missing := (List.range 8).foldl (fun m pos =>
      let lost := (List.range 4).any fun l => !t.fldBit p STRIPE.MEMBER_OK (8 * l + pos)
      storePut (fun _ => none) m pos (if lost then some ((storeFind (fun _ => none) m pos).getD t.now) else none)) t.load.missing
    let t := { t with load := { t.load with missing := missing } }
    let stopped := s.load.stopped.filter fun l => decide (l ≠ lane)
    let t := { t with load := { t.load with stopped := if 2 ≤ gone then lane :: stopped else stopped } }
    let t := if 2 ≤ gone ∧ !s.load.stopped.contains lane then
        -- zones of a lane with two write-retired members enter Read Only (R278, R475; log entry 156)
        let u := t.event firePage 0x4206 5 0xFF lane
        u.forEach ((List.range 300).map fun z => 300 * lane + z) fun v k =>
          let z := v.zone k
          if 1 ≤ z.state ∧ z.state ≤ 3 then (v.setZone k { z with state := 5, stopped := true }).addInt k 32 else v
      else t
    t.laneRdy lane

/-- Missing members of a lane of the mounted load, and the STATE of its health entry (R488). -/
def State.laneMissing (s : State) (lane : Nat) : Nat :=
  if s.load.mounted then 8 - lanePop (s.fld stripePage STRIPE.MEMBER_OK) lane else 0
def laneHealth (missing : Nat) : Nat := if missing = 0 then 0 else if missing ≤ 2 then 3 else 4

/-- A lane is brought up to date; a worse health entry is told (R499). -/
def State.refreshLane (s : State) (lane : Nat) : State :=
  let t := s.refreshLaneBits lane
  if laneHealth (s.laneMissing lane) < laneHealth (t.laneMissing lane) then t.notice .health else t

/-- Every lane. -/
def State.refreshLanes (s : State) : State := s.forEach (List.range 4) State.refreshLane

/-- The position that a lane's stripes leave out now (R382). -/
def State.laneExcluded (s : State) (lane : Nat) : Option Nat :=
  if s.fldBit stripePage STRIPE.SE_STAT_LANE_NARROW lane then
    (List.range 8).find? fun p => !s.fldBit stripePage STRIPE.MEMBER_FIRE (8 * lane + p)
  else none

/-- A main head reads or fires: a setting boundary of the load is to come (R420). -/
def State.loadActive (s : State) : Bool :=
  (s.pool.wants.any fun r => decide (r.head < 32) && r.on) || (List.range 32).any fun h =>
    decide (s.fld (firestatPage h) FIRESTAT.STATE = 2) || decide (s.fld (firestatPage h) FIRESTAT.STATE = 3)

/-! What is fired (R109-R113, R157) -/

/-- The 72 codewords of a setting from its four blocks, as header and payload (R110-R112). -/
def settingData (blocks : List (BlockHeader × List Nat)) : List (List Nat) :=
  settingSlots ((List.range 4).flatMap fun k =>
    match blocks[k]? with
    | some (h, p) => blockCodewords ((p ++ List.replicate 65536 0).take 65536) (headerBytes h)
    | none => List.replicate 17 (List.replicate 4096 0))

/-- The data field of a test-firing segment (R263): runs of 1 to 11, marks first, cut off at 2,880 bits. -/
def testField : List Bool :=
  let cycle := (List.range 11).map fun n => n + 1
  ((List.range 44).flatMap fun c => cycle.flatMap fun n => List.replicate n (((11 * c + n) % 2 == 1))).take 2880

/-- The channel bits of one track of a setting: 72 segments (R97). -/
def trackBits (kind : FireKind) (sa : Nat) (slots : List (List Nat)) (b : Nat) : List Bool :=
  let g := saSetting sa
  (List.range 72).flatMap fun p =>
    match kind with
    | .test _ => syncMark ++ addrField (segmentAddr p g) ++ testField
    | _ => settingSegment g slots p b

/-- The 32 blocks of chunk c (R157): two of each track, the first bit of recording order in bit 63. -/
def fireChunk (r : ReadySet) (c : Nat) : List Nat :=
  let slots := settingData r.blocks
  (List.range 16).flatMap fun b =>
    let bits := ((trackBits r.kind r.sa slots b).drop (128 * c)).take 128
    [ofBitsMSB (bits.take 64), ofBitsMSB (bits.drop 64)]

/-- A head's firing state at reset, and reading and setting it. -/
def FireHead.idle : FireHead :=
  { arm := [], firing := none, scanned := [], collided := [], place := none, await := [], trims := List.replicate 16 0, every := List.replicate 16 0,
    bound := List.replicate 16 0, half := none, segs := 0, stops := 0, misses := [], margins := [], calDue := false, stopping := false,
    calibrated := [], headerPass := 0, tests := [], mon := (0, 0), mons := [] }
def State.fireHead (s : State) (h : Nat) : FireHead := storeFind (fun _ => FireHead.idle) s.fire.heads h
def State.setFireHead (s : State) (h : Nat) (f : FireHead) : State :=
  { s with fire := { s.fire with heads := storePut (fun _ => FireHead.idle) s.fire.heads h f } }

/-- What a companion's firing slot is armed with. -/
def State.armed (s : State) (h k : Nat) : Option ReadySet := storeFind (fun _ => none) (s.fireHead h).arm k
def State.setArmed (s : State) (h k : Nat) (r : Option ReadySet) : State :=
  let f := s.fireHead h
  s.setFireHead h { f with arm := storePut (fun _ => none) f.arm k r }

/-- The value in force of a field of the firing table (R279): a write takes effect at the next run. -/
def State.ffld (s : State) (f : Fld) : Nat :=
  match storeFind (fun _ => none) s.fire.held (fldKey firePage f 0) with
  | some v => v
  | none => s.fld firePage f

/-! Stops (R159, R272) -/

/-- Firing status of a head (R280). -/
def State.fireState (s : State) (h : Nat) : Nat := s.fld (firestatPage h) FIRESTAT.STATE
def State.setFireState (s : State) (h n : Nat) : State :=
  s.setFld (firestatPage h) FIRESTAT.STATE (if s.retired h then 5 else n)

/-- Take what a slot is armed with back to the ready settings: it stays blank and ready (R258, R272). -/
def State.unarm (s : State) (h k : Nat) : State :=
  let st := if k = 0 then HEAD.FIRE_STAT_SLOT0 else HEAD.FIRE_STAT_SLOT1
  match s.armed h k with
  | none => s
  | some r =>
    let t := (s.setArmed h k none).setFld (headPage h) st 0
    { t with fire := { t.fire with ready := r :: t.fire.ready } }

/-- Slots armed and not begun empty. -/
def State.unarmIdle (s : State) (h : Nat) : State :=
  s.forEach [1, 0] fun u k => if (u.fireHead h).firing = some k then u else u.unarm h k

/-- FIRE_STOP with IMMEDIATE: the setting in progress is left partly fired; its FIRE_EVENT 6 follows. -/
def State.stopImmediate (s : State) (h : Nat) : State :=
  let t := (s.send (.down h (.fireStop true))).count (firestatPage h) FIRESTAT.STOP_IMM
  t.unarmIdle h

/-- A head is firing: in a run, in state 2 or 3. -/
def State.headFires (s : State) (h : Nat) : Bool := decide (s.fireState h = 2) || decide (s.fireState h = 3)

/-- An immediate stop ends firing on the head for this run; it prevails over a boundary stop whose setting is still under way. -/
def State.dropFiring (s : State) (h : Nat) : State :=
  if s.headFires h || ((s.fireHead h).stopping && (s.fireHead h).firing.isSome) then
    let t := (s.stopImmediate h).setFireState h 4
    t.setFireHead h { t.fireHead h with stopping := false }
  else s

end Sys2Proof.Machine
end

