-- ==== Sys2Proof/Machine/Motion.lean ====
section
/-!
DEFINITION. The motion engine (R356-R377): profiles, moves, interlocks, sled step delivery, homing.
Sleds take their steps in servo frames, pin axes by the time; within a step, positions are kept to 10^-6 step and speeds to
1 step/s, and the edges' 5 ns are not (log entry 162).
-/
namespace Sys2Proof.Machine

/-! Axes -/

/-- Axes 0 to 32 are sleds; 33 the elevator; 34 to 37 loader X, Z, G, P (R356). -/
def isSled (a : Nat) : Bool := decide (a < 33)
def isLoader (a : Nat) : Bool := decide (34 ≤ a ∧ a < 38)
def axElv : Nat := 33
def axX : Nat := 34
def axZ : Nat := 35
def axG : Nat := 36
def axP : Nat := 37

/-- A switch that no report has shown. -/
def RawSwitch.none : RawSwitch := { level := Option.none, since := 0, pos := 0, edges := [] }

/-- An axis at rest. -/
def AxisSt.rest : AxisSt :=
  { mode := .none, start := 0, up := true, group := [], prof := { vStart := 0, vStop := 0, vBrk := 0, vMax := 0, a1 := 0, a2 := 0 },
    segs := [], t0 := 0, run := 0, made := 0, num := 1, den := 1, stopping := false, fault := 0, farHits := 0,
    reversed := false, travel := 0, endAt := 0, acc := 0, ofs := none, seeking := false, home := .none, far := .none }

/-- An axis. -/
def State.axis (s : State) (a : Nat) : AxisSt := storeFind (fun _ => AxisSt.rest) s.mot.axes a

/-- Set an axis. -/
def State.setAxis (s : State) (a : Nat) (x : AxisSt) : State :=
  { s with mot := { s.mot with axes := storePut (fun _ => AxisSt.rest) s.mot.axes a x } }

/-- Position of an axis, in steps. -/
def State.axPos (s : State) (a : Nat) : Int := s.fldS (axisBlock a) AXIS.POS

/-- Set the position of an axis. -/
def State.setAxPos (s : State) (a : Nat) (z : Int) : State := s.setFldS (axisBlock a) AXIS.POS z

/-- AX_STAT.STATE of an axis. -/
def State.axState (s : State) (a : Nat) : Nat := s.fld (axisBlock a) AXIS.AX_STAT_STATE

/-- Set AX_STAT.STATE, with the MOVING bits (R375). -/
def State.setAxState (s : State) (a n : Nat) : State :=
  (s.setFld (axisBlock a) AXIS.AX_STAT_STATE n).setPairBit motionPage MOTION.MOVING_LO MOTION.MOVING_HI a
    (decide (n = 2 ∨ n = 3 ∨ n = 4))

/-- Set or clear HOMED of an axis, with the HOMED bits, ELV_STAT, LD_STAT.HOMED and the RDY bits (R375-R377, R369). -/
def State.setAxHomed (s : State) (a : Nat) (b : Bool) : State :=
  let t := (s.setFlag (axisBlock a) AXIS.AX_STAT_HOMED b).setPairBit motionPage MOTION.HOMED_LO MOTION.HOMED_HI a b
  if a = axElv then
    let t := t.setRdy RDY.ELEVATOR_HOMED b
    if b then t else t.setFld kickPage KICK.ELV_STAT_SLOT 7
  else if isLoader a then
    let all := [axX, axZ, axG, axP].all fun x => t.flag (axisBlock x) AXIS.AX_STAT_HOMED
    let t := (t.setFlag loaderPage LOADER.LD_STAT_HOMED all).setRdy RDY.LOADER_HOMED all
    if all then t.milestone 7 else t
  else t

/-- Set the fault of an axis, with the FAULT bits (R375). -/
def State.setAxFault (s : State) (a n : Nat) : State :=
  (s.setFld (axisBlock a) AXIS.AX_STAT_FAULT n).setPairBit motionPage MOTION.FAULT_LO MOTION.FAULT_HI a (decide (n ≠ 0))

/-- EN of an axis as driven: bit 0 of PINS. -/
def State.setAxEn (s : State) (a : Nat) (b : Bool) : State := s.setFldBit (axisBlock a) AXIS.AX_STAT_PINS 0 b

/-- Whether this controller owns an axis (R356, R357): the companion obeys it, SP8_OWN, or LD_OWN. -/
def State.axOwned (s : State) (a : Nat) : Bool :=
  if isSled a then decide (s.fld (headPage a) HEAD.LINK_STAT_COMP_OWNER = 1)
  else if a = axElv then s.flag (wheelPage 8) WHEEL.WH_STAT_OWN_OUT
  else s.flag loaderPage LOADER.LD_STAT_OWN_OUT && !s.flag loaderPage LOADER.LD_STAT_CONFLICT

/-- Whether an axis moves. -/
def State.axMoving (s : State) (a : Nat) : Bool := decide (s.axState a = 2 ∨ s.axState a = 3 ∨ s.axState a = 4)

/-- Values in force of an axis' block: those written while it moves wait for its next move (R375). -/
def State.axCfg (s : State) (a : Nat) (f : Fld) : Nat := s.cfg (axisBlock a) f
def State.axCfgS (s : State) (a : Nat) (f : Fld) : Int := signed 32 (s.axCfg a f)

/-- The profile that an axis' registers hold (R358). -/
def State.axProfile (s : State) (a : Nat) : Profile :=
  let f (x : Fld) : Nat := s.axCfg a x
  { vStart := f AXIS.V_START, vStop := f AXIS.V_STOP, vBrk := f AXIS.V_BRK, vMax := f AXIS.V_MAX, a1 := f AXIS.A1, a2 := f AXIS.A2 }

/-- A profile is valid (R358). STEP_W in 100 ns: 1/(2 STEP_W) is 5,000,000 / STEP_W steps/s. -/
def State.profileOk (s : State) (a : Nat) : Bool :=
  let p := s.axProfile a
  decide (p.vStart ≤ p.vBrk) && decide (p.vStop ≤ p.vBrk) && decide (p.vBrk ≤ p.vMax) && decide (p.a1 ≠ 0) &&
  decide (p.a2 ≠ 0) &&
  (isSled a || (decide (p.vMax ≤ 200000) && decide (p.vMax * s.cfgIn (axisBlock a) AXISP.STEP_CFG_STEP_W 5 25 ≤ 5000000)))

/-! Ramps (R358, R359). Distances are in steps, doubled and multiplied by A1 A2 to stay whole. -/

/-- Twice the ramp distance from v0 up to v through V_BRK, times A1 A2. -/
def rampUp (p : Profile) (v0 v : Nat) : Nat :=
  if v ≤ p.vBrk then (v * v - v0 * v0) * p.a2
  else (p.vBrk * p.vBrk - v0 * v0) * p.a2 + (v * v - p.vBrk * p.vBrk) * p.a1

/-- The ramps to and from speed v fit in L steps. -/
def rampsFit (p : Profile) (v l : Nat) : Bool :=
  decide (rampUp p p.vStart v + rampUp p p.vStop v ≤ 2 * l * p.a1 * p.a2)

/-- The highest speed in `lo` to `hi` whose ramps fit, by halving the range `fuel` times. -/
def peakSearch (p : Profile) (l : Nat) : Nat → Nat → Nat → Nat
  | 0, lo, _ => lo
  | fuel + 1, lo, hi =>
    if hi ≤ lo then lo
    else
      let m := (lo + hi + 1) / 2
      if rampsFit p m l then peakSearch p l fuel m hi else peakSearch p l fuel lo (m - 1)

/-- Peak speed of a move of L steps (R359), in whole steps/s: V_MAX where the full ramps fit, else the
highest speed whose ramps fit; when even the starting ramp does not fit, max of V_START and V_STOP. -/
def peakSpeed (p : Profile) (l : Nat) : Nat :=
  let lo := max p.vStart p.vStop
  if !rampsFit p lo l then lo
  else if rampsFit p p.vMax l then p.vMax
  else peakSearch p l 32 lo p.vMax

/-! Motions (R358, R360) -/

/-- A ramp between two speeds; a cruise over a distance in 10^-6 steps. -/
def rampSeg (v0 v1 a : Nat) : List Seg :=
  if v0 = v1 ∨ a = 0 then [] else [{ v0 := v0, v1 := v1, a := a, dist := ((v1 * v1 - v0 * v0) + (v0 * v0 - v1 * v1)) * 500000 / a }]
def cruiseSeg (v dist : Nat) : List Seg := if dist = 0 then [] else [{ v0 := v, v1 := v, a := 0, dist := dist }]

/-- Acceleration from v0 to v, at A1 up to V_BRK and at A2 above; deceleration from v to V_STOP the other way round. -/
def upSegs (p : Profile) (v0 v : Nat) : List Seg :=
  if v ≤ p.vBrk then rampSeg v0 v p.a1 else if p.vBrk ≤ v0 then rampSeg v0 v p.a2 else rampSeg v0 p.vBrk p.a1 ++ rampSeg p.vBrk v p.a2
def downSegs (p : Profile) (v : Nat) : List Seg :=
  if v ≤ p.vStop then []
  else if v ≤ p.vBrk then rampSeg v p.vStop p.a1
  else if p.vBrk ≤ p.vStop then rampSeg v p.vStop p.a2
  else rampSeg v p.vBrk p.a2 ++ rampSeg p.vBrk p.vStop p.a1

/-- Length of a motion, in 10^-6 steps. -/
def segsDist (gs : List Seg) : Nat := (gs.map (·.dist)).sum

/-- A move of L steps (R358, R359): ramps to the peak speed and from it, and what is left at it; at max(V_START, V_STOP)
throughout where the starting ramp does not fit. -/
def moveSegs (p : Profile) (l : Nat) : List Seg :=
  let lo := max p.vStart p.vStop
  if !rampsFit p lo l then cruiseSeg lo (l * 1000000)
  else
    let v := peakSpeed p l
    let ups := upSegs p p.vStart v
    let downs := downSegs p v
    ups ++ cruiseSeg v (l * 1000000 - segsDist ups - segsDist downs) ++ downs

/-- Time of a stretch, in ns; one at speed 0 never ends. -/
def Seg.ns (g : Seg) : Nat :=
  if g.v0 = g.v1 then (if g.v0 = 0 then 2 ^ 64 else (g.dist * 1000 + g.v0 - 1) / g.v0)
  else ((g.v1 - g.v0) + (g.v0 - g.v1)) * 1000000000 / g.a

/-- Distance made after t ns of a stretch, in 10^-6 steps. -/
def Seg.at' (g : Seg) (t : Nat) : Nat :=
  let dv := g.a * t * t / 2000000000000
  min g.dist (if g.v1 < g.v0 then g.v0 * t / 1000 - dv else g.v0 * t / 1000 + dv)

/-- Distance made after t ns of a motion; its speed then; its time. -/
def segsAt : List Seg → Nat → Nat
  | [], _ => 0
  | g :: r, t => if t < g.ns then g.at' t else g.dist + segsAt r (t - g.ns)
def segsSpeed : List Seg → Nat → Nat
  | [], _ => 0
  | g :: r, t =>
    if t < g.ns then (if g.v1 < g.v0 then g.v0 - g.a * t / 1000000000 else g.v0 + g.a * t / 1000000000)
    else segsSpeed r (t - g.ns)
def segsNs (gs : List Seg) : Nat := (gs.map Seg.ns).sum

/-! Interpolated moves (R361) -/

/-- Magnitude of a move. -/
def moveLen (fromPos toPos : Int) : Nat := (toPos - fromPos).natAbs

/-- The master of a group: the largest |Δ|, lower index on a tie. -/
def moveMaster : List (Nat × Nat) → Nat × Nat
  | [] => (0, 0)
  | [x] => x
  | x :: xs => let y := moveMaster xs; if y.2 < x.2 ∨ (y.2 = x.2 ∧ x.1 < y.1) then x else y

/-- The smaller of two fractions given as (numerator, denominator); a zero denominator stands for no
limit. -/
def minFrac (x y : Nat × Nat) : Nat × Nat :=
  if x.2 = 0 then y else if y.2 = 0 then x else if x.1 * y.2 ≤ y.1 * x.2 then x else y

/-- The factor f of R361 as a fraction, for master (its Δ and profile) and the other axes. -/
def groupFactor (dm : Nat) (m : Profile) (others : List (Nat × Profile)) : Nat × Nat :=
  others.foldl (fun f x =>
    let (d, p) := x
    minFrac f (minFrac (p.vMax * dm, d * m.vMax) (minFrac (p.a1 * dm, d * m.a1) (p.a2 * dm, d * m.a2)))) (1, 1)

/-- A profile with its speeds and accelerations multiplied by a fraction; none becomes 0. -/
def scaleProfile (p : Profile) (f : Nat × Nat) : Profile :=
  let g (v : Nat) := max (min v 1) (v * f.1 / f.2)
  { vStart := g p.vStart, vStop := g p.vStop, vBrk := g p.vBrk, vMax := g p.vMax, a1 := g p.a1, a2 := g p.a2 }

/-- Where an axis of a group stands on master step n of dm: floor(n |Δi| / |Δm|) steps made (R361). -/
def groupSteps (n di dm : Nat) : Nat := if dm = 0 then 0 else n * di / dm

/-! Motion in progress -/

/-- Time for which an axis' present motion has gone on, ns: frames of 2 µs for a sled. -/
def State.axElapsed (s : State) (a : Nat) : Nat := if isSled a then (s.axis a).run else s.now - (s.axis a).t0

/-- The position that a pin axis in motion has reached `ago` ns before now. -/
def State.axPosAgo (s : State) (a ago : Nat) : Int :=
  let x := s.axis a
  let n := groupSteps ((x.made + segsAt x.segs (s.now - ago - x.t0)) / 1000000) x.num x.den
  if x.up then x.start + n else x.start - n

/-- POS of a pin axis in motion follows its steps. -/
def State.axSync (s : State) (a : Nat) : State :=
  if isSled a ∨ !s.axMoving a ∨ (s.axis a).mode = .none then s else s.setAxPos a (s.axPosAgo a 0)

/-- The pin axes go on. -/
def State.motionGo (s : State) : State := s.forEach [axElv, axX, axZ, axG, axP] State.axSync

/-- An axis' present motion is over. -/
def State.axArrived (s : State) (a : Nat) : Bool := decide (segsNs (s.axis a).segs ≤ s.axElapsed a)

/-- A motion begins on an axis: from its position, in a direction, t0 after what t_ENL and t_DSU ask (R362). -/
def State.axRun (s : State) (a : Nat) (up : Bool) (segs : List Seg) : State :=
  let b := axisBlock a
  let x := s.axis a
  let lead := if s.fldBit b AXIS.AX_STAT_PINS 0 then 0 else 1000000 * s.axCfg a AXISP.STEP_CFG_EN_LEAD
  let turn := if s.fldBit b AXIS.AX_STAT_PINS 1 = up then 0 else 5000
  let t := s.setAxis a { x with start := s.axPos a, up := up, segs := segs, t0 := s.now + max lead turn, run := 0, made := 0,
                                num := 1, den := 1, stopping := false }
  if isSled a then t else (t.setAxEn a true).setFldBit b AXIS.AX_STAT_PINS 1 up

/-! Interlocks (R370) -/

/-- A position within STN_TOL of another. -/
def State.within (s : State) (a : Nat) (at' : Int) : Bool :=
  decide ((s.axPos a - at').natAbs ≤ s.fld loaderPage LOADER.STN_TOL)

/-- The wheel station at which X and Z stand, if any. -/
def State.atStation (s : State) : Option Nat :=
  (List.range 9).find? fun w =>
    s.within axX (s.fldS loaderPage LOADER.X_STN w) && s.within axZ (s.fldS loaderPage LOADER.Z_STN w)

/-- The release of station w is present: this controller's CLAMP release, or the twin's (R370). -/
def State.releaseAt (s : State) (w : Nat) : Bool :=
  if s.owned (wheelPage w) then s.flag (wheelPage w) WHEEL.WH_STAT_REL_OUT
  else s.fldBit loaderPage LOADER.TWIN_REL w

/-- An axis is idle for an interlock: it does not move, nor would it by the same command. -/
def State.axIdle (s : State) (with' : List Nat) (a : Nat) : Bool := !s.axMoving a && !with'.contains a

/-- Direction toward home: HOME_DIR 0 is toward lower POS. -/
def State.homeUp (s : State) (a : Nat) : Bool := decide (s.axCfg a AXIS.SW_CFG_HOME_DIR = 1)

/-- The interlocks of R370 permit a loader axis' move to a target, with the axes that the command names; G opens toward
its home. -/
def State.interlockOk (s : State) (with' : List Nat) (a : Nat) (target : Int) : Bool :=
  let pSafe := s.fldS loaderPage LOADER.P_SAFE
  if a = axX ∨ a = axZ then decide (s.axPos axP ≤ pSafe) && s.axIdle with' axG
  else if a = axP then
    if target ≤ pSafe then true
    else
      s.axIdle with' axX && s.axIdle with' axZ &&
      (match s.atStation with
       | none => true
       | some w =>
         s.releaseAt w && !s.flag (wheelPage w) WHEEL.WH_STAT_CLAMP_SNS &&
         (if w = 8 then
            s.flag (wheelPage 8) WHEEL.WH_STAT_OWN_OUT && s.axIdle with' axElv &&
            decide ((s.axPos axElv - s.fldS kickPage KICK.ELV_CLEAR).natAbs ≤ s.fld loaderPage LOADER.STN_TOL)
          else true))
  else if a = axG then
    let towardOpen := decide (target ≠ s.axPos axG) && (decide (s.axPos axG < target) == s.homeUp axG)
    s.axIdle with' axP &&
    (if s.flag loaderPage LOADER.LD_STAT_G_HOLD && towardOpen then
       (match s.atStation with
        | some w => s.within axP (s.fldS loaderPage LOADER.P_HUB) && s.releaseAt w
        | none => s.within axP (s.fldS loaderPage LOADER.P_STORE))
     else true)
  else true

/-! Commands (R358-R361, R369, R375) -/

/-- Axis operations that a move may be refused on, in this order (log entry 12): result of R375. -/
def State.moveCheck (s : State) (as : List Nat) (targets : List Int) : Nat :=
  if as.isEmpty || as.any (fun a => decide (38 ≤ a)) then 8
  else if decide (1 < as.length) && (as.any isSled || as.contains axElv || decide (as.eraseDups.length ≠ as.length)) then 8
  else if as.any (fun a => !s.axOwned a) then 2
  else if as.any (fun a => s.axMoving a) || !s.accepts motionPage then 1
  else if as.any (fun a => decide (s.fld (axisBlock a) AXIS.AX_STAT_FAULT ≠ 0)) then 7
  else if as.any (fun a => !s.flag (axisBlock a) AXIS.AX_STAT_HOMED && !(isSled a && s.flag (axisBlock a) AXIS.AX_STAT_REFD)) then 3
  else if (as.zip targets).any (fun (a, t) =>
      decide (t < s.axCfgS a AXIS.SOFT_MIN) || decide (s.axCfgS a AXIS.SOFT_MAX < t) ||
      (!isSled a && decide (s.axCfg a AXIS.SOFT_MAX = 0))) then 4
  else if as.any (fun a => !s.profileOk a) then 6
  else if (as.zip targets).any (fun (a, t) => isLoader a && !s.interlockOk as a t) then 5
  else 0

/-- MV_RESULT (R375). -/
def State.mvResult (s : State) (ax op code : Nat) : State :=
  ((s.setFld motionPage MOTION.MV_RESULT_AX ax).setFld motionPage MOTION.MV_RESULT_OP op).setFld motionPage
    MOTION.MV_RESULT_CODE code

/-- A refusal by an interlock is counted and raised (R370, R374). -/
def State.interlockRefused (s : State) (code : Nat) : State :=
  if code = 5 then ((s.count loaderPage LOADER.INTLK_CNT).istat motionPage 11).event motionPage 0x7304 3 else s

/-- Start a move of one axis to a target, on the motion of its group's master: state, direction, EN, target, profile latched. -/
def State.startAxis (s : State) (a : Nat) (target : Int) (prof : Profile) (dm : Nat) (group : List Nat) : State :=
  let t := s.axRun a (decide (s.axPos a ≤ target)) (moveSegs prof dm)
  let t := t.setAxis a { t.axis a with mode := .move, group := group, prof := prof, num := moveLen (s.axPos a) target, den := dm,
                                       fault := 0, seeking := false }
  let t := (t.setFldS (axisBlock a) AXIS.TARGET target).setAxState a 2
  let t := t.setFld (axisBlock a) AXIS.AX_STAT_END 0
  if a = axElv then ({ t with mot := { t.mot with elvTarget := none } }.setFld kickPage KICK.ELV_STAT_SLOT 7).setFlag kickPage KICK.ELV_STAT_MOVING true
  else t

/-- The axes of a group begin together, when all may (R361, R362). -/
def State.alignGroup (s : State) (group : List Nat) : State :=
  let t0 := (group.map fun a => (s.axis a).t0).foldl max 0
  s.forEach group fun u a => u.setAxis a { u.axis a with t0 := t0 }

/-- What was written to the blocks of axes while they moved is in force from their next move on (R375). -/
def State.axesApply (s : State) (as : List Nat) : State := s.forEach as fun u a => u.applyCfg (axisBlock a) 0x40

/-- MOVE of one to three axes (R358, R361). -/
def State.mvMove (s : State) (as : List Nat) (targets : List Int) : State :=
  let s := s.axesApply (as.filter fun a => !s.axMoving a)
  let code := s.moveCheck as targets
  let s1 := (s.mvResult (as.headD 0) 1 code).interlockRefused code
  if code ≠ 0 then s1
  else
    let moves := as.zip targets
    let lens := moves.map fun (a, t) => (a, moveLen (s.axPos a) t)
    let (m, dm) := moveMaster lens
    let pm := s.axProfile m
    let others := (lens.filter fun x => x.1 ≠ m ∧ x.2 ≠ 0).map fun x => (x.2, s.axProfile x.1)
    let prof := if as.length = 1 then pm else scaleProfile pm (groupFactor dm pm others)
    let group := m :: as.filter (fun a => a ≠ m)
    (s1.forEach moves fun u (a, t) => u.startAxis a t prof dm group).alignGroup group

/-- An axis goes on along the ramp from its present speed to V_STOP (R360). -/
def State.axRamp (s : State) (a : Nat) : State :=
  let y := s.axis a
  let e := s.axElapsed a
  s.setAxis a { y with made := y.made + segsAt y.segs e, segs := downSegs y.prof (segsSpeed y.segs e), t0 := max s.now y.t0, run := 0 }

/-- An axis stops along its ramp, with its group, and will report a fault (0 for a stop) (R360, R361). In a deceleration
what is left of it is that ramp. -/
def State.stopAxis (s : State) (a fault : Nat) : State :=
  if s.axMoving a then
    let x := s.axis a
    let grp := if x.group.isEmpty then [a] else x.group
    s.forEach grp fun u b =>
      let u := if (u.axis b).stopping then u else u.axRamp b
      let y := u.axis b
      (u.setAxis b { y with stopping := true, fault := if b = a then max y.fault fault else y.fault }).setAxState b 4
  else s

/-- Clear the fault of an axis (R375: a HOME or SET_POS clears it). -/
def State.clearAxFault (s : State) (a : Nat) : State :=
  let t := s.setAxFault a 0
  if t.axState a = 5 then t.setAxState a 1 else t

/-- Search travel limit of homing, in steps (R369). -/
def State.homeTravel (s : State) (a : Nat) : Nat :=
  if s.axCfg a AXIS.SOFT_MAX = 0 then 2 ^ 24
  else (22 * (s.axCfgS a AXIS.SOFT_MAX - s.axCfgS a AXIS.SOFT_MIN).natAbs) / 10

/-- The constant speed of the slow phases of homing (R369). -/
def State.homeSlow (s : State) (a : Nat) : Nat :=
  min (s.axCfg a AXIS.HOME_SLOW) (min (s.axCfg a AXIS.V_START) (s.axCfg a AXIS.V_STOP))

/-- Enter a step of homing (R369): 1 and 3 away from home at HOME_SLOW, 2 toward home at HOME_FAST, 4 toward home at
HOME_SLOW, each as far as the search may still travel. Where the switch is inactive as step 3 begins, BACKOFF steps are left. -/
def State.homeStep (s : State) (a step : Nat) : State :=
  let active := s.fldBit (axisBlock a) AXIS.AX_STAT_SW 0
  let step := if step = 2 ∧ active then 3 else step
  let x := s.axis a
  let p := s.axProfile a
  let slow := s.homeSlow a
  let toward := s.homeUp a != x.reversed
  let up := if step = 1 ∨ step = 3 then !toward else toward
  let left := (s.homeTravel a - x.travel) * 1000000
  let fast := s.axCfg a AXIS.HOME_FAST
  let ups := upSegs p (min p.vStart fast) fast
  let back := decide (step = 3) && !active
  let segs := if step = 2 then ups ++ cruiseSeg fast (left - segsDist ups + 1)
    else cruiseSeg slow (if back then 1000000 * s.axCfg a AXIS.BACKOFF else left + 1)
  let prof := if step = 2 then { p with vMax := fast } else { p with vStart := slow, vStop := slow, vMax := slow }
  let t := s.axRun a up segs
  (t.setAxis a { t.axis a with mode := .home step back, prof := prof, group := [] }).setAxState a 3

/-- Begin HOME on an axis that may start it. -/
def State.beginHome (s : State) (a : Nat) : State :=
  let t := ((s.axesApply [a]).clearAxFault a).setFld (axisBlock a) AXIS.AX_STAT_END 0
  let t := t.setAxHomed a false
  let t := t.setAxis a { t.axis a with fault := 0, farHits := 0, reversed := false, travel := 0, seeking := false }
  let t := if a = axElv then t.setFlag kickPage KICK.ELV_STAT_MOVING true else t
  t.homeStep a (if t.fldBit (axisBlock a) AXIS.AX_STAT_SW 0 then 1 else 2)

/-- The interlocks of R370 permit the homing of a loader axis: toward home, P retracts and G opens. -/
def State.homeInterlockOk (s : State) (a : Nat) : Bool :=
  let target : Int := if a = axG then (if s.homeUp a then s.axPos a + 1 else s.axPos a - 1) else s.fldS loaderPage LOADER.P_SAFE
  s.interlockOk [] a target

/-- HOME of one axis (R369): refused as R375 lists; a loader axis is not homed while the gripper may
hold a sagger, outside the order of R372. -/
def State.mvHome (s : State) (a : Nat) : State :=
  let s := if s.axMoving a then s else s.axesApply [a]
  let code :=
    if 38 ≤ a then 8
    else if !s.axOwned a then 2
    else if s.axMoving a || !s.accepts motionPage then 1
    else if !s.profileOk a then 6
    else if isLoader a && (!s.homeInterlockOk a || s.flag loaderPage LOADER.LD_STAT_G_HOLD && !s.mot.plan.contains (.home a)) then 5
    else 0
  let s1 := (s.mvResult a 2 code).interlockRefused code
  if code ≠ 0 then s1 else s1.beginHome a

/-- STOP (R360). -/
def State.mvStop (s : State) (a : Nat) : State :=
  let code := if 38 ≤ a then 8 else if !s.axOwned a then 2 else 0
  let s1 := s.mvResult a 3 code
  if code ≠ 0 then s1 else s1.stopAxis a 0

/-- DISABLE (R360): EN goes at once and the move ends where the axis stands. -/
def State.disableAxis (s : State) (a : Nat) : State :=
  let moving := s.axMoving a
  let s := (if 1 < (s.axis a).group.length then s.stopAxis a 0 else s).axSync a
  let t := (s.setAxis a { s.axis a with mode := .none, stopping := false, group := [], segs := [], endAt := s.now }).setAxState a 0
  let t := t.setAxEn a false
  let t := if a = axElv then { t with mot := { t.mot with elvTarget := none } }.setFlag kickPage KICK.ELV_STAT_MOVING false else t
  if moving then (t.setFld (axisBlock a) AXIS.AX_STAT_END 2).istat motionPage 8 else t

/-- DISABLE command. -/
def State.mvDisable (s : State) (a : Nat) : State :=
  let code := if 38 ≤ a then 8 else if !s.axOwned a then 2 else 0
  let s1 := s.mvResult a 4 code
  if code ≠ 0 then s1 else s1.disableAxis a

/-- SET_POS (R375): POS takes MV_TGT0, and the fault is cleared. -/
def State.mvSetPos (s : State) (a : Nat) (pos : Int) : State :=
  let code := if 38 ≤ a then 8 else if !s.axOwned a then 2 else if s.axMoving a then 1 else 0
  let s1 := s.mvResult a 5 code
  if code ≠ 0 then s1 else (s1.clearAxFault a).setAxPos a pos

/-- A write of MV_CMD executes with the targets that MV_TGT0 to MV_TGT2 hold (R375). -/
def State.mvCmd (s : State) (op nax a0 a1 a2 : Nat) : State :=
  let tgt (i : Nat) : Int := s.fldS motionPage MOTION.MV_TGT i
  match op with
  | 1 =>
    if nax = 0 then s.mvResult a0 1 8
    else s.mvMove ([a0, a1, a2].take nax) ([tgt 0, tgt 1, tgt 2].take nax)
  | 2 => if nax = 1 then s.mvHome a0 else s.mvResult a0 2 8
  | 3 => if nax = 1 then s.mvStop a0 else s.mvResult a0 3 8
  | 4 => if nax = 1 then s.mvDisable a0 else s.mvResult a0 4 8
  | 5 => if nax = 1 then s.mvSetPos a0 (tgt 0) else s.mvResult a0 5 8
  | _ => s

/-- STOP_ALL (R375): every owned axis stops under R360. -/
def State.stopAll (s : State) : State :=
  s.forEach (List.range 38) fun u a => if u.axOwned a then u.stopAxis a 0 else u

/-- The elevator command (R373, R377). A profile that is invalid, or a position outside the soft limits, gives code 5 (log entry
163). -/
def State.elvCmd (s : State) (target : Nat) (h32Parked : Bool) : State :=
  let b := axisBlock axElv
  let s := if s.axMoving axElv then s else s.axesApply [axElv]
  let pos := if target = 4 then s.fldS kickPage KICK.ELV_CLEAR else s.fldS kickPage KICK.ELV_POS target
  let may := s.profileOk axElv && decide (s.axCfgS axElv AXIS.SOFT_MIN ≤ pos) && decide (pos ≤ s.axCfgS axElv AXIS.SOFT_MAX) &&
    decide (s.axCfg axElv AXIS.SOFT_MAX ≠ 0)
  let code :=
    if !s.flag (wheelPage 8) WHEEL.WH_STAT_OWN_OUT then 2
    else if s.axMoving axElv || !s.accepts kickPage then 1
    else if s.fld b AXIS.AX_STAT_FAULT ≠ 0 then 5
    else if !s.flag b AXIS.AX_STAT_HOMED then 4
    else if !h32Parked then 3
    else if !may then 5
    else 0
  let s1 := s.setFld kickPage KICK.ELV_RESULT_CODE code
  if code ≠ 0 ∨ 4 < target then s1
  else
    let t := s1.startAxis axElv pos (s.axProfile axElv) (moveLen (s.axPos axElv) pos) [axElv]
    { t with mot := { t.mot with elvTarget := some target } }

/-! Sleds (R363-R365) -/

/-- round(16 × 13.6533 × n) of R364: 16 × 3.2/0.234375 = 218.4533 = 16384/75 per band. -/
def bandSixteenths (n : Nat) : Nat := (2 * 16384 * n + 75) / 150

/-- At an address confirmed with TR closed, the sled's band offset is set and the sled is referenced
(R364). -/
def State.sledReference (s : State) (h band : Nat) : State :=
  let b := axisBlock h
  (s.setFldS b AXISS.BAND0_POS (16 * s.axPos h - bandSixteenths band)).setFlag b AXIS.AX_STAT_REFD true

/-- Start the sled move of a SEEK to a band (R364); none when the sled is not referenced. -/
def State.sledSeek (s : State) (h band : Nat) : Option State :=
  let b := axisBlock h
  if !s.flag b AXIS.AX_STAT_REFD || s.axMoving h then none
  else
    let pos : Int := (s.fldS b AXISS.BAND0_POS + bandSixteenths band) / 16
    let s := s.axesApply [h]
    let t := s.startAxis h pos (s.axProfile h) (moveLen (s.axPos h) pos) [h]
    some (t.setAxis h { t.axis h with seeking := true })

/-- One servo frame of a sled (R363): the microsteps that its SERVO message carries, and the state after: the steps of its
profile in 2 µs, else those of the SL output `sl` (Q1.31), 25,600/3 steps/s at full scale. The last step of a move is at its
target. -/
def State.sledFrame (s : State) (h : Nat) (sl : Int) : Int × State :=
  let x := s.axis h
  let running := s.axMoving h && (x.mode != .none)
  let left : Int := s.fldS (axisBlock h) AXIS.TARGET - s.axPos h
  let bounded := (x.mode == .move || x.mode == .home 5 false) && !x.stopping
  let d : Nat := (segsAt x.segs (x.run + 2000) - segsAt x.segs x.run) * 1000000
  let add : Int :=
    if running then (if x.up then (d : Int) else -(d : Int))
    else sl * 51200000000 / (3 * 2147483648)
  let total := x.acc + add
  let n0 := total.tdiv 1000000000000
  let last := decide (segsNs x.segs ≤ x.run + 2000)
  let n := if running && bounded then (if last then left else if x.up then clampInt 0 left n0 else clampInt left 0 n0) else n0
  let s1 := s.setAxis h { x with run := if running then x.run + 2000 else x.run, acc := total - n0 * 1000000000000 }
  (n, s1.setAxPos h (s1.axPos h + n))

/-- End of a motion: AX_STAT.END, state, interrupt (R360, R375). -/
def State.endMotion (s : State) (a endCode fault : Nat) : State :=
  let s := s.axSync a
  let x := s.axis a
  let t := s.setAxis a { x with mode := .none, stopping := false, group := [], fault := 0, segs := [], endAt := s.now }
  let t := (t.setFld (axisBlock a) AXIS.AX_STAT_END endCode).istat motionPage 8
  let t := if fault = 0 then t.setAxState a 1
    else ((t.setAxFault a fault).setAxState a 5).istat motionPage 9
  if a = axElv then
    let t := if fault = 0 then t else t.setFld kickPage KICK.ELV_RESULT_CODE 5
    ({ t with mot := { t.mot with elvTarget := none } }).setFlag kickPage KICK.ELV_STAT_MOVING false
  else t

/-- The sled of a head whose link is lost ends its move with fault 6 (R365). -/
def State.sledLinkLost (s : State) (h : Nat) : State := if s.axMoving h then s.endMotion h 3 6 else s

/-- Homing has not found home (R369): the axis stops from speed v under R360 and ends with fault 3. -/
def State.homeNotFound (s : State) (a : Nat) : State := (s.stopAxis a 3).event motionPage 0x7303 5 a

/-- Ownership of an axis gained or lost: state 6 while not owned; a lost move reports fault 4; a gained
axis is unhomed and idle (R357). -/
def State.axOwnership (s : State) (a : Nat) (gained : Bool) (keep : Bool) : State :=
  if gained then
    let t := s.setAxState a (if isSled a then 1 else 0)
    if keep then t else (t.setAxHomed a false).setFlag (axisBlock a) AXIS.AX_STAT_REFD false
  else
    let t := if s.axMoving a then s.endMotion a 3 4 else s
    (t.setAxState a 6).setAxEn a false

end Sys2Proof.Machine
end

