-- ==== Sys2Proof/Machine/Servo.lean ====
section
/-!
DEFINITION. The control engine's slots (R283-R310, R322): arithmetic, pipeline, presets, banks and
swaps, load, shedding, the fire permit's limits. A signal is an Int in units of 2^-31, an
accumulator an Int in units of 2^-46.
-/
namespace Sys2Proof.Machine

/-! Arithmetic (R284, R285) -/

/-- A coefficient: mantissa and shift (R284). -/
structure Coef where
  m : Int
  sh : Nat
  deriving DecidableEq, Repr

/-- Signal and accumulator bounds (R285). -/
def sigMax : Int := 2147483647
def accMax : Int := 9223372036854775807

/-- A product joins the accumulator: x M shifted right by 8 + SH (R285). -/
def coefMul (c : Coef) (x : Int) : Int := x * c.m / (2 ^ (8 + c.sh) : Nat)

/-- Accumulation with saturation; the second component counts saturations (R285). -/
def accAdd (a : Int × Nat) (p : Int) : Int × Nat :=
  let z := a.1 + p
  if accMax < z then (accMax, a.2 + 1) else if z < -accMax then (-accMax, a.2 + 1) else (z, a.2)

/-- Write-back of an accumulator to a signal: shift right 15 with round-half-up, saturate (R285). -/
def writeBack (a : Int × Nat) : Int × Nat :=
  let z := (a.1 + 16384) / 32768
  if sigMax < z then (sigMax, a.2 + 1) else if z < -sigMax then (-sigMax, a.2 + 1) else (z, a.2)

/-- A sum of signals held within a signal's range. -/
def sigClamp (z : Int) : Int := clampInt (-sigMax) sigMax z

/-- A signal at accumulator weight. -/
def sigToAcc (x : Int) : Int := x * 32768

/-! The pipeline (R286, R287, R289) -/

/-- The state block of a slot (R293). -/
structure SlotSt where
  bq : List (Int × Int)
  i : Int
  sa : Int
  ePrev : Int
  uPrev : Int
  dither : Nat
  deriving DecidableEq, Repr

/-- What one bank holds besides its coefficients (R292). -/
structure BankPar where
  spBase : Int
  outMin : Int
  outMax : Int
  slew : Int
  iLim : Int
  nbq : Nat
  nbqS : Nat
  saLim : Int
  deriving DecidableEq, Repr

/-- One sample as computed: x0, output of each stage, cascade output e, result u, the new state,
saturations, and whether the preset clipped (R286). -/
structure SlotOut where
  x0 : Int
  stages : List Int
  e : Int
  u : Int
  st : SlotSt
  sat : Nat
  clip : Bool
  deriving DecidableEq, Repr

/-- One biquad in transposed direct form II (R286 step 2). -/
def biquad (c : Nat → Coef) (k : Nat) (st : Int × Int) (x : Int) (n : Nat) : Int × (Int × Int) × Nat :=
  let y := writeBack (accAdd (coefMul (c (5 * k)) x, n) st.1)
  let s1 := accAdd (accAdd (coefMul (c (5 * k + 1)) x, y.2) (-(coefMul (c (5 * k + 3)) y.1))) st.2
  let s2 := accAdd (coefMul (c (5 * k + 2)) x, s1.2) (-(coefMul (c (5 * k + 4)) y.1))
  (y.1, (s1.1, s2.1), s2.2)

/-- Biquads k to k + n - 1 in cascade: output, stage outputs, new states of all eight, saturations. -/
def cascade (c : Nat → Coef) : Nat → Nat → List (Int × Int) → Int → Nat → Int × List Int × List (Int × Int) × Nat
  | 0, _, sts, x, sat => (x, [], sts, sat)
  | n + 1, k, sts, x, sat =>
    let (y, s', sat1) := biquad c k (sts.getD k (0, 0)) x sat
    let (z, ys, sts', sat2) := cascade c n (k + 1) (listSet sts k s') y sat1
    (z, y :: ys, sts', sat2)

/-- A coefficient's value in units of 2^-54 (R284). -/
def coefValue (c : Coef) : Int := c.m * (2 ^ (31 - c.sh) : Nat)

/-- Steady state of a biquad for constant input x (R289): output and states. -/
def presetBiquad (c : Nat → Coef) (k : Nat) (x : Int) : Int × (Int × Int) :=
  let num := coefValue (c (5 * k)) + coefValue (c (5 * k + 1)) + coefValue (c (5 * k + 2))
  let den := (2 ^ 54 : Nat) + coefValue (c (5 * k + 3)) + coefValue (c (5 * k + 4))
  if den.natAbs < 2 ^ 34 then (x, (0, 0))
  else
    let y := sigClamp ((2 * num * x + den).fdiv (2 * den))
    (y, (sigToAcc y - coefMul (c (5 * k)) x, coefMul (c (5 * k + 2)) x - coefMul (c (5 * k + 4)) y))

/-- Presets of biquads k to k + n - 1: cascade output and states (R289). -/
def presetCascade (c : Nat → Coef) : Nat → Nat → List (Int × Int) → Int → Int × List (Int × Int)
  | 0, _, sts, x => (x, sts)
  | n + 1, k, sts, x =>
    let (y, s') := presetBiquad c k x
    presetCascade c n (k + 1) (listSet sts k s') y

/-- The preset of a bumpless transfer (R289): the state from which the sample's output is u_m. -/
def presetState (c : Nat → Coef) (p : BankPar) (st : SlotSt) (x0 ff um : Int) : SlotSt × Bool :=
  let (e, sts) := presetCascade c p.nbq 0 st.bq x0
  let i := sigToAcc um - coefMul (c 40) e - coefMul (c 44) ff
  let lim := sigToAcc p.iLim
  let i' := clampInt (-lim) lim i
  ({ st with bq := sts, ePrev := e, i := i', uPrev := um }, decide (i' ≠ i))

/-- Steps 1 to 6 of a sample (R286, R287) from input `x0in` (after step 1 for an OQ slot, which takes
its input as it is), with an optional preset to u_m. -/
def slotCompute (c : Nat → Coef) (p : BankPar) (st0 : SlotSt) (direct : Bool) (inp sp ff : Int)
    (preset : Option Int) : SlotOut :=
  let x := if direct then (inp, 0) else writeBack (coefMul (c 43) (sigClamp (inp - sp)), 0)
  let (st, clip) := match preset with | some um => presetState c p st0 x.1 ff um | none => (st0, false)
  let (e, ys, bq, sat1) := cascade c p.nbq 0 st.bq x.1 x.2
  let a := accAdd (accAdd (accAdd (coefMul (c 40) e, sat1) st.i) (coefMul (c 42) (sigClamp (e - st.ePrev)))) (coefMul (c 44) ff)
  let u0 := writeBack a
  let u1 := clampInt p.outMin p.outMax u0.1
  let u2 := if p.slew = 0 then u1 else clampInt (st.uPrev - p.slew) (st.uPrev + p.slew) u1
  let ki := coefMul (c 41) e
  let holdI := (decide (u2 < u0.1) && decide (0 < ki)) || (decide (u0.1 < u2) && decide (ki < 0))
  let lim := sigToAcc p.iLim
  let i' := if holdI || decide ((c 41).m = 0) then st.i else clampInt (-lim) lim (st.i + ki)
  { x0 := x.1, stages := ys, e := e, u := u2, sat := u0.2, clip := clip,
    st := { st with bq := bq, i := i', ePrev := e, uPrev := u2 } }

/-! Slot memory (R290-R293) -/

/-- A word of CE memory. -/
def State.ce32 (s : State) (a : Nat) : Nat := s.word (ceWindow + a)

/-- A signed word of CE memory. -/
def State.ceS32 (s : State) (a : Nat) : Int := signed 32 (s.ce32 a)

/-- A 64-bit signed value of CE memory. -/
def State.ceS64 (s : State) (a : Nat) : Int := signed 64 (s.ce32 a + 2 ^ 32 * s.ce32 (a + 4))

/-- Words of a 64-bit signed value. -/
def words64 (z : Int) : List Nat := let v := unsigned 64 z; [v % 2 ^ 32, v / 2 ^ 32]

/-- Offset in CE memory of bank 0 (A) or 1 (B) of a slot (R292). -/
def bankAddr (n bank : Nat) : Nat := 0x800 * n + 0x200 + 0x200 * bank

/-- The active bank of a slot. -/
def State.activeBank (s : State) (n : Nat) : Nat := s.fld (ceSlot n) CESLOT.ACTIVE

/-- Coefficient entry i of a bank (R292). -/
def State.bankCoef (s : State) (n bank i : Nat) : Coef :=
  { m := s.ceS32 (bankAddr n bank + 8 * i), sh := s.ce32 (bankAddr n bank + 8 * i + 4) % 32 }

/-- The parameters of a bank (R292); NBQ and NBQ_S together do not exceed 8, NBQ of an OQ slot not 4 (R305, R306). -/
def State.bankPar (s : State) (n bank : Nat) : BankPar :=
  let b := bankAddr n bank
  let nb := s.ce32 (b + 0x18C)
  let oq := decide (s.fld (ceSlot n) CESLOT.TYPE = 5)
  let nbq := min (if oq then 4 else 8) (nb % 16)
  { spBase := s.ceS32 (b + 0x178), outMin := s.ceS32 (b + 0x17C), outMax := s.ceS32 (b + 0x180),
    slew := s.ceS32 (b + 0x184), iLim := s.ceS32 (b + 0x188), nbq := nbq, nbqS := if oq then min 4 (nb / 16 % 16) else 0,
    saLim := s.ceS32 (b + 0x190) }

/-- The state block of a slot (R293). -/
def State.slotSt (s : State) (n : Nat) : SlotSt :=
  let b := 0x800 * n + 0x600
  { bq := (List.range 8).map fun k => (s.ceS64 (b + 16 * k), s.ceS64 (b + 16 * k + 8)),
    i := s.ceS64 (b + 0x80), sa := s.ceS64 (b + 0x88), ePrev := s.ceS32 (b + 0x90), uPrev := s.ceS32 (b + 0x94),
    dither := s.ce32 (b + 0x98) }

/-- The words of a state block. -/
def slotStWords (x : SlotSt) : List Nat :=
  (x.bq.flatMap fun p => words64 p.1 ++ words64 p.2) ++ words64 x.i ++ words64 x.sa ++
  [unsigned 32 x.ePrev, unsigned 32 x.uPrev, x.dither]

/-- Write a slot's state block and LAST_OUT (R291: LAST_OUT is u_prev). -/
def State.setSlotSt (s : State) (n : Nat) (x : SlotSt) : State :=
  (s.setWords (ceWindow + 0x800 * n + 0x600) (slotStWords x)).setFldS (ceSlot n) CESLOT.LAST_OUT x.uPrev

/-- Mode of a slot (R288). -/
def State.slotMode (s : State) (n : Nat) : Nat := s.fld (ceSlot n) CESLOT.MODE

/-- Modes of R288. -/
def modeOff : Nat := 0
def modeOpen : Nat := 1
def modeClosed : Nat := 2
def modeHold : Nat := 3
def modeFault : Nat := 4
def modeArmed : Nat := 5

/-- Set the mode of a slot. Entering FAULT counts LOOP_FAULT, sets SLOT_FAULT and PG_ISTAT bit 8;
leaving it clears SLOT_FAULT (R317, R322). -/
def State.setMode (s : State) (n m : Nat) : State :=
  let was := s.slotMode n
  let t := s.setFld (ceSlot n) CESLOT.MODE m
  if m = modeFault ∧ was ≠ modeFault then
    ((t.setFldBit ctrlengPage CTRLENG.SLOT_FAULT (n % 32) true (n / 32)).count ctrlengPage CTRLENG.LOOP_FAULT).istat ctrlengPage 8
  else if was = modeFault ∧ m ≠ modeFault then t.setFldBit ctrlengPage CTRLENG.SLOT_FAULT (n % 32) false (n / 32)
  else t

/-- MANUAL of a slot as a signal. -/
def State.setManual (s : State) (n : Nat) (z : Int) : State := s.setFldS (ceSlot n) CESLOT.MANUAL (sigClamp z)

/-! Load (R297, R299) -/

/-- Rate of a slot in 1/400 of the servo frame: 400, 25 (every 16 frames), 8 (CM tick), 0. -/
def State.slotRate400 (s : State) (n : Nat) : Nat :=
  match s.fld (ceSlot n) CESLOT.RATE with
  | 0 => 400
  | 1 => 25
  | 2 => 8
  | _ => 0

/-- Lane cycles of one sample of a slot with a given bank (R297). -/
def State.slotCost (s : State) (n bank : Nat) : Nat :=
  let p := s.bankPar n bank
  16 + 5 * p.nbq + (if s.fld (ceSlot n) CESLOT.TYPE = 5 then 12 + 5 * p.nbqS else 0)

/-- Sum over the enabled slots of cost times rate, in 1/400 lane cycles per frame; slot `n` counted as
enabled with bank `bank` when `alt` names it. A slot shed under R299 computes nothing and costs nothing. -/
def State.loadSum (s : State) (alt : Option (Nat × Nat)) : Nat :=
  ((List.range 192).map fun k =>
    match alt with
    | some (n, bank) =>
      if k = n then s.slotCost k bank * s.slotRate400 k
      else if s.slotMode k = modeOff ∨ s.ce.shed.contains k then 0 else s.slotCost k (s.activeBank k) * s.slotRate400 k
    | none => if s.slotMode k = modeOff ∨ s.ce.shed.contains k then 0 else s.slotCost k (s.activeBank k) * s.slotRate400 k).sum

/-- LOAD in 0.1 % over the active lanes (R297): 2,000 lane cycles per lane and frame. -/
def State.loadPermille (s : State) (alt : Option (Nat × Nat)) : Nat :=
  let lanes := s.fld ctrlengPage CTRLENG.CE_STAT_LANES
  if lanes = 0 then 0xFFFF else s.loadSum alt * 1000 / (400 * 2000 * lanes)

/-- LOAD_LIMIT in 0.1 % (R297, range of R322). -/
def State.loadLimit (s : State) : Nat := 10 * s.cfgIn ctrlengPage CTRLENG.LOAD_CFG_LOAD_LIMIT 50 95

/-- LOAD.NOW and LOAD.PEAK follow the enabled slots. -/
def State.updateLoad (s : State) : State :=
  let l := min 0xFFFF (s.loadPermille none)
  (s.setFld ctrlengPage CTRLENG.LOAD_NOW l).peak ctrlengPage CTRLENG.LOAD_PEAK l

/-! Swaps (R300, R301) -/

/-- A swap takes effect at a sample boundary, or is refused by the load budget (R297, R300). -/
def State.takeSwap (s : State) (n : Nat) : State :=
  let old := s.activeBank n
  let new := 1 - old
  let s1 := s.setFlag (ceSlot n) CESLOT.SWAP_PEND false
  let now := s.loadPermille none
  let would := if s.slotMode n = modeOff then now else s.loadPermille (some (n, new))
  if s.loadLimit < would ∧ now < would then s1.event ctrlengPage 0x710A 2 0xFF n
  else
    let a := s.bankPar n old
    let b := s.bankPar n new
    let fresh (k : Nat) : Bool := (decide (a.nbq ≤ k) && decide (k < b.nbq)) || (decide (4 + a.nbqS ≤ k) && decide (k < 4 + b.nbqS))
    let st := s.slotSt n
    let st' := { st with bq := st.bq.zipIdx.map fun (v, k) => if fresh k then (0, 0) else v }
    let s2 := (s1.setFld (ceSlot n) CESLOT.ACTIVE new).setSlotSt n st'
    let s3 := if s.flag (ceSlot n) CESLOT.SWAP_PRESET then
        { s2 with ce := { s2.ce with presetNext := if s2.ce.presetNext.contains n then s2.ce.presetNext else n :: s2.ce.presetNext } }
      else s2
    s3.updateLoad

/-- A swap request of a slot (R301): at once unless the slot is CLOSED. -/
def State.requestSwap (s : State) (n : Nat) : State :=
  if 192 ≤ n then s
  else
    let s1 := s.setFlag (ceSlot n) CESLOT.SWAP_PEND true
    if s.slotMode n = modeClosed then s1 else s1.takeSwap n

/-- Swap requests of the slots whose bits are set, slot 32 k + n for bit n (R301). -/
def State.swapMask (s : State) (k mask : Nat) : State :=
  s.forEach (List.range 32) fun u n => if bitOf mask n then u.requestSwap (32 * k + n) else u

/-- SWAP_HEAD (R301): slots 5 h + j of a head. -/
def State.swapHead (s : State) (h mask : Nat) : State :=
  s.forEach (List.range 5) fun u j => if bitOf mask j then u.requestSwap (5 * h + j) else u

/-! Enabling slots (R322) -/

/-- Whether this controller owns a slot's head or wheel (R322): the companion obeys it, or the wheel's
page reads OWN_SELF. -/
def State.slotOwned (s : State) (n : Nat) : Bool :=
  let u := s.fld (ceSlot n) CESLOT.UNIT
  let wheel := decide (s.fld (ceSlot n) CESLOT.TYPE = 6) || (decide (s.fld (ceSlot n) CESLOT.TYPE = 0) && decide (s.fld (ceSlot n) CESLOT.RATE = 2))
  if wheel then decide (u < 9) && s.owned (wheelPage u)
  else decide (u < 33) && decide (s.fld (headPage u) HEAD.LINK_STAT_COMP_OWNER = 1)

/-- A write of SLOT_EN register k may be executed: every slot newly enabled is owned, and LOAD with
them stays within LOAD_LIMIT (R297, R322). -/
def State.slotEnOk (s : State) (k mask : Nat) : Bool :=
  let old := s.fld ctrlengPage CTRLENG.SLOT_EN k
  let new := (List.range 32).filter fun n => bitOf mask n && !bitOf old n
  let slots := new.map fun n => 32 * k + n
  slots.all (fun n => s.slotOwned n) &&
  (slots.isEmpty ||
    (let extra := (slots.map fun n => if s.slotMode n = modeOff then s.slotCost n (s.activeBank n) * s.slotRate400 n else 0).sum
     let lanes := s.fld ctrlengPage CTRLENG.CE_STAT_LANES
     decide ((s.loadSum none + extra) * 1000 ≤ s.loadLimit * (400 * 2000 * lanes))))

/-- SLOT_EN takes slots from OFF to OPEN, and sets the others OFF (R322). -/
def State.applySlotEn (s : State) (k old new : Nat) : State :=
  (s.forEach (List.range 32) fun u n =>
    let i := 32 * k + n
    if bitOf new n && !bitOf old n then (if u.slotMode i = modeOff then u.setMode i modeOpen else u)
    else if !bitOf new n && bitOf old n then u.setMode i modeOff
    else u).updateLoad

/-! Sampling -/

/-- The feedforward of a slot (R286, R291, R304): none, the layer's SA feedforward word, the spiral
velocity of the wheel under the head, or another slot's output. -/
def State.slotFf (s : State) (n : Nat) (layer : Nat) : Int :=
  let b := ceSlot n
  match s.fld b CESLOT.FF_SRC with
  | 1 => s.ceS32 (0x60000 + 0x100 * s.fld b CESLOT.UNIT + 0x68 + 4 * layer)
  | 2 =>
    let h := s.fld b CESLOT.UNIT
    let w := if h = 32 then 8 else h / 4
    let v := s.fldS (wheelPage w) WHEEL.SPD_MEAS_N * 2147483648 * 8 / 3000000
    if layer % 2 = 0 then v else -v
  | 3 => let k := s.fld b CESLOT.IN_SRC; if 0x40 ≤ k ∧ k < 0x40 + 192 then s.fldS (ceSlot (k - 0x40)) CESLOT.LAST_OUT else 0
  | _ => 0

/-- The set-point of a slot (R286 step 1, R305): SP_BASE, the cascade input, SP_STEP, and for an FO
slot the OQ output and dither `extra`. -/
def State.slotSp (s : State) (n : Nat) (extra : Int) : Int :=
  let src := s.fld (ceSlot n) CESLOT.SP_SRC
  let casc := if src < 192 then s.fldS (ceSlot src) CESLOT.LAST_OUT else 0
  sigClamp ((s.bankPar n (s.activeBank n)).spBase + casc + s.fldS (ceSlot n) CESLOT.SP_STEP + extra)

/-- The output a slot presents without computing (R288, R304, R309). -/
def State.slotIdle (s : State) (n : Nat) : Int :=
  let m := s.slotMode n
  let ty := s.fld (ceSlot n) CESLOT.TYPE
  if m = modeOpen then s.fldS (ceSlot n) CESLOT.MANUAL
  else if m = modeHold then (if ty = 4 then 0 else s.fldS (ceSlot n) CESLOT.LAST_OUT)
  else if m = modeFault then (if ty = 6 then 0 else s.fldS (ceSlot n) CESLOT.LAST_OUT)
  else 0

/-- Commit a sample (R286 step 7, R291): states, LAST_OUT, LAST_IN, SAT_CNT, PRESET_CLIP, LIMIT_RUN. -/
def State.commitSample (s : State) (n : Nat) (p : BankPar) (o : SlotOut) : State :=
  let b := ceSlot n
  let t := (s.setSlotSt n o.st).setFldS b CESLOT.LAST_IN o.x0
  let t := t.count b CESLOT.SAT_CNT o.sat
  let t := if o.clip then t.count b CESLOT.PRESET_CLIP else t
  if o.u = p.outMin ∨ o.u = p.outMax then t.count b CESLOT.LIMIT_RUN else t.setFld b CESLOT.LIMIT_RUN 0

/-- Trace the sample of the slot that TRACE_CFG names (R322): words enter the trace buffer until it is
full. -/
def State.traceSample (s : State) (n : Nat) (o : SlotOut) : State :=
  if s.ce.traceLeft = 0 ∨ s.fld ctrlengPage CTRLENG.TRACE_CFG_SLOT ≠ n then s
  else
    let vs : List Int := match s.fld ctrlengPage CTRLENG.TRACE_CFG_WHAT with
      | 0 => [o.x0, o.u]
      | 1 => [o.e, o.st.i / 32768]
      | 2 => o.stages ++ [o.u]
      | _ => []
    let vs := vs.take s.ce.traceLeft
    let ptr := s.fld ctrlengPage CTRLENG.TRACE_PTR
    let t := s.setWords (ceWindow + 0x80000 + 4 * ptr) (vs.map (unsigned 32))
    let t := t.setFld ctrlengPage CTRLENG.TRACE_PTR (ptr + vs.length)
    { t with ce := { t.ce with traceLeft := t.ce.traceLeft - vs.length } }

/-- One trigger of a slot (R286, R288, R300): a pending swap is taken, an ARMED slot closes by preset
against LAST_OUT, a CLOSED slot computes and commits. `late` sends u_prev and commits nothing (R295).
Answers the output. -/
def State.slotTrigger (s : State) (n : Nat) (direct : Bool) (inp extra : Int) (layer : Nat)
    (close : Option Int) (late : Bool) : Int × State :=
  if late then
    (s.fldS (ceSlot n) CESLOT.LAST_OUT, ((s.count ctrlengPage CTRLENG.DEADLINE_MISS).istat ctrlengPage 11).event ctrlengPage 0x7105 3 0xFF n)
  else
    let s1 := if s.flag (ceSlot n) CESLOT.SWAP_PEND then s.takeSwap n else s
    let armed := decide (s1.slotMode n = modeArmed)
    let pre : Option Int :=
      match close with
      | some u => some u
      | none =>
        if armed then some (s1.fldS (ceSlot n) CESLOT.LAST_OUT)
        else if s1.ce.presetNext.contains n then some (s1.slotSt n).uPrev
        else none
    let s2 := if armed || close.isSome then s1.setMode n modeClosed else s1
    if s2.slotMode n = modeClosed then
      let bank := s2.activeBank n
      let p := s2.bankPar n bank
      let o := slotCompute (s2.bankCoef n bank) p (s2.slotSt n) direct inp (s2.slotSp n extra) (s2.slotFf n layer) pre
      let s3 := { s2 with ce := { s2.ce with presetNext := s2.ce.presetNext.filter (fun k => k ≠ n) } }
      (o.u, (s3.commitSample n p o).traceSample n o)
    else (s2.slotIdle n, s2)

/-- A user slot's output goes to USER_OUT, or to the set-point of the slot SP_SRC names (R291). -/
def State.userOut (s : State) (n : Nat) (u : Int) : State :=
  match s.fld (ceSlot n) CESLOT.OUT_DST with
  | 2 => let k := s.fld (ceSlot n) CESLOT.SP_SRC; if k < 192 then s.setFldS (ceSlot k) CESLOT.SP_STEP u else s
  | _ => s.setFldS ctrlengPage CTRLENG.USER_OUT u (n - 174)

/-- A 16-bit drive: round half up to 2^-15, clamp to ±32,767 (R303). -/
def drive16 (u : Int) : Int := clampInt (-32767) 32767 ((u + 32768) / 65536)

/-- The 12-bit TL drive (R303). -/
def drive12 (u : Int) : Int := clampInt (-2047) 2047 ((u + 524288) / 1048576)

/-- A 16-bit field of SERVO_ERR as a signal: shift left 16 (R302). -/
def field16 (v : BitVec 16) : Int := v.toInt * 65536

/-- The SA channel of an OQ slot (R306): output, the new SA integrator and biquad states, and saturations. -/
def saChannel (c : Nat → Coef) (p : BankPar) (st : SlotSt) (mean saFf prev : Int) : Int × SlotSt × Nat :=
  let x := writeBack (coefMul (c 46) mean, 0)
  let (e, _, bq, sat) := cascade c p.nbqS 4 st.bq x.1 x.2
  let lim := sigToAcc p.saLim
  let i' := clampInt (-lim) lim (st.sa + coefMul (c 45) e)
  let sum := sigClamp (saFf + (i' + 16384) / 32768)
  let out := if p.slew = 0 then sum else clampInt (prev - p.slew) (prev + p.slew) sum
  (out, { st with bq := bq, sa := i' }, sat)

/-- Which writes to slot memory CE refuses (R294), for a byte offset in CE memory. -/
def State.ceWriteRefused (s : State) (a : Nat) : Bool :=
  if a < 0x60000 then
    let n := a / 0x800
    let o := a % 0x800
    let m := s.slotMode n
    if 0x200 ≤ o ∧ o < 0x600 then
      let bank := (o - 0x200) / 0x200
      if bank = s.activeBank n then decide (m ≠ modeOff) else s.flag (ceSlot n) CESLOT.SWAP_PEND
    else if o = 0 ∨ o = 4 then decide (m ≠ modeOff)
    else if 0x600 ≤ o ∧ o < 0x69C then !(decide (m = modeOff) || decide (m = modeOpen) || decide (m = modeArmed))
    else false
  else false

/-- Whether a word of the CE window holds a written value (R290-R293, R322); the rest is reserved or
read-only. -/
def ceWritable (a : Nat) : Bool :=
  if a < 0x60000 then
    let o := a % 0x800
    decide (0x200 ≤ o ∧ o < 0x394) || decide (0x400 ≤ o ∧ o < 0x594) || decide (0x600 ≤ o ∧ o < 0x69C)
  else if a < 0x62100 then
    let o := a % 0x100
    decide (0 < o ∧ o < 0x20) || decide (0x40 ≤ o ∧ o < 0xB8)
  else decide (0x70000 ≤ a ∧ a < 0x7C600) || decide (0x7C800 ≤ a ∧ a < 0x7D100) || decide (0x80000 ≤ a ∧ a < 0x100000)

/-- BANK_CRC of a bank (R291): CRC-32 of its 512 bytes. -/
def State.bankCrc (s : State) (n bank : Nat) : Nat :=
  crc32 ((s.wordsFrom (ceWindow + bankAddr n bank) 128).flatMap (bytesLE 4))

/-- BANK_CRC_RECOMPUTE (R291). -/
def execBankCrcRecompute (slot : SlotIx) (bank : Fin 2) (s : State) : Res :=
  let f := if bank.val = 0 then CESLOT.BANK_CRC_A else CESLOT.BANK_CRC_B
  done (s.setFld (ceSlot slot.val) f (s.bankCrc slot.val bank.val))

/-! The trace (R322) -/

/-- A write of 1 to TRACE_CFG.START fills the trace buffer of 131,072 words once. -/
def State.traceStart (s : State) : State :=
  let t := s.setFld ctrlengPage CTRLENG.TRACE_PTR 0
  { t with ce := { t.ce with traceLeft := 131072 } }

/-- TRACE_FULL (R322): the buffer is full and START reads 0. -/
def execTraceFull (s : State) : Res :=
  if s.flag ctrlengPage CTRLENG.TRACE_CFG_START ∧ s.ce.traceLeft = 0 then
    done (s.setFlag ctrlengPage CTRLENG.TRACE_CFG_START false)
  else done s

/-! Heads' slots -/

/-- Slots of a head: FO, TR, TL, SL, OQ (R283). -/
def slotFo (h : Nat) : Nat := 5 * h
def slotTr (h : Nat) : Nat := 5 * h + 1
def slotTl (h : Nat) : Nat := 5 * h + 2
def slotSl (h : Nat) : Nat := 5 * h + 3
def slotOq (h : Nat) : Nat := 5 * h + 4
def slotSpd (w : Nat) : Nat := 165 + w

/-- Set the mode of the five slots of a head. -/
def State.headModes (s : State) (h m : Nat) : State := s.forEach (List.range 5) fun u j => u.setMode (5 * h + j) m

/-- Whether the companion of a head obeys this controller. -/
def State.headObeys (s : State) (h : Nat) : Bool := decide (s.fld (headPage h) HEAD.LINK_STAT_COMP_OWNER = 1)

end Sys2Proof.Machine
end

