-- ==== Sys2Proof/Machine/Sequencer.lean ====
section
/-!
DEFINITION. The head sequencer (R310-R319), the servo frame of a head (R295, R296, R303-R306), loop
recovery (R317), and a head's readiness (R572).
-/
namespace Sys2Proof.Machine

/-! The sequencer and its block in CE memory (R322) -/

/-- A sequencer at reset. -/
def SeqSt.idle : SeqSt :=
  { op := 0, phase := .idle, attempts := 0, layer := 0, band := 0, curves := 0, surface := false, settle := 0, gap := 0,
    left := 0, toLow := false, jumps := 0, seeks := 0, layers := 0, base := 0, prevFe := 0, stepKind := 0, stepValue := 0,
    locked := false, sfn := 0, missRun := 0, sinceMiss := 2, goodRun := 255, fsLow := 0, trErr := 0, recover := false,
    saved := [], flew := false, qPrev := 0, saSum := 0, saCount := 0, saPrev := 0, moved := false,
    entered := false, prevTe := 0, mid := false, since := 0, stepRun := false, params := [] }

/-- The sequencer of head h. -/
def State.seq (s : State) (h : Nat) : SeqSt := storeFind (fun _ => SeqSt.idle) s.ce.seqs h

/-- Set the sequencer of head h. -/
def State.setSeq (s : State) (h : Nat) (x : SeqSt) : State :=
  { s with ce := { s.ce with seqs := storePut (fun _ => SeqSt.idle) s.ce.seqs h x } }

/-- Address of a word of a head's sequencer block. -/
def seqBlk (h o : Nat) : Nat := 0x60000 + 0x100 * h + o

/-- A word of a head's sequencer block as the sequencer uses it: a command in progress goes by what it read as it
started (R322). -/
def State.seqRaw (s : State) (h o : Nat) : Nat :=
  let q := s.seq h
  if q.op = 0 ∨ q.params.isEmpty then s.ce32 (seqBlk h o) else q.params.getD (o / 4) 0
def State.seqParam (s : State) (h o : Nat) : Int := signed 32 (s.seqRaw h o)

/-- The sequencer reads its block as a command starts (R322). -/
def State.seqRead (s : State) (h : Nat) : State :=
  s.setSeq h { s.seq h with params := (List.range 46).map fun i => s.ce32 (seqBlk h (4 * i)) }

/-- SEQ_STATE of head h. -/
def State.seqWord (s : State) (h : Nat) : Nat := s.ce32 (seqBlk h 0)

/-- State, layer and band that SEQ_STATE reads. -/
def State.seqState (s : State) (h : Nat) : Nat := bitsOf (s.seqWord h) 3 0
def State.seqLayer (s : State) (h : Nat) : Nat := bitsOf (s.seqWord h) 7 4
def State.seqBand (s : State) (h : Nat) : Nat := bitsOf (s.seqWord h) 21 8

/-- Set SEQ_STATE from its fields. -/
def State.putSeqWord (s : State) (h st layer band res : Nat) : State :=
  s.setWord (ceWindow + seqBlk h 0) (st % 16 + layer % 16 * 16 + band % 2 ^ 14 * 256 + res % 16 * 2 ^ 24)

/-- Set the state, the place, the result that SEQ_STATE reads. -/
def State.setSeqState (s : State) (h st : Nat) : State :=
  s.putSeqWord h st (s.seqLayer h) (s.seqBand h) (bitsOf (s.seqWord h) 27 24)
def State.setSeqPlace (s : State) (h layer band : Nat) : State :=
  s.putSeqWord h (s.seqState h) layer band (bitsOf (s.seqWord h) 27 24)

/-- SEQ_RESULT and the block's last result; PG_ISTAT bit 14 (R311, R322). -/
def State.seqResult (s : State) (h op code : Nat) : State :=
  let t := ((s.setFld ctrlengPage CTRLENG.SEQ_RESULT_HEAD h).setFld ctrlengPage CTRLENG.SEQ_RESULT_OP op).setFld ctrlengPage
    CTRLENG.SEQ_RESULT_CODE code
  (t.putSeqWord h (t.seqState h) (t.seqLayer h) (t.seqBand h) code).istat ctrlengPage 14

/-- States of SEQ_STATE. -/
def sqParked : Nat := 0
def sqAcquiring : Nat := 1
def sqFocused : Nat := 2
def sqTracking : Nat := 3
def sqLocked : Nat := 4
def sqJumping : Nat := 5
def sqStep : Nat := 6
def sqHold : Nat := 7
def sqFault : Nat := 8
def sqExported : Nat := 9
def sqArmed : Nat := 10

/-! Readiness (R572) -/

/-- RDY.HEAD bit h follows its five conditions. -/
def State.refreshHead (s : State) (h : Nat) : State :=
  let st := s.seqState h
  let w := if h = 32 then 8 else h / 4
  let ok := s.headObeys h && s.ready (bandPage h) && !s.flag (bandPage h) BAND.BAND_STAT_NO_READ &&
    decide (s.fld (wheelPage w) WHEEL.WH_STAT_STATE ≠ 10) && (s.seq h).locked &&
    (decide (st = sqLocked) || decide (st = sqJumping) || decide (st = sqStep))
  let was := if h < 32 then s.fldBit rdyPage RDY.HEAD_LO h else s.fldBit rdyPage RDY.HEAD_HI 0
  let t := if h < 32 then s.setRdyBit RDY.HEAD_LO h ok else s.setRdyBit RDY.HEAD_HI 0 ok
  if was == ok then t else t.refreshLane (h % 4)

/-- Refresh every head's bit. -/
def State.refreshHeads (s : State) : State := s.forEach (List.range 33) fun u h => u.refreshHead h

/-! The fire permit (R310) -/

/-- The fire permit of head h. -/
def State.permit (s : State) (h : Nat) : Bool := s.pairBit ctrlengPage CTRLENG.FP_STAT_LO CTRLENG.FP_STAT_HI h

/-- Take the permit away; a loss is counted (R322). -/
def State.permitGone (s : State) (h : Nat) : State :=
  let t := s.setPairBit ctrlengPage CTRLENG.FP_STAT_LO CTRLENG.FP_STAT_HI h false
  if s.permit h then
    ((t.count ctrlengPage CTRLENG.PERMIT_LOSS).istat ctrlengPage 10).setSeq h { t.seq h with goodRun := 0 }
  else t

/-- Grant or drop the permit. A permit lost while the head fires stops firing at once (R272). -/
def State.setPermit (s : State) (h : Nat) (b : Bool) : State :=
  if b then s.setPairBit ctrlengPage CTRLENG.FP_STAT_LO CTRLENG.FP_STAT_HI h true
  else
    let t := s.permitGone h
    if s.permit h then t.dropFiring h else t

/-- A signal's magnitude is at most n nm of a full scale of fs nm, or n hundredths of a degree of
100 (R302). -/
def within31 (z : Int) (n fs : Nat) : Bool := decide (z.natAbs * fs ≤ n * 2147483648)

/-- Focus set-point of a head: FO's set-point with the OQ output and dither (R305, R310). -/
def State.oqDither (s : State) (h : Nat) : Int :=
  let d : Int := (s.cfg ctrlengPage CTRLENG.JUMP_CFG_DITHER : Int) * 2147483648 / 1000
  if (s.slotSt (slotOq h)).dither % 2 = 0 then d else -d
def State.foExtra (s : State) (h : Nat) : Int :=
  if s.slotMode (slotOq h) = modeClosed ∨ s.slotMode (slotOq h) = modeHold then
    sigClamp (s.fldS (ceSlot (slotOq h)) CESLOT.LAST_OUT + s.oqDither h)
  else 0

/-- The conditions of R310 on one sample. -/
def State.permitGood (s : State) (h : Nat) (e : ServoErr) : Bool :=
  let closed (n : Nat) := decide (s.slotMode n = modeClosed)
  let q := s.seq h
  closed (slotFo h) && closed (slotTr h) && closed (slotTl h) && decide (q.op = 0) &&
  within31 (field16 e.focus - s.slotSp (slotFo h) (s.foExtra h)) (s.cfg ctrlengPage CTRLENG.FP_LIM_FP_FO) 1000 &&
  within31 (field16 e.track - s.slotSp (slotTr h) 0) (s.cfg ctrlengPage CTRLENG.FP_LIM_FP_TR) 400 &&
  within31 (field16 e.tilt) (s.cfg ctrlengPage CTRLENG.FP_LIM_FP_TL) 100 &&
  decide ((s.cfg ctrlengPage CTRLENG.FS_CFG_FS_MIN : Int) ≤ e.sum.toInt) && decide (2 ≤ q.sinceMiss)

/-- Evaluate the permit on a sample (R310): it drops at once and returns after FP_GOOD good frames. -/
def State.evalPermit (s : State) (h : Nat) (e : ServoErr) : State :=
  let q := s.seq h
  let need := s.cfgIn ctrlengPage CTRLENG.FRAME_CFG_FP_GOOD 1 255
  if s.permitGood h e then
    let run := min 255 (q.goodRun + 1)
    let t := s.setSeq h { q with goodRun := run }
    if need ≤ run then t.setPermit h true else t
  else if s.permit h ∨ q.goodRun < need then (s.setSeq h { q with goodRun := 0 }).setPermit h false
  else s

/-! Slots of a head -/

/-- Close a slot at its next sample by preset against its present output (R289). A slot shed under R299
stays held. -/
def State.closeSlow (s : State) (n : Nat) : State :=
  if s.ce.shed.contains n then s.setMode n modeHold
  else
    let t := s.setMode n modeClosed
    { t with ce := { t.ce with presetNext := if t.ce.presetNext.contains n then t.ce.presetNext else n :: t.ce.presetNext } }

/-- Open a slot at a value. -/
def State.openAt (s : State) (n : Nat) (u : Int) : State := (s.setMode n modeOpen).setManual n u

/-- u_prev of a slot. -/
def State.slotPrev (s : State) (n : Nat) : Int := s.fldS (ceSlot n) CESLOT.LAST_OUT

/-- Parameters of the sequencer by layer (R322): TL_START, SA_FF, FO_OFS. -/
def State.tlStart (s : State) (h layer : Nat) : Int := s.seqParam h (0x40 + 4 * layer)
def State.saFf (s : State) (h layer : Nat) : Int := s.seqParam h (0x68 + 4 * layer)
def State.foOfs (s : State) (h layer : Nat) : Int := s.seqParam h (0x90 + 4 * layer)

/-- At a layer entry the OQ integrator is preset to the layer's FO_OFS (R305), and the head block learns of it (R207). -/
def State.enterLayer (s : State) (h layer : Nat) : State :=
  let t := s.setSlotSt (slotOq h) { s.slotSt (slotOq h) with i := sigToAcc (s.foOfs h layer) }
  t.setSeq h { t.seq h with entered := true }

/-! Read power (R268, R270) -/

/-- The pulse page of a head in the table window. -/
def pulsePage (h : Nat) : Nat := 0x240000 + h * 0x1000

/-- The layer slot of a table page that holds a layer (R211): slot 0 when both match. -/
def State.layerSlot (s : State) (page layer : Nat) : Option Nat :=
  let w := s.word page
  if bitOf w 4 && w % 16 == layer then some 0
  else if bitOf w 12 && w / 256 % 16 == layer then some 1
  else none

/-- A power within READ_PWR_MIN and READ_PWR_MAX. -/
def State.powerOk (s : State) (p : Nat) : Bool :=
  decide (s.ffld FIRE.READ_PWR_MIN ≤ p) && decide (p ≤ s.ffld FIRE.READ_PWR_MAX)

/-- Read power of a ring of a layer, in µW (R268): 700 from the default entry. -/
def State.tablePower (s : State) (h layer ring : Nat) : Nat :=
  match s.layerSlot (pulsePage h) layer with
  | some k => let a := pulsePage h + 0xC00 + 0x40 * k + 2 * ring; s.winByte a + 256 * s.winByte (a + 1)
  | none => 700

/-- Send LASER for reading with a power clamped as R270 says. -/
def State.laserRead (s : State) (h power : Nat) : State :=
  s.send (.down h (.laser 1 (clampNat (s.ffld FIRE.READ_PWR_MIN) (s.ffld FIRE.READ_PWR_MAX) power)))

/-- The read power of a head's present layer and ring. -/
def State.readPower (s : State) (h : Nat) : Nat := s.tablePower h (s.seqLayer h) (ringOfBand (s.seqBand h))

/-! Commands -/

/-- The head's slots go off and PARK is sent (R311, R165). -/
def State.parkHead (s : State) (h : Nat) : State :=
  let t := (s.headModes h modeOff).send (.down h .park)
  let t := t.setFld (bandPage h) BAND.BAND_STAT_MODE 0
  ((t.stopAxis h 0).setSeqState h sqParked).setPermit h false

/-- Begin the sweep of ACQUIRE (R312). -/
def State.startAcquire (s : State) (h layer band attempts : Nat) : State :=
  let t := if s.seqState h = sqParked then s.headModes h modeOff else s.parkHead h
  let t := t.laserRead h (t.tablePower h layer (ringOfBand band))
  let t := t.openAt (slotFo h) (t.seqParam h 4)
  let t := t.openAt (slotTl h) (t.tlStart h layer)
  let t := t.setSeq h { t.seq h with
    op := 1, phase := .sweep, attempts := attempts, layer := layer, band := band, curves := 0, surface := false,
    settle := 0, gap := 0, jumps := 0, seeks := 0, prevFe := 0, locked := false, recover := false, fsLow := 0, trErr := 0, moved := true,
    since := s.now }
  ((t.setSeqState h sqAcquiring).setSeqPlace h layer band).refreshHead h

/-- End the command in progress. -/
def State.seqEnd (s : State) (h : Nat) : State := s.setSeq h { s.seq h with op := 0, phase := .idle }

/-- The command in progress is done. -/
def State.seqDone (s : State) (h : Nat) : State :=
  let q := s.seq h
  let t := s.seqEnd h
  let t := t.setSeq h { t.seq h with locked := true }
  let t := t.setSeqState h sqLocked
  (if q.op = 16 then t else t.seqResult h q.op 0).refreshHead h

/-- A step of the command in progress fails (R312-R315): ACQUIRE repeats from PARK up to ACQ_RETRY
times; another command ends and falls back to ACQUIRE for its target (R320). -/
def State.seqFail (s : State) (h code : Nat) : State :=
  let q := s.seq h
  if q.op = 1 then
    let t := s.count ctrlengPage CTRLENG.ACQ_FAIL
    if q.attempts < s.cfgIn ctrlengPage CTRLENG.ACQ_CFG_ACQ_RETRY 1 15 then
      (t.parkHead h).startAcquire h q.layer q.band (q.attempts + 1)
    else
      let t := ((t.parkHead h).seqEnd h).setSeqState h sqFault
      ((((t.seqResult h 1 code).istat ctrlengPage 9).event ctrlengPage 0x7103 5 0xFF h)).refreshHead h
  else if q.op = 0 then s
  else
    let t := if q.op = 16 then s else (s.seqResult h q.op code).event ctrlengPage 0x7104 3 0xFF h
    t.startAcquire h q.layer q.band 0

/-- Begin a band jump (R315) by a signed number of bands. -/
def State.startJump (s : State) (h : Nat) (bands : Int) (ph : SeqPhase) : State :=
  let u := s.slotPrev (slotTr h)
  let dir : Int := if bands < 0 then -1 else 1
  let t := (s.setMode (slotSl h) modeHold).openAt (slotTr h) (u + dir * s.seqParam h 0x1C)
  let q := t.seq h
  let t := t.setSeq h { q with
    phase := ph, left := bands.natAbs, toLow := decide (bands < 0), mid := false, base := u, jumps := q.jumps + 1, gap := 0, moved := true }
  t.setSeqState h sqJumping

/-- Begin the sled move of a SEEK (R315): TR open at its present output, focus closed. -/
def State.startSeek (s : State) (h band : Nat) : Option State :=
  (s.sledSeek h band).map fun t =>
    let t := (t.setMode (slotSl h) modeHold).openAt (slotTr h) (t.slotPrev (slotTr h))
    let q := t.seq h
    (t.setSeq h { q with phase := .seek, seeks := q.seeks + 1, jumps := 0, moved := true }).setSeqState h sqJumping

/-- Move from a confirmed band toward the target (R312, R315). -/
def State.seqApproach (s : State) (h band : Nat) : State :=
  let q := s.seq h
  let diff : Int := (q.band : Int) - band
  if diff = 0 then s.seqDone h
  else if 2 ≤ q.jumps then s.seqFail h 5
  else if diff.natAbs ≤ s.cfgIn ctrlengPage CTRLENG.JUMP_CFG_BJ_MAX 1 63 then s.startJump h diff .jump
  else if 2 ≤ q.seeks then s.seqFail h 5
  else match s.startSeek h q.band with
    | some t => t
    | none => s.seqFail h 5

/-- A confirmed address of a head (R192, R312, R364): the sled's offset is set while TR is closed, and a
command that waits for the address goes on. -/
def State.seqAddress (s : State) (h layer band : Nat) : State :=
  let t := if s.slotMode (slotTr h) = modeClosed then s.sledReference h band else s
  let t := t.setSeqPlace h layer band
  if (t.seq h).phase = .address then t.seqApproach h band else t

/-- The sled of a SEEK has arrived: tracking is captured (R313, R315). -/
def State.seqSledArrived (s : State) (h : Nat) : State :=
  if (s.seq h).phase = .seek then s.setSeq h { s.seq h with phase := .capture, gap := 0, since := s.now } else s

/-- The band jump or sled position of a step's SP_STEP (R316): slot and value; none for read power. -/
def stepTarget (h kind : Nat) (v : Int) : Option (Nat × Int) :=
  match kind with
  | 1 => some (slotTr h, v * 2147483648 / 400)
  | 2 => some (slotFo h, v * 2147483648 / 1000)
  | 3 => some (slotTl h, v * 2147483648 / 100)
  | _ => none

/-- Read power changed by a percentage. -/
def State.steppedPower (s : State) (h : Nat) (v : Int) : Nat := ((s.readPower h : Int) * (100 + v) / 100).toNat

/-- Apply a STEP after its jump back (R316). -/
def State.applyStep (s : State) (h : Nat) : State :=
  let q := s.seq h
  let t := match stepTarget h q.stepKind q.stepValue with
    | some (n, z) => s.setFldS (ceSlot n) CESLOT.SP_STEP (sigClamp z)
    | none => s.laserRead h (s.steppedPower h q.stepValue)
  (t.setSeq h { q with phase := .stepHold, stepRun := false }).setSeqState h sqStep

/-- The revolution of a STEP counts from the first setting of the band (R316). -/
def State.stepBegins (s : State) (h sa seg : Nat) : State :=
  let q := s.seq h
  if q.phase = .stepHold ∧ !q.stepRun ∧ seg = 0 ∧ saSetting sa = bandFirstSetting q.band then
    s.setSeq h { q with stepRun := true, since := s.now }
  else s

/-- One revolution of a head's wheel at its measured speed, in ns. -/
def State.revolutionNs (s : State) (h : Nat) : Nat :=
  let n := (s.fldS (wheelPage (if h = 32 then 8 else h / 4)) WHEEL.SPD_MEAS_N).toNat
  if n = 0 then 0 else 600000000000 / n

/-- Remove a STEP after its revolution (R316). -/
def State.removeStep (s : State) (h : Nat) : State :=
  let q := s.seq h
  let t := match stepTarget h q.stepKind q.stepValue with
    | some (n, _) => s.setFld (ceSlot n) CESLOT.SP_STEP 0
    | none => s.laserRead h (s.readPower h)
  t.seqDone h

/-- The state that a head's loops show when no command runs. -/
def State.restState (s : State) (h : Nat) : Nat :=
  if s.slotMode (slotFo h) ≠ modeClosed then sqParked
  else if s.slotMode (slotTr h) ≠ modeClosed then sqFocused
  else if (s.seq h).locked then sqLocked else sqTracking

/-- PARK or HOLD aborts the command in progress with result 8 (R311). -/
def State.seqAbort (s : State) (h : Nat) : State :=
  let q := s.seq h
  if q.op = 0 then s
  else
    let t := if q.phase = .seek then s.stopAxis h 0 else s
    (if q.op = 16 then t else t.seqResult h q.op 8).seqEnd h

/-- Offset in CE memory of a head's export record, and of a wheel's (R290). -/
def exportRec (h : Nat) : Nat := 0x70000 + 0x600 * h
def exportSpd (w : Nat) : Nat := 0x7C800 + 0x100 * w

/-- LAST_OUT, PHASE and BANK_CRC of the active bank of a slot: 16 bytes (R318). -/
def State.exportTail (s : State) (n : Nat) : List Nat :=
  let crcF := if s.activeBank n = 0 then CESLOT.BANK_CRC_A else CESLOT.BANK_CRC_B
  [s.fld (ceSlot n) CESLOT.LAST_OUT, s.fld (ceSlot n) CESLOT.PHASE, s.fld (ceSlot n) crcF, 0]

/-- Write a head's export record (R318). -/
def State.writeExport (s : State) (h : Nat) : State :=
  let base := ceWindow + exportRec h
  let t := s.forEach (List.range 5) fun u j =>
    let n := 5 * h + j
    let u := u.setWords (base + 0x100 * j) (slotStWords (u.slotSt n) ++ List.replicate (64 - (slotStWords (u.slotSt n)).length) 0)
    u.setWords (base + 0x500 + 16 * j) (u.exportTail n)
  t.setWords (base + 0x550) [t.seqLayer h, t.seqBand h, ringOfBand (t.seqBand h)]

/-- Write the export record of a wheel's SPD slot (R318). -/
def State.writeExportSpd (s : State) (w : Nat) : State :=
  let n := slotSpd w
  let st := slotStWords (s.slotSt n)
  -- the state block ends at 0x9C; the tail takes the record's last 16 bytes (log entry 16)
  (s.setWords (ceWindow + exportSpd w) st).setWords (ceWindow + exportSpd w + 0xF0) (s.exportTail n)

/-- A state block from the words of a record in CE memory. -/
def State.recordSt (s : State) (b : Nat) : SlotSt :=
  { bq := (List.range 8).map fun k => (s.ceS64 (b + 16 * k), s.ceS64 (b + 16 * k + 8)),
    i := s.ceS64 (b + 0x80), sa := s.ceS64 (b + 0x88), ePrev := s.ceS32 (b + 0x90), uPrev := s.ceS32 (b + 0x94),
    dither := s.ce32 (b + 0x98) }

/-- The BANK_CRCs of a head's record agree with the active banks (R319). -/
def State.importOk (s : State) (h : Nat) : Bool :=
  (List.range 5).all fun j => s.ce32 (exportRec h + 0x500 + 16 * j + 8) == (s.exportTail (5 * h + j)).getD 2 0

/-- IMPORT (R319): the record enters the slots, which are ARMED; OWN = 1 is sent. -/
def State.importHead (s : State) (h : Nat) : State :=
  if !s.importOk h then ((s.headModes h modeOff).seqResult h 10 9).event ctrlengPage 0x710B 4 0xFF h
  else
    let t := s.forEach (List.range 5) fun u j =>
      let n := 5 * h + j
      let x := u.recordSt (exportRec h + 0x100 * j)
      let u := (u.setSlotSt n x).setFld (ceSlot n) CESLOT.PHASE (u.ce32 (exportRec h + 0x500 + 16 * j + 4))
      let u := u.setFld (ceSlot n) CESLOT.LAST_OUT (u.ce32 (exportRec h + 0x500 + 16 * j))
      u.setMode n modeArmed
    let layer := t.ce32 (exportRec h + 0x550)
    let band := t.ce32 (exportRec h + 0x554)
    let t := (t.setSeqState h sqArmed).setSeqPlace h layer band
    let t := t.setSeq h { SeqSt.idle with locked := true, layer := layer, band := band }
    (t.setOwnTx h true).seqResult h 10 0

/-- A command's argument lies in its range (R311, R316). -/
def State.seqArgOk (s : State) (h op arg : Nat) : Bool :=
  let layer := arg % 16
  let band := arg / 16 % 2 ^ 14
  match op with
  | 1 | 2 => decide (layer ≤ 9) && decide (band < bandsPerLayer)
  | 3 => decide ((signed 20 arg).natAbs ≤ s.cfgIn ctrlengPage CTRLENG.JUMP_CFG_BJ_MAX 1 63)
  | 4 => decide (arg % 2 ^ 14 < bandsPerLayer)
  | 5 =>
    let kind := arg % 8
    let v := signed 8 (arg / 16)
    decide (1 ≤ kind ∧ kind ≤ 4) && (kind != 4 || s.powerOk (s.steppedPower h v))
  | _ => true

/-- LAYER_JUMP begins (R314): FO is kicked, the other loops hold. -/
def State.startLayerJump (s : State) (h layer band : Nat) : State :=
  let layers : Int := (layer : Int) - s.seqLayer h
  let dir : Int := if layers < 0 then -1 else 1
  let u := s.slotPrev (slotFo h)
  let t := s.forEach [slotTr h, slotTl h, slotSl h, slotOq h] fun v n => v.setMode n modeHold
  let t := t.openAt (slotFo h) (u + t.seqParam h 0x18 * layers + dir * t.seqParam h 0x10)
  let t := t.setSeq h { s.seq h with op := 2, phase := .kick, layer := layer, band := band, layers := layers, base := u,
                                     curves := 0, left := t.seqRaw h 0x14 % 2 ^ 16, settle := 0, gap := 0, jumps := 0, seeks := 0,
                                     attempts := 0, moved := true, since := s.now }
  ((t.setSeqState h sqJumping).setSeqPlace h layer (t.seqBand h)).setPermit h false

/-- BAND_JUMP begins (R315). -/
def State.startBandJump (s : State) (h : Nat) (n : Int) : State :=
  let target := ((s.seqBand h : Int) + n).toNat
  let t := s.setSeq h { s.seq h with op := 3, layer := s.seqLayer h, band := target, jumps := 0, seeks := 0, attempts := 0 }
  t.startJump h n .jump

/-- SEEK begins (R315): refused with result 1 while the sled moves. -/
def State.startBandSeek (s : State) (h band : Nat) : State :=
  let t := s.setSeq h { s.seq h with op := 4, layer := s.seqLayer h, band := band, jumps := 0, seeks := 0, attempts := 0 }
  match t.startSeek h band with
  | some u => u
  | none => s.seqResult h 4 1

/-- STEP begins (R316): one groove back, then the step. -/
def State.startStep (s : State) (h kind : Nat) (value : Int) : State :=
  let layer := s.seqLayer h
  let t := s.setSeq h { s.seq h with op := 5, layer := layer, band := s.seqBand h, stepKind := kind, stepValue := value,
                                     jumps := 0, seeks := 0, attempts := 0 }
  t.startJump h (if layer % 2 = 0 then -1 else 1) .stepBack

/-- HOLD (R311): what runs is aborted, the loops that are not off hold, their modes are kept for RESUME. -/
def State.holdHead (s : State) (h : Nat) : State :=
  let t := s.seqAbort h
  let modes := (List.range 5).map fun j => t.slotMode (5 * h + j)
  let t := t.forEach (List.range 5) fun u j => if u.slotMode (5 * h + j) = modeOff then u else u.setMode (5 * h + j) modeHold
  let t := t.setSeq h { t.seq h with saved := modes }
  ((t.setSeqState h sqHold).seqResult h 6 0).refreshHead h

/-- RESUME (R311): the loops take the modes that HOLD kept. -/
def State.resumeHead (s : State) (h : Nat) : State :=
  let q := s.seq h
  let t := s.forEach (q.saved.zipIdx) fun u (m, j) => if m = modeClosed then u.closeSlow (5 * h + j) else u.setMode (5 * h + j) m
  let t := t.setSeq h { q with saved := [] }
  let t := if s.seqState h = sqHold then t.setSeqState h (t.restState h) else t
  (t.seqResult h 7 0).refreshHead h

/-- PARK (R311). -/
def State.parkNow (s : State) (h : Nat) : State :=
  let t := s.seqAbort h
  let t := (t.parkHead h).seqEnd h
  (t.seqResult h 8 0).refreshHead h

/-- A sequencer command (R311). The refusals are checked in the order of their numbers (log entry 12);
3 refuses a SEEK on an unreferenced sled (R364). -/
def State.seqCmd (s : State) (h op arg : Nat) : State :=
  let q := s.seq h
  if (q.op ≠ 0 ∨ !s.accepts ctrlengPage) ∧ op ≠ 6 ∧ op ≠ 8 then s.seqResult h op 1
  else if (op ≠ 6 ∧ op ≠ 9 ∧ op ≠ 10) ∧ !s.headObeys h then s.seqResult h op 2
  else if op = 4 ∧ !s.flag (axisBlock h) AXIS.AX_STAT_REFD then s.seqResult h op 3
  else if !s.seqArgOk h op arg then s.seqResult h op 10
  else
  let s := if op ≤ 5 then s.seqRead h else s
  match op with
  | 1 => s.startAcquire h (arg % 16) (arg / 16 % 2 ^ 14) 0
  | 2 => s.startLayerJump h (arg % 16) (arg / 16 % 2 ^ 14)
  | 3 => s.startBandJump h (signed 20 arg)
  | 4 => s.startBandSeek h (arg % 2 ^ 14)
  | 5 => s.startStep h (arg % 8) (signed 8 (arg / 16))
  | 6 => s.holdHead h
  | 7 => s.resumeHead h
  | 8 => s.parkNow h
  | 9 => s.setSeq h { q with op := 9, phase := .exporting }
  | 10 => (s.importHead h).refreshHead h
  | _ => s

/-- The companion stops obeying this controller while the link stays up (R311): a running command ends
with result 2. -/
def State.seqOwnerLost (s : State) (h : Nat) : State :=
  let q := s.seq h
  let t := if q.op = 0 ∨ q.op = 9 then s else (if q.op = 16 then s else s.seqResult h q.op 2).seqEnd h
  (t.permitGone h).refreshHead h

/-- The head's link is lost (R311, R317): its slots go off and the sequencer to parked. -/
def State.seqLinkLost (s : State) (h : Nat) : State :=
  let q := s.seq h
  let t := if q.op = 0 then s else (if q.op = 16 then s else s.seqResult h q.op 7).seqEnd h
  let t := (t.headModes h modeOff).setSeqState h sqParked
  let t := t.setFld (bandPage h) BAND.BAND_STAT_MODE 0
  let t := t.setSeq h { t.seq h with locked := false, recover := false, saved := [] }
  (t.permitGone h).refreshHead h

/-! Recovery (R317) -/

/-- Focus is lost: the five slots hold and the permit drops. -/
def State.focusLost (s : State) (h : Nat) : State :=
  let t := s.forEach (List.range 5) fun u j => if u.slotMode (5 * h + j) = modeOff then u else u.setMode (5 * h + j) modeHold
  let t := t.setPermit h false
  t.setSeq h { t.seq h with recover := true, fsLow := 0 }

/-- Tracking is lost: TR opens at 0, SL holds, and tracking is captured again with an address check. -/
def State.trackingLost (s : State) (h : Nat) : State :=
  let t := (s.openAt (slotTr h) 0).setMode (slotSl h) modeHold
  let t := if (t.seq h).op = 0 then t.seqRead h else t
  let q := t.seq h
  let t := if q.op = 0 then
      t.setSeq h { q with
        op := 16, phase := .capture, gap := 0, trErr := 0, jumps := 0, seeks := 0, layer := t.seqLayer h, band := t.seqBand h, moved := true,
        since := s.now }
    else t.setSeq h { q with trErr := 0, moved := true }
  ((t.setSeqState h sqFocused).setPermit h false).event ctrlengPage 0x7102 3 0xFF h |>.refreshHead h

/-- When samples return after a focus loss the loops close again by preset, or the sequencer acquires. -/
def State.recoverFrame (s : State) (h : Nat) (e : ServoErr) : State :=
  let q := s.seq h
  if !q.recover then s
  else
    let near := within31 (field16 e.focus - s.slotSp (slotFo h) (s.foExtra h)) (s.cfg ctrlengPage CTRLENG.ACQ_CFG_FO_LOCK) 1000
    if decide ((s.cfg ctrlengPage CTRLENG.FS_CFG_FS_MIN : Int) ≤ e.sum.toInt) && near then
      let t := s.forEach (List.range 5) fun u j => if u.slotMode (5 * h + j) = modeOff then u else u.closeSlow (5 * h + j)
      t.setSeq h { t.seq h with recover := false }
    else if s.cfg ctrlengPage CTRLENG.LOAD_CFG_AUTO_REACQ = 1 then
      (((s.seqRead h).startAcquire h (s.seqLayer h) (s.seqBand h) 0).event ctrlengPage 0x7101 3 0xFF h)
    else s

/-! The sequencer's part of a servo frame -/

/-- What the sequencer closes on a frame: u_m for FO, TR, TL. -/
structure Closes where
  fo : Option Int
  tr : Option Int
  tl : Option Int
  deriving DecidableEq, Repr

/-- Nothing closes. -/
def Closes.none : Closes := { fo := Option.none, tr := Option.none, tl := Option.none }

/-- The focus error crosses zero falling. -/
def feFalls (prev now : Int) : Bool := decide (0 < prev) && decide (now ≤ 0)

/-- The tracking error crosses zero upward, or downward, between two frames. -/
def teRises (prev now : Int) : Bool := decide (prev < 0) && decide (0 ≤ now)
def teFalls (prev now : Int) : Bool := decide (0 < prev) && decide (now ≤ 0)

/-- A groove crossing of a jump (R315): positive is a spot inward (R302), so a spot that travels inward passes a groove centre as
the error rises and the middle between two grooves as it falls; outward the other way. Answers whether a groove has been
crossed, and whether the spot has passed a middle since (log entry 160). -/
def grooveCrossed (inward mid : Bool) (prev now : Int) : Bool × Bool :=
  let centre := if inward then teRises prev now else teFalls prev now
  let middle := if inward then teFalls prev now else teRises prev now
  if mid && centre then (true, false) else (false, mid || middle)

/-- One frame of the sequencer (R312-R316). -/
def State.seqFrame (s : State) (h : Nat) (e : ServoErr) (o : ServoObs) : State × Closes :=
  let q := s.seq h
  let fe := field16 e.focus
  let fsMin : Int := s.cfg ctrlengPage CTRLENG.FS_CFG_FS_MIN
  let cross := decide (fsMin ≤ e.sum.toInt) && feFalls q.prevFe fe
  let te := field16 e.track
  let teCross := teRises q.prevTe te || teFalls q.prevTe te
  let (crossed, mid) := grooveCrossed q.toLow q.mid q.prevTe te
  let q := { q with prevFe := fe, prevTe := te, mid := mid }
  let s0 := s.setSeq h q
  let kick := s.seqParam h 0x10
  let dir : Int := if q.layers < 0 then -1 else 1
  let far := q.base + s.seqParam h 0x18 * q.layers
  match q.phase with
  | .sweep =>
    let surf := decide ((s.cfg ctrlengPage CTRLENG.FS_CFG_FS_SURF : Int) ≤ e.sum.toInt)
    let curve := !surf && q.surface && cross
    if curve && q.curves == q.layer then
      let t := (s0.setSeq h { q with phase := .settle, settle := 0 }).setSeqState h sqFocused
      (t.enterLayer h q.layer, { Closes.none with fo := some (s.fldS (ceSlot (slotFo h)) CESLOT.MANUAL) })
    else
      let n := if curve then q.curves + 1 else q.curves
      let u := sigClamp (s.fldS (ceSlot (slotFo h)) CESLOT.MANUAL + s.seqParam h 0x0C)
      let t := s0.setSeq h { q with curves := n, surface := q.surface || surf }
      if u = s.seqParam h 0x08 then (t.seqFail h 3, .none) else (t.setManual (slotFo h) u, .none)
  | .settle =>
    let n := if within31 fe (s.cfg ctrlengPage CTRLENG.ACQ_CFG_FO_LOCK) 1000 then q.settle + 1 else 0
    if 256 ≤ n then (s0.setSeq h { q with phase := .capture, settle := 0, gap := 0, since := s.now }, .none)
    else (s0.setSeq h { q with settle := n }, .none)
  | .capture =>
    let g := q.gap + 1
    if teCross then
      if o.goodSlope && decide (s.cfg ctrlengPage CTRLENG.ACQ_CFG_TR_CAP ≤ 2 * g) then
        let t := (s0.setSeq h { q with phase := .address, gap := 0 }).setSeqState h sqTracking
        let t := (t.closeSlow (slotSl h)).closeSlow (slotOq h)
        let tl := if q.op = 1 ∨ q.op = 2 then some (t.tlStart h q.layer) else none
        (t, { fo := none, tr := some 0, tl := tl })
      else (s0.setSeq h { q with gap := 0 }, .none)
    else (s0.setSeq h { q with gap := g }, .none)
  | .kick =>
    if q.left ≤ 1 then (((s0.setSeq h { q with phase := .watch }).setManual (slotFo h) far), .none)
    else (s0.setSeq h { q with left := q.left - 1 }, .none)
  | .watch =>
    let n := if cross then q.curves + 1 else q.curves
    if q.layers.natAbs ≤ n then
      let t := (s0.setSeq h { q with phase := .brake, left := s.seqRaw h 0x14 / 2 ^ 16, curves := n })
      (t.setManual (slotFo h) (far - dir * kick), .none)
    else (s0.setSeq h { q with curves := n }, .none)
  | .brake =>
    if q.left ≤ 1 then
      let t := (s0.setSeq h { q with phase := .settle, settle := 0 }).enterLayer h q.layer
      (t, { Closes.none with fo := some (s.fldS (ceSlot (slotFo h)) CESLOT.MANUAL) })
    else (s0.setSeq h { q with left := q.left - 1 }, .none)
  | .jump | .stepBack =>
    let left := q.left - boolNat crossed
    let k := s.seqParam h 0x1C
    if left = 0 then
      let t := (s0.setSeq h { q with phase := .address, left := 0 }).closeSlow (slotSl h)
      let t := if q.phase = .stepBack then t.applyStep h else t.setSeqState h sqTracking
      (t, { Closes.none with tr := some (s.fldS (ceSlot (slotTr h)) CESLOT.MANUAL) })
    else if left ≤ 1 then
      ((s0.setSeq h { q with left := left }).setManual (slotTr h) (if q.toLow then q.base + k else q.base - k), .none)
    else (s0.setSeq h { q with left := left }, .none)
  | .idle | .address | .seek | .stepHold | .exporting => (s0, .none)

end Sys2Proof.Machine
end

