-- ==== Sys2Proof/Machine/ServoFrame.lean ====
section
/-!
DEFINITION. One servo frame of a head (R295, R296, R303-R306, R317-R319) and the commands that only touch
its loops.
-/
namespace Sys2Proof.Machine

/-- The input of a user slot (R291): a sideband field of its head, or another slot's output. -/
def State.userInput (s : State) (n : Nat) (e : ServoErr) : Int :=
  let k := s.fld (ceSlot n) CESLOT.IN_SRC
  match k with
  | 0 => field16 e.focus
  | 1 => field16 e.track
  | 2 => field16 e.tilt
  | 3 => field16 e.sum
  | 4 => field16 e.sa
  | 5 => field16 e.rf
  | _ => if 0x40 ≤ k ∧ k < 0x40 + 192 then s.slotPrev (k - 0x40) else 0

/-- A slot that runs every frame, or every 16 frames, runs on frame `sfn` (R283, R291). -/
def State.slotDue (s : State) (n sfn : Nat) : Bool :=
  match s.fld (ceSlot n) CESLOT.RATE with
  | 0 => true
  | 1 => decide (s.fld (ceSlot n) CESLOT.PHASE = sfn % 16)
  | _ => false

/-- The user slots of a head's frame. -/
def State.userFrame (s : State) (h : Nat) (e : ServoErr) : State :=
  s.forEach ((List.range 18).map (174 + ·)) fun u n =>
    if u.fld (ceSlot n) CESLOT.UNIT = h ∧ u.slotMode n ≠ modeOff ∧ u.slotDue n e.sfn.val then
      let (y, v) := u.slotTrigger n false (u.userInput n e) 0 (u.seqLayer h) none false
      v.userOut n y
    else u

/-- The output that an SL slot presents (R288, R304): zero velocity unless closed or opened. -/
def State.slOut (s : State) (h : Nat) : Int :=
  let n := slotSl h
  if s.slotMode n = modeClosed then s.slotPrev n else s.slotIdle n

/-- The SL sample of a head (R304): held whenever TR is not closed. -/
def State.slSample (s : State) (h : Nat) (e : ServoErr) : State :=
  let n := slotSl h
  let t := if s.slotMode n = modeClosed ∧ s.slotMode (slotTr h) ≠ modeClosed then s.setMode n modeHold else s
  if t.slotDue n e.sfn.val then (t.slotTrigger n false (t.slotPrev (slotTr h)) 0 (t.seqLayer h) none false).2 else t

/-- Bound of the focus-offset channel: ±FO_OFS_MAX in units of 2 nm (R305). -/
def State.foOfsMax (s : State) : Int := (s.cfg ctrlengPage CTRLENG.JUMP_CFG_FO_OFS_MAX : Int) * 2 * 2147483648 / 1000

/-- The focus-offset channel and its dither are held (R305). -/
def State.oqHeld (s : State) (h : Nat) : Bool :=
  let q := s.seq h
  decide (s.fld (bandPage h) BAND.BAND_STAT_MODE ≠ 2) || q.flew || decide (s.fld (firestatPage h) FIRESTAT.STATE = 3) ||
  decide (q.op ≠ 0) || decide (s.cfg ctrlengPage CTRLENG.JUMP_CFG_DITHER = 0)

/-- The focus-offset channel on one OQ sample (R305): x0 = sign(d_n) (q_(n-1) - q_n). -/
def State.oqFocus (s : State) (h quality : Nat) : State :=
  let n := slotOq h
  let up := decide ((s.slotSt n).dither % 2 = 0)
  let d : Int := ((s.seq h).qPrev : Int) - quality
  let (u, t) := s.slotTrigger n true (sigClamp (if up then d else -d)) 0 (s.seqLayer h) none false
  let st := t.slotSt n
  let v := clampInt (-s.foOfsMax) s.foOfsMax u
  t.setSlotSt n { st with uPrev := v, dither := (st.dither + 1) % 2 ^ 32 }

/-- The SA channel on one OQ sample (R306): the integrator is held during sequences and while focus is
not closed; the layer's feedforward applies at once. Answers the output. -/
def State.oqSa (s : State) (h : Nat) : Int × State :=
  let n := slotOq h
  let q := s.seq h
  let bank := s.activeBank n
  let p := s.bankPar n bank
  let ff := s.saFf h (s.seqLayer h)
  if q.op = 0 ∧ s.slotMode (slotFo h) = modeClosed ∧ s.slotMode n = modeClosed then
    let mean := if q.saCount = 0 then 0 else q.saSum.tdiv (q.saCount : Int)
    let (u, st, sat) := saChannel (s.bankCoef n bank) p (s.slotSt n) mean ff q.saPrev
    (u, ((s.setSlotSt n st).count (ceSlot n) CESLOT.SAT_CNT sat).setSeq h { q with saPrev := u, saSum := 0, saCount := 0 })
  else
    let sum := sigClamp (ff + ((s.slotSt n).sa + 16384) / 32768)
    let u := if p.slew = 0 then sum else clampInt (q.saPrev - p.slew) (q.saPrev + p.slew) sum
    (u, s.setSeq h { q with saPrev := u, saSum := 0, saCount := 0 })

/-- The OQ sample of a head: the two channels, then SLOW (R295, R305, R306). -/
def State.oqSample (s : State) (h : Nat) (e : ServoErr) (quality : Nat) : State :=
  let n := slotOq h
  let q := s.seq h
  let s := s.setSeq h { q with saSum := q.saSum + field16 e.sa, saCount := q.saCount + 1 }
  let m := s.slotMode n
  if !s.slotDue n e.sfn.val ∨ m = modeOff then s
  else
    let t := if m = modeArmed ∨ (m = modeClosed ∧ !s.oqHeld h) then s.oqFocus h quality else s
    let (u, t) := t.oqSa h
    let t := t.setSeq h { t.seq h with qPrev := quality, flew := false }
    t.send (.down h (.slow (e.sfn.val % 16) (drive16 u)))

/-- Run counters of R317: frames of low focus sum while FO is closed, of tracking error above 200 nm
while TR is closed. -/
def State.countLoss (s : State) (h : Nat) (e : ServoErr) : State :=
  let q := s.seq h
  let low := decide (s.slotMode (slotFo h) = modeClosed) && decide (e.sum.toInt < (s.cfg ctrlengPage CTRLENG.FS_CFG_FS_MIN : Int))
  let off := decide (s.slotMode (slotTr h) = modeClosed) && !within31 (field16 e.track) 200 400
  s.setSeq h { q with fsLow := if low then q.fsLow + 1 else 0, trErr := if off then q.trErr + 1 else 0 }

/-- FO, TR and TL of one frame, and the SERVO message with the sled's microsteps (R295, R303, R363). A loop later than DEADLINE
sends u_prev. -/
def State.fastLoops (s : State) (h : Nat) (e : ServoErr) (o : ServoObs) (c : Closes) : State :=
  let layer := s.seqLayer h
  let late (d : Nat) : Bool := decide (10 * s.cfgIn ctrlengPage CTRLENG.FRAME_CFG_DEADLINE 20 100 < d)
  let (fo, s1) := s.slotTrigger (slotFo h) false (field16 e.focus) (s.foExtra h) layer c.fo (late o.delayFo)
  let (tr, s2) := s1.slotTrigger (slotTr h) false (field16 e.track) 0 layer c.tr (late o.delayTr)
  let (tl, s3) := s2.slotTrigger (slotTl h) false (field16 e.tilt) 0 layer c.tl (late o.delayTl)
  let off := decide (s3.slotMode (slotFo h) = modeOff) && decide (s3.slotMode (slotTr h) = modeOff) && decide (s3.slotMode (slotTl h) = modeOff)
  if off && !s3.axMoving h then s3
  else
    let (n, s4) := s3.sledFrame h (s3.slOut h)
    s4.send (.down h (.servo (e.sfn.val % 16) (drive12 tl) (drive16 fo) (drive16 tr) n))

/-- A frame's EXPORT (R318): the record is written, the slots hold, and no further SERVO goes out. -/
def State.exportIfDue (s : State) (h : Nat) : State :=
  if (s.seq h).phase = .exporting then
    let t := (s.writeExport h).headModes h modeHold
    let t := (t.seqEnd h).setSeqState h sqExported
    ((t.setPermit h false).seqResult h 9 0).refreshHead h
  else s

/-- A usable SERVO_ERR of a head (R295), but for what a lost permit stops (R272). CE computes a head's
slots only while its companion obeys this controller (R283). -/
def State.servoFrame (s : State) (h : Nat) (e : ServoErr) (o : ServoObs) : State :=
  if !s.headObeys h ∨ s.seqState h = sqExported then s
  else
    let q := s.seq h
    let s1 := (s.applyCfg ctrlengPage).setSeq h { q with missRun := 0, sinceMiss := min 2 (q.sinceMiss + 1), sfn := e.sfn.val }
    let s2 := s1.evalPermit h e
    let s3 := s2.recoverFrame h e
    let armed := decide (s3.seqState h = sqArmed)
    let (s4, c) := s3.seqFrame h e o
    let s5 := s4.fastLoops h e o c
    let s6 := if armed then (s5.setSeqState h (s5.restState h)).refreshHead h else s5
    let s7 := ((s6.slSample h e).oqSample h e o.quality).userFrame h e
    (s7.countLoss h e).exportIfDue h

/-- A servo frame without its SERVO_ERR (R296): each slot due counts its missed sample; the loops stay in their modes. -/
def State.frameMissing (s : State) (h : Nat) : State :=
  if !s.headObeys h then s
  else
    let s := s.applyCfg ctrlengPage
    let q := s.seq h
    let sfn := (q.sfn + 1) % 256
    let user := ((List.range 18).map (174 + ·)).filter fun n => decide (s.fld (ceSlot n) CESLOT.UNIT = h)
    let t := s.forEach ((List.range 5).map (5 * h + ·) ++ user) fun u n =>
      if u.slotMode n ≠ modeOff ∧ u.slotDue n sfn then (u.count (ceSlot n) CESLOT.MISS_CNT).count ctrlengPage CTRLENG.SAMPLE_MISS else u
    t.setSeq h { q with missRun := min 255 (q.missRun + 1), sinceMiss := 0, sfn := sfn }

/-- SERVO_FRAME_MISSING (R296). -/
def execServoFrameMissing (h : HeadIx) (s : State) : Res := done (s.frameMissing h.val)

/-- LOOP_MISS_FAULT (R296, R317): after MISS_MAX consecutive missing frames the loops fault, and the
focus recovery follows. -/
def execLoopMissFault (h : HeadIx) (s : State) : Res :=
  if (s.seq h.val).missRun < s.cfgIn ctrlengPage CTRLENG.FRAME_CFG_MISS_MAX 2 255 then done s
  else
    let t := s.forEach (List.range 5) fun u j => if u.slotMode (5 * h.val + j) = modeOff then u else u.setMode (5 * h.val + j) modeFault
    done ((t.focusLost h.val).refreshHead h.val)

/-- FOCUS_LOST (R317): after 4 frames of low focus sum, or with FO in FAULT. -/
def execFocusLost (h : HeadIx) (s : State) : Res :=
  if (s.seq h.val).fsLow < 4 ∧ s.slotMode (slotFo h.val) ≠ modeFault then done s
  else done ((s.focusLost h.val).refreshHead h.val)

/-- TRACKING_LOST (R317): after 8 frames beyond 200 nm, or with TR in FAULT. -/
def execTrackingLost (h : HeadIx) (s : State) : Res :=
  if (s.seq h.val).trErr < 8 ∧ s.slotMode (slotTr h.val) ≠ modeFault then done s else done (s.trackingLost h.val)

/-- ACQ_SWEEP_TIMEOUT (R312): a sweep of more than ACQ_SWEEP_TMO fails with result 3. -/
def execAcqSweepTimeout (h : HeadIx) (s : State) : Res :=
  let q := s.seq h.val
  if q.phase = .sweep ∧ q.since + 1000000 * s.cfgIn ctrlengPage CTRLENG.ACQ_CFG_ACQ_SWEEP_TMO 5 50 < s.now then done (s.seqFail h.val 3) else done s

/-- TRACKING_CAPTURE_TIMEOUT (R313): a capture without its crossing within 5 ms fails with result 4. -/
def execTrackingCaptureTimeout (h : HeadIx) (s : State) : Res :=
  let q := s.seq h.val
  if q.phase = .capture ∧ q.since + 5000000 ≤ s.now then done (s.seqFail h.val 4) else done s

/-- LAYER_JUMP_TIMEOUT (R314): with no zero crossing within LJ_TMO the head returns to ACQUIRE for the target layer. -/
def execLayerJumpTimeout (h : HeadIx) (s : State) : Res :=
  let q := s.seq h.val
  let late := decide (q.since + 100000 * s.cfg ctrlengPage CTRLENG.JUMP_CFG_LJ_TMO ≤ s.now)
  if q.op = 2 ∧ (q.phase = .kick ∨ q.phase = .watch) ∧ late then done (s.seqFail h.val 6) else done s

/-- STEP_REMOVED (R316): the offset goes after one revolution from the first setting of the band. -/
def execStepRemoved (h : HeadIx) (s : State) : Res :=
  let q := s.seq h.val
  if q.phase = .stepHold ∧ q.stepRun ∧ q.since + s.revolutionNs h.val ≤ s.now then done (s.removeStep h.val) else done s

end Sys2Proof.Machine
end

