-- ==== Sys2Proof/Machine/MotionExec.lean ====
section
/-!
DEFINITION. Motion ends and switches (R360-R369, R375): the commands that a motion in progress raises.
-/
namespace Sys2Proof.Machine

/-- Homing is done (R369): the axis stands at HOME_OFS; a homed sled is referenced (R364). -/
def State.homeDone (s : State) (a : Nat) : State :=
  let t := s.endMotion a 1 0
  let t := if isSled a then t.setFlag (axisBlock a) AXIS.AX_STAT_REFD true else t
  t.istat motionPage 10

/-- Home is found at step 4 of homing (R369): POS at the latched edge becomes HOME_OFS and HOMED sets; the axis then returns by
what it has gone beyond the edge. -/
def State.homeFound (s : State) (a : Nat) (latched : Int) : State :=
  let s := s.axSync a
  let ofs := s.axCfgS a AXIS.HOME_OFS
  let past := s.axPos a - latched
  let t := ((s.setAxPos a (ofs + past)).setAxHomed a true).setFldS (axisBlock a) AXIS.TARGET ofs
  if past = 0 then ({ t with mot := { t.mot with axes := storePut (fun _ => AxisSt.rest) t.mot.axes a { t.axis a with mode := .none } } }).homeDone a
  else
    let t := t.axRun a (decide (past < 0)) (cruiseSeg (t.homeSlow a) (past.natAbs * 1000000))
    t.setAxis a { t.axis a with mode := .home 5 false }

/-- The slot at which the elevator stands after a move: the one that ELV_CMD named, or the one whose position it is (R377). -/
def State.elvSlot (s : State) (pos : Int) : Nat :=
  match s.mot.elvTarget with
  | some k => k
  | none =>
    match (List.range 4).find? fun k => decide (s.fldS kickPage KICK.ELV_POS k = pos) with
    | some k => k
    | none => if s.fldS kickPage KICK.ELV_CLEAR = pos then 4 else 7

/-- The elevator arrives (R373, R377). -/
def State.elvArrived (s : State) (k : Nat) : State :=
  ((s.setFld kickPage KICK.ELV_STAT_SLOT k).count kickPage KICK.ELV_MOVES).istat kickPage 8

/-- A move of an axis ends at its target (R358): G at G_GRIP holds a sagger (R370); the sled of a SEEK has arrived (R315). -/
def State.moveEnds (s : State) (a : Nat) : State :=
  let x := s.axis a
  let target := s.fldS (axisBlock a) AXIS.TARGET
  let k := s.elvSlot target
  let t := s.endMotion a 1 0
  let t := if a = axG ∧ target = s.fldS loaderPage LOADER.G_GRIP then t.setFlag loaderPage LOADER.LD_STAT_G_HOLD true else t
  let t := if a = axElv then t.elvArrived k else t
  if x.seeking then (t.setAxis a { t.axis a with seeking := false }).seqSledArrived a else t

/-- The presence test of the gripper ends (R372). -/
def State.presenceSeen (s : State) (holds : Bool) : State :=
  (s.endMotion axG 1 0).setFlag loaderPage LOADER.LD_STAT_G_HOLD holds

/-- MOVE_END (R358, R360, R369): an axis has made the steps of its present motion: a move, a stop, or a step of homing, which
leads to the next. -/
def execMoveEnd (a : AxisIx) (_ : Computed) (s : State) : Res :=
  let n := a.val
  if !s.axMoving n ∨ !s.axArrived n then done s
  else
    let t := s.axSync n
    let x := t.axis n
    let t := t.setAxis n { x with travel := x.travel + moveLen x.start (t.axPos n) }
    if x.stopping then done (t.endMotion n (if x.fault = 0 then 2 else 3) x.fault)
    else match x.mode with
      | .none => done s
      | .move => done (t.moveEnds n)
      | .presence => done (t.presenceSeen true)
      | .home 5 _ => done (t.homeDone n)
      | .home step rest =>
        if !rest then
          let u := t.setAxis n { t.axis n with made := 0, start := t.axPos n, segs := cruiseSeg x.prof.vMax 1, t0 := t.now, run := 0 }
          done (u.homeNotFound n)
        else done (t.homeStep n (match step with
          | 0 => 2
          | 1 => 2
          | 2 => 3
          | _ => 4))

/-- EN_LAG_EXPIRY (R362): EN goes EN_LAG after the last step when HOLD_EN is 0 and no move runs. -/
def execEnLagExpiry (a : AxisIx) (s : State) : Res :=
  let n := a.val
  if isSled n || decide (s.axCfg n AXIS.SW_CFG_HOLD_EN = 1) || s.axMoving n ||
      decide (s.now < (s.axis n).endAt + 1000000 * s.axCfg n AXISP.STEP_CFG_EN_LAG) then done s
  else
    let t := s.setAxEn n false
    done (if t.axState n = 1 then t.setAxState n 0 else t)

/-- A limit stops a move (R368): fault 1. -/
def State.limitStop (s : State) (a : Nat) : State := (s.stopAxis a 1).event motionPage 0x7301 4 0xFF a

/-- An accepted home switch acts on homing (R369): it ends step 2 along the ramp and step 4 at once; its release leaves BACKOFF
steps to steps 1 and 3. -/
def State.homeSwitched (s : State) (a step : Nat) (active : Bool) (latched : Int) : State :=
  let x := s.axis a
  if active then
    if step = 2 then (s.setAxis a { x with mode := .home 2 true }).axRamp a
    else if step = 4 then s.homeFound a latched
    else if step = 1 ∨ step = 3 then
      let left := (s.homeTravel a - x.travel) * 1000000
      s.setAxis a { x with mode := .home step false, made := x.made + segsAt x.segs (s.axElapsed a),
                           segs := cruiseSeg x.prof.vMax (left + 1), t0 := s.now, run := 0 }
    else s
  else if step = 1 ∨ step = 3 then
    s.setAxis a { x with mode := .home step true, made := x.made + segsAt x.segs (s.axElapsed a),
                         segs := cruiseSeg x.prof.vMax (1000000 * s.axCfg a AXIS.BACKOFF), t0 := s.now, run := 0 }
  else s

/-- An accepted far limit acts on homing (R369): in steps 1 to 3 the axis stops and the search goes on from step 2 in the opposite
direction; a second one ends HOME. -/
def State.homeFar (s : State) (a step : Nat) : State :=
  let x := s.axis a
  if 3 < step then s
  else if 1 ≤ x.farHits then s.homeNotFound a
  else
    let s := s.axRamp a
    s.setAxis a { s.axis a with mode := .home 0 true, farHits := 1, reversed := if step = 2 then !x.reversed else x.reversed }

/-- The accepted level of a switch acts (R366, R368-R370): `latched` is POS at the raw edge. -/
def State.switchAccepted (s : State) (a : Nat) (sw : Switch) (active : Bool) (latched : Int) : State :=
  let n := match sw with | .home => 0 | .far => 1
  if s.fldBit (axisBlock a) AXIS.AX_STAT_SW n = active then s
  else
    let s1 := s.setFldBit (axisBlock a) AXIS.AX_STAT_SW n active
    let s1 := if a = axG ∧ active then s1.setFlag loaderPage LOADER.LD_STAT_G_HOLD false else s1
    let x := s1.axis a
    let toward := x.up == s1.homeUp a
    if !s1.axMoving a then s1
    else match x.mode, sw with
    | .home step _, .home => if x.stopping then s1 else s1.homeSwitched a step active latched
    | .home step _, .far => if active && !x.stopping then s1.homeFar a step else s1
    | .presence, .far => if active then s1.presenceSeen false else s1
    | .presence, .home => s1
    | .move, .home => if active && toward then s1.limitStop a else s1
    | .move, .far =>
      if !active || toward then s1
      else if a = axG then s1.endMotion a 1 0
      else s1.limitStop a
    | .none, _ => s1

/-- A switch is active at the level that POL gives (R375). -/
def State.switchActive (s : State) (a : Nat) (sw : Switch) (level : Bool) : Bool :=
  level == bitOf (s.axCfg a AXIS.SW_CFG_POL) (match sw with | .home => 0 | .far => 1)

/-- DEBOUNCE of an axis, in ns (R366). -/
def State.debounce (s : State) (a : Nat) : Nat := 1000000 * s.fldIn (axisBlock a) AXIS.SW_CFG_DEBOUNCE 0 16

/-- What SLED has shown of a sled's switch. -/
def AxisSt.raw (x : AxisSt) (sw : Switch) : RawSwitch := match sw with | .home => x.home | .far => x.far
def AxisSt.setRaw (x : AxisSt) (sw : Switch) (r : RawSwitch) : AxisSt := match sw with
  | .home => { x with home := r }
  | .far => { x with far := r }

/-- A sled's switch level that has been stable for DEBOUNCE is accepted (R366). -/
def State.sledAccept (s : State) (a : Nat) (sw : Switch) : State :=
  let r := (s.axis a).raw sw
  match r.level with
  | some l => if r.since + s.debounce a ≤ s.now then s.switchAccepted a sw (s.switchActive a sw l) r.pos else s
  | none => s

/-- SWITCH_ACCEPTED (R366): `level` is that of the pin, the same for the last `stable` ns; for a sled SLED has shown both. -/
def execSwitchAccepted (a : AxisIx) (sw : Switch) (level : Bool) (stable : Nat) (_ : Computed) (s : State) : Res :=
  let n := a.val
  if isSled n then done (s.sledAccept n sw)
  else if stable < s.debounce n then done s
  else done ((s.axSync n).switchAccepted n sw (s.switchActive n sw level) (s.axPosAgo n stable))

/-- SWITCH_CHATTER (R367): with more than CHAT_N raw transitions in CHAT_WIN, `ages` before now for a pin, the axis has fault
2; it stops, and a HOME in progress ends with it. -/
def execSwitchChatter (a : Chatter) (s : State) : Res :=
  let sw := a.sw
  let ages := a.ages
  let n := a.axis.val
  let b := axisBlock n
  let ages := if isSled n then ((s.axis n).raw sw).edges.map fun t => s.now - t else ages
  let seen := (ages.filter fun t => decide (t ≤ 1000000 * s.fldIn b AXIS.SW_CFG_CHAT_WIN 1 255)).length
  if seen ≤ s.fldIn b AXIS.SW_CFG_CHAT_N 2 255 ∨ s.fld b AXIS.AX_STAT_FAULT = 2 ∨ (s.axis n).fault = 2 then done s
  else
    let t := (s.istat motionPage 12).event motionPage 0x7302 4 0xFF n
    if t.axMoving n then done (t.stopAxis n 2)
    else done (((t.setAxFault n 2).setAxState n 5).istat motionPage 9)

/-- A SLED message shows the level of a switch (R154, R366). -/
def State.sledSwitch (s : State) (a : Nat) (sw : Switch) (level : Bool) : State :=
  let x := s.axis a
  let r := x.raw sw
  let t :=
    if r.level = some level then s
    else
      let edges := if r.level = none then [] else (s.now :: r.edges).take 256
      s.setAxis a (x.setRaw sw { level := some level, since := s.now, pos := s.axPos a, edges := edges })
  t.sledAccept a sw

/-- SLED (R154, R365): the companion's switches and microstep position. The first report after a head
is gained records the difference; a drift beyond 64 steps is a slip. -/
def execSledMsg (h : HeadIx) (home far : Bool) (pos : Int) (s : State) : Res :=
  let a := h.val
  let s1 := (s.sledSwitch a .home home).sledSwitch a .far far
  if !s1.headObeys a then done (s1.setAxis a { s1.axis a with ofs := none })
  else
    let d := pos - s1.axPos a
    match (s1.axis a).ofs with
    | none => done (s1.setAxis a { s1.axis a with ofs := some d })
    | some o =>
      if (d - o).natAbs ≤ 64 then done s1
      else
        let t := (s1.setAxFault a 5).setFlag (axisBlock a) AXIS.AX_STAT_REFD false
        let t := if t.axMoving a then t.stopAxis a 5 else t.setAxState a 5
        let t := t.setAxis a { t.axis a with ofs := some d }
        done ((t.istat motionPage 9).event motionPage 0x7305 3 0xFF a)

end Sys2Proof.Machine
end

