-- ==== Sys2Proof/Machine/Journal.lean ====
section
/-!
DEFINITION. The journal (R392-R395): records, the HBM ring, the twin's mirror, the xSPI ring.
-/
namespace Sys2Proof.Machine

/-- Change the journal. -/
def State.setJr (s : State) (j : JournalSt) : State := { s with jr := j }

/-- Records that the HBM ring, the mirror area and the xSPI ring hold (R393). -/
def hbmRing : Nat := 4194304
def xspiRing : Nat := 196608

/-- The 64 bytes of a record in HBM and xSPI memory (R392). -/
def jrecBytes (r : JRec) : List Nat :=
  let top := bytesLE 1 r.ty ++ bytesLE 1 r.flags ++ bytesLE 1 (r.zone / 300) ++ bytesLE 1 r.width ++ bytesLE 2 (r.zone % 300) ++
    bytesLE 1 r.expect ++ bytesLE 1 r.fired ++ bytesLE 4 r.stripe ++ bytesLE 4 r.gen ++ bytesLE 8 r.load ++ bytesLE 4 r.ns ++
    bytesLE 4 r.seq ++ bytesLE 8 r.time ++ bytesLE 4 r.pwr ++ bytesLE 4 r.stg ++ bytesLE 4 r.a ++ bytesLE 4 r.b ++ bytesLE 4 r.c
  top ++ bytesLE 4 (crc32 top)

/-- The 64 bytes of a record on disc: every field most significant byte first (R392). -/
def jrecBytesBE (r : JRec) : List Nat :=
  let top := [r.ty, r.flags, r.zone / 300, r.width] ++ bytesBE 2 (r.zone % 300) ++ [r.expect, r.fired] ++ bytesBE 4 r.stripe ++
    bytesBE 4 r.gen ++ bytesBE 8 r.load ++ bytesBE 4 r.ns ++ bytesBE 4 r.seq ++ bytesBE 8 r.time ++ bytesBE 4 r.pwr ++
    bytesBE 4 r.stg ++ bytesBE 4 r.a ++ bytesBE 4 r.b ++ bytesBE 4 r.c
  top ++ bytesBE 4 (crc32 top)

/-- The record that 64 bytes of a disc hold; none where the CRC fails or the record is empty (R392). -/
def jrecOfBE (bs : List Nat) : Option JRec :=
  let f (o n : Nat) : Nat := ofBytesBE ((bs.drop o).take n)
  if crc32 (bs.take 60) ≠ f 0x3C 4 ∨ f 0 1 = 0 then none
  else some { ty := f 0 1, flags := f 1 1, width := f 3 1, zone := 300 * f 2 1 + f 4 2, expect := f 6 1, fired := f 7 1, stripe := f 8 4, gen := f 0xC 4,
              load := f 0x10 8, ns := f 0x18 4, seq := f 0x1C 4, time := f 0x20 8, pwr := f 0x28 4, stg := f 0x2C 4, a := f 0x30 4, b := f 0x34 4,
              c := f 0x38 4 }

/-- A record of a kind with every other field 0. -/
def jrecOf (ty : Nat) : JRec :=
  { ty := ty, flags := 0, width := 0, zone := 0, expect := 0, fired := 0, stripe := 0, gen := 0, load := 0, ns := 0, seq := 0,
    time := 0, pwr := 0, stg := 0xFFFFFFFF, a := 0, b := 0, c := 0 }

/-- Queue a record for writing. -/
def State.jput (s : State) (r : JRec) : State := s.setJr { s.jr with waiting := s.jr.waiting ++ [r] }

/-- XSPI_FREE follows the ring. -/
def State.xspiShow (s : State) : State := s.setFld journalPage JOURNAL.XSPI_FREE (xspiRing - s.jr.xspi.length)

/-- MIRROR_LAG and MIRROR_OK follow the records sent to the twin; the mirror's loss sets bit 11 (R421). -/
def State.mirrorShow (s : State) : State :=
  let p := journalPage
  let t := (s.setFld p JOURNAL.MIRROR_LAG (min 0xFFFF s.jr.unacked.length)).setFlag p JOURNAL.JR_STAT_MIRROR_OK s.paired
  if s.flag p JOURNAL.JR_STAT_MIRROR_OK && !s.paired then t.istat p 11 else t

/-- The JOURNAL message that carries a stripe's first record to the twin (R394). -/
def State.markSent (s : State) (r : JRec) (n : Nat) : State :=
  { s with st := { s.st with stripes := s.st.stripes.map fun x =>
    if x.zone = r.zone ∧ x.stripe = r.stripe ∧ x.msn = 0 then { x with msn := n } else x } }

/-- DISC_PENDING: records that wait for a run close. -/
def State.pendingShow (s : State) : State :=
  let n := (s.jr.hbm.filter fun r => decide (s.jr.closed < r.seq)).length
  s.setFld journalPage JOURNAL.DISC_PENDING (min 0xFFFF ((n + 1023) / 1024))

/-- JOURNAL_RECORD_WRITE (R393, R394): the oldest queued record takes the next SEQ and goes to HBM, to the
twin's mirror and to the xSPI ring, in that order. -/
def State.journalWrite (s : State) : State :=
  match s.jr.waiting with
  | [] => s
  | r :: rest =>
    let seq := (s.fld journalPage JOURNAL.JR_SEQ + 1) % 2 ^ 32
    let r := { r with seq := seq, time := s.now, pwr := s.fld chipPage CHIP.PWR_CYCLES, load := s.load.id }
    let t := s.setFld journalPage JOURNAL.JR_SEQ seq
    let hbm := s.jr.hbm ++ [r]
    let t := t.setJr { t.jr with waiting := rest, hbm := hbm.drop (hbm.length - hbmRing), xspiQ := t.jr.xspiQ ++ [r] }
    let t := t.journalStore journalArea seq (jrecBytes r)
    if t.paired then
      let t := t.tSend clsMirror (.journal [r])
      let t := if r.ty = 1 then t.markSent r (t.msnSent clsMirror) else t
      (t.setJr { t.jr with unacked := t.jr.unacked ++ [t.msnSent clsMirror] }).mirrorShow.pendingShow
    else t.mirrorShow.pendingShow

def execJournalRecordWrite (s : State) : Res := done s.journalWrite

/-- A record of a stripe is current: the stripe's fields agree. -/
def jSame (x y : JRec) : Bool :=
  decide (x.ty = y.ty) && decide (x.zone = y.zone) && (decide (x.ty ≠ 1) || decide (x.stripe = y.stripe))

/-- Records that the ring must keep (R395): the current one of every live stripe and of every zone. -/
def jCurrent (live : JRec → Bool) (rs : List JRec) : List JRec :=
  rs.filter fun r => (decide (r.ty = 2) || (decide (r.ty = 1) && live r)) && !rs.any fun o => jSame r o && decide (r.seq < o.seq)

/-- A stripe is live while its record says that it has not fired on every expected member, and it is
still known. -/
def State.jLive (s : State) (r : JRec) : Bool :=
  s.st.stripes.any fun x => decide (x.zone = r.zone) && decide (x.stripe = r.stripe) && decide (x.fired ≠ x.expect)

/-- Stripe records written to xSPI let their setting be armed (R394). -/
def State.markJournalled (s : State) (r : JRec) : State :=
  if r.ty ≠ 1 then s
  else { s with st := { s.st with stripes := s.st.stripes.map fun x =>
    if x.zone = r.zone ∧ x.stripe = r.stripe then { x with journalled := true } else x } }

/-- XSPI_WRITE_DONE (R395): a write to the xSPI ring completes or fails. -/
def State.xspiDone (s : State) (ok : Bool) : State :=
  let p := journalPage
  match s.jr.xspiQ with
  | [] => s
  | r :: rest =>
    if ok then
      let t := s.setJr { s.jr with xspiQ := rest, xspi := s.jr.xspi ++ [r], xspiFail := false, failAt := none }
      let t := ((t.count p JOURNAL.XSPI_WR).setFlag p JOURNAL.JR_STAT_XSPI_OK true).setPg p HDR.DEGRADED 0
      (t.markJournalled r).xspiShow
    else
      let t := (s.setJr { s.jr with xspiFail := true, failAt := some s.now }).count p JOURNAL.XSPI_ERR
      let t := (t.setFlag p JOURNAL.JR_STAT_XSPI_OK false).worsen p HDR.DEGRADED
      (t.istat p 10).event p 0x510C 5

/-- XSPI_WRITE_RETRY (R395): 10 ms after the failure the write is made again. -/
def execXspiWriteRetry (s : State) : Res := match s.jr.failAt with
  | some t => if s.now < t + 10000000 then done s else done (s.setJr { s.jr with failAt := none })
  | none => done s

/-- XSPI_RING_COMPACT (R395): with less than 1 MiB free, current records are appended again and the tail
moves past the older copies. -/
def execXspiRingCompact (s : State) : Res :=
  if 16384 ≤ xspiRing - s.jr.xspi.length then done s
  else
    let keep := jCurrent s.jLive s.jr.xspi
    let t := s.setJr { s.jr with xspi := keep }
    done (t.count journalPage JOURNAL.XSPI_WR keep.length).xspiShow

/-! Records of each kind (R392) -/

/-- A stripe record. -/
def stripeJRec (x : StripeRec) (mirrorAck pad last remap : Bool) (ns : Nat) : JRec :=
  { jrecOf 1 with flags := boolNat mirrorAck + 2 * boolNat pad + 4 * boolNat last + 8 * boolNat remap, width := x.width, zone := x.zone,
                  expect := x.expect, fired := x.fired, stripe := x.stripe, gen := x.gen, ns := ns,
                  stg := if x.staged then x.zone * 32768 + x.stripe else 0xFFFFFFFF }

/-- A zone record: write, fired and confirmed pointers in stripes, padding. -/
def zoneJRec (k : Nat) (z : ZoneSt) : JRec :=
  { jrecOf 2 with flags := boolNat z.mirrorAck, width := if (z.excluded (min z.enc (stripesPerZone - 1))).isSome then 7 else 8, zone := k, stripe := z.enc, gen := z.gen, ns := z.ns, a := z.fired, b := z.conf, c := z.pad }

/-- A void record: stripes from `first` to before `last`. -/
def voidJRec (k first last gen ns : Nat) : JRec := { jrecOf 3 with zone := k, stripe := first, gen := gen, ns := ns, a := last }

/-- A seal record, and a run record (b 0 start, 1 close). -/
def sealJRec (interrupted : Nat) : JRec := { jrecOf 4 with a := interrupted }
def runJRec (n close : Nat) : JRec := { jrecOf 5 with a := n, b := close }

/-- JR_STAT.INFLIGHT: stripe records that are live. -/
def State.inflight (s : State) : Nat := (s.st.stripes.filter fun x => decide (x.fired ≠ x.expect) && x.recorded).length
def State.inflightShow (s : State) : State := s.setFld journalPage JOURNAL.JR_STAT_INFLIGHT (min 8192 s.inflight)

end Sys2Proof.Machine
end

