-- ==== Sys2Proof/Machine/Channel.lean ====
section
/-!
DEFINITION. What a channel cell computes from its samples (R169-R185, R188, R200, R201, R210): conditioning,
interpolated timing recovery, the equaliser, the band canceller, the soft-output detector, the LMS loops, soft
demodulation, and the correlation with the sync mark. Word widths, roundings and loop units that the rules leave
open are those of log entry 141.
-/
namespace Sys2Proof.Machine

/-- Values of a cell that are all 0. -/
def CellVals.zero : CellVals := { gain := 0, offset := 0, asym := 0, taps := [], canc := [] }

/-! Conditioning (R171) -/

/-- A corrected sample (R171): negated without SIG_POL, less OFFSET / 2, times GAIN / 64, less ASYM x'^2 / 2^15,
rounded down to a sample LSB. -/
def conditioned (sigPol : Bool) (offset gain asym x : Int) : Int :=
  let x := if sigPol then x else -x
  let x2 := 2 * x - offset
  let g := if gain = 0 then 1 else gain
  -- x' = x2 * g / 128; the value below is 2^22 times the sample
  (x2 * g * 2 ^ 15 - asym * (x2 * g) * (x2 * g) / 2 ^ 7) / 2 ^ 22

/-! Timing recovery (R173, R174) -/

/-- The nominal ratio of channel bits to samples (R173) at a speed in 0.1 rpm, in units of 2^-48 of a channel bit, rounded
down. -/
def nominalRatio (ring tenths : Nat) : Nat := 213120 * ringS ring * tenths * 2 ^ 48 / 937500000000

/-- The interpolator (R174): the filter of a phase over the last eight corrected samples, newest first, rounded down
and held to 8 bits. An output that uses an invalid sample is invalid. -/
def interpolated (phase : Nat) (xs : List Samp) : Samp :=
  let l := (List.range 8).map fun i => xs.getD i { v := 0, ok := false }
  { v := max (-127) (min 127 ((l.zipIdx.map fun (x, i) => Config.interpTap phase i * x.v).sum / 2 ^ 14)),
    ok := l.all fun x => x.ok }

/-- The phase of the filter (R174): how far the bit's instant lies before the newest sample, in 64ths of a sample. -/
def interpPhase (acc step : Nat) : Nat := min 63 (64 * acc / max 1 step)

/-! Equaliser and target (R177) -/

/-- The equaliser's output (R177): 24 taps in Q2.13 against the interpolated samples, newest first, as a signed
12-bit sample. -/
def equalised (taps w : List Int) : Int := max (-2048) (min 2047 ((taps.zipWith (fun t x => t * x) w).sum / 8192))

/-- The ideal output of the target for four channel bits, newest first (R177). -/
def idealOut (g : List Int) (a : List Bool) : Int :=
  (g.zipWith (fun x b => if b then x else -x) a).sum

/-- The four coefficients of TARGET (R177, R217). -/
def targetCoefs (v : Nat) : List Int := (List.range 4).map fun i =>
  let b : Int := v / 256 ^ i % 256
  if b < 128 then b else b - 256

/-! The band canceller (R180, R181) -/

/-- A neighbour's signal in the band canceller (R181). -/
inductive Neighbour where
  | beam (b : Nat)
  | edge (b : Nat)
  | none
  deriving DecidableEq, Repr

/-- The neighbours of a beam by layer parity (R181). -/
def innerNeighbour (odd : Bool) (b : Nat) : Neighbour := if b = 0 then (if odd then .none else .edge 15) else .beam (b - 1)
def outerNeighbour (odd : Bool) (b : Nat) : Neighbour := if b = 15 then (if odd then .edge 0 else .none) else .beam (b + 1)

/-- The canceller's output (R180): the equalised sample less both sides' three terms in units of 1/128, rounded down.
A side that is omitted for a bit (R181-R183) has no signal. -/
def cancelled (y : Int) (canc : List Int) (nIn nOut : Option (List Int)) : Int :=
  let side (c : List Int) (n : Option (List Int)) : Int := match n with
    | some l => (c.zipWith (fun a b => a * b) l).sum
    | none => 0
  (128 * y - side (canc.take 3) nIn - side (canc.drop 3) nOut) / 128

/-! The soft-output detector (R184) -/

/-- The decision depth (R184) and the delay of tentative decisions (R177). -/
def decisionDepth : Nat := 64
def tentativeDelay : Nat := 16

/-- The reliability of a decision that no competing path has touched yet. -/
def sureRel : Nat := 2 ^ 32

/-- The eight states at the start: state s holds the last three bits, newest in bit 0. -/
def trellisStart : List Survivor := List.replicate 8 { metric := 0, bits := [] }

/-- Where two paths merge (R184): the better one stays, and where their decisions differ its reliability is at most
the difference of the metrics. -/
def mergePaths (x y : Survivor) : Survivor :=
  let (w, l) := if x.metric ≤ y.metric then (x, y) else (y, x)
  let d := (l.metric - w.metric).toNat
  { metric := w.metric,
    bits := (w.bits.zip (l.bits.map fun p => p.1)).map fun ((b, r), o) => if b == o then (b, r) else (b, min r d) }

/-- One channel bit enters the trellis (R184): squared distance from the target's outputs, with the a priori LLR on
the branches of a 1. A sample that is not valid adds nothing. -/
def trellisStep (g : List Int) (z : Samp) (apriori : Int) (ps : List Survivor) : List Survivor :=
  let branch (a : Bool) (st : Nat) : Survivor :=
    let p := ps.getD st { metric := 0, bits := [] }
    let e := z.v - idealOut g [a, st % 2 == 1, st / 2 % 2 == 1, st / 4 % 2 == 1]
    { p with metric := p.metric + (if z.ok then e * e else 0) + (if a then apriori else 0) }
  (List.range 8).map fun n =>
    let a := n % 2 == 1
    let m := mergePaths (branch a (n / 2)) (branch a (n / 2 + 4))
    { m with bits := ((a, sureRel) :: m.bits).take (decisionDepth + 1) }

/-- The survivor of the least metric; the lowest state on equal metrics. -/
def bestPath (ps : List Survivor) : Survivor :=
  match ps with
  | [] => { metric := 0, bits := [] }
  | p :: r => r.foldl (fun b x => if x.metric < b.metric then x else b) p

/-- The tentative decision, and the decision with its reliability, that the trellis now gives. -/
def tentativeBit (ps : List Survivor) : Bool := ((bestPath ps).bits.getD tentativeDelay (false, 0)).1
def decidedBit (ps : List Survivor) : Bool × Nat := (bestPath ps).bits.getD decisionDepth (false, 0)

/-! Soft demodulation (R185) -/

/-- A coded bit's LLR from its decision and reliability (R185): positive favours 0, 0 is an erasure. -/
def softBit (bit valid : Bool) (m scale : Nat) : Int :=
  let v : Int := ((min 15 (m * scale / 256) : Nat) : Int)
  if !valid then 0 else if bit then -v else v

/-- Eight coded-bit LLRs of a 9-bit word (R101, R185): the fifth channel bit is dropped. -/
def softWord (l : List Int) : List Int := l.take 4 ++ l.drop 5

/-- The 2,560 LLRs of a data field of 2,880 channel bits (R185): decisions with reliability and validity. -/
def softPiece (scale : Nat) (bits : List (Bool × Nat × Bool)) : List Int :=
  (List.range 320).flatMap fun m => softWord (((bits.drop (9 * m)).take 9).map fun (b, r, ok) => softBit b ok r scale)

/-- The a priori values of a piece's 2,880 channel bits from 2,560 coded bits: 0 on each inserted bit (R184). -/
def aprioriBits (l : List Int) : List Int :=
  (List.range 320).flatMap fun m => let w := (l.drop (8 * m)).take 8; w.take 4 ++ [0] ++ w.drop 4

/-! Quality (R210) -/

/-- 100 log10 (a / b) in whole tenths of a decibel, rounded toward 0 and held to 12 bits (R210, log entry 140):
the numbers of the scale that the ratio reaches. -/
def dbTenths (a b : Nat) : Int :=
  if a = 0 ∨ b = 0 then -2048
  else if b ≤ a then (((List.range 2048).filter fun v => decide (10 ^ v * b ^ 100 ≤ a ^ 100)).length : Int) - 1
  else 1 - (((List.range 2049).filter fun v => decide (10 ^ v * a ^ 100 ≤ b ^ 100)).length : Int)

/-- The equaliser MSE of some detector errors against a target (R210): none without a valid bit. -/
def mseOf (g : List Int) (errs : List Int) : Option Int :=
  if errs.isEmpty then none
  else some (dbTenths (errs.map fun e => e.natAbs ^ 2).sum (errs.length * (g.map fun x => x.natAbs ^ 2).sum))

/-! Sync (R188) -/

/-- Bits of a window that disagree with the sync mark, out of 48 (R188). -/
def syncDistance (bits : List Bool) : Nat := ((bits.zip syncMark).filter fun (a, b) => a != b).length

/-- A candidate ranks before another (R188): the lower distance, then nearer to the prediction, then earlier. -/
def candBefore (x y : SyncCand) : Bool :=
  decide (x.distance < y.distance) || (decide (x.distance = y.distance) &&
    (decide (x.offset.natAbs < y.offset.natAbs) || (decide (x.offset.natAbs = y.offset.natAbs) && decide (x.offset < y.offset))))

/-- The two best of some candidates. -/
def bestTwo (l : List SyncCand) : Option SyncCand × Option SyncCand :=
  l.foldl (fun (a, b) x =>
    match a with
    | none => (some x, b)
    | some u => if candBefore x u then (some x, a) else match b with
      | none => (a, some x)
      | some v => if candBefore x v then (a, some x) else (a, b)) (none, none)

/-- A beam's two best candidates (R188): offsets within `win` of the predicted start, which stands at index `at_` of
its tentative decisions, with at most `maxerr` bits wrong. -/
def syncCands (bits : List Bool) (at_ win maxerr : Nat) : Option SyncCand × Option SyncCand :=
  bestTwo ((List.range (2 * win + 1)).filterMap fun i =>
    let w := (bits.drop (at_ + i - win)).take 48
    let d := syncDistance w
    if w.length = 48 ∧ d ≤ maxerr then some { offset := (i : Int) - win, distance := d } else none)

/-! Re-detection of one piece (R200, R201) -/

/-- The interpolated sample at a place of a stored data field; one outside it is invalid (R201). -/
def storedAt (xs : List Samp) (i : Int) : Samp := if i < 0 then { v := 0, ok := false } else xs.getD i.toNat { v := 0, ok := false }

/-- Stored samples through the equaliser: the main tap, tap 11, meets its own bit. -/
def equalisedPiece (taps : List Int) (xs : List Samp) (slide : Int) : List Samp :=
  (List.range 2880).map fun (k : Nat) =>
    let c : Int := k + slide
    { v := equalised taps ((List.range 24).map fun (t : Nat) => (storedAt xs (c + 11 - (t : Int))).v), ok := (storedAt xs c).ok }

/-- Three signals of a neighbour about a bit, when the neighbour has valid samples there (R183). -/
def aboutBit (ys : List Samp) (k : Nat) : Option (List Int) :=
  let l := [storedAt ys ((k : Int) - 1), storedAt ys k, storedAt ys ((k : Int) + 1)]
  if l.all fun x => x.ok then some (l.map fun x => x.v) else none

/-- What a re-detection gives: 2,560 LLRs and the MSE of the pass (R200, R210). -/
structure RedetRes where
  llrs : List Int
  mse : Option Int
  deriving DecidableEq, Repr

/-- The stored samples of a piece again through the equaliser, the canceller and the detector (R200), with the taps
given, the neighbours' equalised samples where they are captured, and a priori LLRs or none. -/
def redetect (g taps canc : List Int) (scale : Nat) (xs : List Samp) (nIn nOut : Option (List Samp)) (slide : Int)
    (apriori : Option (List Int)) : RedetRes :=
  let ys := equalisedPiece taps xs slide
  let zs := ys.zipIdx.map fun (y, k) =>
    let side (n : Option (List Samp)) : Option (List Int) := n.bind fun l => aboutBit l k
    ({ v := cancelled y.v canc (side nIn) (side nOut), ok := y.ok } : Samp)
  let ap := (apriori.map aprioriBits).getD []
  let idle := List.replicate decisionDepth ({ v := 0, ok := false } : Samp)
  let run := (zs ++ idle).zipIdx.foldl (fun (acc : List Survivor × List (Bool × Nat)) (z, k) =>
    let t := trellisStep g z (ap.getD k 0) acc.1
    (t, if k < decisionDepth then acc.2 else decidedBit t :: acc.2)) (trellisStart, [])
  let bits := run.2.reverse
  let errs := (zs.zipIdx.filter fun (z, k) => z.ok && decide (3 ≤ k)).map fun (z, k) =>
    z.v - idealOut g ((List.range 4).map fun i => (bits.getD (k - i) (false, 0)).1)
  { llrs := softPiece scale ((bits.zip zs).map fun ((b, r), z) => (b, r, z.ok)), mse := mseOf g errs }

end Sys2Proof.Machine
end

