-- ==== Sys2Proof/Machine/Cells.lean ====
section
/-!
DEFINITION. The channel cells of a head at work (R170-R184): bit by bit, each cell takes input samples to one
interpolated sample, equalises, cancels and detects it, the timing loop and the LMS loops follow the detector error.
Streams, delays and units are those of log entry 141.
-/
namespace Sys2Proof.Machine

/-- What the registers of BAND and the place on the disc fix for a segment (R171-R184, R217). `range` is the largest
frequency term, `live` the beams neither masked nor dead, `edge` the edge reconstruction of each bit index, from which
`shift` places the segment's own start. -/
structure CellCfg where
  target : List Int
  sigPol : Bool
  fixMain : Bool
  eqAdapt : Bool
  cancEn : Bool
  cancAdapt : Bool
  mu : Nat
  cancMu : Nat
  gainMu : Nat
  ofsMu : Nat
  asymMu : Nat
  gainBound : Nat
  ofsBound : Nat
  eqBound : Nat
  kp : Nat
  ki : Nat
  acqKp : Nat
  acqKi : Nat
  ratio : Nat
  range : Int
  odd : Bool
  live : Nat
  edge : List (Option Int)
  shift : Int
  deriving DecidableEq, Repr

/-- Units of an adapted value in a register LSB. -/
def fineUnit : Int := 2 ^ 24

/-- Values with each number scaled. -/
def scaleVals (f : Int → Int) (v : CellVals) : CellVals :=
  { gain := f v.gain, offset := f v.offset, asym := f v.asym, taps := v.taps.map f, canc := v.canc.map f }

/-- Adapted values from register values, and what the registers show of them. -/
def fineVals (v : CellVals) : CellVals := scaleVals (fun x => x * fineUnit) v
def coarseVals (v : CellVals) : CellVals := scaleVals (fun x => x / fineUnit) v

/-- The cells of a head under way: the cells, their start values, their adapted values, the shared terms. -/
structure CellsRun where
  cells : List CellRun
  start : List CellVals
  vals : List CellVals
  freq : Int
  acqLeft : Nat
  lockOut : Bool
  deriving DecidableEq, Repr

/-- A cell that has seen nothing. -/
def CellRun.idle : CellRun :=
  { inp := [], xs := [], acc := 0, sum := (0, 0), len := 0, ws := [], ys := [], zs := [], tents := [], errs := [], decs := [],
    paths := trellisStart, hits := [] }

/-! One interpolated sample (R170, R171, R174) -/

/-- A cell takes input samples until its accumulator overflows and it emits one; false where its input ran dry. -/
def CellRun.emit (cfg : CellCfg) (v : CellVals) (step : Int) : List Int → CellRun → CellRun × Bool
  | [], c => ({ c with inp := [] }, false)
  | x :: r, c =>
    let ok := decide (x ≠ -128)
    let xs := ({ v := if ok then conditioned cfg.sigPol v.offset v.gain v.asym x else 0, ok := ok } :: c.xs).take 8
    let sum := if ok then (c.sum.1 + x.natAbs, c.sum.2 + 1) else c.sum
    let acc := c.acc + step
    if (2 : Int) ^ 48 ≤ acc then
      let rest := acc - 2 ^ 48
      let w := interpolated (interpPhase rest.toNat step.toNat) xs
      ({ c with inp := r, xs := xs, acc := rest, sum := (0, 0), len := c.len + 1, ws := { s := w, abs := sum.1, n := sum.2 } :: c.ws }, true)
    else CellRun.emit cfg v step r { c with xs := xs, sum := sum, acc := acc }

/-- A cell without input emits an invalid sample while its neighbours go on. -/
def CellRun.starve (c : CellRun) : CellRun :=
  { c with len := c.len + 1, ws := { s := { v := 0, ok := false }, abs := 0, n := 0 } :: c.ws }

/-- The equaliser follows 11 bits behind (R177). -/
def CellRun.equalise (taps : List Int) (c : CellRun) : CellRun :=
  if c.len < 12 then c
  else { c with ys := { v := equalised taps ((c.ws.take 24).map fun w => w.s.v), ok := match c.ws[11]? with | some w => w.s.ok | none => false } :: c.ys }

/-! Neighbours (R181-R183) -/

/-- An equalised sample of a cell at a bit index. -/
def CellRun.yAt (c : CellRun) (i : Int) : Samp :=
  let p := (c.len : Int) - 12 - i
  if p < 0 then { v := 0, ok := false } else c.ys.getD p.toNat { v := 0, ok := false }

/-- The edge reconstruction at a bit index (R182). -/
def CellCfg.edgeAt (cfg : CellCfg) (i : Int) : Option Int :=
  let p := i - cfg.shift
  if p < 0 then none else (cfg.edge[p.toNat]?).getD none

/-- A neighbour's signals about a bit index: none where the side is omitted. -/
def sideSignal (cfg : CellCfg) (cells : List CellRun) (n : Neighbour) (i : Int) : Option (List Int) :=
  match n with
  | .none => none
  | .beam b =>
    let c := cells.getD b CellRun.idle
    let l := [c.yAt (i - 1), c.yAt i, c.yAt (i + 1)]
    if cfg.live / 2 ^ b % 2 = 1 ∧ l.all (fun x => x.ok) then some (l.map fun x => x.v) else none
  | .edge _ =>
    match cfg.edgeAt (i - 1), cfg.edgeAt i, cfg.edgeAt (i + 1) with
    | some a, some b, some c => some [a, b, c]
    | _, _, _ => none

/-! Detection and the detector error (R177, R184) -/

/-- The decisions that the detector now gives (R177, R184): a tentative one with its detector error, and a final one. -/
def CellRun.deciding (cfg : CellCfg) (c : CellRun) : CellRun :=
  let tents := tentativeBit c.paths :: c.tents
  let zk := c.zs.getD 16 { v := 0, ok := false }
  let e := if zk.ok && decide (4 ≤ tents.length) then some (zk.v - idealOut cfg.target (tents.take 4)) else none
  let d := if c.len < 29 then c else { c with tents := tents, errs := e :: c.errs }
  if c.len < 77 then d else { d with decs := decidedBit c.paths :: d.decs }

/-- The cancelled sample of the bit 12 behind enters the detector. -/
def CellRun.detect (cfg : CellCfg) (cells : List CellRun) (v : CellVals) (b : Nat) (c : CellRun) : CellRun :=
  if c.len < 13 then c
  else
    let i : Int := (c.len : Int) - 13
    let y := c.yAt i
    let z : Samp := {
      v := cancelled y.v v.canc (sideSignal cfg cells (innerNeighbour cfg.odd b) i) (sideSignal cfg cells (outerNeighbour cfg.odd b) i),
      ok := y.ok }
    let paths := trellisStep cfg.target z 0 c.paths
    ({ c with zs := z :: c.zs, paths := paths }).deciding cfg

/-- A beam's phase error (R175): from the newest detected bit and the one before it, both valid. -/
def CellRun.phaseError (cfg : CellCfg) (c : CellRun) : Option Int :=
  match c.zs[16]?, c.zs[17]? with
  | some z0, some z1 =>
    if z0.ok && z1.ok && decide (5 ≤ c.tents.length) then
      some (z0.v * idealOut cfg.target ((c.tents.drop 1).take 4) - z1.v * idealOut cfg.target (c.tents.take 4))
    else none
  | _, _ => none

/-! Adaptation (R172, R178, R180) -/

/-- Clamp between two bounds in register LSB. -/
def fineClamp (lo hi v : Int) : Int := max (lo * fineUnit) (min (hi * fineUnit) v)

/-- The taps after one bit, and those that stand at their bound. -/
def tapStep (cfg : CellCfg) (start : CellVals) (e : Int) (ws : List Int) (taps : List Int) : List Int × List Nat :=
  let bound : Int := 32 * (cfg.eqBound : Int)
  let l := taps.zipIdx.map fun (v, t) =>
    if cfg.fixMain && t == 11 then v
    else
      let a := start.taps.getD t 0
      fineClamp (a - bound) (a + bound) (v - e * ws.getD t 0 * fineUnit / 2 ^ cfg.mu)
  (l, (List.range 24).filter fun t =>
    let d := l.getD t 0 - start.taps.getD t 0 * fineUnit
    decide (0 < bound) && !(cfg.fixMain && t == 11) && decide (d.natAbs = (bound * fineUnit).natAbs))

/-- A cell's values after one bit whose detector error is `e` (R172, R178, R180), and the taps at a bound. -/
def adaptStep (cfg : CellCfg) (cells : List CellRun) (b : Nat) (c : CellRun) (start v : CellVals) (e : Int) : CellVals × List Nat :=
  let i : Int := (c.len : Int) - 29
  -- w at k + 11 - t, the sample that tap t met
  let ws := (c.ws.drop 17).take 24 |>.map fun w => w.s.v
  let wk := ws.getD 11 0
  let sg : Int := if e < 0 then -1 else if 0 < e then 1 else 0
  let g0 := if start.gain = 0 then 1 else start.gain
  let gb : Int := cfg.gainBound
  let ob : Int := cfg.ofsBound
  let (taps, hits) := if cfg.eqAdapt then tapStep cfg start e ws v.taps else (v.taps, [])
  let side (n : Neighbour) (l : List Int) : List Int :=
    match sideSignal cfg cells n i with
    | some s => (l.zip s).map fun (a, x) => fineClamp (-64) 64 (a + e * x * fineUnit / 2 ^ cfg.cancMu)
    | none => l
  let canc := if cfg.cancEn && cfg.cancAdapt then
      side (innerNeighbour cfg.odd b) (v.canc.take 3) ++ side (outerNeighbour cfg.odd b) (v.canc.drop 3)
    else v.canc
  ({ gain := fineClamp (g0 * (16 - gb) / 16) (g0 * (16 + gb) / 16) (v.gain - sg * wk * fineUnit / 2 ^ cfg.gainMu),
     offset := fineClamp (start.offset - 4 * ob) (start.offset + 4 * ob) (v.offset + sg * fineUnit / 2 ^ cfg.ofsMu),
     asym := fineClamp (start.asym - 32) (start.asym + 32) (v.asym + sg * wk * wk * fineUnit / 2 ^ cfg.asymMu),
     taps := taps, canc := canc }, hits)

/-! One bit of the band -/

/-- The mean of some numbers, toward zero. -/
def meanInt (l : List Int) : Int := if l.isEmpty then 0 else l.sum.tdiv l.length

/-- Every cell that has `n` bits goes on to the next one; `adapt` says which of them adapt. False when no cell has
input left. -/
def CellsRun.tick (cfg : CellCfg) (adapt : List Bool) (n : Nat) (x : CellsRun) : CellsRun × Bool :=
  let acting (c : CellRun) : Bool := decide (c.len = n)
  let step := cfg.ratio + x.freq
  let em := x.cells.zipIdx.map fun (c, b) =>
    if acting c then c.emit cfg (coarseVals (x.vals.getD b CellVals.zero)) step c.inp else (c, false)
  if em.all fun e => !e.2 then ({ x with cells := em.map fun e => e.1 }, false)
  else
    let cells := (em.zip x.cells).zipIdx.map fun ((e, old), b) =>
      if acting old then (if e.2 then e.1 else e.1.starve).equalise (coarseVals (x.vals.getD b CellVals.zero)).taps else e.1
    let acts (b : Nat) : Bool := (x.cells[b]?).any acting
    let cells := cells.zipIdx.map fun (c, b) => if acts b then c.detect cfg cells (coarseVals (x.vals.getD b CellVals.zero)) b else c
    let errs := cells.zipIdx.map fun (c, b) => if acts b then c.phaseError cfg else none
    let acq := decide (0 < x.acqLeft)
    let kp := if acq then cfg.acqKp else cfg.kp
    let ki := if acq then cfg.acqKi else cfg.ki
    let f := x.freq + meanInt (errs.filterMap id) * Config.timingUnit / 2 ^ ki
    let out := decide (cfg.range < f) || decide (f < -cfg.range)
    let moved := cells.zipIdx.map fun (c, b) =>
      match acts b && adapt.getD b false, c.errs.head? with
      | true, some (some e) => adaptStep cfg cells b c (x.start.getD b CellVals.zero) (x.vals.getD b CellVals.zero) e
      | _, _ => (x.vals.getD b CellVals.zero, [])
    let cells := cells.zipIdx.map fun (c, b) =>
      let c := match errs.getD b none with
        | some e => { c with acc := c.acc + e * Config.timingUnit / 2 ^ kp }
        | none => c
      { c with hits := (c.hits ++ (moved.getD b (CellVals.zero, [])).2).eraseDups }
    ({ x with cells := cells, vals := moved.map fun m => m.1, freq := max (-cfg.range) (min cfg.range f), acqLeft := x.acqLeft - 1,
              lockOut := x.lockOut || out }, true)

/-- Bits until every cell has `n + fuel` of them, or no input is left. -/
def CellsRun.go (cfg : CellCfg) (adapt : List Bool) : Nat → Nat → CellsRun → CellsRun
  | 0, _, x => x
  | fuel + 1, n, x =>
    let (y, more) := x.tick cfg adapt n
    if more then CellsRun.go cfg adapt fuel (n + 1) y else y

/-- Bits until every cell has `target` of them. -/
def CellsRun.runTo (cfg : CellCfg) (adapt : List Bool) (target : Nat) (x : CellsRun) : CellsRun :=
  let lo := x.cells.foldl (fun m c => min m c.len) target
  CellsRun.go cfg adapt (target - lo) lo x

/-! Reading the streams -/

/-- A stream that is `lag` bits behind, oldest first, from a bit index on. -/
def streamFrom {α : Type} (len lag : Nat) (xs : List α) (i n : Nat) : List α :=
  -- the newest entry has index len - 1 - lag
  let l := xs.take (len - lag - i)
  l.reverse.take n

/-- Tentative decisions, decisions, interpolated samples and errors of a cell from a bit index on. -/
def CellRun.tentsFrom (c : CellRun) (i n : Nat) : List Bool := streamFrom c.len 28 c.tents i n
def CellRun.errsFrom (c : CellRun) (i n : Nat) : List (Option Int) := streamFrom c.len 28 c.errs i n
def CellRun.decsFrom (c : CellRun) (i n : Nat) : List (Bool × Nat) := streamFrom c.len 76 c.decs i n
def CellRun.wsFrom (c : CellRun) (i n : Nat) : List WBit := streamFrom c.len 0 c.ws i n

/-- The oldest bits of a cell's streams go. -/
def CellRun.dropBits (c : CellRun) (n : Nat) : CellRun :=
  { c with len := c.len - n, ws := c.ws.take (c.len - n), ys := c.ys.take (c.len - 11 - n), zs := c.zs.take (c.len - 12 - n),
           tents := c.tents.take (c.len - 28 - n), errs := c.errs.take (c.len - 28 - n), decs := c.decs.take (c.len - 76 - n) }

end Sys2Proof.Machine
end

