-- ==== Sys2Proof/Machine/Crossings.lean ====
section
/-!
DEFINITION. Clock islands and the crossings between them (R39-R44, R66): control-class and data-class
crossings, RESYNC, and what an island's reset does to them.
-/
namespace Sys2Proof.Machine

/-- Change the arbiter's and clocks' state. -/
def State.setArb (s : State) (x : ArbSt) : State := { s with arb := x }

/-! Islands (R66, R67) -/

/-- Island i is clocked and out of reset. -/
def State.islRun (s : State) (i : Nat) : Bool :=
  if i < 32 then s.fldBit ckPage CK.ISL_RUN0 i else s.fldBit ckPage CK.ISL_RUN1 (i - 32)

/-- The region that holds an island's blocks (R34, R39; the spine and CK's islands stand with MEM and SYS: log entry 50). -/
def islandRegion (i : Nat) : Nat :=
  if i < 32 then i / 8
  else match i with
    | 32 => 3
    | 33 | 38 | 39 => 5
    | 34 | 35 | 36 | 37 => 4
    | 40 | 41 | 42 | 43 | 44 | 45 => 6
    | 57 | 58 => 7
    | _ => 8

/-! Crossings -/

/-- A crossing's key. -/
def xingKey (x : Crossing) : Nat := x.src.val + 64 * x.dst.val + 4096 * x.no.val

/-- The islands of a key. -/
def keySrc (k : Nat) : Nat := k % 64
def keyDst (k : Nat) : Nat := k / 64 % 64

/-- A crossing after chip reset (R43): in RESYNC with its stale flag set. RG_STALE_NOW counts it once something has
used it, since its reset value is 0 (log entry 50). -/
def ctlFresh (k : Nat) : CtlXing :=
  { cur := 0, flight := none, update := none, recv := Config.receiverReset k, stale := true, resync := true, used := false }
def dataFresh (_ : Nat) : DataXing := { inFlight := [], readable := [], heldOff := true, resync := true }

def State.ctl (s : State) (k : Nat) : CtlXing := storeFind ctlFresh s.arb.ctl k
def State.setCtl (s : State) (k : Nat) (x : CtlXing) : State :=
  s.setArb { s.arb with ctl := storePut ctlFresh s.arb.ctl k { x with used := true } }
def State.dat (s : State) (k : Nat) : DataXing := storeFind dataFresh s.arb.data k
def State.setDat (s : State) (k : Nat) (x : DataXing) : State :=
  s.setArb { s.arb with data := storePut dataFresh s.arb.data k x }

/-- The receiver of a crossing that has been in use since chip reset holds a stale value, on which it must not act (R43,
R44). The controller's own signals that chapters name as crossings are those of log entry 146. -/
def State.xingStale (s : State) (src dst no : Nat) : Bool :=
  let x := s.ctl (src + 64 * dst + 4096 * no)
  x.used && x.stale

/-- Control-class receivers of a region with their stale flag set: RG_STALE_NOW (R51). -/
def State.staleNow (s : State) (r : Nat) : Nat :=
  min 0xFFFF (s.arb.ctl.filter fun e => e.2.used && e.2.stale && decide (islandRegion (keyDst e.1) = r)).length

/-- A control-class crossing enters RESYNC (R43): the receiver holds its last captured value, or its reset
value when it was reset itself. -/
def State.ctlResync (s : State) (k : Nat) (dstReset : Bool) : State :=
  let x := s.ctl k
  s.setCtl k { x with flight := none, update := none, stale := true, resync := true,
                      recv := if dstReset then Config.receiverReset k else x.recv }

/-- A data-class crossing enters RESYNC (R43): the items in flight are discarded and counted in the receiving
region, and the source is held off. -/
def State.datResync (s : State) (k : Nat) : State :=
  let x := s.dat k
  (s.setDat k { x with inFlight := [], heldOff := true, resync := true }).count
    (regionPage (islandRegion (keyDst k))) REGION.RG_XING_DROP x.inFlight.length

/-- Crossings of which a side is reset enter RESYNC: `hit` says of a crossing whether a reset side of it is in an
island. -/
def State.resyncAt (s : State) (hit : Nat → Nat → Bool) : State :=
  let on (k : Nat) : Bool := hit k (keySrc k) || hit k (keyDst k)
  let t := s.forEach ((s.arb.ctl.map fun e => e.1).filter on) fun u k => u.ctlResync k (hit k (keyDst k))
  t.forEach ((s.arb.data.map fun e => e.1).filter on) State.datResync

/-- Every crossing of some islands enters RESYNC. -/
def State.resyncOf (s : State) (isl : List Nat) : State := s.resyncAt fun _ i => isl.contains i

/-- An island is clocked and out of reset, or not: its crossings enter RESYNC as it stops (R43, R68). -/
def State.setIsl (s : State) (i : Nat) (run : Bool) : State :=
  if s.islRun i = run then s
  else
    let t := if i < 32 then s.setFldBit ckPage CK.ISL_RUN0 i run else s.setFldBit ckPage CK.ISL_RUN1 (i - 32) run
    if run then t else t.resyncOf [i]

/-- CONTROL_VALUE_WRITE (R40, R41): the take flag rises, or the value becomes the pending update. -/
def execControlValueWrite (x : Crossing) (v : Nat) (s : State) : Res :=
  let k := xingKey x
  let c := s.ctl k
  if c.resync then done (s.setCtl k { c with cur := v })
  else match c.flight with
    | none => done (s.setCtl k { c with cur := v, flight := some (v, false), update := none })
    | some _ => done (s.setCtl k { c with cur := v, update := some v })

/-- CONTROL_CAPTURE (R40, R43): the receiver takes the whole value. -/
def execControlCapture (x : Crossing) (s : State) : Res :=
  let k := xingKey x
  let c := s.ctl k
  match c.flight with
  | some (v, false) => done (s.setCtl k { c with recv := v, stale := false, flight := some (v, true) })
  | _ => done s

/-- CONTROL_ACK_ARRIVAL (R41): the pending update is launched. -/
def execControlAckArrival (x : Crossing) (s : State) : Res :=
  let k := xingKey x
  let c := s.ctl k
  match c.flight with
  | some (_, true) => done (s.setCtl k { c with flight := c.update.map fun v => (v, false), update := none })
  | _ => done s

/-- DATA_ITEM_WRITE (R42, R43): a full FIFO, or RESYNC, holds the source off. -/
def execDataItemWrite (x : Crossing) (item : Nat) (s : State) : Res :=
  let k := xingKey x
  let d := s.dat k
  if d.resync ∨ Config.fifoDepth k < d.inFlight.length then done (s.setDat k { d with heldOff := true })
  else done (s.setDat k { d with inFlight := d.inFlight ++ [item] })

/-- RESYNC_ENTRY (R43): a reset of both sides at once is one RESYNC, and one that begins during a handshake
finds nothing left to count. -/
def execResyncEntry (x : Crossing) (cls : XingClass) (sides : Sides) (s : State) : Res :=
  if !sides.src ∧ !sides.dst then done s
  else match cls with
    | .control => done (s.ctlResync (xingKey x) sides.dst)
    | .data => done (s.datResync (xingKey x))

/-- RESYNC_HANDSHAKE_DONE (R43): with both sides out of reset the pointers are zeroed, and the source launches
its current value. -/
def execResyncHandshakeDone (x : Crossing) (cls : XingClass) (s : State) : Res :=
  let k := xingKey x
  if !s.islRun x.src.val ∨ !s.islRun x.dst.val then done s
  else
    let counted (t : State) : State := t.count (regionPage (islandRegion x.dst.val)) REGION.RG_RESYNC_CNT
    match cls with
    | .control =>
      let c := s.ctl k
      if c.resync then done (counted (s.setCtl k { c with resync := false, flight := some (c.cur, false), update := none })) else done s
    | .data =>
      let d := s.dat k
      if d.resync then done (counted (s.setDat k { d with resync := false, heldOff := false, readable := [] })) else done s

end Sys2Proof.Machine
end

