-- ==== Sys2Proof/Machine/Link.lean ====
section
/-!
DEFINITION. The slip link of a head (R133-R168): lanes, frames, sparing, training, loss; the reports that
touch the link alone.
-/
namespace Sys2Proof.Machine

/-- A lane at reset. -/
def LaneSt.down : LaneSt :=
  { block := false, frame := false, hdrs := [], scr := 0, good := 0, bad := 0, lpos := none, standby := false, fseq := 0, sv := false,
    frames := 0, corrupt := [], left := 0, thr := 8, win := 4096 }

/-- A link at reset. -/
def LinkSt.down : LinkSt :=
  { lanes := [], attempt := 0, began := 0, uncounted := false, retryDue := false, identOk := false, mapPending := none, set := none, laserPower := 0,
    laserCurrent := 0, laserTemp := 0, compTemp := 0, nonownDrop := 0, tables := [], quarters := [] }

/-- The link of head h. -/
def State.link (s : State) (h : Nat) : LinkSt := storeFind (fun _ => LinkSt.down) s.links h

/-- Set the link of head h. -/
def State.setLink (s : State) (h : Nat) (x : LinkSt) : State :=
  { s with links := storePut (fun _ => LinkSt.down) s.links h x }

/-- A lane of a head. -/
def State.lane (s : State) (h i : Nat) : LaneSt := storeFind (fun _ => LaneSt.down) (s.link h).lanes i

/-- Set a lane of a head; UL_OK and DL_OK follow its locks (R168). -/
def State.setLane (s : State) (h i : Nat) (x : LaneSt) : State :=
  let l := s.link h
  let t := s.setLink h { l with lanes := storePut (fun _ => LaneSt.down) l.lanes i x }
  let ok := x.block && x.frame
  if i < 9 then t.setFldBit (headPage h) HEAD.LINK_STAT_UL_OK i ok
  else t.setFldBit (headPage h) HEAD.LINK_STAT_DL_OK (i - 9) ok

/-- LINK_STAT.STATE. -/
def State.linkState (s : State) (h : Nat) : Nat := s.fld (headPage h) HEAD.LINK_STAT_STATE

/-- Set LINK_STAT.STATE; READY reads 1 while it is up (R168). -/
def State.setLinkState (s : State) (h n : Nat) : State :=
  (s.setFld (headPage h) HEAD.LINK_STAT_STATE n).setReady (headPage h) (decide (n = 5))

/-- The head group's event code: 0xgxxx (R609). -/
def headCode (h low : Nat) : Nat := (if h = 32 then 3 else h / 8) * 0x1000 + low

/-- The always-on fault count of a lane (R146). -/
def State.laneFaults (s : State) (h i : Nat) : Nat := storeFind (fun _ => 0) s.aon (16 * h + i)

/-- A lane that faulted three times since PORST_N is retired (R146). -/
def State.laneRetired (s : State) (h i : Nat) : Bool := decide (3 ≤ s.laneFaults h i)

/-- Mark a lane faulted (R168). -/
def State.setLaneFailed (s : State) (h i : Nat) (b : Bool) : State :=
  if i < 9 then s.setFldBit (headPage h) HEAD.LINK_MAP_UL_FAILED i b
  else s.setFldBit (headPage h) HEAD.LINK_MAP_DL_FAILED (i - 9) b

/-- Whether a lane is marked faulted. -/
def State.laneFailed (s : State) (h i : Nat) : Bool :=
  if i < 9 then s.fldBit (headPage h) HEAD.LINK_MAP_UL_FAILED i
  else s.fldBit (headPage h) HEAD.LINK_MAP_DL_FAILED (i - 9)

/-- Lane i of a head is a standby upstream link lane. -/
def State.isStandby (s : State) (h i : Nat) : Bool :=
  let x := s.lane h i
  x.standby && x.block && x.frame && !s.laneFailed h i

/-- The standby upstream link lane of a head: UL8 first (R144, R163). -/
def State.standbyLane (s : State) (h : Nat) : Option Nat := [8, 7, 6, 5, 4, 3, 2, 1, 0].find? fun i => s.isStandby h i

/-- The head island has its recovered clock while an upstream lane is in block lock, and BAND[h] is
ready with it (R134, R217). -/
def State.bandClock (s : State) (h : Nat) : State :=
  let on := (List.range 9).any fun i => (s.lane h i).block
  ((s.setIsl h on).setReady (bandPage h) on).refreshHead h

/-- Sync headers enter a lane's last 64 (R133); the newest stands first. -/
def LaneSt.seeHdrs (x : LaneSt) (hs : List (Fin 4)) : LaneSt := { x with hdrs := ((hs.map hdrValid).reverse ++ x.hdrs).take 64 }

/-- A lane gains block lock at 64 consecutive valid headers, and loses it at 16 invalid ones within 64 (R133). -/
def LaneSt.blockGains (x : LaneSt) : Bool := decide (x.hdrs.length = 64) && x.hdrs.all fun b => b
def LaneSt.blockLoses (x : LaneSt) : Bool := decide (16 ≤ (x.hdrs.filter fun b => !b).length)

/-- BLOCK_LOCK_GAINED (R133): the headers received join the lane's last 64. The locks of a downstream lane are the
companion's own. -/
def execBlockLockGained (h : HeadIx) (lane : LaneHdrs) (s : State) : Res :=
  let hdrs := lane.hdrs
  let lane := lane.lane
  let x := (s.lane h.val lane.val).seeHdrs hdrs
  let on := x.block || x.blockGains || decide (9 ≤ lane.val)
  done ((s.setLane h.val lane.val { x with block := on }).bandClock h.val)

/-- BLOCK_LOCK_LOST (R133): frame lock goes with it. -/
def execBlockLockLost (h : HeadIx) (lane : LaneHdrs) (s : State) : Res :=
  let hdrs := lane.hdrs
  let lane := lane.lane
  let x := (s.lane h.val lane.val).seeHdrs hdrs
  if x.blockLoses || decide (9 ≤ lane.val) then
    done ((s.setLane h.val lane.val { x with block := false, frame := false, hdrs := [], good := 0, bad := 0 }).bandClock h.val)
  else done (s.setLane h.val lane.val x)

/-- FRAME_LOCK_GAINED (R141): after four consecutive good trailers; frame lock stands on block lock. The locks of a
downstream lane are the companion's own. -/
def execFrameLockGained (h : HeadIx) (lane : LaneIx) (s : State) : Res :=
  let x := s.lane h.val lane.val
  if x.block ∧ (4 ≤ x.good ∨ 9 ≤ lane.val) then done (s.setLane h.val lane.val { x with frame := true }) else done s

/-- FRAME_LOCK_LOST (R141): after four consecutive failed trailers. -/
def execFrameLockLost (h : HeadIx) (lane : LaneIx) (s : State) : Res :=
  let x := s.lane h.val lane.val
  if 4 ≤ x.bad ∨ 9 ≤ lane.val then done (s.setLane h.val lane.val { x with frame := false }) else done s

/-! Upstream frames (R135-R143) -/

/-- A position has moved to a lane: LINK_MAP, the spare and its event (R144, R146). -/
def State.mapDone (s : State) (h p lane : Nat) : State :=
  let t := s.setLink h { s.link h with mapPending := none }
  let t := if lane = 8 then t.setFld (headPage h) HEAD.LINK_MAP_UL8_POS p
    else if t.fld (headPage h) HEAD.LINK_MAP_UL8_POS = p then t.setFld (headPage h) HEAD.LINK_MAP_UL8_POS 0xF else t
  ((t.useSpare (headPage h)).istat (headPage h) 10).event (headPage h) (headCode h 0x101) 3 lane

/-- A frame enters a lane's count (R143, R168): a write of CRC_CFG takes effect at the start of a window, and the corrupt
frames within the last window are kept. -/
def State.windowFrame (s : State) (h : Nat) (x : LaneSt) (bad : Bool) : LaneSt :=
  let y := if x.left = 0 then
      let n := 2 ^ s.fld (headPage h) HEAD.CRC_CFG_CRC_WIN
      { x with thr := max 1 (s.fld (headPage h) HEAD.CRC_CFG_CRC_THR), win := n, left := n }
    else x
  let n := y.frames + 1
  { y with frames := n, left := y.left - 1,
           corrupt := ((if bad then [n] else []) ++ y.corrupt).filter fun c => decide (n < c + y.win) }

/-- Corrupt frames of a lane within the window (R143). -/
def LaneSt.errs (x : LaneSt) : Nat := x.corrupt.length

/-- A lane takes a frame (R133, R138, R141, R143): its headers, its scrambler, its trailers, its corrupt frames; a good
trailer gives it its position, FSEQ and SV, a corrupt frame goes on from the last one. -/
def State.laneFrame (s : State) (h : Nat) (x : LaneSt) (f : UpFrame) (w : UpWords) (scr : Nat) : LaneSt :=
  let ok := w.crcOk
  let y := s.windowFrame h (x.seeHdrs (f.blocks.map fun b => b.hdr)) (!ok)
  let y := { y with scr := scr, good := if ok && w.typeOk then y.good + 1 else 0, bad := if ok && w.typeOk then 0 else y.bad + 1,
                    fseq := (y.fseq + 1) % 16 }
  if ok && decide (w.type = 0xB4) then { y with lpos := some w.lpos, standby := false, fseq := w.fseq, sv := w.sv }
  else if ok && decide (w.type = 0xB6) then { y with lpos := none, standby := true, fseq := w.fseq, sv := false }
  else y

/-! Faults and sparing (R143-R146) -/

/-- The cause of a lane fault holds (R143). The locks of a downstream lane are the companion's. -/
def State.laneCause (s : State) (h i : Nat) (why : LaneFault) : Bool :=
  let x := s.lane h i
  match why with
  | .lockLost => !(x.block && x.frame)
  | .duplicateLpos =>
    decide (i < 9) && x.lpos.isSome &&
    (List.range 9).any fun j => j != i && (s.lane h j).lpos == x.lpos && (s.lane h j).frame && (s.lane h j).block
  | .crcThreshold => decide (9 ≤ i) || decide (x.thr ≤ x.errs)

/-- Some cause of R143 holds. -/
def State.laneHasCause (s : State) (h i : Nat) : Bool :=
  s.laneCause h i .lockLost || s.laneCause h i .duplicateLpos || (decide (i < 9) && s.laneCause h i .crcThreshold)

/-- Move a position to a standby lane: LINK_MAP goes out (R144). -/
def State.linkMap (s : State) (h p lane : Nat) : State :=
  (s.setLink h { s.link h with mapPending := some (p, lane) }).send (.down h (.linkMap p lane))

/-- A spare lane is lost (R144, R146). -/
def State.loseSpareLane (s : State) (h : Nat) : State :=
  s.setPg (headPage h) HDR.SPARES_LEFT (s.fld (headPage h) HDR.SPARES_LEFT - 1)

/-- A lane fault (R143-R146) while the link is up. -/
def State.laneFault (s : State) (h i : Nat) : State :=
  let b := headPage h
  let x := s.lane h i
  let wasStandby := decide (i < 9) && x.standby
  let t := { s with aon := storePut (fun _ => 0) s.aon (16 * h + i) (s.laneFaults h i + 1) }
  let t := t.setLaneFailed h i true
  let t := t.setLane h i { x with lpos := none, standby := false, corrupt := [], left := 0 }
  if i = 9 then
    -- the spare is used, unless DL1 was in use already and DL0 left out
    if t.laneFailed h 10 ∨ s.fld b HEAD.LINK_MAP_DL_ACTIVE = 1 then t
    else ((t.setFld b HEAD.LINK_MAP_DL_ACTIVE 1).useSpare b).istat b 10 |>.event b (headCode h 0x101) 3 9
  else if i = 10 then (if s.fld b HEAD.LINK_MAP_DL_ACTIVE = 1 then t else t.loseSpareLane h)
  else if wasStandby then t.loseSpareLane h
  else match x.lpos with
    | none => t
    | some p =>
      match t.standbyLane h with
      | some lane => if t.flag b HEAD.LINK_CTRL_AUTO_SPARE then t.linkMap h p lane else t
      | none => (t.setLinkState h 6).istat b 14

/-- LINK_LANE_FAULT (R143): acts where its cause holds and the lane is not marked yet; while the link
is not up a lane is only left out (R146). -/
def execLinkLaneFault (h : HeadIx) (lane : LaneIx) (why : LaneFault) (s : State) : Res :=
  if s.linkState h.val ≠ 5 ∨ !s.laneCause h.val lane.val why ∨ s.laneFailed h.val lane.val then done s
  else done (s.laneFault h.val lane.val)

/-! Training (R163, R166) -/

/-- The transmit preset of a head's link lane at start: that of its trim word, which ROM defaults put at 5 (R567, R632). -/
def State.trimPreset (s : State) (h : Nat) : Nat := s.fld trimPage TRIM.TRIM_WORD (48 + (if h = 32 then 3 else h / 8)) / 2 ^ 16 % 16

/-- The preset in use on a downstream link lane. -/
def State.dlPreset (s : State) (h d : Nat) : Nat := ((s.dl h).presets[d]?).getD (s.trimPreset h)

/-- TRAIN blocks of a step go out on both downstream link lanes (R163), one for each upstream lane whose preset they ask. -/
def State.sendTrain (s : State) (h step : Nat) : State :=
  let blocks := (List.range 2).flatMap fun d => (List.range 9).map fun u =>
    trainBlock d step u (Config.presetAsk h u) (s.dlPreset h d)
  s.setDl h { s.dl h with train := blocks }

/-- The presets that the companion asks for in T1 (R163, R632). -/
def State.takePresets (s : State) (h : Nat) (blocks : List (BitVec 64)) : State :=
  let ask (d : Nat) : Nat := (blocks.reverse.findSome? fun w =>
    if trainOk w.toNat && decide (trainRev w.toNat = d) then some (trainAsk w.toNat) else none).getD (s.dlPreset h d)
  s.setDl h { s.dl h with presets := (List.range 2).map ask }

/-- Start a training from T0 (R163): lanes that are not retired are tested again (R146), and OWN is 0. -/
def State.startTraining (s : State) (h : Nat) (attempt : Nat) (uncounted : Bool) : State :=
  let b := headPage h
  let t := s.setLink h { s.link h with
    attempt := attempt, began := s.now, uncounted := uncounted, retryDue := false, identOk := false, mapPending := none, set := none }
  let t := t.forEach (List.range 11) fun u i =>
    (u.setLane h i { u.lane h i with lpos := none, standby := false, frame := false, good := 0, bad := 0, corrupt := [], left := 0 }).setLaneFailed h i
      (u.laneRetired h i)
  let t := (t.setFld b HEAD.LINK_MAP_UL8_POS 0xF).setFld b HEAD.LINK_MAP_DL_ACTIVE (boolNat (t.laneRetired h 9))
  let t := t.setDl h { t.dl h with presets := [] }
  ((t.setLinkState h 1).setOwnTx h false).sendTrain h 0

/-- A lane of mask and eyes passes T1: at least 0.30 UI and 40 mV (R163). -/
def eyeOk (e : Nat × Nat) : Bool := decide (39 ≤ e.1) && decide (40 ≤ e.2)

/-- The link comes up (R163 T4, R168): this side claims the head again where it holds the token. -/
def State.linkUp (s : State) (h : Nat) : State :=
  let t := (s.setLink h { s.link h with attempt := 0, uncounted := false }).setFld (headPage h) HEAD.LINK_CTRL_RETRAIN 0
  ((t.setLinkState h 5).istat (headPage h) 8).setOwnTx h (s.tokenMine h)

/-- Upstream lanes that are not retired, and downstream lanes that the companion reports locked and that are not. -/
def State.upLanes (s : State) (h : Nat) : List Nat := (List.range 9).filter fun i => !s.laneRetired h i
def State.downLanes (s : State) (h : Nat) (obs : TrainObs) : List Nat :=
  ((List.range 2).filter fun d => bitOf obs.dl.val d && !s.laneRetired h (9 + d)).map fun d => 9 + d

/-- The peer reports a step on a lane: a TRAIN block of it carries that STEP (R163). -/
def peerStep (obs : TrainObs) (lane step : Nat) : Bool :=
  obs.blocks.any fun w => trainOk w.toNat && decide (trainLane w.toNat = lane) && decide (trainStep w.toNat = step)

/-- The downstream lane in use: DL0, or DL1 where DL0 takes no part in this training (R145, R146, R168). -/
def State.useDownLanes (s : State) (h : Nat) (dl : List Nat) : State :=
  s.setFld (headPage h) HEAD.LINK_MAP_DL_ACTIVE (boolNat (!dl.contains 9))

/-- TRAINING_STEP_ADVANCE (R163): a step advances where its condition holds and the peer reports the step. -/
def execTrainingStepAdvance (h : HeadIx) (obs : TrainObs) (s : State) : Res :=
  let b := headPage h.val
  let up := s.upLanes h.val
  let dl := s.downLanes h.val obs
  match s.linkState h.val with
  | 1 =>
    let ul := up.filter fun i => (s.lane h.val i).block && peerStep obs i 0
    if 8 ≤ ul.length ∧ 1 ≤ dl.length then
      let t := s.forEach dl fun u i => u.setLane h.val i { u.lane h.val i with block := true }
      done (((t.setLinkState h.val 2).sendTrain h.val 1).bandClock h.val)
    else done s
  | 2 =>
    let t := s.forEach (List.range 9) fun u i =>
      match obs.eyes[i]? with
      | some e => ((u.setFld b HEAD.EYE_UL_WIDTH e.1 i).setFld b HEAD.EYE_UL_HEIGHT e.2 i).setFld b HEAD.EYE_UL_VALID 1 i
      | none => u
    let t := (t.takePresets h.val obs.blocks).sendTrain h.val 1
    let pass := up.filter fun i => (s.lane h.val i).block && peerStep obs i 1 && eyeOk (obs.eyes.getD i (0, 0))
    if 8 ≤ pass.length ∧ 1 ≤ dl.length then
      let t := t.forEach pass.zipIdx fun u (i, p) =>
        u.setLane h.val i { u.lane h.val i with lpos := if p < 8 then some p else none, standby := decide (p = 8) }
      let t := match pass.zipIdx.find? (fun x => x.1 = 8) with
        | some (_, p) => t.setFld b HEAD.LINK_MAP_UL8_POS (if p < 8 then p else 0xF)
        | none => t
      done ((t.useDownLanes h.val dl).setLinkState h.val 3)
    else done t
  | 3 =>
    let t := s.setFld b HEAD.LAT_SKEW (min 255 obs.skew)
    let placed := up.filter fun i => (s.lane h.val i).block && (s.lane h.val i).frame && (s.lane h.val i).lpos.isSome
    if 8 ≤ placed.length ∧ 1 ≤ dl.length ∧ obs.skew ≤ 31 then
      let t := t.forEach dl fun u i => u.setLane h.val i { u.lane h.val i with frame := true }
      done ((t.useDownLanes h.val dl).setLinkState h.val 4)
    else done t
  | 4 => if (s.link h.val).identOk then done (s.linkUp h.val) else done s
  | _ => done s

/-- The last attempt failed (R166). -/
def State.linkFailed (s : State) (h : Nat) (raise : Bool) : State :=
  let t := ((s.setLink h { s.link h with retryDue := false }).setFld (headPage h) HEAD.LINK_CTRL_RETRAIN 0).setLinkState h 8
  if raise then t.event (headPage h) (headCode h 0x103) 5 else t

/-- TRAINING_STEP_TIMEOUT (R163, R166): the attempt fails; it is retried, or the link is failed. The attempt that starts a
budget is made even where RETRY_MAX is 0 (log entry 145). -/
def execTrainingStepTimeout (h : HeadIx) (s : State) : Res :=
  let n := s.linkState h.val
  if n = 0 ∨ 4 < n then done s
  else
    let l := s.link h.val
    if !s.flag (headPage h.val) HEAD.LINK_CTRL_AUTO_RETRAIN then done (s.linkFailed h.val false)
    else if !l.uncounted ∧ s.fld (headPage h.val) HEAD.CRC_CFG_RETRY_MAX ≤ l.attempt then done (s.linkFailed h.val true)
    else done ((s.setLink h.val { l with retryDue := true }).setLinkState h.val 0)

/-- RETRAIN_RETRY (R166): RETRY_GAP after the last attempt's start another starts, or after RETRY_MAX the link fails. -/
def execRetrainRetry (h : HeadIx) (s : State) : Res :=
  let l := s.link h.val
  let gap := s.fld (headPage h.val) HEAD.CRC_CFG_RETRY_GAP * 100000000
  if !l.retryDue ∨ s.now < l.began + gap then done s
  else if l.uncounted then done (s.startTraining h.val l.attempt true)
  else if s.fld (headPage h.val) HEAD.CRC_CFG_RETRY_MAX ≤ l.attempt then done (s.linkFailed h.val true)
  else done (s.startTraining h.val (l.attempt + 1) false)

/-! Reports that touch the link alone -/

/-- IDENT (R162): the port must match the SIDE strap; the head is else miswired and not used (R20). -/
def execIdentMsg (h : HeadIx) (b : IdentBody) (s : State) : Res :=
  let p := headPage h.val
  let t := s.setFld p HEAD.COMP_ID (b.model.val + 2 ^ 16 * b.fwMajor.val + 2 ^ 24 * b.fwMinor.val)
  let t := t.setPair p HEAD.COMP_SER_LO HEAD.COMP_SER_HI b.serial.toNat
  if b.port.val = s.fld chipPage CHIP.SIDE then done (t.setLink h.val { t.link h.val with identOk := true })
  else
    let t := (t.setLinkState h.val 7).setLink h.val { t.link h.val with identOk := false }
    done (((t.setOwnTx h.val false).istat p 11).event p (headCode h.val 0x104) 4)

/-- ECHO_RSP (R168): round trip less the companion's turnaround, in units of 0.64 ns. -/
def execEchoRsp (h : HeadIx) (_tag elapsed turnaround : Nat) (s : State) : Res :=
  done (s.setFld (headPage h.val) HEAD.LAT_RTT (min 0xFFFF (elapsed - turnaround)))

/-- FIRE_CREDIT (R160): the chunks held, and every NACKed chunk resent at once. -/
def execFireCredit (h : HeadIx) (held0 held1 : Nat) (nacks : List (Fin 2 × Nat)) (s : State) : Res :=
  let b := headPage h.val
  let fill (u : State) (f : Fld) (n : Nat) : State :=
    if u.fld b f = 1 ∧ 1665 ≤ n then u.setFld b f 2 else if u.fld b f = 2 ∧ n < 1665 then u.setFld b f 1 else u
  let t := fill (fill s HEAD.FIRE_STAT_SLOT0 held0) HEAD.FIRE_STAT_SLOT1 held1
  done (t.forEach nacks fun u (k, c) =>
    let body := match u.armed h.val k.val with
      | some r => fireChunk r c
      | none => []
    (u.send (.down h.val (.fireData k.val c body))).count b HEAD.FIRE_NACK)

/-- An eye of a downstream lane as STATUS gives it: width, and height in units of 4 mV (R155, R168). -/
def eyeWord (w hgt : Nat) : Nat := w + 256 * (4 * hgt) + 2 ^ 31

/-- STATUS but for what an ownership change does (R155, R168). -/
def State.statusFields (s : State) (h : Nat) (b : StatusBody) : State :=
  let p := headPage h
  let t := s.setFld p HEAD.COMP_STAT (b.port.val + 256 * b.owner.val + 2 ^ 16 * b.epoch.val + 2 ^ 24 * b.flags.val)
  let own := if b.owner.val = 0 then 0 else if b.owner.val = s.fld chipPage CHIP.SIDE + 1 then 1 else 2
  let t := if t.fld p HEAD.LINK_STAT_COMP_OWNER = own then t else (t.setFld p HEAD.LINK_STAT_COMP_OWNER own).istat p 12
  let t := t.setFlag p HEAD.LINK_STAT_CONFLICT (bitOf b.flags.val 4)
  let mis := bitOf b.flags.val 5
  let t := if mis && !t.flag p HEAD.LINK_STAT_SHELF_MISMATCH then (t.istat p 11).event p (headCode h 0x104) 4 else t
  let t := t.setFlag p HEAD.LINK_STAT_SHELF_MISMATCH mis
  let t := t.setFld p HEAD.DL_CRC_ERR b.dlCrc.toNat
  let t := (t.setFld p HEAD.EYE_DL0 (eyeWord b.eye0w.val b.eye0h.val)).setFld p HEAD.EYE_DL1 (eyeWord b.eye1w.val b.eye1h.val)
  t.setLink h { t.link h with nonownDrop := b.nonownDrop.val, compTemp := b.temp.toInt }

end Sys2Proof.Machine
end

