-- ==== Sys2Proof/Machine/Pool.lean ====
section
/-!
DEFINITION. The LDPC pool's own operations: gathers, queues, capacity and admission (R218-R227), and
the shard-capture buffers (R228-R231).
-/
namespace Sys2Proof.Machine

/-! Shard capture (R228-R231) -/

/-- Buffers of the shard-capture area (R228). -/
def shardBuffers : Nat := 524288

/-- Change the pool. -/
def State.setPool (s : State) (p : PoolSt) : State := { s with pool := p }

/-- Buffers in use. -/
def State.shardUsed (s : State) : Nat := s.pool.caps.length + s.pool.retained.length

/-- SHARD_FREE follows the buffers in use; a fall below FAIL_RESERVE sets bit 12 and raises 0x410A. -/
def State.shardSync (s : State) : State :=
  let free := shardBuffers - s.shardUsed
  let low := decide (free < s.fld outerPage OUTER.FAIL_RESERVE)
  let t := s.setFld outerPage OUTER.SHARD_FREE free
  let t := t.setPool { t.pool with reserveLow := low }
  if low && !s.pool.reserveLow then (t.istat outerPage 12).event outerPage 0x410A 2 else t

/-- A captured piece of the same place and attempt. -/
def Piece.same (x y : Piece) : Bool :=
  decide (x.head = y.head) && decide (x.sa = y.sa) && decide (x.seg = y.seg) && decide (x.beam = y.beam)

/-- The slot that a piece belongs to (R109). -/
def Piece.slot (x : Piece) : Nat := slotAtPos x.seg x.beam

/-- Of two reads of a piece the new one is kept (R243): the lower MSE, the newer on equal MSE, an erased one only when
no read is unerased. -/
def keepNew (oldErased newErased : Bool) (oldMse newMse : Int) : Bool :=
  if oldErased && !newErased then true else if newErased && !oldErased then false else decide (newMse ≤ oldMse)

/-- Put a piece into a free buffer; the piece is kept in the place of an older read of it (R243). -/
def State.capture (s : State) (x : Piece) : State :=
  if s.pool.caps.any x.same then
    let caps := s.pool.caps.map fun o => if x.same o && keepNew o.erased x.erased o.mse x.mse then x else o
    s.setPool { s.pool with caps := caps }
  else (s.setPool { s.pool with caps := s.pool.caps ++ [x] }).shardSync

/-- Whether the engine grants a buffer (R228): to a piece of a failed codeword while one is free, to a
weak piece while FAIL_RESERVE are. -/
def State.shardGrant (s : State) (weak : Bool) : Bool :=
  let free := shardBuffers - s.shardUsed
  if weak then decide (s.fld outerPage OUTER.FAIL_RESERVE ≤ free) && decide (0 < free) else decide (0 < free)

/-- Free the captured pieces of one codeword, or of a whole setting (R229). -/
def State.freeCaps (s : State) (p : Piece → Bool) : State :=
  (s.setPool { s.pool with caps := s.pool.caps.filter fun x => !p x }).shardSync

/-- The oldest and newest retention numbers (R231). -/
def State.shardSeq (s : State) : State :=
  let r := s.pool.retained
  let t := s.setFld outerPage OUTER.SHARD_SEQ_OLDEST (match r with | [] => 0 | x :: _ => x.no)
  t.setFld outerPage OUTER.SHARD_SEQ_NEWEST (match r.getLast? with | none => 0 | some x => x.no)

/-- Pieces held at or after a retention number, oldest first; numbers wrap at 2^16 and at most 4,096
are held. -/
def State.shardFrom (s : State) (n : Nat) : List Retained :=
  match s.pool.retained with
  | [] => []
  | o :: _ =>
    let rel (m : Nat) := (m + 65536 - o.no) % 65536
    -- a number before the oldest held counts as freed, one after the newest as passed
    let k := if rel n < 32768 then rel n else 0
    s.pool.retained.filter fun x => decide (k ≤ rel x.no)

/-- SHARD_STAT.EMPTY: no retained piece at or after SHARD_IDX. -/
def State.shardEmpty (s : State) : State :=
  s.setFlag outerPage OUTER.SHARD_STAT_EMPTY (s.shardFrom (s.fld outerPage OUTER.SHARD_IDX)).isEmpty

/-- The registers that show what is retained. -/
def State.shardShow (s : State) : State := s.shardSeq.shardEmpty.shardSync

/-- A piece whose first word has been read is held for 1 ms beyond the point at which R230 would free it (R231). -/
def Retained.held (x : Retained) (now : Nat) : Bool := match x.due with
  | some t => decide (now < t + 1000000)
  | none => true

/-- What is retained becomes `l`: where the piece that SHARD_IDX names is freed, reading goes on at the next number held,
and SKIPPED reads 1 (R231). -/
def State.setRetained (s : State) (l : List Retained) : State :=
  let n := s.fld outerPage OUTER.SHARD_IDX
  let had := s.pool.retained.any fun x => decide (x.no = n)
  let has := l.any fun x => decide (x.no = n)
  let t := s.setPool { s.pool with retained := l }
  let t := if had && !has then
      let u := t.setPool { t.pool with winWord := 0 }
      let u := match u.shardFrom n with
        | [] => u
        | x :: _ => u.setFld outerPage OUTER.SHARD_IDX x.no
      u.setFlag outerPage OUTER.SHARD_STAT_SKIPPED true
    else t
  t.shardShow

/-- Pieces whose time is over go. -/
def State.shardPurge (s : State) : State :=
  if s.pool.retained.all fun x => x.held s.now then s
  else s.setRetained (s.pool.retained.filter fun x => x.held s.now)

/-- Pieces of lost blocks are retained, at most 4,096, and the oldest are freed first (R230). -/
def State.retain (s : State) (xs : List Piece) : State :=
  let s := s.shardPurge
  let new := xs.zipIdx.map fun (x, i) => ({ no := (s.pool.nextNo + i) % 65536, piece := x, read := false, due := none } : Retained)
  let live := (s.pool.retained.filter fun x => x.due.isNone).length
  let past := live + xs.length - 4096
  let old := (s.pool.retained.foldl (fun (acc : List Retained × Nat) x =>
    if x.due.isSome then (acc.1 ++ [x], acc.2)
    else if acc.2 = 0 then (acc.1 ++ [x], 0)
    else if x.read then (acc.1 ++ [{ x with due := some s.now }], acc.2 - 1)
    else (acc.1, acc.2 - 1)) ([], past)).1
  let t := s.setPool { s.pool with nextNo := (s.pool.nextNo + xs.length) % 65536 }
  t.setRetained (old ++ new)

/-- The 16-byte descriptor of R196, in words: setting address and flags; segment position, beam and MSE; in 18 bits each,
signed offset and distance, both candidates and the slide candidate, all ones for none. R196 names the contents and
gives no layout (log entry 20). -/
def pieceDescriptor (x : Piece) : List Nat :=
  let c (o : Option SyncCand) : Nat := match o with
    | none => 2 ^ 18 - 1
    | some v => unsigned 12 v.offset + v.distance % 64 * 2 ^ 12
  let flags := boolNat x.retimed + 2 * boolNat x.fly + 4 * boolNat x.invalid + 8 * boolNat x.erased
  let w := c x.cand + c x.cand2 * 2 ^ 18 + c x.slide * 2 ^ 36
  [x.sa % 2 ^ 22 + flags * 2 ^ 24, x.seg % 128 + x.beam % 16 * 256 + unsigned 12 x.mse * 2 ^ 16, w % 2 ^ 32, w / 2 ^ 32]

/-- The 724 words of a retained piece (R231). -/
def pieceWord (x : Piece) (i : Nat) : Nat :=
  if i < 4 then (pieceDescriptor x).getD i 0
  else ofBytesLE ((List.range 4).map fun k => x.samples.getD (4 * (i - 4) + k) 0)

/-- A write of SHARD_IDX (R231). -/
def State.shardSelect (s : State) (n : Nat) : State :=
  let s := s.shardPurge
  let t := (s.setFld outerPage OUTER.SHARD_IDX n).setPool { s.pool with winWord := 0 }
  let skipped := match t.shardFrom n with
    | [] => false
    | x :: _ => decide (x.no ≠ n % 65536)
  let t := match t.shardFrom n with
    | [] => t
    | x :: _ => t.setFld outerPage OUTER.SHARD_IDX x.no
  (t.setFlag outerPage OUTER.SHARD_STAT_SKIPPED skipped).shardEmpty

/-- A read of SHARD_WIN (R231): the word and what the window moves to. -/
def State.shardRead (s : State) : Nat × State :=
  match s.shardFrom (s.fld outerPage OUTER.SHARD_IDX) with
  | [] => (0, s)
  | x :: r =>
    let i := s.pool.winWord
    let w := pieceWord x.piece i
    let t := if i = 0 then
        s.setPool { s.pool with retained := s.pool.retained.map fun y => if y.no = x.no then { y with read := true } else y }
      else s
    if i < 723 then (w, t.setPool { t.pool with winWord := i + 1 })
    else
      let nxt := match r with | [] => (x.no + 1) % 65536 | y :: _ => y.no
      (w, ((t.setPool { t.pool with winWord := 0 }).setFld outerPage OUTER.SHARD_IDX nxt).shardEmpty)

/-! Remapped settings (R126) -/

/-- The setting that now holds a home setting (R126): the current spare, else the home. -/
def State.remapOf (s : State) (h home : Nat) : Option Remap :=
  let es := s.st.cat.remaps.filter fun r => decide (r.disc = s.memberKey h) && decide (r.home = home)
  es.foldl (fun (a : Option Remap) r => match a with
    | some b => if b.seq < r.seq then some r else some b
    | none => some r) none

/-- Where a head holds a home setting now: the spare of its remap entry, else the home. -/
def State.placeOf (s : State) (h home : Nat) : Nat := ((s.remapOf h home).map fun e => e.spare).getD home

/-- The home setting of what a setting of a head holds. -/
def State.homeOf (s : State) (h sa : Nat) : Nat :=
  ((s.st.cat.remaps.find? fun r => decide (r.disc = s.memberKey h) && decide (r.spare = sa)).map fun r => r.home).getD sa

/-! Settings under read -/

/-- Bisque checks and cone reads use rung L0 only (R250, R417). -/
def onlyL0 (w : ReadFor) : Bool := decide (w = .bisque) || decide (w = .cone)

/-! Pieces of a codeword (R218, R220) -/

/-- A piece that carries nothing: 2,560 erasures. -/
def noLlrs : List Int := List.replicate 2560 0

/-- The beams whose piece has come, and those whose piece came as erasures or not at all, as masks. -/
def piecesFilled (ps : Store (Option KeptPiece)) : Nat :=
  (List.range 16).foldl (fun m b => setBit m b (storeFind (fun _ => none) ps b).isSome) 0
def piecesErased (ps : Store (Option KeptPiece)) : Nat :=
  (List.range 16).foldl (fun m b => setBit m b (match storeFind (fun _ => none) ps b with | some p => p.erased | none => true)) 0

/-- The 40,960 LLRs of a codeword (R220): piece b fills coded bits 2,560 b on. -/
def piecesLlrs (ps : Store (Option KeptPiece)) : List Int :=
  (List.range 16).flatMap fun b => match storeFind (fun _ => none) ps b with
    | some p => (p.llrs ++ noLlrs).take 2560
    | none => noLlrs

/-- A piece joins those kept, in the place of a worse read of it (R243). -/
def keepPiece (ps : Store (Option KeptPiece)) (b : Nat) (p : KeptPiece) : Store (Option KeptPiece) :=
  match storeFind (fun _ => none) ps b with
  | some o => if keepNew o.erased p.erased o.mse p.mse then storePut (fun _ => none) ps b (some p) else ps
  | none => storePut (fun _ => none) ps b (some p)

/-- A slot of a setting not read yet. -/
def SlotRes.open : SlotRes := { st := .open, rung := 0, iters := 0, info := [], kept := [], work := [], slid := [], ext := [], raw := (0, 0) }

/-- The LLRs that a decode of L2 or L3 takes (R239, R240): those of slides being tried, then those re-detected, then the
original ones. -/
def SlotRes.workLlrs (r : SlotRes) : List Int :=
  let base := piecesLlrs r.kept
  (List.range 16).flatMap fun b =>
    match storeFind (fun _ => none) r.slid b, storeFind (fun _ => none) r.work b with
    | some l, _ => (l ++ noLlrs).take 2560
    | none, some l => (l ++ noLlrs).take 2560
    | none, none => (base.drop (2560 * b)).take 2560

/-- The ladder's configuration as OUTER holds it (R254). -/
def State.ladderCfg (s : State) : LadderCfg :=
  let f (x : Fld) := s.fld outerPage x
  { rungEn := 1 + 2 * f OUTER.LADDER_CFG_RUNG_EN + 256, revPolicy := s.flag outerPage OUTER.LADDER_CFG_REV_POLICY,
    outerCheck := s.flag outerPage OUTER.LADDER_CFG_OUTER_CHECK, altMask := f OUTER.L2_CFG_ALT_MASK,
    turboMax := clampNat 0 8 (f OUTER.L2_CFG_TURBO_MAX), slideMax := f OUTER.L2_CFG_SLIDE_MAX,
    budget := clampNat 10 10000 (f OUTER.L2_CFG_NOREV_BUDGET),
    l4 := [f OUTER.L4_CFG_TR_STEP1, f OUTER.L4_CFG_TR_STEP2, f OUTER.L4_CFG_FO_STEP],
    l4Steps := clampNat 1 6 (f OUTER.L4_CFG_L4_STEPS), l5 := [f OUTER.L5_CFG_TILT_STEP, f OUTER.L5_CFG_PWR_STEP],
    l5Steps := clampNat 1 4 (f OUTER.L5_CFG_L5_STEPS), tmo := clampNat 10 1000 (f OUTER.LADDER_TMO) }

/-- A setting when its read begins. -/
def State.newSetting (s : State) (h sa : Nat) (why : ReadFor) : SettingRd :=
  -- reads that a reconstruction needs, and a re-throw's copies, run with L7 disabled (R408, R411)
  let cfg := if why = .member ∨ why = .rethrow then { s.ladderCfg with rungEn := setBit s.ladderCfg.rungEn 7 false } else s.ladderCfg
  { head := h, sa := sa, why := why, slots := [], cfg := cfg, since := none, step := .reading, pass := none,
    norevStart := 0, todo := [], ran := [], decoding := [], rev := 0, revs := 0, top := 0, outer := 0, timedOut := false,
    revAfter := false, blocks := [0, 0, 0, 0] }

/-- The setting under read at a head. -/
def State.setting (s : State) (h sa : Nat) : Option SettingRd :=
  s.pool.settings.find? fun x => decide (x.head = h) && decide (x.sa = sa)

/-- LADDER_STAT follows the settings. -/
def State.ladderStat (s : State) : State :=
  let under := s.pool.settings.filter fun x => x.since.isSome
  let heads := (List.range 33).filter fun h => s.pool.settings.any fun x => decide (x.head = h) && decide (x.step = .rev)
  (s.setFld outerPage OUTER.LADDER_STAT_SETTINGS (min 255 under.length)).setFld outerPage OUTER.LADDER_STAT_REV_HEADS heads.length

/-- Put a setting in the place of the one at its head and address. -/
def State.putSetting (s : State) (x : SettingRd) : State :=
  let rest := s.pool.settings.filter fun y => !(decide (y.head = x.head) && decide (y.sa = x.sa))
  (s.setPool { s.pool with settings := rest ++ [x] }).ladderStat

/-- Take a setting away. -/
def State.dropSetting (s : State) (h sa : Nat) : State :=
  (s.setPool { s.pool with settings := s.pool.settings.filter fun y => !(decide (y.head = h) && decide (y.sa = sa)) }).ladderStat

/-- The result of a slot. -/
def SettingRd.slot (x : SettingRd) (c : Nat) : SlotRes := storeFind (fun _ => SlotRes.open) x.slots c

/-- Set the result of a slot. -/
def SettingRd.setSlot (x : SettingRd) (c : Nat) (r : SlotRes) : SettingRd :=
  { x with slots := storePut (fun _ => SlotRes.open) x.slots c r }

/-- Rung L1 is enabled for a setting (R237). -/
def SettingRd.rung1On (x : SettingRd) : Bool := bitOf x.cfg.rungEn 1

/-- The setting is under the ladder from its first failure on. -/
def State.enterLadder (s : State) (x : SettingRd) : SettingRd :=
  if x.since.isSome then x else { x with since := some s.now, cfg := (s.newSetting x.head x.sa x.why).cfg }

/-- Reads asked of a head. -/
def State.wanted (s : State) (h sa : Nat) : Option ReadReq :=
  s.pool.wants.find? fun r => decide (r.head = h) && decide (r.sa = sa)

/-- Ask a head to read a setting, once. -/
def State.want (s : State) (h sa : Nat) (why : ReadFor) : State :=
  if (s.wanted h sa).isSome then s
  else s.setPool { s.pool with wants := s.pool.wants ++ [{ head := h, sa := sa, why := why, on := false, since := s.now }] }

/-- A head has a read under way (R415). -/
def State.readNow (s : State) (h : Nat) : State := s.setPool { s.pool with lastRead := storePut (fun _ => 0) s.pool.lastRead h s.now }

/-- The read of a setting is over. -/
def State.unwant (s : State) (h sa : Nat) : State :=
  let mine (r : ReadReq) : Bool := decide (r.head = h) && decide (r.sa = sa)
  let t := if s.pool.wants.any fun r => mine r && r.on then s.readNow h else s
  t.setPool { t.pool with wants := t.pool.wants.filter fun r => !mine r }

/-! Capacity and admission (R225) -/

/-- Active cells. -/
def State.poolCells (s : State) : Nat := popCount 18 (s.fld ldpcPage LDPC.CELL_MAP)

/-- Load of a head reading a ring, in kbit/s of coded bits (R225). -/
def ringLoad (k : Nat) : Nat := 16 * 213120 * ringS k * 150 * 2560 / 2960 / 1000

/-- Heads with a read or a re-read under way, and the ring each reads. -/
def State.readingRings (s : State) : List (Nat × Nat) :=
  (List.range 33).filterMap fun h =>
    match s.pool.wants.find? fun r => decide (r.head = h) && r.on with
    | some r => some (h, ringOfSetting (saSetting r.sa))
    | none => (s.pool.settings.find? fun x => decide (x.head = h) && decide (x.step = .rev)).map fun x => (h, ringOfSetting (saSetting x.sa))

/-- Offered load in kbit/s. -/
def State.poolLoad (s : State) : Nat := (s.readingRings.map fun x => ringLoad x.2).sum

/-- LOAD shows the offered load. -/
def State.showLoad (s : State) : State := s.setFld ldpcPage LDPC.LOAD (s.poolLoad / 1000000)

/-- A head may start to read a ring: the load with it stays at or below ADMIT_PCT of capacity. -/
def State.admits (s : State) (ring : Nat) : Bool :=
  decide ((s.poolLoad + ringLoad ring) * 100 ≤ s.fldIn ldpcPage LDPC.SCHED_CFG_ADMIT_PCT 50 100 * s.poolCells * 48000000)

/-- Capacity follows the active cells (R227); a change sets bit 8, and a fall below 16 cells raises
0x4108. -/
def State.poolCapacity (s : State) : State :=
  let n := s.poolCells
  let cap := 48 * n
  let t := s.setFld ldpcPage LDPC.POOL_STAT_ACTIVE n
  if t.fld ldpcPage LDPC.CAPACITY = cap then t
  else
    let old := t.fld ldpcPage LDPC.CAPACITY
    let u := (t.setFld ldpcPage LDPC.CAPACITY cap).istat ldpcPage 8
    if cap < old then u.event ldpcPage 0x4108 5 else u

/-- The wheel of a head. -/
def wheelOfHead (h : Nat) : Nat := if h = 32 then 8 else h / 4

/-- The head's wheel turns at 9,000 rpm within 1 %: the speed of a blank scan (R259). -/
def State.atReadSpeed (s : State) (h : Nat) : Bool :=
  let n := s.fldS (wheelPage (wheelOfHead h)) WHEEL.SPD_MEAS_N
  decide (89100 ≤ n) && decide (n ≤ 90900)

/-- A re-throw takes a head first while it has had less than RT_FLOOR percent of the time that it wanted of it in this RT_WIN; at 100
host reads wait (R412). -/
def State.rtFloor (s : State) (h : Nat) : Bool :=
  let floor := s.cfgIn stripePage STRIPE.RT_CFG_RT_FLOOR 10 100
  let (_, wanted, got) := storeFind (fun _ => (0, 0, 0)) s.pool.share h
  decide (100 ≤ floor) || decide (100 * got < floor * wanted)

/-- Time of a re-throw at the heads that it wants (R412): `ns` more, wanted, and got where its read is under way. -/
def State.shareGo (s : State) (ns : Nat) : State :=
  let win := s.now / (10 ^ 8 * s.cfgIn stripePage STRIPE.RT_CFG_RT_WIN 1 100)
  let heads := ((s.pool.wants.filter fun r => decide (r.why = .rethrow)).map fun r => r.head).eraseDups
  s.forEach heads fun u h =>
    let (w, a, b) := storeFind (fun _ => (0, 0, 0)) u.pool.share h
    let (a, b) := if w = win then (a, b) else (0, 0)
    let on := u.pool.wants.any fun r => decide (r.head = h) && decide (r.why = .rethrow) && r.on
    u.setPool { u.pool with share := storePut (fun _ => (0, 0, 0)) u.pool.share h (win, a + ns, if on then b + ns else b) }

/-- The next read of a head: host reads and those a reconstruction needs first, then the firing path's own and the catalogue's, then
re-throw and patrol (R257, R273, R412, R415); a blank scan only at read speed. -/
def State.nextRead (s : State) (h : Nat) : Option ReadReq :=
  let pick (p : ReadFor → Bool) := s.pool.wants.find? fun r =>
    decide (r.head = h) && !r.on && p r.why && (decide (r.why ≠ .blankScan) || s.atReadSpeed h)
  let background (w : ReadFor) : Bool := decide (w = .patrol) || decide (w = .rethrow)
  let ranks : List (ReadFor → Bool) :=
    [fun w => decide (w = .host) || decide (w = .member), fun w => !background w, fun w => decide (w = .rethrow), fun w => decide (w = .patrol)]
  let ranks := if s.rtFloor h then (fun w => decide (w = .rethrow)) :: ranks else ranks
  ranks.findSome? pick

/-- A band read starts: every read of the band goes with it (R225). -/
def State.startBandRead (s : State) (h sa : Nat) : State :=
  let layer := saLayer sa
  let band := bandOfSetting (saSetting sa)
  let inBand (x : ReadReq) : Bool :=
    decide (x.head = h) && decide (saLayer x.sa = layer) && decide (bandOfSetting (saSetting x.sa) = band) &&
    (decide (x.why ≠ .blankScan) || s.atReadSpeed h)
  let ws := s.pool.wants.map fun x => if inBand x then { x with on := true } else x
  let t := s.setPool { s.pool with wants := ws }
  let t := t.forEach (s.pool.wants.filter inBand) fun u x =>
    if (u.setting x.head x.sa).isSome || decide (x.why = .blankScan) || decide (x.why = .calibration) then u else u.putSetting (u.newSetting x.head x.sa x.why)
  (t.readNow h).showLoad

/-- Background reads yield the head at a setting boundary (R412, R415): the patrol to any other read, a re-throw above its floor to
host reads; settings of the band beyond it wait. -/
def State.backgroundYields (s : State) (h sa : Nat) : State :=
  let later (x : ReadReq) : Bool := decide (x.head = h) && decide (saLayer x.sa = saLayer sa) &&
    decide (recordingPos (saLayer sa) (saSetting sa) < recordingPos (saLayer x.sa) (saSetting x.sa))
  let waits (p : ReadFor → Bool) : Bool := s.pool.wants.any fun r => decide (r.head = h) && !r.on && p r.why
  let host (w : ReadFor) : Bool := decide (w = .host) || decide (w = .member)
  let yields (w : ReadFor) : Bool := match w with
    | .patrol => waits fun v => host v || decide (v = .rethrow)
    | .rethrow => waits host && !s.rtFloor h
    | _ => false
  if s.pool.wants.any fun r => later r && r.on && yields r.why then
    s.setPool { s.pool with wants := s.pool.wants.map fun x => if later x && yields x.why then { x with on := false } else x }
  else s

/-- While the rotor is unsure, a head's reads stop at a setting boundary: settings of the band beyond it wait (R342). -/
def State.unsureStops (s : State) (h sa : Nat) : State :=
  if !s.flag (wheelPage (wheelOfHead h)) WHEEL.WH_STAT_ROTOR_UNSURE then s
  else
    let later (x : ReadReq) : Bool := decide (x.head = h) && decide (saLayer x.sa = saLayer sa) &&
      decide (recordingPos (saLayer sa) (saSetting sa) < recordingPos (saLayer x.sa) (saSetting x.sa))
    s.setPool { s.pool with wants := s.pool.wants.map fun x => if later x then { x with on := false } else x }

/-! Gathers and queues (R218-R224, R226) -/

/-- QUEUE shows the queues. -/
def State.showQueues (s : State) : State :=
  let a := s.pool.queueA.length
  let t := (s.setFld ldpcPage LDPC.QUEUE_A (min a 255)).setFld ldpcPage LDPC.QUEUE_B (min s.pool.queueB.length 255)
  t.peak ldpcPage LDPC.QUEUE_A_PEAK (min a 255)

/-- Coded bits erased (R185, R223): LLRs of 0. -/
def erasedBits (llrs : List Int) : Nat := (llrs.filter fun v => v == 0).length

/-- A codeword fails at L0 without a decode and enters the ladder (R219, R223, R226): its pieces stay (R220). -/
def State.cwSkipped (s : State) (g : Gather) (why : SlotState) : State :=
  match s.setting g.head g.sa with
  | none => s
  | some x => s.putSetting (s.enterLadder (x.setSlot g.slot { x.slot g.slot with st := why, kept := g.pieces }))

/-- A decode to queue. -/
def newJob (h sa c attempt rung : Nat) (llrs : List Int) : CwJob :=
  { head := h, sa := sa, slot := c, attempt := attempt, rung := rung, llrs := llrs, norm := 0, limit := 0 }

/-- Queue a failed codeword for L1 from its original inputs, or from the reads kept of it (R238, R243). -/
def State.issueL1 (s : State) (h sa c attempt : Nat) : State :=
  match s.setting h sa with
  | none => s
  | some x => (s.setPool { s.pool with queueB := s.pool.queueB ++ [newJob h sa c attempt 1 (piecesLlrs (x.slot c).kept)] }).showQueues

/-- An L0 failure goes on to L1, or without it to L2 (R237, R238). -/
def State.failL0 (s : State) (g : Gather) : State :=
  match s.setting g.head g.sa with
  | none => s
  | some x =>
    if x.rung1On then (s.cwSkipped g .failed0).issueL1 g.head g.sa g.slot g.attempt else s.cwSkipped g .failed

/-- A codeword is complete (R218, R226): it queues, or is overrun. Its L0 failure is reported to the
head block. -/
def State.cwComplete (s : State) (g : Gather) : State :=
  if 40 ≤ s.pool.queueA.length then
    let t := ((s.count ldpcPage LDPC.CW_OVERRUN).istat ldpcPage 9).event ldpcPage 0x4104 3
    let t := t.count ldpcPage LDPC.CW_L0_FAIL
    let t := t.setPool { t.pool with failed := t.pool.failed ++ [(g.head, g.sa, g.slot)] }
    -- its L1 decode follows as for any failed codeword
    t.failL0 g
  else
    let t := match s.setting g.head g.sa with
      | some x => s.putSetting (x.setSlot g.slot { x.slot g.slot with kept := g.pieces })
      | none => s
    (t.setPool { t.pool with queueA := t.pool.queueA ++ [newJob g.head g.sa g.slot g.attempt 0 (piecesLlrs g.pieces)] }).showQueues

/-- A piece of a re-read joins the reads kept of a codeword that is still failed (R243). -/
def State.keepRead (s : State) (a : Arrival) : State :=
  match s.setting a.head a.sa with
  | none => s
  | some x =>
    let c := slotAtPos a.seg a.beam
    s.putSetting (x.setSlot c { x.slot c with kept := keepPiece (x.slot c).kept a.beam a.piece })

/-- A delivered piece joins the codeword of its key; one with its 16 pieces is complete (R218). -/
def State.filePiece (s : State) (a : Arrival) (r : List Arrival) : State :=
  let c := slotAtPos a.seg a.beam
  let same (g : Gather) : Bool :=
    decide (g.head = a.head) && decide (g.sa = a.sa) && decide (g.slot = c) && decide (g.attempt = a.attempt)
  let g : Gather := (s.pool.gathers.find? same).getD
    { head := a.head, sa := a.sa, slot := c, attempt := a.attempt, pieces := [] }
  let g := { g with pieces := storePut (fun _ => none) g.pieces a.beam (some a.piece) }
  let others := s.pool.gathers.filter fun x => !same x
  let s := if a.attempt = 0 then s else s.keepRead a
  if piecesFilled g.pieces = 0xFFFF then
    let t := s.setPool { s.pool with arrivals := r, gathers := others }
    if a.attempt = 0 then t.cwComplete g
    else t
  else s.setPool { s.pool with arrivals := r, gathers := others ++ [g] }

/-- A codeword of a head is with the pool: queued, or in a cell. -/
def State.cwOut (s : State) (h sa c : Nat) : Bool :=
  let mine (j : CwJob) : Bool := decide (j.head = h) && decide (j.sa = sa) && decide (j.slot = c)
  s.pool.queueA.any mine || s.pool.cells.any fun e => e.2.any mine

/-- Every open gather of a head closes with erasures (R219): its codeword is not decoded at L0 and enters the ladder as
failed. In a setting whose first read has begun, codewords of which no piece was filed have nothing to decode. -/
def State.closeGathers (s : State) (h : Nat) : State :=
  -- pieces that the head block has sent still arrive
  let s := (s.pool.arrivals.filter fun a => decide (a.head = h)).foldl (fun u a => u.filePiece a (u.pool.arrivals.erase a)) s
  let mine := s.pool.gathers.filter fun g => decide (g.head = h)
  let t := s.setPool { s.pool with gathers := s.pool.gathers.filter fun g => !decide (g.head = h) }
  let t := t.forEach mine fun u g => if g.attempt ≠ 0 then u else u.failL0 g
  let begun := t.pool.settings.filter fun x => decide (x.head = h) && (decide (x.step = .reading) || decide (x.step = .l1)) && decide (x.slots ≠ [])
  t.forEach begun fun u x => u.forEach (List.range 72) fun v c =>
    match v.setting x.head x.sa with
    | some y =>
      if (y.slot c).st = .open && !v.cwOut h x.sa c then v.cwSkipped { head := h, sa := x.sa, slot := c, attempt := 0, pieces := [] } .skipped
      else v
    | none => v

/-- Weight of a cell (R224). -/
def State.cellWeight (s : State) (c : Nat) : Nat :=
  let v := if c < 8 then s.fld ldpcPage LDPC.CELL_WT0 / 16 ^ c % 16
    else if c < 16 then s.fld ldpcPage LDPC.CELL_WT1 / 16 ^ (c - 8) % 16
    else s.fld ldpcPage LDPC.CELL_WT2 / 16 ^ (c - 16) % 16
  max 1 v

/-- The job of a cell. -/
def State.cellJob (s : State) (c : Nat) : Option CwJob := storeFind (fun _ => none) s.pool.cells c

/-- Set the job of a cell. -/
def State.setCell (s : State) (c : Nat) (j : Option CwJob) : State :=
  s.setPool { s.pool with cells := storePut (fun _ => none) s.pool.cells c j }

/-- The free active cell that takes the next codeword by weighted round-robin (R45, R224): the one at
the turn until it has taken its weight in a row, then the next. -/
def State.nextCell (s : State) : Option Nat :=
  let free (c : Nat) : Bool := s.fldBit ldpcPage LDPC.CELL_MAP c && !s.fldBit ldpcPage LDPC.CELL_FAILED c && (s.cellJob c).isNone
  let start := if s.pool.rr.2 < s.cellWeight s.pool.rr.1 then s.pool.rr.1 else s.pool.rr.1 + 1
  ((List.range 18).map fun i => (start + i) % 18).find? free

/-- Whether class B may be served (R224): freely while no class A codeword waits, else up to L1_SHARE
percent of cell time. -/
def State.classB (s : State) : Bool :=
  !s.pool.queueB.isEmpty &&
  (s.pool.queueA.isEmpty ||
    decide (s.pool.bTime * 100 < s.fldIn ldpcPage LDPC.SCHED_CFG_L1_SHARE 5 100 * (s.pool.aTime + s.pool.bTime)))

/-- A cell takes a codeword: NORM and the limit of its rung are those that now stand (R222, R253). -/
def State.cellTakes (s : State) (c : Nat) (j : CwJob) : State :=
  let limit := if j.rung = 0 then s.fldIn ldpcPage LDPC.ITER_CFG_ITER_L0 1 63 else s.fldIn ldpcPage LDPC.ITER_CFG_ITER_L1 1 63
  let rr := if s.pool.rr.1 = c then (c, s.pool.rr.2 + 1) else (c, 1)
  let t := s.setCell c (some { j with norm := s.fldIn ldpcPage LDPC.ITER_CFG_NORM 8 15, limit := limit })
  (t.setPool { t.pool with rr := rr }).showQueues

end Sys2Proof.Machine
end

