-- ==== Sys2Proof/Machine/Band.lean ====
section
/-!
DEFINITION. The read channel of a head (R169-R217): its cells at work on a segment, the sync vote, the flywheel, the
address vote, acquisition, start values, quality figures, the sample shelf.
-/
namespace Sys2Proof.Machine

/-! State of a band -/

/-- Entry of R213: the start values when no table holds the layer. -/
def CellVals.default : CellVals :=
  { gain := 64, offset := 0, asym := 0,
    taps := (List.range 24).map fun t => if t = 11 then 0x2000 else if t = 10 ∨ t = 12 then -0x400 else 0,
    canc := [0, 0, 0, 0, 0, 0] }

/-- A band at reset. -/
def BandSt.idle : BandSt :=
  { expect := none, again := false, reacq := false, erase := false, run := 0, wide := false, miss := 0, missAt := none, cont := 0,
    ratio := 0, freq := 0, acqLeft := 0, lockOut := false, cells := [], edge := [], held := [],
    reload := false, start := [], cur := [], mse := [], shelf := [], group := [], flyIn := 0, missIn := 0, blankIn := 0,
    segsIn := 0, mseIn := [], blank := false }

/-- The band of head h. -/
def State.band (s : State) (h : Nat) : BandSt := storeFind (fun _ => BandSt.idle) s.bands h

/-- Set the band of head h. -/
def State.setBand (s : State) (h : Nat) (b : BandSt) : State :=
  { s with bands := storePut (fun _ => BandSt.idle) s.bands h b }

/-- The value in force of a BAND field (R179, R205, R217). -/
def State.bfld (s : State) (h : Nat) (f : Fld) : Nat :=
  match storeFind (fun _ => none) (s.band h).held (fldKey (bandPage h) f 0) with
  | some v => v
  | none => s.fld (bandPage h) f

/-- A write of a BAND field waits for the next segment boundary: the value in force is kept. -/
def State.holdFld (s : State) (h : Nat) (f : Fld) (old : Nat) : State :=
  let b := s.band h
  let k := fldKey (bandPage h) f 0
  match storeFind (fun _ => none) b.held k with
  | some _ => s
  | none => s.setBand h { b with held := storePut (fun _ => none) b.held k (some old) }

/-- BAND_STAT.MODE. -/
def State.bandMode (s : State) (h : Nat) : Nat := s.fld (bandPage h) BAND.BAND_STAT_MODE
def State.setBandMode (s : State) (h n : Nat) : State := s.setFld (bandPage h) BAND.BAND_STAT_MODE n

/-- Beams neither masked nor dead. -/
def State.beamLive (s : State) (h b : Nat) : Bool :=
  !bitOf (s.bfld h BAND.BEAM_MASK) b && !s.fldBit (bandPage h) BAND.BEAM_DEAD b

/-- A live beam whose cell delivers samples: a failed cell's segments are lost until CC16 serves the beam (R48). -/
def State.beamSeen (s : State) (h b : Nat) : Bool :=
  s.beamLive h b && (!s.fldBit (bandPage h) BAND.CC_FAILED b || decide (s.fld (bandPage h) BAND.CC_MAP_SPARE_BEAM = b))

/-- The cells of a head process samples (R170); those of an isolated head block do not (R50). -/
def State.cellsRun (s : State) (h : Nat) : Bool :=
  decide (s.linkState h = 5) && s.headObeys h && !s.flag (bandPage h) HDR.ISOLATE && !s.flag (headPage h) HDR.ISOLATE

/-- The channel cell that works on a beam. -/
def State.cellRun (s : State) (h b : Nat) : CellRun := storeFind (fun _ => CellRun.idle) (s.band h).cells b

/-- Start values of a beam, the values adapted in units of 2^-24 of a register LSB, and what registers show of these.
Before a first reload both are the entry of R213, as of a layer that no table holds (log entry 141). -/
def State.startVals (s : State) (h b : Nat) : CellVals := (storeFind (fun _ => none) (s.band h).start b).getD CellVals.default
def State.adaptVals (s : State) (h b : Nat) : CellVals := (storeFind (fun _ => none) (s.band h).cur b).getD (fineVals CellVals.default)
def State.curVals (s : State) (h b : Nat) : CellVals := coarseVals (s.adaptVals h b)

/-- LIVE[b][t] and CANC_LIVE[b][j] of R214 as they read. -/
def State.liveTap (s : State) (h b t : Nat) : Nat := unsigned 16 ((s.curVals h b).taps.getD t 0)
def State.liveCanc (s : State) (h b j : Nat) : Nat := unsigned 8 ((s.curVals h b).canc.getD j 0)

/-! Start values (R207-R213) -/

/-- The ring-table page of a head in the table window. -/
def ringTable (h : Nat) : Nat := 0x200000 + h * 0x1000

/-- The entry of a ring of a layer for a beam (R211, R212); none when no slot holds the layer. A table has no entry
for "no ring": while RING reads 0x1F the entry of R213 stands in for it (log entry 141). -/
def State.ringEntry (s : State) (h layer ring b : Nat) : Option CellVals :=
  if 20 < ring then some CellVals.default
  else (s.layerSlot (ringTable h) layer).map fun k =>
    let a := ringTable h + (if k = 0 then 0x40 else 0x820) + 96 * ring
    { gain := s.winByte (a + b), offset := signed 8 (s.winByte (a + 0x10 + b)), asym := signed 8 (s.winByte (a + 0x20 + b)),
      taps := (List.range 24).map fun t => signed 16 (s.winByte (a + 0x30 + 2 * t) + 256 * s.winByte (a + 0x31 + 2 * t)),
      canc := [0, 0, 0, 0, 0, 0] }

/-- Layer and ring of a band. -/
def State.bandLayer (s : State) (h : Nat) : Nat := s.fld (bandPage h) BAND.BAND_STAT_LAYER
def State.bandRing (s : State) (h : Nat) : Nat := s.fld (bandPage h) BAND.BAND_STAT_RING

/-- Start values reload for the beams listed (R207): canceller coefficients reset, the MSE averages
start again, and a missing table is reported (R211). -/
def State.reloadBeams (s : State) (h : Nat) (beams : List Nat) : State :=
  let p := bandPage h
  let missing := (s.layerSlot (ringTable h) (s.bandLayer h)).isNone
  let t := s.forEach beams fun u b =>
    let v := (u.ringEntry h (u.bandLayer h) (u.bandRing h) b).getD CellVals.default
    let x := u.band h
    let u := u.setBand h { x with start := storePut (fun _ => none) x.start b (some v), cur := storePut (fun _ => none) x.cur b (some (fineVals v)),
                                  mse := storePut (fun _ => []) x.mse b [] }
    u.setFlag p BAND.MSE_VALID false b
  if missing then (t.istat p 13).event p (headCode h 0x205) 3 else t

/-- Every beam reloads. -/
def State.reloadBand (s : State) (h : Nat) : State :=
  let t := s.reloadBeams h (List.range 16)
  t.setBand h { t.band h with reload := false }

/-- The head block's ratio r (R173) follows the ring and the measured speed; a stale speed leaves it. The speed reaches
the head over a crossing from CM (log entry 146). -/
def State.refreshRatio (s : State) (h : Nat) : State :=
  let w := wheelPage (wheelOfHead h)
  if s.flag w WHEEL.SPD_MEAS_STALE || s.xingStale 58 h 0 then s
  else
    let ring := if s.bandRing h ≤ 20 then s.bandRing h else min 20 (ringOfBand (s.seqBand h))
    s.setBand h { s.band h with ratio := nominalRatio ring (s.fldS w WHEEL.SPD_MEAS_N).toNat }

/-- The band stands in a ring of a layer: another layer or ring reloads the start values (R195, R207). -/
def State.enterRing (s : State) (h layer ring : Nat) : State :=
  let p := bandPage h
  if s.bandRing h = ring ∧ s.bandLayer h = layer then s
  else
    let t := (s.setFld p BAND.BAND_STAT_RING ring).setFld p BAND.BAND_STAT_LAYER layer
    let t := t.setBand h { t.band h with cont := 0, edge := [] }
    (t.reloadBand h).refreshRatio h

/-- A layer jump reloads the start values as the head enters the layer (R207); so does an acquisition on another layer. -/
def State.bandLayerEntered (s : State) (h : Nat) : State :=
  let q := s.seq h
  if !q.entered then s
  else
    let t := s.setSeq h { q with entered := false }
    if t.bandLayer h = q.layer then t else t.enterRing h q.layer (t.bandRing h)

/-! Reading service (R204-R206) -/

/-- Beams dead or masked. -/
def State.missingBeams (s : State) (h : Nat) : Nat := ((List.range 16).filter fun b => !s.beamLive h b).length

/-- NO_READ follows the number of missing beams (R206). The settings that the head holds continue at
step 8 of the ladder (R249) by `headOut` of the ladder. -/
def State.noReadChange (s : State) (h : Nat) : Bool × State :=
  let p := bandPage h
  let out := decide (3 ≤ s.missingBeams h)
  let was := s.flag p BAND.BAND_STAT_NO_READ
  if out == was then (false, s)
  else
    let t := (s.setFlag p BAND.BAND_STAT_NO_READ out).refreshHead h
    (out, if out then (t.event p (headCode h 0x203) 5).closeGathers h else t)

/-! Acquisition -/

/-- Re-acquisition at the next setting is triggered (R194): REACQ_CNT counts it. Idle cells count nothing (R170). -/
def State.triggerReacq (s : State) (h : Nat) (erase : Bool) : State :=
  if !s.cellsRun h then s
  else
    let b := s.band h
    let t := if b.reacq then s else s.count (bandPage h) BAND.REACQ_CNT
    t.setBand h { t.band h with reacq := true, erase := b.erase || erase }

/-- The band starts an acquisition (R175, R194): the frequency term restarts from r, at acquisition gains. -/
def State.startAcq (s : State) (h : Nat) (again : Bool) : State :=
  let t := (s.setBandMode h 1).setFld (bandPage h) BAND.TR_STAT_FREQ_OFS 0
  let t := t.setFld (bandPage h) BAND.BAND_STAT_FLY_RUN 0
  t.setBand h { t.band h with
    again := again, reacq := false, erase := false, run := 0, wide := true, miss := 0, cont := 0, edge := [], freq := 0, lockOut := false,
    acqLeft := s.fldIn (bandPage h) BAND.TR_ACQ_ACQ_LEN 256 65535, expect := (if again then (t.band h).expect else none) }

/-- The first acquisition of a read: the head stands where CE has brought it, and its cells start with the sample
after the first `ahead` that wait. -/
def State.firstAcq (s : State) (h ahead : Nat) : State :=
  let t := (s.startAcq h false).enterRing h (s.seqLayer h) (min 20 (ringOfBand (s.seqBand h)))
  let b := t.band h
  t.setBand h { b with cells := (List.range 16).map fun i => (i, { CellRun.idle with inp := (t.cellRun h i).inp.drop ahead }) }

/-- The setting nearest to `near` whose index has the given low nine bits. -/
def nearestSetting (near low9 : Nat) : Nat :=
  let base := near / 512 * 512 + low9
  let cands := [base, base + 512, base - 512].filter fun g => decide (g % 512 = low9) && decide (g < settingsPerLayer)
  let dist (g : Nat) := if g < near then near - g else g - near
  cands.foldl (fun best g => if dist g < dist best then g else best) base

/-! The sync vote (R188-R191) -/

/-- The consensus of a list of offsets: the lower median. -/
def insertInt (x : Int) : List Int → List Int
  | [] => [x]
  | y :: r => if x ≤ y then x :: y :: r else y :: insertInt x r
def sortInts (xs : List Int) : List Int := xs.foldr insertInt []
def lowerMedian (xs : List Int) : Option Int := (sortInts xs)[(xs.length - 1) / 2]?

/-- An offset lies within 2 of the consensus. -/
def nearC (c : Int) (v : Option SyncCand) : Bool :=
  match v with
  | some x => decide ((x.offset - c).natAbs ≤ 2)
  | none => false

/-- What a beam shows at the end of the search window: its two best candidates (R188), and its decisions from 960 bits
before the predicted start on. -/
structure BeamVote where
  b : Nat
  live : Bool
  c1 : Option SyncCand
  c2 : Option SyncCand
  bits : List Bool
  deriving DecidableEq, Repr

/-- The consensus over the live beams with a candidate. -/
def voteC (vs : List BeamVote) : Option Int :=
  lowerMedian (vs.filterMap fun v => if v.live then v.c1.map fun x => x.offset else none)

/-- Beams that find sync. -/
def voteFound (vs : List BeamVote) (c : Int) : Nat := (vs.filter fun v => v.live && (nearC c v.c1 || nearC c v.c2)).length

/-- Bits before the predicted start that the streams of a segment begin with. -/
def leadIn : Nat := 960

/-- The offset that a beam's segment has (R189, R191): its own, the consensus, or the predicted one. -/
def BeamVote.offset (v : BeamVote) (voted : Bool) (c : Int) : Int :=
  if !voted then 0 else match v.c1 with
    | some x => if nearC c v.c1 then x.offset else c
    | none => c

/-- Where in a beam's streams a bit of its segment lies. -/
def segIndex (offset : Int) (bit : Nat) : Nat := ((leadIn : Int) + offset + bit).toNat

/-- The segment address field of a beam (R100, R192), the 32 bits after the sync mark. -/
def BeamVote.address (v : BeamVote) (voted : Bool) (c : Int) : Option Nat :=
  let w := (v.bits.drop (segIndex (v.offset voted c) 48)).take 32
  if v.live && decide (w.length = 32) then addrDecode (ofBitsMSB w) else none

/-- The address vote of R192: the value held by ADDR_MIN live beams and by no other value's. -/
def voteAddr (vals : List Nat) (min : Nat) : Option Nat :=
  match (vals.filter fun a => decide (min ≤ vals.count a)).eraseDups with
  | [a] => some a
  | _ => none

/-! Quality (R210) -/

/-- MSE[b] (R210): the average over the last 2^MSE_AVG segments, rounded toward 0 (log entry 140). -/
def State.pushMse (s : State) (h b : Nat) (m : Int) : State :=
  let p := bandPage h
  let x := s.band h
  let n := 2 ^ clampNat 0 12 (s.bfld h BAND.SYNC_CFG_MSE_AVG)
  let l := (m :: storeFind (fun _ => []) x.mse b).take n
  let avg := l.sum.tdiv (l.length : Int)
  let t := s.setBand h { x with mse := storePut (fun _ => []) x.mse b l }
  let t := (t.setFldS p BAND.MSE_AVG avg b).setFlag p BAND.MSE_VALID true b
  if signed 12 (s.bfld h BAND.SHELF_CFG_WEAK_MSE) < avg then t.istat p 10 else t

/-! The cells over a segment (R169-R185, R209) -/

/-- Coefficients of sides that are "none" are 0 (R181, R182), all of them with CANC_EN = 0 (R180). -/
def forcedCanc (odd edgeOn cancEn : Bool) (b : Nat) (c : List Int) : List Int :=
  let off (n : Neighbour) : Bool := match n with
    | .none => true
    | .edge _ => !edgeOn
    | .beam _ => false
  if !cancEn then [0, 0, 0, 0, 0, 0]
  else (if off (innerNeighbour odd b) then [0, 0, 0] else c.take 3) ++ (if off (outerNeighbour odd b) then [0, 0, 0] else c.drop 3)

/-- One revolution of a head's ring, in segments. -/
def State.revSegs (s : State) (h : Nat) : Nat := 72 * ringS (min 20 (s.bandRing h))

/-- The edge reconstruction may be used (R182): one whole revolution has been read in the ring and
layer without a break. -/
def State.edgeOn (s : State) (h : Nat) : Bool :=
  decide (s.bfld h BAND.EQ_CFG_EDGE_EN = 1) && decide (s.bfld h BAND.EQ_CFG_CANC_EN = 1) && decide (s.revSegs h ≤ (s.band h).cont)

/-- EDGE_VALID follows it. -/
def State.showEdge (s : State) (h : Nat) : State := s.setFlag (bandPage h) BAND.BAND_STAT_EDGE_VALID (s.edgeOn h)

/-- The target response of decisions in a row (R177, R182), oldest first: none where one of the four is missing. -/
def edgeResponse (g : List Int) (ds : List (Option Bool)) : List (Option Int) :=
  (List.range ds.length).map fun i =>
    let a := (List.range 4).map fun k => if i < k then none else (ds[i - k]?).getD none
    if a.all Option.isSome then some (idealOut g (a.map fun x => x.getD false)) else none

/-- The edge reconstruction about a segment, from the lead-in on: what the edge beam decided one revolution before
(R182). -/
def State.edgeStream (s : State) (h : Nat) (g : List Int) : List (Option Int) :=
  let n := s.revSegs h
  let seg (i : Nat) := ((s.band h).edge[i]?).getD []
  edgeResponse g (((seg n).drop (2960 - leadIn)) ++ seg (n - 1) ++ seg (n - 2))

/-- A field of BAND that acts within a range (R217). -/
def State.bfldIn (s : State) (h : Nat) (f : Fld) (lo hi : Nat) : Nat := clampNat lo hi (s.bfld h f)

/-- The range of the shared frequency term about r (R176). -/
def State.lockRange (s : State) (h : Nat) : Int := ((s.band h).ratio * s.bfldIn h BAND.TR_ACQ_LOCK_RANGE 10 1000 / 10000 : Nat)

/-- What a segment's cells work with: the values in force at its start. -/
def State.cellCfg (s : State) (h : Nat) (edge : List (Option Int)) : CellCfg :=
  let f (x : Fld) := s.bfld h x
  { target := targetCoefs (f BAND.TARGET), sigPol := decide (f BAND.AGC_CFG_SIG_POL = 1), fixMain := decide (f BAND.EQ_CFG_FIX_MAIN = 1),
    eqAdapt := decide (f BAND.EQ_CFG_EQ_ADAPT = 1), cancEn := decide (f BAND.EQ_CFG_CANC_EN = 1),
    cancAdapt := decide (f BAND.EQ_CFG_CANC_ADAPT = 1), mu := s.bfldIn h BAND.EQ_CFG_MU_SHIFT 8 20,
    cancMu := s.bfldIn h BAND.EQ_CFG_CANC_MU_SHIFT 6 20, gainMu := s.bfldIn h BAND.AGC_CFG_GAIN_MU_SHIFT 6 20,
    ofsMu := s.bfldIn h BAND.AGC_CFG_OFS_MU_SHIFT 6 20, asymMu := s.bfldIn h BAND.AGC_CFG_ASYM_MU_SHIFT 6 24,
    gainBound := f BAND.AGC_CFG_GAIN_BOUND, ofsBound := f BAND.AGC_CFG_OFS_BOUND, eqBound := f BAND.EQ_CFG_EQ_BOUND,
    kp := s.bfldIn h BAND.TR_CFG_KP_SHIFT 2 12, ki := s.bfldIn h BAND.TR_CFG_KI_SHIFT 8 20,
    acqKp := s.bfldIn h BAND.TR_CFG_ACQ_KP_SHIFT 1 12, acqKi := s.bfldIn h BAND.TR_CFG_ACQ_KI_SHIFT 4 20,
    ratio := (s.band h).ratio, range := s.lockRange h, odd := decide (s.bandLayer h % 2 = 1),
    live := (List.range 16).foldl (fun m b => setBit m b (s.beamSeen h b)) 0, edge := edge, shift := 0 }

/-- The cells of a head as a segment begins: sides that are "none" have coefficients of 0. -/
def State.cellsRunOf (s : State) (h : Nat) (edgeOn : Bool) : CellsRun :=
  let cancEn := decide (s.bfld h BAND.EQ_CFG_CANC_EN = 1)
  let odd := decide (s.bandLayer h % 2 = 1)
  { cells := (List.range 16).map fun b => { s.cellRun h b with hits := [] }, start := (List.range 16).map fun b => s.startVals h b,
    vals := (List.range 16).map fun b => let v := s.adaptVals h b; { v with canc := forcedCanc odd edgeOn cancEn b v.canc },
    freq := (s.band h).freq, acqLeft := (s.band h).acqLeft, lockOut := (s.band h).lockOut }

/-- The cells go back to the state; TR_STAT shows the frequency term (R175, R217). -/
def State.putCells (s : State) (h : Nat) (x : CellsRun) : State :=
  let b := s.band h
  let ppm : Int := if b.ratio = 0 then 0 else (x.freq * 1000000).tdiv b.ratio
  let t := s.setBand h { b with cells := x.cells.zipIdx.map fun (c, i) => (i, c),
                                cur := x.vals.zipIdx.map fun (v, i) => (i, some v),
                                freq := x.freq, acqLeft := x.acqLeft, lockOut := x.lockOut }
  t.setFldS (bandPage h) BAND.TR_STAT_FREQ_OFS (clampInt (-32768) 32767 ppm)

/-- The beams' votes (R188): candidates within the window in force, from the decisions of the cells. -/
def State.beamVotes (s : State) (h win : Nat) (x : CellsRun) : List BeamVote :=
  x.cells.zipIdx.map fun (c, b) =>
    let tents := c.tentsFrom 0 (leadIn + win + 48)
    let (c1, c2) := syncCands tents leadIn win (s.bfldIn h BAND.SYNC_CFG_MAXERR 0 24)
    { b := b, live := s.beamSeen h b, c1 := c1, c2 := c2, bits := (c.decsFrom 0 (leadIn + win + 80)).map fun d => d.1 }

/-- What a beam gives of a segment: its soft bits and errors over the data field, its interpolated samples. -/
structure BeamSeg where
  vote : BeamVote
  offset : Int
  llrs : List Int
  mse : Option Int
  samples : List Nat
  invalid : Bool
  sum : Nat × Nat
  hits : Nat
  deriving DecidableEq, Repr

/-- Read a beam's segment at its offset: the data field is the 2,880 bits from bit 80 on. -/
def beamSeg (g : List Int) (scale : Nat) (c : CellRun) (v : BeamVote) (off : Int) : BeamSeg :=
  let i := segIndex off 80
  let ws := c.wsFrom i 2880
  let bits := (c.decsFrom i 2880).zip (ws.map fun w => w.s.ok)
  { vote := v, offset := off, llrs := softPiece scale (bits.map fun ((b, r), ok) => (b, r, ok)),
    mse := mseOf g ((c.errsFrom i 2880).filterMap id),
    samples := ((ws.map fun (w : WBit) => if w.s.ok then unsigned 8 w.s.v else 0x80) ++ List.replicate 2880 0x80).take 2880,
    invalid := decide (ws.length < 2880) || ws.any fun (w : WBit) => !w.s.ok,
    sum := ws.foldl (fun a (w : WBit) => (a.1 + w.abs, a.2 + w.n)) (0, 0), hits := c.hits.length }

/-- Every bit of a beam's segment is valid. -/
def segValid (c : CellRun) (off : Int) : Bool :=
  let ws := c.wsFrom (segIndex off 0) 2960
  decide (ws.length = 2960) && ws.all fun w => w.s.ok

/-! A segment -/

/-- What a segment's votes decided. -/
structure SegRes where
  voted : Bool
  c : Int
  erased : Bool
  addr : Option (Nat × Nat)
  miss : Bool
  deriving DecidableEq, Repr

/-- The read attempt of a setting's pieces: 0, or the revolution step in progress (R218). -/
def State.attempt (s : State) (h sa : Nat) : Nat :=
  match s.setting h sa with
  | some x => if x.step = .rev then x.rev else 0
  | none => 0

/-- The equaliser MSE of a piece none of whose bits is valid: the highest that the field holds (log entry 141). -/
def worstMse : Int := 2047

/-- The piece of a beam in a segment (R190, R196). -/
def mkPiece (h sa seg attempt : Nat) (r : SegRes) (x : BeamSeg) : Piece :=
  let v := x.vote
  let kept := r.voted && nearC r.c v.c1
  let slide := if !r.voted || !v.live then none else if kept then v.c2 else v.c1
  { head := h, sa := sa, seg := seg, beam := v.b, attempt := attempt, mse := x.mse.getD worstMse, cand := v.c1, cand2 := v.c2, slide := slide,
    offset := x.offset, retimed := r.voted && v.live && !kept, fly := !r.voted, invalid := x.invalid, erased := r.erased || !v.live,
    bounds := x.hits, weakCopy := false, bestSet := none, samples := x.samples }

/-- A re-read copies every piece of a codeword that is still failed into capture (R243). -/
def State.rereadCopy (s : State) (x : Piece) : State :=
  match s.setting x.head x.sa with
  | some r =>
    let st := (r.slot x.slot).st
    let bad := decide (st = .failed) || decide (st = .skipped) || decide (st = .failed0)
    if x.attempt ≠ 0 && bad then
      if s.shardGrant false || s.pool.caps.any x.same then (s.capture x).count (bandPage x.head) BAND.SHELF_CAPT
      else (s.count (bandPage x.head) BAND.SHELF_DROP).istat (bandPage x.head) 12
    else s
  | none => s

/-- Deliver the 16 pieces of a segment of a setting that was asked for (R186, R187, R194): an erased one as erasures. -/
def State.deliverPieces (s : State) (h sa seg : Nat) (ps : List (Piece × List Int)) : State :=
  let first := match s.wanted h sa, s.setting h sa with
    | some r, some x => r.on && decide (r.why ≠ .blankScan) && (decide (x.step = .reading) || decide (x.step = .l1))
    | _, _ => false
  let again := match s.setting h sa with
    | some x => decide (x.step = .rev)
    | none => false
  if !first && !again then s
  else
      let p := bandPage h
      let t := s.count p BAND.ERASED_PIECES (ps.filter fun x => x.1.erased).length
      let x := t.band h
      let t := t.setBand h { x with shelf := x.shelf ++ ps.map fun y => y.1 }
      let t := t.setPool { t.pool with arrivals := t.pool.arrivals ++ ps.map fun (x, l) =>
        { head := h, sa := sa, seg := seg, beam := x.beam, attempt := x.attempt,
          piece := { llrs := if x.erased then noLlrs else l, erased := x.erased, mse := x.mse } } }
      t.forEach (ps.map fun y => y.1) State.rereadCopy

/-- The setting in progress has ended: its figures stand, and the band goes on to the next. -/
def State.segAdvance (s : State) (h sa seg : Nat) : State :=
  let b := s.band h
  if seg < 71 then s.setBand h { b with expect := some (sa, seg + 1) }
  else
    let live := (List.range 16).filter fun i => s.beamLive h i
    let mean (i : Nat) : Option Int := match storeFind (fun _ => ((0 : Int), 0)) b.mseIn i with
      | (_, 0) => none
      | (z, n) => some (z.tdiv (n : Int))
    let worst := (live.filterMap mean).foldl (fun (m : Option Int) z => some (max z (m.getD z))) none
    let fig : SettingFig := { sa := sa, fly := b.flyIn, miss := b.missIn, blank := b.blankIn, segs := b.segsIn,
                               beams := (List.range 16).map mean, mse := worst.getD 0 }
    let nxt := (nextSetting (saLayer sa) (saSetting sa)).map fun g => (settingAddr (saLayer sa) g, 0)
    let s := (s.unsureStops h sa).backgroundYields h sa
    let s := if h < 32 then s.applyCfg stripePage else s
    let t := s.setBand h { b with expect := nxt, flyIn := 0, missIn := 0, blankIn := 0, segsIn := 0, mseIn := [] }
    t.setPool { t.pool with figs := (t.pool.figs.filter fun f => !(decide (f.1 = h) && decide (f.2.sa = sa))) ++ [(h, fig)] }

/-- The band takes its place on the disc (R195, R207). -/
def State.placeBand (s : State) (h sa : Nat) : State :=
  (s.setFld (bandPage h) BAND.BAND_POS sa).enterRing h (saLayer sa) (ringOfSetting (saSetting sa))

/-- What the address vote says of the segment: its setting and position, and whether it is a mismatch
(R192). While the sequencer waits for an address, or nothing is expected, the confirmed value is
resolved to the nearest setting of the target band (log entry 21). -/
def State.segAddress (s : State) (h : Nat) (conf : Option Nat) : Option (Nat × Nat) × Bool :=
  let q := s.seq h
  let fresh := decide (q.phase = .address)
  let layer := if q.op = 0 then s.seqLayer h else q.layer
  let near := bandFirstSetting (if q.op = 0 then s.seqBand h else q.band)
  match conf, (if fresh then none else (s.band h).expect) with
  | some a, some (sa, seg) =>
    if a = segmentAddr seg (saSetting sa) then (some (sa, seg), false)
    else (some (settingAddr (saLayer sa) (nearestSetting (saSetting sa) (a % 512)), a / 512), true)
  | some a, none => (some (settingAddr layer (nearestSetting near (a % 512)), a / 512), false)
  | none, e => (e, false)

/-- The edge beam's decisions of a segment join those of the revolution before it (R182): B15 on an even layer, B0 on an
odd one; none where a sample was invalid or the segment is erased. -/
def State.pushEdge (s : State) (h : Nat) (r : SegRes) (x : CellsRun) (offs : List Int) : State :=
  let e := if s.bandLayer h % 2 = 1 then 0 else 15
  let c := x.cells.getD e CellRun.idle
  let i := segIndex (offs.getD e 0) 0
  let ds := if r.erased || !s.beamSeen h e then [] else
    ((c.tentsFrom i 2960).zip (c.wsFrom i 2960)).map fun (t, w) => if w.s.ok then some t else none
  let b := s.band h
  s.setBand h { b with edge := (ds :: b.edge).take (s.revSegs h + 1) }

/-- Everything beside the votes of a segment at a known place: delivery, quality, figures. -/
def State.segBody (s : State) (h sa seg : Nat) (r : SegRes) (segs : List BeamSeg) : State :=
  let p := bandPage h
  let att := s.attempt h sa
  let t := s.forEach segs fun u x =>
    let u := u.count p BAND.EQ_BOUND_HIT x.hits
    match x.mse with
    | some m =>
      if x.vote.live then
        let u := u.pushMse h x.vote.b m
        let y := u.band h
        let (z, n) := storeFind (fun _ => ((0 : Int), 0)) y.mseIn x.vote.b
        u.setBand h { y with mseIn := storePut (fun _ => ((0 : Int), 0)) y.mseIn x.vote.b (z + m, n + 1) }
      else u
    | none => u
  let t := t.deliverPieces h sa seg (segs.map fun x => (mkPiece h sa seg att r x, x.llrs))
  let b := t.band h
  let t := t.setBand h { b with segsIn := b.segsIn + 1, flyIn := b.flyIn + boolNat (!r.voted), missIn := b.missIn + boolNat r.miss,
                                blankIn := b.blankIn + boolNat b.blank }
  t.segAdvance h sa seg

/-- A segment begins: a head that has left its track knows no next address, and has no revolution behind it (R182). -/
def State.segStart (s : State) (h ahead : Nat) : State :=
  let t := s.count (bandPage h) BAND.SEG_CNT
  let t := t.refreshRatio h
  let t := if t.bandMode h = 0 then t.firstAcq h ahead else t
  let q := t.seq h
  let moving := decide (q.phase = .jump) || decide (q.phase = .seek) || decide (q.phase = .stepBack) || decide (q.phase = .kick) ||
    decide (q.phase = .watch) || decide (q.phase = .brake) || decide (q.phase = .sweep)
  if q.moved then
    let t := t.setSeq h { q with moved := moving }
    t.setBand h { t.band h with expect := none, cont := 0, edge := [] }
  else t

/-- The search window of a segment (R188, R194): wide for the first segment of an acquisition. -/
def State.segWin (s : State) (h : Nat) : Nat :=
  if decide (s.bandMode h = 1) && (s.band h).wide then 64 * s.bfldIn h BAND.SYNC_CFG_ACQ_WIN 1 15 else 64

/-- The sync vote, the flywheel and the address vote of a segment (R189-R194). A segment without a confirmed address
neither counts as a mismatch nor ends a run of them (log entry 141). -/
def State.voteOn (s : State) (h : Nat) (vs : List BeamVote) : State × SegRes :=
  let p := bandPage h
  let acq := decide (s.bandMode h = 1)
  let c := (voteC vs).getD 0
  let found := if (voteC vs).isSome then voteFound vs c else 0
  let voted := decide (s.bfldIn h BAND.SYNC_CFG_SYNC_MIN 1 16 ≤ found)
  let t := (s.setFldS p BAND.SYNC_LAST_C c).setFld p BAND.SYNC_LAST_FOUND found
  let t := t.setFlag p BAND.SYNC_LAST_FLY (!voted)
  -- flywheel (R191)
  let t := if voted then
      let n := (vs.filter fun v => v.live && !nearC c v.c1).length
      let t := (t.count p BAND.RETIME_CNT n).setFld p BAND.BAND_STAT_FLY_RUN 0
      if t.bandMode h = 3 then t.setBandMode h 2 else t
    else
      let run := addSat 15 (t.fld p BAND.BAND_STAT_FLY_RUN) 1
      let t := (t.count p BAND.FLY_SEG).setFld p BAND.BAND_STAT_FLY_RUN run
      let t := t.setSeq h { t.seq h with flew := true }
      if t.bandMode h = 2 then t.setBandMode h 3 else t
  -- the address vote (R192)
  let conf := voteAddr (vs.filterMap fun v => v.address voted c) (s.bfldIn h BAND.ADDR_CFG_ADDR_MIN 1 16)
  let (place, miss) := t.segAddress h conf
  let t := if (t.band h).expect.isNone then t.setBand h { t.band h with cont := 0, edge := [] } else t
  let t := if miss then
      let b := t.band h
      let u := ((t.count p BAND.ADDR_ERR).istat p 11).event p (headCode h 0x206) 3
      u.setBand h { b with miss := b.miss + 1, missAt := place.map fun x => x.1 }
    else if conf.isSome then t.setBand h { t.band h with miss := 0, missAt := none }
    else t
  let good := voted && conf.isSome && !miss
  let t := if acq then t.setBand h { t.band h with run := (if good then (t.band h).run + 1 else 0), wide := false } else t
  let t := if conf.isSome && !miss then
      match place with
      | some (sa, seg) => ((t.seqAddress h (saLayer sa) (bandOfSetting (saSetting sa))).placeBand h sa).stepBegins h sa seg
      | none => t
    else t
  let at_ := if miss then (t.band h).expect else place
  (t, { voted := voted, c := c, erased := (t.band h).erase || miss, addr := at_, miss := miss })

/-- Adaptation of every kind holds over a segment (R191, R209). -/
def State.adaptHeld (s : State) (h : Nat) (r : SegRes) : Bool :=
  !r.voted || r.erased || decide ((s.seq h).phase = .stepHold) || decide (s.bfld h BAND.ADAPT_CTRL_FREEZE = 1)

/-- The cells over the rest of a segment: without adaptation first, then, where it does not hold, once more with the
live beams all of whose samples are valid adapting (R209). -/
def runData (cfg : CellCfg) (held : Bool) (last : Nat) (offs : List Int) (x : CellsRun) : CellsRun :=
  let dry := x.runTo cfg (List.replicate 16 false) last
  if held then dry
  else x.runTo cfg ((dry.cells.zip offs).zipIdx.map fun ((c, o), b) => decide (cfg.live / 2 ^ b % 2 = 1) && segValid c o) last

/-- The segment has been read to its end: lock (R176), blank status (R193), pieces, the edge decisions (R182), and the
flywheel's limit (R194), which bears on the segments after it. -/
def State.segClose (s : State) (h : Nat) (blankVote : Bool) (r : SegRes) (x : CellsRun) (segs : List BeamSeg) : State :=
  let p := bandPage h
  let t := s.putCells h { x with cells := (x.cells.zip segs).map fun (c, g) => c.dropBits (segIndex g.offset 2960 - leadIn) }
  let lost := (t.band h).lockOut && decide (2 ≤ t.bandMode h)
  let t := if lost then t.triggerReacq h true else t
  let r := { r with erased := r.erased || lost }
  let blank := blankVote && segs.all fun g => !g.vote.live || decide (g.sum.2 = 0) || decide (g.sum.1 < s.bfld h BAND.BLANK_CFG_BLANK_THR * g.sum.2)
  let t := (t.setBand h { t.band h with blank := blank }).pushEdge h r x (segs.map fun g => g.offset)
  let t := match r.addr with
    | some (sa, seg) =>
      let u := t.setBand h { t.band h with cont := (t.band h).cont + 1 }
      u.segBody h sa seg r segs
    | none => t
  let t := if !r.voted && decide (s.bfldIn h BAND.SYNC_CFG_FLY_MAX 1 15 ≤ t.fld p BAND.BAND_STAT_FLY_RUN) then t.triggerReacq h true else t
  t.showEdge h

/-- One segment of a head's band (R186-R193): the cells run to the end of the search window, the beams vote, and the
cells go on to the end of the segment. -/
def State.voteSegment (s : State) (h ahead : Nat) (edgeEmpty : Bool) : State :=
  let p := bandPage h
  let t := s.segStart h ahead
  let win := t.segWin h
  let on := t.edgeOn h
  let t := if on && edgeEmpty then t.count p BAND.SHELF_DROP else t
  let use := on && !edgeEmpty
  let cfg := t.cellCfg h (if use then t.edgeStream h (targetCoefs (t.bfld h BAND.TARGET)) else [])
  let x := (t.cellsRunOf h use).runTo cfg (List.replicate 16 false) (leadIn + win + 160)
  let vs := t.beamVotes h win x
  let (t, r) := t.voteOn h vs
  let offs := vs.map fun v => v.offset r.voted r.c
  let c : Int := if r.voted then r.c else 0
  let y := runData { cfg with shift := c } (t.adaptHeld h r) (segIndex c (2960 + 90)) offs x
  let segs := ((y.cells.zip vs).zip offs).map fun ((z, v), o) => beamSeg cfg.target (t.bfld h BAND.LLR_CFG_LLR_SCALE) z v o
  t.segClose h (voteC vs).isNone r y segs

/-- SEGMENT_VOTE (R186-R193): `ahead` counts the samples before the predicted start less 960 channel bits at a first
acquisition, and `edgeEmpty` says that the edge read-back ran empty (R182). Idle cells do nothing (R170). -/
def execSegmentVote (h : HeadIx) (obs : SegmentObs) (s : State) : Res :=
  if !s.cellsRun h.val then done s else done (s.voteSegment h.val obs.ahead obs.edgeEmpty)

/-- The head's offset of a STEP goes (R316) without a result. -/
def State.undoStep (s : State) (h : Nat) : State :=
  let q := s.seq h
  match stepTarget h q.stepKind q.stepValue with
  | some (n, _) => s.setFld (ceSlot n) CESLOT.SP_STEP 0
  | none => s.laserRead h (s.readPower h)

/-- The band is lost (R192): it is re-acquired, and the address confirmed last goes to CE, which repositions the head.
A STEP in force ends unconfirmed (result 5); another command under way meets the address at its end (log entry 141). -/
def State.bandLost (s : State) (h layer band : Nat) : State :=
  let t := s.triggerReacq h true
  let t := t.setBand h { t.band h with miss := 0, missAt := none, expect := none }
  let q := t.seq h
  let goBack (u : State) : State :=
    (u.setSeq h { u.seq h with op := 16, phase := .address, layer := u.seqLayer h, band := u.seqBand h, jumps := 0, seeks := 0 }).seqAddress h layer band
  if !t.headObeys h then t
  else if q.op = 0 then goBack t
  else if q.phase = .address then t.seqAddress h layer band
  else if q.phase = .stepHold then goBack ((t.undoStep h).seqResult h 5 5)
  else t

/-- BAND_LOST (R192): after three consecutive mismatches. -/
def execBandLost (h : HeadIx) (s : State) : Res :=
  let h := h.val
  let b := s.band h
  match b.missAt with
  | none => done s
  | some sa =>
    if b.miss < 3 ∨ !s.cellsRun h then done s
    else done (s.bandLost h (saLayer sa) (bandOfSetting (saSetting sa)))

/-- BAND_LOCK_LOST (R176): the shared frequency term has left its range and is clamped, the segments until the next
setting are erased, and re-acquisition follows. -/
def execBandLockLost (h : HeadIx) (s : State) : Res :=
  let h := h.val
  if s.bandMode h ≠ 2 ∧ s.bandMode h ≠ 3 ∨ !(s.band h).lockOut then done s
  else done (s.triggerReacq h true)

/-- REACQUISITION_START (R194): at the start of the next setting the band acquires again. -/
def execReacquisitionStart (h : HeadIx) (s : State) : Res :=
  let h := h.val
  let b := s.band h
  let atStart := match b.expect with
    | some (_, seg) => decide (seg = 0)
    | none => true
  if b.reacq && atStart && s.cellsRun h then done (s.startAcq h true) else done s

/-- BAND_LOCKED (R194): two consecutive voted segments with confirmed addresses. -/
def execBandLocked (h : HeadIx) (s : State) : Res :=
  let h := h.val
  let b := s.band h
  let p := bandPage h
  if s.bandMode h = 1 ∧ 2 ≤ b.run ∧ s.cellsRun h then
    let t := (s.setBandMode h 2).setBand h { b with again := false }
    let t := t.refreshHead h
    done (if b.again then (t.istat p 8).event p (headCode h 0x204) 1 else t)
  else done s

/-- RING_BOUNDARY (R195): r, the sync prediction and the start values switch on the predicted first bit
of a new ring's first band. -/
def execRingBoundary (h : HeadIx) (s : State) : Res :=
  let h := h.val
  match (s.band h).expect with
  | some (sa, 0) =>
    if s.cellsRun h then done (s.placeBand h sa) else done s
  | _ => done s

/-! The shelf (R196-R199) -/

/-- A piece is weak (R197). -/
def State.pieceWeak (s : State) (x : Piece) : Bool :=
  decide (signed 12 (s.bfld x.head BAND.SHELF_CFG_WEAK_MSE) < x.mse) || x.fly || x.retimed || x.invalid || decide (4 ≤ x.bounds)

/-- A copy is dropped (R197, R199). -/
def State.shelfDrop (s : State) (h : Nat) (noBuffer : Bool) : State :=
  let t := s.count (bandPage h) BAND.SHELF_DROP
  if noBuffer then t.istat (bandPage h) 12 else t

/-- Copy a piece into a shard-capture buffer, if one is granted. A piece whose samples a poisoned word took (R439) is not
captured. -/
def State.shelfCopy (s : State) (x : Piece) (weak : Bool) : State :=
  if x.samples.isEmpty then s
  else if s.shardGrant weak then (s.capture { x with weakCopy := weak }).count (bandPage x.head) BAND.SHELF_CAPT
  else s.shelfDrop x.head true

/-- A weak piece of higher MSE is copied before a lower one; of equal MSE the lower beam's (log entry 141). -/
def weakBefore (x y : Piece) : Bool := decide (y.mse < x.mse) || (decide (y.mse = x.mse) && decide (x.beam < y.beam))

/-- Nothing can need a piece any more (R229): its codeword has passed, or the ladder of its setting has ended. -/
def State.pieceOver (s : State) (x : Piece) : Bool :=
  match s.setting x.head x.sa with
  | some r => decide ((r.slot x.slot).st = .pass)
  | none => true

/-- PIECE_LEAVES_SHELF (R197, R229): of the pieces that leave in one segment time the weak ones with the highest MSE are
copied, at most WEAK_CAP; those captured before (R198) are no part of them. -/
def execPieceLeavesShelf (h : HeadIx) (s : State) : Res :=
  let h := h.val
  let b := s.band h
  match b.shelf with
  | [] => done s
  | x :: r =>
    if b.shelf.length ≤ 128 then done s
    else
      let fresh := match b.group with | [] => true | y :: _ => !(decide (y.sa = x.sa) && decide (y.seg = x.seg))
      let weak (y : Piece) : Bool := s.pieceWeak y && !s.pool.caps.any y.same && !s.pieceOver y
      let group := if fresh then b.shelf.filter fun y => decide (y.sa = x.sa) && decide (y.seg = x.seg) && weak y else b.group
      let t := s.setBand h { b with shelf := r, group := group }
      let ahead := group.filter fun y => weakBefore y x
      if !weak x || s.bfld h BAND.SHELF_CFG_CAPTURE_EN ≠ 1 then done t
      else if ahead.length < s.bfld h BAND.SHELF_CFG_WEAK_CAP then done (t.shelfCopy x true)
      else done (t.shelfDrop h false)

/-- FAILED_CODEWORD_COPY (R198): the pieces of the codeword that failed first and that the shelf still
holds are copied, without regard to WEAK_CAP. -/
def execFailedCodewordCopy (h : HeadIx) (s : State) : Res :=
  let h := h.val
  match s.pool.failed.find? fun x => decide (x.1 = h) with
  | none => done s
  | some (hh, sa, c) =>
    let t := s.setPool { s.pool with failed := s.pool.failed.erase (hh, sa, c) }
    if s.bfld h BAND.SHELF_CFG_FAIL_COPY ≠ 1 then done t
    else
      let mine := (s.band h).shelf.filter fun x => decide (x.sa = sa) && decide (x.slot = c) && !s.pool.caps.any x.same
      done (t.forEach mine fun u x => u.shelfCopy x false)

/-! Register writes (R179, R205, R207, R217) -/

/-- BAND_CONFIG_APPLY (R217): at the next segment boundary written values take effect, NO_READ follows a
mask, and a reload is made. The first part tells whether the head leaves reading service. -/
def State.bandApply (s : State) (h : Nat) : Bool × State :=
  let b := s.band h
  let t := s.setBand h { b with held := [] }
  let t := if b.reload then t.reloadBand h else t
  let t := if b.held.isEmpty then t else t.showEdge h
  t.noReadChange h

/-- A target whose energy is below 64 is refused (R179). -/
def targetOk (v : Nat) : Bool :=
  decide (64 ≤ ((List.range 4).map fun i => (signed 8 (v / 256 ^ i)).natAbs ^ 2).sum)

/-- A BAND field was written from `old`: BEAM_MASK takes effect at once while the head is not reading (R205, R206), in
the place of an older one that waits; any other value at the next segment boundary. The first part tells whether the
head leaves reading service. -/
def State.bandWritten (s : State) (h : Nat) (f : Fld) (old : Nat) : Bool × State :=
  if f = BAND.BEAM_MASK ∧ s.bandMode h = 0 then
    let b := s.band h
    (s.setBand h { b with held := storePut (fun _ => none) b.held (fldKey (bandPage h) f 0) none }).noReadChange h
  else (false, s.holdFld h f old)

/-- A write of 1 to ADAPT_CTRL.RELOAD (R207) and to ADAPT_CTRL.REACQ (R194). -/
def State.bandReload (s : State) (h : Nat) : State := s.setBand h { s.band h with reload := true }
def State.bandReacq (s : State) (h : Nat) : State := s.triggerReacq h false

/-! Spares and dead beams (R203, R204) -/

/-- CC16 takes a beam from the ring table's start values (R203): a re-detection on it ends. -/
def State.bandSpare (s : State) (h b : Nat) : State :=
  let p := bandPage h
  let t := s.setFld p BAND.CC_MAP_SPARE_BEAM b
  let t := (t.setFlag p BAND.CC_MAP_REDET_BUSY false).reloadBeams h [b]
  t.event p (headCode h 0x201) 3 b

/-- A beam is dead (R204). The first part tells whether the head leaves reading service (R206). -/
def State.bandDead (s : State) (h b : Nat) : Bool × State :=
  let p := bandPage h
  let t := (s.setFldBit p BAND.BEAM_DEAD b true).worsen p HDR.DEGRADED
  let t := (t.istat p 9).event p (headCode h 0x202) 5 b
  t.noReadChange h

end Sys2Proof.Machine
end

