-- ==== Sys2Proof/Machine/Keys.lean ====
section
/-!
DEFINITION. Keys of namespaces and loads (R515-R519).
-/
namespace Sys2Proof.Machine

/-- The bytes of an ASCII text. -/
def ascii (t : String) : List Nat := t.toList.map Char.toNat

/-- NK and E_ns of a namespace, while TE holds them. -/
def State.nk (s : State) (ns : Nat) : Option Nat := storeFind (fun _ => none) s.te.nk ns
def State.ens (s : State) (ns : Nat) : Option Nat := storeFind (fun _ => none) s.te.ens ns

/-- DOMAIN_ID as one number. -/
def State.domainId (s : State) : Nat := s.pair tePage TE.DOMAIN_ID_LO TE.DOMAIN_ID_HI

/-- KEK_ns and K_L (R516). -/
def State.kek (s : State) (ns : Nat) : Option Nat := match s.te.drk, s.ens ns with
  | some d, some e => some (Config.hkdf d (bytesBE 32 e) (ascii "HL6633 ns wrap" ++ bytesBE 4 ns ++ bytesBE 8 s.domainId))
  | _, _ => none
def loadKeyOf (nk load ns : Nat) : Nat := Config.hkdf nk (bytesBE 8 load) (ascii "HL6633 load key" ++ bytesBE 4 ns)

/-- The load key of a namespace on a load, while its keys are available (R519). -/
def State.loadKey (s : State) (ns load : Nat) : Option Nat :=
  if s.flag rdyPage RDY.DOMAIN then (s.nk ns).map fun k => loadKeyOf k load ns else none

/-- A namespace. -/
def State.nsp (s : State) (ns : Nat) : Option NsSt := storeFind (fun _ => none) s.host.nss ns
def State.setNsp (s : State) (ns : Nat) (x : Option NsSt) : State :=
  s.setHost { s.host with nss := storePut (fun _ => none) s.host.nss ns x }

/-- The keys of a namespace are not available: 0x4302 once for it (R519). -/
def State.keyMissing (s : State) (ns : Nat) : State :=
  match s.nsp ns with
  | some n => if n.keyRaised then s else ((s.setNsp ns (some { n with keyRaised := true })).istat mediacryptPage 9).event mediacryptPage 0x4302 4 0xFF ns
  | none => s

/-- Additional data of a data block's encryption, from its header (R520). -/
def blockAad (h : BlockHeader) : List Nat := bytesBE 4 h.nsid ++ [h.lane, 0] ++ bytesBE 2 h.zone ++ bytesBE 8 h.loadId ++ bytesBE 8 h.lbaFirst

/-- The block's plaintext, of 65,536 bytes of data and 256 of metadata, as media crypto opens it (R520,
R522); a block with no encryption is its own plaintext. -/
def openBlock (key : Nat) (h : BlockHeader) (payload : List Nat) : List Nat :=
  let text := payload ++ h.metadata
  if h.flags / flagClear % 2 = 1 then text
  else Config.gcmOpen key h.nonce (blockAad h) text

/-- The block's tag verifies under a key (R520, R522). -/
def tagVerifies (key : Nat) (h : BlockHeader) (payload : List Nat) : Bool :=
  h.flags / flagClear % 2 == 1 || (Config.gcmSeal key h.nonce (blockAad h) (openBlock key h payload)).2 == h.tag

/-! Key slots (R519) -/

/-- SLOTS_USED follows the key slots. -/
def State.setSlots (s : State) (xs : List (Nat × Nat)) : State :=
  State.setFld { s with te := { s.te with slots := xs } } mediacryptPage MEDIACRYPT.SLOTS_USED xs.length

/-- A slot is used. -/
def State.touchSlot (s : State) (e : Nat × Nat) : State := s.setSlots ((s.te.slots.filter fun x => decide (x ≠ e)) ++ [e])

/-- What media crypto says of a block read from the load (R519, R522): whether its tag verifies; none while its load key is in
no slot, which a wait counts. A block that is not encrypted needs no key. -/
def State.blockTag (s : State) (h : BlockHeader) (payload : List Nat) : Option Bool × State :=
  if h.kind ≠ 1 ∨ h.flags / flagClear % 2 = 1 then (some true, s)
  else match s.loadKey h.nsid s.load.id with
    | none => (none, s.keyMissing h.nsid)
    | some key =>
      if s.te.slots.contains (h.nsid, s.load.id) then (some (tagVerifies key h payload), s.touchSlot (h.nsid, s.load.id))
      else (none, s.count mediacryptPage MEDIACRYPT.KEY_MISS)

end Sys2Proof.Machine
end

