-- ==== Sys2Proof/Machine/Ldpc.lean ====
section
/-!
DEFINITION. The layered normalised min-sum decoder of an LD cell (R221, R222) on the shift table of R105 and
R106. An LLR favours a coded bit of 0 when it is positive (R185).
-/
namespace Sys2Proof.Machine

/-- A posterior is 8-bit and saturates (R221). -/
def sat8 (v : Int) : Int := max (-128) (min 127 v)

/-- A check message is 6-bit (R221). -/
def sat6 (v : Int) : Int := max (-32) (min 31 v)

/-- A block turned by v: element a becomes element (a + v) mod 512, as in `rotBits`. -/
def rotInts (v : Nat) (b : List Int) : List Int := b.drop v ++ b.take v

/-- The columns of block row r with their shifts, ascending (R104-R106). -/
def ldpcRow (r : Nat) : List (Nat × Nat) := (List.range 80).filterMap fun j => (ldpcShift r j).map fun v => (j, v)

/-- The decoder's memory: 80 posterior blocks of 512, and per block row one block of check messages for each of its columns. -/
structure LdpcSt where
  post : List (List Int)
  msgs : List (List (List Int))
  deriving DecidableEq, Repr

/-- The decoder loads its input LLRs: an LLR of 0 starts with posterior 0 (R221). -/
def ldpcLoad (llr : List Int) : LdpcSt :=
  { post := (List.range 80).map fun j => (llr.drop (512 * j)).take 512,
    msgs := (List.range 16).map fun r => (ldpcRow r).map fun _ => List.replicate 512 0 }

/-- The new message of one edge of a check (R221): the product of the other edges' signs, and the least of their
magnitudes times NORM/16, rounded down (log entry 142). -/
def checkMsg (norm : Nat) (others : List Int) : Int :=
  let mag : Int := ((others.foldl (fun m v => min m v.natAbs) 128) * norm / 16 : Nat)
  if (others.filter fun v => decide (v < 0)).length % 2 = 1 then sat6 (-mag) else sat6 mag

/-- The messages of one check from the values at its edges. -/
def checkNode (norm : Nat) (vs : List Int) : List Int :=
  vs.zipIdx.map fun (_, i) => checkMsg norm (vs.eraseIdx i)

/-- The columns of a matrix given by rows of 512. -/
def columns512 (rows : List (List Int)) : List (List Int) :=
  rows.foldr (fun row acc => row.zipWith (fun v r => v :: r) acc) (List.replicate 512 [])

/-- One layer (R221): block row r takes its old messages off the posteriors, makes new ones and puts them on. -/
def ldpcLayer (norm : Nat) (st : LdpcSt) (r : Nat) : LdpcSt :=
  let row := ldpcRow r
  let old := st.msgs.getD r []
  let t := (row.zip old).map fun ((j, v), m) => (rotInts v (st.post.getD j [])).zipWith (fun p q => p - q) m
  let news := (columns512 t).map (checkNode norm)
  let msgs := (List.range row.length).map fun i => news.map fun c => c.getD i 0
  let post := (row.zip (t.zip msgs)).foldl (fun ps ((j, v), (x, m)) =>
    ps.set j (rotInts (512 - v) (x.zipWith (fun a b => sat8 (a + b)) m))) st.post
  { post := post, msgs := st.msgs.set r msgs }

/-- One iteration: the 16 block rows in ascending order (R221). -/
def ldpcIteration (norm : Nat) (st : LdpcSt) : LdpcSt := (List.range 16).foldl (ldpcLayer norm) st

/-- The hard decisions of the posteriors: a negative one decides 1 (R185, R222). -/
def ldpcHard (st : LdpcSt) : List Bool := st.post.flatten.map fun v => decide (v < 0)

/-- All 8,192 parity checks hold (R222). -/
def ldpcChecks (v : List Bool) : Bool :=
  (List.range 16).all fun r =>
    ((ldpcRow r).foldl (fun acc (j, k) => xorBits acc (rotBits k (bitBlock v j))) (List.replicate 512 false)).all fun b => !b

/-- The outcome of a decode: whether it passed, the iterations it took, the posteriors at its end. -/
structure LdpcRes where
  pass : Bool
  iters : Nat
  post : List Int
  deriving DecidableEq, Repr

/-- Iterations until a pass, at most `fuel` (R222): `n` have been made. -/
def ldpcRun (norm : Nat) : Nat → Nat → LdpcSt → LdpcRes
  | 0, n, st => { pass := false, iters := n, post := st.post.flatten }
  | fuel + 1, n, st =>
    let t := ldpcIteration norm st
    if ldpcChecks (ldpcHard t) then { pass := true, iters := n + 1, post := t.post.flatten } else ldpcRun norm fuel (n + 1) t

/-- A decode of 40,960 LLRs (R222): one without erasures is checked before the first iteration. -/
def ldpcDecode (norm limit : Nat) (llr : List Int) : LdpcRes :=
  let st := ldpcLoad llr
  if llr.all (fun v => decide (v ≠ 0)) && ldpcChecks (ldpcHard st) then { pass := true, iters := 0, post := st.post.flatten }
  else ldpcRun norm limit 0 st

/-- The information bytes that a decode's posteriors decide (R107, R108). -/
def LdpcRes.info (x : LdpcRes) : List Nat :=
  let bits := x.post.map fun v => decide (v < 0)
  (List.range 4096).map fun t => ofBitsMSB ((bits.drop (8 * t)).take 8)

/-- Extrinsic values of a decode (R239): what the posteriors add to the input. -/
def LdpcRes.extrinsic (x : LdpcRes) (llr : List Int) : List Int := x.post.zipWith (fun p i => p - i) llr

end Sys2Proof.Machine
end

