-- ==== Sys2Proof/Machine/Ladder.lean ====
section
/-!
DEFINITION. The outer code and the retry ladder (R232-R250): what each setting under read does after a
decode, a re-detection, an outer attempt, a revolution step, a tag check and a reconstruction.
-/
namespace Sys2Proof.Machine

/-! The outer decoder (R111, R232, R233) -/

/-- Inverse in GF(2^8). -/
def gfInv (x : Nat) : Nat := gfPow x 254

/-- Locator of a slot: slot i supplies the coefficient of x^(71 - i). -/
def rsLoc (c : Nat) : Nat := gfPow 2 (71 - c)

/-- A polynomial's value, lowest coefficient first. -/
def gfEval (p : List Nat) (x : Nat) : Nat := p.foldr (fun a r => a ^^^ gfMul x r) 0

/-- The four syndromes of an outer codeword of 72 bytes (R232). -/
def rsSyndromes (w : List Nat) : List Nat :=
  (List.range 4).map fun j => w.foldl (fun r b => b ^^^ gfMul (gfPow 2 j) r) 0

/-- A polynomial times (x + a). -/
def gfTimesRoot (p : List Nat) (a : Nat) : List Nat :=
  (0 :: p).zipWith (fun u v => u ^^^ v) (p.map (gfMul a) ++ [0])

/-- Values at the erased slots that the syndromes give, when all four agree. -/
def rsErasures (syn : List Nat) (ps : List Nat) : Option (List (Nat × Nat)) :=
  let vals := ps.map fun p =>
    let lam := (ps.filter fun q => q != p).foldl (fun l q => gfTimesRoot l (rsLoc q)) [1]
    let num := (lam.zipWith gfMul syn).foldl (fun a b => a ^^^ b) 0
    (p, gfMul num (gfInv (gfEval lam (rsLoc p))))
  let ok := (List.range 4).all fun j =>
    ((vals.map fun v => gfMul v.2 (gfPow (rsLoc v.1) j)).foldl (fun a b => a ^^^ b) 0) == syn.getD j 0
  if ok then some vals else none

/-- Sets of f slots outside E, as lists in ascending order. -/
def errorSets (e : List Nat) (f : Nat) : List (List Nat) :=
  let others := (List.range 72).filter fun c => !e.contains c
  match f with
  | 0 => [[]]
  | 1 => others.map fun c => [c]
  | _ => others.flatMap fun c => (others.filter fun d => decide (c < d)).map fun d => [c, d]

/-- Decode one outer codeword for errors and erasures: as many errors as e + 2f ≤ 4 allows. The result
lists the located errors and the values to add. -/
def rsDecode (e : List Nat) (w : List Nat) : Option (List Nat × List (Nat × Nat)) :=
  let syn := rsSyndromes w
  let tryF (f : Nat) : Option (List Nat × List (Nat × Nat)) :=
    (errorSets e f).findSome? fun fs =>
      match rsErasures syn (e ++ fs) with
      | some vs => if fs.all fun c => vs.any fun v => decide (v.1 = c) && decide (v.2 ≠ 0) then some (fs, vs) else none
      | none => none
  ((List.range 3).filter fun f => decide (e.length + 2 * f ≤ 4)).findSome? tryF

/-- The outer codeword at byte t of a setting's slots. -/
def SettingRd.outerWord (x : SettingRd) (t : Nat) : List Nat := (List.range 72).map fun c => (x.slot c).info.getD t 0

/-- All syndromes of a setting are 0. -/
def SettingRd.clean (x : SettingRd) : Bool := (List.range 4096).all fun t => (rsSyndromes (x.outerWord t)).all fun v => v == 0

/-! What a setting holds -/

/-- The PBA of a block of a setting. -/
def blockPba (sa blk : Nat) : Nat := pbaOf (saLayer sa) (saSetting sa) blk

/-- A header slot's header fails R115. -/
def SettingRd.badHeader (x : SettingRd) (c : Nat) : Bool :=
  match slotBlock c with
  | some (k, 16) => !headerOk (x.slot c).info (blockPba x.sa k)
  | _ => false

/-- A slot holds a result that stands. -/
def SlotState.good : SlotState → Bool
  | .pass | .corrected => true
  | _ => false

/-- Failed slots (R232). -/
def SettingRd.failedSlots (x : SettingRd) : List Nat :=
  (List.range 72).filter fun c => !(x.slot c).st.good || x.badHeader c

/-- Slots that still wait for L0 or L1. -/
def SettingRd.waiting (x : SettingRd) : Bool :=
  (List.range 72).any fun c => decide ((x.slot c).st = .open) || decide ((x.slot c).st = .failed0)

/-- The setting is complete (R237). -/
def SettingRd.complete (x : SettingRd) : Bool := x.failedSlots.isEmpty && (!x.cfg.outerCheck || x.clean)

/-- Rung n is enabled. -/
def SettingRd.rung (x : SettingRd) (n : Nat) : Bool := bitOf x.cfg.rungEn n

/-! Ends: release, reconstruction, shard (R245-R250) -/

/-- Release a block (R250). -/
def State.release (s : State) (x : SettingRd) (k rung : Nat) (payload : List Nat) (hdr : BlockHeader) : State :=
  s.setPool { s.pool with released := s.pool.released ++
    [{ head := x.head, sa := x.sa, blk := k, why := x.why, header := hdr, payload := payload, rung := rung, revs := x.revs }] }

/-- Header and payload of a block as the slots hold them. -/
def SettingRd.header (x : SettingRd) (k : Nat) : BlockHeader := headerOf (x.slot (17 * k + 16)).info
def SettingRd.payload (x : SettingRd) (k : Nat) : List Nat := (List.range 16).flatMap fun i => (x.slot (17 * k + i)).info

/-- Set where a block stands. -/
def SettingRd.setBlock (x : SettingRd) (k v : Nat) : SettingRd := { x with blocks := listSet x.blocks k v }

/-- The ladder ends for a setting once every block is released or lost: its captures are freed (R229)
and the setting leaves. -/
def State.settingEnd (s : State) (x : SettingRd) : State :=
  if x.blocks.all fun v => decide (v = 3) || decide (v = 4) then
    ((s.freeCaps fun y => decide (y.head = x.head) && decide (y.sa = x.sa)).dropSetting x.head x.sa).unwant x.head x.sa |>.showLoad
  else s.putSetting x

/-- A block whose ladder ran without L7 for a reconstruction or a copy is no shard: it counts as missing (R408, R411). -/
def State.blockUnread (s : State) (x : SettingRd) (k : Nat) : State :=
  let t := s.freeCaps fun y => decide (y.head = x.head) && decide (y.sa = x.sa) && decide (y.slot / 17 = k) && decide (y.slot < 68)
  (t.setPool { t.pool with unread := t.pool.unread ++ [(x.head, x.sa, k)] }).settingEnd (x.setBlock k 4)

/-- A block is a shard (R247, R408): counted, recorded with a shard mark, its pieces retained. -/
def State.shardBlock (s : State) (x : SettingRd) (k : Nat) : State :=
  if x.why = .member ∨ x.why = .rethrow then s.blockUnread x k else
  let p := outerPage
  let pba := blockPba x.sa k
  let t := ((s.count p OUTER.RUNG_DONE 1 8).istat p 10).event p 0x4107 5 0xFF pba
  let t := ((t.setFld p OUTER.LAST_SHARD_PBA pba).setFld p OUTER.LAST_SHARD_HEAD x.head).setFlag p OUTER.LAST_SHARD_VALID true
  let mine (y : Piece) : Bool := decide (y.head = x.head) && decide (y.sa = x.sa) && decide (y.slot / 17 = k) && decide (y.slot < 68)
  let ps := t.pool.caps.filter mine
  let t := (t.freeCaps mine).retain ps
  let t := t.setPool { t.pool with lost := t.pool.lost ++ [(x.head, x.sa, k)] }
  -- a shard of a stripe gets its mark and 0x5103 (R408)
  let home := t.homeOf x.head x.sa
  let t := match if x.head < 32 then zoneOfSa (x.head % 4) home else none with
    | some (zk, _) =>
      let t := t.putMark x.head home (2 ^ k) 2 (t.zone zk).gen zk
      ((t.count stripePage STRIPE.SHARDS).istat stripePage 10).event stripePage 0x5103 5 0xFF pba
    | none => t
  t.settingEnd (x.setBlock k 4)

/-- The member of a stripe block at a position is missing (R406): no head of it is ready and in reading service, the block
is void or a shard, or its own ladder has ended (R408). -/
def State.memberMissing (s : State) (lane home k pos : Nat) : Bool :=
  match s.memberHead lane pos with
  | none => true
  | some h =>
    let at_ := s.placeOf h home
    !s.fldBit stripePage STRIPE.MEMBER_OK (8 * lane + pos) || s.marked h home k 1 || s.marked h home k 2 ||
      s.pool.lost.contains (h, at_, k) || s.pool.unread.contains (h, at_, k) || s.pool.settings.any fun x => decide (x.head = h) && decide (x.sa = at_) && decide (x.blocks.getD k 0 = 2)

/-- The members that a reconstruction of the member at position `me` reads (R407); none while more than two members are missing
(R408). -/
def rebuildNeeds (p q : Nat) (ds : List Nat) (missing : Nat → Bool) (me : Nat) : Option (List Nat) :=
  let others := ds.filter fun d => d != me
  let lost := others.filter missing
  let data := others.filter fun d => !missing d
  if me = p ∨ me = q then
    let parity := if me = p then q else p
    match lost with
    | [] => some data
    | [_] => if missing parity then none else some (data ++ [parity])
    | _ => none
  else match lost with
    | [] => if !missing p then some (data ++ [p]) else if !missing q then some (data ++ [q]) else none
    | [_] => if missing p || missing q then none else some (data ++ [p, q])
    | _ => none

/-- What the reconstruction of a block of a home setting needs: the positions to read; none where no stripe holds it or too
many of its members are missing. -/
def State.blockNeeds (s : State) (lane home k pos : Nat) : Option (List Nat) :=
  (zoneOfSa lane home).bind fun (zk, first) =>
    let (p, q, ds) := stripeLayout ((s.zone zk).excluded (first + k)) (first + k)
    rebuildNeeds p q ds (s.memberMissing lane home k) pos

/-- A member block that a read has released. -/
def State.releasedAt (s : State) (h home k : Nat) : Option BlockOut :=
  s.pool.released.find? fun r => decide (r.head = h) && decide (s.homeOf h r.sa = home) && decide (r.blk = k)

/-- The members that a reconstruction needs and no read has released yet are read with L7 disabled (R407, R408). -/
def State.wantMembers (s : State) (lane home k : Nat) (ps : List Nat) (why : ReadFor := .member) : State :=
  s.forEach ps fun u p => match u.memberHead lane p with
    | some h =>
      let at_ := u.placeOf h home
      if (u.releasedAt h home k).isSome || (u.setting h at_).isSome then u else u.want h at_ why
    | none => u

/-- The members that a block of a setting at L7 needs are read. -/
def State.wantOthers (s : State) (h sa k : Nat) : State :=
  let home := s.homeOf h sa
  match if h < 32 then (s.headPos h).bind (s.blockNeeds (h % 4) home k) else none with
  | some ps => s.wantMembers (h % 4) home k ps
  | none => s

/-- A block goes to L7, or with L7 disabled to L8 (R237). -/
def State.toL7 (s : State) (x : SettingRd) (k : Nat) : State × SettingRd :=
  if x.rung 7 then (s.wantOthers x.head x.sa k, x.setBlock k 2) else
    let x := x.setBlock k 4
    (s.shardBlock x k, x)

/-- Step 8 of R237: each block of an incomplete setting is accepted under R245 after its tag, or goes to
L7. Which slots passed LDPC decoding decides; P and Q members are never accepted here. -/
def State.toBlocks (s : State) (x : SettingRd) : State :=
  let x := { x with step := .blocks, todo := [], ran := [], decoding := [], pass := none }
  let step (acc : State × SettingRd) (k : Nat) : State × SettingRd :=
    let (u, y) := acc
    if y.blocks.getD k 0 ≠ 0 then (u, y)
    else
      let ok := ((List.range 17).all fun i => decide ((y.slot (17 * k + i)).st = .pass)) && !y.badHeader (17 * k + 16)
      if ok && decide ((y.header k).kind = 1) then (u, y.setBlock k 1) else u.toL7 y k
  let (t, y) := (List.range 4).foldl step (s, x)
  t.settingEnd { y with step := .l7 }

/-- A setting is complete: it is counted at its highest rung, and its blocks go to the tag check, to
release, or, with a header that still fails, to L7 (R235, R250). -/
def State.finishSetting (s : State) (x : SettingRd) (rung : Nat) : State :=
  let p := outerPage
  let t := s.count p OUTER.RUNG_DONE 1 rung
  let t := if 0 < x.revs then t.event p 0x4101 2 0xFF x.sa else t
  let t := if x.outer = 2 then t.event p 0x4102 3 0xFF x.sa else t
  let x := { x with top := rung, step := .blocks, todo := [], ran := [], decoding := [], pass := none }
  let step (acc : State × SettingRd) (k : Nat) : State × SettingRd :=
    let (u, y) := acc
    if y.blocks.getD k 0 ≠ 0 then (u, y)
    else if y.badHeader (17 * k + 16) then u.toL7 y k
    else if (y.header k).kind = 1 then (u, y.setBlock k 1)
    else (u.release y k rung (y.payload k) (y.header k), y.setBlock k 3)
  let (t, y) := (List.range 4).foldl step (t, x)
  t.settingEnd y

/-! Passes of L2 and L3 (R239, R240) -/

/-- Captured pieces of a codeword, for re-detection. -/
def State.capsOf (s : State) (x : SettingRd) (c : Nat) : List Piece :=
  s.pool.caps.filter fun y => decide (y.head = x.head) && decide (y.sa = x.sa) && decide (y.slot = c) && !y.erased

/-- Insert by a key, higher first. -/
def insertDesc (k : Piece → Int) (x : Piece) : List Piece → List Piece
  | [] => [x]
  | y :: r => if k y < k x then x :: y :: r else y :: insertDesc k x r
def sortDesc (k : Piece → Int) (xs : List Piece) : List Piece := xs.foldr (insertDesc k) []

/-- The set that gave a piece its lowest MSE (R239): set 0, its own start values, while no re-detection was better. -/
def Piece.best (x : Piece) : Nat := match x.bestSet with
  | some v => v.1
  | none => 0

/-- Single slide trials of a codeword: by the slide candidate's distance, then by beam, without the one
that would repeat the joint pass. -/
def slideTrials (ps : List Piece) (max : Nat) : List Piece :=
  let sl := ps.filter fun y => y.slide.isSome
  let joint := sl.filter fun y => y.retimed
  let sl := sl.filter fun y => !(decide (joint.length = 1) && y.retimed)
  let key (y : Piece) : Int := - (((match y.slide with | some v => v.distance | none => 0) * 16 + y.beam : Nat) : Int)
  (sortDesc key sl).take max

/-- A re-detection to request: its set is read when it starts (R214). -/
def redetOf (c set : Nat) (slide turbo : Bool) (y : Piece) : Redet :=
  { slot := c, beam := y.beam, set := set, slide := slide, turbo := turbo, taps := [], canc := [] }

/-- The re-detections of a pass for one codeword. -/
def State.passItems (s : State) (x : SettingRd) (p : LadderPass) (c : Nat) : List Redet :=
  let ps := s.capsOf x c
  let byMse := sortDesc (fun y => y.mse) ps
  match p with
  | .alt i => byMse.map (redetOf c (i + 1) false false)
  | .turbo _ => byMse.map fun y => redetOf c y.best false true y
  | .joint => (ps.filter fun y => y.slide.isSome && y.retimed).map fun y => redetOf c y.best true false y
  | .trial n => match (slideTrials ps x.cfg.slideMax)[n]? with
    | some y => [redetOf c y.best true false y]
    | none => []

/-- The passes of a setting in order (R237, R239, R240). -/
def SettingRd.passes (x : SettingRd) : List LadderPass :=
  (if x.rung 2 then ((List.range 3).filter fun i => bitOf x.cfg.altMask i).map LadderPass.alt ++
      (List.range (min 8 x.cfg.turboMax)).map LadderPass.turbo else []) ++
  (if x.rung 3 then LadderPass.joint :: (List.range x.cfg.slideMax).map LadderPass.trial else [])

/-- The rung of a pass. -/
def LadderPass.rung : LadderPass → Nat
  | .alt _ | .turbo _ => 2
  | _ => 3

/-- Slots that L2 and L3 work on: those that failed a decode (R223 sends the others past them). -/
def SettingRd.norevSlots (x : SettingRd) : List Nat :=
  (List.range 72).filter fun c => decide ((x.slot c).st = .failed)

/-- The passes that come after the present one. -/
def passesAfter (p : Option LadderPass) (ps : List LadderPass) : List LadderPass :=
  match p with
  | none => ps
  | some q => (ps.dropWhile fun y => decide (y ≠ q)).drop 1

/-- Start the next pass that has something to re-detect, or go on to the outer attempt. -/
def State.nextPass (s : State) (x : SettingRd) : SettingRd :=
  let items (p : LadderPass) := x.norevSlots.flatMap fun c => s.passItems x p c
  match (passesAfter x.pass x.passes).find? fun p => !(items p).isEmpty with
  | some p => { x with step := .norev, pass := some p, todo := items p, ran := [], decoding := [] }
  | none => { x with step := .outer, pass := none, todo := [], ran := [], decoding := [] }

/-! Revolution steps (R242) -/

/-- The steps of L4 and L5 in order: rung, kind of STEP, value. -/
def SettingRd.revList (x : SettingRd) : List (Nat × Nat × Int) :=
  let v (l : List Nat) (i : Nat) : Int := ((min 127 (l.getD i 0) : Nat) : Int)
  let a := [(4, 1, v x.cfg.l4 0), (4, 1, -(v x.cfg.l4 0)), (4, 1, v x.cfg.l4 1), (4, 1, -(v x.cfg.l4 1)), (4, 2, v x.cfg.l4 2), (4, 2, -(v x.cfg.l4 2))]
  let b := [(5, 3, v x.cfg.l5 0), (5, 3, -(v x.cfg.l5 0)), (5, 4, v x.cfg.l5 1), (5, 4, -(v x.cfg.l5 1))]
  (if x.rung 4 then a.take x.cfg.l4Steps else []) ++ (if x.rung 5 then b.take x.cfg.l5Steps else [])

/-- A setting goes to its next revolution step, or to step 8. -/
def State.afterOuter (s : State) (x : SettingRd) : State :=
  if x.timedOut || decide (x.revList.length ≤ x.rev) then s.toBlocks x
  else s.putSetting { x with step := .revWait, todo := [], ran := [], decoding := [], pass := none }

/-- Settings of one band of a head that wait for a revolution step. -/
def State.revBand (s : State) (h : Nat) : List SettingRd :=
  let ws := s.pool.settings.filter fun x => decide (x.head = h) && decide (x.step = .revWait)
  let key (x : SettingRd) := saLayer x.sa * 16384 + bandOfSetting (saSetting x.sa)
  match ws with
  | [] => []
  | w :: _ =>
    let m := ws.foldl (fun a x => min a (key x)) (key w)
    ws.filter fun x => decide (key x = m)

/-- The head starts a revolution step when its sequencer is free, its read has ended and the pool admits its load (R225):
one STEP for every setting of the band; a read-power step outside the limits is skipped. -/
def State.startRev (s : State) (h : Nat) : State :=
  let ws := s.revBand h
  let busy := decide ((s.seq h).op ≠ 0) || decide (s.seqState h ≠ sqLocked) || !s.headObeys h ||
    (s.pool.settings.any fun x => decide (x.head = h) && decide (x.step = .rev)) || (s.pool.wants.any fun r => decide (r.head = h) && r.on)
  match ws with
  | [] => s
  | w :: _ =>
    if busy || !s.admits (ringOfSetting (saSetting w.sa)) then s
    else
      let from_ := ws.foldl (fun a x => max a x.rev) 0
      let list := w.revList
      let usable (i : Nat) : Bool := match list[i]? with
        | some (_, kind, v) => kind != 4 || s.powerOk (s.steppedPower h v)
        | none => false
      match ((List.range list.length).filter fun i => decide (from_ ≤ i)).find? usable with
      | none => s.forEach ws fun u x => u.toBlocks { x with rev := list.length }
      | some i =>
        match list[i]? with
        | none => s
        | some (_, kind, v) =>
          let t := s.seqCmd h 5 (kind + unsigned 8 v * 16)
          let t := (t.count outerPage OUTER.REV_USED).istat outerPage 8
          (t.forEach ws fun u x => u.putSetting { x with step := .rev, rev := i + 1, revs := x.revs + 1 }).showLoad

/-! Progress of a setting -/

/-- What a setting under read does next once nothing it waits for is out (R237). -/
def State.ladderGo (s : State) (h sa : Nat) : State :=
  match s.setting h sa with
  | none => s
  | some x =>
    match x.step with
    | .reading | .l1 =>
      if x.waiting then s
      else
        let t := (s.unwant h sa).showLoad
        if onlyL0 x.why then t.putSetting { x with step := .blocks }
        else if x.complete then t.finishSetting x (if (List.range 72).any fun c => decide ((x.slot c).rung = 1) then 1 else 0)
        else
          let x := { s.enterLadder x with norevStart := s.now }
          t.putSetting (t.nextPass x)
    | .norev =>
      if !x.todo.isEmpty || !x.decoding.isEmpty then s
      else if x.complete then s.finishSetting x (match x.pass with | some p => p.rung | none => 2)
      else if x.pass.isNone then s
      else s.putSetting (s.nextPass x)
    | .revOuter =>
      if !x.decoding.isEmpty then s
      else if x.complete then
        s.finishSetting x (match x.revList[x.rev - 1]? with | some v => v.1 | none => 4)
      else s
    | _ => s

/-- With L6 disabled the outer attempt is skipped. -/
def State.outerSkip (s : State) (h sa : Nat) : State :=
  match s.setting h sa with
  | some x => if (x.step = .outer ∨ (x.step = .revOuter ∧ x.decoding = [])) ∧ x.rung 6 = false then
      (s.afterOuter x).startRev h else s
  | none => s

/-- After any change of a setting: its next step, and a revolution if one waits. -/
def State.ladderStep (s : State) (h sa : Nat) : State := ((s.ladderGo h sa).outerSkip h sa).startRev h

/-! Decodes (R222, R238) -/

/-- The last 65,536 L0 iteration counts and their mean (R223), and the head's own sum (R604). -/
def State.pushIters (s : State) (h n : Nat) : State :=
  let l := (n :: s.pool.iters).take 65536
  let z := storeFind (fun _ => (0, 0)) s.pool.l0 h
  (s.setPool { s.pool with iters := l, l0 := storePut (fun _ => (0, 0)) s.pool.l0 h (z.1 + n, z.2 + 1) }).setFld ldpcPage LDPC.ITER_AVG (l.sum * 256 / l.length)

/-- Coded bits of a cone witness against the codeword that R129 gives: those that differ, and those compared; an erased bit is not (R417). -/
def witnessRaw (sa slot : Nat) (llrs : List Int) : Nat × Nat :=
  let g := saSetting sa
  match if 3136 ≤ g ∧ g < 3200 then slotBlock slot else none with
  | some (k, i) =>
    if i < 16 then
      let bits := ldpcEncode (infoBits (((conePayload g k).drop (4096 * i)).take 4096))
      let seen := (llrs.zip bits).filter fun x => x.1 != 0
      ((seen.filter fun x => decide (x.1 < 0) != x.2).length, seen.length)
    else (0, 0)
  | none => (0, 0)

/-- A captured weak piece is freed when its codeword passes at L0 or L1 (R229). -/
def State.freeWeak (s : State) (j : CwJob) : State :=
  s.freeCaps fun z => decide (z.head = j.head) && decide (z.sa = j.sa) && decide (z.slot = j.slot) && z.weakCopy

/-- The result of a decode at L0: a failure, also of a header (R115, R232), is reported to the head block (R198), and L1
follows where it is enabled; bisque and cone reads use L0 only (R250, R417). -/
def State.decodedL0 (s : State) (j : CwJob) (r : LdpcRes) : State :=
  let t := (s.count ldpcPage LDPC.CW_L0).pushIters j.head r.iters
  match t.setting j.head j.sa with
  | none => t
  | some x =>
    let old := if onlyL0 x.why then { x.slot j.slot with raw := witnessRaw j.sa j.slot j.llrs } else x.slot j.slot
    let y := x.setSlot j.slot { old with st := .pass, rung := 0, iters := r.iters, info := if r.pass then r.info else [], kept := [], ext := [] }
    if r.pass && !y.badHeader j.slot then (t.freeWeak j).putSetting y
    else
      let t := if r.pass then t else t.count ldpcPage LDPC.CW_L0_FAIL
      let t := t.setPool { t.pool with failed := t.pool.failed ++ [(j.head, j.sa, j.slot)] }
      let failed : SlotRes := { old with iters := r.iters, ext := r.extrinsic j.llrs }
      if onlyL0 x.why then t.putSetting (x.setSlot j.slot { failed with st := if r.pass then .pass else .failed, info := if r.pass then r.info else [] })
      else
        let y := t.enterLadder (x.setSlot j.slot { failed with st := if x.rung 1 then .failed0 else .failed })
        let t := t.putSetting { y with step := if y.step = .reading then .l1 else y.step }
        if x.rung 1 then t.issueL1 j.head j.sa j.slot 0 else t

/-- The result of a decode at L1: the first one, or one of a revolution step. -/
def State.decodedL1 (s : State) (j : CwJob) (r : LdpcRes) : State :=
  let t := s.count ldpcPage (if r.pass then LDPC.CW_L1_PASS else LDPC.CW_L1_FAIL)
  match t.setting j.head j.sa with
  | none => t
  | some x =>
    let old := x.slot j.slot
    let y := x.setSlot j.slot { old with st := .pass, rung := 1, iters := r.iters, info := if r.pass then r.info else [] }
    let ok := r.pass && !y.badHeader j.slot
    let y := if ok then y else x.setSlot j.slot { old with st := .failed, ext := r.extrinsic j.llrs }
    let y := { y with decoding := y.decoding.filter fun c => c != j.slot }
    (if ok && j.attempt == 0 then t.freeWeak j else t).putSetting y

/-- The result of a decode of L2 or L3 (R239, R240): a slot stops at the first that passes; a slide that failed is
undone. -/
def State.decodedRe (s : State) (j : CwJob) (r : LdpcRes) : State :=
  match s.setting j.head j.sa with
  | none => s
  | some x =>
    let old := x.slot j.slot
    let y := x.setSlot j.slot { old with st := .pass, rung := j.rung, iters := r.iters, info := if r.pass then r.info else [] }
    let y := if r.pass && !y.badHeader j.slot then y else x.setSlot j.slot { old with slid := [], ext := r.extrinsic j.llrs }
    s.putSetting { y with decoding := y.decoding.filter fun c => c != j.slot }

/-- A decode ends: its cell is free, its time counts for its class, and the ladder of its setting goes on (R222, R224). -/
def State.decodeEnds (s : State) (cell : Nat) (j : CwJob) (r : LdpcRes) : State :=
  let t := s.setCell cell none
  let t := if s.pool.queueA.isEmpty then t.setPool { t.pool with aTime := 0, bTime := 0 }
    else if j.rung = 0 then t.setPool { t.pool with aTime := t.pool.aTime + max 1 r.iters }
    else t.setPool { t.pool with bTime := t.pool.bTime + max 1 r.iters }
  let t := match j.rung with
    | 0 => t.decodedL0 j r
    | 1 => t.decodedL1 j r
    | _ => t.decodedRe j r
  t.ladderStep j.head j.sa

/-- DECODE_RESULT (R221, R222): a cell ends the decode of its codeword, by a pass or at its iteration limit. -/
def execDecodeResult (cell : Fin 18) (_ _ _ : Computed) (s : State) : Res :=
  match s.cellJob cell.val with
  | none => done s
  | some j => if s.flag ldpcPage HDR.ISOLATE then done s else done (s.decodeEnds cell.val j (ldpcDecode j.norm j.limit j.llrs))

/-- A codeword with too many erasures fails at once and skips rungs L1 to L3 (R223). -/
def State.eraseSkip (s : State) (j : CwJob) : State :=
  let t := (s.count ldpcPage LDPC.CW_ERASE_SKIP).showQueues
  match t.setting j.head j.sa with
  | none => t
  | some x =>
    let t := if j.rung = 0 then
        let u := t.count ldpcPage LDPC.CW_L0_FAIL
        u.setPool { u.pool with failed := u.pool.failed ++ [(j.head, j.sa, j.slot)] }
      else t
    let skip := decide (j.rung ≤ 1) && decide (j.attempt = 0)
    let y := if skip then x.setSlot j.slot { x.slot j.slot with st := .skipped } else x
    let y := { y with decoding := y.decoding.filter fun c => c != j.slot }
    let y := if onlyL0 x.why then y else t.enterLadder y
    (t.putSetting y).ladderStep j.head j.sa

/-- DECODE_START (R223, R224): the next codeword by class goes to a free cell; one with too many erasures needs none and
fails at once. -/
def execDecodeStart (s : State) : Res :=
  let b := s.classB
  match if b then s.pool.queueB else s.pool.queueA with
  | [] => done s
  | j :: r =>
    let t := s.setPool (if b then { s.pool with queueB := r } else { s.pool with queueA := r })
    if s.fldIn ldpcPage LDPC.ERASE_MAX 0 8192 < erasedBits j.llrs then done (t.eraseSkip j)
    else match if s.accepts ldpcPage then s.nextCell else none with
      | none => done s
      | some c => done (t.cellTakes c j)

/-- PIECE_FILED (R218): the oldest delivered piece joins its codeword; where that fails at once, its setting goes on. -/
def execPieceFiled (s : State) : Res :=
  match s.pool.arrivals with
  | [] => done s
  | a :: r => if s.flag ldpcPage HDR.ISOLATE then done s else done ((s.filePiece a r).ladderStep a.head a.sa)

/-- BAND_READ_START (R225): a head whose read the pool admits starts at a setting boundary; so does the revolution step
of a band that waits for one (R242). Reads that need a firing head wait for the end of the run (R257), and all while the rotor is
unsure (R342). -/
def execBandReadStart (h : HeadIx) (s : State) : Res :=
  let s := s.startRev h.val
  match s.nextRead h.val with
  | none => done s
  | some r =>
    let busy := (s.pool.wants.any fun x => decide (x.head = h.val) && x.on) ||
      s.pool.settings.any fun x => decide (x.head = h.val) && decide (x.step = .rev)
    let noRead := s.flag (bandPage h.val) BAND.BAND_STAT_NO_READ || s.flag (wheelPage (wheelOfHead h.val)) WHEEL.WH_STAT_ROTOR_UNSURE
    let fires := decide (s.fld (firestatPage h.val) FIRESTAT.STATE = 2) || decide (s.fld (firestatPage h.val) FIRESTAT.STATE = 3)
    let on := s.accepts (headPage h.val) && s.accepts (bandPage h.val)
    done (if !on || busy || noRead || fires || !s.admits (ringOfSetting (saSetting r.sa)) then s else s.startBandRead h.val r.sa)

/-! Re-detections (R200-R202) -/

/-- CC16 of a head can run a re-detection. -/
def State.cc16Free (s : State) (h : Nat) : Bool :=
  let p := bandPage h
  s.ready p && decide (s.fld p BAND.CC_MAP_SPARE_BEAM = 0x1F) && !s.flag p BAND.CC_MAP_TEST_BUSY &&
  !s.fldBit p BAND.CC_FAILED 16 && s.flag p BAND.SHELF_CFG_REDET_EN

/-- The head whose CC16 serves a re-detection (R202): the reading head, else one of the same region that
is not reading. -/
def State.redetCell (s : State) (h : Nat) : Option Nat :=
  let region (i : Nat) := if i = 32 then 3 else i / 8
  let reading (i : Nat) : Bool := s.pool.wants.any fun r => decide (r.head = i) && r.on
  if s.cc16Free h then some h
  else ((List.range 33).filter fun i => decide (region i = region h) && decide (i ≠ h)).find? fun i => s.cc16Free i && !reading i

/-- The setting of a head whose next re-detection is to run. -/
def State.redetNext (s : State) (h : Nat) : Option (SettingRd × Redet) :=
  s.pool.settings.findSome? fun x =>
    if x.head = h ∧ x.step = .norev then (match x.todo with | [] => none | r :: _ => some (x, r)) else none

/-- Once a pass has nothing more to re-detect, the codewords with a re-detected piece are decoded again
(R239, R240). -/
def State.passDecode (s : State) (x : SettingRd) : State :=
  if !x.todo.isEmpty then s.putSetting x
  else
    let slots := (x.ran.map fun r => r.slot).eraseDups
    let rung := match x.pass with | some p => p.rung | none => 2
    let jobs := slots.map fun c => newJob x.head x.sa c 0 rung (x.slot c).workLlrs
    let t := (s.setPool { s.pool with queueB := s.pool.queueB ++ jobs }).showQueues
    (t.putSetting { x with decoding := slots, ran := [] }).ladderStep x.head x.sa

/-- The equaliser taps of a set for a piece (R200): its own start values, those of its layer and ring, or an ALT set as
the tables now hold it (R214). -/
def State.redetTaps (s : State) (y : Piece) (set : Nat) : List Int :=
  if set = 0 then ((s.ringEntry y.head (saLayer y.sa) (ringOfSetting (saSetting y.sa)) y.beam).getD CellVals.default).taps
  else
    let a := 0x280000 + y.head * 0x1000 + 0x300 + 48 * (set - 1)
    (List.range 24).map fun t => signed 16 (s.winByte (a + 2 * t) + 256 * s.winByte (a + 2 * t + 1))

/-- A captured piece of a setting. -/
def State.capAt (s : State) (h sa slot beam : Nat) : Option Piece :=
  s.pool.caps.find? fun y => decide (y.head = h) && decide (y.sa = sa) && decide (y.slot = slot) && decide (y.beam = beam)

/-- REDETECTION_REQUEST (R200): the next re-detection of a head's setting starts on a free CC16, waits
while that CC16 runs another, or returns "not run". The canceller takes the beam's present coefficients (log entry
141). -/
def execRedetectionRequest (h : HeadIx) (s : State) : Res :=
  match s.redetNext h.val with
  | none => done s
  | some (x, r) =>
    let x' := { x with todo := x.todo.drop 1 }
    match s.redetCell h.val, s.capAt x.head x.sa r.slot r.beam with
    | some c, some y =>
      match storeFind (fun _ => none) s.pool.redet c with
      | some _ => done s
      | none =>
        let r := { r with taps := s.redetTaps y r.set, canc := (s.curVals x.head r.beam).canc }
        let t := s.setPool { s.pool with redet := storePut (fun _ => none) s.pool.redet c (some (x.head, x.sa, r)) }
        done (t.setFlag (bandPage c) BAND.CC_MAP_REDET_BUSY true)
    | _, _ => done (s.passDecode x')

/-- The stored samples of a piece. -/
def Piece.samps (x : Piece) : List Samp := x.samples.map fun v => { v := signed 8 v, ok := decide (v ≠ 0x80) }

/-- What a re-detection of a piece gives (R200, R201): neighbours count where their piece of the same segment is captured,
a turbo pass adds the extrinsic values of the last failed decode. -/
def State.redetRun (s : State) (y : Piece) (r : Redet) (ext : List Int) : RedetRes :=
  let odd := decide (saLayer y.sa % 2 = 1)
  let side (n : Neighbour) : Option (List Samp) := match n with
    | .beam b => (s.pool.caps.find? fun z => decide (z.head = y.head) && decide (z.sa = y.sa) && decide (z.seg = y.seg) && decide (z.beam = b)).map
        fun z => equalisedPiece r.taps z.samps 0
    | _ => none
  let slide : Int := match r.slide, y.slide with
    | true, some c => c.offset - y.offset
    | _, _ => 0
  redetect (targetCoefs (s.bfld y.head BAND.TARGET)) r.taps r.canc (s.bfld y.head BAND.LLR_CFG_LLR_SCALE) y.samps
    (side (innerNeighbour odd y.beam)) (side (outerNeighbour odd y.beam)) slide
    (if r.turbo then some ((ext.drop (2560 * y.beam)).take 2560) else none)

/-- A re-detection that ran: its LLRs stand in place of the piece's (R239, R240), and the set of the lowest MSE, the
first detection's among them, is kept. -/
def SettingRd.takeRedet (x : SettingRd) (r : Redet) (llrs : List Int) : SettingRd :=
  let c := x.slot r.slot
  let c := if r.slide then { c with slid := storePut (fun _ => none) c.slid r.beam (some llrs) }
    else { c with work := storePut (fun _ => none) c.work r.beam (some llrs) }
  { x.setSlot r.slot c with ran := x.ran ++ [r] }

def Piece.tookSet (y : Piece) (set : Nat) (mse : Int) : Piece :=
  let least := match y.bestSet with | some v => v.2 | none => y.mse
  if mse < least then { y with bestSet := some (set, mse) } else y

/-- A re-detection at head c ends: by its result, or "not run". -/
def State.redetEnd (s : State) (c : Nat) (ran : Bool) : State :=
  match storeFind (fun _ => none) s.pool.redet c with
  | none => s
  | some (hh, sa, r) =>
    let t := s.setPool { s.pool with redet := storePut (fun _ => none) s.pool.redet c none }
    let t := t.setFlag (bandPage c) BAND.CC_MAP_REDET_BUSY false
    match t.setting hh sa with
    | none => t
    | some x =>
      let x := { x with todo := x.todo.filter fun y => decide (y ≠ { r with taps := [], canc := [] }) }
      match ran, t.capAt hh sa r.slot r.beam with
      | true, some y =>
        let res := t.redetRun y r (x.slot r.slot).ext
        let t := t.setPool { t.pool with caps := t.pool.caps.map fun z => if z = y then z.tookSet r.set (res.mse.getD worstMse) else z }
        (t.count (bandPage c) BAND.REDET_CNT).passDecode (x.takeRedet r res.llrs)
      | _, _ => t.passDecode x

/-- REDETECTION_DONE (R200-R202): the pass of a head's CC16 ends after t_REDET. -/
def execRedetectionDone (h : HeadIx) (_ : Computed) (s : State) : Res := done (s.redetEnd h.val true)

/-- A cell fault calls CC16 into service (R202): its re-detection returns "not run". -/
def State.redetAbort (s : State) (h : Nat) : State := s.redetEnd h false

/-- NOREV_BUDGET_EXPIRY (R241): once NOREV_BUDGET has passed, in units of 10 µs, no further pass starts; what is out runs to its end. -/
def execNorevBudgetExpiry (h : HeadIx) (sa : Nat) (s : State) : Res :=
  match s.setting h.val sa with
  | none => done s
  | some x =>
    if x.step ≠ .norev ∨ s.now < x.norevStart + 10000 * x.cfg.budget then done s
    else
      let out := s.pool.redet.any fun y => match y.2 with
        | some (hh, a, _) => decide (hh = x.head) && decide (a = sa)
        | none => false
      -- the running re-detection is the head of the list of those still to run
      let t := s.putSetting { x with todo := if out then x.todo.take 1 else [], cfg := { x.cfg with altMask := 0, turboMax := 0, slideMax := 0 } }
      if out then done t
      else match t.setting h.val sa with
        | some y => done (t.passDecode y)
        | none => done t

/-! The outer attempt (R233-R235) -/

/-- Every other member that the reconstruction of a block needs has been released (R244, R407). -/
def State.stripeOthers (s : State) (h sa k : Nat) : Bool :=
  let home := s.homeOf h sa
  match if h < 32 then (s.headPos h).bind (s.blockNeeds (h % 4) home k) else none with
  | some ps => ps.all fun p => match s.memberHead (h % 4) p with
    | some o => (s.releasedAt o home k).isSome
    | none => false
  | none => false

/-- After a failed attempt: with REV_POLICY 1, blocks whose stripe can be rebuilt go to L7 before step 6
(R244); else the next revolution step. -/
def State.outerFailed (s : State) (x : SettingRd) : State :=
  let bad (k : Nat) : Bool := (List.range 17).any fun i => x.failedSlots.contains (17 * k + i)
  let early := x.cfg.revPolicy && decide (x.step = .outer) && x.rung 7 &&
    (List.range 4).all fun k => !bad k || s.stripeOthers x.head x.sa k
  if early then s.toBlocks { x with revAfter := true } else s.afterOuter x

/-- OUTER_ATTEMPT_DONE (R233): the outcome of an attempt over all 4,096 outer codewords. -/
def State.outerAttempt (s : State) (x : SettingRd) : State :=
  let p := outerPage
  let e := x.failedSlots
  let fail (u : State) (y : SettingRd) : State := (u.count p OUTER.OUTER_FAIL).outerFailed y
  if 4 < e.length then fail s x
  else
    let ts := List.range 4096
    let first := ts.map fun t => rsDecode e (x.outerWord t)
    if first.any Option.isNone then fail s x
    else
      let f := (first.flatMap fun o => match o with | some v => v.1 | none => []).eraseDups
      let s := if f.isEmpty then s else (s.count p OUTER.MISCORR f.length).event p 0x4103 3 0xFF x.sa
      let x := f.foldl (fun y c => y.setSlot c { y.slot c with st := .failed }) x
      let all := e ++ f
      if 4 < all.length then fail s x
      else
        let second := ts.map fun t => rsErasures (rsSyndromes (x.outerWord t)) all
        if second.any Option.isNone then fail s x
        else
          let fixed := all.map fun c =>
            (c, (ts.zip second).map fun (t, o) =>
              let add := match o with
                | some vs => ((vs.find? fun v => decide (v.1 = c)).map fun v => v.2).getD 0
                | none => 0
              (x.slot c).info.getD t 0 ^^^ add)
          let y := fixed.foldl (fun y c => y.setSlot c.1 { y.slot c.1 with st := .corrected, rung := 6, info := c.2 }) x
          let y := { y with outer := if all.length < 4 then 1 else 2 }
          let s := s.count p OUTER.OUTER_CORR all.length
          let s := if all.length < 4 then s else s.count p OUTER.OUTER_UNVERIFIED
          s.finishSetting y 6

def execOuterAttemptDone (h : HeadIx) (sa : Nat) (s : State) : Res :=
  match s.setting h.val sa with
  | none => done s
  | some x =>
    if !s.flag outerPage HDR.ISOLATE ∧ (x.step = .outer ∨ (x.step = .revOuter ∧ x.decoding = [])) ∧ x.rung 6 = true then
      done ((s.outerAttempt x).startRev h.val)
    else done s

/-! Revolution steps, time-out (R242, R243, R249) -/

/-- The re-read of a band is over: L1 decodes of the failed slots follow from the pieces kept of every read (R242, R243). -/
def State.revolutionDone (s : State) (h : Nat) : State :=
  let ws := s.pool.settings.filter fun x => decide (x.head = h) && decide (x.step = .rev)
  let t := s.forEach ws fun u x =>
    let slots := if x.rung 1 then x.failedSlots else []
    let u := u.forEach slots fun v c => v.issueL1 x.head x.sa c x.rev
    (u.putSetting { x with step := .revOuter, decoding := slots })
  (t.forEach ws fun u x => u.ladderStep x.head x.sa).startRev h

/-- REVOLUTION_STEP_DONE (R242). -/
def execRevolutionStepDone (h : HeadIx) (s : State) : Res := done (s.revolutionDone h.val)

/-- LADDER_TIMEOUT (R249): a setting has been under the ladder for LADDER_TMO, in ms. -/
def execLadderTimeout (h : HeadIx) (sa : Nat) (s : State) : Res :=
  match s.setting h.val sa with
  | none => done s
  | some x =>
    match x.since with
    | none => done s
    | some t0 =>
      if decide (s.now < t0 + 1000000 * x.cfg.tmo) || x.timedOut || decide (x.step = .blocks) || decide (x.step = .l7) then done s
      else
        let t := (s.count outerPage OUTER.LADDER_TIMEOUT).event outerPage 0x4105 4 0xFF sa
        let x := { x with timedOut := true }
        if x.step = .revWait then done (t.toBlocks x) else done (t.putSetting x)

/-- A head leaves reading service, its link is lost, or its wheel stops: its settings continue at step 8
at once (R249). -/
def State.headOut (s : State) (h : Nat) : State :=
  let ws := s.pool.settings.filter fun x => decide (x.head = h) && decide (x.step ≠ .blocks) && decide (x.step ≠ .l7)
  let t := s.setPool { s.pool with wants := s.pool.wants.map fun r => if r.head = h then { r with on := false } else r }
  (t.forEach ws fun u x =>
    if onlyL0 x.why then (u.freeCaps fun y => decide (y.head = x.head) && decide (y.sa = x.sa)).dropSetting x.head x.sa
    else u.toBlocks (u.enterLadder x)).showLoad

/-- Every open gather of a head closes, and its settings continue at step 8 (R219, R249). -/
def State.headGone (s : State) (h : Nat) : State := (s.closeGathers h).headOut h

/-- A head's read is aborted (R219): its open gathers close, settings begun go on through the ladder, those not begun
wait to be read, and a re-read in progress counts as over. -/
def State.readAborted (s : State) (h : Nat) : State :=
  let t := s.closeGathers h
  let mine := t.pool.settings.filter fun x => decide (x.head = h)
  let begun (sa : Nat) : Bool := mine.any fun x => decide (x.sa = sa) && (decide (x.slots ≠ []) || decide (x.step ≠ .reading))
  let t := t.setPool { t.pool with wants := t.pool.wants.map fun r => if decide (r.head = h) && !begun r.sa then { r with on := false } else r }
  ((t.forEach mine fun u x => u.ladderStep x.head x.sa).revolutionDone h).showLoad

/-- A sequencer command other than a STEP runs on the head, or its head rests: nothing is read (R219, log entry 158). -/
def State.headRests (s : State) (h : Nat) : Bool := [sqParked, sqHold, sqFault, sqExported].contains (s.seqState h)
def State.headAway (s : State) (h : Nat) : Bool :=
  let q := s.seq h
  (decide (q.op ≠ 0) && decide (q.op ≠ 5) && decide (q.op ≠ 9)) || s.headRests h

/-- A read that has begun, or the re-read of a revolution step, is aborted as its head leaves the band; a head that comes to
rest has no read under way (R219, log entry 158). -/
def State.abortGo (s : State) (h : Nat) : State :=
  let mine := s.pool.settings.filter fun x => decide (x.head = h)
  let open_ (x : SettingRd) : Bool := (decide (x.step = .reading) || decide (x.step = .l1)) && decide (x.slots ≠ []) &&
    (List.range 72).any fun c => decide ((x.slot c).st = .open) && !s.cwOut h x.sa c
  let begun := s.pool.gathers.any (fun g => decide (g.head = h)) || mine.any open_ || mine.any fun x => decide (x.step = .rev)
  let waits := s.pool.wants.any fun r => decide (r.head = h) && r.on
  if (s.headAway h && begun) || (s.headRests h && waits) then s.readAborted h else s

/-- Every head's reads, as far as some are under way. -/
def State.abortsGo (s : State) : State :=
  if s.pool.settings.isEmpty && s.pool.gathers.isEmpty && s.pool.wants.isEmpty then s
  else s.forEach (List.range 33) fun u h => u.abortGo h

/-- BAND_CONFIG_APPLY (R217): written values take effect; a head that leaves reading service takes its
settings to step 8. -/
def execBandConfigApply (h : HeadIx) (s : State) : Res :=
  let (out, t) := s.bandApply h.val
  done (if out then t.headOut h.val else t)

/-! Tags and reconstruction (R245-R248) -/

/-- Media crypto has checked a tag (R536). -/
def State.tagChecked (s : State) (ok : Bool) : State :=
  let t := s.count mediacryptPage MEDIACRYPT.DEC_BLOCKS
  if ok then t else (t.count mediacryptPage MEDIACRYPT.TAG_FAIL).istat mediacryptPage 10

/-- GCM_VERIFY_DONE (R248): a data block's tag verifies and the block is released, or it goes to L7; a
failure after an outer result is a security event. It waits for the block's load key (R519). -/
def State.gcmVerified (s : State) (h sa blk : Nat) : State :=
  match s.setting h sa with
  | none => s
  | some x =>
    let k := blk
    if x.blocks.getD k 0 ≠ 1 then s
    else
    match s.blockTag (x.header k) (x.payload k) with
    | (none, s) => s
    | (some true, s) => ((s.tagChecked true).release x k x.top (x.payload k) (x.header k)).settingEnd (x.setBlock k 3)
    | (some false, s) =>
      let s := s.tagChecked false
      let checked := decide (x.step = .blocks) && (decide (x.outer ≠ 0) || x.cfg.outerCheck)
      let t := if checked then
          ((s.count outerPage OUTER.GCM_FAIL).istat outerPage 11).event outerPage 0x4109 7 0xFF (blockPba sa k)
        else s
      let (t, y) := t.toL7 x k
      if y.blocks.getD k 0 = 4 then t else (t.putSetting y)

end Sys2Proof.Machine
end

