-- ==== Sys2Proof/Machine/Wheels.lean ====
section
/-!
DEFINITION. The commutation engine (R323-R355): steps, crossings, the current loop, speed, starts, rotor
loss, stopping and rest, comparators, shadow tracking, ownership of a wheel.
-/
namespace Sys2Proof.Machine

/-- A wheel at reset. -/
def WheelSt.off : WheelSt :=
  { ivals := [], base := 0, recent := [], empties := 0, missU := 0, missV := 0, missW := 0, episode := false, caught := false,
    regained := 0, tries := 0, brakeFor := .stop, hold := false, stopping := false, stopPending := false, stopAfter := false,
    taking := false, coasting := false, release := false, armed := false, relWait := false, atComm := .none, sum := 0, trips := [],
    commT := 0, olStart := 0, good := 0, sense := none, nref := 0, devs := [], steps := 0, startAt := none, given := none,
    shadowRun := 0, shadowEmpty := 0, shadowLast := none, phaseAt := 0, window := false, within := none, relAt := 0, ownAt := 0,
    clampAt := 0 }

/-- Wheel w. -/
def State.wheel (s : State) (w : Nat) : WheelSt := storeFind (fun _ => WheelSt.off) s.wheels w

/-- Set wheel w. -/
def State.setWheel (s : State) (w : Nat) (x : WheelSt) : State :=
  { s with wheels := storePut (fun _ => WheelSt.off) s.wheels w x }

/-- States of R335. -/
def whOff : Nat := 0
def whMeasuring : Nat := 1
def whBraking : Nat := 2
def whChecking : Nat := 3
def whAligning : Nat := 4
def whOpenLoop : Nat := 5
def whRunning : Nat := 6
def whFlywheel : Nat := 7
def whCoasting : Nat := 8
def whRest : Nat := 9
def whFault : Nat := 10
def whShadow : Nat := 11
def whConflict : Nat := 12

/-- State of a wheel. -/
def State.whState (s : State) (w : Nat) : Nat := s.fld (wheelPage w) WHEEL.WH_STAT_STATE

/-- The heads of a wheel (R18). -/
def wheelHeads (w : Nat) : List Nat := if w = 8 then [32] else [4 * w, 4 * w + 1, 4 * w + 2, 4 * w + 3]

/-- Set the state of a wheel; at rest is state 9 or a fault with rest confirmed. With the rotor no longer followed, heads that
fire stop at once (R272). -/
def State.setWhState (s : State) (w n : Nat) : State :=
  let t := (s.setFld (wheelPage w) WHEEL.WH_STAT_STATE n).setWheel w { s.wheel w with phaseAt := s.now, window := false }
  let t := if n = whRunning ∨ n = whFlywheel ∨ n = whShadow then t else t.forEach (wheelHeads w) State.dropFiring
  let t := if n = whRest ∨ n = whFault then t else t.setFlag (wheelPage w) WHEEL.WH_STAT_REST_OK false
  let t := if n = whRest ∨ n = whFault then t.forEach (wheelHeads w) State.headGone else t
  t.forEach (wheelHeads w) fun u h => u.refreshHead h

/-- The phases of a step that are driven high and low (R326). -/
def stepPhases (step : Nat) : Nat × Nat :=
  match step % 6 with
  | 0 => (0, 1) | 1 => (0, 2) | 2 => (1, 2) | 3 => (1, 0) | 4 => (2, 0) | _ => (2, 1)

/-- The gates of a step at a duty in 2^-12 (R326, R327): a negative one swaps the roles of the two phases. -/
def stepGates (step : Nat) (duty : Int) : Gates :=
  let (hi, lo) := if 0 ≤ duty then stepPhases step else ((stepPhases step).2, (stepPhases step).1)
  let d (p : Nat) : PhaseDrive := if p = hi then .pwm duty.natAbs else if p = lo then .low else .off
  { u := d 0, v := d 1, w := d 2 }

/-- SPw_OWN is asserted, and t_OWN_SW has passed since (R32, R327). -/
def State.ownSettled (s : State) (w : Nat) : Bool :=
  s.flag (wheelPage w) WHEEL.WH_STAT_OWN_OUT && decide ((s.wheel w).ownAt + 5000 ≤ s.now)

/-- The wheel is driven in six steps: aligning, open-loop start, running, flywheeling (R335). -/
def State.sixStep (s : State) (w : Nat) : Bool :=
  s.ownSettled w && List.contains [whAligning, whOpenLoop, whRunning, whFlywheel] (s.whState w)

/-- A fault that keeps the low sides on (R345). -/
def State.faultBrakes (s : State) (w : Nat) : Bool := List.contains [1, 4, 6] (s.fld (wheelPage w) WHEEL.WH_STAT_FAULT_CAUSE)

/-- Gate outputs by state (R327, R335, R344, R345): off while SPw_OWN is deasserted and for t_OWN_SW after it is asserted. -/
def State.gates (s : State) (w : Nat) : Gates :=
  let b := wheelPage w
  if !s.ownSettled w then .off
  else match s.whState w with
    | 2 => .lowSides
    | 4 => stepGates 5 (s.fldS b WHEEL.DUTY_NOW)
    | 5 | 6 | 7 => stepGates (s.fld b WHEEL.WH_STAT_STEP) (s.fldS b WHEEL.DUTY_NOW)
    | 9 => if (s.wheel w).release then .off else .lowSides
    | 10 => if s.faultBrakes w && !(s.wheel w).window then .lowSides else .off
    | _ => .off

/-- SPw_OWN rises (R327). -/
def State.assertOwn (s : State) (w : Nat) : State :=
  (s.setFlag (wheelPage w) WHEEL.WH_STAT_OWN_OUT true).setWheel w { s.wheel w with ownAt := s.now }

/-- The wheel has been in its state, or in its rest window, for a time in ns. -/
def State.whFor (s : State) (w ns : Nat) : Bool := decide ((s.wheel w).phaseAt + ns ≤ s.now)

/-- The length of a rest window in ns (R337). -/
def State.restWin (s : State) (w : Nat) : Nat := 10000000 * s.cfgIn (wheelPage w) WHEEL.START_CFG_REST_WIN 9 100

/-- Whether this controller owns a wheel: SPw_OWN asserted and SPw_OWNX deasserted (R344). -/
def State.whOwns (s : State) (w : Nat) : Bool :=
  s.flag (wheelPage w) WHEEL.WH_STAT_OWN_OUT && !s.flag (wheelPage w) WHEEL.WH_STAT_OWNX_IN

/-- WH_RESULT (R355); a start reads operation 0. -/
def State.whResult (s : State) (w op code : Nat) : State :=
  (s.setFld (wheelPage w) WHEEL.WH_RESULT_OP op).setFld (wheelPage w) WHEEL.WH_RESULT_CODE code

/-- The heads of the wheel are parked by their sequencers (R311). -/
def State.parkHeads (s : State) (w : Nat) : State := s.forEach (wheelHeads w) fun u h => u.seqCmd h 8 0

/-- A head reports parked: STATUS.FLAGS bit 2 (R155). -/
def State.headParked (s : State) (h : Nat) : Bool := s.fldBit (headPage h) HEAD.COMP_STAT 26

/-! Speed (R330-R333) -/

/-- N in 0.1 rpm from the intervals held: 60 / (24 T̄) (R331). -/
def speedOf (ivals : List Nat) : Nat := if ivals.sum = 0 then 0 else 25000000000 * ivals.length / ivals.sum

/-- T̄ in ns. -/
def meanInterval (ivals : List Nat) : Nat := if ivals.isEmpty then 0 else ivals.sum / ivals.length

/-- The commanded speed as it acts (R332), in rpm. -/
def State.spdTarget (s : State) (w : Nat) : Nat :=
  let v := s.fld (wheelPage w) WHEEL.SPD_CMD
  if v = 0 then 0 else clampNat 1000 10000 v

/-- Set N_ref, in 10^-4 rpm; SPD_REF shows 0.1 rpm. -/
def State.setNref (s : State) (w n : Nat) : State :=
  (s.setWheel w { s.wheel w with nref := n }).setFld (wheelPage w) WHEEL.SPD_REF (n / 1000)

/-- AT_SPEED clears (R333). -/
def State.clearAtSpeed (s : State) (w : Nat) : State :=
  if s.flag (wheelPage w) WHEEL.WH_STAT_AT_SPEED then
    ((s.setFlag (wheelPage w) WHEEL.WH_STAT_AT_SPEED false).istat (wheelPage w) 9).wheelRdy w
  else s

/-- One update of the ramp (R332): toward `target` in 10^-4 rpm at ACC_RATE or DEC_RATE for 100 µs,
landing exactly on it. -/
def State.rampStep (s : State) (w target : Nat) : Nat :=
  let n := (s.wheel w).nref
  let b := wheelPage w
  if n ≤ target then min target (n + s.cfgIn b WHEEL.RAMP_CFG_ACC_RATE 500 10000)
  else max target (n - s.cfgIn b WHEEL.RAMP_CFG_DEC_RATE 500 10000)

/-- |N - SPD_CMD| in 0.1 rpm is within k times SPD_TOL of SPD_CMD (R333). -/
def State.spdWithin (s : State) (w k : Nat) : Bool :=
  let c := s.spdTarget w
  decide ((s.fldS (wheelPage w) WHEEL.SPD_MEAS_N - 10 * (c : Int)).natAbs * 1000 ≤ k * s.cfgIn (wheelPage w) WHEEL.TOL_CFG_SPD_TOL 1 20 * 10 * c)

/-- A speed as a fraction of 12,000 rpm in Q1.31, from 10^-4 rpm (R307). -/
def spdFraction (n : Int) : Int := n * 2147483648 / 120000000

/-- Begin braking to rest (R337). -/
def State.brakeToRest (s : State) (w : Nat) (why : BrakeFor) (hold : Bool) : State :=
  let x := s.wheel w
  (s.setWheel w { x with brakeFor := why, hold := hold, stopping := false }).setWhState w whBraking

/-- Enter a fault of a wheel (R345): the heads park; the speed slot opens at zero. -/
def State.wheelFault (s : State) (w cause : Nat) : State :=
  let b := wheelPage w
  let t := (s.clearAtSpeed w).setFld b WHEEL.WH_STAT_FAULT_CAUSE cause
  let t := t.setWheel w { t.wheel w with episode := false, stopping := false, stopPending := false, relWait := false, atComm := .none,
                                         coasting := false, release := false, caught := false }
  let t := (t.setFlag b WHEEL.WH_STAT_REST_OK false).setWhState w whFault
  let t := if t.slotMode (slotSpd w) = modeFault then t else t.openAt (slotSpd w) 0
  ((t.istat b 11).parkHeads w).forEach (wheelHeads w) fun u h => u.refreshHead h

/-- The deviation |N - N_ref| enters SPD_DEV: the largest over the last second, in 0.01 % (R355). -/
def State.trackDeviation (s : State) (w : Nat) : State :=
  let x := s.wheel w
  let n := (s.fldS (wheelPage w) WHEEL.SPD_MEAS_N * 1000 - x.nref).natAbs
  let d := if x.nref = 0 then 0 else min 0xFFFF (n * 10000 / x.nref)
  let ds := (x.devs.filter fun p => decide (s.now < p.1 + 1000000000) && decide (d < p.2)) ++ [(s.now, d)]
  (s.setWheel w { x with devs := ds }).setFld (wheelPage w) WHEEL.SPD_DEV ((ds.headD (0, 0)).2)

/-- The speed slot of a wheel on its tick (R307, R296): a stale speed holds u_prev; the output is the
current set-point, clamped to -I_BRK and +I_MAX of I_FS (R328). -/
def State.spdSlot (s : State) (w : Nat) : State :=
  let n := slotSpd w
  let b := wheelPage w
  let st := s.whState w
  if st ≠ whRunning ∧ st ≠ whFlywheel then s
  else if s.slotMode n = modeOff then s
  else
    let t := if s.flag b WHEEL.SPD_MEAS_STALE then (s.count (ceSlot n) CESLOT.MISS_CNT).count ctrlengPage CTRLENG.SAMPLE_MISS
      else (s.slotTrigger n false (spdFraction (s.fldS b WHEEL.SPD_MEAS_N * 1000)) (spdFraction (s.wheel w).nref) 0 none false).2
    let u := if t.slotMode n = modeClosed ∨ t.slotMode n = modeHold then t.slotPrev n else t.slotIdle n
    let u15 := u / 65536
    t.setFldS b WHEEL.CUR_SET (clampInt (-((s.cfgIn b WHEEL.CUR_CFG_I_BRK 10 100 : Int) * 32768 / 100))
      (min 32767 ((s.cfgIn b WHEEL.CUR_CFG_I_MAX 10 100 : Int) * 32768 / 100)) u15)

/-- User slots that run on the CM tick of a wheel (R283, R291). -/
def State.userTick (s : State) (w : Nat) : State :=
  s.forEach ((List.range 18).map (174 + ·)) fun u n =>
    if u.fld (ceSlot n) CESLOT.RATE = 2 ∧ u.fld (ceSlot n) CESLOT.UNIT = w ∧ u.slotMode n ≠ modeOff then
      let k := u.fld (ceSlot n) CESLOT.IN_SRC
      let inp := if 0x40 ≤ k ∧ k < 0x40 + 192 then u.slotPrev (k - 0x40) else 0
      let (y, v) := u.slotTrigger n false inp 0 0 none false
      v.userOut n y
    else u

/-- Publish the measured speed (R331). -/
def State.publishSpeed (s : State) (w : Nat) : State :=
  let x := s.wheel w
  let b := wheelPage w
  let st := s.whState w
  let crossed := (x.recent.filter fun c => c).length
  let stale := decide (crossed < 6) || decide (st = whFlywheel) || decide (st = whCoasting)
  (s.setFldS b WHEEL.SPD_MEAS_N (speedOf x.ivals)).setFlag b WHEEL.SPD_MEAS_STALE stale

/-- The ramp of a tick, and the end of a stop's ramp (R332, R343). -/
def State.rampTick (s : State) (w : Nat) : State :=
  let x := s.wheel w
  let b := wheelPage w
  let st := s.whState w
  if st ≠ whRunning ∧ st ≠ whFlywheel then s
  else
    let low := s.cfgIn b WHEEL.REST_CFG_BRAKE_LOW 10 100 * 100000
    let target := if x.stopping then low else s.spdTarget w * 10000
    let n := s.rampStep w target
    let t := s.setNref w n
    if x.stopping && decide (n = low) && decide (st = whRunning) then t.brakeToRest w .stop true else t

/-- Since when N_ref stands at SPD_CMD with N within SPD_TOL (R333). -/
def State.trackWithin (s : State) (w : Nat) : State :=
  let x := s.wheel w
  let ok := decide (s.whState w = whRunning) && decide (s.spdTarget w ≠ 0) && decide (x.nref = s.spdTarget w * 10000) &&
    !s.flag (wheelPage w) WHEEL.SPD_MEAS_STALE && s.spdWithin w 1
  s.setWheel w { x with within := if ok then some (x.within.getD s.now) else none }

/-- SPEED_TICK (R331, R332), but for the stop of a firing run (R334). What was written to the configuration takes effect (R355). -/
def State.speedTick (s : State) (w : Nat) : State :=
  let t := (((s.applyCfg (wheelPage w)).publishSpeed w).rampTick w).trackWithin w
  let t := if t.whOwns w then (t.spdSlot w).userTick w else t
  let t := if t.flag (wheelPage w) WHEEL.WH_STAT_AT_SPEED && !t.spdWithin w 2 then t.clearAtSpeed w else t
  if t.whState w = whRunning then t.trackDeviation w else t

/-! Steps and crossings (R326, R330) -/

/-- The step whose floating phase shows a transition: its place in the forward order (R326). -/
def stepOf (x : Trans) : Nat :=
  match x.phase.val, x.rising with
  | 2, false => 0
  | 1, true => 1
  | 0, false => 2
  | 2, true => 3
  | 1, false => 4
  | _, _ => 5

/-- The floating phase of a step. -/
def floatPhase (step : Nat) : Nat := match step % 3 with | 0 => 2 | 1 => 1 | _ => 0

/-- The comparator of a phase serves it: its own, or the spare switched to it (R346). -/
def State.phaseUsable (s : State) (w p : Nat) : Bool :=
  let b := wheelPage w
  !s.fldBit b WHEEL.CMP_MAP_FAILED p || (decide (s.fld b WHEEL.CMP_MAP_SPARE_PHASE = p) && !s.fldBit b WHEEL.CMP_MAP_FAILED 3)

/-- Usable comparators of a wheel. -/
def State.phasesUsable (s : State) (w : Nat) : Nat := ((List.range 3).filter fun p => s.phaseUsable w p).length

/-- A time lies within ± ZC_WIN percent of `span` about `mid` (R330). -/
def State.inWindow (s : State) (w mid span t : Nat) : Bool :=
  decide (((t : Int) - mid).natAbs * 100 ≤ s.cfgIn (wheelPage w) WHEEL.TOL_CFG_ZC_WIN 10 40 * span)

/-- Set one phase's count of empty windows. -/
def WheelSt.setMiss (x : WheelSt) (p n : Nat) : WheelSt :=
  if p = 0 then { x with missU := n } else if p = 1 then { x with missV := n } else { x with missW := n }

/-- One phase's count of empty windows. -/
def WheelSt.miss (x : WheelSt) (p : Nat) : Nat := if p = 0 then x.missU else if p = 1 then x.missV else x.missW

/-- Enter running with a current set-point that CM applied itself (R339): the speed slot closes by preset
from it at its next tick, and N_ref starts at N. -/
def State.enterRunning (s : State) (w : Nat) (manual : Int) : State :=
  let n := slotSpd w
  let x := s.wheel w
  let speed := speedOf x.ivals
  let t := s.openAt n manual
  let t := (t.setSlotSt n { t.slotSt n with uPrev := manual }).closeSlow n
  let t := t.setFldS (wheelPage w) WHEEL.SPD_MEAS_N speed
  (t.setNref w (speed * 1000)).setWhState w whRunning

/-- The current loop's sum for zero current at a speed: DUTY_KE × N / 1,000, in 2^-27 (R339). -/
def State.zeroCurrentSum (s : State) (w speed : Nat) : Int := (s.fld (wheelPage w) WHEEL.DUTY_KE * speed / 10000 * 32768 : Nat)

/-- A catch (R339): the step that follows the last crossing. -/
def State.enterCatch (s : State) (w : Nat) (last : Trans) (iv : Nat) : State :=
  let b := wheelPage w
  let x := s.wheel w
  let speed := speedOf [iv]
  let t := s.setWheel w { x with ivals := [iv], base := last.t, recent := [], empties := 0, caught := true, sum := s.zeroCurrentSum w speed,
                                 coasting := false }
  let t := (t.setFld b WHEEL.WH_STAT_STEP ((stepOf last + 1) % 6)).count b WHEEL.CATCH_CNT
  (t.setFlag b WHEEL.WH_STAT_REVERSE false).enterRunning w 0

/-- What transitions show (R337): the direction (forward true) and the last interval, when they are two
or more and follow the order of R326 in one direction. -/
def transDecision (seen : List Trans) : Option (Bool × Nat) :=
  let pairs := seen.zip (seen.drop 1)
  let fwd := pairs.all fun (a, b) => decide (stepOf b = (stepOf a + 1) % 6)
  let rev := pairs.all fun (a, b) => decide (stepOf b = (stepOf a + 5) % 6)
  match pairs.getLast? with
  | none => none
  | some (a, b) => if fwd then some (true, b.t - a.t) else if rev then some (false, b.t - a.t) else none

/-- The catch rule of R337: a forward rotor at or above CATCH_MIN. -/
def State.catchRule (s : State) (w : Nat) (seen : List Trans) : Option (Trans × Nat) :=
  match transDecision seen, seen.getLast? with
  | some (true, iv), some l =>
    if s.cfgIn (wheelPage w) WHEEL.START_CFG_CATCH_MIN 15 100 * 100 ≤ speedOf [iv] then some (l, iv) else none
  | _, _ => none

/-! Starting (R336-R338) -/

/-- CLAMPw_SNS has been high for 100 ms and CLAMPw_REL is deasserted (R336). -/
def State.clampReady (s : State) (w : Nat) : Bool :=
  s.flag (wheelPage w) WHEEL.WH_STAT_CLAMP_SNS && !s.flag (wheelPage w) WHEEL.WH_STAT_REL_OUT &&
  (match (s.wheel w).sense with | some t => decide (t + 100000000 ≤ s.now) | none => false)

/-- Begin measuring (R337). -/
def State.beginMeasuring (s : State) (w : Nat) : State :=
  (s.setWheel w { s.wheel w with coasting := false, stopping := false, episode := false, hold := false }).setWhState w whMeasuring

/-- Start a wheel (R335, R336): refused with result 2 while the clamp is not ready. -/
def State.startWheel (s : State) (w : Nat) : State :=
  if !s.ready ctrlengPage ∨ !s.whOwns w ∨ s.svc.hold then s
  else if !s.clampReady w then s.whResult w 0 2
  else
    let t := s.setWheel w { s.wheel w with tries := 0, startAt := some s.now, stopAfter := false, taking := false }
    (t.beginMeasuring w).whResult w 0 0

/-- Start a wheel in off or at rest when SPD_CMD is not 0 (R335). -/
def State.tryStart (s : State) (w : Nat) : State :=
  if (s.whState w = whOff ∨ s.whState w = whRest) ∧ s.spdTarget w ≠ 0 ∧ s.accepts (wheelPage w) then s.startWheel w else s

/-- A stop of a running wheel (R343): the heads park and N_ref ramps to BRAKE_LOW. -/
def State.stopWheel (s : State) (w : Nat) : State :=
  let t := s.setWheel w { s.wheel w with stopping := true, stopPending := false }
  (t.clearAtSpeed w).parkHeads w

/-- What a written SPD_CMD does (R332, R343, R352). -/
def State.spdWritten (s : State) (w : Nat) : State :=
  let x := s.wheel w
  let st := s.whState w
  if s.spdTarget w = 0 then
    if st = whRunning then (if x.episode then s.setWheel w { x with stopPending := true } else s.stopWheel w)
    else if st = whFlywheel then s.setWheel w { x with stopPending := true }
    else if st = whCoasting then
      if x.coasting then (s.setWheel w { x with stopAfter := true, taking := false }).beginMeasuring w
      else s.setWheel w { x with stopPending := true }
    else if st = whMeasuring ∨ st = whAligning ∨ st = whOpenLoop then (s.parkHeads w).brakeToRest w .stop false
    else if st = whBraking ∨ st = whChecking then s.setWheel w { x with brakeFor := .stop }
    else s
  else
    if st = whOff ∨ st = whRest then s.startWheel w
    else if st = whRunning ∧ x.stopping then s.setWheel w { x with stopping := false }
    else if (st = whBraking ∨ st = whChecking) ∧ x.brakeFor = .stop then s.startWheel w
    else if st = whCoasting ∧ x.coasting then s.startWheel w
    else if x.stopPending then s.setWheel w { x with stopPending := false }
    else if st = whMeasuring ∧ x.stopAfter then s.setWheel w { x with stopAfter := false }
    else s

/-- LAST_START (R337). -/
def State.lastStart (s : State) (w kind : Nat) (rpm : Int) : State :=
  (s.setFld (wheelPage w) WHEEL.LAST_START_KIND kind).setFldS (wheelPage w) WHEEL.LAST_START_SPEED rpm

/-- A take without a planned release sets SPD_CMD to the speed found, in whole rpm (R350). -/
def State.takeSpeed (s : State) (w speed : Nat) : State :=
  s.setFld (wheelPage w) WHEEL.SPD_CMD (if speed = 0 then 0 else clampNat 1000 10000 (speed / 10))

/-- The measuring of a wheel ends: it is caught, or brought to rest (R337, R343, R350). -/
def State.measured (s : State) (n : Nat) (seen : List Trans) : State :=
  let x := s.wheel n
  let dec := transDecision seen
  let rpm : Int := match dec with
    | some (true, iv) => speedOf [iv] / 10
    | some (false, iv) => -((speedOf [iv] / 10 : Nat) : Int)
    | none => 0
  let rev := match dec with | some (false, _) => true | _ => false
  let s1 := s.setFlag (wheelPage n) WHEEL.WH_STAT_REVERSE rev
  match s.catchRule n seen with
  | some (l, iv) =>
    let t := s1.lastStart n 1 rpm
    let t := if x.taking then t.takeSpeed n (speedOf [iv]) else t
    let t := t.setWheel n { t.wheel n with taking := false, stopAfter := false }
    let t := t.enterCatch n l iv
    if x.stopAfter then t.stopWheel n else t
  | none =>
    let kind := match dec with
      | some (false, _) => 2
      | some (true, _) => 3
      | none => if seen.isEmpty then 4 else 3
    let t := s1.lastStart n kind rpm
    let t := if dec.isSome then t.event (wheelPage n) 0x7204 2 else t
    let t := if x.taking then t.takeSpeed n 0 else t
    let stop := x.stopAfter || x.taking
    let t := t.setWheel n { t.wheel n with taking := false, stopAfter := false }
    t.brakeToRest n (if stop then .stop else .start) false

/-- MEASURING_END (R337, R343, R350): measuring ends at the third transition or at MEAS_T. -/
def execMeasuringEnd (w : WheelIx) (seen : List Trans) (s : State) : Res :=
  let n := w.val
  let over_ := decide (3 ≤ seen.length) || s.whFor n (1000000 * s.cfgIn (wheelPage n) WHEEL.START_CFG_MEAS_T 5 20)
  if s.whState n ≠ whMeasuring ∨ !over_ then done s
  else done (s.measured n (seen.take 3))

/-- BRAKE_ON_EXPIRY (R337, R345): after BRK_ON a rest window with all phases floating starts, in a fault that brakes as in brake to
rest. -/
def execBrakeOnExpiry (w : WheelIx) (s : State) : Res :=
  let n := w.val
  let x := s.wheel n
  if !s.whFor n (1000000 * s.cfgIn (wheelPage n) WHEEL.START_CFG_BRK_ON 10 255) then done s
  else if s.whState n = whBraking ∧ !x.hold then done (s.setWhState n whChecking)
  else if s.whState n = whFault ∧ s.faultBrakes n ∧ !x.window then done (s.setWheel n { x with window := true, phaseAt := s.now })
  else done s

/-- BRAKE_HOLD_EXPIRY (R343): the wheel continues with brake to rest. -/
def execBrakeHoldExpiry (w : WheelIx) (s : State) : Res :=
  if s.whState w.val = whBraking ∧ (s.wheel w.val).hold ∧ s.whFor w.val (10000000 * s.cfgIn (wheelPage w.val) WHEEL.REST_CFG_BRAKE_HOLD 1 255) then
    done ((s.setWheel w.val { s.wheel w.val with hold := false }).setWhState w.val whChecking)
  else done s

/-- Rest is confirmed (R343, R345). -/
def State.restConfirmed (s : State) (w : Nat) : State :=
  let t := s.setFldS (wheelPage w) WHEEL.SPD_MEAS_N 0
  let t := (t.setWheel w { t.wheel w with ivals := [], recent := [], nref := 0, steps := t.wheel w |>.steps }).setFld (wheelPage w) WHEEL.SPD_REF 0
  (t.setFlag (wheelPage w) WHEEL.WH_STAT_REST_OK true).istat (wheelPage w) 12

/-- The twin that holds the loader hears the result of a RELEASE, and that a CLAMP ends it (R370, R541; log entry 165). -/
def State.relConf (s : State) (w code : Nat) : State :=
  if s.flag loaderPage LOADER.LD_STAT_OWN_OUT then s else s.tSend clsFire (.releaseConf w code)

/-- REST_WINDOW_END (R337, R343-R345): without a transition rest is confirmed. -/
def execRestWindowEnd (w : WheelIx) (seen : Nat) (s : State) : Res :=
  let n := w.val
  let x := s.wheel n
  let st := s.whState n
  if !s.whFor n (s.restWin n) then done s
  else if st = whChecking then
    if seen ≠ 0 then done (s.setWhState n whBraking)
    else match x.brakeFor with
      | .start => done ((s.setFld (wheelPage n) WHEEL.WH_STAT_STEP 5).setWhState n whAligning)
      | .stop => done ((s.setWhState n whRest).restConfirmed n)
  else if st = whRest ∧ x.release then
    let t := s.setWheel n { x with release := false }
    if seen ≠ 0 then done (((t.brakeToRest n .stop false).whResult n 1 3).relConf n 3)
    else if t.whOwns n && (wheelHeads n).all (fun h => t.headParked h) then
      done (((t.setFlag (wheelPage n) WHEEL.WH_STAT_REL_OUT true).whResult n 1 0).relConf n 0)
    else done ((t.whResult n 1 3).relConf n 3)
  else if st = whFault ∧ (x.window ∨ !s.faultBrakes n) then
    let t := s.setWheel n { x with window := false, phaseAt := s.now }
    done (if seen = 0 then t.restConfirmed n else t)
  else done s

/-- ALIGN_END (R338): the open loop steps forward from step 0. -/
def execAlignEnd (w : WheelIx) (t : Nat) (s : State) : Res :=
  if s.whState w.val = whAligning ∧ s.whFor w.val (10000000 * s.cfgIn (wheelPage w.val) WHEEL.ALIGN_CFG_ALIGN_T 5 100) then
    let u := s.setWheel w.val { s.wheel w.val with olStart := t, commT := t, good := 0, ivals := [], recent := [] }
    done ((u.setFld (wheelPage w.val) WHEEL.WH_STAT_STEP 0).setWhState w.val whOpenLoop)
  else done s

/-- Twice HANDOFF / OL_RATE, in ns (R338). -/
def State.olLimit (s : State) (w : Nat) : Nat :=
  let b := wheelPage w
  2 * (s.cfgIn b WHEEL.ALIGN_CFG_HANDOFF 20 100 * 10) * 1000000000 / (s.cfgIn b WHEEL.ALIGN_CFG_OL_RATE 5 100 * 100)

/-- OPEN_LOOP_TIMEOUT (R338): HANDOFF is not reached in time; the third failed attempt is fault 2. -/
def execOpenLoopTimeout (w : WheelIx) (s : State) : Res :=
  if s.whState w.val ≠ whOpenLoop ∨ !s.whFor w.val (s.olLimit w.val) then done s
  else
    let n := (s.wheel w.val).tries + 1
    let t := s.setWheel w.val { s.wheel w.val with tries := n }
    if 3 ≤ n then done ((t.wheelFault w.val 2).event (wheelPage w.val) 0x720B 5) else done (t.beginMeasuring w.val)

/-- Forced speed of an open-loop start at a time, in 0.1 rpm (R338). -/
def State.olSpeed (s : State) (w t : Nat) : Nat :=
  s.cfgIn (wheelPage w) WHEEL.ALIGN_CFG_OL_RATE 5 100 * 1000 * (t - (s.wheel w).olStart) / 1000000000

/-- Forced step interval at a time, in ns. -/
def State.olInterval (s : State) (w t : Nat) : Nat :=
  let v := s.olSpeed w t
  if v = 0 then 1000000000 else 25000000000 / v

/-! Rotor-loss episodes (R340-R342) -/

/-- An episode begins (R340, R333). -/
def State.beginEpisode (s : State) (w : Nat) : State :=
  let b := wheelPage w
  let t := s.setWheel w { s.wheel w with episode := true }
  let t := ((t.count b WHEEL.FLY_EVENTS).istat b 10).setFlag b WHEEL.WH_STAT_ROTOR_UNSURE true
  t.clearAtSpeed w

/-- Turn the gates off and coast (R340, R341). -/
def State.enterCoast (s : State) (w : Nat) : State := s.setWhState w whCoasting

/-- Gates off, SPw_OWN deasserted, the wheel in shadow (R349); the SPD slot's record is exported. -/
def State.releaseWheel (s : State) (w : Nat) : State :=
  let b := wheelPage w
  let t := (s.writeExportSpd w).setMode (slotSpd w) modeHold
  let t := (t.setFlag b WHEEL.WH_STAT_OWN_OUT false).setFlag b WHEEL.WH_STAT_REL_OUT false
  let t := t.setWheel w { t.wheel w with episode := false, relWait := false, atComm := .none, stopping := false, shadowRun := 0, shadowEmpty := 0,
                                         shadowLast := none, caught := false }
  let t := (t.clearAtSpeed w).setFlag b WHEEL.WH_STAT_SHADOW_VALID false
  (t.setWhState w whShadow).whResult w 4 0

/-- An episode ends with the rotor regained: a waiting stop or release takes effect (R343, R349). -/
def State.endEpisode (s : State) (w how : Nat) : State :=
  let x := s.wheel w
  let t := s.setWheel w { x with episode := false, regained := how, caught := false }
  let t := if x.relWait then t.setWheel w { t.wheel w with relWait := false, atComm := .release } else t
  let t := t.setFld (wheelPage w) WHEEL.WH_STAT_CATCH_FAILS 0
  if x.stopPending then t.stopWheel w else t

/-- A failed catch (R341): coast again, or fault 1 with the CATCH_TRIES-th. -/
def State.catchFailed (s : State) (w : Nat) : State :=
  let b := wheelPage w
  let n := s.fld b WHEEL.WH_STAT_CATCH_FAILS + 1
  let t := s.setFld b WHEEL.WH_STAT_CATCH_FAILS (min 7 n)
  let t := t.setWheel w { t.wheel w with caught := false }
  if s.cfgIn b WHEEL.TOL_CFG_CATCH_TRIES 1 7 ≤ n then (t.wheelFault w 1).event b 0x7203 5 else t.enterCoast w

/-- A crossing of a running or flywheeling wheel in its window (R330, R340). -/
def State.crossing (s : State) (w : Nat) (x : Trans) : State :=
  let y := s.wheel w
  let st := s.whState w
  let iv := x.t - y.base
  let y' := { y with ivals := (y.ivals ++ [iv]).drop (y.ivals.length + 1 - 6), base := x.t, recent := (y.recent ++ [true]).drop (y.recent.length + 1 - 12),
                     empties := 0 }
  let t := s.setWheel w (y'.setMiss x.phase.val 0)
  if st = whFlywheel then (t.setWhState w whRunning).endEpisode w 1
  else if y.caught then (if y.episode then t.endEpisode w 2 else t.setWheel w { t.wheel w with caught := false })
  else t

/-- A transition that CM takes as a crossing (R330): the high side is on and BLANK_T has passed since the last gate edge; FILT_N
samples at 200 MHz agree. -/
def State.transTaken (s : State) (w : Nat) (x : Trans) : Bool :=
  let b := wheelPage w
  x.highOn && decide (5 * s.cfg b WHEEL.PWM_CFG_BLANK_T ≤ x.edge) && decide (5 * s.cfgIn b WHEEL.PWM_CFG_FILT_N 1 15 ≤ x.hold)

/-- A wheel that coasts after COAST: its speed is measured from the floating phases (R352). -/
def State.coastCrossing (s : State) (n : Nat) (x : Trans) : State :=
  let y := s.wheel n
  let follows := decide (stepOf x = s.fld (wheelPage n) WHEEL.WH_STAT_STEP)
  let iv := if follows then (y.ivals ++ [x.t - y.base]).drop (y.ivals.length + 1 - 6) else []
  (s.setWheel n { y with ivals := iv, base := x.t }).setFld (wheelPage n) WHEEL.WH_STAT_STEP ((stepOf x + 1) % 6)

/-- ZERO_CROSSING (R330, R338, R352). -/
def execZeroCrossing (w : WheelIx) (x : Trans) (s : State) : Res :=
  let n := w.val
  let st := s.whState n
  let y := s.wheel n
  let step := s.fld (wheelPage n) WHEEL.WH_STAT_STEP
  if st = whCoasting ∧ y.coasting then done (s.coastCrossing n x)
  else if stepOf x ≠ step ∨ !s.phaseUsable n x.phase.val ∨ !s.transTaken n x then done s
  else if st = whRunning ∨ st = whFlywheel then
    let m := meanInterval y.ivals
    if s.inWindow n (y.base + m) m x.t then done (s.crossing n x) else done s
  else if st = whOpenLoop then
    let f := s.olInterval n y.commT
    let fast := decide (s.cfgIn (wheelPage n) WHEEL.ALIGN_CFG_HANDOFF 20 100 * 100 ≤ s.olSpeed n y.commT)
    if s.inWindow n (y.commT + f / 2) f x.t && fast then
      let good := y.good + 1
      let iv := if y.good = 0 then y.ivals else y.ivals ++ [x.t - y.base]
      let t := s.setWheel n { y with good := good, base := x.t, ivals := iv }
      if 3 ≤ good then
        let sp := speedOf iv
        let t := t.setWheel n { t.wheel n with sum := t.zeroCurrentSum n sp, recent := [true, true, true], empties := 0 }
        done (t.enterRunning n ((s.cfgIn (wheelPage n) WHEEL.ALIGN_CFG_ALIGN_I 5 100 : Int) * 2147483647 / 100))
      else done t
    else done (s.setWheel n { y with good := 0, ivals := [] })
  else done s

/-- A commutation is due at a time (R330, R338): half of T̄ after the last crossing, or the predicted one; in the open loop one
forced interval after the last. -/
def State.commDue (s : State) (w t : Nat) : Bool :=
  let x := s.wheel w
  if s.whState w = whOpenLoop then decide (x.commT + s.olInterval w x.commT ≤ t)
  else
    let due := x.base + meanInterval x.ivals / 2
    decide (x.commT < due) && decide (due ≤ t)

/-- COMMUTATION (R326, R330, R349, R352): the next step; REV_K counts thousands of revolutions of 24
steps. -/
def execCommutation (w : WheelIx) (t : Nat) (s : State) : Res :=
  let n := w.val
  let st := s.whState n
  let b := wheelPage n
  if (st ≠ whRunning ∧ st ≠ whFlywheel ∧ st ≠ whOpenLoop) ∨ !s.commDue n t then done s
  else
    let x := s.wheel n
    match x.atComm with
    | .release => done (s.releaseWheel n)
    | .coast => done ((s.setWheel n { x with atComm := .none, coasting := true, episode := false }).setWhState n whCoasting)
    | .none =>
      let u := s.setFld b WHEEL.WH_STAT_STEP ((s.fld b WHEEL.WH_STAT_STEP + 1) % 6)
      let k := x.steps + 1
      let u := u.setWheel n { x with commT := t, steps := k % 24000 }
      done (if 24000 ≤ k then u.count b WHEEL.REV_K else u)

/-- The time at which the window of the next crossing closes (R330, R338). -/
def State.windowEnd (s : State) (w : Nat) : Nat :=
  let x := s.wheel w
  let win := s.cfgIn (wheelPage w) WHEEL.TOL_CFG_ZC_WIN 10 40
  if s.whState w = whOpenLoop then
    let f := s.olInterval w x.commT
    x.commT + f / 2 + win * f / 100
  else
    let m := meanInterval x.ivals
    x.base + m + win * m / 100

/-- CROSSING_WINDOW_EMPTY (R338, R340, R341, R346-R348): at time t the window has closed without a crossing. -/
def execCrossingWindowEmpty (w : WheelAt) (s : State) : Res :=
  let t := w.t
  let w := w.wheel
  let n := w.val
  let b := wheelPage n
  let x := s.wheel n
  let st := s.whState n
  let p := floatPhase (s.fld b WHEEL.WH_STAT_STEP)
  if t < s.windowEnd n then done s
  else if st = whRunning ∨ st = whFlywheel then
    let y := { x with base := x.base + meanInterval x.ivals, recent := (x.recent ++ [false]).drop (x.recent.length + 1 - 12) }
    if !s.phaseUsable n p then done (s.setWheel n y)
    else
      let y := (y.setMiss p (x.miss p + 1))
      let t := (s.setWheel n { y with empties := x.empties + 1 }).count b WHEEL.ZC_MISS
      if x.caught then
        let t := if x.episode then t else t.beginEpisode n
        done (t.catchFailed n)
      else
        let t := if st = whRunning then (if x.episode then t else t.beginEpisode n).setWhState n whFlywheel else t
        done (if s.cfgIn b WHEEL.TOL_CFG_FLY_STEPS 1 12 ≤ x.empties + 1 then t.enterCoast n else t)
  else if st = whOpenLoop then done (s.setWheel n { x with good := 0, ivals := [] })
  else if st = whShadow ∨ st = whConflict then
    let k := x.shadowEmpty + 1
    let t := s.setWheel n { x with shadowEmpty := k, shadowRun := if 2 ≤ k then 0 else x.shadowRun, base := x.base + meanInterval x.ivals }
    done (if 2 ≤ k then t.setFlag b WHEEL.WH_STAT_SHADOW_VALID false else t)
  else done s

/-- COAST_END (R341): after two electrical periods at the last T̄ the catch rule applies to the coast's transitions. After a
COAST command the wheel is not caught (R352). -/
def execCoastEnd (w : WheelIx) (seen : List Trans) (s : State) : Res :=
  let n := w.val
  let x := s.wheel n
  if s.whState n ≠ whCoasting ∨ x.coasting ∨ !s.whFor n (12 * meanInterval x.ivals) then done s
  else match s.catchRule n seen with
    | some (l, iv) => done (s.enterCatch n l iv)
    | none => done (s.catchFailed n)

/-- A wheel is at speed: its status, what it reports and its speed constant (R333, R339, R354). -/
def State.reachSpeed (s : State) (n : Nat) : State :=
  let b := wheelPage n
  let x := s.wheel n
  let t := ((s.setFlag b WHEEL.WH_STAT_AT_SPEED true).istat b 8).wheelRdy n
  let t := t.setFlag b WHEEL.WH_STAT_ROTOR_UNSURE false
  let t := if x.regained = 1 then t.event b 0x7201 2 else if x.regained = 2 then t.event b 0x7202 3 else t
  let t := match x.startAt with
    | some a =>
      let ms := (s.now - a) / 1000000
      let t := t.setFld b WHEEL.T_ATSPEED (min 0xFFFF ms)
      if 3000 < ms then t.event b 0x720A 3 else t
    | none => t
  let speed := s.fld b WHEEL.SPD_MEAS_N
  let t := if (s.fldS b WHEEL.CUR_MEAS).natAbs * 10 < 32768 ∧ 0 < speed then
      t.setFld b WHEEL.DUTY_KE ((s.fldS b WHEEL.DUTY_NOW).natAbs * 10000 / speed) else t
  t.setWheel n { t.wheel n with regained := 0, startAt := none }

/-- AT_SPEED_SET (R333, R339, R342, R354): N has stayed within SPD_TOL for SPD_SETTLE. -/
def execAtSpeedSet (w : WheelIx) (s : State) : Res :=
  let n := w.val
  let b := wheelPage n
  let x := s.wheel n
  let settled := match x.within with
    | some a => decide (a + 1000000 * s.cfgIn b WHEEL.TOL_CFG_SPD_SETTLE 1 255 ≤ s.now)
    | none => false
  if s.whState n ≠ whRunning ∨ s.spdTarget n = 0 ∨ x.stopping ∨ x.nref ≠ s.spdTarget n * 10000 ∨ s.flag b WHEEL.SPD_MEAS_STALE ∨ !s.spdWithin n 1 ∨
     !settled then
    done s
  else done (s.reachSpeed n)

/-! The current loop (R328, R329) -/

/-- The current loop of a wheel whose gates are driven (R328). -/
def State.currentLoop (s : State) (n : Nat) (meas : Int) : State :=
  let b := wheelPage n
  let st := s.whState n
  let x := s.wheel n
  -- a stale set-point is held at zero torque demand (R44); that of ALIGN is CM's own
  let cur : Int := if s.xingStale 57 58 n then 0 else s.fldS b WHEEL.CUR_SET
  let set : Int := if st = whAligning ∨ st = whOpenLoop then (s.cfgIn b WHEEL.ALIGN_CFG_ALIGN_I 5 100 : Int) * 32768 / 100 else cur
  let e := set - meas
  let lim : Int := ((s.cfgIn b WHEEL.PWM_CFG_DUTY_MAX 50 98 * 4096 / 100 : Nat) : Int) * 32768
  let sum := x.sum + (s.cfg b WHEEL.CUR_LOOP_CUR_KI : Int) * e
  let d := (s.cfg b WHEEL.CUR_LOOP_CUR_KP : Int) * e + sum
  let d' := clampInt (-lim) lim d
  let held := (decide (lim < d) && decide (0 < e)) || (decide (d < -lim) && decide (e < 0))
  let t := s.setWheel n { x with sum := if held then x.sum else sum }
  t.setFldS b WHEEL.DUTY_NOW (d' / 32768)

/-- CURRENT_SAMPLE (R328): the measured current, the sum and the duty, each in the units of R355. -/
def execCurrentSample (w : WheelIx) (code : Fin 4096) (s : State) : Res :=
  let n := w.val
  let b := wheelPage n
  let meas : Int := clampInt (-32768) 32767 (((code.val : Int) - 2048) * 32768 / 2047)
  let t := s.setFldS b WHEEL.CUR_MEAS meas
  if !s.sixStep n then done t
  else done (t.currentLoop n meas)

/-- OVERCURRENT_TRIP (R329): a current code OC_TRIP or more from zero; OC_MAX trips within 10 ms are fault 3. -/
def execOvercurrentTrip (w : WheelIx) (t : TripSample) (s : State) : Res :=
  let code := t.code
  let t := t.t
  let n := w.val
  let b := wheelPage n
  let x := s.wheel n
  if ((code.val : Int) - 2048).natAbs < s.cfg b WHEEL.OC_CFG_OC_TRIP then done s else
  let ts := x.trips.filter (fun k => t < k + 10000000) ++ [t]
  let u := (s.setWheel n { x with trips := ts }).count b WHEEL.OC_CNT
  if s.cfgIn b WHEEL.OC_CFG_OC_MAX 1 255 ≤ ts.length ∧ s.sixStep n then
    done (((u.setWheel n { u.wheel n with trips := [] }).wheelFault n 3).event b 0x7207 5)
  else done u

/-! Commands of WH_CMD (R344, R345, R349, R352) -/

/-- RELEASE: a fresh rest window runs; REST_WINDOW_END asserts CLAMPw_REL. -/
def State.cmdRelease (s : State) (w : Nat) : State :=
  if !s.whOwns w then s.whResult w 1 5
  else if !s.flag (wheelPage w) WHEEL.WH_STAT_REST_OK ∨ s.whState w ≠ whRest ∨ !(wheelHeads w).all (fun h => s.headParked h) then s.whResult w 1 3
  else (s.setWheel w { s.wheel w with release := true, phaseAt := s.now }).whResult w 1 1

/-- CLAMP: CLAMPw_REL deasserts. -/
def State.cmdClamp (s : State) (w : Nat) : State :=
  (((s.setWheel w { s.wheel w with release := false, clampAt := s.now }).setFlag (wheelPage w) WHEEL.WH_STAT_REL_OUT false).whResult w 2 0).relConf w 3

/-- CLEAR_FAULT: accepted only at confirmed rest; the wheel is then at rest. -/
def State.cmdClearFault (s : State) (w : Nat) : State :=
  let b := wheelPage w
  if s.whState w ≠ whFault ∨ !s.flag b WHEEL.WH_STAT_REST_OK then s.whResult w 3 3
  else
    let t := (s.setFld b WHEEL.WH_STAT_FAULT_CAUSE 0).setFld b WHEEL.WH_STAT_CATCH_FAILS 0
    (t.setWhState w whRest).whResult w 3 0

/-- HANDOVER_REL. -/
def State.cmdHandoverRel (s : State) (w : Nat) : State :=
  let x := s.wheel w
  let st := s.whState w
  if !s.whOwns w then s.whResult w 4 5
  else if st = whFlywheel ∨ (st = whCoasting ∧ x.episode) ∨ (st = whRunning ∧ x.episode) then
    (s.setWheel w { x with relWait := true, relAt := s.now }).whResult w 4 1
  else if st = whRunning then (s.setWheel w { x with atComm := .release }).whResult w 4 1
  else s.whResult w 4 7

/-- HANDOVER_ARM. -/
def State.cmdHandoverArm (s : State) (w : Nat) : State :=
  if s.flag (wheelPage w) WHEEL.WH_STAT_SHADOW_VALID then (s.setWheel w { s.wheel w with armed := true }).whResult w 5 0
  else s.whResult w 5 4

/-- DISARM. -/
def State.cmdDisarm (s : State) (w : Nat) : State := (s.setWheel w { s.wheel w with armed := false }).whResult w 6 0

/-- COAST. -/
def State.cmdCoast (s : State) (w : Nat) : State :=
  let st := s.whState w
  if !s.whOwns w ∨ (st ≠ whRunning ∧ st ≠ whFlywheel ∧ st ≠ whRest) then s.whResult w 7 5
  else
    let t := ((s.parkHeads w).clearAtSpeed w).whResult w 7 0
    if st = whRest then (t.setWheel w { t.wheel w with coasting := true, episode := false }).setWhState w whCoasting
    else t.setWheel w { t.wheel w with atComm := .coast }

/-- A write of WH_CMD (R355). -/
def State.whCmd (s : State) (w op : Nat) : State :=
  match op with
  | 1 => s.cmdRelease w
  | 2 => s.cmdClamp w
  | 3 => s.cmdClearFault w
  | 4 => s.cmdHandoverRel w
  | 5 => s.cmdHandoverArm w
  | 6 => s.cmdDisarm w
  | 7 => s.cmdCoast w
  | _ => s

/-- HANDOVER_REL_TIMEOUT (R349): the episode has not ended within 100 ms. -/
def execHandoverRelTimeout (w : WheelIx) (s : State) : Res :=
  let x := s.wheel w.val
  if x.relWait ∧ x.episode ∧ x.relAt + 100000000 ≤ s.now then done ((s.setWheel w.val { x with relWait := false }).whResult w.val 4 6) else done s

/-! Clamp sense (R345) -/

/-- CLAMPw_SNS changes, but for what waits on it outside CM. -/
def State.clampSense (s : State) (w : Nat) (high : Bool) : State :=
  let b := wheelPage w
  if s.flag b WHEEL.WH_STAT_CLAMP_SNS = high then s
  else
    let t := (s.setFlag b WHEEL.WH_STAT_CLAMP_SNS high).istat b 14
    if high then t.setWheel w { t.wheel w with sense := some s.now }
    else
      let t := t.setWheel w { t.wheel w with sense := none }
      if t.flag b WHEEL.WH_STAT_OWN_OUT && !t.flag b WHEEL.WH_STAT_REST_OK && decide (t.whState w ≠ whFault) then
        (t.wheelFault w 4).event b 0x7209 5
      else t

/-! Comparators (R346, R347) -/

/-- The condition of R346: three empty windows in a row of the phase while the others cross. -/
def State.comparatorCause (s : State) (w c : Nat) : Bool :=
  let x := s.wheel w
  let p := if c = 3 then s.fld (wheelPage w) WHEEL.CMP_MAP_SPARE_PHASE else c
  (decide (s.whState w = whRunning) || decide (s.whState w = whFlywheel)) && decide (p < 3) && decide (3 ≤ x.miss p) &&
  ((List.range 3).all fun q => q == p || decide (x.miss q = 0))

/-- A comparator fails: the spare serves its phase, or the wheel runs on two comparators; fewer are the
caller's. -/
def State.comparatorFails (s : State) (w c : Nat) : State :=
  let b := wheelPage w
  let t := s.setFldBit b WHEEL.CMP_MAP_FAILED c true
  let p := if c = 3 then s.fld b WHEEL.CMP_MAP_SPARE_PHASE else c
  let t := if p < 3 then t.setWheel w ((t.wheel w).setMiss p 0) else t
  if c < 3 ∧ s.fld b WHEEL.CMP_MAP_SPARE_PHASE = 3 ∧ !s.fldBit b WHEEL.CMP_MAP_FAILED 3 then
    (((t.setFld b WHEEL.CMP_MAP_SPARE_PHASE c).useSpare b).istat b 15).event b 0x7205 3 c
  else if p < 3 then
    let t := t.passUp 7 2 (4 * w + c) false
    if t.phasesUsable w = 2 then (t.worsen b HDR.DEGRADED).event b 0x7206 4 c
    else if t.phasesUsable w < 2 then t.setReady b false else t
  else t.setPg b HDR.SPARES_LEFT (t.fld b HDR.SPARES_LEFT - 1)

/-! Shadow and ownership (R348-R351) -/

/-- A crossing seen in shadow, or in conflict (R348). -/
def State.shadowed (s : State) (n : Nat) (x : Trans) : State :=
  let b := wheelPage n
  let y := s.wheel n
  let m := meanInterval y.ivals
  let follows := match y.shadowLast with
    | some k => decide (stepOf x = (k + 1) % 6) && (y.ivals.isEmpty || s.inWindow n (y.base + m) m x.t)
    | none => false
  let run := if follows then y.shadowRun + 1 else 1
  let iv := if follows then (y.ivals ++ [x.t - y.base]).drop (y.ivals.length + 1 - 6) else []
  let rc := if follows then (y.recent ++ [true]).drop (y.recent.length + 1 - 12) else [true]
  let t := s.setWheel n { y with shadowRun := run, shadowEmpty := 0, shadowLast := some (stepOf x), base := x.t, ivals := iv, recent := rc }
  let t := t.setFld b WHEEL.WH_STAT_STEP ((stepOf x + 1) % 6)
  if 6 ≤ run then t.setFlag b WHEEL.WH_STAT_SHADOW_VALID true else t

/-- SHADOW_CROSSING (R348): a transition whose level then holds for SHADOW_HOLD; six in a row that follow R326 forward within their
windows. -/
def execShadowCrossing (w : WheelIx) (x : Trans) (s : State) : Res :=
  let n := w.val
  if (s.whState n ≠ whShadow ∧ s.whState n ≠ whConflict) ∨ x.hold < 1000 * s.cfgIn (wheelPage n) WHEEL.REST_CFG_SHADOW_HOLD 10 100 then done s
  else done (s.shadowed n x)

/-- Drive the wheel from its shadow (R349, R350): the step that follows the shadow's last commutation,
the current sum preset. -/
def State.driveFromShadow (s : State) (w : Nat) : State :=
  let x := s.wheel w
  let b := wheelPage w
  let sp := speedOf x.ivals
  let t := (s.assertOwn w).setFlag b WHEEL.WH_STAT_SHADOW_VALID false
  let t := t.setWheel w { t.wheel w with armed := false, sum := s.zeroCurrentSum w sp, empties := 0, caught := true, episode := false }
  t.lastStart w 5 (sp / 10)

/-- OWNX_FALL (R349): an armed wheel is taken; SPD_CMD and N_ref come from the EXPORT message. -/
def execOwnxFall (w : WheelIx) (s : State) : Res :=
  let n := w.val
  let b := wheelPage n
  let x := s.wheel n
  let s1 := s.setFlag b WHEEL.WH_STAT_OWNX_IN false
  if !x.armed then done s1
  else
    let t := s1.driveFromShadow n
    let t := match x.given with
      | some (cmd, nref) => (t.setFld b WHEEL.SPD_CMD cmd).setNref n nref
      | none => t
    done ((t.setWheel n { t.wheel n with given := none }).setWhState n whRunning)

/-- UNPLANNED_WHEEL_TAKE (R350). -/
def State.unplannedWheelTake (s : State) (w : Nat) : State :=
  let b := wheelPage w
  if s.flag b WHEEL.WH_STAT_SHADOW_VALID then
    let sp := speedOf (s.wheel w).ivals
    ((s.driveFromShadow w).takeSpeed w sp).enterRunning w 0
  else
    let t := s.assertOwn w
    -- a wheel without a clamped sagger, or held after a bring-up with HOLDUP_N low, does not start (R29, R626)
    if !t.flag b WHEEL.WH_STAT_CLAMP_SNS ∨ t.svc.hold then t.setWhState w whOff else
    let t := t.setWheel w { t.wheel w with taking := true, stopAfter := false, armed := false, tries := 0, startAt := some s.now }
    t.beginMeasuring w

/-- UNPLANNED_WHEEL_TAKE (R350); a chip held in reset drives no wheel (R30). -/
def execUnplannedWheelTake (w : WheelIx) (s : State) : Res :=
  if s.svc.held ≠ .no ∨ s.flag (wheelPage w.val) WHEEL.WH_STAT_OWN_OUT then done s else done (s.unplannedWheelTake w.val)

/-- OWN_CONFLICT (R351): gates off, state conflict, 0x7208. -/
def State.ownConflict (s : State) (w : Nat) : State :=
  let b := wheelPage w
  let t := (s.setFlag b WHEEL.WH_STAT_OWNX_IN true).clearAtSpeed w
  let t := t.setWheel w { t.wheel w with shadowRun := 0, shadowEmpty := 0, shadowLast := none, episode := false, atComm := .none }
  ((t.setWhState w whConflict).istat b 13).event b 0x7208 4

end Sys2Proof.Machine
end

