-- ==== Sys2Proof/Machine/Stripe.lean ====
section
/-!
DEFINITION. Stripes and zones (R378-R391, R402, R406-R408): layout, parity, staging, encoding, members
and lanes, confirmation, reconstruction.
-/
namespace Sys2Proof.Machine

/-! Parity (R379, R407) -/

/-- A member vector: payload, metadata, nonce and tag. -/
def memberVec (h : BlockHeader) (payload : List Nat) : List Nat :=
  ((payload ++ List.replicate 65536 0).take 65536) ++ ((h.metadata ++ List.replicate 256 0).take 256) ++ bytesBE 12 h.nonce ++ bytesBE 16 h.tag

/-- The parts of a member vector: payload, metadata, nonce, tag. -/
def vecPayload (v : List Nat) : List Nat := v.take 65536
def vecMeta (v : List Nat) : List Nat := (v.drop 65536).take 256
def vecNonce (v : List Nat) : Nat := ofBytesBE ((v.drop 65792).take 12)
def vecTag (v : List Nat) : Nat := ofBytesBE ((v.drop 65804).take 16)

/-- XOR of vectors, and a vector times a constant of GF(2^8). -/
def vecXor (x y : List Nat) : List Nat := x.zipWith (fun a b => a ^^^ b) y
def vecScale (c : Nat) (x : List Nat) : List Nat := x.map (gfMul c)
def zeroVec : List Nat := List.replicate 65820 0

/-- P and Q of a stripe's data vectors by member index. -/
def vecP (ds : List (Nat × List Nat)) : List Nat := ds.foldl (fun a d => vecXor a d.2) zeroVec
def vecQ (ds : List (Nat × List Nat)) : List Nat := ds.foldl (fun a d => vecXor a (vecScale (gfPow 2 d.1) d.2)) zeroVec

/-- g^-n. -/
def gPowInv (n : Nat) : Nat := gfInv (gfPow 2 n)

/-- The vector of data member x from what can be read (R407): the other data members, P, Q. -/
def rebuildData (n x : Nat) (ds : List (Nat × List Nat)) (p q : Option (List Nat)) : Option (List Nat) :=
  let others := (List.range n).filter fun d => d != x
  let have_ := ds.filter fun d => others.contains d.1
  let lost := others.filter fun d => !have_.any fun e => decide (e.1 = d)
  match lost, p, q with
  | [], some pv, _ => some (vecXor pv (vecP have_))
  | [], none, some qv => some (vecScale (gPowInv x) (vecXor qv (vecQ have_)))
  | [y], some pv, some qv =>
    let p' := vecXor pv (vecP have_)
    let q' := vecXor qv (vecQ have_)
    -- D of the lower member from P' and Q', the other from P'
    let (lo, hi) := if x < y then (x, y) else (y, x)
    let dlo := vecScale (gfInv (gfPow 2 (hi - lo) ^^^ 1)) (vecXor (vecScale (gfPow 2 (hi - lo)) p') (vecScale (gPowInv lo) q'))
    some (if x < y then dlo else vecXor p' dlo)
  | _, _, _ => none

/-- The vector of any member from those that can be read: data member d < n, n for P, n + 1 for Q. -/
def rebuildMember (n x : Nat) (ds : List (Nat × List Nat)) (p q : Option (List Nat)) : Option (List Nat) :=
  if x < n then rebuildData n x ds p q
  else
    -- P and Q follow from all data members, of which one may be rebuilt from the other parity
    let all := (List.range n).map fun d => match ds.find? fun e => decide (e.1 = d) with
      | some e => some e
      | none => (rebuildData n d ds (if x = n then none else p) (if x = n then q else none)).map fun v => (d, v)
    if all.all Option.isSome then
      let vs := all.filterMap id
      some (if x = n then vecP vs else vecQ vs)
    else none

/-! Zone records and what records say (R402-R405) -/

/-- The body of a zone state record (R402). -/
def zoneBody (load k : Nat) (z : ZoneSt) : List Nat :=
  let st := match z.state with | 0 => 0 | 1 => 1 | 2 => 1 | 3 => 2 | 4 => 3 | 5 => 4 | _ => 5
  let entry (e : WidthEntry) : Nat := e.first + 2 ^ 15 + e.excluded * 2 ^ 16 + boolNat e.narrowed * 2 ^ 19
  bytesBE 8 load ++ bytesBE 4 z.ns ++ bytesBE 2 (k % 300) ++ [k / 300, st] ++ bytesBE 4 (if z.state = 4 then stripesPerZone else z.enc) ++ bytesBE 4 z.gen ++ bytesBE 4 z.pad ++
    bytesBE 4 (boolNat z.mirrorAck + 2 * boolNat z.sealed + 4 * boolNat z.stopped) ++
    ((z.width.map entry ++ [0, 0, 0, 0]).take 4).flatMap (bytesBE 4)

/-! Records that come from elsewhere (R574) -/

/-- A field of a record's body. -/
def bodyAt (b : List Nat) (o n : Nat) : Nat := ofBytesBE ((b.drop o).take n)

/-- The zone that a zone state record describes (R402), on top of what is known of it. -/
def zoneOfBody (old : ZoneSt) (b : List Nat) : ZoneSt :=
  -- a full zone's record gives 32,768: how far it is encoded follows from the journal (R402)
  let full := decide (b.getD 15 0 = 3)
  let enc := if full then old.enc else bodyAt b 16 4
  let ws := ((List.range 4).map fun i => bodyAt b (32 + 4 * i) 4).filter fun w => bitOf w 15
  let width : List WidthEntry := ws.map fun w => { first := w % 2 ^ 15, excluded := w / 2 ^ 16 % 8, narrowed := bitOf w 19 }
  let fl := bodyAt b 28 4
  let narrow := match width with
    | e :: _ => decide (e.first = 0) && e.narrowed
    | [] => false
  { old with
    ns := bodyAt b 8 4, state := (match b.getD 15 0 with | 0 => 0 | 1 => 1 | 2 => 3 | 3 => 4 | 4 => 5 | _ => 6)
    wp := if full then (if narrow then 2621440 else 3145728) else stripeFirstLba width enc, zcap := if narrow then 2621440 else 3145728
    enc := enc, fired := enc, conf := enc, gen := bodyAt b 20 4, pad := bodyAt b 24 4
    mirrorAck := bitOf fl 0, sealed := bitOf fl 1, stopped := bitOf fl 2, width := width }

/-- The sagger at a position of the load that a sagger belongs to; the sagger itself where the catalogue names none. -/
def State.saggerAt (s : State) (serial pos : Nat) : Nat :=
  let c := s.st.cat.saggers
  match c.find? fun g => decide (g.serial = serial) with
  | some o => ((c.find? fun g => decide (g.load = o.load) && decide (g.pos = pos)).map fun g => g.serial).getD serial
  | none => serial

/-- Remap spares of a disc up to and with the n-th of a layer are used (R127). -/
def State.spareTaken (s : State) (disc layer n : Nat) : State :=
  let c := s.st.cat
  let key := 16 * disc + layer
  s.setCat { c with spares := storePut (fun _ => 0) c.spares key (max (storeFind (fun _ => 0) c.spares key) (n + 1)) }

/-- What a record says takes effect in the cache. -/
def State.recordSays (s : State) (r : CatRec) : State :=
  let c := s.st.cat
  let b := r.body
  match r.ty with
  | 1 =>
    let serial := bodyAt b 8 8
    let g : SaggerRec := { serial := serial, load := bodyAt b 0 8, pos := b.getD 16 0xFF, discs := (List.range 4).map fun i => bodyAt b (24 + 8 * i) 8, seq := r.seq }
    if c.saggers.any fun o => decide (o.serial = serial) && decide (r.seq ≤ o.seq) then s
    else s.setCat { c with saggers := (c.saggers.filter fun o => decide (o.serial ≠ serial)) ++ [g] }
  | 2 =>
    let disc := discKeyOf r.serial (r.slot.getD 0)
    let e : Remap := { disc := disc, home := bodyAt b 0 4, spare := bodyAt b 4 4, gen := bodyAt b 8 4, reason := b.getD 12 0, seq := r.seq }
    let t := match spareIndex (saSetting e.spare) with
      | some n => s.spareTaken disc (saLayer e.spare) n
      | none => s
    -- the union of all lists, the highest SEQ for each HOME (R126)
    if c.remaps.any fun o => decide (o.disc = disc) && decide (o.home = e.home) && decide (e.seq ≤ o.seq) then t
    else t.setCat { t.st.cat with remaps := t.st.cat.remaps ++ [e] }
  | 4 =>
    let load := bodyAt b 0 8
    let newer (x : CatRec) : Bool := decide (x.ty = 4) && decide (r.seq < x.seq) && decide (x.body.take 8 = b.take 8) &&
      decide ((x.body.drop 12).take 3 = (b.drop 12).take 3)
    if c.recs.any newer then s else
    let k := 300 * (b.getD 14 0) + bodyAt b 12 2
    if s.load.mounted ∧ s.load.id = load then
      (if s.tw.writers.contains (bodyAt b 8 4) then s else s.setZone k (zoneOfBody (s.zone k) b))
    else
      let zs := ((s.host.zoneSets.find? fun e => decide (e.1 = load)).map fun e => e.2).getD []
      let z := zoneOfBody (storeFind (fun _ => ZoneSt.empty) zs k) b
      let others := s.host.zoneSets.filter fun e => decide (e.1 ≠ load)
      s.setHost { s.host with zoneSets := others ++ [(load, storePut (fun _ => ZoneSt.empty) zs k z)] }
  | 5 =>
    let lane := b.getD 14 0
    let m : Mark := { disc := discKeyOf (s.saggerAt r.serial (b.getD 15 0)) lane, sa := bodyAt b 0 4, blocks := b.getD 4 0, kind := b.getD 5 0,
                      gen := bodyAt b 8 4, zone := 300 * lane + bodyAt b 12 2 }
    if c.marks.contains m then s else s.setCat { c with marks := c.marks ++ [m] }
  | _ => s

/-- A record of another source is merged by SEQ (R574). -/
def State.takeRecord (s : State) (r : CatRec) : State :=
  let c := s.st.cat
  let same (x : CatRec) : Bool := decide (x.serial = r.serial) && decide (x.slot = r.slot) && decide (x.ty = r.ty) && decide (x.seq = r.seq)
  if c.recs.any same then
    s.setCat { c with recs := c.recs.map fun x => if same x then { x with fired := (x.fired ++ r.fired).eraseDups } else x }
  else (s.setCat { c with recs := c.recs ++ [r], seq := max c.seq r.seq }).recordSays r

/-- The records of a catalogue block's payload (R123): type, SEQ, body; a type 0 ends the block. -/
def recordsOf : Nat → List Nat → List (Nat × Nat × List Nat)
  | 0, _ => []
  | n + 1, bs =>
    let ty := bodyAt bs 0 2
    let len := bodyAt bs 2 2
    if bs.length < 8 ∨ ty = 0 then []
    else (ty, bodyAt bs 4 4, (bs.drop 8).take len) :: recordsOf n (bs.drop ((8 + len + 7) / 8 * 8))

/-- A zone's state goes into the catalogue cache, for every fireable disc of its lane. -/
def State.zoneRecord (s : State) (k : Nat) : State := s.lanePut (k / 300) 4 (zoneBody s.load.id k (s.zone k))

/-! Staging (R385-R388) -/

/-- 4 KiB of data and 16 bytes of metadata of a staged LBA count as one. The staging area is 20 GiB. -/
def stagingMiB : Nat := 20480

/-- LBAs staged, and mirrored for the twin, in MiB. -/
def State.stagedOwn (s : State) : Nat := ((s.st.zones.map fun z => z.2.staged.length).sum + 255) / 256
def State.stagedMirror (s : State) : Nat := (s.st.mirror.length + 255) / 256

/-- STG_USE and the STG_FULL crossing (R387). -/
def State.stgShow (s : State) : State :=
  let p := stripePage
  let own := s.stagedOwn
  let mir := s.stagedMirror
  let t := (s.setFld p STRIPE.STG_USE_OWN (min 0xFFFF own)).setFld p STRIPE.STG_USE_MIRROR (min 0xFFFF mir)
  let full := clampNat (s.cfgIn p STRIPE.STG_CFG_STG_HIGH 50 95) 98 (s.cfg p STRIPE.STG_CFG_STG_FULL)
  let past := decide (stagingMiB * full < 100 * (own + mir))
  let t := t.setSt { t.st with stgOver := past }
  if past && !s.st.stgOver then t.event p 0x5109 3 else t

/-- Staging above STG_HIGH (R256, R387). -/
def State.stgHigh (s : State) : Bool :=
  decide (stagingMiB * s.cfgIn stripePage STRIPE.STG_CFG_STG_HIGH 50 95 < 100 * (s.stagedOwn + s.stagedMirror))

/-- The stripe record of a zone. -/
def State.stripe (s : State) (k i : Nat) : Option StripeRec :=
  s.st.stripes.find? fun x => decide (x.zone = k) && decide (x.stripe = i)

/-- Put a stripe record in the place of the one with its number. -/
def State.putStripe (s : State) (x : StripeRec) : State :=
  s.setSt { s.st with stripes := (s.st.stripes.filter fun y => !(decide (y.zone = x.zone) && decide (y.stripe = x.stripe))) ++ [x] }

/-- This controller is the zone writer of a zone (R384, R482). -/
def State.zoneWriter (s : State) (k : Nat) : Bool := s.tw.writers.contains (s.zone k).ns

/-- Data of a staged LBA: 4,096 bytes and 16 of metadata; padding and Write Zeroes stage zeros. -/
def ZoneSt.stagedLba (z : ZoneSt) (j : Nat) : List Nat :=
  let d := storeFind (fun _ => []) z.staged j
  if d.isEmpty then List.replicate 4112 0 else (d ++ List.replicate 4112 0).take 4112

/-- Whether an LBA is staged or padding. -/
def ZoneSt.hasLba (z : ZoneSt) (j : Nat) : Bool :=
  z.staged.any (fun e => decide (e.1 = j)) || z.pads.any fun r => decide (r.1 ≤ j ∧ j < r.2)

/-- A setting boundary at or after an LBA: the first LBA of the next stripe whose index is a multiple of 4. -/
def ZoneSt.settingEnd (z : ZoneSt) (j : Nat) : Nat :=
  match stripeOfLba z.width j with
  | some (i, o) => if o = 0 ∧ i % 4 = 0 then j else stripeFirstLba z.width ((i / 4 + 1) * 4)
  | none => j

/-- Pad a zone's partial setting (R386): the write pointer moves to the setting boundary. -/
def State.padZone (s : State) (k : Nat) : State :=
  let z := s.zone k
  let e := z.settingEnd z.wp
  if e = z.wp then s
  else
    let n := e - z.wp
    (s.setZone k { z with wp := e, pad := z.pad + n, pads := z.pads ++ [(z.wp, e)] }).count stripePage STRIPE.PAD_LBAS n

/-- The controller finishes a zone (R383, R474): Full, reported as finished by the controller. -/
def State.zoneFinishByCtl (s : State) (k : Nat) : State :=
  let z := s.zone k
  if z.state = 4 then s else ((s.setZone k { z with state := 4, byCtl := true, finish := true }).zoneRecord k).notice .zoneDesc

/-- Record a change of width before stripe i of a zone (R383): none needed, one entry, or, when a fifth
would be needed, the zone is finished. -/
def State.widthChange (s : State) (k i : Nat) : State × Bool :=
  let z := s.zone k
  let now := s.laneExcluded (k / 300)
  let was := z.excluded i
  if i % 4 ≠ 0 ∨ now = was then (s, true)
  else if 4 ≤ z.width.length then ((s.zoneFinishByCtl k).event stripePage 0x5110 4 0xFF k, false)
  else
    let e : WidthEntry := { first := i, excluded := now.getD 0, narrowed := now.isSome }
    let w := (z.width.filter fun x => x.first != i) ++ [e]
    ((s.setZone k { z with width := w }).zoneRecord k, true)

/-! Encoding (R381, R520) -/

/-- Plaintext of data member d of a stripe: 65,536 bytes of data and 256 of metadata. -/
def ZoneSt.memberPlain (z : ZoneSt) (i d : Nat) : List Nat :=
  let first := stripeFirstLba z.width i + 16 * d
  let ls := (List.range 16).map fun n => z.stagedLba (first + n)
  ls.flatMap (fun l => l.take 4096) ++ ls.flatMap fun l => l.drop 4096

/-- A namespace's LBAs carry metadata (R471). -/
def State.metaLbas (s : State) (ns : Nat) : Bool := match storeFind (fun _ => none) s.host.nss ns with
  | some n => decide (n.lbaf = 1)
  | none => false

/-- STRIPE_ENCODE begins (R381): the next stripe of a zone whose LBAs are staged, and mirrored while the
twin is paired (R385). Its data members wait for encryption. -/
def State.stripeBegin (s : State) (k : Nat) : State :=
  let z := s.zone k
  let i := z.enc
  if stripesPerZone ≤ i ∨ z.ns = 0 ∨ z.stopped ∨ z.replaying then s
  else
    let (t, ok) := s.widthChange k i
    let z := t.zone k
    let first := stripeFirstLba z.width i
    let n := stripeLbas z.width i
    let lbas := (List.range n).map fun o => first + o
    let have_ := decide (first + n ≤ z.wp) && lbas.all z.hasLba
    let mirrored := !t.paired || lbas.all fun j => !z.unmirrored.contains j
    let lane := k / 300
    if !ok || !have_ || !mirrored || t.fldBit stripePage STRIPE.SE_STAT_LANE_NOFIRE lane then t
    else
      let ex := z.excluded i
      let (p, q, ds) := stripeLayout ex i
      let mask := (p :: q :: ds).foldl (fun m x => if t.fldBit stripePage STRIPE.MEMBER_FIRE (8 * lane + x) then setBit m x true else m) 0
      let x : StripeRec :=
        { zone := k, stripe := i, width := if ex.isSome then 7 else 8, excluded := ex.getD 8, gen := z.gen, expect := mask, fired := 0,
          passed := 0, plain := ds.zipIdx.map fun (_, d) => (d, z.memberPlain i d), blocks := [], staged := true, replay := false, recorded := false,
          journalled := false, msn := 0, sent := false }
      -- the seal's digest covers each LBA's data, and its metadata under LBA format 1 (R524)
      let size := if t.metaLbas z.ns then 4112 else 4096
      let digest := if z.digestOk then z.digest ++ lbas.flatMap fun j => (z.stagedLba j).take size else []
      let u := t.setZone k { z with enc := i + 1, digest := digest }
      let u := u.putStripe x
      -- a zone whose stripes are all encoded is finished by the controller unless it is full (R474)
      if i + 1 = stripesPerZone ∧ z.wp < z.zcap then u.zoneFinishByCtl k else u

/-- Excluded position of a stripe record. -/
def StripeRec.ex (x : StripeRec) : Option Nat := if x.width = 7 then some x.excluded else none

/-- Where a lane's journal copies go (R396): slot and stripe position of copies A and B; a copy whose disc
cannot fire moves to the next position that can and does not hold the other. -/
def State.journalCopies (s : State) (lane : Nat) : List (Nat × Nat) :=
  let able (slot pos : Nat) : Bool := match s.memberHead slot pos with
    | some h => !s.retired h && !s.noFire h
    | none => false
  let place (slot start other : Nat) : Option Nat :=
    ((List.range 8).map fun i => (start + i) % 8).find? fun p => able slot p && decide (p ≠ other)
  let sa := (lane + 1) % 4
  let sb := (lane + 2) % 4
  let a := place sa (2 * lane % 8) ((2 * lane + 1) % 8)
  let b := place sb ((2 * lane + 1) % 8) (a.getD 8)
  (match a with | some p => [(sa, p)] | none => []) ++ (match b with | some p => [(sb, p)] | none => [])

/-- Journal settings used on the disc at a slot of a stripe position (R128). -/
def State.journalDisc (s : State) (slot pos : Nat) : Nat := discKeyOf (((s.memberAt pos).map fun m => m.serial).getD 0) slot
def State.journalUsed (s : State) (slot pos : Nat) : Nat := storeFind (fun _ => 0) s.st.cat.journalUsed (s.journalDisc slot pos)

/-- Two journal pointers of a stripe's headers (R113, R396): slot and setting of the next journal settings
of the lane's copies. -/
def State.journalPtrs (s : State) (lane : Nat) : List Nat :=
  (s.journalCopies lane).flatMap fun (slot, pos) => [slot, 0, 0, 0] ++ bytesBE 4 (journalSetting (s.journalUsed slot pos))

/-- The header of a member block (R113, R378-R380). -/
def State.memberHeader (s : State) (x : StripeRec) (pos member kind nonce tag lba : Nat) (metadata : List Nat) : BlockHeader :=
  let lane := x.zone / 300
  let z := s.zone x.zone
  let pba := zonePba x.zone x.stripe
  { kind := kind, flags := (if x.width = 7 then flagNarrow else 0) + (if x.stripe + 1 = stripesPerZone then flagZoneLast else 0),
    discId := ((s.memberAt pos).map fun m => m.discs.getD lane 0).getD 0, pba := pba, homePba := pba, loadId := s.load.id, nsid := z.ns,
    zone := x.zone % 300, lane := lane, position := pos, stripe := x.stripe, width := x.width, member := member, generation := x.gen,
    nonce := nonce, tag := tag, lbaFirst := lba, journalPtr := s.journalPtrs lane, metadata := metadata }

/-- Nonce and additional data of a data member's encryption (R520). -/
def State.memberNonce (s : State) (x : StripeRec) (pos : Nat) : Nat :=
  let disc := ((s.memberAt pos).map fun m => m.discs.getD (x.zone / 300) 0).getD 0
  blockIdentity disc (zonePba x.zone x.stripe) * 2 ^ 32 + x.gen % 2 ^ 32
def State.memberAad (s : State) (x : StripeRec) (lba : Nat) : List Nat :=
  bytesBE 4 (s.zone x.zone).ns ++ [x.zone / 300, 0] ++ bytesBE 2 (x.zone % 300) ++ bytesBE 8 s.load.id ++ bytesBE 8 lba

/-- A stripe holds padding; a setting's data waits for a remap spare (R392). -/
def ZoneSt.padded (z : ZoneSt) (i : Nat) : Bool :=
  z.pads.any fun r => decide (stripeFirstLba z.width i < r.2) && decide (r.1 < stripeFirstLba z.width (i + 1))
def State.remapPending (s : State) (k i : Nat) : Bool :=
  let waits (r : ReadySet) : Bool := decide (r.head < 32) && decide (r.head % 4 = k / 300) && (match r.kind with
    | .remap home _ => decide (home = zoneSa k i)
    | _ => false)
  s.fire.ready.any waits || (List.range 32).any fun h => [0, 1].any fun n => (s.armed h n).any waits

/-- The stripe record of a stripe as it stands now (R392). -/
def State.stripeRecord (s : State) (x : StripeRec) : JRec :=
  let z := s.zone x.zone
  stripeJRec x z.mirrorAck (z.padded x.stripe) (decide (x.stripe + 1 = stripesPerZone)) (s.remapPending x.zone x.stripe) z.ns

/-- The stripe record of an encoded stripe is queued while fewer than INFLIGHT_MAX are live (R394). -/
def State.recordStripe (s : State) (k i : Nat) : State :=
  match s.stripe k i with
  | none => s
  | some x =>
    if x.recorded || !x.plain.isEmpty || decide (min 8192 (s.fldIn journalPage JOURNAL.JR_CFG_INFLIGHT_MAX 512 8192) ≤ s.inflight) then s
    else ((s.putStripe { x with recorded := true }).jput (s.stripeRecord x)).inflightShow

/-- A member block for a head that the twin owns travels in nine messages of 8 KiB at most (R384, R551). -/
def State.sendMember (s : State) (h sa blk : Nat) (b : EncBlock) : State :=
  let bytes := headerBytes b.header ++ b.payload
  s.forEach (List.range 9) fun u n => u.tSend clsFire (.member h sa blk (8192 * n) ((bytes.drop (8192 * n)).take 8192))

/-- The four blocks of a setting at a position, when its four stripes are encoded. -/
def State.settingBlocks (s : State) (k first pos : Nat) : Option (List (BlockHeader × List Nat)) :=
  let bs := (List.range 4).map fun o =>
    (s.stripe k (first + o)).bind fun x => if x.plain.isEmpty then
      (x.blocks.find? fun b => decide (b.pos = pos)).map fun b => (b.header, b.payload) else none
  if bs.all Option.isSome then some (bs.filterMap id) else none

/-- A setting whose four stripes are encoded becomes ready on every expected member (R256, R386). -/
def State.readySettings (s : State) (k i : Nat) : State :=
  let first := i / 4 * 4
  let lane := k / 300
  s.forEach (List.range 8) fun u pos =>
    match u.settingBlocks k first pos, u.memberHead lane pos, u.stripe k first with
    | some bs, some h, some x =>
      if !bitOf x.expect pos || bitOf x.fired pos then u
      else if !u.headObeys h && u.paired && decide ((u.token h).1 = 1 - u.side) then u
      else { u with fire := { u.fire with ready := u.fire.ready ++ [{ head := h, sa := zoneSa k first, kind := .data k, blocks := bs }] } }
    | _, _, _ => u

/-- P and Q are formed, the headers completed, and the blocks pass to the firing encoders (R379, R381). -/
def State.stripeFinish (s : State) (x : StripeRec) : State :=
  let (p, q, _) := stripeLayout x.ex x.stripe
  let ds := x.blocks.map fun b => (b.header.member, memberVec b.header b.payload)
  let parity (pos member kind : Nat) (v : List Nat) : EncBlock :=
    { pos := pos, payload := vecPayload v,
      header := s.memberHeader x pos member kind (vecNonce v) (vecTag v) (2 ^ 64 - 1) (vecMeta v) }
  let x := { x with blocks := x.blocks ++ [parity p 0xF0 2 (vecP ds), parity q 0xF1 3 (vecQ ds)] }
  let t := (s.putStripe x).recordStripe x.zone x.stripe
  (t.readySettings x.zone x.stripe).inflightShow

/-- One data member is encrypted under the load key (R520, R522). -/
def State.encryptMember (s : State) (x : StripeRec) (key : Nat) : State :=
  match x.plain with
  | [] => s
  | (d, plain) :: rest =>
    let (_, _, ds) := stripeLayout x.ex x.stripe
    let pos := ds.getD d 0
    let lba := stripeFirstLba (s.zone x.zone).width x.stripe + 16 * d
    let nonce := s.memberNonce x pos
    let (ct, tag) := Config.gcmSeal key nonce (s.memberAad x lba) plain
    let b : EncBlock := { pos := pos, payload := ct.take 65536, header := s.memberHeader x pos d 1 nonce tag lba ((ct.drop 65536).take 256) }
    let y := { x with plain := rest, blocks := x.blocks ++ [b] }
    if rest.isEmpty then s.stripeFinish y else s.putStripe y

/-- STRIPE_ENCODE (R381). -/
def execStripeEncode (lane : LaneOf) (zone : ZoneIx) (s : State) : Res :=
  if !s.accepts stripePage ∨ !s.accepts mediacryptPage then done s
  else done ((s.stripeBegin (300 * lane.val + zone.val)).stgShow)

/-! Pointers (R389, R394) -/

/-- The first stripe from i on that is not done, below the encoded end. -/
def pointerFrom (done_ : Nat → Bool) : Nat → Nat → Nat
  | 0, i => i
  | n + 1, i => if done_ i then pointerFrom done_ n (i + 1) else i

/-- Advance the fired pointer over stripes that fired on every expected member (R394). -/
def State.advanceFired (s : State) (k : Nat) : State :=
  let z := s.zone k
  let done_ (i : Nat) : Bool := match s.stripe k i with
    | some x => x.plain.isEmpty && decide (x.fired = x.expect)
    | none => false
  let f := pointerFrom done_ (z.enc - z.fired) z.fired
  if f = z.fired then s
  else
    let t := s.setZone k { z with fired := f }
    (t.jput (zoneJRec k (t.zone k))).inflightShow

/-- Advance the confirmed pointer; staged copies of confirmed stripes, and the twin's, are freed (R389). -/
def State.advanceConf (s : State) (k : Nat) : State :=
  let z := s.zone k
  let done_ (i : Nat) : Bool := match s.stripe k i with
    | some x => x.plain.isEmpty && decide (x.fired = x.expect) && decide (x.passed &&& x.expect = x.expect)
    | none => false
  let c := pointerFrom done_ (z.fired - z.conf) z.conf
  if c = z.conf then s
  else
    let last := stripeFirstLba z.width c
    let freed := (List.range (c - z.conf)).map fun n => z.conf + n
    let z' := { z with conf := c, staged := z.staged.filter fun e => decide (last ≤ e.1) }
    let t := s.setZone k z'
    let t := t.setSt { t.st with stripes := t.st.stripes.filter fun x => !(decide (x.zone = k) && decide (x.stripe < c)) }
    let t := t.tSend clsMirror (.stageFree k freed)
    ((t.jput (zoneJRec k z')).stgShow).inflightShow

/-- A setting has fired at a position (R394): FIRED bits in new stripe records, then the pointer. -/
def State.settingFired (s : State) (k sa pos : Nat) : State :=
  match zoneOfSa (k / 300) sa with
  | none => s
  | some (_, first) =>
    let t := s.forEach (List.range 4) fun u o =>
      match u.stripe k (first + o) with
      | some x =>
        let y := { x with fired := setBit x.fired pos true }
        (u.putStripe y).jput (u.stripeRecord y)
      | none => u
    (t.setZone k { t.zone k with everFired := true }).advanceFired k

/-- A position can no longer fire (R278, R382): stripes encoded before are fired on the others, and their records say so; the setting
that its head is firing completes. -/
def State.dropExpect (s : State) (k i pos : Nat) : State :=
  let lane := k / 300
  let sa := zoneSa k i
  let mine (r : ReadySet) : Bool := decide (r.head < 32) && decide (r.head % 4 = lane) && decide (s.headPos r.head = some pos) && (match r.kind with
    | .data _ => decide (r.sa = sa)
    | .remap home _ => decide (home = sa)
    | _ => false)
  let fires := (List.range 32).any fun h => match (s.fireHead h).firing with
    | some n => (s.armed h n).any mine
    | none => false
  match s.stripe k i with
  | some x =>
    if !bitOf x.expect pos || bitOf x.fired pos || !x.plain.isEmpty || fires then s
    else
      let y := { x with expect := setBit x.expect pos false }
      let t := (s.putStripe y).jput (s.stripeRecord y)
      ({ t with fire := { t.fire with ready := t.fire.ready.filter fun r => !mine r } }).advanceFired k
  | none => s

/-- Every live stripe of the mounted load, by the members that can fire. -/
def State.expectGo (s : State) : State :=
  if !s.load.mounted then s
  else
    let gone (lane p : Nat) : Bool := !s.fldBit stripePage STRIPE.MEMBER_FIRE (8 * lane + p)
    let due (x : StripeRec) (p : Nat) : Bool := bitOf x.expect p && !bitOf x.fired p && x.plain.isEmpty && gone (x.zone / 300) p
    s.forEach (s.st.stripes.filter fun x => (List.range 8).any (due x)) fun u x =>
      u.forEach ((List.range 8).filter (due x)) fun v p => v.dropExpect x.zone x.stripe p

/-- A setting has passed at a position, or its spare has (R389, R394). -/
def State.settingPassed (s : State) (k sa pos : Nat) : State :=
  match zoneOfSa (k / 300) sa with
  | none => s
  | some (_, first) =>
    let t := s.forEach (List.range 4) fun u o =>
      match u.stripe k (first + o) with
      | some x => u.putStripe { x with passed := setBit x.passed pos true }
      | none => u
    t.advanceConf k

/-! Reconstruction (R407, R408) -/

/-- What a reconstruction has come to (R407, R408): the member's vector, members still to be read, or too many of them missing. -/
inductive Recon where
  | vec (v : List Nat)
  | wait (ps : List Nat)
  | fail
  deriving DecidableEq, Repr

/-- The reconstruction of the member at a position of a lane, from what reads have released (R407). -/
def State.recon (s : State) (lane home k pos : Nat) : Recon :=
  match zoneOfSa lane home, s.blockNeeds lane home k pos with
  | some (zk, first), some ps =>
    let (p, q, ds) := stripeLayout ((s.zone zk).excluded (first + k)) (first + k)
    let vec (x : Nat) : Option (List Nat) :=
      if ps.contains x then ((s.memberHead lane x).bind fun h => s.releasedAt h home k).map fun b => memberVec b.header b.payload else none
    let left := ps.filter fun x => (vec x).isNone
    if !left.isEmpty then .wait left
    else
      let data := ds.zipIdx.filterMap fun (x, d) => (vec x).map fun v => (d, v)
      let me := if pos = p then some ds.length else if pos = q then some (ds.length + 1) else
        (ds.zipIdx.find? fun y => decide (y.1 = pos)).map fun y => y.2
      match me.bind fun x => rebuildMember ds.length x data (vec p) (vec q) with
      | some v => .vec v
      | none => .fail
  | _, _ => .fail

/-- Member reads of a setting's stripes that no reconstruction waits for any more leave. -/
def State.dropMembers (s : State) (lane home : Nat) : State :=
  let of_ (h sa : Nat) : Bool := decide (h < 32) && decide (h % 4 = lane) && decide (s.homeOf h sa = home)
  let waits (k : Nat) : Bool := s.pool.settings.any fun x => of_ x.head x.sa && decide (x.blocks.getD k 0 = 2)
  s.setPool { s.pool with
    released := s.pool.released.filter fun b => !(decide (b.why = .member) && of_ b.head b.sa && !waits b.blk)
    unread := s.pool.unread.filter fun e => !(of_ e.1 e.2.1 && !waits e.2.2) }

/-- The header of a reconstructed block (R407): the vector's fields with the place. -/
def State.rebuiltHeader (s : State) (h sa k : Nat) (v : List Nat) : BlockHeader :=
  match zoneOfSa (h % 4) (s.homeOf h sa), s.headPos h with
  | some (zk, first), some pos =>
    let i := first + k
    let z := s.zone zk
    let (p, q, ds) := stripeLayout (z.excluded i) i
    let x : StripeRec := { zone := zk, stripe := i, width := if (z.excluded i).isSome then 7 else 8, excluded := (z.excluded i).getD 8,
                           gen := z.gen, expect := 0, fired := 0, passed := 0, plain := [], blocks := [], staged := false, replay := false, recorded := false,
                           journalled := false, msn := 0, sent := false }
    let d := ((ds.zipIdx.find? fun y => decide (y.1 = pos)).map fun y => y.2).getD 0
    let kind := if pos = p then 2 else if pos = q then 3 else 1
    let member := if pos = p then 0xF0 else if pos = q then 0xF1 else d
    let lba := if kind = 1 then stripeFirstLba z.width i + 16 * d else 2 ^ 64 - 1
    s.memberHeader x pos member kind (vecNonce v) (vecTag v) lba (vecMeta v)
  | _, _ => headerOf []

/-- A reconstruction failed: the ladder goes on where L7 came early (R244), else the block is a shard (R408). -/
def State.reconFailed (s : State) (x : SettingRd) (k : Nat) : State :=
  if x.revAfter then (s.putSetting { x.setBlock k 0 with revAfter := false, step := .revWait }).startRev x.head
  else s.shardBlock x k

/-- RECONSTRUCTION_DONE (R246, R247, R407, R408): the stripe engine rebuilds a block from the members that
have been read, and has those read that it still needs; a data member is accepted only when its tag verifies. A failure
makes it a shard. -/
def State.reconstructed (s : State) (h sa blk : Nat) : State :=
  match s.setting h sa with
  | none => s
  | some x =>
    let lane := h % 4
    let home := s.homeOf h sa
    if x.blocks.getD blk 0 ≠ 2 then s
    else match (s.headPos h).map (s.recon lane home blk) with
      | some (.vec v) =>
        let hdr := s.rebuiltHeader h sa blk v
        match s.blockTag hdr (vecPayload v) with
        | (none, s) => s
        | (some ok, s) =>
        let s := if hdr.kind = 1 then s.tagChecked ok else s
        if ok then
          let t := ((s.count outerPage OUTER.RUNG_DONE 1 7).istat outerPage 9).event outerPage 0x4106 4 0xFF (blockPba sa blk)
          let t := t.count stripePage STRIPE.RECON_BLOCKS
          ((t.release x blk 7 (vecPayload v) hdr).settingEnd (x.setBlock blk 3)).dropMembers lane home
        else (s.reconFailed x blk).dropMembers lane home
      | some (.wait ps) => s.wantMembers lane home blk ps
      | _ => (s.reconFailed x blk).dropMembers lane home

end Sys2Proof.Machine
end

