-- ==== Sys2Proof/Machine/Fire.lean ====
section
/-!
DEFINITION. Firing (R255-R258, R262-R272, R275, R276): runs, pulse tables, arming, FIRE_EVENT, running
power control, stops, remap spares.
-/
namespace Sys2Proof.Machine

/-! Runs (R255, R256) -/

/-- Heads and wheels of a group. -/
def groupHeads (g : Nat) : List Nat := if g = 0 then List.range 32 else [32]
def groupWheels (g : Nat) : List Nat := if g = 0 then List.range 8 else [8]
def groupOf (h : Nat) : Nat := if h = 32 then 1 else 0

/-- The run of a group. -/
def State.run (s : State) (g : Nat) : RunSt := storeFind (fun _ => { phase := 0, start := 0 }) s.fire.runs g
def State.setRun (s : State) (g : Nat) (r : RunSt) : State :=
  { s with fire := { s.fire with runs := storePut (fun _ => { phase := 0, start := 0 }) s.fire.runs g r } }

/-- Whether a wheel of the group is at 4,500 rpm: its own AT_SPEED, or the twin's WHEEL_SPEED. -/
def State.wheelAt (s : State) (w rpm : Nat) : Bool :=
  if s.owned (wheelPage w) then
    s.flag (wheelPage w) WHEEL.WH_STAT_AT_SPEED && decide (s.fld (wheelPage w) WHEEL.SPD_CMD = rpm)
  else if s.paired then (match s.tw.twin with
    | some t => bitOf t.wheel w
    | none => false)
  else true

/-- Command the owned wheels of a group. -/
def State.commandWheels (s : State) (g rpm : Nat) : State :=
  s.forEach (groupWheels g) fun u w =>
    if u.owned (wheelPage w) then (u.setFld (wheelPage w) WHEEL.SPD_CMD rpm).spdWritten w else u

/-- Settings of heads of a group that are ready. -/
def State.readyIn (s : State) (g : Nat) : List ReadySet := s.fire.ready.filter fun r => decide (groupOf r.head = g)

/-- A Flush or a Zone Finish waits on a setting not yet fired (R256). -/
def State.urgentRun (s : State) : Bool :=
  decide (0 < s.fire.urgent) || decide (s.load.phase = .padding) || s.st.zones.any fun z => z.2.finish && decide (z.2.fired < z.2.enc)

/-- A run close is due before Unmount Load, Stage Load or PS4 goes on (R396, R483, R484, R495): a run
starts for it even with no setting ready. -/
def State.closeDue (s : State) : Bool :=
  let due (o : Option Nat) : Bool := match o with
    | some n => decide (s.jr.closed < n)
    | none => false
  due s.load.closeAt || due s.host.psClose

/-- Settings of the two catalogue areas used on the disc under a head. -/
def State.areaUsed (s : State) (h : Nat) : Nat := storeFind (fun _ => 0) s.st.cat.areaUsed (s.discKey h)
def State.setAreaUsed (s : State) (h n : Nat) : State :=
  s.setCat { s.st.cat with areaUsed := storePut (fun _ => 0) s.st.cat.areaUsed (s.discKey h) n }

/-- Catalogue records that the disc under a head does not hold yet (R401). -/
def State.newRecords (s : State) (h : Nat) : List CatRec :=
  let d := s.fireDisc h
  s.st.cat.recs.filter fun r => decide (r.serial = d.1) && (r.slot == none || r.slot == some d.2) && !r.fired.contains d.2

/-- Records that the old sagger's discs do not hold yet when a re-throw's final pass fires records (R410 step 6). -/
def State.rtCloseDue (s : State) : Bool :=
  decide (s.fld stripePage STRIPE.RT_STAT_STATE = 5) && s.st.rt.recording && (List.range 4).any fun l => match s.memberHead l s.st.rt.pos with
    | some h => s.headObeys h && !s.retired h && !s.noFire h && decide (s.areaUsed h < 1024) && !(s.newRecords h).isEmpty
    | none => false

/-- A run may start (R256): the load holds RUN_START ready settings, something waits, or staging is above
the high mark. The kick wheel's runs have a re-throw's settings to fire. -/
def State.runWanted (s : State) (g : Nat) : Bool :=
  let n := (s.readyIn g).length
  let cal := (groupHeads g).any fun h => (s.fireHead h).calDue
  if g = 0 then
    decide (s.fld firePage FIRE.RUN_START ≤ n) || (decide (0 < n) && (s.urgentRun || s.stgHigh)) || cal || s.closeDue || s.rtCloseDue
  else decide (0 < n) || cal

/-- A re-throw's final pass lets the load wait for one run of W8 (R410). -/
def State.rtHolds (s : State) : Bool := decide (s.fld stripePage STRIPE.RT_STAT_STATE = 5) && !s.st.rt.finalRun

/-- FIRING_RUN_START (R255, R256, R273, R279): W0-W7, or W8, are commanded to 4,500 rpm; written
parameters take effect. -/
def execFiringRunStart (g : RunIx) (s : State) : Res :=
  let waits := (groupHeads g.val).any fun h => !(s.fireHead h).await.isEmpty
  if (s.run g.val).phase ≠ 0 ∨ s.fire.holdup ∨ s.svc.hold ∨ waits ∨ !s.runWanted g.val ∨ (g.val = 0 ∧ s.rtHolds) then done s
  else
    let t := { s with fire := { s.fire with held := [] } }
    let t := t.setRun g.val { phase := 1, start := t.now }
    let t := if g.val = 0 then (t.setJr { t.jr with run := t.jr.run + 1 }).jput (runJRec (t.jr.run + 1) 0) else t
    done (t.commandWheels g.val 4500)

/-! Pulse tables (R264, R267-R269) -/

/-- Fields of an entry given as bytes from an offset, little-endian in the table window. -/
def entryBytes (peak pm pb : Nat) (start stop : List Int) (mid rpc : Nat) (trims : List Int) : List Nat :=
  bytesLE 2 peak ++ [pm, pb] ++ start.map (unsigned 8) ++ stop.map (unsigned 8) ++ [mid, 0] ++ bytesLE 2 rpc ++
    bytesLE 8 ((trims.zipIdx.map fun (t, b) => unsigned 4 t * 16 ^ b).sum) ++ List.replicate 12 0

/-- Nearest integer to peak * (f_k / f_0) ^ (v / 16) (R264), by bits from the top. -/
def ringPeak (peak v k : Nat) : Nat :=
  (List.range 20).foldl (fun x i =>
    let y := x + 2 ^ (19 - i)
    if (2 * y - 1) ^ 16 * 14 ^ v ≤ 2 ^ 16 * peak ^ 16 * (ringS k) ^ v then y else x) 0

/-- VEL_EXP in force. -/
def State.velExp (s : State) : Nat := s.ffld FIRE.VEL_EXP

/-- The default entry of a ring (R268). -/
def State.defaultEntry (s : State) (ring : Nat) : List Nat :=
  entryBytes (min 0xFFFF (ringPeak 0x78 s.velExp ring)) 0xC0 0x32 (List.replicate 15 0) (List.replicate 5 (-4)) 0x30 0 (List.replicate 16 0)

/-- Place of a slot's entry of a ring, and of its read power (R268). -/
def pulseEntryAt (h slot ring : Nat) : Nat := pulsePage h + (if slot = 0 then 0x40 else 0x440) + 48 * ring
def readPowerAt (h slot ring : Nat) : Nat := pulsePage h + 0xC00 + 0x40 * slot + 2 * ring

/-- Bytes of the table window, and writing them. -/
def State.winBytes (s : State) (a n : Nat) : List Nat := (List.range n).map fun i => s.winByte (a + i)
def State.setWinBytes (s : State) (a : Nat) (bs : List Nat) : State :=
  s.forEach bs.zipIdx fun u (b, i) =>
    let w := (a + i) / 4 * 4
    let k := 256 ^ ((a + i) % 4)
    u.setWord w (u.word w - u.winByte (a + i) * k + b % 256 * k)

/-- The slot of a table page that a layer's entries go into: its own, else one that is not valid, else the one that the present
layer does not use (R211); and that slot marked with the layer. -/
def State.tableSlot (s : State) (page h layer : Nat) : Nat :=
  let w := s.word page
  match s.layerSlot page layer with
  | some k => k
  | none => if !bitOf w 4 then 0 else if !bitOf w 12 then 1 else if w % 16 = s.seqLayer h then 1 else 0
def State.claimSlot (s : State) (page h layer : Nat) : State :=
  let w := s.word page
  let m := 256 ^ s.tableSlot page h layer
  s.setWord page (w - w / m % 32 * m + (layer + 16) * m)

/-- The entry of a ring in use for a layer: the slot's, or the default one (R211, R268). -/
def State.pulseEntry (s : State) (h layer ring : Nat) : List Nat :=
  match s.layerSlot (pulsePage h) layer with
  | some k => s.winBytes (pulseEntryAt h k ring) 48
  | none => s.defaultEntry ring

/-- Fields of an entry. -/
def entryPeak (e : List Nat) : Nat := ofBytesLE (e.take 2)
def entryRpc (e : List Nat) : Nat := ofBytesLE ((e.drop 0x1A).take 2)
def entryTrims (e : List Nat) : List Int :=
  let v := ofBytesLE ((e.drop 0x1C).take 8)
  (List.range 16).map fun b => signed 4 (v / 16 ^ b % 16)

/-- An entry with another peak power, and with its window fields most significant byte first (R268). -/
def entryWithPeak (e : List Nat) (p : Nat) : List Nat := bytesLE 2 p ++ e.drop 2
def entryBE (e : List Nat) : List Nat :=
  (e.take 2).reverse ++ (e.drop 2).take 24 ++ ((e.drop 0x1A).take 2).reverse ++ ((e.drop 0x1C).take 8).reverse ++ e.drop 0x24

/-- A table load goes out and waits for its TABLE_ACK (R269). -/
def State.tableLoad (s : State) (h : Nat) (m : DownMsg) : State :=
  (s.setLink h { s.link h with tables := (s.link h).tables ++ [(m, 0)] }).send (.down h m)

/-- Eight bytes a block, in window byte order. -/
def blocks64 (bs : List Nat) : List Nat := (List.range (bs.length / 8)).map fun i => ofBytesLE ((bs.drop (8 * i)).take 8)

/-- Send the entry of a ring of a layer, and its read power (R269). -/
def State.loadEntry (s : State) (h layer ring : Nat) : State :=
  s.tableLoad h (.tableLoad 1 layer ring 0 (blocks64 (s.pulseEntry h layer ring)))
def State.loadPower (s : State) (h layer ring : Nat) : State :=
  s.tableLoad h (.tableLoad 2 layer ring 0 [s.tablePower h layer ring])

/-- Load a layer's entries at a mount or before a layer jump (R269). -/
def State.loadLayer (s : State) (h layer : Nat) : State :=
  s.forEach (List.range 21) fun u k => (u.loadEntry h layer k).loadPower h layer k

/-- A written word of a head's pulse page is loaded again (R269). -/
def State.pulseWritten (s : State) (a : Nat) : State :=
  let h := (a - 0x240000) / 0x1000
  let o := a % 0x1000
  let w := s.word (pulsePage h)
  let slotLayer (k : Nat) : Option Nat := if bitOf w (4 + 8 * k) then some (w / 256 ^ k % 16) else none
  let entry (k o : Nat) : State := match slotLayer k with
    | some l => if o / 48 < 21 then s.loadEntry h l (o / 48) else s
    | none => s
  let power (k o : Nat) : State := match slotLayer k with
    | some l => s.forEach [o / 2, o / 2 + 1] fun u r => if r < 21 then u.loadPower h l r else u
    | none => s
  if 0x240000 + 33 * 0x1000 ≤ a then s
  else if o < 0x40 then s
  else if o < 0x440 then entry 0 (o - 0x40)
  else if o < 0xC00 then entry 1 (o - 0x440)
  else if o < 0xC40 then power 0 (o - 0xC00)
  else if o < 0xC80 then power 1 (o - 0xC40)
  else s

/-! Stops (R159, R272) -/

/-- FIRE_STOP at the next setting boundary: the setting in progress completes. -/
def State.stopBoundary (s : State) (h : Nat) : State :=
  let t := (s.send (.down h (.fireStop false))).count (firestatPage h) FIRESTAT.STOP_BND
  let t := t.setFireHead h { t.fireHead h with stopping := true }
  t.unarmIdle h

/-- A run ends early (R256, R272): its heads stop at a setting boundary and the close follows. -/
def State.endRun (s : State) (g : Nat) : State :=
  let t := s.forEach (groupHeads g) fun u h => if u.headFires h then u.stopBoundary h else u
  let t := if g = 0 then t.jput (runJRec t.jr.run 1) else t
  t.setRun g { t.run g with phase := 4 }

/-- A field of the firing table within the bounds that the table gives it (R279). -/
def State.ffldIn (s : State) (f : Fld) (lo hi : Nat) : Nat := clampNat lo hi (s.ffld f)

/-- RUN_MAX_EXPIRY (R256): the run has lasted RUN_MAX_S. -/
def execRunMaxExpiry (g : RunIx) (s : State) : Res :=
  let r := s.run g.val
  if r.phase = 2 ∧ r.start + 10 ^ 9 * s.ffldIn FIRE.RUN_MAX_S 1 255 ≤ s.now then done (s.endRun g.val) else done s

/-- READ_WAIT_EXPIRY (R256): a host read has waited READ_WAIT_MAX for a firing head. -/
def execReadWaitExpiry (g : RunIx) (s : State) : Res :=
  let longest := 10 ^ 8 * s.ffldIn FIRE.READ_WAIT_MAX 1 255
  let waits := (groupHeads g.val).any fun h => s.headFires h && s.pool.wants.any fun r =>
    decide (r.head = h) && decide (r.why = .host) && !r.on && decide (r.since + longest ≤ s.now)
  if (s.run g.val).phase = 2 ∧ waits then done (s.endRun g.val) else done s

/-! Remap spares (R126, R127, R261, R275, R276) -/

/-- Remap spares used of a layer of the disc under a head (R127). -/
def State.sparesUsed (s : State) (h layer : Nat) : Nat := storeFind (fun _ => 0) s.st.cat.spares (16 * s.discKey h + layer)

/-- The next remap spare of a disc for a setting of a layer. -/
def State.nextSpare (s : State) (h layer : Nat) : Option (Nat × Nat) :=
  ((layersByDistance layer).find? fun l => decide (s.sparesUsed h l < spareCount l)).map fun l => (l, s.sparesUsed h l)

/-- The body of a remap entry (R125). -/
def remapBody (r : Remap) : List Nat := bytesBE 4 r.home ++ bytesBE 4 r.spare ++ bytesBE 4 r.gen ++ [r.reason, 0, 0, 0]

/-- A setting's blocks as they are fired into a spare (R275). -/
def spareBlocks (sa : Nat) (bs : List (BlockHeader × List Nat)) : List (BlockHeader × List Nat) :=
  bs.zipIdx.map fun (b, k) =>
    let f := if b.1.flags % 2 = 1 then b.1.flags else b.1.flags + flagRemapped
    ({ b.1 with pba := pbaOf (saLayer sa) (saSetting sa) k, flags := f }, b.2)

/-- The home setting of a ready setting (R126). -/
def ReadySet.home (r : ReadySet) : Nat := match r.kind with
  | .remap h _ => h
  | _ => r.sa

/-- Assign a setting's data to the next spare. Its entry goes into the catalogue cache at once, the spare
waits to be scanned. With no spare left on the disc the member is to be retired. -/
def State.remapSet (s : State) (r : ReadySet) (reason : Nat) : State :=
  let h := r.head
  let home := r.home
  match s.nextSpare h (saLayer home) with
  | none => s.event firePage 0x4208 5 0xFF h
  | some (l, n) =>
    let far := decide (l ≠ saLayer home)
    let firstFar := far && !s.st.cat.remaps.any fun e => decide (e.disc = s.discKey h) && decide (saLayer e.home = saLayer home) &&
      decide (saLayer e.spare ≠ saLayer home)
    let spare := settingAddr l (spareAt n)
    let c := s.st.cat
    let gen := ((r.blocks[0]?).map fun b => b.1.generation).getD 0
    let e : Remap := { disc := s.discKey h, home := home, spare := spare, gen := gen, reason := reason, seq := c.seq + 1 }
    let t := s.setCat { c with spares := storePut (fun _ => 0) c.spares (16 * s.discKey h + l) (n + 1), remaps := c.remaps ++ [e] }
    let t := t.catPut (t.fireDisc h).1 (some (t.fireDisc h).2) 2 (remapBody e)
    let t := t.count (firestatPage h) FIRESTAT.REMAPS
    let t := if firstFar then t.event firePage 0x4207 3 0xFF h else t
    let x : ReadySet := { r with sa := spare, kind := .remap home reason, blocks := spareBlocks spare r.blocks }
    let t := { t with fire := { t.fire with ready := t.fire.ready ++ [x] } }
    t.want h spare .blankScan

/-- A partly fired setting is remapped with REASON 3 (R272); header copies, witnesses and test settings
are not fired again (R266). -/
def State.partlyFired (s : State) (r : ReadySet) : State :=
  let t := s.event firePage 0x4204 3 0xFF r.sa
  match r.kind with
  | .layerHeader | .witness | .test _ => t
  | .forTwin => t
  | _ => t.remapSet r 3

/-! Which setting comes next (R255, R258) -/

/-- Kinds in the order in which they fire on a layer (R262, R266, R396). -/
def FireKind.rank : FireKind → Nat
  | .test _ => 0
  | .layerHeader => 1
  | .witness => 2
  | .journal => 4
  | .catalogue => 5
  | _ => 3

/-- The order of firing: kind, layer, recording order. -/
def ReadySet.key (r : ReadySet) : Nat := r.kind.rank * 2 ^ 24 + saLayer r.sa * 2 ^ 18 + recordingPos (saLayer r.sa) (saSetting r.sa)

/-- A layer of the disc under a head has been fired first (R266). -/
def State.layerOpen (s : State) (h layer : Nat) : Bool := s.st.cat.layersFired.contains (s.fireDiscId h, layer)

/-- A ready setting may be fired now on a scan: data, journal and catalogue wait for the first firing of their layer (R119,
R266). -/
def State.mayFire (s : State) (r : ReadySet) : Bool :=
  let f := s.fireHead r.head
  let first := s.fire.ready.any fun x => decide (x.head = r.head) && decide (saLayer x.sa = saLayer r.sa) && decide (x.kind.rank < 3)
  let open_ := s.layerOpen r.head (saLayer r.sa) || f.calibrated.contains (saLayer r.sa)
  f.scanned.contains r.sa && !s.noFire r.head && (decide (r.kind.rank < 3) || (open_ && !first)) &&
    -- while calibrating only test settings are fired, while closing no data; a run of W8 has no close of its own
    (let phase := (s.run (groupOf r.head)).phase
     match r.kind with
      | .test _ => decide (s.fireState r.head = 2)
      | .journal | .catalogue => decide (s.fireState r.head = 3) && (decide (phase = 5) || decide (r.head = 32 ∧ phase = 2))
      | .layerHeader | .witness => decide (s.fireState r.head = 3) && decide (phase = 2 ∨ phase = 5)
      | _ => decide (s.fireState r.head = 3) && decide (phase = 2) &&
          !(decide (r.head < 32) && s.fldBit stripePage STRIPE.SE_STAT_LANE_NOFIRE (r.head % 4)))

/-- Stripes of a ready data setting are journalled, and with MIRROR_REQ acknowledged by the twin (R394,
R395). -/
def State.stripeSafe (s : State) (x : StripeRec) : Bool :=
  x.journalled && (!s.flag journalPage JOURNAL.JR_CFG_MIRROR_REQ || !s.paired || (decide (x.msn ≠ 0) && decide (x.msn ≤ s.tw.acked)))
def State.journalled (s : State) (r : ReadySet) : Bool :=
  match r.kind with
  | .data k =>
    let i := ((zoneOfSa (k / 300) r.home).map fun z => z.2).getD 0
    (!s.jr.xspiFail || s.paired) && !(s.zone k).stopped && (List.range 4).all fun o => match s.stripe k (i + o) with
      | some x => s.stripeSafe x
      | none => true
  | _ => !s.jr.xspiFail || s.paired

/-- The least of the settings that may fire. -/
def State.nextReady (s : State) (h : Nat) : Option ReadySet :=
  (s.fire.ready.filter fun r => decide (r.head = h) && s.mayFire r).foldl (fun (a : Option ReadySet) r => match a with
    | some b => if r.key < b.key then some r else some b
    | none => some r) none

/-- Take a ready setting out of the list. -/
def State.takeReady (s : State) (r : ReadySet) : State :=
  { s with fire := { s.fire with ready := s.fire.ready.filter fun x => !(decide (x.head = r.head) && decide (x.sa = r.sa)) } }

/-- Replay completes the stripes of a setting (R399). -/
def State.replayed (s : State) (h sa : Nat) : Bool :=
  match zoneOfSa (h % 4) sa with
  | some (k, i) => decide (h < 32) && (s.stripe k i).any fun x => x.replay
  | none => false

/-- The data of settings that the scan found not blank goes to spares (R261); with REASON 3 where replay
completes a stripe or a rollback voided a block (R399). -/
def State.resolveCollisions (s : State) (h : Nat) : State :=
  let f := s.fireHead h
  let voided (r : ReadySet) : Bool := s.st.cat.marks.any fun m => decide (m.disc = s.discKey h) && decide (m.sa = r.sa) && decide (m.kind = 1)
  let hit := s.fire.ready.filter fun r => decide (r.head = h) && (f.collided.contains r.sa || voided r) && decide (r.kind.rank = 3)
  s.forEach hit fun u r => (u.takeReady r).remapSet r (if voided r || s.replayed h r.sa then 3 else 2)

/-- Settings whose re-firing data came from a full ladder read (R275). -/
def State.collectRefires (s : State) (h : Nat) : State :=
  let mine := s.pool.released.filter fun b => decide (b.head = h) && decide (b.why = .refire)
  let sas := (mine.map fun b => b.sa).eraseDups
  s.forEach sas fun u sa =>
    let bs := (List.range 4).filterMap fun k => (mine.find? fun b => decide (b.sa = sa) && decide (b.blk = k)).map fun b => (b.header, b.payload)
    if bs.length ≠ 4 then u
    else
      let home := match bs[0]? with
        | some (hd, _) => settingAddr (pbaLayer hd.homePba) (pbaSetting hd.homePba)
        | none => sa
      let u := u.setPool { u.pool with released := u.pool.released.filter fun b =>
        !(decide (b.head = h) && decide (b.sa = sa) && decide (b.why = .refire)) }
      u.remapSet { head := h, sa := home, kind := .remap home 1, blocks := bs } 1

/-! Beginning and arming -/

/-- The block header of a reserved kind (R112, R113): LANE and POSITION, the slot and stripe position of its sagger, apply to it as to
any block (log entry 155). -/
def State.reservedHeader (s : State) (h sa blk kind : Nat) : BlockHeader :=
  let pba := pbaOf (saLayer sa) (saSetting sa) blk
  { kind := kind, flags := flagClear, discId := s.fireDiscId h, pba := pba, homePba := pba, loadId := s.load.id, nsid := 0, zone := 0,
    lane := (s.fireDisc h).2, position := if h = 32 then s.st.rt.pos else (s.headPos h).getD 0, stripe := 0, width := 0, member := 0, generation := 0, nonce := 0, tag := 0,
    lbaFirst := 2 ^ 64 - 1, journalPtr := [], metadata := [] }

/-- Four blocks of a reserved kind. -/
def State.reservedBlocks (s : State) (h sa kind : Nat) (ps : List (List Nat)) : List (BlockHeader × List Nat) :=
  (List.range 4).map fun k => (s.reservedHeader h sa k kind, ps.getD k [])

/-- Block 1 of a header copy: the layer's ring table (R212). -/
def State.ringBlock (s : State) (h layer : Nat) : List Nat :=
  let be (bs : List Nat) : List Nat := bs.take 0x30 ++ (List.range 24).flatMap fun t => [bs.getD (0x31 + 2 * t) 0, bs.getD (0x30 + 2 * t) 0]
  let deflt : List Nat := List.replicate 16 64 ++ List.replicate 32 0 ++ (List.range 24).flatMap fun t =>
    bytesLE 2 (if t = 11 then 0x2000 else if t = 10 ∨ t = 12 then 0xFC00 else 0)
  (((List.range 21).flatMap fun k => be (match s.layerSlot (ringTable h) layer with
    | some j => s.winBytes (ringTable h + (if j = 0 then 0x40 else 0x820) + 96 * k) 96
    | none => deflt)) ++ List.replicate 65536 0).take 65536

/-- Block 2 of a header copy: the layer's pulse table (R268). -/
def State.pulseBlock (s : State) (h layer : Nat) : List Nat :=
  let es := (List.range 21).flatMap fun k => entryBE (s.pulseEntry h layer k)
  let ps := (List.range 21).flatMap fun k => bytesBE 2 (s.tablePower h layer k)
  (((es ++ List.replicate 1024 0).take 1024) ++ ps ++ List.replicate 65536 0).take 65536

/-- What a layer's header gives, as kept for layer jumps (R211). -/
def State.layerTables (s : State) (h layer : Nat) : Option LayerTables := storeFind (fun _ => none) s.host.tables (16 * h + layer)
def State.keepTables (s : State) (h layer : Nat) (x : LayerTables) : State :=
  { s with host := { s.host with tables := storePut (fun _ => none) s.host.tables (16 * h + layer) (some x) } }

/-- The four header copies and the 64 witnesses of a layer become ready (R119, R129, R266). The measured
depth has no measurement that the spec describes: a free value (log entry 2). -/
def State.firstFiring (s : State) (h layer : Nat) : State :=
  let (depth, t) := s.free
  let b1 := t.ringBlock h layer
  let b2 := t.pulseBlock h layer
  let b3 := List.replicate 65536 0
  let crcs := [b1, b2, b3].map crc32
  let top (z : Int) (w : Nat) : Nat := unsigned w (z / (2 : Int) ^ (32 - w))
  let saFf := top (t.saFf h layer) 16
  let foTl := top (t.foOfs h layer) 8 * 256 + top (t.tlStart h layer) 8
  let b0 := layerHeaderRecord layer (t.fireDisc h).2 (t.fireDiscId h) (t.fireDisc h).1 t.utc
    (ofBytesBE ((Config.sha384 Config.identityCert).take 8)) (depth % 65536) saFf foTl crcs
  let t := t.keepTables h layer { saFf := saFf, foTl := foTl, ring := b1.take 2016, pulse := b2.take 1066 }
  let copies := [0, 16, 32, 48].map fun g =>
    let sa := settingAddr layer g
    ({ head := h, sa := sa, kind := .layerHeader, blocks := t.reservedBlocks h sa 0x10 [b0, b1, b2, b3] } : ReadySet)
  let wits := (List.range 64).map fun i =>
    let sa := settingAddr layer (3136 + i)
    ({ head := h, sa := sa, kind := .witness, blocks := t.reservedBlocks h sa 0x13 ((List.range 4).map fun b => conePayload (3136 + i) b) } : ReadySet)
  { t with fire := { t.fire with ready := t.fire.ready ++ copies ++ wits } }

/-- The layer of the first setting of a head, of data before journal and catalogue, whose layer is still blank. -/
def State.blankLayer (s : State) (h : Nat) : Option Nat :=
  let mine (p : Nat → Bool) := s.fire.ready.filter fun r => decide (r.head = h) && p r.kind.rank
  ((mine (· == 3) ++ mine fun n => decide (3 < n)).find? fun r => !s.layerOpen h (saLayer r.sa)).map fun r => saLayer r.sa

/-- Blank settings of a layer's test-firing area that a scan found, lowest first. -/
def State.testBlank (s : State) (h layer : Nat) : List Nat :=
  ((List.range 1024).map fun i => settingAddr layer (64 + i)).filter fun sa => (s.fireHead h).scanned.contains sa

/-- The layer that a head is to calibrate: a blank layer of its data, or on request its present one
(R262). -/
def State.calLayer (s : State) (h : Nat) : Option Nat :=
  if (s.fireHead h).calDue then some (s.seqLayer h)
  else (s.blankLayer h).bind fun l => if (s.fireHead h).calibrated.contains l then none else some l

/-- The eight peak powers of a calibration (R262). -/
def testPower (base i : Nat) : Nat := base * (70 + 8 * i) / 100

/-- Make the 16 test settings of a calibration ready (R262), or go on with the default entries when
fewer than 16 remain blank (R265). -/
def State.beginCalibration (s : State) (h layer : Nat) : State :=
  let bs := s.testBlank h layer
  let f := s.fireHead h
  if bs.length < 16 then
    let t := s.event firePage 0x4209 4 0xFF h
    t.setFireHead h { f with calDue := false, calibrated := layer :: f.calibrated }
  else
    let base := entryPeak (s.pulseEntry h layer 0)
    let rs := (bs.take 16).zipIdx.map fun (sa, i) =>
      ({ head := h, sa := sa, kind := .test (testPower base (i / 2)), blocks := [] } : ReadySet)
    ({ s with fire := { s.fire with ready := s.fire.ready ++ rs } }).setFireState h 2

/-- A head begins to fire: calibration, first firing of a layer, or its ready settings. -/
def State.headBegin (s : State) (h : Nat) : State :=
  if !s.headObeys h || s.retired h then s
  else
    let t := (s.collectRefires h).resolveCollisions h
    let t := match t.calLayer h with
      | some l => t.beginCalibration h l
      | none => t
    if t.fireState h = 2 then t.send (.down h (.laser 2 (clampNat (t.ffld FIRE.READ_PWR_MIN) (t.ffld FIRE.READ_PWR_MAX) (t.readPower h))))
    else
      let t := match t.blankLayer h with
        | some l => if t.fire.ready.any (fun r => decide (r.head = h) && decide (r.kind.rank < 3)) then t else t.firstFiring h l
        | none => t
      if t.fire.ready.any fun r => decide (r.head = h) then
        (t.setFireState h 3).send (.down h (.laser 2 (clampNat (t.ffld FIRE.READ_PWR_MIN) (t.ffld FIRE.READ_PWR_MAX) (t.readPower h))))
      else t

/-- FIRING_BEGIN (R255, R262, R266): the wheels are at 4,500 rpm and heads with settings ready fire. -/
def execFiringBegin (g : RunIx) (s : State) : Res :=
  if (s.run g.val).phase ≠ 1 ∨ !(groupWheels g.val).all (fun w => s.wheelAt w 4500) then done s
  else
    let t := s.setRun g.val { phase := 2, start := s.now }
    done (t.forEach (groupHeads g.val) State.headBegin)

/-- The firing slot that is free. -/
def State.freeSlot (s : State) (h : Nat) : Option Nat := [0, 1].find? fun k => (s.armed h k).isNone

/-- Arm a slot with a setting: FIRE_ARM and its 1,665 chunks (R157, R258). -/
def State.armSlot (s : State) (h k : Nat) (r : ReadySet) : State :=
  let t := (s.takeReady r).setArmed h k (some r)
  let t := match r.kind with
    | .test p => t.tableLoad h (.tableLoad 1 (saLayer r.sa) 0 0 (blocks64 (entryWithPeak (t.pulseEntry h (saLayer r.sa) 0) p)))
    | _ => t
  let t := t.setFld (headPage h) (if k = 0 then HEAD.FIRE_STAT_SLOT0 else HEAD.FIRE_STAT_SLOT1) 1
  let t := t.send (.down h (.fireArm k r.sa))
  t.forEach (List.range 1665) fun u c => u.send (.down h (.fireData k c (fireChunk r c)))

/-- The stripe records of a setting are queued where they are not yet (R394). -/
def State.recordSetting (s : State) (r : ReadySet) : State :=
  match r.kind with
  | .data k => match zoneOfSa (k / 300) r.sa with
    | some (_, i) => s.forEach (List.range 4) fun u o => u.recordStripe k (i + o)
    | none => s
  | _ => s

/-- SETTING_ARM (R258, R259, R394, R395): a firing head with its permit arms a free slot with the next
setting that a scan found blank. -/
def execSettingArm (h : HeadIx) (s : State) : Res :=
  if !s.accepts (headPage h.val) ∨ !s.headFires h.val ∨ s.fire.holdup ∨ s.svc.hold ∨ (s.fireHead h.val).stopping ∨ !s.headObeys h.val ∨ !s.permit h.val ∨ s.retired h.val then done s
  else match s.freeSlot h.val, s.nextReady h.val with
    | some k, some r => if s.journalled r then done (s.armSlot h.val k r) else done (s.recordSetting r)
    | _, _ => done s

/-! FIRE_EVENT (R154, R158, R257, R272) -/

/-- A setting has fired: the journal is told, and the setting waits for its bisque read. -/
def State.setFired (s : State) (h : Nat) (r : ReadySet) : State :=
  let f := s.fireHead h
  let t := s.count (firestatPage h) FIRESTAT.FIRED
  let t := t.setFireHead h { t.fireHead h with await := f.await ++ [r], scanned := f.scanned.filter fun x => x != r.sa }
  let pos := (t.headPos h).getD 0
  match r.kind with
  | .data k => t.settingFired k r.sa pos
  | .remap home _ => match zoneOfSa (h % 4) home with
    | some (k, _) => if h = 32 then t else t.settingFired k home pos
    | none => t
  | .forTwin => t.tSend clsFire (.fireReport h r.sa 3 71 none)
  | .layerHeader =>
    let p := (t.fireDiscId h, saLayer r.sa)
    if t.st.cat.layersFired.contains p then t else t.setCat { t.st.cat with layersFired := t.st.cat.layersFired ++ [p] }
  | .test _ =>
    let f := t.fireHead h
    let l := saLayer r.sa
    t.setFireHead h { f with
      tests := storePut (fun _ => 0) f.tests l (storeFind (fun _ => 0) f.tests l + 1)
      mons := storePut (fun _ => (0, 0)) f.mons r.sa f.mon }
  | .catalogue =>
    let d := t.fireDisc h
    let seqs := r.blocks.flatMap fun b => (recordsOf 8192 b.2).map fun x => x.2.1
    t.setCat { t.st.cat with recs := t.st.cat.recs.map fun x =>
      if x.serial = d.1 ∧ (x.slot = none ∨ x.slot = some d.2) ∧ seqs.contains x.seq ∧ !x.fired.contains d.2 then { x with fired := x.fired ++ [d.2] } else x }
  | _ => t

/-- The slot of a head armed with a setting. -/
def State.slotOfSetting (s : State) (h sa : Nat) : Option Nat :=
  [0, 1].find? fun k => match s.armed h k with
    | some r => decide (r.sa = sa)
    | none => false

/-- Empty a slot; the setting in progress is over. -/
def State.slotEmpty (s : State) (h k : Nat) : State :=
  let t := (s.setArmed h k none).setFld (headPage h) (if k = 0 then HEAD.FIRE_STAT_SLOT0 else HEAD.FIRE_STAT_SLOT1) 0
  if (t.fireHead h).firing = some k then t.setFireHead h { t.fireHead h with firing := none } else t

/-- TRIM_NOW (R280). -/
def State.showTrims (s : State) (h : Nat) (ts : List Int) : State :=
  s.setPair (firestatPage h) FIRESTAT.TRIM_NOW_LO FIRESTAT.TRIM_NOW_HI ((ts.zipIdx.map fun (t, b) => unsigned 4 t * 16 ^ b).sum)

/-- A setting begins (R271): trims start afresh at a ring or layer entry. -/
def State.settingStarted (s : State) (h k : Nat) (r : ReadySet) : State :=
  let place := (saLayer r.sa, ringOfSetting (saSetting r.sa))
  let f := s.fireHead h
  let t := s.setFireHead h { f with
    firing := some k, segs := 0, mon := (0, 0), bound := List.replicate 16 0, half := none, place := some place,
    trims := if f.place = some place then f.trims else entryTrims (s.pulseEntry h place.1 place.2),
    every := if f.place = some place then f.every else List.replicate 16 0 }
  let t := if f.place = some place then t else t.showTrims h (t.fireHead h).trims
  t.setFld (headPage h) (if k = 0 then HEAD.FIRE_STAT_SLOT0 else HEAD.FIRE_STAT_SLOT1) 3

/-- The setting that an event of an unknown slot concerns, as the next owner finds it (R165, R272). -/
def State.foundSetting (s : State) (h sa : Nat) : Option ReadySet :=
  match s.fire.ready.find? fun r => decide (r.head = h) && decide (r.sa = sa) with
  | some r => some r
  | none => match zoneOfSa (h % 4) sa, s.headPos h with
    | some (k, first), some pos => (s.settingBlocks k first pos).map fun bs => { head := h, sa := sa, kind := .data k, blocks := bs }
    | _, _ => none

/-- FIRE_EVENT. 1 armed, 2 started, 3 done, 4 skipped, 5 stopped at a boundary, 6 stopped immediately,
7 refused, 8 stopped by loss. -/
def State.fireEvent (s : State) (h : Nat) (b : FireEventBody) : State :=
  let slot := s.slotOfSetting h b.setting
  let armed := slot.bind fun k => (s.armed h k).map fun r => (k, r)
  match b.event.val, armed with
  | 2, some (k, r) => s.settingStarted h k r
  | 3, some (k, r) => ((if h < 32 then s.applyCfg stripePage else s).slotEmpty h k).setFired h r
  | 4, a =>
    let t := match a with
      | some (k, _) => (s.unarm h k).slotEmpty h k
      | none => s
    (t.count (headPage h) HEAD.FIRE_SKIP).istat (headPage h) 13
  | 5, _ => let t := s.unarmIdle h
            t.setFireHead h { t.fireHead h with stopping := false }
  | 6, some (k, r) => ((s.slotEmpty h k).unarmIdle h).partlyFired r
  | 7, some (k, _) => (s.unarm h k).slotEmpty h k
  | 8, some (k, r) => ((s.slotEmpty h k).unarmIdle h).partlyFired r
  | 8, none => match s.foundSetting h b.setting with
    | some r => (s.takeReady r).partlyFired r
    | none => s
  | _, _ => s

/-! Running power control (R271) -/

/-- One beam's trim after a segment: trim, count toward the fourth segment. -/
def rpcStep (t : Int) (every target dead shift mon : Nat) : Int × Nat :=
  let d := if target ≤ mon then mon - target else target - mon
  if dead * target < d * 256 then
    let by_ : Int := if target ≤ mon then 1 else -1
    if target ≤ d * 2 ^ shift then (clampInt (-8) 7 (t + by_), every)
    else if every = 3 then (clampInt (-8) 7 (t + by_), 0)
    else (t, every + 1)
  else (t, every)

/-- Both halves of a segment have been reported: the readings count for a calibration (R262), and the trims follow (R271). -/
def State.rpcSegment (s : State) (h seg : Nat) (mon : List Nat) : State :=
  let f := s.fireHead h
  let f := { f with mon := (f.mon.1 + mon.sum, f.mon.2 + mon.length) }
  let s := s.setFireHead h f
  let target := match f.place with
    | some (l, r) => entryRpc (s.pulseEntry h l r)
    | none => 0
  if s.ffld FIRE.RPC_EN = 0 ∨ target = 0 ∨ f.firing = none then s
  else
    let shift := clampNat 1 8 (s.ffld FIRE.RPC_GAIN_SHIFT)
    let new := (List.range 16).map fun b =>
      rpcStep (f.trims.getD b 0) (f.every.getD b 0) target (s.ffld FIRE.RPC_DEADBAND) shift (mon.getD b 0)
    let ts := new.map fun x => x.1
    let bound := (List.range 16).map fun b =>
      f.bound.getD b 0 + boolNat (decide (ts.getD b 0 = 7) || decide (ts.getD b 0 = -8))
    let n := f.segs + 1
    let t := s.setFireHead h { f with trims := ts, every := new.map (fun x => x.2), bound := bound, segs := n, half := none }
    let t := if ts = f.trims then t else (t.send (.down h (.pwrTrim ((seg + 2) % 72) ts))).showTrims h ts
    if n = 72 then t.forEach (List.range 16) fun u b => if bound.getD b 0 = 72 then u.event firePage 0x420C 3 b h else u
    else t

/-- FIRE_MON (R154, R271): twice per fired segment, eight beams each. -/
def execFireMon (h : HeadIx) (segment : Fin 256) (half : Fin 2) (power : List Nat) (s : State) : Res :=
  if power.length ≠ 8 then .fault (.malformed "FIRE_MON: eight beams")
  else
    let f := s.fireHead h.val
    let first := match f.half with
      | some (n, p) => if n = 2 * segment.val + (1 - half.val) then some p else none
      | none => none
    match first with
    | some p => done (s.rpcSegment h.val segment.val (if half.val = 1 then p ++ power else power ++ p))
    | none => done (s.setFireHead h.val { f with half := some (2 * segment.val + half.val, power) })

/-- LASER_MON (R154, R272, R277): read power, laser current and temperature; a read power outside
READ_PWR_MIN and READ_PWR_MAX while the head fires stops it at once (log entry 30). -/
def execLaserMon (h : HeadIx) (power current : Nat) (temp : BitVec 16) (s : State) : Res :=
  let t := s.setLink h.val { s.link h.val with laserPower := power, laserCurrent := current, laserTemp := temp.toInt }
  if t.headFires h.val && !t.powerOk power then
    let t := t.dropFiring h.val
    done (t.setFireHead h.val { t.fireHead h.val with stops := (t.fireHead h.val).stops + 1 })
  else done t

/-! Ownership -/

/-- A head's owner changes (R259): scan results are not inherited; what was armed is ready again. -/
def State.fireOwnerLost (s : State) (h : Nat) : State :=
  let t := s.forEach [1, 0] fun u k => (u.unarm h k).slotEmpty h k
  (t.setFireHead h { t.fireHead h with scanned := [], collided := [], firing := none, stopping := false }).setFireState h 0

end Sys2Proof.Machine
end

