-- ==== Sys2Proof/Machine/RunEnd.lean ====
section
/-!
DEFINITION. The end of a firing run: run close (R396, R401), the bisque pass and the blank scans that it
asks for (R255, R256, R260, R273).
-/
namespace Sys2Proof.Machine

/-! Run close (R396, R401) -/

/-- A setting goes to the head that fires it: here, or by MEMBER messages to the twin (R384, R551). -/
def State.queueSet (s : State) (r : ReadySet) : State :=
  if s.headObeys r.head || !s.paired then { s with fire := { s.fire with ready := s.fire.ready ++ [r] } }
  else s.forEach r.blocks.zipIdx fun u (b, k) =>
    u.sendMember r.head r.sa k { pos := b.1.position, header := b.1, payload := b.2 }

/-- Cut a list into pieces of n. -/
def chunksOf {α : Type} (n : Nat) : Nat → List α → List (List α)
  | 0, _ => []
  | k + 1, l => if l.isEmpty then [] else l.take n :: chunksOf n k (l.drop n)

/-- Records of a lane that a close fires (R393): zone, void and run records, and stripe records still
live, the current ones. -/
def State.closeRecords (s : State) (lane : Nat) : List JRec :=
  let new := s.jr.hbm.filter fun r => decide (s.jr.closed < r.seq) && (decide (r.ty = 5) || decide (r.zone / 300 = lane))
  let latest (r : JRec) : Bool := !new.any fun o => jSame r o && decide (r.seq < o.seq) && decide (r.ty = 1 ∨ r.ty = 2)
  new.filter fun r => latest r && (decide (r.ty ≠ 1) || s.jLive r) && decide (r.ty ≠ 4)

/-- Fire a lane's journal blocks to its two copies: 1,024 records a block, four blocks a setting. -/
def State.closeLane (s : State) (lane : Nat) : State :=
  let rs := s.closeRecords lane
  let sets := chunksOf 4096 rs.length rs
  s.forEach (s.journalCopies lane) fun u (slot, pos) =>
    match u.memberHead slot pos with
    | none => u
    | some h => u.forEach sets fun v set =>
        let n := v.journalUsed slot pos
        let sa := journalSetting n
        let ps := (List.range 4).map fun b => ((set.drop (1024 * b)).take 1024).flatMap jrecBytesBE
        let v := v.setCat { v.st.cat with journalUsed := storePut (fun _ => 0) v.st.cat.journalUsed (v.journalDisc slot pos) (n + 1) }
        v.queueSet { head := h, sa := sa, kind := .journal, blocks := v.reservedBlocks h sa 0x12 ps }

/-- Records packed into block payloads: none spans two blocks (R123). -/
def packRecords (rs : List (List Nat)) : List (List Nat) :=
  (rs.foldl (fun (acc : List (List Nat)) r => match acc with
    | [] => [r]
    | b :: bs => if b.length + r.length ≤ 65536 then (b ++ r) :: bs else r :: b :: bs) []).reverse

/-- Fire a disc's new catalogue records to both its areas (R123, R401). Records are the head owner's to fire; while
those of an earlier close still wait, no further ones join. -/
def State.closeCatalogue (s : State) (h : Nat) : State :=
  let rs := s.newRecords h
  let isCat (r : ReadySet) : Bool := decide (r.head = h) && decide (r.kind = .catalogue)
  let queued := s.fire.ready.any isCat || [0, 1].any fun k => (s.armed h k).any isCat
  if rs.isEmpty || queued || !s.headObeys h || s.noFire h then s
  else
    let sets := chunksOf 4 rs.length (packRecords (rs.map fun r => catalogueRecord r.ty r.seq r.body))
    let n := s.areaUsed h
    if 1024 < n + sets.length then s.event stripePage 0x510D 4 0xFF h
    else
      let t := s.setAreaUsed h (n + sets.length)
      t.forEach sets.zipIdx fun u (set, i) => u.forEach [0, 9] fun v layer =>
        let sa := catalogueSetting layer (n + i)
        v.queueSet { head := h, sa := sa, kind := .catalogue, blocks := v.reservedBlocks h sa 0x11 set }

/-- The next catalogue and journal settings of a disc, to be scanned (R260, R396; log entry 33). -/
def State.nextReserved (s : State) (h : Nat) : List Nat :=
  let n := s.areaUsed h
  let cat := (List.range 16).flatMap fun i => if n + i < 1024 then [catalogueSetting 0 (n + i), catalogueSetting 9 (n + i)] else []
  let pos := (s.headPos h).getD 0
  let holds := (List.range 4).any fun l => (s.journalCopies l).contains (h % 4, pos)
  let j := if h < 32 ∧ holds then (List.range 16).map fun i => journalSetting (s.journalUsed (h % 4) pos + i) else []
  cat ++ j

/-- A reserved setting that a scan found not blank counts as used, and what was to be fired there takes the next one of its
area (log entry 33). -/
def State.reservedTaken (s : State) (h sa : Nat) : State :=
  let again (t : State) (r : ReadySet) (sa' : Nat) : State :=
    let bs := r.blocks.zipIdx.map fun (b, k) =>
      let pba := pbaOf (saLayer sa') (saSetting sa') k
      ({ b.1 with pba := pba, homePba := pba }, b.2)
    ((t.takeReady r).queueSet { r with sa := sa', blocks := bs }).want h sa' .blankScan
  let n := s.areaUsed h
  let j := storeFind (fun _ => 0) s.st.cat.journalUsed (s.discKey h)
  let setJ (k : Nat) : State := s.setCat { s.st.cat with journalUsed := storePut (fun _ => 0) s.st.cat.journalUsed (s.discKey h) k }
  match s.fire.ready.find? fun r => decide (r.head = h) && decide (r.sa = sa) with
  | some r => match r.kind with
    | .journal => again (setJ (j + 1)) r (journalSetting j)
    | .catalogue =>
      if n < 1024 then again (s.setAreaUsed h (n + 1)) r (catalogueSetting (saLayer sa) n)
      else (s.takeReady r).event stripePage 0x510D 4 0xFF h
    | _ => s
  | none =>
    match (List.range 16).find? fun i => decide (catalogueSetting 0 (n + i) = sa) || decide (catalogueSetting 9 (n + i) = sa),
      (List.range 16).find? fun i => decide (journalSetting (j + i) = sa) with
    | some i, _ => s.setAreaUsed h (n + i + 1)
    | none, some i => setJ (j + i + 1)
    | none, none => s

/-- A head fires what is ready for the close. -/
def State.closeHead (s : State) (h : Nat) : State :=
  if s.fire.ready.any (fun r => decide (r.head = h) && decide (4 ≤ r.kind.rank)) then
    (s.setFireHead h { s.fireHead h with stopping := false }).headBegin h
  else s

/-- The run close (R396): at the end of a firing run, or of Unmount Load, once every record is in HBM. -/
def State.runClose (s : State) : State :=
    let t := if s.flag journalPage JOURNAL.JR_CFG_DISC_EN then s.forEach (List.range 4) State.closeLane else s
    let t := t.setJr { t.jr with closed := t.fld journalPage JOURNAL.JR_SEQ }
    let t := t.forEach (List.range 32) State.closeCatalogue
    let t := t.setRun 0 { t.run 0 with phase := 5 }
    (t.forEach (List.range 32) State.closeHead).pendingShow

/-! The bisque pass and the blank scan (R260, R273) -/

/-- Zones that a head's lane is firing (R260). -/
def State.firingZones (s : State) (h : Nat) : List Nat :=
  if h = 32 then []
  else ((List.range 300).map fun z => 300 * (h % 4) + z).filter fun k =>
    let z := s.zone k
    decide (z.ns ≠ 0) && decide (1 ≤ z.state ∧ z.state ≤ 4) && decide (z.fired < stripesPerZone) && (decide (z.state ≠ 4) || decide (z.fired < z.enc))

/-- Settings that a head is to scan: from the first unfired one of each zone to PLAN_AHEAD past its write
pointer, settings that are ready, what a blank layer's first firing needs, the next catalogue and
journal settings (log entry 33). -/
def State.scanList (s : State) (h : Nat) : List Nat :=
  let ahead := s.ffld FIRE.PLAN_AHEAD
  let zs := s.firingZones h
  let data := zs.flatMap fun k =>
    let z := s.zone k
    let a := z.fired / 4
    let b := min 8192 (z.enc / 4 + ahead)
    (List.range (b - a)).map fun i => settingAddr (zoneLayer (k % 300)) (zoneSetting (k % 300) (a + i))
  let layers := ((zs.map fun k => zoneLayer (k % 300)) ++ ((s.fire.ready.filter fun r => decide (r.head = h)).map fun r => saLayer r.sa) ++
    (s.nextReserved h).map saLayer).eraseDups
  let layers := if (s.fireHead h).calDue then (s.seqLayer h :: layers).eraseDups else layers
  let blank := layers.filter fun l => !s.layerOpen h l || (s.fireHead h).calDue
  let test := blank.flatMap fun l => (List.range 1024).map fun i => settingAddr l (64 + i)
  let first := blank.flatMap fun l => ([0, 16, 32, 48] ++ (List.range 64).map fun i => 3136 + i).map fun g => settingAddr l g
  let ready := (s.fire.ready.filter fun r => decide (r.head = h)).map fun r => r.sa
  let known := (s.fireHead h).scanned ++ (s.fireHead h).collided ++ (s.fireHead h).await.map fun r => r.sa
  (data ++ ready ++ test ++ first ++ s.nextReserved h).eraseDups.filter fun sa => !known.contains sa

/-- Ask a head for the scans that it needs. -/
def State.wantScans (s : State) (h : Nat) : State :=
  if s.headObeys h && !s.retired h then s.forEach (s.scanList h) fun u sa => u.want h sa .blankScan else s

/-- STATE of a head outside firing: 4 bisque, 1 blank scan, 0 idle. -/
def State.passState (s : State) (h : Nat) : State :=
  let has (w : ReadFor) : Bool := s.pool.wants.any fun r => decide (r.head = h) && decide (r.why = w)
  s.setFireState h (if !(s.fireHead h).await.isEmpty then 4 else if has .blankScan then 1 else 0)

/-- The bisque pass of a group is over once every setting has its verdict (R273). -/
def State.passOver (s : State) (g : Nat) : State :=
  if (s.run g).phase ≠ 3 then s
  else if (groupHeads g).any fun h => !(s.fireHead h).await.isEmpty then s
  else
    let t := s.setRun g { phase := 0, start := 0 }
    if g = 1 ∧ s.fld stripePage STRIPE.RT_STAT_STATE = 5 then t.setSt { t.st with rt := { t.st.rt with finalRun := true } } else t

/-- Wheels return to 9,000 rpm; each head reads back what it fired, in recording order, then scans. -/
def State.beginPass (s : State) (g : Nat) : State :=
  let t := s.commandWheels g 9000
  let t := t.setRun g { t.run g with phase := 3 }
  let t := t.forEach (groupHeads g) fun u h =>
    let u := if u.headFires h then u.stopBoundary h else u
    let u := u.setFireHead h { u.fireHead h with stopping := false }
    let u := u.forEach (u.fireHead h).await fun v r => match r.kind with
      | .test _ => v.want h r.sa .calibration
      | _ => v.want h r.sa .bisque
    (u.wantScans h).passState h
  t.passOver g

/-- Nothing that a group's heads could still arm or are firing. -/
def State.runIdle (s : State) (g : Nat) : Bool :=
  (groupHeads g).all fun h => (s.armed h 0).isNone && (s.armed h 1).isNone && (s.nextReady h).isNone

/-- A head that fires has reached the end of its scanned area (R256): settings of its own are ready, and the scan allows none. -/
def State.scanEnded (s : State) (h : Nat) : Bool :=
  s.headFires h && (s.armed h 0).isNone && (s.armed h 1).isNone && (s.nextReady h).isNone &&
  s.fire.ready.any fun r => decide (r.head = h) && (match r.kind with
    | .data _ | .rethrow | .forTwin => !(s.fireHead h).scanned.contains r.sa && !(s.fireHead h).collided.contains r.sa
    | _ => false)

/-- FIRING_RUN_END (R256, R272, R273): with nothing left that a scan allows to be fired, or with one head at the end of its scanned
area, heads stop and the run closes; after the close the wheels return to 9,000 rpm for the bisque pass. -/
def execFiringRunEnd (g : RunIx) (s : State) : Res :=
  let ph := (s.run g.val).phase
  if ph = 2 ∧ (s.runIdle g.val ∨ (groupHeads g.val).any s.scanEnded) then
    let t := s.endRun g.val
    if g.val = 0 then done t else done (t.beginPass g.val)
  else if g.val = 1 ∧ ph = 4 ∧ s.runIdle 1 then done (s.beginPass 1)
  else if g.val = 0 ∧ ph = 5 ∧ s.runIdle 0 then done (s.beginPass 0)
  else done s

end Sys2Proof.Machine
end

