-- ==== Sys2Proof/Machine/Bisque.lean ====
section
/-!
DEFINITION. The blank check, calibration, the bisque check and write retirement (R259-R265, R273-R278);
the journal write that lets members go to the twin (R394, R551).
-/
namespace Sys2Proof.Machine

/-! Figures -/

/-- The oldest figures of a head for a read of a kind that is under way; figures of other reads are of no use. -/
def State.figFor (s : State) (h : Nat) (w : ReadFor) : Option SettingFig :=
  (s.pool.figs.find? fun f => decide (f.1 = h) && (match s.wanted h f.2.sa with
    | some r => decide (r.why = w) && r.on
    | none => false)).map fun f => f.2

/-- Figures of a setting. -/
def State.figOf (s : State) (h sa : Nat) : Option SettingFig :=
  (s.pool.figs.find? fun f => decide (f.1 = h) && decide (f.2.sa = sa)).map fun f => f.2

/-- Drop a setting's figures. -/
def State.dropFig (s : State) (h sa : Nat) : State :=
  s.setPool { s.pool with figs := s.pool.figs.filter fun f => !(decide (f.1 = h) && decide (f.2.sa = sa)) }

/-! The blank check (R259-R261) -/

/-- Stop firing a zone on every member (R261, R475): it becomes Read Only. -/
def State.zoneStop (s : State) (k : Nat) : State :=
  let z := s.zone k
  let t := s.setZone k { z with stopped := true, state := if z.state = 4 then 4 else 5 }
  ((t.zoneRecord k).event firePage 0x4203 5 0xFF k).addInt k 32

/-- The data setting of a zone that a head's scan concerns. -/
def scanZone (h sa : Nat) : Option Nat :=
  if h = 32 then none else (zoneOfSa (h % 4) sa).map fun z => z.1

/-- A collision (R261): never fired, its data to a spare with REASON 2. -/
def State.collision (s : State) (h sa : Nat) : State :=
  let f := s.fireHead h
  let t := s.setFireHead h { f with collided := sa :: f.collided }
  if s.replayed h sa then t.resolveCollisions h else
  let t := (t.count (firestatPage h) FIRESTAT.COLLISIONS).event firePage 0x4202 4 0xFF sa
  let t := match scanZone h sa with
    | some k =>
      let z := t.zone k
      let u := t.setZone k { z with collide := z.collide + 1 }
      if max 1 (u.ffld FIRE.COLLIDE_MAX) ≤ z.collide + 1 ∧ !z.stopped then u.zoneStop k else u
    | none => t
  t.resolveCollisions h

/-- A remap spare found not blank (R261): used, without a remap entry; the data takes the next spare. -/
def State.skipSpare (s : State) (h : Nat) (r : ReadySet) (home reason : Nat) : State :=
  let c := s.st.cat
  let t := s.setCat { c with
    remaps := c.remaps.filter fun e => !(decide (e.disc = s.discKey h) && decide (e.spare = r.sa))
    recs := c.recs.filter fun e => !e.fired.isEmpty || !(decide (e.ty = 2) && decide (e.serial = (s.fireDisc h).1) && decide (e.body.drop 4 |>.take 4 |> (· = bytesBE 4 r.sa))) }
  (t.takeReady r).remapSet { r with sa := home, kind := .remap home reason } reason

/-- What a blank scan of one setting found (R259, R260, R398). -/
def State.blankScanned (s : State) (h : Nat) (g : SettingFig) : State :=
  let t := (s.unwant h g.sa).dropFig h g.sa
  let f := t.fireHead h
  let t :=
    if g.blank = 72 then
      let t := t.setFireHead h { f with scanned := g.sa :: f.scanned }
      match scanZone h g.sa with
      | some k => t.setZone k { t.zone k with collide := 0 }
      | none => t
    else
      match t.fire.ready.find? fun r => decide (r.head = h) && decide (r.sa = g.sa) with
      | some r => match r.kind with
        | .remap home reason => t.skipSpare h r home reason
        | .data _ | .rethrow | .forTwin => t.collision h g.sa
        | _ => (t.setFireHead h { f with collided := g.sa :: f.collided }).reservedTaken h g.sa
      | none => match scanZone h g.sa with
        -- a setting fired after the last record that any source holds (R398)
        | some k => if (t.zone k).replaying then t.want h g.sa .catalogue else t.collision h g.sa
        | none => (t.setFireHead h { f with collided := g.sa :: f.collided }).reservedTaken h g.sa
  t.passState h

/-! Calibration (R262-R265) -/

/-- Rounded quotient. -/
def roundDiv (a : Int) (b : Nat) : Int := if b = 0 then 0 else (2 * a + b) / (2 * b)

/-- The optimum power of a beam from its mean MSE at the eight powers, where it has one: the minimum of the parabola
through the lowest and its neighbours, held between the outer powers (R262; log entry 31). -/
def beamOptimum (base : Nat) (m : List (Option Int)) : Option Nat :=
  let v (i : Nat) : Option Int := m.getD i none
  let best := (List.range 8).foldl (fun (b : Option (Nat × Int)) j => match v j, b with
    | some x, some (_, y) => if x < y then some (j, x) else b
    | some x, none => some (j, x)
    | none, b => b) none
  best.map fun (i, c) =>
    match (if i = 0 then none else v (i - 1)), v (i + 1) with
    | some a, some b =>
      let den := 2 * (a - 2 * c + b)
      if den ≤ 0 then testPower base i
      else (clampInt (testPower base 0) (testPower base 7)
        (roundDiv ((base : Int) * ((70 + 8 * i) * den + 8 * (a - b))) (100 * den.toNat))).toNat
    | _, _ => testPower base i

/-- A trim in steps of 1/64 of a power (R270). -/
def trimOf (opt med : Nat) : Int := if med = 0 then 0 else clampInt (-8) 7 (roundDiv (64 * ((opt : Int) - med)) med)

/-- Put a calibration's entries into a layer slot (R262, R264, R268). -/
def State.writeLayer (s : State) (h layer : Nat) (e0 : List Nat) : State :=
  let slot := s.tableSlot (pulsePage h) h layer
  let powers := (List.range 21).map fun k => s.tablePower h layer k
  let t := s.claimSlot (pulsePage h) h layer
  t.forEach (powers.zipIdx) fun u (p, k) =>
    let e := entryWithPeak e0 (min 0xFFFF (ringPeak (entryPeak e0) u.velExp k))
    (u.setWinBytes (pulseEntryAt h slot k) e).setWinBytes (readPowerAt h slot k) (bytesLE 2 p)

/-- BLANK_SCAN_DONE (R259): a setting is blank when its 72 segment positions are. -/
def execBlankScanDone (h : HeadIx) (s : State) : Res :=
  match s.figFor h.val .blankScan with
  | none => done s
  | some g => done (s.blankScanned h.val g)

/-- Test settings fired at the i-th power. -/
def testsAt (base : Nat) (tests : List ReadySet) (i : Nat) : List ReadySet :=
  tests.filter fun r => decide (r.kind = .test (testPower base i))

/-- A beam's mean MSE over the test settings of a power (R262). -/
def State.testMse (s : State) (h base : Nat) (tests : List ReadySet) (i b : Nat) : Option Int :=
  let zs := (testsAt base tests i).filterMap fun r => (s.figOf h r.sa).bind fun g => g.beams.getD b none
  if zs.isEmpty then none else some (zs.sum.tdiv (zs.length : Int))

/-- The mean FIRE_MON reading of all beams over the test settings of a power (R262). -/
def State.testMon (s : State) (h base : Nat) (tests : List ReadySet) (i : Nat) : Nat :=
  let ms := (testsAt base tests i).map fun r => storeFind (fun _ => (0, 0)) (s.fireHead h).mons r.sa
  (ms.map fun m => m.1).sum / (ms.map fun m => m.2).sum

/-- A head's layer is calibrated from what its bisque pass read of the test settings (R262). A beam without figures has no
optimum and keeps trim 0 (log entry 31). -/
def State.calibrateHead (s : State) (h : Nat) (tests : List ReadySet) (r : ReadySet) : State :=
  let layer := saLayer r.sa
  let e := s.pulseEntry h layer 0
  let base := entryPeak e
  let opts := (List.range 16).map fun b => beamOptimum base ((List.range 8).map fun i => s.testMse h base tests i b)
  let med := ((lowerMedian (opts.filterMap fun o => o.map fun n => (n : Int))).getD base).toNat
  let dist (i : Nat) : Nat := ((testPower base i : Int) - med).natAbs
  let near := (List.range 8).foldl (fun b j => if dist j < dist b then j else b) 0
  let e0 := bytesLE 2 med ++ (e.drop 2).take 24 ++ bytesLE 2 (s.testMon h base tests near) ++
    bytesLE 8 ((opts.zipIdx.map fun (o, b) => unsigned 4 ((o.map fun n => trimOf n med).getD 0) * 16 ^ b).sum) ++ e.drop 0x24
  let t := s.forEach tests fun u x => (u.unwant h x.sa).dropFig h x.sa
  let t := (t.writeLayer h layer e0).loadLayer h layer
  let t := t.setFireHead h { t.fireHead h with
    await := (s.fireHead h).await.filter fun x => decide (x.kind.rank ≠ 0)
    mons := [], calDue := false, calibrated := layer :: (s.fireHead h).calibrated }
  (t.passState h).passOver (groupOf h)

/-- CALIBRATION (R262): once the bisque pass has read every test setting fired. -/
def execCalibration (h : HeadIx) (_ _ : Computed) (s : State) : Res :=
  let tests := (s.fireHead h.val).await.filter fun r => decide (r.kind.rank = 0)
  match tests with
  | [] => done s
  | r :: _ => if tests.all fun x => (s.figOf h.val x.sa).isSome then done (s.calibrateHead h.val tests r) else done s

/-! The bisque check (R273-R275) -/

/-- A setting misses (R274). Dead and masked beams are out of the figures already (R210). -/
def State.bisqueMiss (s : State) (x : SettingRd) (g : SettingFig) : Bool :=
  let slots := (List.range 72).map x.slot
  let fails := (slots.filter fun r => !decide (r.st = .pass)).length
  let iters := (slots.map fun r => r.iters).sum
  decide (s.ffldIn FIRE.BQ_FAIL_MAX 0 4 < fails) || decide (s.ffld FIRE.BQ_ITER_MAX * 72 < iters * 16) ||
  decide (signed 12 (s.ffld FIRE.BQ_MSE_MAX) < g.mse) || decide (s.ffld FIRE.BQ_FLY_MAX < g.fly) || decide (0 < g.miss)

/-- The verdict's counters (R274, R280). -/
def State.countVerdict (s : State) (h : Nat) (sa : Nat) (miss : Bool) (mse : Int) : State :=
  let p := firestatPage h
  let f := s.fireHead h
  let margins := ((signed 12 (s.ffld FIRE.BQ_MSE_MAX) - mse) :: f.margins).take 256
  let t := (s.count p FIRESTAT.BQ_CHECKED).setFldS p FIRESTAT.BQ_MARGIN (margins.sum.tdiv (margins.length : Int))
  let t := t.setFireHead h { t.fireHead h with
    margins := margins, misses := (miss :: f.misses).take (max 1 (s.ffld FIRE.RETIRE_WIN)) }
  if miss then (t.count p FIRESTAT.BQ_MISS).setFld p FIRESTAT.LAST_MISS sa else t

/-- A cone trend record (R405). -/
def coneBody (disc layer read excluded flags time : Nat) (delta : Int) (iter ber fails : Nat) : List Nat :=
  bytesBE 8 disc ++ [layer, read, excluded, flags] ++ bytesBE 8 time ++ bytesBE 2 (unsigned 16 delta) ++ bytesBE 2 iter ++
    bytesBE 4 ber ++ bytesBE 2 fails ++ [0, 0]

/-- Baseline of a witness of a disc, by disc and setting (R266). -/
def witnessKey (disc sa : Nat) : Nat := disc * 2 ^ 22 + sa

/-- The figures of a witness that has been read at L0 (R405, R417). -/
def SettingRd.witness (x : SettingRd) (mse : Int) : WitnessFig :=
  let slots := (List.range 72).map x.slot
  { mse := mse, iters := (slots.map fun r => r.iters).sum * 256 / 72, errors := (slots.map fun r => r.raw.1).sum,
    bits := (slots.map fun r => r.raw.2).sum, fails := (slots.filter fun r => !decide (r.st = .pass)).length }

/-- Coded-bit errors per 2^32 coded bits (R405). -/
def rawBer (ws : List WitnessFig) : Nat :=
  let bits := (ws.map fun w => w.bits).sum
  if bits = 0 then 0 else (ws.map fun w => w.errors).sum * 2 ^ 32 / bits

/-- A witness has its verdict (R266): its figures are the baseline, a miss excludes it from trends; after
the last witness of the layer the baseline record is made. -/
def State.witnessDone (s : State) (h : Nat) (r : ReadySet) (miss : Bool) (w : WitnessFig) : State :=
  let disc := s.fireDiscId h
  let layer := saLayer r.sa
  let c := s.st.cat
  let t := s.setCat { c with
    baseline := storePut (fun _ => ⟨0, 0, 0, 0, 0⟩) c.baseline (witnessKey disc r.sa) w
    excluded := if miss then c.excluded ++ [(disc, r.sa)] else c.excluded }
  let left := (t.fireHead h).await.any fun x => decide (x.kind.rank = 2) && decide (saLayer x.sa = layer)
  if left then t
  else
    let c := t.st.cat
    let mine := c.baseline.filter fun e => decide (e.1 / 2 ^ 22 = disc) && decide (saLayer (e.1 % 2 ^ 22) = layer)
    let out := (c.excluded.filter fun e => decide (e.1 = disc) && decide (saLayer e.2 = layer)).length
    let n := mine.length
    let iter := if n = 0 then 0 else (mine.map fun e => e.2.iters).sum / n
    t.catPut (t.fireDisc h).1 (some (t.fireDisc h).2) 7 (coneBody disc layer n out 1 t.utc 0 iter
      (min (2 ^ 32 - 1) (rawBer (mine.map fun e => e.2))) (mine.map fun e => e.2.fails).sum)

/-- A header copy has its verdict (R266). -/
def State.headerDone (s : State) (h : Nat) (r : ReadySet) (miss : Bool) : State :=
  let f := s.fireHead h
  let pass := f.headerPass + boolNat (!miss)
  let left := f.await.any fun x => decide (x.kind.rank = 1) && decide (saLayer x.sa = saLayer r.sa)
  if left then s.setFireHead h { f with headerPass := pass }
  else
    let t := s.setFireHead h { f with headerPass := 0 }
    if pass < 2 then t.event firePage 0x420B 4 0xFF h else t

/-- Key of a home setting of a disc, for its misses. -/
def refireKey (disc home : Nat) : Nat := disc * 2 ^ 22 + home

/-- A setting or its spare has passed, or the last copy stands: its stripes are confirmed at that
position (R389). -/
def State.setPassed (s : State) (h : Nat) (r : ReadySet) : State :=
  let pos := (s.headPos h).getD 0
  if h = 32 then s
  else match r.kind with
    | .data k => s.settingPassed k r.home pos
    | .remap home _ => match zoneOfSa (h % 4) home with
      | some (k, _) => s.settingPassed k home pos
      | none => s
    | _ => s

/-- The data of a setting is still at hand (R275, R389): staging holds the stripes of a zone's setting; journal and catalogue
blocks are in HBM. What a re-throw fired is on no stage. -/
def State.sourceHeld (s : State) (r : ReadySet) : Bool :=
  let zone (sa : Nat) : Bool := match zoneOfSa (r.head % 4) sa with
    | some (k, i) =>
      let z := s.zone k
      decide (r.head < 32) && (List.range 4).all fun o => z.hasLba (stripeFirstLba z.width (i + o))
    | none => false
  !r.blocks.isEmpty && (match r.kind with
    | .data _ => zone r.sa
    | .remap home _ => zone home
    | .rethrow => false
    | _ => true)

/-- A missed setting is fired again (R275): from the data still held, or after a full ladder read. After
REFIRE_MAX misses the last copy stands. -/
def State.refire (s : State) (h : Nat) (r : ReadySet) : State :=
  let home := r.home
  let n := storeFind (fun _ => 0) s.fire.refires (refireKey (s.discKey h) home) + 1
  let t := { s with fire := { s.fire with refires := storePut (fun _ => 0) s.fire.refires (refireKey (s.discKey h) home) n } }
  let t := t.event firePage 0x4201 2 0xFF r.sa
  if clampNat 1 15 (t.ffld FIRE.REFIRE_MAX) ≤ n then (t.event firePage 0x420A 4 0xFF home).setPassed h r
  else if s.sourceHeld r then t.remapSet r 1
  else t.want h r.sa .refire

/-- A setting that has been read back passes or misses (R274). -/
def State.giveVerdict (s : State) (h : Nat) (r : ReadySet) (x : SettingRd) (g : SettingFig) : State :=
  let miss := s.bisqueMiss x g
  let t := s.freeCaps fun y => decide (y.head = h) && decide (y.sa = r.sa)
  let t := ((t.dropSetting h r.sa).unwant h r.sa).dropFig h r.sa
  let t := t.setFireHead h { s.fireHead h with await := (s.fireHead h).await.filter fun y => decide (y ≠ r) }
  let t := t.countVerdict h r.sa miss g.mse
  let t := match r.kind with
    | .layerHeader => t.headerDone h r miss
    | .witness => t.witnessDone h r miss (x.witness g.mse)
    | .forTwin => t.tSend clsFire (.fireReport h r.sa 3 71 (some !miss))
    | _ => if miss then t.refire h r else t.setPassed h r
  (t.passState h).passOver (groupOf h)

/-- BISQUE_VERDICT (R274): the oldest setting of a head that has been read back passes or misses. -/
def execBisqueVerdict (h : HeadIx) (s : State) : Res :=
  let h := h.val
  let f := s.fireHead h
  let read (r : ReadySet) : Option (SettingRd × SettingFig) :=
    match s.setting h r.sa, s.figOf h r.sa with
    | some x, some g => if x.why = .bisque ∧ x.step = .blocks then some (x, g) else none
    | _, _ => none
  match f.await.find? fun r => (read r).isSome with
  | none => done s
  | some r => match read r with
    | none => done s
    | some (x, g) => done (s.giveVerdict h r x g)

/-! Write retirement (R277, R278) -/

/-- A cause of write retirement holds. -/
def State.retireDue (s : State) (h : Nat) (c : RetireCause) : Bool :=
  let f := s.fireHead h
  match c with
  | .beamDead => decide (s.fld (bandPage h) BAND.BEAM_DEAD ≠ 0)
  | .misses => decide (s.ffld FIRE.AUTO_RETIRE = 1) && decide (s.ffld FIRE.RETIRE_MISS ≤ (f.misses.filter fun m => m).length)
  | .laser => decide (3 ≤ f.stops)
  | .noRead => s.flag (bandPage h) BAND.BAND_STAT_NO_READ
  | .noSpare => (List.range 10).all fun l => decide (spareCount l ≤ storeFind (fun _ => 0) s.st.cat.spares (16 * s.discKey h + l))
  | .written => false

/-- RETIRE_CAUSE (R277). -/
def retireCode : RetireCause → Nat
  | .beamDead => 1 | .misses => 2 | .laser => 3 | .noRead => 4 | .noSpare => 5 | .written => 6

/-- Write-retire a head's member: it stops at its next setting boundary, and its lane narrows or stops.
A disc retirement is recorded in the zone states of the lane. -/
def State.retireHead (s : State) (h : Nat) (code : Nat) : State :=
  let t := if s.headFires h then s.stopBoundary h else s
  let t := if h < 32 then t.setFldBit firePage FIRE.WR_RETIRE_LO h true else t.setFldBit firePage FIRE.WR_RETIRE_HI 0 true
  let t := (t.setFld (firestatPage h) FIRESTAT.RETIRE_CAUSE code).setFld (firestatPage h) FIRESTAT.STATE 5
  let t := (t.event firePage 0x4205 5 0xFF h).notice .health
  if h = 32 then t
  else
    let t := t.refreshLane (h % 4)
    if code = 5 then t.forEach (t.firingZones h) State.zoneRecord else t

/-- WRITE_RETIREMENT (R277): acts where its cause holds and the member is not retired yet. -/
def execWriteRetirement (h : HeadIx) (cause : RetireCause) (s : State) : Res :=
  if s.retired h.val ∨ !s.retireDue h.val cause then done s else done (s.retireHead h.val (retireCode cause))

/-! Member blocks to the twin (R384, R394, R551) -/

/-- Encoded stripes whose records are safe: the blocks of heads that the twin owns go to it, once. -/
def State.sendDueMembers (s : State) : State :=
  s.forEach (s.st.stripes.filter fun x => !x.sent && s.stripeSafe x) fun u x =>
    let u := u.putStripe { x with sent := true }
    u.forEach x.blocks fun v b => match v.memberHead (x.zone / 300) b.pos with
      | some h => if bitOf x.expect b.pos && !v.headObeys h && v.paired && decide ((v.token h).1 = 1 - v.side) then
          v.sendMember h (zoneSa x.zone x.stripe) (x.stripe % 4) b else v
      | none => v

end Sys2Proof.Machine
end

