-- ==== Sys2Proof/Machine/Headers.lean ====
section
/-!
DEFINITION. What the heads read from their discs when a sagger is mounted: layer headers and their tables (R17, R121, R211,
R269, R322), grooves (R17, R94), and remap areas (R126, R276).
-/
namespace Sys2Proof.Machine

/-! Looking at a reserved setting -/

/-- What is known of a setting that firmware looks at: nothing yet, blank, or fired, with the blocks that could be read. -/
inductive SettingLook where
  | unknown
  | blank
  | fired (bs : List BlockOut)
  deriving DecidableEq, Repr

/-- A blank scan tells whether a setting is fired (R121, R193); a fired one is then read. -/
def State.look (s : State) (h sa : Nat) : SettingLook :=
  let f := s.fireHead h
  if f.scanned.contains sa then .blank
  else if !f.collided.contains sa || (s.wanted h sa).isSome then .unknown
  else
    let bs := s.pool.released.filter fun o => decide (o.head = h) && decide (o.sa = sa) && decide (o.why = .catalogue)
    let lost := s.pool.lost.any fun e => decide (e.1 = h) && decide (e.2.1 = sa)
    if bs.isEmpty && !lost then .unknown else .fired bs

/-- Ask the head for what a look still needs. -/
def State.askLook (s : State) (h sa : Nat) : State :=
  if s.headObeys h then s.want h sa (if (s.fireHead h).collided.contains sa then .catalogue else .blankScan) else s

/-- What a look has read is done with. -/
def State.lookDone (s : State) (h sa : Nat) : State :=
  s.setPool { s.pool with
    released := s.pool.released.filter fun o => !(decide (o.head = h) && decide (o.sa = sa) && decide (o.why = .catalogue))
    lost := s.pool.lost.filter fun e => !(decide (e.1 = h) && decide (e.2.1 = sa)) }

/-! Tables of a layer (R211, R212, R268, R322) -/

/-- An entry of a ring table, and of a pulse table, as the table window holds it: two-byte fields little-endian. -/
def ringEntryLE (e : List Nat) : List Nat :=
  e.take 0x30 ++ (List.range 24).flatMap fun t => [e.getD (0x31 + 2 * t) 0, e.getD (0x30 + 2 * t) 0]
def pulseEntryLE (e : List Nat) : List Nat := entryBE e

/-- Firmware fills a slot of both tables of a head with what the header of a layer gave (R211). -/
def State.fillLayer (s : State) (h layer : Nat) : State :=
  match s.layerTables h layer with
  | none => s
  | some x =>
    let k := s.tableSlot (ringTable h) h layer
    let t := s.claimSlot (ringTable h) h layer
    let t := t.setWinBytes (ringTable h + if k = 0 then 0x40 else 0x820)
      ((List.range 21).flatMap fun r => ringEntryLE ((x.ring.drop (96 * r)).take 96))
    let j := t.tableSlot (pulsePage h) h layer
    let t := t.claimSlot (pulsePage h) h layer
    t.forEach (List.range 21) fun u r =>
      (u.setWinBytes (pulseEntryAt h j r) (pulseEntryLE ((x.pulse.drop (48 * r)).take 48))).setWinBytes (readPowerAt h j r)
        ((x.pulse.drop (1024 + 2 * r)).take 2).reverse

/-- Tables of a layer are in place before the head goes there: its slot filled, its entries loaded into the companion (R211,
R269). -/
def State.prepareLayer (s : State) (h layer : Nat) : State :=
  let t := if (s.layerSlot (ringTable h) layer).isSome && (s.layerSlot (pulsePage h) layer).isSome then s else s.fillLayer h layer
  t.loadLayer h layer

/-- A command that takes a head to another layer, as the sequencer accepts it (R311): the layer is prepared first. -/
def State.prepareJump (s : State) (h op arg : Nat) : State :=
  let layer := arg % 16
  let goes := decide (op = 2) || (decide (op = 1) && decide (layer ≠ s.seqLayer h))
  if goes && decide ((s.seq h).op = 0) && s.accepts ctrlengPage && s.headObeys h && s.seqArgOk h op arg then s.prepareLayer h layer else s

/-- TL_START, SA_FF and FO_OFS of a layer from its header (R120, R322; log entry 14). -/
def State.writeStarts (s : State) (h layer : Nat) (x : LayerTables) : State :=
  let put (u : State) (o : Nat) (v : Int) : State := u.setWord (ceWindow + seqBlk h (o + 4 * layer)) (unsigned 32 v)
  let t := put s 0x40 (signed 8 (x.foTl % 256) * 2 ^ 24)
  let t := put t 0x68 (signed 16 x.saFf * 2 ^ 16)
  put t 0x90 (signed 8 (x.foTl / 256) * 2 ^ 24)

/-! Layer headers (R17, R119-R121) -/

/-- A header copy qualifies: its record passes CRC64 and TABLE_CRC matches its other blocks. Disc ID, slot and tables. -/
def headerCopy (bs : List BlockOut) : Option (Nat × Nat × LayerTables) :=
  let payload (k : Nat) : Option (List Nat) := (bs.find? fun b => decide (b.blk = k)).map fun b => b.payload
  match payload 0, payload 1, payload 2, payload 3 with
  | some r, some b1, some b2, some b3 =>
    let f (o n : Nat) : Nat := ofBytesBE ((r.drop o).take n)
    if crc64 (r.take 0xFFF8) = f 0xFFF8 8 ∧ f 0x30 4 = crc32 b1 ∧ f 0x34 4 = crc32 b2 ∧ f 0x38 4 = crc32 b3 then
      some (f 8 8, f 7 1, { saFf := f 0x2A 2, foTl := f 0x2C 2, ring := b1.take 2016, pulse := b2.take 1066 })
    else none
  | _, _, _, _ => none

/-- How far a head has come with its disc's headers. -/
def State.hdrRead (s : State) (h : Nat) : Option HdrRead := storeFind (fun _ => none) s.host.hdrs h
def State.setHdrRead (s : State) (h : Nat) (x : Option HdrRead) : State :=
  s.setHost { s.host with hdrs := storePut (fun _ => none) s.host.hdrs h x }

/-- Begin reading a disc's headers from layer L0. -/
def State.startHeaders (s : State) (h : Nat) : State :=
  s.setHdrRead h (some { layer := 0, copy := 0, fired := false, id := none, known := false, opened := [], bad := false })

/-- The headers of a layer are over: a layer with a fired copy of which none qualifies is read with the default tables (R121); a
layer with no fired copy is blank. Identification ends at the lowest fired layer, or with the last layer. -/
def State.layerOver (s : State) (h : Nat) (x : HdrRead) : State :=
  let y := { x with
    layer := x.layer + 1, copy := 0, fired := false, known := x.known || x.fired || decide (x.layer = 9)
    opened := if x.fired then x.opened ++ [x.layer] else x.opened }
  let t := s.setHdrRead h (some y)
  let t := if x.fired then t.event (bandPage h) (headCode h 0x207) 4 else t
  if y.known && !x.known then t.loadLayer h (t.seqLayer h) else t

/-- A copy does not serve: the next one, or the next layer. -/
def State.nextCopy (s : State) (h : Nat) (x : HdrRead) : State :=
  if x.copy < 3 then s.setHdrRead h (some { x with copy := x.copy + 1 }) else s.layerOver h x

/-- A qualifying copy: the disc ID of the lowest fired layer is the disc's; SLOT and DISC_ID are checked (R121); the tables
are kept and, for the first layer found, in place (R211, R269). -/
def State.headerFound (s : State) (h : Nat) (x : HdrRead) (id slot : Nat) (tb : LayerTables) : State :=
  let bad := decide (slot ≠ (s.fireDisc h).2) || (match x.id with | some i => decide (i ≠ id) | none => false)
  let y := { x with
    layer := x.layer + 1, copy := 0, fired := false, known := true, opened := x.opened ++ [x.layer], bad := x.bad || bad
    id := if x.known then x.id else some id }
  let t := ((s.setHdrRead h (some y)).keepTables h x.layer tb).writeStarts h x.layer tb
  if x.known then t else t.prepareLayer h x.layer

/-- Go on reading the headers of a head's disc. -/
def State.headerStep (s : State) (h : Nat) : State :=
  match s.hdrRead h with
  | none => s
  | some x =>
    if 10 ≤ x.layer then s
    else
      let sa := settingAddr x.layer (16 * x.copy)
      match s.look h sa with
      | .unknown => s.askLook h sa
      | .blank => s.nextCopy h x
      | .fired bs => match headerCopy bs with
        | some (id, slot, tb) => (s.lookDone h sa).headerFound h x id slot tb
        | none => (s.lookDone h sa).nextCopy h { x with fired := true }

/-! Disc identity (R17, R94, R117) -/

/-- A GROOVE message gives a quarter of its disc's ID (R17, R94). -/
def State.grooveQuarter (s : State) (h layer q v : Nat) : State :=
  let put (u : State) (key : Nat) : State :=
    let old := storeFind (fun _ => []) u.host.quarters key
    let qs := if old.length = 4 then old else [none, none, none, none]
    u.setHost { u.host with quarters := storePut (fun _ => []) u.host.quarters key (listSet qs (q % 4) (some (v % 65536))) }
  let t := put s (2 * h + 1)
  if layer = 0 then put t (2 * h) else t

/-- The disc ID that four quarters give, once all are there and its CRC-8 passes (R117). -/
def quartersId : List (Option Nat) → Option Nat
  | [some a, some b, some c, some d] =>
    let id := ((a * 65536 + b) * 65536 + c) * 65536 + d
    if crc8 (bitsMSB 56 (id / 256)) = id % 256 then some id else none
  | _ => none

/-- The disc ID of the grooves of layer L0, and of the grooves of any layer. -/
def State.grooveId (s : State) (h : Nat) : Option Nat := quartersId (storeFind (fun _ => []) s.host.quarters (2 * h))
def State.grooveAny (s : State) (h : Nat) : Option Nat := quartersId (storeFind (fun _ => []) s.host.quarters (2 * h + 1))

/-- The disc ID that a head yields (R17): its lowest fired layer's, or with every layer blank that of the grooves of L0. -/
def State.discIdOf (s : State) (h : Nat) : Option Nat :=
  match s.hdrRead h with
  | some x => if !x.known then none else if x.opened.isEmpty then s.grooveId h else x.id
  | none => none

/-- A head may still yield an ID: its headers are not read yet, or its grooves; a head out of service yields none. -/
def State.idPending (s : State) (h : Nat) : Bool :=
  let out := decide (s.linkState h = 6) || decide (s.linkState h = 7) || s.flag (bandPage h) BAND.BAND_STAT_NO_READ
  !out && (match s.hdrRead h with
    | some x => !x.known || (x.opened.isEmpty && (s.grooveId h).isNone)
    | none => true)

/-- A header disagrees with its slot, with another layer's or with the grooves (R121). -/
def State.idClash (s : State) (h : Nat) : Bool :=
  match s.hdrRead h with
  | some x => x.bad || (match x.id, s.grooveAny h with
    | some a, some b => decide (a ≠ b)
    | _, _ => false)
  | none => false

/-- A disc whose serial is that of a different disc of the catalogue: 0x5112, and the later one is not fired on (R117). The later is
that of the newer membership record, within one sagger that of the higher slot (log entry 148). -/
def State.duplicateCheck (s : State) (g : SaggerRec) : State :=
  let twin (d e : Nat) : Bool := decide (e / 256 % 2 ^ 40 = d / 256 % 2 ^ 40) && decide (e ≠ d) && decide (e ≠ 0)
  s.forEach g.discs.zipIdx fun u (d, sl) =>
    if d = 0 then u
    else
      let elder := s.st.cat.saggers.any fun o =>
        if o.serial = g.serial then (o.discs.take sl).any (twin d) else decide (o.seq ≤ g.seq) && o.discs.any (twin d)
      let other := elder || s.st.cat.saggers.any fun o => decide (o.serial ≠ g.serial) && o.discs.any (twin d)
      let u := if other then u.event stripePage 0x5112 7 0xFF (d % 2 ^ 32) else u
      if elder then u.setCat { u.st.cat with noFire := (d :: u.st.cat.noFire).eraseDups } else u

/-! Remap areas (R126, R276) -/

/-- A layer's remap area is scanned from the last spare that the catalogue names to the first blank one: a fired spare's
header names the setting replaced, and its entry joins where the catalogue has none. The header gives no reason: 1 (log
entry 154). A spare that cannot be read is used without an entry. -/
def State.spareStep (s : State) (h : Nat) : State :=
  match storeFind (fun _ => []) s.host.spareScan h with
  | [] => s
  | l :: rest =>
    let next (u : State) : State := u.setHost { u.host with spareScan := storePut (fun _ => []) u.host.spareScan h rest }
    let n := s.sparesUsed h l
    if spareCount l ≤ n then next s
    else
      let sa := settingAddr l (spareAt n)
      match s.look h sa with
      | .unknown => s.askLook h sa
      | .blank => next s
      | .fired bs =>
        let t := (s.lookDone h sa).spareTaken (s.discKey h) l n
        match bs.find? fun b => decide (b.header.flags % 2 = 1) && decide (b.header.homePba ≠ b.header.pba) with
        | none => t
        | some b =>
          let home := settingAddr (pbaLayer b.header.homePba) (pbaSetting b.header.homePba)
          let known := t.st.cat.remaps.any fun e => decide (e.disc = t.discKey h) && decide (e.spare = sa)
          if known then t
          else
            let e : Remap := { disc := t.discKey h, home := home, spare := sa, gen := b.header.generation, reason := 1, seq := t.st.cat.seq + 1 }
            (t.setCat { t.st.cat with remaps := t.st.cat.remaps ++ [e] }).catPut (t.fireDisc h).1 (some (t.fireDisc h).2) 2 (remapBody e)

/-- Every remap area of the disc under a head is to be scanned (R276). -/
def State.startSpares (s : State) (h : Nat) : State :=
  s.setHost { s.host with spareScan := storePut (fun _ => []) s.host.spareScan h (List.range 10) }

/-! Catalogue areas (R123, R126, R574) -/

/-- How far a head's catalogue area has been read. -/
def State.catAt (s : State) (h : Nat) : Nat := storeFind (fun _ => 0) s.svc.catRead h
def State.setCatAt (s : State) (h n : Nat) : State := { s with svc := { s.svc with catRead := storePut (fun _ => 0) s.svc.catRead h n } }

/-- The records that catalogue blocks hold join the cache, membership before the rest: the sagger of the disc is the one that
names it (R123, R124). -/
def State.takeBlocks (s : State) (h : Nat) (bs : List BlockOut) : State :=
  let rs := bs.flatMap fun o => (recordsOf 8192 o.payload).map fun r => (o.header.discId, r)
  let (members, others) := rs.partition fun r => decide (r.2.1 = 1)
  let put (u : State) (serial ty seq : Nat) (body : List Nat) : State :=
    u.takeRecord { serial := serial, slot := if ty = 1 then none else some (h % 4), ty := ty, body := body, seq := seq, fired := [h % 4] }
  let t := s.forEach members fun u (_, ty, seq, body) => put u (bodyAt body 8 8) ty seq body
  t.forEach others fun u (disc, ty, seq, body) =>
    put u (((u.st.cat.saggers.find? fun g => g.discs.contains disc).map fun g => g.serial).getD (u.headSagger h)) ty seq body

/-- One head's catalogue areas (R123, R126): the next setting of both is looked at, and what either gives joins the union. With
neither readable a severity 4 error is raised, and the mount's scan of the remap areas rebuilds the list from the headers there
(R126, R276; no rule gives the event's code: a free value in region 5, log entry 154). Past the first setting blank in both, nothing is fired. -/
def State.readCatalogue (s : State) (h : Nat) : State :=
  let n := s.catAt h
  if 1024 ≤ n then s
  else
    let sas := [catalogueSetting 0 n, catalogueSetting 9 n]
    let looks := sas.map fun sa => s.look h sa
    if looks.contains .unknown then (sas.filter fun sa => decide (s.look h sa = .unknown)).foldl (fun u sa => u.askLook h sa) s
    else if looks.all fun l => decide (l = .blank) then s.setCatAt h 2000
    else
      let bs := (looks.flatMap fun l => match l with
        | .fired b => b
        | _ => []).filter fun o => decide (o.header.kind = 0x11)
      let t := sas.foldl (fun u sa => u.lookDone h sa) (s.takeBlocks h bs)
      let t := if bs.isEmpty then (t.free).2.event stripePage (0x5000 + (t.free).1 % 0x1000) 4 0xFF h else t
      (t.setAreaUsed h (max (t.areaUsed h) (n + 1))).setCatAt h (n + 1)

/-! Journal areas (R128, R398) -/

/-- How far a head's journal area has been read. -/
def State.jrnAt (s : State) (h : Nat) : Nat := storeFind (fun _ => 0) s.svc.jrnRead h
def State.setJrnAt (s : State) (h n : Nat) : State := { s with svc := { s.svc with jrnRead := storePut (fun _ => 0) s.svc.jrnRead h n } }

/-- The records that journal blocks hold (R128). -/
def journalRecords (bs : List BlockOut) : List JRec :=
  (bs.filter fun o => decide (o.header.kind = 0x12)).flatMap fun o => (List.range 1024).filterMap fun i => jrecOfBE ((o.payload.drop (64 * i)).take 64)

/-- One head's journal area: the next setting is looked at, and its records join those of the mounted load's discs (R398). -/
def State.readJournal (s : State) (h : Nat) : State :=
  let n := s.jrnAt h
  if 10240 ≤ n then s
  else
    let sa := journalSetting n
    match s.look h sa with
    | .unknown => s.askLook h sa
    | .blank => s.setJrnAt h 20000
    | .fired bs =>
      let t := s.lookDone h sa
      let t := t.setJr { t.jr with disc := t.jr.disc ++ journalRecords bs }
      let c := t.st.cat
      let used := storeFind (fun _ => 0) c.journalUsed (t.discKey h)
      (t.setCat { c with journalUsed := storePut (fun _ => 0) c.journalUsed (t.discKey h) (max used (n + 1)) }).setJrnAt h (n + 1)

/-- Heads of members whose journal area is still to be read. -/
def State.journalUnread (s : State) : Bool :=
  s.load.members.any fun m => match m.wheel with
    | some w => m.accepted && (wheelHeads w).any fun h => s.headObeys h && s.headReady h && decide (s.jrnAt h < 10240)
    | none => false

/-! A disc leaves -/

/-- What was known of a head's disc by looking at it goes with the disc: headers, tables, grooves, scans, what was read of it. The
layer slots are no longer valid. A disc retirement goes with the disc (R277). -/
def State.discOff (s : State) (h : Nat) : State :=
  let tables := (List.range 10).foldl (fun m l => storePut (fun _ => none) m (16 * h + l) none) s.host.tables
  let quarters := storePut (fun _ => []) (storePut (fun _ => []) s.host.quarters (2 * h) []) (2 * h + 1) []
  let t := s.setHost { s.host with
    hdrs := storePut (fun _ => none) s.host.hdrs h none, tables := tables, quarters := quarters
    spareScan := storePut (fun _ => []) s.host.spareScan h [] }
  let t := t.setPool { t.pool with
    wants := t.pool.wants.filter fun r => decide (r.head ≠ h)
    released := t.pool.released.filter fun o => decide (o.head ≠ h)
    lost := t.pool.lost.filter fun e => decide (e.1 ≠ h)
    figs := t.pool.figs.filter fun f => decide (f.1 ≠ h) }
  let t := t.setFireHead h FireHead.idle
  let t := (t.setWord (ringTable h) 0).setWord (pulsePage h) 0
  if t.fld (firestatPage h) FIRESTAT.RETIRE_CAUSE = 5 then
    let u := if h < 32 then t.setFldBit firePage FIRE.WR_RETIRE_LO h false else t.setFldBit firePage FIRE.WR_RETIRE_HI 0 false
    (u.setFld (firestatPage h) FIRESTAT.RETIRE_CAUSE 0).setFld (firestatPage h) FIRESTAT.STATE 0
  else t

/-- A sagger leaves a main wheel: its four discs leave, a refusal is forgotten, and the next sagger is started and identified
afresh. -/
def State.discsOff (s : State) (w : Nat) : State :=
  let t := s.forEach (wheelHeads w) State.discOff
  { t with
    load := { t.load with refused := t.load.refused.filter fun x => decide (x ≠ w), others := storePut (fun _ => none) t.load.others w none }
    svc := { t.svc with
      spun := t.svc.spun.filter fun x => decide (x ≠ w)
      catRead := (wheelHeads w).foldl (fun m h => storePut (fun _ => 0) m h 0) t.svc.catRead
      jrnRead := (wheelHeads w).foldl (fun m h => storePut (fun _ => 0) m h 0) t.svc.jrnRead } }

end Sys2Proof.Machine
end

