-- ==== Sys2Proof/Machine/Holdup.lean ====
section
/-!
DEFINITION. Power loss and replay (R397-R400, R625).
-/
namespace Sys2Proof.Machine

/-! Power loss (R397, R625) -/

/-- Write out everything that waits for HBM and for xSPI memory. -/
def State.flushJournal (s : State) : State :=
  let t := s.forEach s.jr.waiting fun u _ => u.journalWrite
  if t.jr.failAt.isSome then t else t.forEach t.jr.xspiQ fun u _ => u.xspiDone true

/-- Event records that wait are made, and those of severity 4 or higher go to the mirror (R601). -/
def State.flushEvents (s : State) : State :=
  let t := s.forEach s.recd.raised fun u _ => u.recordNext
  let t := t.withRec fun r => { r with mirrorBusy := !r.mirrorQ.isEmpty }
  t.forEach t.recd.mirrorQ fun u _ => u.mirrorDone true

/-- A mirror-ack zone with acknowledged writes whose stripes have not all fired (R397). -/
def ZoneSt.interrupted (z : ZoneSt) : Bool := z.mirrorAck && decide (z.ns ≠ 0) && decide (stripeFirstLba z.width z.fired < z.wp)

/-- Zones in use. -/
def State.liveZones (s : State) : List (Nat × ZoneSt) := s.st.zones.filter fun z => decide (z.2.ns ≠ 0) && decide (z.2.state ≠ 0)

/-- Steps 3 to 7 of a hold-up (R397), once no head has a setting in progress: records, the interrupted
list, the seal, events, PARK. -/
def State.holdupSeal (s : State) : State :=
  let p := journalPage
  let busy := (List.range 33).any fun h => (s.fireHead h).firing.isSome
  if !s.fire.holdup || s.flag p JOURNAL.JR_STAT_SEALED || busy then s
  else
    let zs := s.liveZones
    let t := s.forEach zs fun u z => u.jput (zoneJRec z.1 z.2)
    let listed (k : Nat) : Bool := s.jr.interrupted.any fun e => decide (e.load = s.load.id) && decide (e.zone = k) && decide (e.flags = 1)
    -- the pointer that replay rolls it back to is the fired pointer (R397)
    let list := (zs.filter fun z => z.2.interrupted && !listed z.1).map fun z =>
      { z.2.intZone s.load.id z.1 1 with after := stripeFirstLba z.2.width z.2.fired }
    let t := (t.setJr { t.jr with interrupted := t.jr.interrupted ++ list }).setFld p JOURNAL.INTERRUPTED (min 0xFFFF list.length)
    let t := (t.jput (sealJRec list.length)).flushJournal
    if t.jr.failAt.isSome then t
    else
      let t := ((t.setFlag p JOURNAL.JR_STAT_SEALED true).istat p 12).setFld p JOURNAL.HOLDUP_T_SEAL
        (min 0xFFFF ((t.now - t.fire.holdupAt) / 1000))
      let t := { t with host := { t.host with holdPwr := t.fld chipPage CHIP.PWR_CYCLES } }.savePowered
      let t := if list.isEmpty then t else t.notice .c2h
      let t := (t.event p 0x510E 2).flushEvents
      let heads := (List.range 33).filter fun h => t.headObeys h && decide (t.seqState h ≠ sqParked)
      let t := { t with fire := { t.fire with parked := heads.map fun h => (h, t.seqLayer h, t.seqBand h) } }
      t.forEach heads fun u h => u.seqCmd h 8 0

/-- XSPI_WRITE_DONE (R395): a seal that waits for it follows. -/
def execXspiWriteDone (ok : Bool) (s : State) : Res :=
  if s.jr.failAt.isSome then done s else done (s.xspiDone ok).sendDueMembers.holdupSeal

/-- HOLDUP (R272, R397): every firing head stops at its setting boundary, arming and write data stop;
with settings in progress the rest follows their reports. -/
def execHoldup (s : State) : Res :=
  let t := { s with fire := { s.fire with holdup := true, holdupAt := s.now } }
  let t := t.setFlag journalPage JOURNAL.JR_STAT_SEALED false
  let t := t.forEach (List.range 33) fun u h => if u.headFires h then u.stopBoundary h else u
  done t.holdupSeal

/-- The hold of a bring-up with HOLDUP_N low ends (R626): owned wheels with a clamped sagger start. -/
def State.endBootHold (s : State) : State :=
  if !s.svc.hold then s
  else
    let t := { s with svc := { s.svc with hold := false } }
    t.forEach (List.range 9) fun u w => if u.whOwns w && decide (u.whState w = whOff) then u.unplannedWheelTake w else u

/-- HOLDUP_REARM (R625, R626): HOLDUP_N has stayed high for t_HU_REARM, 100 ms, and the sequence of R397 is complete. -/
def execHoldupRearm (s : State) : Res :=
  let open' := s.fire.holdup && !s.flag journalPage JOURNAL.JR_STAT_SEALED && s.jr.failAt.isNone
  if s.now < s.fire.holdupAt + 100000000 ∨ open' then done s
  else
  let s := s.endBootHold
  if !s.fire.holdup then done s
  else
    let t := { s with fire := { s.fire with holdup := false, parked := [] } }
    let t := t.setFlag journalPage JOURNAL.JR_STAT_SEALED false
    let t := (t.setJr { t.jr with run := t.jr.run + 1 }).jput (runJRec (t.jr.run + 1) 0)
    let t := t.forEach s.fire.parked fun u (h, layer, band) => u.seqCmd h 1 (layer + 16 * band)
    -- a run that the hold-up ended has its bisque pass (R256)
    done (t.forEach [0, 1] fun u g => if (u.run g).phase = 0 ∨ (u.run g).phase = 3 then u else u.beginPass g)

/-- FIRE_EVENT (R257): reports come from the companion of an owned head. The zone writer of a setting
fired for it is told (R551). -/
def execFireEvent (h : HeadIx) (b : FireEventBody) (s : State) : Res :=
  let twins : Bool := match (s.slotOfSetting h.val b.setting).bind (s.armed h.val) with
    | some r => decide (r.kind = .forTwin) && decide (b.event.val ≠ 3)
    | none => false
  let t := s.fireEvent h.val b
  done (if twins then t.tSend clsFire (.fireReport h.val b.setting b.event.val b.segment.val none) else t).holdupSeal

/-! Replay (R398-R400) -/

/-- The record with the highest SEQ of each stripe or zone (R392). -/
def newestRecords (rs : List JRec) : List JRec :=
  rs.filter fun r => !rs.any fun o => jSame r o && decide (r.seq < o.seq)

/-- The ring ends with a seal whose TIME and PWR_CYCLE match the record before it: of its power cycle, and not earlier (R397;
log entry 166). -/
def State.cleanSeal (s : State) : Bool :=
  match s.jr.xspi.getLast?, s.jr.xspi.dropLast.getLast? with
  | some r, some o => decide (r.ty = 4) && decide (r.pwr = o.pwr) && decide (o.time ≤ r.time)
  | some r, none => decide (r.ty = 4)
  | none, _ => true

/-- The zones and live stripes of the mounted load that meet `which`, as the merged records of the xSPI ring, the mirror area and the
on-disc journal give them (R398): what has fired by any of them stands. -/
def State.mergeRecords (s : State) (which : JRec → Bool) : State :=
  let rs := newestRecords ((s.jr.xspi ++ s.jr.mirror ++ s.jr.disc).filter fun r =>
    decide (r.load = s.load.id) && which r && decide (r.ty = 1 ∨ r.ty = 2))
  let t := s.forEach (rs.filter fun r => decide (r.ty = 2)) fun u r =>
    -- a record of an earlier generation is stale (R380)
    let old := u.zone r.zone
    let z := if old.gen < r.gen then { old with enc := 0, fired := 0, conf := 0, wp := 0 } else old
    if r.gen < old.gen then u
    else u.setZone r.zone { z with
      ns := r.ns, gen := r.gen, enc := max z.enc r.stripe, fired := max z.fired r.a, conf := max z.conf r.b, pad := r.c
      mirrorAck := decide (r.flags % 2 = 1), wp := max z.wp (stripeFirstLba z.width (max z.enc r.stripe)) }
  t.forEach (rs.filter fun r => decide (r.ty = 1)) fun u r =>
    let z := u.zone r.zone
    if r.stripe < z.fired ∨ r.gen < z.gen then u
    else match u.stripe r.zone r.stripe with
    | some x => if x.plain.isEmpty && x.blocks.isEmpty then u.putStripe { x with expect := r.expect, fired := x.fired ||| r.fired } else u
    | none =>
      let x : StripeRec :=
        { zone := r.zone, stripe := r.stripe, width := r.width, excluded := (z.excluded r.stripe).getD 8, gen := r.gen, expect := r.expect,
          fired := r.fired, passed := 0, plain := [], blocks := [], staged := false, replay := false, recorded := true, journalled := true,
          msn := 0, sent := false }
      (u.putStripe x).setZone r.zone { z with enc := max z.enc (r.stripe + 1), wp := max z.wp (stripeFirstLba z.width (r.stripe + 1)) }

/-- Replay of the mounted load begins (R398), for the namespaces `who`. Zones take no I/O until they are done. -/
def State.startReplay (s : State) (who : Nat → Bool := fun _ => true) : State :=
  let p := journalPage
  let t := s.mergeRecords fun r => who r.ns
  let t := t.forEach (t.liveZones.filter fun z => who z.2.ns) fun u z => u.setZone z.1 { u.zone z.1 with replaying := true }
  let clean := t.cleanSeal
  let t := t.setFlag p JOURNAL.JR_STAT_CLEAN_SEAL clean
  let t := if clean then t else t.event p 0x510F 3
  let t := ((t.setFld p JOURNAL.REPLAY_COMPLETED 0).setFld p JOURNAL.REPLAY_ROLLED 0).setFld p JOURNAL.JR_STAT_REPLAY 1
  t.setRdy RDY.JOURNAL_REPLAYED false

/-- Settings past a zone's fired pointer whose headers name its present generation are adopted (R398). -/
def State.adoptFired (s : State) (k : Nat) : State :=
  let z := s.zone k
  let mine := s.pool.released.filter fun b => decide (b.why = .catalogue) && decide (b.head % 4 = k / 300) && decide (b.head < 32) &&
    decide (b.header.kind < 0x10) && decide (b.header.zone = k % 300) && decide (b.header.lane = k / 300) && decide (b.header.loadId = s.load.id)
  let t := s.forEach mine fun u b =>
    if b.header.generation ≠ z.gen ∨ b.header.stripe < z.fired then u
    else
      let x := (u.stripe k b.header.stripe).getD
        { zone := k, stripe := b.header.stripe, width := b.header.width, excluded := (z.excluded b.header.stripe).getD 8, gen := z.gen,
          expect := (List.range 8).foldl (fun m p => setBit m p (!(decide (b.header.width = 7) && z.excluded b.header.stripe == some p))) 0,
          fired := 0, passed := 0, plain := [], blocks := [], staged := false, replay := false, recorded := true, journalled := true,
          msn := 0, sent := false }
      let z1 := u.zone k
      (u.putStripe { x with fired := setBit x.fired b.header.position true }).setZone k
        { z1 with enc := max z1.enc (b.header.stripe + 1), wp := max z1.wp (stripeFirstLba z1.width (b.header.stripe + 1)) }
  t.setPool { t.pool with released := t.pool.released.filter fun b => !mine.contains b }

/-- The data of a stripe is staged here, or in the twin's data that we hold. -/
def State.stripeStaged (s : State) (k i : Nat) : Bool :=
  let z := s.zone k
  let first := stripeFirstLba z.width i
  (List.range (stripeLbas z.width i)).all fun o =>
    z.hasLba (first + o) || s.st.mirror.any fun e => decide (e.1 = k) && decide (e.2.1 = first + o)

/-- Replay completes a stripe from staging: its members that have not fired are encrypted and fired
(R399). -/
def State.replayStripe (s : State) (k : Nat) (x : StripeRec) : State :=
  let z := s.zone k
  let first := stripeFirstLba z.width x.stripe
  let n := stripeLbas z.width x.stripe
  let copies := s.st.mirror.filter fun e => decide (e.1 = k) && decide (first ≤ e.2.1 ∧ e.2.1 < first + n) && !z.hasLba e.2.1
  let z := { z with staged := copies.foldl (fun m e => storePut (fun _ => []) m e.2.1 e.2.2) z.staged }
  let (_, _, ds) := stripeLayout x.ex x.stripe
  let t := s.setZone k z
  let t := t.putStripe { x with
    plain := ds.zipIdx.map fun (_, d) => (d, z.memberPlain x.stripe d)
    blocks := [], staged := true, replay := true, sent := false }
  t.count journalPage JOURNAL.REPLAY_COMPLETED

/-- A rollback (R399): write and fired pointer to the first incomplete stripe, the generation up by 1, every
later stripe with a fired member void. -/
def State.rollback (s : State) (k st : Nat) : State :=
  let z := s.zone k
  let wp := stripeFirstLba z.width st
  let lost := s.st.stripes.filter fun x => decide (x.zone = k) && decide (st ≤ x.stripe)
  let fired := lost.filter fun x => decide (x.fired ≠ 0)
  let z' := { z with enc := st, fired := st, conf := min z.conf st, wp := wp, gen := z.gen + 1, digest := [], digestOk := false,
                     staged := z.staged.filter fun e => decide (e.1 < wp)
                     pads := z.pads.filter fun r => decide (r.2 ≤ wp) }
  let t := s.setZone k z'
  let t := t.setSt { t.st with stripes := t.st.stripes.filter fun x => !(decide (x.zone = k) && decide (st ≤ x.stripe)) }
  let t := t.forEach fired fun u x =>
    let u := u.jput (voidJRec k x.stripe (x.stripe + 1) z.gen z.ns)
    u.forEach ((List.range 8).filter fun p => bitOf x.fired p) fun v p => match v.memberHead (k / 300) p with
      | some h => (v.putMark h (zoneSa k x.stripe) (2 ^ (x.stripe % 4)) 1 x.gen k).count stripePage STRIPE.VOID_BLOCKS
      | none => v
  let t := (t.jput (zoneJRec k z')).zoneRecord k
  let t := (t.count journalPage JOURNAL.REPLAY_ROLLED).istat journalPage 9
  t.event journalPage 0x510A 4 0xFF k

/-- Settings between a zone's confirmed and fired pointers have their bisque check again (R399). -/
def State.recheck (s : State) (k : Nat) : State :=
  let z := s.zone k
  let a := z.conf / 4
  let b := (z.fired + 3) / 4
  s.forEach ((List.range (b - a)).map fun i => a + i) fun u i =>
    u.forEach (List.range 8) fun v p => match v.memberHead (k / 300) p with
      | some h =>
        let sa := zoneSa k (4 * i)
        if !v.headObeys h || v.retired h then v
        else
          let r : ReadySet := { head := h, sa := sa, kind := .data k, blocks := (v.settingBlocks k (4 * i) p).getD [] }
          let f := v.fireHead h
          let w := v.setFireHead h { f with await := f.await ++ [r] }
          w.want h ((v.remapOf h sa).map (fun e => e.spare) |>.getD sa) .bisque
      | none => v

/-- Stripes of a zone from its first incomplete one on, until the end or a rollback. -/
def State.replayFrom (s : State) (k : Nat) : Nat → Nat → State
  | 0, _ => s
  | n + 1, i =>
    match s.stripe k i with
    | none => s.replayFrom k n (i + 1)
    | some x =>
      if x.fired = x.expect then s.replayFrom k n (i + 1)
      else if s.stripeStaged k i then (s.replayStripe k x).replayFrom k n (i + 1)
      else s.rollback k i

/-- Every zone of the load has been replayed. -/
def State.replayOver (s : State) : State :=
  let p := journalPage
  if s.liveZones.any (fun z => z.2.replaying) || decide (s.fld p JOURNAL.JR_STAT_REPLAY ≠ 1) then s
  else
    let rolled := decide (s.fld p JOURNAL.REPLAY_ROLLED ≠ 0)
    let t := (s.setFld p JOURNAL.JR_STAT_REPLAY (if rolled then 3 else 2)).istat p 8
    (t.event p 0x510B 1).setRdy RDY.JOURNAL_REPLAYED true

/-- JOURNAL_REPLAY (R399, R400): one zone, once the scans of its settings and the load's on-disc journal are in. -/
def execJournalReplay (lane : LaneOf) (zone : ZoneIx) (s : State) : Res :=
  let k := 300 * lane.val + zone.val
  let waits := s.pool.wants.any fun r => (decide (r.why = .blankScan) || decide (r.why = .catalogue)) && decide (r.head % 4 = lane.val) &&
    decide (r.head < 32) && (match zoneOfSa lane.val r.sa with
      | some (z, _) => decide (z = k)
      | none => false)
  if !(s.zone k).replaying ∨ waits ∨ s.journalUnread then done s
  else
    let t := (s.mergeRecords fun r => decide (r.zone = k)).adoptFired k
    let z := t.zone k
    let t := t.replayFrom k (z.enc - z.fired) z.fired
    let t := (t.advanceFired k).recheck k
    let rolled := decide ((t.zone k).gen ≠ z.gen)
    let staged := t.st.stripes.any fun x => decide (x.zone = k) && x.replay
    let t := t.intAfter k 1 ((if rolled then 8 else 0) + if staged then 16 else 0)
    done (t.setZone k { t.zone k with replaying := false }).replayOver.stgShow

end Sys2Proof.Machine
end

