-- ==== Sys2Proof/Machine/Rethrow.lean ====
section
/-!
DEFINITION. Re-throw, craze patrol and cone reads (R409-R418).
-/
namespace Sys2Proof.Machine

/-! Spares (R409, R418) -/

/-- Blank spare saggers that the catalogue lists in the store. -/
def State.spareSaggers (s : State) : List SaggerRec :=
  s.st.cat.saggers.filter fun g => decide (g.load = 0) && !(s.load.members.any fun m => decide (m.serial = g.serial)) &&
    !s.st.rt.partials.any fun x => decide (x.serial = g.serial)

/-- Change RT_STAT.STATE (R420). -/
def State.rtState (s : State) (n : Nat) : State :=
  if s.fld stripePage STRIPE.RT_STAT_STATE = n then s else (s.setFld stripePage STRIPE.RT_STAT_STATE n).istat stripePage 11

/-- SPARE_SAGGERS, and the load at risk (R418). -/
def State.showSpares (s : State) : State :=
  let p := stripePage
  let n := s.spareSaggers.length
  let t := s.setFld p STRIPE.SPARE_SAGGERS (min 0xFFFF n)
  let risk := decide (n = 0) && s.st.rt.pending.isSome && decide (s.fld p STRIPE.RT_STAT_WAIT = 1)
  let was := s.flag p STRIPE.SE_STAT_AT_RISK
  let t := t.setFlag p STRIPE.SE_STAT_AT_RISK risk
  if risk && !was then (t.istat p 13).event p 0x5107 5 else t

/-! Starting (R409, R414) -/

/-- Progress kept of a partial sagger of a position of the mounted load. -/
def State.partialOf (s : State) (pos : Nat) : Option RtProgress :=
  s.st.rt.partials.find? fun x => decide (x.load = s.load.id) && decide (x.pos = pos)

/-- Progress of the re-throw under way. -/
def State.rtProgress (s : State) : RtProgress :=
  let rt := s.st.rt
  { load := s.load.id, pos := rt.pos, serial := rt.new, copied := rt.copied, total := rt.total, done := rt.done, slot := (rt.xspi.map fun x => x.1).getD 0 }

/-- Why a re-throw of a position cannot start: RT_STAT.WAIT. -/
def State.rtWait (s : State) (pos : Nat) : Nat :=
  let st := s.fld stripePage STRIPE.RT_STAT_STATE
  let members := s.load.members.filter fun m => m.accepted && m.wheel.isSome
  if 2 ≤ st ∧ st ≤ 6 then 4
  else if s.spareSaggers.isEmpty && (s.partialOf pos).isNone then 1
  else if !s.owned (wheelPage 8) || !s.owned loaderPage then 2
  else if !s.load.mounted || decide (members.length < 6) then 3
  else 0

/-- Ask for a re-throw of a position: op 1 re-throw, 2 relocation. It starts, on the partial sagger of an earlier one where there is one
(R414), or is held pending. -/
def State.rtStart (s : State) (pos op : Nat) : State :=
  let p := stripePage
  let w := s.rtWait pos
  let rt := s.st.rt
  if w ≠ 0 then
    let t := s.setSt { s.st with rt := { rt with pending := some (pos, op) } }
    let t := t.setFld p STRIPE.RT_STAT_WAIT w
    (if w = 4 then t else (t.setFld p STRIPE.RT_STAT_POSITION pos).rtState 1).showSpares
  else
    let old := ((s.memberAt pos).map fun (m : Member) => m.serial).getD 0
    let fresh : RtProgress :=
      { load := s.load.id, pos := pos, serial := (s.spareSaggers.head?.map fun (g : SaggerRec) => g.serial).getD 0, copied := [], total := 0, done := 0, slot := 0 }
    let g := (s.partialOf pos).getD fresh
    let t := s.setSt { s.st with rt := { rt with
      op := op, pos := pos, old := old, new := g.serial, discs := [], pending := none, finalRun := false, todo := []
      copied := g.copied, total := g.total, done := g.done, xspi := if g.slot = 0 then none else some (g.slot, 0, 0)
      partials := rt.partials.filter fun x => decide (x.serial ≠ g.serial) } }
    let t := ((t.setFld p STRIPE.RT_STAT_WAIT 0).setFld p STRIPE.RT_STAT_POSITION pos).setFld p STRIPE.RT_STAT_SLOT 0
    ((t.rtState 2).event p 0x5104 2 0xFF pos).showSpares

/-- A request held pending starts when it can; until then RT_STAT shows what it waits for. -/
def State.rtResume (s : State) : State :=
  match s.st.rt.pending with
  | some (pos, op) =>
    let w := s.rtWait pos
    if w = 0 ∨ s.fld stripePage STRIPE.RT_STAT_WAIT ≠ w then s.rtStart pos op else s
  | none => s

/-- A position has been missing for 10 minutes, or one of its members is write-retired (R406, R409). -/
def State.positionBad (s : State) (pos : Nat) : Bool :=
  let long := match storeFind (fun _ => none) s.load.missing pos with
    | some t => decide (t + 600 * 10 ^ 9 ≤ s.now)
    | none => false
  long || (List.range 4).any fun l => match s.memberHead l pos with
    | some h => s.retired h
    | none => false

/-- RETHROW_AUTO_START (R409): with RT_AUTO a position missing for 10 minutes, or a write retirement, starts a
re-throw. -/
def execRethrowAutoStart (pos : PosIx) (s : State) : Res :=
  let busy := s.st.rt.pending.isSome || (2 ≤ s.fld stripePage STRIPE.RT_STAT_STATE ∧ s.fld stripePage STRIPE.RT_STAT_STATE ≤ 6)
  if s.cfg stripePage STRIPE.RT_CFG_RT_AUTO = 0 ∨ !s.load.mounted ∨ !s.positionBad pos.val then done s
  else if busy then done s.rtResume
  else done (s.rtStart pos.val 1)

/-! Steps (R410, R411, R413) -/

/-- Settings of a slot that are fired on the load, in recording order of each layer from L0. -/
def State.firedSettings (s : State) (slot : Nat) : List Nat :=
  (List.range 300).flatMap fun z =>
    let k := 300 * slot + z
    (List.range ((s.zone k).fired / 4)).map fun i => zoneSa k (4 * i)

/-- A re-throw's work of a slot: fired settings not copied yet, or whose remap entry is newer. -/
def State.rtWork (s : State) (slot : Nat) : List (Nat × Nat) :=
  let rt := s.st.rt
  let oldHead := s.posHead slot rt.pos
  ((s.firedSettings slot).filter fun sa =>
    let seq := ((s.remapOf oldHead sa).map fun e => e.seq).getD 0
    !rt.copied.any fun c => decide (c.1 = slot) && decide (c.2.1 = sa) && decide (seq ≤ c.2.2)).map fun sa => (slot, sa)

/-- One block of a setting as it is fired on the new disc (R411): the header with the new disc, RETHROWN
set and REMAPPED clear. -/
def State.rtHeader (s : State) (slot sa k : Nat) (h : BlockHeader) : BlockHeader :=
  let f := h.flags - h.flags % 2
  let f := if bitOf f 2 then f else f + flagRethrown
  { h with flags := f, discId := s.st.rt.discs.getD slot 0, pba := pbaOf (saLayer sa) (saSetting sa) k }

/-- A block of zeros in the place of one that no source gives (R411). -/
def State.rtZeros (s : State) (slot sa k : Nat) : BlockHeader × List Nat :=
  let (zk, i) := (zoneOfSa slot sa).getD (0, 0)
  let x : StripeRec :=
    { zone := zk, stripe := i + k, width := 8, excluded := 8, gen := (s.zone zk).gen, expect := 0, fired := 0, passed := 0, plain := [],
      blocks := [], staged := false, replay := false, recorded := false, journalled := false, msn := 0, sent := false }
  let h := s.memberHeader x s.st.rt.pos 0 1 0 0 0 []
  (s.rtHeader slot sa k { h with flags := h.flags + flagClear }, List.replicate 65536 0)

/-- What a block of the work has come to (R411): the block as it is fired, with the mark that it keeps; the old member is still to be
read; members of its stripe are. -/
inductive RtBlock where
  | ready (b : BlockHeader × List Nat) (mark : Option Nat)
  | read
  | members (ps : List Nat)
  deriving DecidableEq, Repr

/-- The tag of a reconstructed data member verifies (R246, R407); without its key nothing can be checked (log entry 166). -/
def State.rtTagOk (s : State) (h : BlockHeader) (payload : List Nat) : Bool :=
  match if h.kind = 1 then s.loadKey h.nsid h.loadId else none with
  | some key => tagVerifies key h payload
  | none => true

/-- The source of one block (R411): the old disc up to rung L6, else reconstruction, else zeros with a shard mark. -/
def State.rtBlock (s : State) (slot sa k : Nat) : RtBlock :=
  let pos := s.st.rt.pos
  let h := s.posHead slot pos
  let at_ := s.placeOf h sa
  let shard := RtBlock.ready (s.rtZeros slot sa k) (some 2)
  let old := match s.releasedAt h sa k with
    | some b => if b.rung ≤ 6 then some b else none
    | none => none
  let gone := (s.memberHead slot pos).isNone || !s.fldBit stripePage STRIPE.MEMBER_OK (8 * slot + pos) ||
    s.pool.unread.contains (h, at_, k) || s.pool.lost.contains (h, at_, k)
  if s.marked h sa k 2 then shard
  else match old with
    | some b => .ready (s.rtHeader slot sa k b.header, b.payload) (if s.marked h sa k 1 then some 1 else none)
    | none =>
      if !gone then .read
      else if s.marked h sa k 1 then .ready (s.rtZeros slot sa k) (some 1)
      else match s.recon slot sa k pos with
        | .vec v =>
          let hdr := s.rebuiltHeader h sa k v
          if s.rtTagOk hdr (vecPayload v) then .ready (s.rtHeader slot sa k hdr, vecPayload v) none else shard
        | .wait ps => .members ps
        | .fail => shard

/-- Ask the load for what the next settings of the work still need, at background priority (R411, R412). -/
def State.rtAsk (s : State) : State :=
  s.forEach (s.st.rt.todo.take 2) fun u (slot, sa) => u.forEach (List.range 4) fun v k => match v.rtBlock slot sa k with
    | .read =>
      let h := v.posHead slot v.st.rt.pos
      let at_ := v.placeOf h sa
      if (v.setting h at_).isSome then v else v.want h at_ .rethrow
    | .members ps => v.wantMembers slot sa k ps .rethrow
    | .ready _ _ => v

/-- What the re-throw has read of a setting's stripes leaves. -/
def State.rtDrop (s : State) (slot sa : Nat) : State :=
  let of_ (h at_ : Nat) : Bool := decide (h < 32) && decide (h % 4 = slot) && decide (s.homeOf h at_ = sa)
  s.setPool { s.pool with
    released := s.pool.released.filter fun b => !(decide (b.why = .rethrow) && of_ b.head b.sa)
    unread := s.pool.unread.filter fun e => !of_ e.1 e.2.1 }

/-- The re-throw reads nothing more of the load. -/
def State.rtStopReads (s : State) : State :=
  s.setPool { s.pool with
    wants := s.pool.wants.filter fun r => decide (r.why ≠ .rethrow) || r.on
    released := s.pool.released.filter fun b => decide (b.why ≠ .rethrow) }

/-- Begin a slot of the re-throw: the elevator moves, its work is listed (R410 step 2, 3). -/
def State.rtSlot (s : State) (slot : Nat) : State :=
  let t := ((s.setFld stripePage STRIPE.RT_STAT_SLOT slot).discOff 32).startHeaders 32
  let t := t.elvCmd slot (decide (t.seqState 32 = sqParked))
  let work := t.rtWork slot
  let t := t.setSt { t.st with rt := { t.st.rt with todo := work } }
  t.rtAsk

/-- The re-throw fails (R413): the old sagger stays. -/
def State.rtFail (s : State) : State :=
  let t := s.setSt { s.st with rt := { s.st.rt with op := 0, todo := [] } }
  ((t.rtStopReads.rtState 8).event stripePage 0x5105 5 0xFF s.st.rt.pos).rtResume

/-- The four blocks of a setting of the work, with the marks to keep; none while a source is still being
read. -/
def State.rtBlocks (s : State) (slot sa : Nat) : Option (List ((BlockHeader × List Nat) × Option Nat)) :=
  let bs := (List.range 4).map fun k => match s.rtBlock slot sa k with
    | .ready b mark => some (b, mark)
    | _ => none
  if bs.all Option.isSome then some (bs.filterMap id) else none

/-- A setting of the work is at a position that its stripes leave out: it stays blank (R411). -/
def State.rtExcluded (s : State) (slot sa : Nat) : Bool :=
  match zoneOfSa slot sa with
  | some (k, i) => (s.zone k).excluded i == some s.st.rt.pos
  | none => false

/-- The setting at the front of the work is done with: progress (R413, R420). -/
def State.rtDone (s : State) (slot sa : Nat) : State :=
  let rt := s.st.rt
  let seq := ((s.remapOf (s.posHead slot rt.pos) sa).map fun e => e.seq).getD 0
  let t := s.setSt { s.st with rt := { rt with
    todo := rt.todo.drop 1, copied := rt.copied ++ [(slot, sa, seq)], done := rt.done + 1, xspi := some (slot, saLayer sa, sa) } }
  let n := t.st.rt.total
  -- the estimate of R420 follows no stated rule: a free value (log entry 2)
  let (eta, t) := t.free
  let t := t.setFld stripePage STRIPE.RT_ETA (eta % 2 ^ 32)
  (t.setFld stripePage STRIPE.RT_STAT_PROGRESS (if n = 0 then 0 else min 1000 (1000 * t.st.rt.done / n))).rtAsk

/-- RETHROW_STEP_DONE, a setting obtained (R410 step 3, R411): it becomes ready for H32. -/
def State.rtSetting (s : State) : State :=
  match s.st.rt.todo with
  | [] => s
  | (slot, sa) :: _ =>
    if s.rtExcluded slot sa then s.rtDone slot sa
    else match s.rtBlocks slot sa with
      | none => s.rtAsk
      | some bs =>
        let (k, _) := (zoneOfSa slot sa).getD (0, 0)
        let t := s.forEach bs.zipIdx fun u (b, i) => match b.2 with
          | some kind =>
            let m : Mark := { disc := discKeyOf u.st.rt.new slot, sa := sa, blocks := 2 ^ i, kind := kind, gen := b.1.1.generation, zone := k }
            (u.setCat { u.st.cat with marks := u.st.cat.marks ++ [m] }).catPut u.st.rt.new (some slot) 5
              (markBody sa (2 ^ i) kind b.1.1.generation k u.st.rt.pos)
          | none => u
        let r : ReadySet := { head := 32, sa := sa, kind := .rethrow, blocks := bs.map fun b => b.1 }
        let t := { t with fire := { t.fire with ready := t.fire.ready ++ [r] } }
        (((t.rtDrop slot sa).want 32 sa .blankScan).rtDone slot sa)

/-- H32 has nothing under way, and the slot's work is done: a disc leaves the head only with every setting's verdict in (R273). -/
def State.rtIdle (s : State) : Bool :=
  s.st.rt.todo.isEmpty && !s.fire.ready.any (fun r => decide (r.head = 32)) && (s.fireHead 32).await.isEmpty

/-- A slot's pass has nothing left (R410 steps 3 to 5): catch-up, then the next slot or the final pass, which fires what any slot still
lacks. -/
def State.rtCaught (s : State) : State :=
  let slot := s.fld stripePage STRIPE.RT_STAT_SLOT
  if !s.rtIdle then s
  else if s.fld stripePage STRIPE.RT_STAT_STATE = 5 then
    match (List.range 4).find? fun l => !(s.rtWork l).isEmpty with
    | some l => s.rtSlot l
    | none => s
  else
    let more := s.rtWork slot
    if !more.isEmpty then
      let t := s.setSt { s.st with rt := { s.st.rt with todo := more, total := s.st.rt.total + more.length } }
      (t.rtState 4).rtAsk
    else if slot < 3 then (s.rtState 3).rtSlot (slot + 1)
    else (s.setSt { s.st with rt := { s.st.rt with finalRun := false } }).rtState 5

/-- A disc of the new sagger lacks records of the cache that its areas have room for. -/
def State.rtLacks (s : State) (slot : Nat) : Bool :=
  let d := discKeyOf s.st.rt.new slot
  decide (storeFind (fun _ => 0) s.st.cat.areaUsed d < 1024) && s.st.cat.recs.any fun r =>
    decide (r.serial = s.st.rt.new) && (r.slot == none || r.slot == some slot) && !r.fired.contains slot

/-- The records go to the new discs one slot at a time, the one in the head first (R410 step 6). -/
def State.rtRecords (s : State) : State :=
  let slot := s.fld stripePage STRIPE.RT_STAT_SLOT
  match (slot :: List.range 4).find? s.rtLacks with
  | some l =>
    let t := if l = slot then s else s.rtSlot l
    (t.closeCatalogue 32).wantScans 32
  | none => s

/-- Every setting on W8 has passed (R410 steps 5, 6): membership records, and the new discs' catalogue. -/
def State.rtFinal (s : State) : State :=
  let rt := s.st.rt
  let wait := !s.rtIdle || rt.recording || (List.range 4).any fun l => !(s.rtWork l).isEmpty
  if s.fld stripePage STRIPE.RT_STAT_STATE ≠ 5 ∨ wait then s
  else
    let ids (l : List Nat) : List Nat := ((l ++ [0, 0, 0, 0]).take 4).flatMap (bytesBE 8)
    let body (serial pos : Nat) (ds : List Nat) : List Nat := bytesBE 8 s.load.id ++ bytesBE 8 serial ++ [pos] ++ List.replicate 7 0 ++ ids ds
    let oldDiscs := ((s.memberAt rt.pos).map fun m => m.discs).getD []
    let t := s.catPut rt.old none 1 (body rt.old 0xFF oldDiscs)
    let t := t.catPut rt.new none 1 (body rt.new rt.pos rt.discs)
    let t := t.setCat { t.st.cat with saggers := t.st.cat.saggers.map fun g =>
      if g.serial = rt.old then { g with pos := 0xFF } else if g.serial = rt.new then { g with pos := rt.pos, load := s.load.id } else g }
    let t := t.setSt { t.st with rt := { t.st.rt with recording := true } }
    t.rtRecords.showSpares

/-- The records are on the old and the new discs: both wheels brake for the swap (R410 step 7). -/
def State.rtRecorded (s : State) : State :=
  if s.fld stripePage STRIPE.RT_STAT_STATE ≠ 5 ∨ !s.st.rt.recording ∨ !s.rtIdle ∨ s.rtCloseDue then s
  else if (List.range 4).any s.rtLacks then s.rtRecords
  else
    let t := (s.rtState 6).setSt { s.st with rt := { s.st.rt with recording := false } }
    let w := (s.memberAt s.st.rt.pos).bind fun m => m.wheel
    let t := (t.setFld (wheelPage 8) WHEEL.SPD_CMD 0).spdWritten 8
    match w with
    | some w => if t.owned (wheelPage w) then (t.setFld (wheelPage w) WHEEL.SPD_CMD 0).spdWritten w else t
    | none => t

/-- The wheel that the new sagger goes to: the old one's, or the first free one where the old sagger is on none. -/
def State.rtWheel (s : State) : Option Nat :=
  match (s.memberAt s.st.rt.pos).bind fun m => m.wheel with
  | some w => some w
  | none =>
    let free := (List.range 8).filter fun w => !s.load.members.any fun m => decide (m.wheel = some w)
    match free.find? s.whOwns with
    | some w => some w
    | none => free.head?

/-- The loader has put the new sagger in the old one's place, and its clamp is sensed: the load returns to full width. -/
def State.rtSwapped (s : State) : State :=
  let rt := s.st.rt
  match s.rtWheel with
  | none => s
  | some w =>
    let placed := decide (storeFind (fun _ => none) s.mot.onWheel w = some rt.new) && s.flag (wheelPage w) WHEEL.WH_STAT_CLAMP_SNS && s.mot.plan.isEmpty
    if s.fld stripePage STRIPE.RT_STAT_STATE ≠ 6 ∨ !placed then s
    else
      let others := s.load.members.filter fun m => decide (m.pos ≠ rt.pos)
      let new : Member := { pos := rt.pos, serial := rt.new, wheel := some w, discs := rt.discs, accepted := true }
      let t := s.discsOff w
      let t := { t with load := { t.load with members := others ++ [new] } }
      let t := t.setSt { t.st with rt := { t.st.rt with op := 0, todo := [], copied := [], xspi := none } }
      let t := (t.rtState 7).event stripePage 0x5104 2 0xFF rt.pos
      (t.refreshLanes).showSpares.rtResume

/-- The spare is mounted on W8 (R410 step 1, R17): at least three of its discs yield the catalogue's IDs. -/
def State.rtMounted (s : State) (ids : List Nat) : State :=
  if s.fld stripePage STRIPE.RT_STAT_STATE ≠ 2 ∨ !s.flag (wheelPage 8) WHEEL.WH_STAT_CLAMP_SNS ∨ !s.mot.plan.isEmpty then s
  else
    let cat := ((s.st.cat.saggers.find? fun g => decide (g.serial = s.st.rt.new)).map fun g => g.discs).getD []
    let good := (List.range 4).filter fun i => decide (ids.getD i 0 ≠ 0) && decide (ids.getD i 0 = cat.getD i 0)
    let bad := (List.range 4).any fun i => decide (ids.getD i 0 ≠ 0) && decide (ids.getD i 0 ≠ cat.getD i 0)
    if good.length < 3 || bad then (s.event stripePage 0x5111 4 0xFF 8).rtFail
    else
      let s := match s.st.cat.saggers.find? fun g => decide (g.serial = s.st.rt.new) with
        | some g => s.duplicateCheck g
        | none => s
      let t := s.setSt { s.st with rt := { s.st.rt with
        discs := cat, total := if s.st.rt.total = 0 then ((List.range 4).map fun l => (s.rtWork l).length).sum else s.st.rt.total } }
      let slot := (s.st.rt.xspi.map fun x => x.1).getD 0
      (t.rtState 3).rtSlot slot

/-- H32 reads the headers of the disc in its slot while it does not fire; a header that disagrees refuses the sagger (R17, R121), and
a write retirement of H32 ends the re-throw (R413). -/
def State.kickGo (s : State) : State :=
  let st := s.fld stripePage STRIPE.RT_STAT_STATE
  if st < 3 ∨ 5 < st then s
  else if s.retired 32 then s.rtFail
  else if !s.headObeys 32 ∨ s.headFires 32 then s
  else
    let t := s.headerStep 32
    if t.idClash 32 then (t.event stripePage 0x5111 4 0xFF 8).rtFail else t

/-- RETHROW_STEP_DONE (R410-R413). -/
def execRethrowStepDone (step : RtStep) (s : State) : Res :=
  let st := s.fld stripePage STRIPE.RT_STAT_STATE
  match step with
  | .mounted ids => done (s.rtMounted ids)
  | .settingDone => if 3 ≤ st ∧ st ≤ 5 then done s.rtSetting else done s
  | .slotCaught => if 3 ≤ st ∧ st ≤ 5 then done s.rtCaught else done s
  | .finalDone => done s.rtFinal
  | .recordsFired => done s.rtRecorded
  | .swapped => done s.rtSwapped
  | .failed => if 2 ≤ st ∧ st ≤ 6 then done s.rtFail else done s

/-- RT_CMD abort (R414). -/
def State.rtAbort (s : State) : State :=
  let p := stripePage
  let st := s.fld p STRIPE.RT_STAT_STATE
  let rt := s.st.rt
  if st = 1 then
    let t := s.setSt { s.st with rt := { rt with pending := none } }
    ((t.setFld p STRIPE.RT_STAT_WAIT 0).rtState 9).event p 0x5104 2 0xFF (s.fld p STRIPE.RT_STAT_POSITION)
  else if 2 ≤ st ∧ st ≤ 5 then
    let t := if s.headFires 32 then s.stopBoundary 32 else s
    let t := t.rtStopReads
    let body := bytesBE 8 s.load.id ++ bytesBE 8 rt.new ++ [0xFE] ++ List.replicate 7 0 ++
      ((rt.discs ++ [0, 0, 0, 0]).take 4).flatMap (bytesBE 8)
    let t := t.catPut rt.new none 1 body
    let t := t.setCat { t.st.cat with saggers := t.st.cat.saggers.map fun g =>
      if g.serial = rt.new then { g with pos := 0xFE, load := s.load.id } else g }
    let t := { t with fire := { t.fire with ready := t.fire.ready.filter fun r => decide (r.head ≠ 32) } }
    let t := t.setSt { t.st with rt := { t.st.rt with op := 0, todo := [], recording := false, partials := rt.partials ++ [s.rtProgress] } }
    let t := if t.owned (wheelPage 8) then (t.setFld (wheelPage 8) WHEEL.SPD_CMD 0).spdWritten 8 else t
    (((t.rtState 9).event p 0x5104 2 0xFF rt.pos).showSpares).rtResume
  else s

/-- A write of RT_CMD (R420): op 1 re-throw, 2 relocation, 3 abort. -/
def State.rtCmd (s : State) (op pos : Nat) : State :=
  if op = 1 ∨ op = 2 then s.rtStart pos op else if op = 3 then s.rtAbort else s

/-! Craze patrol (R415, R416) -/

/-- A craze-patrol coverage record (R404), for every fireable disc of the lane. -/
def State.patrolRecord (s : State) (k : Nat) : State :=
  let z := s.zone k
  let body := bytesBE 8 s.load.id ++ bytesBE 2 (k % 300) ++ [k / 300, 0] ++ bytesBE 4 z.nextPatrol ++ bytesBE 4 z.passes ++
    bytesBE 4 0 ++ bytesBE 8 z.lastPass
  let t := s.setZone k { z with patrolSaved := z.passes * 32768 + z.nextPatrol }
  t.lanePut (k / 300) 6 body

/-- RUN_CLOSE (R396, R401, R415): the patrol's coverage is saved, then the close is made. -/
def execRunClose (s : State) : Res :=
  if (s.run 0).phase ≠ 4 ∨ !s.jr.waiting.isEmpty then done s
  else done (s.forEach (s.liveZones.filter fun z => decide (z.2.patrolSaved ≠ z.2.passes * 32768 + z.2.nextPatrol))
    fun u z => u.patrolRecord z.1).runClose

/-- A member found bad is fired again into a spare with REASON 1 (R416). -/
def State.patrolRefire (s : State) (k i pos : Nat) : State :=
  let sa := zoneSa k i
  match s.memberHead (k / 300) pos with
  | none => s
  | some h =>
    let t := s.count stripePage STRIPE.PATROL_REFRESH
    t.want h (((s.remapOf h sa).map fun e => e.spare).getD sa) .refire

/-- The data index or parity that the syndromes of P and Q locate (R416): a stripe position. -/
def locateBad (p q : Nat) (ds : List Nat) (sp sq : List Nat) : Option Nat :=
  let zero (v : List Nat) : Bool := v.all fun b => b == 0
  if zero sq then some p
  else if zero sp then some q
  else (ds.zipIdx.find? fun x => vecScale (gfPow 2 x.2) sp == sq).map fun x => x.1

/-- The blocks of a stripe that the patrol has read, by position. -/
def State.patrolBlocks (s : State) (k i : Nat) : List (Nat × BlockOut) :=
  (List.range 8).filterMap fun pos => (s.memberHead (k / 300) pos).bind fun h =>
    let sa := ((s.remapOf h (zoneSa k i)).map fun e => e.spare).getD (zoneSa k i)
    (s.pool.released.find? fun b => decide (b.head = h) && decide (b.sa = sa) && decide (b.blk = i % 4) && decide (b.why = .patrol)).map
      fun b => (pos, b)

/-- The patrol goes on to the next stripe; after the last a pass is complete. -/
def State.patrolNext (s : State) (k : Nat) : State :=
  let z := s.zone k
  let i := z.nextPatrol + 1
  let z' := if i < z.conf then { z with nextPatrol := i } else { z with nextPatrol := 0, passes := z.passes + 1, lastPass := s.utc }
  (s.setZone k z').count stripePage STRIPE.PATROL_STRIPES

/-- A head has been idle for PATROL_IDLE (R415): nothing read or wanted, nothing fired. -/
def State.headIdle (s : State) (h : Nat) : Bool :=
  let last := storeFind (fun _ => 0) s.pool.lastRead h
  decide (last + 1000000 * s.cfgIn stripePage STRIPE.RT_CFG_PATROL_IDLE 10 255 ≤ s.now) && !s.headFires h && decide ((s.seq h).op = 0) &&
  !s.pool.wants.any fun r => decide (r.head = h) && decide (r.why ≠ .patrol)

/-- The patrol of the next stripe of a zone (R415, R416). -/
def State.patrolStripe (s : State) (lane k : Nat) : State :=
  let z := s.zone k
  let i := if z.nextPatrol < z.conf then z.nextPatrol else 0
  let (p, q, ds) := stripeLayout (z.excluded i) i
  let all := p :: q :: ds
  let bs := s.patrolBlocks k i
  let vec (pos : Nat) : Option (List Nat) := (bs.find? fun b => decide (b.1 = pos)).map fun b => memberVec b.2.header b.2.payload
  if all.all fun pos => (vec pos).isSome then
    let data := ds.zipIdx.map fun (pos, d) => (d, (vec pos).getD [])
    let sp := vecXor ((vec p).getD []) (vecP data)
    let sq := vecXor ((vec q).getD []) (vecQ data)
    let clean := (sp ++ sq).all fun b => b == 0
    let t := s.setPool { s.pool with released := s.pool.released.filter fun b => !bs.any fun x => decide (x.2 = b) }
    let t := if clean then t
      else
        let u := t.count stripePage STRIPE.PATROL_MISMATCH
        match locateBad p q ds sp sq with
        | some pos => u.patrolRefire k i pos
        | none => u.event stripePage 0x5108 4 0xFF i
    let t := t.forEach (bs.filter fun b => decide (4 ≤ b.2.rung)) fun u b => u.patrolRefire k i b.1
    t.patrolNext k
  else
    (s.forEach all fun u pos => match u.memberHead lane pos with
      | some h => if (vec pos).isSome || !u.headIdle h then u else
          u.want h (((u.remapOf h (zoneSa k i)).map fun e => e.spare).getD (zoneSa k i)) .patrol
      | none => u)

/-- CRAZE_PATROL (R415, R416): the next whole stripe of a zone is asked for, and once all its members are
read its parity is checked; data tags have verified at release. -/
def execCrazePatrol (lane : LaneOf) (zone : ZoneIx) (s : State) : Res :=
  let k := 300 * lane.val + zone.val
  let z := s.zone k
  if s.cfg stripePage STRIPE.RT_CFG_PATROL_EN = 0 ∨ !s.mcSpare ∨ !s.load.mounted ∨ z.conf = 0 ∨ z.replaying then done s
  else done (s.patrolStripe lane.val k)

/-! Cone reads (R417) -/

/-- The witnesses of a layer that a head reads: those not excluded (R266, R405). -/
def State.coneSettings (s : State) (h layer : Nat) : List Nat :=
  ((List.range 64).map fun i => settingAddr layer (3136 + i)).filter fun sa => !s.st.cat.excluded.contains (s.fireDiscId h, sa)

/-- Cone reads of a mount: an idle head that is ready reads the witnesses of every fired layer, at L0 (R417). -/
def State.coneGo (s : State) : State :=
  if s.cfg stripePage STRIPE.CONE_CFG_CONE_EN = 0 || !s.load.mounted then s
  else s.forEach (List.range 32) fun u h =>
    let idle := u.headReady h && u.headObeys h && !u.headFires h && !u.pool.wants.any fun r => decide (r.head = h)
    let member := u.load.members.any fun m => m.accepted && decide (m.wheel = some (h / 4))
    let due := (List.range 10).filter fun l => u.layerOpen h l && !u.load.cones.contains (u.fireDiscId h, l)
    if !idle || !member then u
    else match due with
      | [] => u
      | l :: _ =>
        let v := u.forEach (u.coneSettings h l) fun v sa => v.want h sa .cone
        { v with load := { v.load with cones := v.load.cones ++ [(u.fireDiscId h, l)] } }

/-- The figures of a witness that a cone read has read to its end. -/
def State.coneFig (s : State) (h sa : Nat) : Option WitnessFig :=
  match s.setting h sa, s.figOf h sa with
  | some x, some g => if x.why = .cone ∧ x.step = .blocks then some (x.witness g.mse) else none
  | _, _ => none

/-- A cone trend record from the witnesses of a layer (R405, R417). -/
def State.coneRecord (s : State) (h layer : Nat) (ws : List WitnessFig) : State :=
  let p := stripePage
  let disc := s.fireDiscId h
  let n := ws.length
  let c := s.st.cat
  let out (sa : Nat) : Bool := c.excluded.contains (disc, sa)
  let base := c.baseline.filter fun e => decide (e.1 / 2 ^ 22 = disc) && decide (saLayer (e.1 % 2 ^ 22) = layer) && !out (e.1 % 2 ^ 22)
  let mean (l : List Int) : Int := if l.isEmpty then 0 else l.sum.tdiv (l.length : Int)
  let delta := mean (ws.map fun w => w.mse) - mean (base.map fun e => e.2.mse)
  let ber := rawBer ws
  let adv := decide ((s.cfg p STRIPE.CONE_CFG_CONE_ADV_MSE : Int) < delta) ||
    decide (2 ^ (32 - s.cfgIn p STRIPE.CONE_CFG_CONE_ADV_BER 1 31) < ber)
  let excl := (c.excluded.filter fun e => decide (e.1 = disc) && decide (saLayer e.2 = layer)).length
  let body := coneBody disc layer n excl (if adv then 2 else 0) s.utc delta ((ws.map fun w => w.iters).sum / n)
    (min (2 ^ 32 - 1) ber) (ws.map fun w => w.fails).sum
  let t := s.catPut (s.fireDisc h).1 (some (s.fireDisc h).2) 7 body
  if adv then (t.istat p 12).event p 0x5106 3 0xFF h else t

/-- CONE_READ (R417): a head has read the witnesses of a fired layer: their trend record follows. -/
def execConeRead (h : HeadIx) (layer : Fin 10) (_ : Computed) (s : State) : Res :=
  let n := h.val
  let sas := s.coneSettings n layer.val
  let ws := sas.filterMap (s.coneFig n)
  if ws.isEmpty ∨ ws.length < sas.length then done s
  else
    let t := s.coneRecord n layer.val ws
    done (t.forEach sas fun u sa => ((u.dropSetting n sa).unwant n sa).dropFig n sa)

end Sys2Proof.Machine
end

