-- ==== Sys2Proof/Machine/HostIo.lean ====
section
/-!
DEFINITION. Namespaces, zones and I/O commands (R467, R471-R482, R494, R496).
-/
namespace Sys2Proof.Machine

/-! Rights (R467) -/

/-- The access-list entry of a host, by its digest as a number of 32 bytes, least significant first. -/
def State.aclOf (s : State) (host : Nat) : Option Nat := (List.range 48).find? fun k =>
  s.flag nvmePage NVME.ACL_VALID k &&
    (([NVME.ACL_HOST0, NVME.ACL_HOST1, NVME.ACL_HOST2, NVME.ACL_HOST3, NVME.ACL_HOST4, NVME.ACL_HOST5, NVME.ACL_HOST6,
      NVME.ACL_HOST7].zipIdx).all fun (f, i) => decide (s.fld nvmePage f k = host / 2 ^ (32 * i) % 2 ^ 32))

/-- The host of a connection holds right n. -/
def State.hasRight (s : State) (c n : Nat) : Bool := match (s.assocOf c).bind fun a => s.aclOf a.host with
  | some k => bitOf (s.fld nvmePage NVME.ACL_RIGHTS k) n
  | none => false

/-- A namespace is in the mask of the connection's host. -/
def State.inMask (s : State) (c ns : Nat) : Bool := match (s.assocOf c).bind fun a => s.aclOf a.host with
  | some k => bitOf (s.fld nvmePage NVME.ACL_MASK_LO k + 2 ^ 32 * s.fld nvmePage NVME.ACL_MASK_HI k) (ns - 1)
  | none => false

/-! Places (R468, R471, R472) -/

/-- LBAs of a zone. -/
def zsze : Nat := 4194304

/-- Zone k of an ordered list of extents: the extent and the zone's place in it. -/
def extentOf : List Extent → Nat → Option (Extent × Nat)
  | [], _ => none
  | e :: r, k => if k < e.zones then some (e, k) else extentOf r (k - e.zones)

/-- Zones of a namespace; load and lane zone of one (R472). -/
def NsSt.zones (n : NsSt) : Nat := (n.extents.map fun e => e.zones).sum
def NsSt.laneZone (n : NsSt) (k : Nat) : Option (Nat × Nat) :=
  (extentOf n.extents k).map fun (e, o) => (e.load, 300 * e.lane + e.first + o)

/-- The namespace zone that a lane zone of a load is (R472). -/
def NsSt.zoneOf (n : NsSt) (load key : Nat) : Option Nat :=
  (List.range n.zones).find? fun k => decide (n.laneZone k = some (load, key))

/-- Zone states of a load, mounted or not. -/
def State.zonesOf (s : State) (load : Nat) : Store ZoneSt :=
  if s.load.id = load then s.st.zones else ((s.host.zoneSets.find? fun e => decide (e.1 = load)).map fun e => e.2).getD []
def State.zoneIn (s : State) (load k : Nat) : ZoneSt := storeFind (fun _ => ZoneSt.empty) (s.zonesOf load) k

/-- Bytes of an LBA with its metadata (R471). -/
def NsSt.lbaBytes (n : NsSt) : Nat := if n.lbaf = 1 then 4112 else 4096

/-! When a zone cannot be served (R480, R482) -/

/-- A namespace cannot be served to a connection: rights, mask, attachment, ANA state. -/
def State.nsRefusal (s : State) (c ns : Nat) : Option NvStatus :=
  match s.nsp ns with
  | none => some .invalidNs
  | some n =>
    if !s.hasRight c 0 then some .accessDenied
    else if n.deleting || !n.attached.contains (s.cntlid c) || !s.inMask c ns then some .invalidNs
    else match s.ana ns with
      | 1 => none
      | 3 => some .anaInaccessible
      | 15 => some .anaTransition
      | _ => some .invalidNs

/-- A zone of a load cannot be served. -/
def State.zoneRefusal (s : State) (ns load k : Nat) : Option NvStatus :=
  if (s.loadKey ns load).isNone then some (.notReady 2)
  else if s.load.mounted ∧ s.load.id = load then
    if s.load.phase ≠ .none ∨ !s.fldBit rdyPage RDY.LANE_IO (k / 300) ∨ (s.zone k).replaying then some (.notReady 2) else none
  else if s.load.phase ≠ .none ∧ s.load.target = load ∧ !s.load.unmount then some (.notReady 2)
  else some (.notReady 1)

/-- Where an I/O command at an LBA goes: namespace, load, lane zone and the LBA in the zone, or the
status that it completes with. -/
def State.ioPlace (s : State) (c ns lba : Nat) : Except NvStatus (NsSt × Nat × Nat) :=
  match s.nsRefusal c ns, s.nsp ns with
  | some st, _ => .error st
  | none, none => .error .invalidNs
  | none, some n => match n.laneZone (lba / zsze) with
    | none => .error .lbaRange
    | some (load, k) => match s.zoneRefusal ns load k with
      | some st => .error st
      | none => .ok (n, k, lba % zsze)

/-- Complete with a status; keys that are missing raise their event. -/
def State.ioRefuse (s : State) (c cid ns : Nat) (st : NvStatus) : State :=
  let missing : Bool := match st, s.nsp ns with
    | .notReady 2, some n => n.extents.any fun e => (s.loadKey ns e.load).isNone
    | _, _ => false
  let t := if missing then s.keyMissing ns else s
  t.complete c cid st

/-- Give a context its work. -/
def State.setWork (s : State) (c cid op : Nat) (w : HostWork) : State :=
  match s.ctx c cid with
  | some x => s.setCtx { x with op := op, work := w, since := s.now }
  | none => s

/-! Opening zones (R474-R476, R478) -/

/-- Zones of every load that meet a test. -/
def State.countZones (s : State) (p : ZoneSt → Bool) : Nat :=
  (s.st.zones.filter fun e => p e.2).length +
    ((s.host.zoneSets.filter fun e => decide (e.1 ≠ s.load.id)).map fun e => (e.2.filter fun z => p z.2).length).sum

/-- A zone may become active and open within the limits of R476. -/
def State.openLimit (s : State) (ns : Nat) (z : ZoneSt) : Option NvStatus :=
  let isOpen (x : ZoneSt) : Bool := decide (x.state = 1 ∨ x.state = 2)
  let active (x : ZoneSt) : Bool := isOpen x || decide (x.state = 3)
  let more : Nat := if z.state = 0 then 1 else 0
  if 256 < s.countZones (fun x => decide (x.ns = ns) && active x) + more ∨ 1024 < s.countZones active + more then some .tooManyActive
  else if 256 ≤ s.countZones (fun x => decide (x.ns = ns) && isOpen x) then some .tooManyOpen
  else none

/-- Capacity of a zone that leaves Empty (R474). -/
def State.newZcap (s : State) (k : Nat) : Nat := if (s.laneExcluded (k / 300)).isSome then 2621440 else 3145728

/-- A zone leaves Empty: capacity, durability point, generation and width are fixed (R380, R383, R474, R478). -/
def State.leaveEmpty (s : State) (ns : Nat) (n : NsSt) (k : Nat) : State :=
  let z := s.zone k
  if z.state ≠ 0 then s
  else
    let t := s.setZone k { z with ns := ns, zcap := s.newZcap k, mirrorAck := n.mirrorAck, gen := max 1 z.gen, state := 3 }
    (t.widthChange k 0).1

/-- A zone enters a state, and its records follow. -/
def State.zoneTo (s : State) (k st : Nat) : State :=
  let t := s.setZone k { s.zone k with state := st }
  (t.zoneRecord k).jput (zoneJRec k (t.zone k))

/-- Open a zone, implicitly (1) or explicitly (2). -/
def State.openZone (s : State) (ns : Nat) (n : NsSt) (k how : Nat) : State := (s.leaveEmpty ns n k).zoneTo k how

/-! Reads (R479, R481) -/

/-- Where LBA j of a zone lies on the medium: head, home setting, block, data codeword (R473). -/
def State.lbaPlace (s : State) (k j : Nat) : Option (Nat × Nat × Nat × Nat) :=
  let z := s.zone k
  (stripeOfLba z.width j).map fun (i, o) =>
    let (_, _, ds) := stripeLayout (z.excluded i) i
    (s.posHead (k / 300) (ds.getD (o / 16) 0), zoneSa k i, i % 4, o % 16)

/-- LBAs of a read that need the medium, and the blocks that carry them. -/
def State.mediaLbas (s : State) (k first n : Nat) : List Nat :=
  let z := s.zone k
  ((List.range n).map fun i => first + i).filter fun j => decide (j < z.wp) && !z.hasLba j
def State.readBlocks (s : State) (k first n : Nat) : List (Nat × Nat × Nat) :=
  ((s.mediaLbas k first n).filterMap fun j => (s.lbaPlace k j).map fun (h, sa, b, _) => (h, sa, b)).eraseDups

/-- A data block that has been released. -/
def State.releasedBlock (s : State) (h home blk : Nat) : Option BlockOut :=
  s.pool.released.find? fun r => decide (r.head = h) && decide (s.homeOf h r.sa = home) && decide (r.blk = blk) && decide (r.header.kind = 1)

/-- A block is lost: a shard (R247, R403). -/
def State.lostBlock (s : State) (h home blk : Nat) : Bool :=
  let at_ := s.placeOf h home
  s.pool.lost.contains (h, at_, blk) || s.marked h home blk 2 || s.marked h at_ blk 2

/-- Ask for a block: a read of its setting, or, where its member cannot be read, reconstruction. -/
def State.askBlock (s : State) (h home blk : Nat) : State :=
  let at_ := s.placeOf h home
  let ready := s.headReady h && s.load.members.any fun m => decide (m.wheel = some (h / 4)) && m.accepted
  if ready then (if (s.setting h at_).isSome then s else s.want h at_ .host)
  else
    let x := match s.setting h at_ with
      | some x => x
      | none => { s.newSetting h at_ .host with since := some s.now, step := .l7, blocks := [3, 3, 3, 3] }
    if x.blocks.getD blk 0 = 2 then s
    else
      let (t, y) := s.toL7 x blk
      if y.blocks.getD blk 0 = 4 then t else t.putSetting y

/-- Bytes of an LBA for a host: from zeros, staging or a released block. -/
def State.readLba (s : State) (ns : Nat) (n : NsSt) (k j : Nat) : List Nat :=
  let z := s.zone k
  let all : List Nat :=
    if z.wp ≤ j then List.replicate 4112 0
    else if z.hasLba j then z.stagedLba j
    else match s.lbaPlace k j with
      | some (h, sa, b, w) => match s.releasedBlock h sa b with
        | some r =>
          let text := openBlock ((s.loadKey ns s.load.id).getD 0) r.header r.payload
          (text.drop (4096 * w)).take 4096 ++ (text.drop (65536 + 16 * w)).take 16
        | none => []
      | none => []
  all.take n.lbaBytes

/-- Released blocks that no read needs leave. -/
def State.dropReleased (s : State) : State :=
  let need := s.host.ctxs.flatMap fun x => match x.work with
    | .read _ k first n => s.readBlocks k first n
    | _ => []
  let left := s.pool.released.filter fun r => decide (r.why ≠ .host) || need.contains (r.head, s.homeOf r.head r.sa, r.blk)
  s.setPool { s.pool with released := left }

/-- A read goes on: it completes once every block that it needs is released, or one is lost (R479, R481). -/
def State.readGo (s : State) (x : Ctx) (ns k first n : Nat) : State :=
  match s.nsp ns with
  | none => s.complete x.conn x.cid .invalidNs
  | some nsd =>
    let blocks := s.readBlocks k first n
    if blocks.any fun b => s.lostBlock b.1 b.2.1 b.2.2 then
      let bad := (s.mediaLbas k first n).find? fun j => match s.lbaPlace k j with
        | some (h, sa, b, _) => s.lostBlock h sa b
        | none => false
      let lba := ((nsd.zoneOf s.load.id k).getD 0) * zsze + bad.getD first
      let a := (s.conn x.conn).bind fun c => c.assoc
      let t : State := match a, s.assocOf x.conn with
        | some i, some y => s.setAssoc i (some { y with errs := y.errs ++ [(ns, lba)] })
        | _, _ => s
      (t.complete x.conn x.cid .unrecoveredRead).dropReleased
    else if !blocks.isEmpty && (s.loadKey ns s.load.id).isNone then (s.ioRefuse x.conn x.cid ns (.notReady 2)).dropReleased
    else if blocks.all fun b => (s.releasedBlock b.1 b.2.1 b.2.2).isSome then
      let data := ((List.range n).map fun i => s.readLba ns nsd k (first + i)).flatten
      let t := if blocks.isEmpty ∧ first < (s.zone k).wp then s.count stripePage STRIPE.STG_READ_HIT else s
      (t.complete x.conn x.cid .ok 0 data).dropReleased
    else s.forEach (blocks.filter fun b => (s.releasedBlock b.1 b.2.1 b.2.2).isNone) fun u b => u.askBlock b.1 b.2.1 b.2.2

/-! Writes (R477) -/

/-- LBAs that writes before this one still have to stage in a zone. -/
def State.pendingLbas (s : State) (k : Nat) : Nat := (s.host.ctxs.map fun x => match x.work with
  | .write _ q _ n _ _ _ _ => if q = k then n else 0
  | _ => 0).sum

/-- Show how many flushes and finishes wait (R256). -/
def State.urgentShow (s : State) : State :=
  let n := (s.host.ctxs.filter fun x => match x.work with
    | .flush _ => true
    | .finish _ => true
    | _ => false).length
  { s with fire := { s.fire with urgent := n } }

/-- Staging accepts write data (R387). -/
def State.stgAccepts (s : State) : Bool := !s.st.stgOver && !s.fire.holdup

/-- Stage a write's data at the write pointer; the twin receives its copy, two LBAs a message (R385, R541). -/
def State.stageData (s : State) (ns : Nat) (n : NsSt) (k count : Nat) (data : List Nat) : State :=
  let z := s.zone k
  let lba (i : Nat) : List Nat := if n.lbaf = 1 then (data.drop (4112 * i)).take 4112 else (data.drop (4096 * i)).take 4096 ++ List.replicate 16 0
  let ls := (List.range count).map fun i => (z.wp + i, lba i)
  let staged := ls.foldl (fun m e => storePut (fun _ => []) m e.1 e.2) z.staged
  let fresh := if s.paired then ls.map fun e => e.1 else []
  let t := s.setZone k { z with staged := staged, wp := z.wp + count, unmirrored := z.unmirrored ++ fresh }
  let t := t.forEach (List.range ((count + 1) / 2)) fun u i =>
    u.tSend clsMirror (.stage ns k (z.wp + 2 * i) (((ls.drop (2 * i)).take 2).map fun e => e.2))
  let t := if z.wp + count = z.zcap then t.zoneTo k 4 else t
  t.stgShow

/-- A write goes on (R477): Ready-to-Transfer once staging accepts its data; its data is staged, in the
order of the writes of its zone, once all of it has been received. -/
def State.writeGo (s : State) (x : Ctx) (ns k first n : Nat) (fua append zeroes granted : Bool) : State :=
  match s.nsp ns with
  | none => s.complete x.conn x.cid .invalidNs
  | some nsd =>
    let z := s.zone k
    let size := if zeroes then 0 else n * nsd.lbaBytes
    if z.state = 4 then s.complete x.conn x.cid .zoneFull
    else if z.state = 5 then s.complete x.conn x.cid .zoneReadOnly
    else if z.state = 6 then s.complete x.conn x.cid .zoneOffline
    else if x.data.length < size ∧ !granted then
      if s.stgAccepts ∧ x.gone = 0 then
        (s.setWork x.conn x.cid 2 (.write ns k first n fua append zeroes true)).send (.r2t x.conn x.cid)
      else s
    else if x.data.length < size ∨ !s.stgAccepts then s
    else
      let ahead := s.host.ctxs.takeWhile fun y => !(decide (y.conn = x.conn) && decide (y.cid = x.cid))
      let waits := ahead.any fun y => match y.work with
        | .write _ q _ _ _ _ _ _ => decide (q = k)
        | _ => false
      if waits then s
      else if !append ∧ first ≠ z.wp then s.complete x.conn x.cid .zoneInvalidWrite
      else if z.zcap < z.wp + n then s.complete x.conn x.cid .zoneBoundary
      else
        let data := if zeroes then List.replicate (n * nsd.lbaBytes) 0 else x.data
        let t := s.stageData ns nsd k n data
        match t.ctx x.conn x.cid with
        | some y => t.setCtx { y with work := .durable ns k z.wp n fua append, data := [] }
        | none => t

/-! Durability (R390) -/

/-- Every stripe of a zone up to an LBA has fired, and the records that say so are in the xSPI ring. -/
def State.firedTo (s : State) (k lba : Nat) : Bool :=
  let z := s.zone k
  decide (lba ≤ stripeFirstLba z.width z.fired) &&
    !(s.jr.waiting ++ s.jr.xspiQ).any fun r => decide (r.zone = k) && decide (r.ty = 1 ∨ r.ty = 2)

/-- A zone's durability point acts as fired-ack (R390): chosen so, or while the twin is absent. -/
def State.actsFired (s : State) (k : Nat) : Bool := !((s.zone k).mirrorAck && s.paired)

/-- Data up to an LBA has reached the durability point: some answer, or Write Fault when it can no longer
fire (R481). -/
def State.durable (s : State) (k first last : Nat) (fua : Bool) : Option NvStatus :=
  let z := s.zone k
  if !fua && !s.actsFired k then
    (if z.unmirrored.any fun j => decide (first ≤ j ∧ j < last) then none else some .ok)
  else if s.firedTo k last then some .ok
  else if z.state = 5 ∨ z.state = 6 then some .writeFault
  else none

/-- A staged write goes on: at its durability point it completes; Zone Append returns its LBA. A write
that its host has lost ends its C2h entry (R497). -/
def State.durableGo (s : State) (x : Ctx) (ns k first n : Nat) (fua append : Bool) : State :=
  match s.durable k first (first + n) fua with
  | none => s
  | some st =>
    let lba := match s.nsp ns with
      | some d => ((d.zoneOf s.load.id k).getD 0) * zsze + first
      | none => first
    let t := s.complete x.conn x.cid st (if append ∧ st = .ok then lba else 0)
    if x.gone = 0 then t
    else
      let more := t.host.ctxs.any fun y => decide (y.gone = x.gone) && match y.work with
        | .durable _ q _ _ _ _ => decide (q = k)
        | .write _ q _ _ _ _ _ _ => decide (q = k)
        | _ => false
      if more then t else t.intAfter k x.gone 0

/-! Flush and finish (R386, R390, R391, R496) -/

/-- One zone of a flush: not padded yet (target 0), or waiting for its data up to the target. A zone whose
earlier writes are still to be staged waits for them. -/
def State.flushZone (s : State) (ahead : List Ctx) (e : Nat × Nat) : State × Option (Nat × Nat) × Bool :=
  let (k, target) := e
  let waits := ahead.any fun y => match y.work with
    | .write _ q _ _ _ _ _ _ => decide (q = k)
    | _ => false
  if target = 0 then
    if waits then (s, some e, false)
    else
      let t := if s.actsFired k ∧ (s.zone k).state ≠ 5 then s.padZone k else s
      let z := t.zone k
      (t, if z.wp = 0 then none else some (k, z.wp), false)
  else match s.durable k 0 target false with
    | some .ok => (s, none, false)
    | some _ => (s, none, true)
    | none => (s, some e, false)

/-- A flush goes on. -/
def State.flushGo (s : State) (x : Ctx) (zs : List (Nat × Nat)) : State :=
  let ahead := s.host.ctxs.takeWhile fun y => !(decide (y.conn = x.conn) && decide (y.cid = x.cid))
  let step (acc : State × List (Nat × Nat) × Bool) (e : Nat × Nat) : State × List (Nat × Nat) × Bool :=
    let (u, left, bad) := acc
    let (v, r, b) := u.flushZone ahead e
    -- a zone padded just now is looked at again at once
    let (v, r, b) := match r with
      | some e' => if e.2 = 0 ∧ e'.2 ≠ 0 then v.flushZone ahead e' else (v, r, b)
      | none => (v, r, b)
    (v, left ++ r.toList, bad || b)
  let (t, left, bad) := zs.foldl step (s, [], false)
  if bad then t.complete x.conn x.cid .writeFault
  else if left.isEmpty then t.complete x.conn x.cid .ok
  else t.setWork x.conn x.cid 0 (.flush left)

/-- Every stripe of a zone is confirmed. -/
def ZoneSt.allConfirmed (z : ZoneSt) : Bool := decide (z.wp ≤ stripeFirstLba z.width z.conf)

/-- A Zone Finish goes on: every stripe confirmed and the seal made (R390). -/
def State.finishGo (s : State) (x : Ctx) (zs : List Nat) : State :=
  if zs.any fun k => decide ((s.zone k).state = 5 ∨ (s.zone k).state = 6) then s.complete x.conn x.cid .writeFault
  else if zs.all fun k => (s.zone k).allConfirmed && (s.zone k).sealed then s.complete x.conn x.cid .ok
  else s

/-- Finish a zone: padding, Full (R386, R475). -/
def State.finishZone (s : State) (ns : Nat) (n : NsSt) (k : Nat) : State :=
  let t := (s.leaveEmpty ns n k).padZone k
  (t.setZone k { t.zone k with finish := true }).zoneTo k 4

/-! Zone Management Send (R475) -/

/-- A setting holds a zone's data. -/
def ReadySet.inZone (r : ReadySet) (k : Nat) : Bool := match r.kind with
  | .data q => decide (q = k)
  | _ => false

/-- A zone holds a fired setting, or one is being fired. -/
def State.holdsFired (s : State) (k : Nat) : Bool :=
  (s.zone k).everFired || (List.range 33).any fun h => match (s.fireHead h).firing with
    | some slot => match s.armed h slot with
      | some r => r.inZone k
      | none => false
    | none => false

/-- Settings of a zone that wait to be fired, and those armed, are taken back. -/
def State.dropZoneSettings (s : State) (k : Nat) : State :=
  let others (u : State) : State := { u with fire := { u.fire with ready := u.fire.ready.filter fun (r : ReadySet) => !r.inZone k } }
  let t := others s
  let t := t.forEach (List.range 33) fun u h => u.forEach [0, 1] fun v slot => match v.armed h slot with
    | some r => if r.inZone k && decide ((v.fireHead h).firing ≠ some slot) then others (v.unarm h slot) else v
    | none => v
  t.setSt { t.st with stripes := t.st.stripes.filter fun x => decide (x.zone ≠ k) }

/-- Reset of a zone that holds no fired setting (R475): staged data goes, the generation rises by 1. -/
def State.resetZone (s : State) (k : Nat) : State :=
  let z := s.zone k
  let t := s.dropZoneSettings k
  let t := t.tSend clsMirror (.stageFree k ((List.range (z.enc + 1))))
  let t := t.setZone k { ZoneSt.empty with ns := z.ns, gen := z.gen + 1 }
  ((t.zoneRecord k).jput (zoneJRec k (t.zone k))).stgShow.inflightShow

/-- One zone under an action: a refusal, or the new state and whether it waits for confirmation. -/
def State.zoneAct (s : State) (ns : Nat) (n : NsSt) (act : ZoneAct) (k : Nat) : Except NvStatus (State × Bool) :=
  let z := s.zone k
  match act with
  | .open_ =>
    if z.state = 2 then .ok (s, false)
    else if z.state = 1 then .ok (s.zoneTo k 2, false)
    else if z.state = 0 ∨ z.state = 3 then match s.openLimit ns z with
      | some st => .error st
      | none => .ok (s.openZone ns n k 2, false)
    else .error .zoneTransition
  | .close =>
    if z.state = 3 then .ok (s, false)
    else if z.state = 1 ∨ z.state = 2 then .ok (s.zoneTo k 3, false) else .error .zoneTransition
  | .finish =>
    if z.state = 5 ∨ z.state = 6 then .error .zoneTransition
    else if z.state = 4 then .ok (s, true) else .ok (s.finishZone ns n k, true)
  | .reset =>
    if z.state = 0 then .ok (s, false)
    else if z.state = 5 ∨ z.state = 6 ∨ s.holdsFired k then .error .zoneTransition else .ok (s.resetZone k, false)
  | .offline => if z.state = 5 then .ok (s.zoneTo k 6, false) else .error .zoneTransition

/-- Zones that Select All covers for an action. -/
def selectAll (act : ZoneAct) (z : ZoneSt) : Bool :=
  match act with
  | .open_ => decide (z.state = 3)
  | .close => decide (z.state = 1 ∨ z.state = 2)
  | .finish => decide (1 ≤ z.state ∧ z.state ≤ 3)
  | .reset => decide (1 ≤ z.state ∧ z.state ≤ 4)
  | .offline => decide (z.state = 5)

/-- Zone Management Send: on one zone or, with Select All, on every zone of the namespace that it covers;
all of it or nothing (log entry 43). -/
def State.zoneSend (s : State) (c cid ns : Nat) (act : ZoneAct) (slba : Nat) (all : Bool) : State :=
  match s.ioPlace c ns (if all then 0 else slba) with
  | .error st => s.ioRefuse c cid ns st
  | .ok (n, k0, j) =>
    if !all ∧ j ≠ 0 then s.complete c cid .invalidField
    else
      let ks := if all then
          ((List.range n.zones).filterMap fun i => match n.laneZone i with
            | some (load, k) => if load = s.load.id then some k else none
            | none => none).filter fun k => selectAll act (s.zone k)
        else [k0]
      let step (acc : Except NvStatus (State × List Nat)) (k : Nat) : Except NvStatus (State × List Nat) :=
        match acc with
        | .error st => .error st
        | .ok (u, w) => match u.zoneAct ns n act k with
          | .error st => .error st
          | .ok (v, wait) => .ok (v, if wait then w ++ [k] else w)
      match ks.foldl step (.ok (s, [])) with
      | .error st => s.complete c cid st
      | .ok (t, w) => if w.isEmpty then t.complete c cid .ok
        else
          let t := t.setWork c cid 0 (.finish w)
          match t.ctx c cid with
          | some x => t.finishGo x w
          | none => t

/-! I/O commands -/

/-- Whether the command's data fits MDTS, or ZASL for a Zone Append (R465). -/
def sizeOk (n : NsSt) (nlb : Nat) (append : Bool) : Bool :=
  decide (1 ≤ nlb) && decide (nlb * n.lbaBytes ≤ if append then 1048576 else 2097152)

/-- A Read (R479). -/
def State.ioRead (s : State) (c cid ns slba nlb : Nat) : State :=
  let s := s.setWork c cid 1 .fresh
  match s.ioPlace c ns slba with
  | .error st => s.ioRefuse c cid ns st
  | .ok (n, k, j) =>
    if !sizeOk n nlb false then s.complete c cid .invalidField
    else if n.zones * zsze < slba + nlb then s.complete c cid .lbaRange
    else if zsze < j + nlb then s.complete c cid .zoneBoundary
    else if (s.zone k).state = 6 then s.complete c cid .zoneOffline
    else
      let t := s.setWork c cid 1 (.read ns k j nlb)
      match t.ctx c cid with
      | some x => t.readGo x ns k j nlb
      | none => t

/-- A Write, Zone Append or Write Zeroes (R477). -/
def State.ioWrite (s : State) (c cid ns slba nlb : Nat) (fua append zeroes : Bool) : State :=
  let s := s.setWork c cid 2 .fresh
  match s.ioPlace c ns slba with
  | .error st => s.ioRefuse c cid ns st
  | .ok (n, k, j) =>
    let z := s.zone k
    let start := z.wp + s.pendingLbas k
    let zcap := if z.state = 0 then s.newZcap k else z.zcap
    if nlb = 0 ∨ (!zeroes ∧ !sizeOk n nlb append) then s.complete c cid .invalidField
    else if z.state = 4 then s.complete c cid .zoneFull
    else if z.state = 5 then s.complete c cid .zoneReadOnly
    else if z.state = 6 then s.complete c cid .zoneOffline
    else if append ∧ j ≠ 0 then s.complete c cid .invalidField
    else if !append ∧ j ≠ start then s.complete c cid .zoneInvalidWrite
    else if zcap < start + nlb then s.complete c cid .zoneBoundary
    else
      let limit := if z.state = 0 ∨ z.state = 3 then s.openLimit ns z else none
      match limit with
      | some st => s.complete c cid st
      | none =>
        let t := if z.state = 0 ∨ z.state = 3 then s.openZone ns n k 1 else s
        let t := t.setWork c cid 2 (.write ns k start nlb fua append zeroes false)
        match t.ctx c cid with
        | some x => t.writeGo x ns k start nlb fua append zeroes false
        | none => t

/-- A Flush (R391, R496). -/
def State.ioFlush (s : State) (c cid ns : Nat) : State :=
  let all := decide (ns = 0xFFFFFFFF)
  let nss := if all then (s.host.nss.filter fun e => match e.2 with
      | some n => n.attached.contains (s.cntlid c) && !n.deleting
      | none => false).map fun e => e.1 else [ns]
  let refused := if all then (if s.hasRight c 0 then none else some .accessDenied) else s.nsRefusal c ns
  match refused with
  | some st => s.ioRefuse c cid ns st
  | none =>
    let ks := ((s.st.zones.filter fun e => nss.contains e.2.ns && decide (1 ≤ e.2.state ∧ e.2.state ≤ 5)).map fun e => (e.1, 0))
    let t := s.setWork c cid 0 (.flush ks)
    match t.ctx c cid with
    | some x => t.flushGo x ks
    | none => t

/-- An I/O command (R475-R479, R496). -/
def State.ioRun (s : State) (c cid ns : Nat) (cmd : IoCmd) : State :=
  match cmd with
  | .read slba nlb => s.ioRead c cid ns slba nlb
  | .write slba nlb fua => s.ioWrite c cid ns slba nlb fua false false
  | .append zslba nlb fua => s.ioWrite c cid ns zslba nlb fua true false
  | .zeroes slba nlb fua => s.ioWrite c cid ns slba nlb fua false true
  | .flush => s.ioFlush c cid ns
  | .zone act slba all => s.zoneSend c cid ns act slba all
  | .zoneExt _ => match s.nsRefusal c ns with
    | some st => s.ioRefuse c cid ns st
    | none => s.complete c cid .invalidField

/-- Enter a power state (R494, R495): PS.CUR, PG_ISTAT, 0x610B. -/
def State.setPs (s : State) (n : Nat) : State :=
  if s.fld nvmePage NVME.PS_CUR = n then s
  else ((s.setFld nvmePage NVME.PS_CUR n).istat nvmePage 10).event nvmePage 0x610B 1 0xFF n |>.setFld hyPage HY.SHELF_PS n

/-- Leave PS2 for the state that held before it (R494). -/
def State.leavePs2 (s : State) : State :=
  if s.fld nvmePage NVME.PS_CUR ≠ 2 then s
  else
    let before := s.host.psBefore
    let t := s.forEach s.host.assocs fun u e => match e.2 with
      | some x => u.setAssoc e.1 (some { x with ps := if x.ps = 2 then before else x.ps, auto := if x.auto = 2 then before else x.auto })
      | none => u
    (t.setPs before).commandWheels 0 (if before = 1 then 4500 else 9000)

/-- An I/O command on a fresh context of an I/O queue. One that arrives in PS2 waits for the wheels
(R494). -/
def State.ioCmd (s : State) (c cid ns : Nat) (cmd : IoCmd) : State :=
  match s.ctx c cid, s.conn c with
  | some x, some q =>
    if x.work ≠ .fresh ∨ q.qid = 0 then s
    else
      if s.fld nvmePage NVME.PS_CUR = 2 then (s.leavePs2).setWork c cid 0 (.held ns cmd) else s.ioRun c cid ns cmd
  | _, _ => s

/-- A command held for the wheels runs once its zone can be served, or can never be (R494). -/
def State.heldGo (s : State) (x : Ctx) (ns : Nat) (cmd : IoCmd) : State :=
  let lba := match cmd with
    | .read a _ => a
    | .write a _ _ => a
    | .append a _ _ => a
    | .zeroes a _ _ => a
    | .zone _ a all => if all then 0 else a
    | .zoneExt a => a
    | .flush => 0
  match cmd, s.ioPlace x.conn ns lba with
  | .flush, _ => s.ioRun x.conn x.cid ns cmd
  | _, .error (.notReady 2) => s
  | _, _ => s.ioRun x.conn x.cid ns cmd

/-- One command goes on. -/
def State.ctxGo (s : State) (c cid : Nat) : State :=
  match s.ctx c cid with
  | none => s
  | some x => match x.work with
    | .held ns cmd => s.heldGo x ns cmd
    | .write ns k first n fua append zeroes granted => s.writeGo x ns k first n fua append zeroes granted
    | .durable ns k first n fua append => s.durableGo x ns k first n fua append
    | .read ns k first n => s.readGo x ns k first n
    | .flush zs => s.flushGo x zs
    | .finish zs => s.finishGo x zs
    | .fresh => s
    | .catWait _ _ => s
    | .create _ => s
    | .forwarded => s
    | .delete _ => s
    | .unmount => s
    | .reg => s
    | .aer => s

/-- Every command goes on as far as it can, oldest first. -/
def State.hostProgress (s : State) : State :=
  (s.forEach (s.host.ctxs.map fun x => (x.conn, x.cid)) fun u e => u.ctxGo e.1 e.2).urgentShow

def execReadCommand (c : ConnIx) (cid ns slba nlb : Nat) (s : State) : Res := done (s.ioCmd c.val cid ns (.read slba nlb)).urgentShow
def execWriteCommand (c : ConnIx) (cid ns slba nlb : Nat) (fua : Bool) (s : State) : Res :=
  done (s.ioCmd c.val cid ns (.write slba nlb fua)).urgentShow
def execZoneAppend (c : ConnIx) (cid ns zslba nlb : Nat) (fua : Bool) (s : State) : Res :=
  done (s.ioCmd c.val cid ns (.append zslba nlb fua)).urgentShow
def execWriteZeroes (c : ConnIx) (cid ns slba nlb : Nat) (fua : Bool) (s : State) : Res :=
  done (s.ioCmd c.val cid ns (.zeroes slba nlb fua)).urgentShow
def execNvmeFlush (c : ConnIx) (cid ns : Nat) (s : State) : Res := done (s.ioCmd c.val cid ns .flush).urgentShow
def execZoneOpen (c : ConnIx) (cid ns slba : Nat) (all : Bool) (s : State) : Res := done (s.ioCmd c.val cid ns (.zone .open_ slba all)).urgentShow
def execZoneClose (c : ConnIx) (cid ns slba : Nat) (all : Bool) (s : State) : Res := done (s.ioCmd c.val cid ns (.zone .close slba all)).urgentShow
def execZoneFinish (c : ConnIx) (cid ns slba : Nat) (all : Bool) (s : State) : Res := done (s.ioCmd c.val cid ns (.zone .finish slba all)).urgentShow
def execZoneReset (c : ConnIx) (cid ns slba : Nat) (all : Bool) (s : State) : Res :=
  done (s.ioCmd c.val cid ns (.zone .reset slba all)).hostProgress
def execZoneOffline (c : ConnIx) (cid ns slba : Nat) (all : Bool) (s : State) : Res := done (s.ioCmd c.val cid ns (.zone .offline slba all)).urgentShow
def execSetZoneDescriptorExt (c : ConnIx) (cid ns slba : Nat) (s : State) : Res := done (s.ioCmd c.val cid ns (.zoneExt slba)).urgentShow

/-- STAGING_WAIT_EXPIRY (R477): a write held above STG_FULL for STG_WAIT_MAX completes with none of its data staged. -/
def execStagingWaitExpiry (c : ConnIx) (cid : Nat) (s : State) : Res :=
  match s.ctx c.val cid with
  | some x => match x.work with
    | .write _ _ _ _ _ _ _ granted =>
      if granted ∨ s.stgAccepts ∨ s.now < x.since + 100000000 * s.fldIn nvmePage NVME.CTX_CFG_STG_WAIT_MAX 1 255 then done s else done (s.complete c.val cid (.interrupted 3)).hostProgress
    | _ => done s
  | none => done s

/-- GCM_VERIFY_DONE (R248): the tag of a data block, and what the block lets go on. -/
def execGcmVerifyDone (h : HeadIx) (sa : Nat) (blk : BlockIx) (_ : Computed) (s : State) : Res :=
  if s.flag mediacryptPage HDR.ISOLATE then done s else done (s.gcmVerified h.val sa blk.val).hostProgress

/-- RECONSTRUCTION_DONE (R246, R407, R408), and what the block lets go on. -/
def execReconstructionDone (h : HeadIx) (sa : Nat) (blk : BlockIx) (_ : Computed) (s : State) : Res :=
  if s.flag stripePage HDR.ISOLATE then done s else done (s.reconstructed h.val sa blk.val).hostProgress

/-- WRITE_COMPLETION (R390, R391): writes, flushes and finishes complete at their durability points. -/
def execWriteCompletion (s : State) : Res := done s.hostProgress

end Sys2Proof.Machine
end

