-- ==== Sys2Proof/Machine/HostNet.lean ====
section
/-!
DEFINITION. Ports, TCP and TLS connections, the transport, queues and resets, power states (R456-R464,
R493-R497).
-/
namespace Sys2Proof.Machine

/-! Ports (R456-R459) -/

/-- CAP.MQES (R465): a queue has one entry more at most. -/
def capMqes : Nat := 1023

/-- Port numbers: P0, P1, T, M. -/
def portT : Nat := 2
def portM : Nat := 3

/-- The RDY bit of a port. -/
def portRdy (p : Nat) : Fld := match p with
  | 0 => RDY.PORT_P0
  | 1 => RDY.PORT_P1
  | 2 => RDY.PORT_T
  | _ => RDY.PORT_M

/-- The eyes of the SerDes lanes in lock are measured (R502): their values no rule gives (log entry 2). -/
def State.eyes (s : State) (p lanes : Nat) : State :=
  s.forEach ((List.range 8).filter (bitOf lanes)) fun u n =>
    let (w, u) := u.free
    let (h, u) := u.free
    ((u.setFld (ethPage p) ETH.EYE_WIDTH w n).setFld (ethPage p) ETH.EYE_HEIGHT h n).setFld (ethPage p) ETH.EYE_VALID 1 n

/-- The link of a port starts. -/
def State.linkStarts (s : State) (p : Nat) : State :=
  s.setHost { s.host with linkStart := storePut (fun _ => 0) s.host.linkStart p s.now }

/-- The link of a port is up in a mode of ETH_STAT. -/
def State.portUp (s : State) (p mode lanes : Nat) : State :=
  let b := ethPage p
  let s := (s.applyCfg b).eyes p lanes
  let t := ((s.setFlag b ETH.ETH_STAT_LINK true).setFld b ETH.ETH_STAT_MODE mode).setFlag b ETH.ETH_STAT_ALIGNED true
  let t := ((t.setFld b ETH.ETH_STAT_LANE_OK lanes).setReady b true).istat b 8
  let t := t.setRdy (portRdy p) true
  if p = portM then (t.milestone 2).setRdy RDY.STEBARO true else t

/-- The link of a port is down: 0x6101. -/
def State.portDown (s : State) (p : Nat) : State :=
  let b := ethPage p
  let t := ((s.setFlag b ETH.ETH_STAT_LINK false).setFld b ETH.ETH_STAT_MODE 0).setFlag b ETH.ETH_STAT_ALIGNED false
  let t := ((t.setFld b ETH.ETH_STAT_LANE_OK 0).setFlag b ETH.ETH_STAT_AN_DONE false).setFlag b ETH.ETH_STAT_FEC74 false
  let t := ((t.setFld b ETH.ETH_STAT_PFC_PAUSED 0).setReady b false).setRdy (portRdy p) false
  let t := if p = portM then t.setRdy RDY.STEBARO false else t
  let t := (t.forEach (List.range 8) fun u n => u.setFld b ETH.EYE_VALID 0 n).linkStarts p
  (t.istat b 9).event b 0x6101 4

/-- A whole group of four SerDes lanes and its mode (R458). -/
def laneGroup (lanes : Nat) : Option (Nat × Nat) :=
  if lanes % 16 = 15 then some (2, 0x0F) else if lanes / 16 % 16 = 15 then some (3, 0xF0) else none

/-- ETH_LINK_UP (R457, R458). -/
def execEthLinkUp (p : PortIx) (lanes : BitVec 8) (fec74 : Bool) (s : State) : Res :=
  let b := ethPage p.val
  let l := lanes.toNat
  if s.flag b ETH.ETH_STAT_LINK then done s
  else if p.val = portM then
    if bitOf l 0 then
      done (((s.setFlag b ETH.ETH_STAT_AN_DONE true).setFlag b ETH.ETH_STAT_FEC74 fec74).portUp portM 4 1)
    else done s
  else if 3 ≤ s.fld nvmePage NVME.PS_CUR then done s
  else if p.val = portT then (if l % 16 = 15 then done (s.portUp portT 2 0x0F) else done s)
  else if s.cfg b ETH.ETH_CFG_RATE = 2 ∨ s.host.fallback.contains p.val then
    match laneGroup l with
    | some (mode, ok) => done (s.portUp p.val mode ok)
    | none => done s
  else if l = 0xFF then done (s.portUp p.val 1 0xFF)
  else done s

/-- ETH_LINK_FALLBACK (R458): a data port with RATE 0 that loses a lane, or has not come up on eight within 500 ms, restarts
as 200GBASE-R on a whole group of the lanes in lock, or stays down. -/
def execEthLinkFallback (p : PortIx) (lanes : BitVec 8) (s : State) : Res :=
  let b := ethPage p.val
  let waits := !s.flag b ETH.ETH_STAT_LINK && decide (s.now < storeFind (fun _ => 0) s.host.linkStart p.val + 500000000)
  if portT ≤ p.val ∨ s.cfg b ETH.ETH_CFG_RATE ≠ 0 ∨ lanes.toNat = 0xFF ∨ waits then done s
  else match laneGroup lanes.toNat with
    | none => done (if s.flag b ETH.ETH_STAT_LINK then s.portDown p.val else s.event b 0x6101 4)
    | some (mode, ok) =>
      let t := s.setHost { s.host with fallback := (p.val :: s.host.fallback).eraseDups }
      done (((t.portUp p.val mode ok).istat b 10).event b 0x6102 3)

/-- ETH_LINK_DOWN (R458). -/
def execEthLinkDown (p : PortIx) (s : State) : Res :=
  done (if s.flag (ethPage p.val) ETH.ETH_STAT_LINK then s.portDown p.val else s)

/-- A port returns to 400GBASE-R with a SOFT_RESET of its page or a write of RATE (R458): the link
restarts. -/
def State.portRestart (s : State) (p : Nat) : State :=
  let t := (s.setHost { s.host with fallback := s.host.fallback.filter fun q => q != p }).applyCfg (ethPage p) |>.linkStarts p
  if t.flag (ethPage p) ETH.ETH_STAT_LINK then t.portDown p else t

/-- The link-local address formed from the MAC address (R459; log entry 41: modified EUI-64). -/
def State.linkLocal (s : State) (p : Nat) : Nat :=
  let mac := s.cfg (ethPage p) ETH.MAC_LO + 2 ^ 32 * s.cfg (ethPage p) ETH.MAC_HI
  let hi := mac / 2 ^ 24
  let id := (hi ^^^ 0x020000) * 2 ^ 40 + 0xFFFE * 2 ^ 24 + mac % 2 ^ 24
  0xFE80 * 2 ^ 112 + id

/-- A configured address of a port (R459). -/
def State.hasIp4 (s : State) (p ip : Nat) : Bool :=
  decide (ip ≠ 0) && (List.range 4).any fun k => decide (s.cfg (ethPage p) ETH.IPV4 k = ip)
def State.ip6 (s : State) (p k : Nat) : Nat :=
  (List.range 4).foldl (fun a i => a * 2 ^ 32 + s.cfg (ethPage p) ETH.IPV6 (4 * k + i)) 0
def State.hasIp6 (s : State) (p ip : Nat) : Bool :=
  decide (ip ≠ 0) && (decide (ip = s.linkLocal p) || (List.range 4).any fun k => decide (s.ip6 p k = ip))

/-- A frame answered in hardware, with the port's VLAN ID and priority (R457). -/
def State.answerFrame (s : State) (p : Nat) (f : RxFrame) : State :=
  (s.send (.frame p (s.fld (ethPage p) ETH.VLAN_VID) (s.fld (ethPage p) ETH.VLAN_PCP) f)).count (ethPage p) ETH.TX_FRAMES

/-- ETH_FRAME_RECEIVE (R456, R457, R459): a frame with its VLAN ID, 0 for untagged, and its length in bytes. Frames longer than
9,216 bytes and those of another VLAN are discarded; PFC and PAUSE frames carry no tag. -/
def execEthFrameReceive (p : PortIx) (f : RxEth) (s : State) : Res :=
  let tag := f.tag
  let len := f.len
  let f := f.frame
  let b := ethPage p.val
  let n := p.val
  if !s.flag b ETH.ETH_STAT_LINK ∨ s.flag b HDR.ISOLATE then done s
  else
    let drop (u : State) : State := u.count b ETH.RX_DROP
    let mine (ok : Bool) (u v : State) : State := if ok then v else drop u
    let t := s.count b ETH.RX_FRAMES
    let control : Bool := match f with
      | .badFcs | .pause | .pfc _ => true
      | _ => false
    if 9216 < len ∨ (!control ∧ tag ≠ s.fld b ETH.VLAN_VID) then done (drop (if f = .badFcs then s else t))
    else match f with
    | .badFcs => done (s.count b ETH.RX_FCS_ERR)
    | .pause => done (drop t)
    | .pfc mask =>
      done ((t.count b ETH.PFC_RX).setFld b ETH.ETH_STAT_PFC_PAUSED (mask.toNat &&& t.fld b ETH.ETH_CFG_PFC_EN))
    | .twin => done (if n = portT then t else drop t)
    | .otherMac | .fragment | .options | .extHeader => done (drop t)
    | .other => done t
    | .arp ip => done (mine (n ≠ portT && s.hasIp4 n ip) t (t.answerFrame n f))
    | .ndp ip => done (mine (n ≠ portT && s.hasIp6 n ip) t (t.answerFrame n f))
    | .icmp4 ip => done (mine (n ≠ portT && s.hasIp4 n ip) t (t.answerFrame n f))
    | .icmp6 ip => done (mine (n ≠ portT && s.hasIp6 n ip) t (t.answerFrame n f))
    | .tcp4 ip => done (mine (n ≠ portT && s.hasIp4 n ip) t t)
    | .tcp6 ip => done (mine (n ≠ portT && s.hasIp6 n ip) t t)
    | .udp4 ip _ => done (mine (n ≠ portT && s.hasIp4 n ip) t t)
    | .udp6 ip _ => done (mine (n ≠ portT && s.hasIp6 n ip) t t)

/-! Queues, resets and power states (R493-R497) -/

/-- NV_STAT and the TLS sessions follow the connections. -/
def State.hostShow (s : State) : State :=
  let tls := (s.host.conns.filter fun e => match e.2 with
    | some k => k.tls.isSome
    | none => false).length
  let t := (s.setFld nvmePage NVME.NV_STAT_ASSOC s.host.assocs.length).setFld nvmePage NVME.NV_STAT_IOQ s.ioConns.length
  t.setFld tlsPage TLS.TLS_STAT_SESSIONS tls

/-- A command goes on without its host (R497): its context leaves the connection's number, and its zone
receives a C2h entry. -/
def State.orphan (s : State) (x : Ctx) (flags : Nat) (zone : Option Nat) : State :=
  let no := 576 + (s.host.ctxs.map fun y => y.conn).foldl max 0
  let t := s.setHost { s.host with ctxs := s.host.ctxs.map fun y =>
    if y.conn = x.conn ∧ y.cid = x.cid then { y with conn := no, gone := flags } else y }
  match zone with
  | some k =>
    let pending := s.host.ctxs.any fun y => decide (y.gone = flags) && match y.work with
      | .durable _ q _ _ _ _ => decide (q = k)
      | .write _ q _ _ _ _ _ _ => decide (q = k)
      | _ => false
    if pending then t else t.addInt k flags
  | none => t

/-- What a reset does to one command (R497): a write whose data has been received, and work that changes
namespaces or zones, continue; every other command is discarded. -/
def State.abortCtx (s : State) (x : Ctx) (flags : Nat) : State :=
  match x.work with
  | .durable _ k _ _ _ _ => s.orphan x flags (some k)
  | .write ns k _ n _ _ zeroes _ =>
    let size := match s.nsp ns with
      | some d => if zeroes then 0 else n * d.lbaBytes
      | none => 0
    if x.data.length < size then s.dropCtx x.conn x.cid else s.orphan x flags (some k)
  | .create _ | .delete _ | .unmount | .forwarded | .finish _ | .catWait _ _ => s.orphan x flags none
  | .aer =>
    let a := (s.conn x.conn).bind fun c => c.assoc
    let t : State := match a, s.assocOf x.conn with
      | some i, some y => s.setAssoc i (some { y with aers := y.aers.filter fun e => decide (e ≠ (x.conn, x.cid)) })
      | _, _ => s
    t.dropCtx x.conn x.cid
  | .reg =>
    let w := s.arb.waiting.filter fun w => decide (w.for' ≠ .admin x.conn x.cid)
    State.dropCtx { s with arb := { s.arb with waiting := w } } x.conn x.cid
  | .fresh | .held _ _ | .read _ _ _ _ | .flush _ => s.dropCtx x.conn x.cid

/-- A connection's commands are aborted or continue without it. -/
def State.abortQueue (s : State) (c flags : Nat) : State :=
  let t := match s.conn c with
    | some k => s.setConn c (some { k with window := [], stopped := false })
    | none => s
  ((t.forEach (t.host.ctxs.filter fun x => decide (x.conn = c)) fun u x => u.abortCtx x flags).dropReleased).urgentShow

/-- A connection is gone. -/
def State.closeConn (s : State) (c flags : Nat) : State := ((s.abortQueue c flags).setConn c none).hostShow

/-- An association ends: its connections close, PG_ISTAT bit 8. -/
def State.endAssoc (s : State) (a flags : Nat) : State :=
  let mine := (s.host.conns.filter fun e => match e.2 with
    | some k => decide (k.assoc = some a)
    | none => false).map fun e => e.1
  let t := s.forEach mine fun u c => u.closeConn c flags
  ((t.setAssoc a none).hostShow).istat nvmePage 8

/-- Loss of a connection (R497): of an I/O queue alone, or, with the admin queue, of its association. -/
def State.loseConn (s : State) (c flags : Nat) : State :=
  match s.conn c with
  | none => s
  | some k => match k.assoc with
    | some a => if k.qid = 0 then s.endAssoc a flags else s.closeConn c flags
    | none => s.closeConn c flags

/-- Every zone with staged data is padded (R386). -/
def State.padAll (s : State) : State := s.forEach s.st.zones fun u e =>
  if e.2.staged.isEmpty ∨ e.2.state = 5 ∨ e.2.state = 6 then u else u.padZone e.1

/-- Every zone's data has fired. -/
def State.allFired (s : State) : Bool :=
  s.fire.ready.isEmpty && s.st.zones.all fun e => decide (e.2.state = 5 ∨ e.2.state = 6) || decide (e.2.wp ≤ stripeFirstLba e.2.width e.2.fired)

/-- Staged data is padded and fired, then the run close is fired (R386, R396): the record that the close
must cover, and whether all of it is done. -/
def State.drain (s : State) (at_ : Option Nat) : State × Option Nat × Bool :=
  match at_ with
  | none =>
    let t := s.padAll
    if t.allFired ∧ (t.run 0).phase = 0 then (t, some (t.fld journalPage JOURNAL.JR_SEQ + t.jr.waiting.length), false) else (t, none, false)
  | some n => (s, some n, decide (n ≤ s.jr.closed) && decide ((s.run 0).phase = 0))

/-- The power state that applies (R494, R495): PS3 or PS4 by PS.REQ, or once every association selects it;
else the lowest that an association selects, and the present one with none. -/
def State.psTarget (s : State) : Nat :=
  let req := s.fld nvmePage NVME.PS_REQ
  let cur := s.fld nvmePage NVME.PS_CUR
  let sel := s.host.assocs.filterMap fun e => e.2.bind fun x => if x.disc then none else some (if x.auto = 0 then x.ps else x.auto)
  if 3 ≤ req then min 4 req
  else if s.host.psHost ≠ 0 then s.host.psHost
  else match sel with
    | [] => if 3 ≤ cur then 0 else cur
    | a :: r => r.foldl min a

/-- Wheels in a power state (R493). -/
def psRpm (n : Nat) : Nat := match n with
  | 0 => 9000
  | 1 => 4500
  | _ => 0

/-- Enter a higher-numbered power state (R493, R495). -/
def State.psEnter (s : State) (n : Nat) : State :=
  let cur := s.fld nvmePage NVME.PS_CUR
  let t := if n = 2 then s.setHost { s.host with psBefore := cur } else s
  let t := if 3 ≤ n then
      let u := t.setHost { t.host with psHost := if 3 ≤ t.fld nvmePage NVME.PS_REQ then t.host.psHost else n, psClose := none }
      let u := u.forEach (u.host.assocs.map fun e => e.1) fun v a => v.endAssoc a 2
      let u := u.forEach (u.host.conns.map fun e => e.1) fun v c => v.closeConn c 2
      u.forEach [0, 1, portT] fun v p => if v.flag (ethPage p) ETH.ETH_STAT_LINK then v.portDown p else v
    else t
  let t := if n = 4 then
      let u := t.forEach [0, 1] fun v k => (v.startHbmTraining k).setHbmState k 0
      (u.setReady setterPage false).setRdy RDY.ADMIN false
    else t
  let t := if 2 ≤ n then (t.commandWheels 0 0).commandWheels 1 0 else t.commandWheels 0 (psRpm n)
  t.setPs n

/-- Leave for a lower-numbered power state; the stacks of PS4 train again. -/
def State.psLeave (s : State) (n : Nat) : State :=
  let t := if s.fld nvmePage NVME.PS_CUR = 4 then s.forEach [0, 1] State.startHbmTraining else s
  (t.setPs n).commandWheels 0 (psRpm n)

/-- Move to the power state that applies (R494, R495): above PS0 only once the firing run and its bisque
pass have ended, and to PS4 once staged data and the run close have fired. -/
def State.psGo (s : State) : State :=
  let n := s.psTarget
  let cur := s.fld nvmePage NVME.PS_CUR
  if n = cur then s
  else if n < cur then s.psLeave n
  else if n = 4 then
    let (t, at_, ok) := s.drain s.host.psClose
    if ok ∧ (t.run 1).phase = 0 then t.psEnter 4 else t.setHost { t.host with psClose := at_ }
  else if (s.run 0).phase ≠ 0 ∨ (s.run 1).phase ≠ 0 then s
  else s.psEnter n

/-- A write of NVME.PS.REQ (R495): below PS3 it ends a PS3 or PS4 that hosts selected. -/
def State.psReqWritten (s : State) : State :=
  (if s.fld nvmePage NVME.PS_REQ < 3 then s.setHost { s.host with psHost := 0, psClose := none } else s).psGo

/-- CONNECTION_LOSS (R497). -/
def execConnectionLoss (c : ConnIx) (s : State) : Res := done (s.loseConn c.val 2).psGo

/-- KEEP_ALIVE_EXPIRY (R497): the association's keep-alive time has passed; it ends, 0x6105. -/
def execKeepAliveExpiry (a : Fin 64) (s : State) : Res :=
  match s.assoc (a.val + 1) with
  | none => done s
  | some x => if x.kato = 0 ∨ s.now < x.last + 1000000 * x.kato then done s else done ((s.endAssoc (a.val + 1) 2).event nvmePage 0x6105 3 0xFF (a.val + 1)).psGo

/-- A controller reset of one association (R497): its I/O queues close; its admin queue's commands are
aborted, and the queue stays for the host to enable the controller again. -/
def State.resetAssoc (s : State) (a : Nat) : State :=
  match s.assoc a with
  | none => s
  | some _ =>
    let mine := s.host.conns.filterMap fun e => match e.2 with
      | some k => if k.assoc = some a then some (e.1, k.qid) else none
      | none => none
    let t := s.forEach mine fun u (c, q) => if q = 0 then u.abortQueue c 2 else u.closeConn c 2
    match t.assoc a with
    | some x => t.setAssoc a (some { x with acre := false, aec := 0, pend := [], ps := 0, auto := 0, apst := false })
    | none => t

/-- CONTROLLER_RESET (R497): CC.EN cleared, or NVM Subsystem Reset, which resets every association. -/
def execControllerReset (a : Fin 64) (subsystem : Bool) (s : State) : Res :=
  done (if subsystem then s.forEach (s.host.assocs.map fun e => e.1) State.resetAssoc else s.resetAssoc (a.val + 1)).psGo

/-! TCP (R460) -/

/-- TCP ports that listen. -/
def State.listens (s : State) (dst : Nat) : Bool :=
  s.flag rdyPage RDY.ADMIN && decide (s.fld nvmePage NVME.PS_CUR < 3) &&
    (decide (dst = 4420) || (decide (dst = 8009) && s.flag chipPage CHIP.ROLE))

/-- The MSS that a port offers (R460): MTU less the headers of IP and TCP without options. -/
def State.mss (s : State) (p : Nat) (six : Bool) : Nat := s.cfgIn (ethPage p) ETH.ETH_CFG_MTU 1280 9000 - (if six then 60 else 40)

/-- Retransmission timeout after an acknowledgment: measured, between 5 ms and 1 s. -/
def State.freeRto (s : State) : Nat × State := let (v, t) := s.free; (clampNat 5000000 1000000000 v, t)

/-- The new bytes of a segment in order advance what is expected next, and are acknowledged. -/
def State.tcpData (s : State) (c : Nat) (k : Conn) (seg : TcpSeg) : State :=
  if seg.len = 0 then s.setConn c (some k)
  else
    let k' := if seg.seq = k.rcvNxt then { k with rcvNxt := (k.rcvNxt + seg.len) % 2 ^ 32 } else k
    (s.setConn c (some k')).send (.tcp c false true false false k'.sndNxt k'.rcvNxt)

/-- TCP_SEGMENT (R460, RFC 9293). -/
def execTcpSegment (c : ConnIx) (p : PortIx) (seg : TcpSeg) (s : State) : Res :=
  let c := c.val
  let rst (seq ackNo : Nat) : State := s.send (.tcp c false true false true seq ackNo)
  if portT ≤ p.val ∨ !s.flag (ethPage p.val) ETH.ETH_STAT_LINK ∨ s.flag (ethPage p.val) HDR.ISOLATE ∨ s.flag nvmePage HDR.ISOLATE then done s
  else match s.conn c with
  | none =>
    if seg.rst then done s
    else if seg.ack then done (s.send (.tcp c false false false true seg.ackNo 0))
    else if !seg.syn ∨ !s.listens seg.dst then done (rst 0 ((seg.seq + seg.len + boolNat seg.syn + boolNat seg.fin) % 2 ^ 32))
    else
      let (iss, t) := s.free
      let iss := iss % 2 ^ 32
      let k : Conn := { port := p.val, tcp := .synRcvd, rcvNxt := (seg.seq + 1) % 2 ^ 32, sndNxt := (iss + 1) % 2 ^ 32, sndUna := iss, rto := 1000000000,
                        timer := s.now, mss := s.mss p.val seg.six,
                        tls := none, ic := false, hdgst := false, ddgst := false, maxR2t := 0, assoc := none, qid := 0, size := 0, stopped := false,
                        window := [] }
      done ((t.setConn c (some k)).send (.tcpSyn c iss k.rcvNxt k.mss))
  | some k =>
    if seg.rst then done (if seg.seq = k.rcvNxt then (s.loseConn c 2).psGo else s)
    else if seg.syn then done (s.send (.tcp c false true false false k.sndNxt k.rcvNxt))
    else match k.tcp with
      | .synRcvd =>
        if seg.ack ∧ seg.ackNo = k.sndNxt then
          let (r, t) := s.freeRto
          done (t.tcpData c { k with tcp := .established, sndUna := seg.ackNo, rto := r, timer := t.now } seg)
        else if seg.ack then done (s.send (.tcp c false false false true seg.ackNo 0))
        else done s
      | .established =>
        if !seg.ack then done s
        else
          let (r, t) := s.freeRto
          let k := { k with sndUna := seg.ackNo, sndNxt := seg.ackNo, rto := r, timer := t.now }
          let u := t.tcpData c k seg
          if seg.fin ∧ (seg.seq = k.rcvNxt) then
            -- the peer closes: the queue is lost, and a FIN answers
            let n := (k.rcvNxt + seg.len + 1) % 2 ^ 32
            done ((u.loseConn c 2).send (.tcp c false true true false k.sndNxt n)).psGo
          else done u

/-- TCP_RETRANSMIT_TIMEOUT (R460): what is not acknowledged is sent again, and the timeout doubles up to 1 s. -/
def execTcpRetransmitTimeout (c : ConnIx) (s : State) : Res :=
  match s.conn c.val with
  | none => done s
  | some k =>
    if s.now < k.timer + k.rto then done s
    else
      let t := s.setConn c.val (some { k with rto := min 1000000000 (2 * k.rto), timer := s.now })
      done (t.send (if k.tcp = .synRcvd then .tcpSyn c.val k.sndUna k.rcvNxt k.mss else .tcp c.val false true false false k.sndUna k.rcvNxt))

/-- The controller closes a connection: its queue is lost, and a FIN is sent. -/
def State.finish (s : State) (c : Nat) : State :=
  match s.conn c with
  | none => s
  | some k => ((s.loseConn c 2).send (.tcp c false true true false k.sndNxt k.rcvNxt)).psGo

/-- C2HTermReq ends a connection (R461). -/
def State.terminate (s : State) (c : Nat) : State := (s.send (.termReq c)).finish c

/-! TLS and the transport (R461, R462) -/

/-- A TLS record fails authentication (R504): its connection closes. -/
def State.badRecord (s : State) (c : Nat) : State := (s.count tlsPage TLS.REC_AUTH_FAIL).finish c

/-- TLS_HANDSHAKE (R462): with a retained PSK, and AES-128 only where it is permitted. On an open session it is a KeyUpdate, the
one handshake message that TLS 1.3 has there (R504; log entry 167). -/
def execTlsHandshake (c : ConnIx) (psk : Nat) (suite128 ok : Bool) (s : State) : Res :=
  match s.conn c.val with
  | none => done s
  | some k =>
    if k.tls.isSome then done (if ok then s.count tlsPage TLS.KEY_UPDATES else s.badRecord c.val)
    else if k.tcp ≠ .established ∨ k.ic ∨ !s.accepts tlsPage then done s
    else
      -- the hash of a TLS 1.3 PSK is that of its cipher suite (log entry 167)
      let held := s.te.psks.any fun e => decide (e.1 = psk) && decide (e.2.1 = if suite128 then 1 else 2)
      if ok && held && (!suite128 || s.flag tlsPage TLS.TLS_CFG_SUITE_128) then
        done ((s.setConn c.val (some { k with tls := some suite128 })).count tlsPage TLS.HS_OK).hostShow
      else done ((((s.count tlsPage TLS.HS_FAIL).istat tlsPage 8).event tlsPage 0x6103 7).finish c.val)

/-- ICREQ (R461): answered with ICResp; before TLS, where it is required, the connection is refused. -/
def execIcreq (c : ConnIx) (pfv : Nat) (hdgst ddgst : Bool) (maxr2t : Nat) (s : State) : Res :=
  match s.conn c.val with
  | none => done s
  | some k =>
    if k.tcp ≠ .established then done s
    else if s.flag tlsPage TLS.TLS_CFG_REQUIRE ∧ k.tls.isNone then done (s.finish c.val)
    else if k.ic ∨ pfv ≠ 0 then done (s.terminate c.val)
    else done ((s.setConn c.val (some { k with ic := true, hdgst := hdgst, ddgst := ddgst, maxR2t := min 4 (maxr2t + 1) })).send (.icResp c.val hdgst ddgst))

/-- CAPSULE_CMD (R461, R464): taken when a context is free; the engine stops reading the connection
otherwise. -/
def execCapsuleCmd (c : ConnIx) (cid : Nat) (data : List Nat) (chk : PduCheck) (s : State) : Res :=
  match s.conn c.val with
  | none => done s
  | some k =>
    if !k.ic then done s
    else if k.tls.isSome ∧ chk = .badRecord then done (s.badRecord c.val)
    else if (k.hdgst || k.ddgst) && decide (chk = .badDigest) || decide (8192 < data.length) then done (s.terminate c.val)
    else if (s.ctx c.val cid).isSome then done s
    else if !k.stopped ∧ s.ctxRoom c.val then done (s.takeCtx c.val cid data)
    else
      let t := s.setConn c.val (some { k with stopped := true, window := k.window ++ [(cid, data)] })
      if t.host.exhausted ∨ !t.accepts nvmePage then done t
      else done (((t.setHost { t.host with exhausted := true }).istat nvmePage 11).event nvmePage 0x610A 3)

/-- H2C_DATA (R461): write data that a Ready-to-Transfer asked for, in order; anything else ends the
connection. -/
def execH2cData (c : ConnIx) (cid offset : Nat) (bytes : List Nat) (chk : PduCheck) (s : State) : Res :=
  match s.conn c.val, s.ctx c.val cid with
  | some k, some x =>
    if k.tls.isSome ∧ chk = .badRecord then done (s.badRecord c.val)
    else if (k.hdgst || k.ddgst) && decide (chk = .badDigest) then done (s.terminate c.val)
    else match x.work with
      | .write ns _ _ n _ _ zeroes granted =>
        let size := match s.nsp ns with
          | some d => if zeroes then 0 else n * d.lbaBytes
          | none => 0
        if !granted ∨ offset ≠ x.data.length ∨ 131072 < bytes.length ∨ size < offset + bytes.length then done (s.terminate c.val)
        else done (s.setCtx { x with data := x.data ++ bytes }).hostProgress
      | _ => done (s.terminate c.val)
  | some _, none => done (s.terminate c.val)
  | none, _ => done s

/-- H2C_TERM_REQ (R461): the host ends the connection. -/
def execH2cTermReq (c : ConnIx) (s : State) : Res := done (s.finish c.val)

/-! Connect (R463) -/

/-- A Connect is refused: counted, and completed with its status. -/
def State.refuseConnect (s : State) (c cid : Nat) (st : NvStatus) : State := (s.count nvmePage NVME.CONN_REFUSED).complete c cid st

/-- Connect of an admin queue: a new association with the lowest free controller ID (R463, R466). -/
def State.connectAdmin (s : State) (c cid : Nat) (k : Conn) (host size cntlid kato : Nat) (disc : Bool) : State :=
  match (List.range 64).find? fun i => (s.assoc (i + 1)).isNone with
  | none => s.refuseConnect c cid .controllerBusy
  | some i =>
    if size = 0 ∨ 32 < size ∨ cntlid ≠ 0xFFFF then s.refuseConnect c cid .connectParams
    else
      let a : Assoc := { host := host, disc := disc, kato := (kato + 99) / 100 * 100, last := s.now, acre := false, aec := 0, aers := [], pend := [], ps := 0, auto := 0,
                         apst := false, errs := [] }
      let t := (s.setAssoc (i + 1) (some a)).setConn c (some { k with assoc := some (i + 1), qid := 0, size := size })
      ((t.hostShow).istat nvmePage 8).complete c cid .ok (s.side * 0x100 + i + 1)

/-- Connect of an I/O queue to its host's association. -/
def State.connectIo (s : State) (c cid : Nat) (k : Conn) (host qid size cntlid : Nat) : State :=
  let a := cntlid - s.side * 0x100
  if 512 ≤ s.ioConns.length then s.refuseConnect c cid .controllerBusy
  else
    let taken := s.host.conns.any fun e => match e.2 with
      | some q => decide (q.assoc = some a) && decide (q.qid = qid)
      | none => false
    match s.assoc a with
    | none => s.refuseConnect c cid .connectParams
    | some x =>
      if cntlid < s.side * 0x100 ∨ x.disc ∨ x.host ≠ host ∨ taken ∨ 128 < qid ∨ size = 0 ∨ capMqes + 1 < size then s.refuseConnect c cid .connectParams
      else
        let t := s.setConn c (some { k with assoc := some a, qid := qid, size := size })
        t.hostShow.complete c cid .ok cntlid

/-- CONNECT (R460, R463): a worker refuses connections to the discovery NQN. -/
def execNvmeConnect (c : ConnIx) (cid host : Nat) (disc : Bool) (qid size cntlid kato : Nat) (s : State) : Res :=
  match s.conn c.val, s.ctx c.val cid with
  | some k, some x =>
    if x.work ≠ .fresh ∨ k.assoc.isSome then done s
    else if disc && !s.flag chipPage CHIP.ROLE then done (s.refuseConnect c.val cid .invalidHost)
    else if (s.aclOf host).isNone then done ((s.event nvmePage 0x6104 7).refuseConnect c.val cid .invalidHost)
    else if qid = 0 then done (s.connectAdmin c.val cid k host size cntlid kato disc).psGo
    else done (s.connectIo c.val cid k host qid size cntlid)
  | _, _ => done s

end Sys2Proof.Machine
end

