-- ==== Sys2Proof/Machine/Load.lean ====
section
/-!
DEFINITION. Mounting and unmounting loads (R17, R27-R29, R483-R485).
-/
namespace Sys2Proof.Machine

/-- Change the load. -/
def State.setLoad (s : State) (l : LoadSt) : State := { s with load := l }

/-- STATE and REASON of log C0h (R485): a change counts, and is reported. -/
def State.loadTo (s : State) (n reason : Nat) : State :=
  if s.load.state = n then s
  else
    let t := s.setLoad { s.load with state := n, reason := reason }
    let t := t.setHost { t.host with loadChanges := t.host.loadChanges + 1, loadTime := t.now }
    let t := t.setFld hyPage HY.SHELF_LOAD_STATE n
    let t := t.event nvmePage (if n = 6 then 0x6109 else 0x6108) (if n = 6 then 4 else 1) 0xFF n
    t.notice .load

/-- The load that registers name: mounted, or being staged. -/
def State.showLoadId (s : State) : State :=
  let id := if s.load.mounted then s.load.id else if s.load.phase ≠ .none ∧ !s.load.unmount then s.load.target else 0
  s.setPair hyPage HY.LOAD_LO HY.LOAD_HI id

/-- Saggers that the catalogue names as members of a load (R27). -/
def State.loadSaggers (s : State) (id : Nat) : List SaggerRec :=
  s.st.cat.saggers.filter fun g => decide (g.load = id) && decide (id ≠ 0) && decide (g.pos < 8)

/-- A load is in the catalogue. -/
def State.loadKnown (s : State) (id : Nat) : Bool := !(s.loadSaggers id).isEmpty

/-- Who may run a Stage Load: the owner of the loader (R483). -/
def State.loaderMine (s : State) : Bool := s.tokenMine 42
def State.loaderTwin (s : State) : Bool := s.paired && decide ((s.token 42).1 = 1 - s.side)

/-- The loader, W0-W7 and their ownership are available to the pair. -/
def State.loaderOk (s : State) : Bool :=
  (List.range 8).all (fun w => decide ((s.token (33 + w)).1 ≠ 255)) && (s.loaderTwin || (s.loaderMine && s.flag rdyPage RDY.LOADER_HOMED))

/-- The refusal of a Stage Load (R483). -/
def State.stageRefusal (s : State) (id : Nat) : Option Nat :=
  if !s.loadKnown id then some 0xC0
  else if s.load.phase ≠ .none ∨ s.load.state = 7 then some 0xC3
  else if s.fld stripePage STRIPE.RT_STAT_STATE = 6 then some 0xC4
  else if !s.loaderOk then some 0xC2
  else if (s.loadSaggers id).length < 6 then some 0xC1
  else none

/-- Zones of the mounted load are kept while it is away. -/
def State.keepZones (s : State) : State :=
  let others := s.host.zoneSets.filter fun e => decide (e.1 ≠ s.load.id)
  let zs := s.st.zones.map fun e => (e.1, { e.2 with staged := [], unmirrored := [], replaying := false })
  s.setHost { s.host with zoneSets := others ++ [(s.load.id, zs)] }

/-- The load is no longer mounted (R484). -/
def State.leaveLoad (s : State) : State :=
  let t := s.keepZones
  let t := t.setSt { t.st with zones := [], stripes := [] }
  let t := t.setLoad { t.load with mounted := false, id := 0 }
  let t := t.setFlag stripePage STRIPE.SE_STAT_MOUNTED false
  let t := t.forEach (List.range 4) fun u l => (u.setRdyBit RDY.LANE_IO l false).setRdyBit RDY.LANE_FULL l false
  t.refreshLanes.stgShow

/-- Owned main wheels are at confirmed rest. -/
def State.wheelsRest (s : State) : Bool :=
  (List.range 8).all fun w => !s.owned (wheelPage w) || s.flag (wheelPage w) WHEEL.WH_STAT_REST_OK

/-- Main wheels with a clamped sagger. -/
def State.clamped (s : State) : List Nat := (List.range 8).filter fun w => s.flag (wheelPage w) WHEEL.WH_STAT_CLAMP_SNS

/-! Accepting saggers (R17, R27) -/

/-- A sagger is refused (R17, R121): 0x5111, and its wheel brakes to rest; it is no member. -/
def State.refuseSagger (s : State) (w : Nat) : State :=
  let ms := s.load.members.map fun m => if m.wheel = some w then { m with wheel := none, accepted := false } else m
  let t := s.setLoad { s.load with
    refused := s.load.refused ++ [w], members := ms, others := storePut (fun _ => none) s.load.others w none }
  let t := t.event stripePage 0x5111 4 0xFF w
  let t := if t.owned (wheelPage w) then (t.setFld (wheelPage w) WHEEL.SPD_CMD 0).spdWritten w else t
  if t.load.mounted then t.refreshLanes else t

/-- The load that a sagger may join: the one mounted, or the one being staged; 0: none is named yet. -/
def State.wantedLoad (s : State) : Nat := if s.load.mounted then s.load.id else s.load.target

/-- A position of the wanted load has no accepted member yet. -/
def State.posFree (s : State) (pos : Nat) : Bool := !s.load.members.any fun m => decide (m.pos = pos) && m.accepted

/-- The heads of an accepted sagger: their remap areas are scanned (R276), and once its load is mounted they scan ahead on results
of their own since then (R259, R260). -/
def State.memberHeads (s : State) (w : Nat) : State :=
  s.forEach (wheelHeads w) fun u h =>
    let u := u.startSpares h
    if u.load.mounted then (u.setFireHead h { u.fireHead h with scanned := [] }).wantScans h else u

/-- A sagger takes its position in the load. -/
def State.joinLoad (s : State) (w : Nat) (g : SaggerRec) : State :=
  let m : Member := { pos := g.pos, serial := g.serial, wheel := some w, discs := g.discs, accepted := true }
  let ms := s.load.members.filter fun x => decide (x.pos ≠ g.pos)
  let t := s.setLoad { s.load with
    target := g.load, members := ms ++ [m], others := storePut (fun _ => none) s.load.others w none }
  if t.load.mounted then (t.refreshLanes).memberHeads w else t

/-- The sagger on a wheel is known to the catalogue: a member of the wanted load, or another one, which stays off the load. -/
def State.takeSagger (s : State) (w : Nat) (g : SaggerRec) : State :=
  let t := s.duplicateCheck g
  let joins := (s.load.mounted || decide (s.load.phase ≠ .none)) && decide (g.pos < 8) && decide (g.load ≠ 0) && s.posFree g.pos &&
    (decide (s.wantedLoad = 0) || decide (g.load = s.wantedLoad))
  if joins then t.joinLoad w g
  else (t.setLoad { t.load with others := storePut (fun _ => none) t.load.others w (some (g.serial, g.discs)) }).memberHeads w

/-- SAGGER_ACCEPT (R17): a wheel's sagger is accepted once three of its discs yield IDs and all found agree with one sagger of the
catalogue. Headers that disagree (R121), IDs that agree with none, and too few IDs refuse it. -/
def State.acceptGo (s : State) (w : Nat) : State :=
  let heads := wheelHeads w
  if s.load.refused.contains w || !s.clamped.contains w then s
  else
    let found := (List.range 4).filterMap fun sl => (s.discIdOf (4 * w + sl)).map fun id => (sl, id)
    let agrees (ds : List Nat) : Bool := found.all fun (sl, id) => decide (ds.getD sl 0 = id)
    if heads.any s.idClash then s.refuseSagger w
    else match s.wheelSagger w with
      | some g => if agrees g.2 then s else s.refuseSagger w
      | none =>
        if found.length < 3 then (if heads.any s.idPending then s else s.refuseSagger w)
        else match s.st.cat.saggers.find? fun g => agrees g.discs with
          | none => s.refuseSagger w
          | some g => s.takeSagger w g

/-- The heads of an owned wheel at speed read their headers and what else a mount asks for: newer catalogue records (R574), journal
records (R398), remap areas. -/
def State.identGo (s : State) (w : Nat) : State :=
  if !s.flag rdyPage RDY.CATALOGUE || !s.whOwns w || !s.clampReady w || !s.wheelAt w 9000 || s.load.refused.contains w then s
  else
    let t := s.forEach (wheelHeads w) fun u h =>
      if !u.headObeys h then u
      else (((if (u.hdrRead h).isNone then u.startHeaders h else u.headerStep h).readCatalogue h).readJournal h).spareStep h
    t.acceptGo w

/-- A wheel of the twin's is accepted when its owner reports a clamped sagger and three ready heads there: it takes the first position
of the wanted load that is free (log entry 112). -/
def State.twinAccept (s : State) (w : Nat) : State :=
  let nextPos := (s.loadSaggers s.wantedLoad).find? fun g => s.posFree g.pos
  let known := (s.wheelSagger w).isSome
  match s.tw.twin, nextPos with
  | some b, some g =>
    let ready := ((wheelHeads w).filter fun h => bitOf b.headLo h).length
    if s.paired && !known && decide ((s.token (33 + w)).1 = 1 - s.side) && bitOf b.wheel (RDY.WHEEL_CLAMPED.lsb + w) && decide (3 ≤ ready) then s.joinLoad w g else s
  | _, _ => s

/-- Every main wheel: what can be identified and accepted now is. -/
def State.identAll (s : State) : State := s.forEach (List.range 8) fun u w => (u.identGo w).twinAccept w

/-! The phases of a Stage Load or an Unmount Load -/

/-- Members accepted. -/
def State.acceptedN (s : State) : Nat := (s.load.members.filter fun m => m.accepted).length

/-- Every member is accepted and its wheel at read speed (R27). -/
def State.fullyMounted (s : State) : Bool := decide (s.acceptedN = 8) && (List.range 8).all fun w => s.wheelAt w 9000

/-- The load is mounted with the members accepted (R27, R28): its zones return, replay begins. Members that come later join it. -/
def State.mountLoad (s : State) : State :=
  let id := s.load.target
  let zs := ((s.host.zoneSets.find? fun e => decide (e.1 = id)).map fun e => e.2).getD []
  let ms := s.load.members.filter fun m => m.accepted
  let absent := (s.loadSaggers id).filter fun g => !ms.any fun m => decide (m.pos = g.pos)
  let all := ms ++ absent.map fun g => { pos := g.pos, serial := g.serial, wheel := none, discs := g.discs, accepted := false }
  let t := (s.setSt { s.st with zones := zs }).setJr { s.jr with disc := s.jr.disc.filter fun r => decide (r.load = id) }
  let t := t.setLoad { t.load with mounted := true, id := id, members := all, phase := .none }
  let t := (t.setFlag stripePage STRIPE.SE_STAT_MOUNTED true).refreshLanes
  let t := (t.loadTo (if t.fullyMounted then 5 else 4) 0).showLoadId
  let t := t.startReplay
  (t.forEach (ms.filterMap fun m => m.wheel) State.memberHeads).replayOver

/-- A Stage Load, or the mount of a bring-up, has failed (R27, R485). -/
def State.mountFailed (s : State) : State :=
  (s.setLoad { s.load with phase := .none, members := [] }).loadTo 6 (if s.load.refused.isEmpty then 0xC1 else 0xFF) |>.showLoadId

/-- Main wheels whose sagger can be no member: refused, or in fault. -/
def State.lostWheels (s : State) : List Nat := s.clamped.filter fun w => s.load.refused.contains w || decide (s.whState w = whFault)

/-- Clamped wheels whose sagger is not identified yet. -/
def State.openWheels (s : State) : List Nat := s.clamped.filter fun w => !s.lostWheels.contains w && (s.wheelSagger w).isNone

/-- Saggers still on their wheels as an exchange begins: one of the wanted load is started and identified afresh, any other is no
member and waits for the loader. -/
def State.beginExchange (s : State) : State :=
  let want := (s.loadSaggers s.load.target).map fun g => g.serial
  let t := s.forEach (List.range 8) fun u w => match s.wheelSagger w with
    | some g =>
      if want.contains g.1 then
        { u with load := { u.load with others := storePut (fun _ => none) u.load.others w none }
                 mot := { u.mot with onWheel := storePut (fun _ => none) u.mot.onWheel w (some g.1) }
                 svc := { u.svc with spun := u.svc.spun.filter fun x => decide (x ≠ w) } }
      else u.setLoad { u.load with others := storePut (fun _ => none) u.load.others w (some g) }
    | none => u
  t.setLoad { t.load with members := [], refused := [] }

/-- One step of what a Stage Load or an Unmount Load does next. -/
def State.loadStep (s : State) : State :=
  match s.load.phase with
  | .none =>
    if !s.load.mounted then
      let s := s.identAll
      (if s.load.state = 7 ∧ s.load.members.all fun m => m.wheel.isNone then (s.setLoad { s.load with members := [] }).loadTo 0 0 else s)
    else
      -- full and degraded follow the members and the wheels (R27)
      let t := s.identAll
      t.loadTo (if t.fullyMounted then 5 else 4) 0
  | .padding =>
    let (t, at_, _) := s.drain none
    match at_ with
    | some n => t.setLoad { t.load with phase := .closing, closeAt := some n }
    | none => t
  | .closing =>
    let (t, _, ok) := s.drain s.load.closeAt
    if ok then (t.setLoad { t.load with phase := .braking, closeAt := none }).commandWheels 0 0 else t
  | .braking =>
    if !s.wheelsRest then s
    else
      let t := s.leaveLoad
      if t.load.unmount then
        let t := t.forEach (t.host.ctxs.filter fun x => decide (x.work = .unmount)) fun u x => u.complete x.conn x.cid .ok
        let t := if t.load.forTwin then t.tSend clsControl (.forward (.loadResult 0)) else t
        (t.setLoad { t.load with phase := .none, forTwin := false }).loadTo (if t.load.store then 7 else 0) 0 |>.showLoadId
      else (t.beginExchange.setLoad { t.beginExchange.load with phase := .exchanging }).loadTo 2 0 |>.showLoadId
  | .exchanging =>
    -- the loader's moves are firmware's; saggers are identified as they come, and six suffice (R27, R28)
    let t := s.identAll
    let n := (t.loadSaggers t.load.target).length
    let new := (t.clamped.filter fun w => (storeFind (fun _ => none) t.load.others w).isNone).length
    if 6 ≤ t.acceptedN then t.mountLoad
    else if n < 6 + t.lostWheels.length then t.mountFailed
    else if min 8 n ≤ new then (t.setLoad { t.load with phase := .mounting }).loadTo 3 0
    else t
  | .mounting =>
    let t := s.identAll
    if 6 ≤ t.acceptedN then t.mountLoad
    else if t.acceptedN + t.openWheels.length < 6 then t.mountFailed
    else t

/-- Everything that a Stage Load or an Unmount Load can do now: at most one pass through its phases. -/
def State.loadGo (s : State) : State := s.forEach (List.range 6) fun u _ => u.loadStep

/-- A Stage Load is accepted (R483). -/
def State.startStage (s : State) (id : Nat) : State :=
  let ph : LoadPhase := if s.load.mounted then .padding else .exchanging
  let t := s.setLoad { s.load with phase := ph, target := id, unmount := false, store := false, closeAt := none, since := s.now }
  let t := if s.load.mounted then t else t.beginExchange
  ((t.loadTo (if s.load.mounted then 1 else 2) 0).showLoadId).loadGo

/-- An Unmount Load is accepted (R484). -/
def State.startUnmount (s : State) (id : Nat) (store : Bool) : State :=
  let t := s.setLoad { s.load with phase := .padding, target := id, unmount := true, store := store, closeAt := none, since := s.now }
  (t.loadTo 1 0).loadGo

/-- The refusal of an Unmount Load (R484). -/
def State.unmountRefusal (s : State) (id : Nat) : Option Nat :=
  if !s.loadKnown id then some 0xC0
  else if s.load.phase ≠ .none ∨ s.load.state = 7 then some 0xC3
  else if !s.load.mounted ∨ s.load.id ≠ id then some 0xC5
  else none

/-- The loader has taken the sagger off a wheel: of a load that is being exchanged or returned, it leaves that wheel. -/
def State.saggerTaken (s : State) (wheel : Nat) : State :=
  let moving := decide (s.load.phase = .exchanging) || decide (s.load.state = 7)
  let ms := s.load.members.map fun m => if m.wheel = some wheel then { m with wheel := none, accepted := false } else m
  let t := { s with mot := { s.mot with onWheel := storePut (fun _ => none) s.mot.onWheel wheel none } }
  (if moving then t.setLoad { t.load with members := ms } else t).discsOff wheel

/-- A write of the custody record (R371): a sagger taken from a wheel of a load that is being exchanged or
returned leaves that wheel. The record goes to xSPI memory and to the twin. -/
def State.custodyWritten (s : State) (kind wheel : Nat) : State :=
  let now := s.fld loaderPage LOADER.CUSTODY_KIND
  let t := if kind = 3 ∧ now = 2 then s.saggerTaken wheel else s
  let f (x : Fld) : Nat := t.fld loaderPage x
  let r := (f LOADER.CUSTODY_KIND, f LOADER.CUSTODY_INTENT, f LOADER.CUSTODY_WHEEL, f LOADER.CUSTODY_STORE)
  let t := { t with mot := { t.mot with custodyXspi := r, stuck := false } }
  (t.tSend clsControl (.forward (.custody r.1 r.2.1 r.2.2.1 r.2.2.2))).loadGo

end Sys2Proof.Machine
end

