-- ==== Sys2Proof/Machine/HostAdmin.lean ====
section
/-!
DEFINITION. Admin commands: Identify, namespaces, loads, logs, features, power, firmware store (R465,
R468-R470, R483-R494, R498, R499, R530).
-/
namespace Sys2Proof.Machine

/-- An admin command on a fresh context of an admin queue acts; on any other it does nothing. -/
def State.admin (s : State) (c cid : Nat) (f : State → State) : State :=
  match s.ctx c cid, s.conn c with
  | some x, some k => if x.work ≠ .fresh ∨ k.qid ≠ 0 ∨ k.assoc.isNone then s else f s
  | _, _ => s

/-- An admin command that needs a right (R467). -/
def State.adminWith (s : State) (c cid right : Nat) (f : State → State) : State :=
  s.admin c cid fun u => if u.hasRight c right then f u else u.complete c cid .accessDenied

/-! Identify (R465) -/

/-- A data structure in host memory, little-endian (R8): bytes given by fields (offset, size, value), any other as
`Config.hostByte` has it. Offsets are those of the NVMe specifications that R465 names its fields by (log entry 107). -/
def hostData (n page : Nat) (fields : List (Nat × Nat × Nat)) : List Nat :=
  (List.range n).map fun o => match fields.find? fun f => decide (f.1 ≤ o ∧ o < f.1 + f.2.1) with
    | some (off, _, v) => v / 256 ^ (o - off) % 256
    | none => Config.hostByte page o % 256

/-- The power state descriptors (R493): maximum power in 10 mW, the non-operational flag, entry and exit latency in µs; for PS4
without the firing of staged data. -/
def powerStates : List (Nat × Nat × Nat) :=
  [(21500, 0, 0, 0), (12000, 0, 1200000, 2000000), (4500, 0, 2600000, 4000000), (2200, 2, 3000000, 5000000), (1200, 2, 3000000, 6000000)].zipIdx.flatMap
    fun ((mp, flags, enter, leave), i) => let o := 2048 + 32 * i; [(o, 2, mp), (o + 3, 1, flags), (o + 4, 4, enter), (o + 8, 4, leave)]

/-- Identify Controller (R465), 4,096 bytes: CNTRLTYPE, MDTS, CNTLID, CRDT1 to CRDT3, NPSS, APSTA, MTFA, KAS, ANATT, ANAGRPMAX,
NANAGRPID, NN, ONCS with Write Zeroes alone, VWC, MNAN, SUBNQN (R466), IOCCSZ, IORCSZ. -/
def State.identifyController (s : State) (c : Nat) : List Nat :=
  hostData 4096 1 (powerStates ++ [(111, 1, 1), (77, 1, 9), (78, 2, s.cntlid c), (128, 2, 100), (130, 2, 10), (132, 2, 1), (263, 1, 4), (265, 1, 1), (270, 2, 100),
    (320, 2, 1), (342, 1, 1), (344, 4, 64), (348, 4, 64), (516, 4, 64), (520, 2, 8), (525, 1, 1), (540, 4, 64), (1792, 4, 516), (1796, 4, 1)] ++
    (List.range 64).map fun i => (768 + 4 * i, 4, s.fld nvmePage NVME.SUBNQN i))

/-- Identify Controller for the Zoned Namespace command set: ZASL (R465). -/
def identifyZnsController : List Nat := hostData 4096 6 [(0, 1, 8)]

/-- Identify Namespace (R468, R471, R482): NSZE, NCAP, two LBA formats of 4 KiB with 0 and 16 bytes of metadata, the format in use,
ANAGRPID. -/
def NsSt.identify (n : NsSt) (ns : Nat) : List Nat :=
  hostData 4096 0 [(0, 8, n.zones * zsze), (8, 8, n.zones * zsze), (25, 1, 1), (26, 1, n.lbaf), (92, 4, ns), (128, 4, 12 * 2 ^ 16), (132, 4, 16 + 12 * 2 ^ 16)]

/-- Identify Namespace for the Zoned Namespace command set: the limits of active and open zones, as numbers less one, and ZSZE with no
descriptor extension for both LBA formats (R471, R476). -/
def identifyZnsNs : List Nat := hostData 4096 5 [(4, 4, 255), (8, 4, 255), (2816, 8, zsze), (2824, 1, 0), (2832, 8, zsze), (2840, 1, 0)]

/-- IDENTIFY (R465): the controller (CNS 01h and 06h), a namespace (00h and 05h), the namespaces attached (02h). -/
def execNvmeIdentify (c : ConnIx) (cid cns ns : Nat) (s : State) : Res :=
  let c := c.val
  done (s.admin c cid fun u =>
    if cns = 1 then u.complete c cid .ok 0 (u.identifyController c)
    else if cns = 6 then u.complete c cid .ok 0 identifyZnsController
    else if cns = 0 ∨ cns = 5 then match u.nsp ns with
      | some n => if n.attached.contains (u.cntlid c) && u.inMask c ns then u.complete c cid .ok 0 (if cns = 0 then n.identify ns else identifyZnsNs)
          else u.complete c cid .invalidNs
      | none => u.complete c cid .invalidNs
    else if cns = 2 then
      let ids := (u.host.nss.filter fun e => decide (ns < e.1) && match e.2 with
        | some n => n.attached.contains (u.cntlid c) && u.inMask c e.1
        | none => false).map fun e => e.1
      u.complete c cid .ok 0 (((ids ++ List.replicate 1024 0).take 1024).flatMap (bytesLE 4))
    else u.complete c cid .invalidField)

/-! Namespace Management (R468-R470, R516-R518, R523) -/

/-- n bytes of a binding from an offset, as a number. -/
def bindingAt (b : List Nat) (off n : Nat) : Nat := ofBytesLE ((b.drop off).take n)

/-- The extents of a binding (R468). -/
def bindingExtents (b : List Nat) : List Extent := (List.range (bindingAt b 7 1)).map fun e =>
  { load := bindingAt b (16 + 16 * e) 8, lane := bindingAt b (24 + 16 * e) 1, first := bindingAt b (26 + 16 * e) 2, zones := bindingAt b (28 + 16 * e) 2 }

/-- The form of a binding (R468). -/
def bindingOk (b : List Nat) : Bool :=
  let home := bindingAt b 5 1
  decide (bindingAt b 0 4 = 0x444E4942) && decide (bindingAt b 4 1 = 1) && decide (home ≤ 1 ∨ home = 0xFF) && decide (bindingAt b 6 1 ≤ 1) &&
    decide (1 ≤ bindingAt b 7 1 ∧ bindingAt b 7 1 ≤ 62) && decide (bindingAt b 8 8 = 0) &&
    (bindingExtents b).all fun e => decide (e.lane < 4) && decide (e.first < 300) && decide (1 ≤ e.zones) && decide (e.zones ≤ 300 - e.first)

/-- The binding of a namespace as it travels to the twin: R468's layout, and the LBA format after it. -/
def NsSt.binding (n : NsSt) : List Nat :=
  bytesLE 4 0x444E4942 ++ [1, n.home, boolNat n.mirrorAck, n.extents.length] ++ List.replicate 8 0 ++
    (n.extents.flatMap fun e => bytesLE 8 e.load ++ [e.lane, 0] ++ bytesLE 2 e.first ++ bytesLE 2 e.zones ++ [0, 0]) ++ [n.lbaf]

/-- Two runs of lane zones overlap. -/
def Extent.overlaps (x y : Extent) : Bool :=
  decide (x.load = y.load) && decide (x.lane = y.lane) && decide (x.first < y.first + y.zones) && decide (y.first < x.first + x.zones)

/-- Extents overlap each other. -/
def selfOverlap : List Extent → Bool
  | [] => false
  | e :: r => r.any e.overlaps || selfOverlap r

/-- Capacity for a create (R469). -/
def State.capacityOk (s : State) (es : List Extent) : Bool :=
  !selfOverlap es && es.all fun e => s.loadKnown e.load &&
    !(s.host.nss.any fun n => match n.2 with
      | some x => x.extents.any e.overlaps
      | none => false) &&
    !s.host.retired.any fun (l, a, z) => decide (l = e.load) && decide (a = e.lane) && decide (e.first ≤ z) && decide (z < e.first + e.zones)

/-- The home side of a create: the one named, or the side with fewer namespaces, A on a tie (R468). -/
def State.homeSide (s : State) (home : Nat) : Nat :=
  if home ≤ 1 then home
  else
    let on (x : Nat) : Nat := (s.host.nss.filter fun e => match e.2 with
      | some n => decide (n.home = x)
      | none => false).length
    if on 1 < on 0 then 1 else 0

/-- HOME_SIDE of a namespace. -/
def State.showHome (s : State) (ns : Nat) (b : Bool) : State := s.setPairBit nvmePage NVME.HOME_SIDE_LO NVME.HOME_SIDE_HI (ns - 1) b

/-- This side's role for a namespace (R384, R482): the home side is its zone writer and Optimized while it
runs; alone, this side is. -/
def State.assignRole (s : State) (ns home : Nat) : State :=
  let mine := decide (home = s.side) || !s.paired
  let ws := s.tw.writers.filter fun n => n != ns
  let t := { s with tw := { s.tw with writers := if mine then ws ++ [ns] else ws } }
  t.setAna ns (if mine then 1 else 3)

/-- NS_KEYS follows the namespaces whose keys TE holds. -/
def State.keysShow (s : State) : State := s.setFld tePage TE.NS_KEYS ((s.te.nk.filter fun e => e.2.isSome).length)

/-- The wrapped-key record of a namespace goes to every disc of every load that an extent names (R517). -/
def State.wrapRecord (s : State) (ns keyId nk kek : Nat) (es : List Extent) : State :=
  let body := bytesBE 8 s.domainId ++ bytesBE 4 ns ++ bytesBE 4 keyId ++ bytesBE 8 (Config.kcv nk) ++ Config.keyWrap kek nk
  let loads := (es.map fun e => e.load).eraseDups
  s.forEach (loads.flatMap s.loadSaggers) fun u g => u.forEach (List.range 4) fun v sl => v.catPut g.serial (some sl) 3 body

/-- A mailbox message: TYPE and LEN, then its body (R513). -/
def mboxMsg (ty : Nat) (body : List Nat) : List Nat := bytesLE 2 ty ++ bytesLE 2 body.length ++ body

/-- A namespace is created (R469, R516-R518): keys, binding, records; the create waits for the wrapped
keys to be acknowledged. -/
def State.createNs (s : State) (c cid lbaf : Nat) (b : List Nat) (drk : Nat) : State :=
  match (List.range 64).find? fun i => (s.nsp (i + 1)).isNone with
  | none => s.complete c cid .nsidUnavailable
  | some i =>
    let ns := i + 1
    let es := bindingExtents b
    let keyId := storeFind (fun _ => 0) s.te.keyIds ns + 1
    let (e, t) := s.free
    let (nk, t) := t.free
    let e := e % 2 ^ 256
    let nk := nk % 2 ^ 256
    let home := t.homeSide (bindingAt b 5 1)
    let n : NsSt := { home := home, mirrorAck := decide (bindingAt b 6 1 = 1), lbaf := lbaf, extents := es, attached := [], keyId := keyId,
                      deleting := false, keyRaised := false }
    let x := t.te
    let t : State := { t with te := { x with
      ens := storePut (fun _ => none) x.ens ns (some e), nk := storePut (fun _ => none) x.nk ns (some nk)
      keyIds := storePut (fun _ => 0) x.keyIds ns keyId, requests := x.requests + 2 } }
    let t := ((t.setNsp ns (some n)).keysShow.showHome ns (decide (home = 1))).assignRole ns home
    let kek := (t.kek ns).getD 0
    let t := (t.wrapRecord ns keyId nk kek es).event tePage 0x8103 1 0xFF ns
    let t := t.tSend clsControl (.forward (.nsBinding ns n.binding))
    let (we, wn) := (Config.keyWrap drk e, Config.keyWrap kek nk)
    let t := (t.tSend clsControl (.forward (.nsKey ns keyId we wn))).send (.toManager (mboxMsg 0x20 (bytesLE 4 ns ++ bytesLE 4 keyId ++ we ++ wn)))
    t.setWork c cid 0 (.create ns)

/-- A create's checks (R469). -/
def State.nsCreate (s : State) (c cid lbaf nsze ncap : Nat) (b : List Nat) : State :=
  let total := ((bindingExtents b).map fun e => e.zones).sum * zsze
  if !bindingOk b ∨ 1 < lbaf ∨ nsze ≠ total ∨ ncap ≠ total then s.complete c cid .invalidField
  else if !s.capacityOk (bindingExtents b) then s.complete c cid .insufficientCapacity
  else if (List.range 64).all fun i => (s.nsp (i + 1)).isSome then s.complete c cid .nsidUnavailable
  else match s.te.drk with
    | some d => if s.te.healthOk then s.createNs c cid lbaf b d else s.complete c cid .internalError
    | none => s.complete c cid .internalError

/-- A namespace's commands in progress complete with Invalid Namespace or Format (R470). -/
def State.endNsCommands (s : State) (ns : Nat) : State :=
  let on (x : Ctx) : Bool := match x.work with
    | .held n _ | .write n _ _ _ _ _ _ _ | .durable n _ _ _ _ _ | .read n _ _ _ => decide (n = ns)
    | .finish zs => zs.any fun k => decide ((s.zone k).ns = ns)
    | _ => false
  (s.forEach (s.host.ctxs.filter on) fun u x => u.complete x.conn x.cid .invalidNs).dropReleased

/-- Steps 1 to 3 of a crypto-erase (R470, R523): commands end, unfired data goes, keys are destroyed; fired
lane zones become retired capacity. -/
def State.eraseNs (s : State) (ns : Nat) : State :=
  match s.nsp ns with
  | none => s
  | some n =>
    let t := (s.setNsp ns (some { n with deleting := true })).endNsCommands ns
    let mine := (t.st.zones.filter fun e => decide (e.2.ns = ns)).map fun e => e.1
    let t := t.forEach mine State.dropZoneSettings
    let used := (List.range n.zones).filterMap fun k => (n.laneZone k).bind fun (l, q) =>
      if (t.zoneIn l q).everFired then some (l, q / 300, q % 300) else none
    let t := t.forEach mine fun u k => u.setZone k ZoneSt.empty
    let sets := t.host.zoneSets.map fun e => (e.1, e.2.filter fun z => decide (z.2.ns ≠ ns))
    let t := t.setHost { t.host with zoneSets := sets, retired := t.host.retired ++ used, seals := t.host.seals.filter fun e => decide (e.1 ≠ ns) }
    let x := t.te
    let t : State := { t with te := { x with
      ens := storePut (fun _ => none) x.ens ns none, nk := storePut (fun _ => none) x.nk ns none, slots := x.slots.filter fun e => decide (e.1 ≠ ns) } }
    let t := (t.setFld mediacryptPage MEDIACRYPT.SLOTS_USED t.te.slots.length).keysShow
    let t := { t with jr := { t.jr with interrupted := t.jr.interrupted.filter fun e => decide (e.ns ≠ ns) } }
    let t := { t with tw := { t.tw with writers := t.tw.writers.filter fun w => w != ns } }
    (((t.setNsp ns none).setAna ns 4).showHome ns false).notice .nsAttr |>.stgShow.urgentShow

/-- ERASE_PEND counts the manager copies not confirmed (R523). -/
def State.erasePend (s : State) : State := s.setFld tePage TE.ERASE_PEND (min 255 s.te.erase.length)

/-- The manager is asked to destroy its copies of a namespace's keys (R523). -/
def State.askErase (s : State) (ns keyId : Nat) : State :=
  s.send (.toManager (mboxMsg 0x21 (bytesLE 4 ns ++ bytesLE 4 keyId)))

/-- Step 4 of a crypto-erase (R523): the manager is asked, until it confirms. -/
def State.eraseAtManager (s : State) (ns : Nat) : State :=
  let id := storeFind (fun _ => 0) s.te.keyIds ns
  let ask : EraseAsk := { ns := ns, keyId := id, first := s.now, last := s.now, raised := false }
  (State.erasePend { s with te := { s.te with erase := s.te.erase ++ [ask] } }).askErase ns id

/-- A delete (R470, R523). With the twin paired it completes once the twin's keys are destroyed too. -/
def State.nsDelete (s : State) (c cid ns : Nat) : State :=
  match s.nsp ns with
  | none => s.complete c cid .invalidNs
  | some _ =>
    let t := (s.eraseNs ns).event tePage 0x8104 2 0xFF ns
    let t := t.eraseAtManager ns
    if t.paired then (t.tSend clsControl (.forward (.nsDelete ns))).setWork c cid 0 (.delete ns) else t.complete c cid .ok

/-- A controller ID of the subsystem (R466). -/
def cntlidOk (id : Nat) : Bool := decide (id / 0x100 ≤ 1) && decide (1 ≤ id % 0x100 ∧ id % 0x100 ≤ 64)

/-- The controllers that a namespace is attached to change: those of this side that gain or lose it are told (R499). -/
def State.attachTo (s : State) (ns : Nat) (n : NsSt) (now : List Nat) : State :=
  let mine := (List.range 64).filter fun i => let id := s.side * 0x100 + i + 1; now.contains id != n.attached.contains id
  (s.setNsp ns (some { n with attached := now })).forEach mine fun u i => u.noticeTo .nsAttr (i + 1)

/-- Attach or detach a namespace to the controllers named (R470). -/
def State.nsAttach (s : State) (c cid ns : Nat) (ids : List Nat) (on : Bool) : State :=
  match s.nsp ns with
  | none => s.complete c cid .invalidNs
  | some n =>
    if ids.isEmpty ∨ !ids.all cntlidOk then s.complete c cid .invalidField
    else
      let rest := n.attached.filter fun x => !ids.contains x
      let now := if on then (rest ++ ids).eraseDups else rest
      ((s.attachTo ns n now).tSend clsControl (.forward (.nsAttach ns now))).complete c cid .ok

/-- The shelf of a load that the rack catalogue places elsewhere (R557). -/
def State.otherShelf (s : State) (id : Nat) : Option Nat :=
  if !s.flag hyPage HY.HY_STAT_ACTIVE_MGR then none
  else ((s.hy.rackLoads.find? fun e => decide (e.1 = id) && decide (e.2 ≠ s.fld chipPage CHIP.SHELF_ID))).map fun e => e.2

/-- Stage Load (R483), or the rack's (R557). -/
def State.stageCmd (s : State) (c cid id : Nat) : State :=
  if s.load.mounted ∧ s.load.id = id ∧ s.load.phase = .none then s.complete c cid .ok
  else match s.otherShelf id with
    | some k =>
      if s.hy.stage.isSome then s.complete c cid (.vendor 0xC3)
      else State.setWork { s with hy := { s.hy with stage := some (id, k, false) } } c cid 0 .forwarded
    | none =>
      if s.loaderTwin then (s.tSend clsControl (.forward (.stageLoad id))).setWork c cid 0 .forwarded
      else match s.stageRefusal id with
        | some code => s.complete c cid (.vendor code)
        | none => (s.complete c cid .ok).startStage id

/-- Unmount Load (R484). -/
def State.unmountCmd (s : State) (c cid id : Nat) (store : Bool) : State :=
  if s.loaderTwin then (s.tSend clsControl (.forward (.unmountLoad id store))).setWork c cid 0 .forwarded
  else match s.unmountRefusal id with
    | some code => s.complete c cid (.vendor code)
    | none => (s.setWork c cid 0 .unmount).startUnmount id store

/-- A command that needs the catalogue (R569): it waits until RDY.CATALOGUE. -/
def State.catRun (s : State) (c cid : Nat) (cmd : CatCmd) : State :=
  match cmd with
  | .create lbaf nsze ncap b => s.nsCreate c cid lbaf nsze ncap b
  | .delete ns => s.nsDelete c cid ns
  | .attach ns ids on => s.nsAttach c cid ns ids on
  | .stage id => s.stageCmd c cid id
  | .unmount id store => s.unmountCmd c cid id store

def State.catCmd (s : State) (c cid right : Nat) (cmd : CatCmd) : State :=
  s.adminWith c cid right fun u => if u.flag rdyPage RDY.CATALOGUE then u.catRun c cid cmd else u.setWork c cid 0 (.catWait cmd u.now)

/-- Commands that waited for the catalogue run once it is ready. -/
def State.catResume (s : State) : State :=
  if !s.flag rdyPage RDY.CATALOGUE then s
  else s.forEach s.host.ctxs fun u x => match x.work with
    | .catWait cmd _ => u.catRun x.conn x.cid cmd
    | _ => u

def execNamespaceCreate (c : ConnIx) (cid lbaf nsze ncap : Nat) (binding : List Nat) (s : State) : Res :=
  done (s.catCmd c.val cid 1 (.create lbaf nsze ncap binding))
def execNamespaceDelete (c : ConnIx) (cid ns : Nat) (s : State) : Res := done (s.catCmd c.val cid 1 (.delete ns))
def execNamespaceAttachment (c : ConnIx) (cid ns : Nat) (ids : List Nat) (on : Bool) (s : State) : Res :=
  done (s.catCmd c.val cid 1 (.attach ns ids on))
def execStageLoad (c : ConnIx) (cid id : Nat) (s : State) : Res := done (s.catCmd c.val cid 2 (.stage id))
def execUnmountLoad (c : ConnIx) (cid id : Nat) (store : Bool) (s : State) : Res := done (s.catCmd c.val cid 2 (.unmount id store))

/-- CATALOGUE_WAIT_EXPIRY (R569): the command has waited 1 s. -/
def execCatalogueWaitExpiry (c : ConnIx) (cid : Nat) (s : State) : Res :=
  match s.ctx c.val cid with
  | some x => match x.work with
    | .catWait _ since => if since + 1000000000 ≤ s.now then done (s.complete c.val cid (.interrupted 0)) else done s
    | _ => done s
  | none => done s

/-- The wrapped keys of a create are acknowledged (R518). -/
def State.createAcked (s : State) (ns : Nat) : State :=
  s.forEach (s.host.ctxs.filter fun x => decide (x.work = .create ns)) fun u x => u.complete x.conn x.cid .ok ns

/-- NAMESPACE_KEY_ACK_TIMEOUT (R518): 1 s has passed without an acknowledgment; the create fails and its keys are destroyed. -/
def execNamespaceKeyAckTimeout (ns : Nat) (s : State) : Res :=
  match s.host.ctxs.find? fun x => decide (x.work = .create ns) && decide (x.since + 1000000000 ≤ s.now) with
  | none => done s
  | some x => done ((s.eraseNs ns).complete x.conn x.cid .internalError)

/-! Log pages (R485-R491) -/

/-- The sagger at a stripe position in log C0h: serial, wheel, SSTATE. -/
def State.logMember (s : State) (p : Nat) : List Nat :=
  match s.memberAt p with
  | some m =>
    let w := m.wheel.getD 0xFF
    let b := wheelPage w
    let st := match m.wheel with
      | none =>
        if s.fld loaderPage LOADER.CUSTODY_KIND = 2 ∧ s.fld loaderPage LOADER.CUSTODY_STORE = Config.storeSlot m.serial % 2 ^ 16 then 1
        else if s.load.refused.isEmpty then 0 else 4
      | some w => if s.whState w = whFault then 5 else if s.wheelAt w 9000 then 3 else if s.flag b WHEEL.WH_STAT_CLAMP_SNS then 2 else 1
    bytesLE 8 m.serial ++ [w, st] ++ List.replicate 22 0
  | none =>
    let id := s.pair hyPage HY.LOAD_LO HY.LOAD_HI
    let serial := ((s.loadSaggers id).find? fun g => decide (g.pos = p)).map fun g => g.serial
    bytesLE 8 (serial.getD 0) ++ [0xFF, 0] ++ List.replicate 22 0

/-- Log page C0h (R485); before the catalogue is ready STATE reads 0 (R569). -/
def State.logC0 (s : State) : List Nat :=
  let id := s.pair hyPage HY.LOAD_LO HY.LOAD_HI
  let st := if s.flag rdyPage RDY.CATALOGUE then s.load.state else 0
  bytesLE 8 id ++ [st, if st = 6 then s.load.reason else 0, s.fld rdyPage RDY.LANE_IO, s.fld rdyPage RDY.LANE_FULL,
    s.fld stripePage STRIPE.SE_STAT_AT_RISK, 0, 0, 0] ++ bytesLE 4 (s.fld stripePage STRIPE.MEMBER_OK) ++ bytesLE 4 s.host.loadChanges ++
    bytesLE 8 s.host.loadTime ++ List.replicate 32 0 ++ (List.range 8).flatMap s.logMember

/-- Log page C1h (R486): whole records from a sequence number on, up to the length requested. -/
def wholeRecords (len : Nat) : List Record → List Nat
  | [] => []
  | r :: rest => if r.bytes.length ≤ len then r.bytes ++ wholeRecords (len - r.bytes.length) rest else []
def State.logC1 (s : State) (offset len : Nat) : List Nat :=
  let n := s.recd.fullSeq (offset % 2 ^ 32)
  wholeRecords len (s.recd.log.filter fun r => decide (n ≤ r.seq))

/-- Log page C2h (R487). -/
def State.logC2 (s : State) : List Nat :=
  let start (e : IntZone) : Nat := match s.nsp e.ns with
    | some n => ((n.zoneOf e.load e.zone).getD 0) * zsze
    | none => 0
  bytesLE 4 s.jr.interrupted.length ++ bytesLE 4 s.host.holdPwr ++ List.replicate 8 0 ++ s.jr.interrupted.flatMap fun e =>
    bytesLE 4 e.ns ++ bytesLE 4 e.flags ++ bytesLE 8 (start e) ++ bytesLE 8 (start e + e.before) ++ bytesLE 8 (start e + e.after)

/-- The newest event code of a page in the log. -/
def State.lastEvent (s : State) (base : Nat) : Nat :=
  ((s.recd.log.reverse.find? fun r => decide (r.ev.arg0 = base)).map fun r => r.ev.code).getD 0

/-- An entry of log page C3h (R488): kind, state, instance, total, used, left, effect, event. -/
structure HealthEntry where
  kind : Nat
  state : Nat
  inst : Nat
  total : Nat
  used : Nat
  left : Nat
  effect : Nat
  event : Nat
  deriving DecidableEq, Repr

/-- The entry of an object from its page: spares, DEGRADED and RETIRED. -/
def State.healthOf (s : State) (kind inst base effect : Nat) : HealthEntry :=
  let used := s.fld base HDR.SPARES_USED
  let left := s.fld base HDR.SPARES_LEFT
  let st := if s.flag base HDR.RETIRED then 4 else if s.flag base HDR.DEGRADED then 3 else if used = 0 then 0 else if left = 0 then 2 else 1
  { kind := kind, state := st, inst := inst, total := min 255 (used + left), used := used, left := left, effect := effect, event := s.lastEvent base }

/-- Every entry of log page C3h. -/
def State.health (s : State) : List HealthEntry :=
  let heads := List.range 33
  let sram (b : Nat) : HealthEntry :=
    let used := ((storeFind (fun _ => []) s.mem.ect b).filter fun e => decide (e.state = 2)).length
    let total := min 255 (Config.sramSpares b)
    { kind := 9, state := if used = 0 then 0 else if total ≤ used then 2 else 1, inst := b, total := total, used := used, left := total - used,
      effect := total - used, event := s.lastEvent ecctabPage }
  let retire (h : Nat) : HealthEntry :=
    let cause := s.fld (firestatPage h) FIRESTAT.RETIRE_CAUSE
    { kind := 12, state := if cause = 0 then 0 else 3, inst := h, total := 0, used := 0, left := 0, effect := cause, event := 0 }
  let lane (l : Nat) : HealthEntry :=
    let miss := s.laneMissing l
    { kind := 13, state := laneHealth miss, inst := l, total := 0, used := 0, left := 0, effect := miss, event := 0 }
  (heads.map fun h => s.healthOf 1 h (bandPage h) (16 - s.missingBeams h)) ++
  (heads.map fun h => s.healthOf 2 h (headPage h) (popCount 9 (s.fld (headPage h) HEAD.LINK_STAT_UL_OK))) ++
  [s.healthOf 3 0 ldpcPage (s.fld ldpcPage LDPC.CAPACITY), s.healthOf 4 0 mediacryptPage (s.fld mediacryptPage MEDIACRYPT.MX_STAT_ENGINES),
   s.healthOf 5 0 tlsPage (s.fld tlsPage TLS.TLS_STAT_ENGINES), s.healthOf 6 0 mcPage (s.fld mcPage MC.MC_STAT_ACTIVE),
   s.healthOf 7 0 ctrlengPage (s.fld ctrlengPage CTRLENG.CE_STAT_LANES)] ++
  ((List.range 9).map fun w => s.healthOf 8 w (wheelPage w) (3 - s.fld (wheelPage w) HDR.SPARES_USED)) ++
  ((List.range 40).filter fun b => decide (b < 6 ∨ 8 ≤ b)).map sram ++
  [s.healthOf 10 0 setterPage (s.fld setterPage SETTER.SC_STAT_WAYS), s.healthOf 11 0 ecctabPage (512 - s.mem.retired.length)] ++
  heads.map retire ++ (List.range 4).map lane

def HealthEntry.bytes (e : HealthEntry) : List Nat :=
  [e.kind, e.state] ++ bytesLE 2 e.inst ++ [e.total, e.used, e.left, 0] ++ bytesLE 4 e.effect ++ bytesLE 2 e.event ++ [0, 0]

/-- Log page C3h (R488). -/
def State.logC3 (s : State) : List Nat :=
  let es := s.health
  bytesLE 4 es.length ++ List.replicate 12 0 ++ es.flatMap HealthEntry.bytes

/-- Log page C4h (R490): seals held, each with its namespace zone and time. -/
def State.logC4 (s : State) (ns : Nat) : List Nat :=
  let mine := s.host.seals.filter fun e => decide (e.1 = ns)
  let zs := match s.nsp ns with
    | some n => List.range n.zones
    | none => []
  zs.flatMap fun k => match mine.find? fun e => decide (e.2.1 = k) with
    | some (_, _, sl) =>
      bytesLE 4 ns ++ bytesLE 4 0 ++ bytesLE 8 (k * zsze) ++ bytesLE 8 (ofBytesBE ((sl.drop 40).take 8)) ++ bytesLE 2 480 ++ List.replicate 6 0 ++ sl
    | none => []

/-- The bitmap of log page C5h (R491), eight zones a byte. -/
def zoneBits (n : NsSt) (ack : Nat → Bool) : List Nat := (List.range ((n.zones + 7) / 8)).map fun i =>
  (List.range 8).foldl (fun v b => setBit v b (decide (8 * i + b < n.zones) && ack (8 * i + b))) 0

/-- Log page C5h (R491). -/
def State.logC5 (s : State) (n : NsSt) : List Nat :=
  let ack (k : Nat) : Bool := match n.laneZone k with
    | some (l, q) => let z := s.zoneIn l q; if z.state = 0 then n.mirrorAck else z.mirrorAck
    | none => false
  bytesLE 4 n.zones ++ bytesLE 4 0 ++ zoneBits n ack

/-- n bytes of a log from an offset; past its end they read 0. -/
def logBytes (bs : List Nat) (offset len : Nat) : List Nat := ((bs.drop offset) ++ List.replicate len 0).take len

def execGetLogC0 (c : ConnIx) (cid len : Nat) (s : State) : Res :=
  done (s.admin c.val cid fun u => u.complete c.val cid .ok 0 (u.logC0.take len))
def execGetLogC1 (c : ConnIx) (cid offset len : Nat) (s : State) : Res :=
  done (s.admin c.val cid fun u => u.complete c.val cid .ok 0 (u.logC1 offset len))

/-- GET_LOG_C2 (R487): with bit 0 set and right 3, the entries returned are cleared. -/
def execGetLogC2 (c : ConnIx) (cid : Nat) (clear : Bool) (len : Nat) (s : State) : Res :=
  let c := c.val
  done (s.admin c cid fun u =>
    if clear && !u.hasRight c 3 then u.complete c cid .accessDenied
    else
      let t := u.complete c cid .ok 0 (u.logC2.take len)
      if clear then { t with jr := { t.jr with interrupted := t.jr.interrupted.drop ((len - 16) / 32) } } else t)
def execGetLogC3 (c : ConnIx) (cid len : Nat) (s : State) : Res :=
  done (s.admin c.val cid fun u => u.complete c.val cid .ok 0 (u.logC3.take len))
def execGetLogC4 (c : ConnIx) (cid ns offset len : Nat) (s : State) : Res :=
  let c := c.val
  done (s.admin c cid fun u =>
    if (u.nsp ns).isNone then u.complete c cid .invalidNs
    else if offset % 512 ≠ 0 then u.complete c cid .invalidField
    else u.complete c cid .ok 0 (((u.logC4 ns).drop offset).take len))
def execGetLogC5 (c : ConnIx) (cid ns offset len : Nat) (s : State) : Res :=
  let c := c.val
  done (s.admin c cid fun u => match u.nsp ns with
    | none => u.complete c cid .invalidNs
    | some n =>
      if !u.hasRight c 0 then u.complete c cid .accessDenied
      else if !u.inMask c ns then u.complete c cid .invalidNs
      else if offset % 8 ≠ 0 then u.complete c cid .invalidField
      else u.complete c cid .ok 0 (logBytes (u.logC5 n) offset len))

/-- Available Spare (R489): the lowest LEFT / TOTAL over kinds 1 to 11, in percent. -/
def State.availableSpare (s : State) : Nat :=
  (s.health.filter fun e => decide (e.kind ≤ 11) && decide (e.total ≠ 0)).foldl (fun m e => min m (100 * e.left / e.total)) 100

/-- Critical Warning (R489): bits 2 and 3. -/
def State.criticalWarning (s : State) : Nat :=
  4 * boolNat (s.health.any fun e => decide (3 ≤ e.state)) + 8 * boolNat (decide (s.countZones (fun z => decide (z.state = 5)) ≠ 0))

/-- GET_LOG_SMART (R489): 512 bytes with Critical Warning and Available Spare. -/
def execGetLogSmart (c : ConnIx) (cid : Nat) (s : State) : Res :=
  done (s.admin c.val cid fun u => u.complete c.val cid .ok 0 (hostData 512 0x102 [(0, 1, u.criticalWarning), (3, 1, u.availableSpare)]))

/-! Features, keep-alive, power (R492-R497) -/

/-- The association of a connection, changed. -/
def State.withAssoc (s : State) (c : Nat) (f : Assoc → Assoc) : State :=
  match (s.conn c).bind fun k => k.assoc, s.assocOf c with
  | some a, some x => s.setAssoc a (some (f x))
  | _, _ => s

/-- SET_FEATURES_C1 (R478, R492): the default durability point of zones opened later. -/
def execSetFeaturesC1 (c : ConnIx) (cid ns : Nat) (mirrorAck : Bool) (s : State) : Res :=
  let c := c.val
  done (s.admin c cid fun u => match u.nsp ns with
    | none => u.complete c cid .invalidNs
    | some n =>
      let n := { n with mirrorAck := mirrorAck }
      ((u.setNsp ns (some n)).tSend clsControl (.forward (.nsBinding ns n.binding))).complete c cid .ok)

/-- SET_FEATURES_STANDARD (R492). -/
def execSetFeaturesStandard (c : ConnIx) (cid : Nat) (f : StdFeature) (s : State) : Res :=
  let c := c.val
  done (s.admin c cid fun u => match f with
    | .keepAlive ms => (u.withAssoc c fun x => { x with kato := (ms + 99) / 100 * 100, last := u.now }).complete c cid .ok
    | .asyncEvents mask => (u.withAssoc c fun x => { x with aec := mask % 2 ^ 32 }).complete c cid .ok
    | .queues n => u.complete c cid .ok (min n 127 * 0x10001)
    | .hostBehavior acre => (u.withAssoc c fun x => { x with acre := acre }).complete c cid .ok
    | .apst on => (u.withAssoc c fun x => { x with apst := on, auto := if on then x.auto else 0 }).complete c cid .ok).psGo

/-- POWER_MANAGEMENT (R494, R495): PS3 and PS4 need right 2. -/
def execPowerManagement (c : ConnIx) (cid : Nat) (ps : Fin 5) (s : State) : Res :=
  let c := c.val
  done (s.admin c cid fun u =>
    if 3 ≤ ps.val ∧ !u.hasRight c 2 then u.complete c cid .accessDenied
    else ((u.withAssoc c fun x => { x with ps := ps.val, auto := 0 }).complete c cid .ok)).psGo

/-- AUTONOMOUS_PS_TRANSITION (R494): to PS1 and PS2 only. -/
def execAutonomousPsTransition (a : Fin 64) (ps : Fin 5) (s : State) : Res :=
  match s.assoc (a.val + 1) with
  | some x => if x.apst && decide (1 ≤ ps.val ∧ ps.val ≤ 2) then done (s.setAssoc (a.val + 1) (some { x with auto := ps.val })).psGo else done s
  | none => done s

/-- KEEP_ALIVE (R497). -/
def execKeepAlive (c : ConnIx) (cid : Nat) (s : State) : Res :=
  done (s.admin c.val cid fun u => (u.withAssoc c.val fun x => { x with last := u.now }).complete c.val cid .ok)

/-- ASYNCHRONOUS_EVENT_REQUEST (R499): held until an event is posted; one that waits is posted at once. -/
def execAsynchronousEventRequest (c : ConnIx) (cid : Nat) (s : State) : Res :=
  let c := c.val
  done (s.admin c cid fun u => match u.assocOf c with
    | none => u
    | some x => match x.pend with
      | n :: r => ((u.withAssoc c fun y => { y with pend := r }).send (.aen c cid n)).dropCtx c cid
      | [] => (u.withAssoc c fun y => { y with aers := y.aers ++ [(c, cid)] }).setWork c cid 0 .aer)

/-! Firmware images (R498, R529, R530) -/

/-- The number of fuses blown. -/
def State.svnFuse (s : State) : Nat := s.fld tePage TE.SVN_FUSE

/-- The first 160 bytes of an image's header (R529): MAGIC, VERSION, SVN, LENGTH. -/
def imageHeader (img : FwImage) : List Nat :=
  bytesLE 4 0x57464D48 ++ bytesLE 4 img.version ++ [img.svn, 0, 0, 0] ++ bytesLE 4 img.bytes.length ++ List.replicate 144 0

/-- The signature of an image, over its header and its bytes, verifies against the Waenvik signing key; the SVN is one of 0 to
64 (R529). -/
def imageSigned (img : FwImage) : Bool :=
  decide (img.svn ≤ 64) && Config.verify Config.firmwareKey (imageHeader img ++ img.bytes) img.sig

/-- Verification of an image, with its event (R529, R530). -/
def State.imageCheck (s : State) (img : FwImage) : Bool × State :=
  if !imageSigned img then (false, s.event tePage 0x8108 7)
  else if img.svn < s.svnFuse then (false, s.event tePage 0x8109 7 0xFF img.svn)
  else (true, s)

/-- FIRMWARE_DOWNLOAD (R530): the image waits for its commit. -/
def execFirmwareDownload (c : ConnIx) (cid : Nat) (img : FwImage) (s : State) : Res :=
  done (s.adminWith c.val cid 4 fun u => (u.setHost { u.host with fw := some img }).complete c.val cid .ok)

/-- A verified image takes the place of the one that BOOT_SRC selects, which moves to the other place (R529,
R530: the predecessor stays). -/
def State.storeImage (s : State) (img : FwImage) : State :=
  let b := s.fld chipPage CHIP.BOOT_SRC
  let old := s.host.stored.getD b none
  s.setHost { s.host with stored := if b = 0 then [some img, old] else [old, some img], fw := none }

/-- FIRMWARE_COMMIT_STORE (R498, R530): actions 0 to 2 store a verified image without activation. -/
def execFirmwareCommitStore (c : ConnIx) (cid : Nat) (action : Fin 3) (s : State) : Res :=
  let _ := action
  done (s.adminWith c.val cid 4 fun u => match u.host.fw with
    | none => u.complete c.val cid .invalidImage
    | some img =>
      let (ok, t) := u.imageCheck img
      if ok then (t.storeImage img).complete c.val cid .ok
      else (t.setHost { t.host with fw := none }).complete c.val cid .invalidImage)

end Sys2Proof.Machine
end

