-- ==== Sys2Proof/Machine/Jtag.lean ====
section
/-!
DEFINITION. The JTAG port (R531, R633): its identification, its instructions before and after trust lock, the debug
data register, and the outputs that EXTEST drives.
-/
namespace Sys2Proof.Machine

/-- The IDCODE (R633): version, part number, manufacturer, and bit 0 set. -/
def jtagIdcode : Nat := 0x1 * 2 ^ 28 + 0x6633 * 2 ^ 12 + 0x507 * 2 + 1

/-- Trust lock locks the port (R512, R531); an unlock under R532 clears trust lock and with it the port's lock. -/
def State.jtagLocked (s : State) : Bool := s.flag chipPage CHIP.TRUST_LOCKED

/-- The instructions that a port takes (R531): all of them, or BYPASS and IDCODE alone. The challenge register is the
way to the unlock, and stays (R532). -/
def State.jtagTakes (s : State) (i : JtagInstr) : Bool :=
  match i with
  | .bypass | .idcode | .challenge => true
  | .sample | .extest | .debug => !s.jtagLocked

/-- An instruction enters the port; one that is locked out acts as BYPASS (log entry 159). -/
def State.jtagSelect (s : State) (i : JtagInstr) : State :=
  { s with jtag := { s.jtag with ir := if s.jtagTakes i then i else .bypass } }

/-- The TAP is reset by TRST_N (R633): IDCODE is the instruction. -/
def State.jtagReset (s : State) : State := { s with jtag := { s.jtag with ir := .idcode } }

/-- The lock applies to the instruction in the port as well (R531). -/
def State.jtagLock (s : State) : State := s.jtagSelect s.jtag.ir

/-- The data register that the instruction selects, as it is captured: its bits, least significant first. The boundary
register holds the outputs of the wheels (log entry 159). -/
def State.jtagCapture (s : State) : List Bool :=
  let bits (n v : Nat) : List Bool := (List.range n).map fun i => bitOf v i
  match s.jtag.ir with
  | .bypass => [false]
  | .idcode => bits 32 jtagIdcode
  | .challenge => (s.te.challenge.getD []).flatMap fun b => bits 8 b
  | .sample | .extest | .debug => []

/-- The outputs of a wheel as its pins show them: EXTEST drives them from the boundary register (R633). -/
def State.wheelPins (s : State) (w : Nat) : WheelPins :=
  let b := wheelPage w
  let own : WheelPins := { gates := s.gates w, ownOut := s.flag b WHEEL.WH_STAT_OWN_OUT, rel := s.flag b WHEEL.WH_STAT_REL_OUT }
  if s.jtag.ir = .extest then storeFind (fun _ => WheelPins.off) s.jtag.pins w else own

/-- LD_OWN as its pin shows it. -/
def State.loaderPin (s : State) : Bool :=
  if s.jtag.ir = .extest then s.jtag.loaderOwn else s.flag loaderPage LOADER.LD_STAT_OWN_OUT

end Sys2Proof.Machine
end

