-- ==== Sys2Proof/Machine/Trust.lean ====
section
/-!
DEFINITION. The trust engine and media crypto (R505-R536).
-/
namespace Sys2Proof.Machine

/-- Change the trust engine's state. -/
def State.setTe (s : State) (x : TeSt) : State := { s with te := x }

/-- A fresh random value of n bytes from the DRBG (R506; log entry 2). -/
def State.random (s : State) (n : Nat) : Nat × State :=
  let (v, t) := s.free
  (v % 256 ^ n, t.setTe { t.te with requests := t.te.requests + 1 })

/-- This controller's serial, and the twin's. -/
def State.serial (s : State) : Nat := s.pair hyPage HY.SERIAL_LO HY.SERIAL_HI
def State.twinSerial (s : State) : Nat := s.pair twPage TW.TWIN_SER_LO TW.TWIN_SER_HI

/-! Attestation through SPDM (R508, R509; message codes: log entry 44) -/

/-- Certificate chains by slot: this controller's, and the twin's while paired. -/
def State.certSlot (s : State) (n : Nat) : Option (List Nat) :=
  if n = 0 then some (Config.certChain s.serial) else if n = 1 ∧ s.paired then some (Config.certChain s.twinSerial) else none

/-- Bytes of the running image. -/
def State.runningImage (s : State) : List Nat := match s.host.running with
  | some i => imageHeader i ++ i.bytes
  | none => Config.factoryImage

/-- CHIP.TRUST_STAT: trust lock, debug unlocked, domain enrolled. -/
def State.trustState (s : State) : Nat :=
  s.fld chipPage CHIP.TRUST_LOCKED + 2 * s.fld chipPage CHIP.DEBUG_UNLOCKED + 4 * s.fld chipPage CHIP.DOMAIN_ENROLLED

/-- Measurement block i (R509). -/
def State.measurement (s : State) (i : Nat) : List Nat :=
  Config.sha384 (match i with
    | 1 => Config.bootRom
    | 2 => s.runningImage
    | 3 => [s.fld tePage TE.SVN_RUNNING, s.fld tePage TE.SVN_FUSE]
    | 4 => bytesBE 4 (s.fld trimPage TRIM.TRIM_CRC) ++ [s.trustState]
    | _ => bytesBE 8 (if s.flag tePage TE.TE_STAT_ENROLLED then s.domainId else 0))

/-- A response waits for Security Receive on its association; Security Send completes. -/
def State.spdmAnswer (s : State) (c cid : Nat) (resp : List Nat) : State :=
  s.admin c cid fun u =>
    let a := ((u.conn c).bind fun k => k.assoc).getD 0
    (u.setHost { u.host with spdm := (u.host.spdm.filter fun e => decide (e.1 ≠ a)) ++ [(a, resp)] }).complete c cid .ok

/-- The SPDM ERROR response UnsupportedRequest. -/
def spdmError : List Nat := [0x7F, 0x07]

def execGetVersion (c : ConnIx) (cid : Nat) (s : State) : Res := done (s.spdmAnswer c.val cid [0x04, 0x12])
/-- CERT_CAP, CHAL_CAP and MEAS_CAP 2, in the bits of SPDM 1.2. -/
def execGetCapabilities (c : ConnIx) (cid : Nat) (s : State) : Res := done (s.spdmAnswer c.val cid [0x61, 0x12, 2 + 4 + 16])
/-- ECDSA P-384 and SHA-384. -/
def execNegotiateAlgorithms (c : ConnIx) (cid : Nat) (s : State) : Res := done (s.spdmAnswer c.val cid [0x63, 0x12, 0x80, 0x02, 0x04])
def execGetDigests (c : ConnIx) (cid : Nat) (s : State) : Res :=
  let slots := (List.range 8).filter fun n => (s.certSlot n).isSome
  done (s.spdmAnswer c.val cid ([0x01, slots.foldl (fun m n => setBit m n true) 0] ++
    slots.flatMap fun n => Config.sha384 ((s.certSlot n).getD [])))
def execGetCertificate (c : ConnIx) (cid : Nat) (slot : Fin 8) (offset len : Nat) (s : State) : Res :=
  done (s.spdmAnswer c.val cid (match s.certSlot slot.val with
    | some chain => [0x02, slot.val] ++ (chain.drop offset).take len
    | none => spdmError))

/-- A signed response (R508): the signature of the identity key over what it covers. -/
def State.spdmSigned (s : State) (c cid : Nat) (body nonce : List Nat) : State :=
  let t := s.spdmAnswer c cid (body ++ Config.sign Config.identityKey (body ++ nonce))
  if t = s then s else t.count tePage TE.SPDM_CNT

def execSpdmChallenge (c : ConnIx) (cid : Nat) (slot : Fin 8) (nonce : List Nat) (s : State) : Res :=
  match s.certSlot slot.val with
  | some chain =>
    let (n, t) := s.random 32
    let ms := (List.range 5).flatMap fun i => s.measurement (i + 1)
    done (t.spdmSigned c.val cid ([0x03, slot.val] ++ Config.sha384 chain ++ bytesBE 32 n ++ Config.sha384 ms) nonce)
  | none => done (s.spdmAnswer c.val cid spdmError)

/-- GET_MEASUREMENTS (R509): the number of blocks (index 0), one block, or all of them (0xFF), signed. -/
def execGetMeasurements (c : ConnIx) (cid : Nat) (index : Fin 256) (nonce : List Nat) (s : State) : Res :=
  let (n, t) := s.random 32
  let body := if index.val = 0 then [5] else if index.val = 0xFF then (List.range 5).flatMap fun i => s.measurement (i + 1)
    else s.measurement index.val
  if index.val = 0 ∨ index.val = 0xFF ∨ index.val ≤ 5 then done (t.spdmSigned c.val cid ([0x60, index.val] ++ body ++ bytesBE 32 n) nonce)
  else done (s.spdmAnswer c.val cid spdmError)

def execSpdmUnsupported (c : ConnIx) (cid : Nat) (s : State) : Res := done (s.spdmAnswer c.val cid spdmError)

/-- SECURITY_RECEIVE (R508): the response waiting for the association. -/
def execSecurityReceive (c : ConnIx) (cid protocol spsp : Nat) (s : State) : Res :=
  let c := c.val
  done (s.admin c cid fun u =>
    let a := ((u.conn c).bind fun k => k.assoc).getD 0
    if protocol ≠ 0xF2 ∨ spsp ≠ 0 then u.complete c cid .invalidField
    else match u.host.spdm.find? fun e => decide (e.1 = a) with
      | some (_, r) => (u.setHost { u.host with spdm := u.host.spdm.filter fun e => decide (e.1 ≠ a) }).complete c cid .ok 0 r
      | none => u.complete c cid .ok)

/-! The domain (R506, R507, R512-R515) -/

/-- TE holds a DRK of a domain (R513-R515): registers, RDY.DOMAIN, both key store copies written. -/
def State.joinDomain (s : State) (drk domain : Nat) : State :=
  let k := Config.kcv drk
  let t := s.setTe { s.te with drk := some drk, copies := (true, true) }
  let t := (t.setPair tePage TE.DOMAIN_ID_LO TE.DOMAIN_ID_HI domain).setPair tePage TE.DRK_KCV_LO TE.DRK_KCV_HI k
  let t := ((t.setFlag tePage TE.TE_STAT_ENROLLED true).setFlag tePage TE.TE_STAT_DRK_OK true).setFlag tePage TE.TE_STAT_STORE_OK true
  let t := (t.setFlag chipPage CHIP.DOMAIN_ENROLLED true).setRdy RDY.DOMAIN true
  (t.istat tePage 9).event tePage 0x8101 2

/-- TE zeroises the domain material (R513, R532). -/
def State.zeroise (s : State) : State :=
  let x := s.te
  let t := s.setTe { x with drk := none, ens := [], nk := [], psks := [], slots := [], enrol := none, others := [] }
  -- without K_T no frame passes its tag either way
  let t : State := { t with tw := { t.tw with kt := 0, hello := none } }
  let t := (t.setPair tePage TE.DOMAIN_ID_LO TE.DOMAIN_ID_HI 0).setPair tePage TE.DRK_KCV_LO TE.DRK_KCV_HI 0
  let t := ((t.setFlag tePage TE.TE_STAT_ENROLLED false).setFlag tePage TE.TE_STAT_DRK_OK false).setFlag tePage TE.TE_STAT_TWIN_KEY false
  let t := (t.setFlag chipPage CHIP.DOMAIN_ENROLLED false).setRdy RDY.DOMAIN false
  let t := (t.setFld mediacryptPage MEDIACRYPT.SLOTS_USED 0).setFld tlsPage TLS.PSK_CNT 0
  (t.keysShow).istat tePage 9

/-- The digest words of a pin or an anchor as bytes. -/
def State.pinBytes (s : State) (f : Fld) (n : Nat) : List Nat := (List.range n).flatMap fun i => bytesLE 4 (s.fld tePage f i)

/-- Whether a write of TRUST_CMD is refused with CLASS 8 (R512, R535). -/
def State.trustRefused (s : State) (v : Nat) : Bool :=
  if v = 0x4C4B then decide (s.fld tePage TE.PIN_VALID = 0)
  else if v = 0x4443 then !s.flag chipPage CHIP.ROLE
  else decide (v ≠ 0x5356 ∧ v ≠ 0x4C56)

/-- TRUST_RESULT. -/
def State.trustResult (s : State) (n : Nat) : State := s.setFld tePage TE.TRUST_RESULT n

/-- Trust lock (R512). -/
def State.trustLock (s : State) : State :=
  let t := (s.setFlag chipPage CHIP.TRUST_LOCKED true).setFlag tePage TE.TE_STAT_OPEN false
  (((t.istat tePage 9).event tePage 0x8106 7).trustResult 0).jtagLock

/-- Blow fuses up to the SVN of the running image (R530). -/
def State.svnCommit (s : State) : State :=
  (s.setFld tePage TE.SVN_FUSE (max s.svnFuse (s.fld tePage TE.SVN_RUNNING))).trustResult 0

/-- A new domain (R515, R535). -/
def State.domainCreate (s : State) : State :=
  if s.flag tePage TE.TE_STAT_ENROLLED then s.trustResult 3
  else if !s.te.healthOk then s.trustResult 4
  else
    let (d, t) := s.random 32
    let (i, t) := t.random 8
    (t.joinDomain d i).trustResult 0

/-- ENTROPY_HEALTH_FAIL (R506). -/
def execEntropyHealthFail (s : State) : Res :=
  let t := (s.setTe { s.te with healthOk := false }).setFlag tePage TE.TE_STAT_DRBG_OK false
  done ((t.istat tePage 11).event tePage 0x810B 5)

/-- DRBG_RESEED (R506). -/
def execDrbgReseed (s : State) : Res := done (if 2 ^ 20 ≤ s.te.requests then s.setTe { s.te with requests := 0 } else s)

/-! The mailbox (R513, R518, R523, R527, R535) -/

/-- The outcome of a message: RESULT, and what MBOX_OUT holds. -/
def State.mboxEnd (s : State) (result : Nat) (out : List Nat) : State :=
  let ws := wordsLE out
  let t := s.forEach (List.range 256) fun u i => u.setFld tePage TE.MBOX_OUT (ws.getD i 0) i
  ((t.setFld tePage TE.MBOX_CTRL_RESULT result).setFld tePage TE.MBOX_CTRL_LEN_OUT out.length).istat tePage 8

/-- A refused message: 0x8102. -/
def State.mboxRefused (s : State) : State := (s.event tePage 0x8102 7).mboxEnd 2 []

/-- The SHA-384 of the measurement blocks (R513). -/
def State.measDigest (s : State) : List Nat := Config.sha384 ((List.range 5).flatMap fun i => s.measurement (i + 1))

/-- ENROL_OFFER (R513). -/
def State.mboxOffer (s : State) (peer b : List Nat) : State :=
  if b.length ≠ 233 then s.mboxEnd 1 []
  else
    let domain := ofBytesBE (b.take 8)
    let pins := (List.range 2).filter fun n => s.fldBit tePage TE.PIN_VALID n
    let pin (n : Nat) : List Nat := s.pinBytes (if n = 0 then TE.MGR_PIN0 else TE.MGR_PIN1) 12
    let signed := pins.any fun n => decide (pin n = peer) && Config.verify (Config.keyOfDigest (pin n)) (b.take 137) (b.drop 137)
    if !signed ∨ !s.te.healthOk ∨ (s.flag tePage TE.TE_STAT_ENROLLED ∧ s.domainId ≠ domain) then
      State.mboxRefused (s.setTe { s.te with enrol := none })
    else
      let (nw, t) := s.random 32
      let (priv, t) := t.random 48
      let nonceM := (b.drop 8).take 32
      let ephM := (b.drop 40).take 97
      let nonceW := bytesBE 32 nw
      let ephW := Config.publicKey priv
      let meas := t.measDigest
      let sig := Config.sign Config.identityKey (nonceM ++ nonceW ++ ephM ++ ephW ++ meas)
      let t := t.setTe { t.te with enrol := some { domain := domain, mgr := 0, nonceM := nonceM, nonceW := nonceW, ephM := ephM, priv := priv, since := t.now } }
      t.mboxEnd 0 (mboxMsg 2 (nonceW ++ ephW ++ meas ++ sig))

/-- DRK_WRAP (R513). -/
def State.mboxWrap (s : State) (b : List Nat) : State :=
  match s.te.enrol with
  | none => s.mboxEnd 3 []
  | some e =>
    let t := s.setTe { s.te with enrol := none }
    if b.length ≠ 56 then t.mboxEnd 1 []
    else
      let k := Config.hkdf (Config.ecdh e.priv e.ephM) (e.nonceM ++ e.nonceW) (ascii "PLOMBISAR-ENROL")
      match Config.keyUnwrap k ((b.drop 8).take 40) with
      | some drk =>
        if ofBytesBE (b.take 8) = e.domain ∧ Config.kcv drk = ofBytesBE (b.drop 48) then
          let body := b.drop 48
          (t.joinDomain drk e.domain).mboxEnd 0 (mboxMsg 4 (body ++ Config.hmac k (body ++ b.take 8)))
        else t.mboxRefused
      | none => t.mboxRefused

/-- PSK_ADD (R527). -/
def State.mboxPsk (s : State) (b : List Nat) : State :=
  let id := ofBytesLE (b.take 32)
  let hash := b.getD 32 0
  if b.length ≠ 92 ∨ (hash ≠ 1 ∧ hash ≠ 2) then s.mboxEnd 1 []
  else match s.te.drk with
    | none => s.mboxRefused
    | some d =>
      if (Config.keyUnwrap d (b.drop 36)).isNone then s.mboxRefused
      else
        let rest := s.te.psks.filter fun e => decide (e.1 ≠ id)
        if 256 ≤ rest.length then s.mboxEnd 4 []
        else
          let t := s.setTe { s.te with psks := rest ++ [(id, hash, b.drop 36)] }
          let t := t.setFld tlsPage TLS.PSK_CNT t.te.psks.length
          (t.tSend clsControl (.forward (.psk (b.take 36) (b.drop 36)))).mboxEnd 0 []

/-- PSK_DEL (R527). -/
def State.mboxPskDel (s : State) (b : List Nat) : State :=
  if b.length ≠ 32 then s.mboxEnd 1 []
  else
    let t := s.setTe { s.te with psks := s.te.psks.filter fun e => decide (e.1 ≠ ofBytesLE b) }
    let t := t.setFld tlsPage TLS.PSK_CNT t.te.psks.length
    (t.tSend clsControl (.forward (.pskDel b))).mboxEnd 0 []

/-- A namespace's keys from their wrapped copies (R515, R516, R518). -/
def State.restoreKeys (s : State) (ns keyId : Nat) (we wn : List Nat) : Option State :=
  match s.te.drk with
  | none => none
  | some d => match Config.keyUnwrap d we with
    | none => none
    | some e =>
      let t := s.setTe { s.te with ens := storePut (fun _ => none) s.te.ens ns (some e) }
      match Config.keyUnwrap ((t.kek ns).getD 0) wn with
      | none => none
      | some nk =>
        let x := t.te
        let t := t.setTe { x with nk := storePut (fun _ => none) x.nk ns (some nk), keyIds := storePut (fun _ => 0) x.keyIds ns keyId }
        some (match t.nsp ns with
          | some n => (t.setNsp ns (some { n with keyRaised := false })).keysShow
          | none => t.keysShow)

/-- NSKEY_RESTORE (R518): keys of a namespace of this shelf; on a manager, copies held for another shelf. -/
def State.mboxRestore (s : State) (b : List Nat) : State :=
  let ns := ofBytesLE (b.take 4)
  let keyId := ofBytesLE ((b.drop 4).take 4)
  if b.length ≠ 88 ∨ ns = 0 ∨ 64 < ns then s.mboxEnd 1 []
  else if s.flag chipPage CHIP.ROLE ∧ (s.nsp ns).isNone then
    let rest := s.te.others.filter fun e => !(decide (e.1 = ns) && decide (e.2.1 = keyId))
    (s.setTe { s.te with others := rest ++ [(ns, keyId, (b.drop 8).take 40, b.drop 48)] }).mboxEnd 0 []
  else match s.restoreKeys ns keyId ((b.drop 8).take 40) (b.drop 48) with
    | some t =>
      -- the manager's copy of a create's keys, come back, acknowledges it (log entry 45)
      (if keyId = storeFind (fun _ => 0) s.te.keyIds ns then t.createAcked ns else t).mboxEnd 0 []
    | none => s.mboxEnd 2 []

/-- ERASE_CONFIRM (R523; log entry 45): a manager destroys its copies; at the controller that asked, its
return confirms the erase. -/
def State.mboxErase (s : State) (b : List Nat) : State :=
  let ns := ofBytesLE (b.take 4)
  if b.length ≠ 8 then s.mboxEnd 1 []
  else
    let keyId := ofBytesLE (b.drop 4)
    let t := s.setTe { s.te with others := s.te.others.filter fun e => !(decide (e.1 = ns) && decide (e.2.1 = keyId))
                                 erase := s.te.erase.filter fun e => !(decide (e.ns = ns) && decide (e.keyId = keyId)) }
    t.erasePend.mboxEnd 0 []

/-- The mailbox processes MBOX_IN (R535). -/
def State.mboxGo (s : State) (peer : List Nat) : State :=
  let bytes := (List.range 256).flatMap fun i => bytesLE 4 (s.fld tePage TE.MBOX_IN i)
  let len := ofBytesLE ((bytes.drop 2).take 2)
  let body := (bytes.drop 4).take len
  if 1020 < len then s.mboxEnd 1 []
  else match ofBytesLE (bytes.take 2) with
    | 0x0001 => s.mboxOffer peer body
    | 0x0003 => s.mboxWrap body
    | 0x0010 => s.mboxPsk body
    | 0x0011 => s.mboxPskDel body
    | 0x0020 => s.mboxRestore body
    | 0x0021 => s.mboxErase body
    | _ => s.mboxEnd 1 []

/-- ENROL_TIMEOUT (R513): an enrolment that is not completed within 10 s goes, with its ephemeral keys. -/
def execEnrolTimeout (s : State) : Res :=
  match s.te.enrol with
  | some e => done (if e.since + 10000000000 ≤ s.now then s.setTe { s.te with enrol := none } else s)
  | none => done s

/-- ERASE_CONFIRM_RETRY (R523): every 10 s the manager is asked again; 0x810C once after 60 s. -/
def execEraseConfirmRetry (s : State) : Res :=
  let again (e : EraseAsk) : Bool := decide (e.last + 10000000000 ≤ s.now)
  let late (e : EraseAsk) : Bool := again e && !e.raised && decide (e.first + 60000000000 ≤ s.now)
  let asks := s.te.erase.map fun e => if again e then { e with last := s.now, raised := e.raised || late e } else e
  let t := s.setTe { s.te with erase := asks }
  let t := t.forEach (s.te.erase.filter again) fun u e => u.askErase e.ns e.keyId
  done (t.forEach (s.te.erase.filter late) fun u e => u.event tePage 0x810C 4 0xFF e.ns)

/-! Media crypto (R519-R522, R536) -/

/-- LOAD_KEY_DERIVED (R519): into a slot; with none free the least recently used is replaced. -/
def execLoadKeyDerived (ns load : Nat) (s : State) : Res :=
  if (s.loadKey ns load).isNone then done (s.keyMissing ns)
  else
    let rest := s.te.slots.filter fun e => decide (e ≠ (ns, load))
    done (s.setSlots (rest.drop (rest.length - 255) ++ [(ns, load)]))

/-- KEY_FLUSH clears every slot (R536). -/
def State.keyFlush (s : State) : State := s.setSlots []

/-- A media-crypto engine fails (R48, R522, R536): the idle one takes its place; with none left the chip is
fatal. -/
def State.engineFail (s : State) (i : Nat) : State :=
  let b := mediacryptPage
  if !s.fldBit b MEDIACRYPT.MX_STAT_ENGINE_MAP i then s
  else
    let t := (s.setFldBit b MEDIACRYPT.MX_STAT_ENGINE_MAP i false).setFldBit b MEDIACRYPT.MX_STAT_ENGINE_FAILED i true
    let spare := (List.range 5).find? fun j => !t.fldBit b MEDIACRYPT.MX_STAT_ENGINE_MAP j && !t.fldBit b MEDIACRYPT.MX_STAT_ENGINE_FAILED j
    let t := match spare with
      | some j => (((t.setFldBit b MEDIACRYPT.MX_STAT_ENGINE_MAP j true).useSpare b).istat b 8).event b 0x4301 (if s.fld b HDR.SPARES_LEFT = 1 then 3 else 2) i
      | none => (t.worsen b HDR.DEGRADED).passUp 4 2 i false
    let n := popCount 5 (t.fld b MEDIACRYPT.MX_STAT_ENGINE_MAP)
    let t := t.setFld b MEDIACRYPT.MX_STAT_ENGINES n
    if n = 0 then ((t.setReady b false).event b 0x4303 6).fatal 0x4303 else t

/-- ENCRYPT_BLOCK (R520, R522): the next data member of a stripe, once its load key is in a slot. An engine
whose output does not compare is replaced, and the block is encrypted again. -/
def execEncryptBlock (lane : LaneOf) (zone : ZoneIx) (stripe : Nat) (engine : Fin 5) (checkOk : Bool) (s : State) : Res :=
  let k := 300 * lane.val + zone.val
  let b := mediacryptPage
  match s.stripe k stripe with
  | none => done s
  | some x =>
    let e := ((s.zone k).ns, s.load.id)
    if x.plain.isEmpty ∨ s.flag b HDR.ISOLATE ∨ !s.fldBit b MEDIACRYPT.MX_STAT_ENGINE_MAP engine.val then done s
    else match s.loadKey e.1 e.2 with
      | none => done (s.keyMissing e.1)
      | some key =>
        if !s.te.slots.contains e then done (s.count b MEDIACRYPT.KEY_MISS)
        else if checkOk then done (((s.touchSlot e).encryptMember x key).count b MEDIACRYPT.ENC_BLOCKS)
        else done ((s.count b MEDIACRYPT.SELFCHK_FAIL).engineFail engine.val)

/-! Zone seals (R524-R526) -/

/-- The 480 bytes of a seal. -/
def State.sealBytes (s : State) (n : NsSt) (k : Nat) (content : List Nat) (resealed : Bool) : List Nat :=
  let z := s.zone k
  let top := bytesBE 4 0x5345414C ++ [1, n.lbaf, boolNat resealed, 0] ++ bytesBE 4 z.ns ++ bytesBE 4 z.gen ++
    bytesBE 8 (((n.zoneOf s.load.id k).getD 0) * zsze) ++ bytesBE 8 z.wp ++ bytesBE 4 z.pad ++ [0, 0, 0, 0] ++ bytesBE 8 s.utc ++
    bytesBE 8 s.load.id ++ Config.sha384 Config.identityCert ++ content
  top ++ Config.sign Config.identityKey top ++ List.replicate 232 0

/-- ZONE_SEAL (R524-R526): of a finished zone, once every stripe is confirmed; without a current digest its
content is what the writer has read back. -/
def execZoneSeal (lane : LaneOf) (zone : ZoneIx) (readBack : List Nat) (s : State) : Res :=
  let k := 300 * lane.val + zone.val
  let z := s.zone k
  match s.nsp z.ns with
  | none => done s
  | some n =>
    let nz := (n.zoneOf s.load.id k).getD 0
    let lost := z.sealed && !s.host.seals.any fun e => decide (e.1 = z.ns) && decide (e.2.1 = nz)
    if z.state ≠ 4 ∨ !z.allConfirmed ∨ (z.sealed ∧ !lost) ∨ !s.zoneWriter k then done s
    else
      let content := Config.sha384 (if z.digestOk ∧ !lost then z.digest else readBack)
      let bytes := s.sealBytes n k content lost
      let t := s.setZone k { z with sealed := true, finish := false, digest := [] }
      let t := t.setHost { t.host with seals := t.host.seals ++ [(z.ns, nz, bytes)] }
      let t := ((t.count tePage TE.SEAL_CNT).event tePage 0x8105 1 0xFF z.ns).zoneRecord k
      done (t.tSend clsControl (.forward (.seal z.ns nz bytes))).hostProgress

/-! Debug unlock (R531, R532) -/

/-- DEBUG_CHALLENGE_READ (R532): the challenge, a JTAG data register, stays valid until the next PORST_N. -/
def execDebugChallengeRead (s : State) : Res :=
  let (n, t) := s.random 32
  let ch := bytesBE 32 n ++ bytesBE 8 s.serial ++ [s.svnFuse, s.trustState] ++ List.replicate 22 0
  let t := match s.te.challenge with
    | some _ => s
    | none => t.setTe { t.te with challenge := some ch }
  done ((t.jtagSelect .challenge).send (.challenge (t.te.challenge.getD [])))

/-- A signature over the challenge by the Waenvik debug key or the pinned domain debug key. -/
def State.unlockSigned (s : State) (sig : List Nat) : Bool :=
  match s.te.challenge with
  | none => false
  | some ch =>
    let pin := s.pinBytes TE.DBG_PIN 12
    Config.verify Config.debugKey ch sig || (pin.any (fun b => decide (b ≠ 0)) && Config.verify (Config.keyOfDigest pin) ch sig)

/-- Steps 4 and 5 of an unlock (R532). -/
def State.unlockNow (s : State) : State :=
  let t := State.zeroise (s.setTe { s.te with unlocking := none })
  let t := t.forEach (List.range 16) fun u n =>
    let u := [TE.ROLE_ANCHOR_DIGEST0, TE.ROLE_ANCHOR_DIGEST1, TE.ROLE_ANCHOR_DIGEST2, TE.ROLE_ANCHOR_DIGEST3, TE.ROLE_ANCHOR_DIGEST4,
      TE.ROLE_ANCHOR_DIGEST5, TE.ROLE_ANCHOR_DIGEST6, TE.ROLE_ANCHOR_DIGEST7, TE.ROLE_ANCHOR_DIGEST8, TE.ROLE_ANCHOR_DIGEST9,
      TE.ROLE_ANCHOR_DIGEST10, TE.ROLE_ANCHOR_DIGEST11].foldl (fun (v : State) f => v.setFld tePage f 0 n) u
    (u.setFld tePage TE.ROLE_ANCHOR_ROLE 0 n).setFlag tePage TE.ROLE_ANCHOR_VALID false n
  let t := (t.setFlag chipPage CHIP.TRUST_LOCKED false).setFlag tePage TE.TE_STAT_OPEN true
  ((t.setFlag chipPage CHIP.DEBUG_UNLOCKED true).istat tePage 9).event tePage 0x8107 7

end Sys2Proof.Machine
end

