-- ==== Sys2Proof/Machine/Twin.lean ====
section
/-!
DEFINITION. The twin engine: tokens, pairing, takeover, withdrawal, planned handover (R537-R549, R552).
-/
namespace Sys2Proof.Machine

/-- Change the twin engine's state. -/
def State.setTw (s : State) (x : TwSt) : State := { s with tw := x }

/-! Tokens (R537) -/

/-- Tokens of the elevator's wheel, the loader and the manager role. -/
def tokKick : Nat := 41
def tokLoader : Nat := 42
def tokManager : Nat := 43

/-- Epoch e1 is newer than e2. -/
def newer (e1 e2 : Nat) : Bool := let d := (e1 + 256 - e2 % 256) % 256; decide (1 ≤ d ∧ d ≤ 127)

/-- Pages of a token's object (R54). A head's token moves the companion; HEAD and BAND pages have objects of their own
(R168, R217). -/
def tokenPages (n : Nat) : List Nat :=
  if n < 33 then []
  else if n < 42 then wheelPage (n - 33) :: (if n = 41 then [kickPage] else [])
  else if n = 42 then [loaderPage] else []

/-- Set an entry of the token table: OWNED, TW_STAT.EPOCH and the pages' owner bits follow. -/
def State.setToken (s : State) (n owner epoch : Nat) : State :=
  let e := epoch % 256
  let t := s.setTw { s.tw with table := listSet s.tw.table n (owner, e) }
  let t := t.setPairBit twPage TW.OWNED_LO TW.OWNED_HI n (decide (owner = t.side))
  let best := t.tw.table.foldl (fun m x => if x.1 ≠ 255 ∧ newer x.2 m then x.2 else m) e
  let t := t.setFld twPage TW.TW_STAT_EPOCH best
  let t := t.forEach (tokenPages n) fun u p =>
    (u.setFlag p HDR.OWN_SELF (decide (owner = u.side))).setFlag p HDR.OWN_TWIN (decide (owner = 1 - u.side))
  -- a new epoch shows in the trailers of the head (R139)
  if n < 33 ∧ (s.token n).2 ≠ e then t.sendFill n else t

/-- The side that TW.SPLIT names for a token. -/
def State.splitSide (s : State) (n : Nat) : Nat := boolNat (s.pairBit twPage TW.SPLIT_LO TW.SPLIT_HI n)

/-- Axes that go with a token. -/
def tokenAxes (n : Nat) : List Nat :=
  if n < 33 then [n] else if n = 41 then [axElv] else if n = 42 then [axX, axZ, axG, axP] else []

/-- The manager role moves (R553). -/
def State.managerRole (s : State) (b : Bool) : State :=
  if s.flag hyPage HY.HY_STAT_ACTIVE_MGR = b then s
  else ((s.setFlag hyPage HY.HY_STAT_ACTIVE_MGR b).istat hyPage 12).event hyPage 0x8506 3

/-- What this side drives once it holds a token, without a planned release (R537, R350, R546): OWN = 1 on a
head, SPw_OWN and a start from the shadow or by measuring, LD_OWN. Before CE_LOADED a wheel is only owned
(R563). -/
def State.grantToken (s : State) (n : Nat) : State :=
  let t := s.forEach (tokenAxes n) fun u a => u.axOwnership a true (decide (n < 33))
  if n < 33 then t.setOwnTx n true
  else if n < 42 then
    let w := n - 33
    if t.flag (wheelPage w) WHEEL.WH_STAT_OWN_OUT then t
    else if t.flag rdyPage RDY.CE_LOADED then t.unplannedWheelTake w else t.assertOwn w
  else if n = 42 then t.setFlag loaderPage LOADER.LD_STAT_OWN_OUT true
  else t.managerRole true

/-- This side stops driving a token's object and leaves its slots off (R545, R552). -/
def State.dropToken (s : State) (n : Nat) : State :=
  let t := s.forEach (tokenAxes n) fun u a => u.axOwnership a false false
  if n < 33 then
    (((t.setOwnTx n false).fireOwnerLost n).seqOwnerLost n).headModes n modeOff
  else if n < 42 then
    let w := n - 33
    let b := wheelPage w
    let t := ((t.setFlag b WHEEL.WH_STAT_OWN_OUT false).setFlag b WHEEL.WH_STAT_REL_OUT false).clearAtSpeed w
    let t := t.setWheel w { t.wheel w with release := false, armed := false, episode := false, shadowRun := 0, shadowEmpty := 0, shadowLast := none }
    t.setWhState w whShadow
  else if n = 42 then t.setFlag loaderPage LOADER.LD_STAT_OWN_OUT false
  else t.managerRole false

/-! Sides and pairing (R540, R542) -/

/-- The pair ends: what belonged to it goes; the boot number rises before the next attempt (R540). -/
def State.unpair (s : State) : State :=
  let pages := s.tw.ho.flatMap fun x => tokenPages x.tok
  let t := s.forEach pages fun u p => u.setFlag p HDR.XFER_PENDING false
  let t := match s.tw.ho with
    | x :: _ => if x.release then (t.setFld twPage TW.HO_RESULT_TOKEN x.tok).setFld twPage TW.HO_RESULT_CODE 2 else t
    | [] => t
  let t := t.setTw { t.tw with hello := none, authIn := false, authOut := false, kt := 0, seq := 0, msnTx := [], msnRx := [], unacked := [],
                               acked := 0, twin := none, ho := [], hoQueue := [], moves := [], partials := [] }
  let t := { t with fire := { t.fire with ready := t.fire.ready.filter fun (r : ReadySet) => decide (r.kind ≠ FireKind.forTwin) } }
  let t := t.setFld twPage TW.BOOT (t.fld twPage TW.BOOT + 1)
  let t := (t.setFlag tePage TE.TE_STAT_TWIN_KEY false).setRdy RDY.TWIN_PAIRED false
  ((t.setJr { t.jr with unacked := [] }).mirrorShow).refreshLanes

/-- This controller's token table as it is sent (R638). -/
def State.tokenBytes (s : State) : List (Nat × Nat) := s.tw.table

/-- The HELLO of this side (R541). -/
def State.helloBody (s : State) : HelloBody :=
  { serial := s.serial, domain := s.domainId, kcv := s.pair tePage TE.DRK_KCV_LO TE.DRK_KCV_HI, side := s.side,
    role := s.fld chipPage CHIP.ROLE, shelf := s.fld chipPage CHIP.SHELF_ID, split := s.pair twPage TW.SPLIT_LO TW.SPLIT_HI,
    tokens := s.tokenBytes }

/-- The owner and epoch of a token that two tables give (R539, R552), and whether they disagree: an owner that
only one table names stands; of two, the newer epoch, or on equal epochs the SPLIT owner, raised by 1. -/
def State.mergeToken (s : State) (n : Nat) (mine twins : Nat × Nat) : (Nat × Nat) × Bool :=
  if mine.1 = 255 ∧ twins.1 = 255 then ((s.splitSide n, 0), false)
  else if twins.1 = 255 then (mine, false)
  else if mine.1 = 255 then (twins, false)
  else if mine.1 = twins.1 then ((mine.1, if newer twins.2 mine.2 then twins.2 else mine.2), false)
  else
    let w := if newer mine.2 twins.2 then mine else if newer twins.2 mine.2 then twins
      else (if mine.1 = s.splitSide n then mine else twins)
    ((w.1, w.2 + 1), true)

/-- A conflict has been resolved (R552). -/
def State.conflictDone (s : State) (n : Nat) : State :=
  let t := s.setTw { s.tw with pendingConflict := s.tw.pendingConflict.filter fun x => x != n }
  ((t.count twPage TW.CONFLICTS).istat twPage 12).event twPage 0x8407 4 0xFF n

/-- An entry as pairing leaves it. -/
def State.pairToken (s : State) (twins : List (Nat × Nat)) (n : Nat) : State :=
  if n = tokManager ∧ !s.flag chipPage CHIP.ROLE then s
  else
    let mine := s.token n
    let (e, clash) := s.mergeToken n mine (twins.getD n (255, 0))
    let t := s.setToken n e.1 e.2
    let t := if e.1 = t.side ∧ mine.1 ≠ t.side then t.grantToken n
      else if e.1 ≠ t.side ∧ mine.1 = t.side then t.dropToken n else t
    if clash then t.conflictDone n else t

/-- The subsystem NQN of a pair whose lower serial is `serial` (R466), zero-padded. -/
def nqnOf (serial : Nat) : List Nat :=
  let hex (n : Nat) : Nat := if n < 10 then 48 + n else 87 + n
  let t := ascii "nqn.2029-04.com.waenvik:hl6633:" ++ (List.range 16).map fun i => hex (serial / 16 ^ (15 - i) % 16)
  t ++ List.replicate (256 - t.length) 0

def State.setNqn (s : State) (serial : Nat) : State :=
  s.forEach (wordsLE (nqnOf serial)).zipIdx fun u (w, i) => u.setFld nvmePage NVME.SUBNQN w i

/-- The two controllers of a pair hold the same NQN: one that still stands as at bring-up takes the lower
serial's. -/
def State.pairNqn (s : State) (twins : Nat) : State :=
  if (wordsLE (nqnOf s.serial)).zipIdx.all fun (w, i) => decide (s.fld nvmePage NVME.SUBNQN i = w) then s.setNqn (min s.serial twins) else s

/-- The pair is formed (R539, R542). -/
def State.pairUp (s : State) (b : HelloBody) : State :=
  let s := s.pairNqn b.serial
  let t := s.setTwState 2
  let t := t.setTw { t.tw with everPaired := true, msnTx := [], msnRx := [], unacked := [], acked := 0, lastSign := t.now, lastFrame := t.now, taking := false, takenHeads := [] }
  let differs := decide (b.split ≠ t.pair twPage TW.SPLIT_LO TW.SPLIT_HI)
  let t := if differs then (if t.side = 1 then t.setPair twPage TW.SPLIT_LO TW.SPLIT_HI b.split else t).event twPage 0x8409 3 else t
  let t := t.forEach (List.range 44) fun u n => u.pairToken b.tokens n
  let t := (t.setRdy RDY.TWIN_PAIRED true).setFlag twPage TW.TW_STAT_T_ALIVE true
  ((t.istat twPage 8).event twPage 0x8401 1).mirrorShow.refreshLanes

/-- Both HELLO_AUTHs have been accepted: the pair is formed. -/
def State.tryPair (s : State) : State :=
  match s.tw.hello with
  | some b => if s.tw.authIn && s.tw.authOut then s.pairUp b else s
  | none => s

/-! Taking over (R546) -/

/-- A stripe's settings on heads taken from the lost twin, which it did not report as fired, are fired from
here (R551, R399). -/
def State.reReady (s : State) (heads : List Nat) : State :=
  let firsts := (s.st.stripes.map fun x => (x.zone, x.stripe / 4 * 4)).eraseDups
  s.forEach firsts fun u (k, first) => u.forEach (List.range 8) fun v pos =>
    match v.memberHead (k / 300) pos, v.settingBlocks k first pos, v.stripe k first with
    | some h, some bs, some x =>
      let sa := zoneSa k first
      if !heads.contains h || !bitOf x.expect pos || bitOf x.fired pos || v.fire.ready.any (fun r => decide (r.head = h) && decide (r.sa = sa)) then v
      else { v with fire := { v.fire with ready := v.fire.ready ++ [{ head := h, sa := sa, kind := .data k, blocks := bs }] } }
    | _, _, _ => v

/-- This side takes tokens with their epochs raised (R537, R546). -/
def State.takeTokens (s : State) (ns : List Nat) : State :=
  s.forEach ns fun u n => (u.setToken n u.side ((u.token n).2 + 1)).grantToken n

/-- This side becomes zone writer of every namespace; those that were the lost side's are replayed from the
mirror area (R398, R546). -/
def State.takeWriters (s : State) : State :=
  let all := s.host.nss.map fun e => e.1
  let lost := all.filter fun n => !s.tw.writers.contains n
  let t := s.setTw { s.tw with writers := all }
  let t := t.forEach all fun u n => u.setAna n 1
  if lost.isEmpty ∨ !t.load.mounted then t else (t.startReplay fun n => lost.contains n).replayOver

/-- The twin is absent (R546): firing runs end, its tokens are taken, 0x8402. -/
def State.takeover (s : State) : State :=
  let t := s.forEach [0, 1] fun u g => if 1 ≤ (u.run g).phase ∧ (u.run g).phase ≤ 2 then u.endRun g else u
  let lost := (List.range 44).filter fun n => !t.tokenMine n && (decide (n ≠ tokManager) || t.flag chipPage CHIP.ROLE)
  let t := (t.unpair).setTwState 3
  let t := t.setTw { t.tw with declared := t.now, taking := true, takenHeads := lost }
  let t := ((t.count twPage TW.TAKEOVERS).istat twPage 9).event twPage 0x8402 5
  let t := (t.takeTokens lost).takeWriters
  t.reReady (lost.filter fun n => decide (n < 33))

/-- A taken token is in use: its head locked, its wheel running again at 9,000 rpm (R546). -/
def State.takenStep (s : State) (n : Nat) : State :=
  let past (u : State) : State := u.setTw { u.tw with takenHeads := u.tw.takenHeads.filter fun x => x != n }
  if n < 33 then
    if s.seqState n = sqLocked ∨ s.seqState n = sqFault then past s
    else if s.headObeys n ∧ (s.seq n).op = 0 ∧ s.seqState n = sqParked then s.seqCmd n 1 (s.seqLayer n + 16 * s.seqBand n)
    else s
  else if n < 42 then
    let w := n - 33
    if s.whState w = whRunning then past ((s.setFld (wheelPage w) WHEEL.SPD_CMD 9000).spdWritten w)
    else if s.whState w = whRest ∨ s.whState w = whFault then past s else s
  else past s

/-- What follows a takeover (R546, R561): the taken heads acquire, LAST_TO, 0x8403 once every lane accepts
I/O, 0x840A past t_STALL. -/
def State.takeoverGo (s : State) : State :=
    let heads (u : State) : Bool := u.tw.takenHeads.any fun n => decide (n < 33)
    let t := s.forEach s.tw.takenHeads State.takenStep
    if !s.tw.taking then t else
    let t := if heads s && !heads t then t.setFld twPage TW.LAST_TO_FOCUS (min 0xFFFF ((t.now - t.tw.declared) / 1000000)) else t
    if heads t || (t.load.mounted && decide (t.fld rdyPage RDY.LANE_IO ≠ 15)) then t
    else
      let ms := (t.now - t.tw.lastSign) / 1000000
      let t := (t.setTw { t.tw with taking := false }).setFld twPage TW.LAST_TO_STALL (min 0xFFFF ms)
      let t := (t.istat twPage 10).event twPage 0x8403 3
      if 250 < ms then t.event twPage 0x840A 4 else t

/-! Withdrawal (R545) -/

/-- Unacknowledged writes are discarded with everything staged here: the other side holds what was
acknowledged. -/
def State.discardWrites (s : State) : State :=
  let t := s.forEach s.st.zones fun u (k, _) => u.dropZoneSettings k
  let t := t.forEach t.st.zones fun u (k, z) => u.setZone k { z with staged := [], unmirrored := [] }
  (t.setJr { t.jr with waiting := [] }).stgShow

/-- Commands in flight complete with Asymmetric Access Transition; Asynchronous Event Requests stay. -/
def State.endIo (s : State) : State :=
  s.forEach (s.host.ctxs.filter fun x => match x.work with
    | .held _ _ | .write _ _ _ _ _ _ _ _ | .durable _ _ _ _ _ _ | .read _ _ _ _ | .flush _ | .finish _ => true
    | _ => false) fun u x => u.complete x.conn x.cid .anaTransition

/-- Side A withdraws from everything (R545). -/
def State.withdraw (s : State) : State :=
  let t := s.forEach (List.range 33) fun u h => if u.headFires h then u.stopImmediate h else u
  let mine := (List.range 44).filter fun n => t.tokenMine n
  let t := t.forEach mine fun u n => (u.dropToken n).setToken n 255 (u.token n).2
  let t := t.forEach (t.host.nss.map fun e => e.1) fun u n => u.setAna n 3
  let t := (t.endIo.dropReleased).discardWrites
  let t := (t.unpair).setTwState 5
  let t := t.setTw { t.tw with hbOut := false, writers := [], taking := false, takenHeads := [] }
  (t.istat twPage 13).event twPage 0x8406 5

/-! Planned handover (R547-R549) -/

/-- HO_RESULT. -/
def State.hoResult (s : State) (n code : Nat) : State := (s.setFld twPage TW.HO_RESULT_TOKEN n).setFld twPage TW.HO_RESULT_CODE code

/-- XFER_PENDING of a token's pages. -/
def State.xfer (s : State) (n : Nat) (b : Bool) : State := s.forEach (tokenPages n) fun u p => u.setFlag p HDR.XFER_PENDING b

/-- Replace, add or remove a handover in progress. -/
def State.putHo (s : State) (x : Handover) : State :=
  s.setTw { s.tw with ho := s.tw.ho.filter (fun y => decide (y.tok ≠ x.tok)) ++ [x] }
def State.endHo (s : State) (n : Nat) : State :=
  (s.setTw { s.tw with ho := s.tw.ho.filter fun y => decide (y.tok ≠ n) }).xfer n false
def State.hoOf (s : State) (n : Nat) : Option Handover := s.tw.ho.find? fun y => decide (y.tok = n)

/-- Offer a token (R547): a firing head stops at its setting boundary. -/
def State.hoOffer (s : State) (n : Nat) : State :=
  let t := (s.putHo { tok := n, release := true, stage := .offered, since := s.now }).xfer n true
  let t := if n < 33 ∧ t.headFires n then t.stopBoundary n else t
  t.tSend clsToken (.tokenOffer n (t.token n).2)

/-- Offer what is next: heads, eight at once, then one object at a time. -/
def State.hoNext (s : State) : Nat → State
  | 0 => s
  | f + 1 => match s.tw.hoQueue with
    | [] => s
    | n :: r =>
      let head := decide (n < 33) && s.tw.ho.all (fun x => decide (x.tok < 33)) && decide (s.tw.ho.length < 8)
      if head || s.tw.ho.isEmpty then
        (if s.tokenMine n then (s.setTw { s.tw with hoQueue := r }).hoOffer n else s.setTw { s.tw with hoQueue := r }).hoNext f
      else s

/-- Tokens in the order of a handover (R547). -/
def hoOrder (ns : List Nat) : List Nat :=
  (ns.filter fun n => decide (n < 41)) ++ ([42, 41, 43].filter fun n => ns.contains n)

/-- Start a planned handover of tokens, and of the zone writer role of namespaces after their heads (R548). -/
def State.hoStart (s : State) (ns nss : List Nat) : State :=
  let t := s.forEach nss fun u n => u.setAna n 15
  let t := t.setTw { t.tw with hoQueue := hoOrder ns, moves := nss.map fun n => (n, 1 - t.side) }
  let t := t.setTwState 6
  t.hoNext 44

/-- Namespaces whose zone writer this side is and that a handover of tokens takes along: all of them, when no
head of W0-W7 is left here. -/
def State.hoNss (s : State) (ns : List Nat) : List Nat :=
  if (List.range 32).all (fun h => ns.contains h || !s.tokenMine h) then s.tw.writers else []

/-- The handover is over: TW_STAT, 0x8404. -/
def State.hoOver (s : State) : State :=
  if s.twState ≠ 6 ∨ !s.tw.ho.isEmpty ∨ !s.tw.hoQueue.isEmpty ∨ !s.tw.moves.isEmpty then s
  else ((s.setTwState 2).istat twPage 11).event twPage 0x8404 1

/-- The twin can take a token back (R549). -/
def State.twinTakes (s : State) (n : Nat) : Bool :=
  match s.tw.twin with
  | none => false
  | some b => decide (32 ≤ n) && (decide (n ≠ 32) || bitOf b.linkHi 0) || (decide (n < 32) && bitOf b.linkLo n)

/-- The twin reports RDY.CATALOGUE and CE_LOADED (R549): bits of RDY offset 0x040. -/
def State.twinUp (s : State) : Bool :=
  match s.tw.twin with
  | none => false
  | some b => bitOf b.rdySys RDY.CATALOGUE.lsb && bitOf b.rdySys RDY.CE_LOADED.lsb

/-- HO_CMD give (R547, R561): one token or every held one. -/
def State.hoGive (s : State) (tok : Nat) : State :=
  let ns := if tok = 0x3F then (List.range 44).filter fun n => s.tokenMine n else [tok]
  if s.twState = 6 then s.hoResult tok 1
  else if !s.paired then s.hoResult tok 2
  else if ns.any fun n => decide (44 ≤ n) || !s.tokenMine n || !s.twinTakes n then s.hoResult tok 3
  else if ns.isEmpty then s.hoResult tok 0
  else s.hoStart ns (s.hoNss ns)

/-- Objects whose SPLIT owner is the twin, and namespaces whose home side it is (R549). -/
def State.hoBack (s : State) : List Nat × List Nat :=
  ((List.range 44).filter fun n => s.tokenMine n && decide (s.splitSide n = 1 - s.side) && (decide (n ≠ tokManager) || s.flag chipPage CHIP.ROLE),
   s.tw.writers.filter fun n => match s.nsp n with
    | some x => decide (x.home = 1 - s.side)
    | none => false)

/-- HO_CMD return (R549). -/
def State.hoReturn (s : State) (tok : Nat) : State :=
  let (ns, ws) := s.hoBack
  let ns := if tok = 0x3F then ns else ns.filter fun n => decide (n = tok)
  let ws := if tok = 0x3F then ws else []
  if s.twState = 6 then s.hoResult tok 1
  else if !s.paired then s.hoResult tok 2
  else if !s.twinUp ∨ ns.any (fun n => !s.twinTakes n) then s.hoResult tok 3
  else if ns.isEmpty ∧ ws.isEmpty then s.hoResult tok 0
  else s.hoStart ns ws

/-- The record that EXPORT carries. -/
def State.exportBody (s : State) (n : Nat) : ExportBody :=
  let axes := (tokenAxes n).map fun a => (s.axPos a, s.flag (axisBlock a) AXIS.AX_STAT_HOMED)
  let cust := if n = 42 then (s.fld loaderPage LOADER.CUSTODY_KIND, s.fld loaderPage LOADER.CUSTODY_INTENT,
    s.fld loaderPage LOADER.CUSTODY_WHEEL, s.fld loaderPage LOADER.CUSTODY_STORE) else (0, 0, 0, 0)
  let w := n - 33
  let wheel := decide (33 ≤ n ∧ n < 42)
  { record := if n < 33 then s.wordsFrom (ceWindow + exportRec n) 343 else if wheel then s.wordsFrom (ceWindow + exportSpd w) 64 else [],
    axes := axes, custody := cust, spd := if wheel then s.fld (wheelPage w) WHEEL.SPD_CMD else 0,
    ref := if wheel then s.fld (wheelPage w) WHEEL.SPD_REF else 0 }

/-- Send EXPORT for a token. -/
def State.hoExport (s : State) (x : Handover) : State :=
  (s.putHo { x with stage := .exportSent }).tSend clsToken (.exported x.tok (s.token x.tok).2 (s.exportBody x.tok))

/-- A wheel is at speed or at rest. -/
def State.wheelCalm (s : State) (w : Nat) : Bool :=
  s.flag (wheelPage w) WHEEL.WH_STAT_AT_SPEED || decide (s.whState w = whRest) || decide (s.whState w = whFault) || decide (s.whState w = whOff)

/-- The releaser's next step for an object (R547). A head whose link is not up delivers no servo frame at which
EXPORT could act: its record is taken as it stands. -/
def State.hoRelease (s : State) (x : Handover) : State :=
  let n := x.tok
  match x.stage with
  | .offered =>
    if n < 33 then
      if s.headFires n ∧ (s.fireHead n).firing.isSome then s
      else if s.headObeys n then (s.seqCmd n 9 0).putHo { x with stage := .exporting }
      else (s.writeExport n).hoExport x
    else if n < 42 then
      if !s.wheelCalm (n - 33) ∨ (n = 41 ∧ s.axMoving axElv) then s else (s.writeExportSpd (n - 33)).hoExport x
    else if n = 42 then (if (tokenAxes 42).any fun a => s.axMoving a then s else s.hoExport x)
    else if s.hy.pmbus.isEmpty then s.hoExport x else s
  | .exporting => if s.seqState n = sqExported then s.hoExport x else s
  | _ => s

/-- The receiver's next step: the object obeys this side, and TOKEN_DONE says so. -/
def State.hoReceive (s : State) (x : Handover) : State :=
  let n := x.tok
  let mine := if n < 33 then s.headObeys n
    else if n < 42 then s.flag (wheelPage (n - 33)) WHEEL.WH_STAT_OWN_OUT
    else if n = 42 then s.flag loaderPage LOADER.LD_STAT_OWN_OUT else true
  if x.stage ≠ .taken ∨ !mine then s
  else
    let e := (s.token n).2
    let t := ((s.endHo n).setToken n s.side e).count twPage TW.HANDOVERS
    let t := t.setTw { t.tw with doneAt := (t.tw.doneAt.filter fun e => decide (e.1 ≠ n)) ++ [(n, t.now)] }
    (t.forEach (tokenAxes n) fun u a => u.axOwnership a true true).tSend clsToken (.tokenDone n e 0)

/-- Settings of a head that now belongs to the twin go to it as MEMBER messages (R551). -/
def State.passSettings (s : State) (h : Nat) : State :=
  let mine := s.fire.ready.filter fun r => decide (r.head = h)
  let t := { s with fire := { s.fire with ready := s.fire.ready.filter fun (r : ReadySet) => decide (r.head ≠ h) } }
  t.forEach (mine.filter fun r => decide (r.kind ≠ FireKind.forTwin)) fun u r => u.forEach r.blocks.zipIdx fun v (b, k) =>
    v.sendMember h r.sa k { pos := b.1.position, header := b.1, payload := b.2 }

/-- The releaser's end of a handover: the twin owns the object, or refused it. -/
def State.hoDone (s : State) (n result : Nat) : State :=
  let t := (s.endHo n).hoResult n result
  let t := t.setTw { t.tw with doneAt := (t.tw.doneAt.filter fun e => decide (e.1 ≠ n)) ++ [(n, t.now)] }
  let t :=
    if result = 0 then
      let u := (t.setToken n (1 - t.side) (t.token n).2).count twPage TW.HANDOVERS
      if n < 33 then
        let u := (((u.fireOwnerLost n).seqOwnerLost n).headModes n modeOff).setSeqState n sqParked
        (u.axOwnership n false true).passSettings n
      else if n = 41 then u.axOwnership axElv false true else u
    else if n < 33 then
      let u := t.seqCmd n 7 0
      u.setSeqState n (u.restState n)
    else t
  (t.hoNext 44).hoOver

/-- A handover that has not ended in the time the implementation gives it (log entry 168): the object did not come idle
(4), or the twin did not answer (6); the releaser keeps it (R561). -/
def State.hoLate (s : State) (x : Handover) : Option Nat :=
  if s.now ≤ x.since + Config.hoLimit then none
  else match x.stage with
    | .offered | .exporting => some 4
    | .exportSent => some 6
    | _ => none

/-- What a handover can do now. -/
def State.hoGo (s : State) : State :=
  (s.forEach s.tw.ho fun u x =>
    if x.release then
      match u.hoLate x with
      | some code => u.hoDone x.tok code
      | none => u.hoRelease x
    else u.hoReceive x).hoOver

/-- The releaser lets an object go (R547). -/
def State.hoSwitch (s : State) (n : Nat) : State :=
  if n < 33 then s.setOwnTx n false
  else if n < 42 then s.whCmd (n - 33) 4
  else if n = 42 then (s.forEach (tokenAxes 42) fun u a => u.axOwnership a false true).setFlag loaderPage LOADER.LD_STAT_OWN_OUT false
  else s.managerRole false

/-- An EXPORT record is imported (R319, R547): the state, and whether it could be. -/
def State.hoImport (s : State) (n : Nat) (b : ExportBody) : State × Bool :=
  if n < 33 then
    let t := s.setWords (ceWindow + exportRec n) b.record
    if !t.importOk n then (t.importHead n, false)
    else
      let t := (t.importHead n).refreshHead n
      (match b.axes with
        | (p, homed) :: _ => (t.setAxPos n p).setAxHomed n homed
        | [] => t, true)
  else if n < 42 then
    let w := n - 33
    if !s.flag (wheelPage w) WHEEL.WH_STAT_SHADOW_VALID then (s.cmdHandoverArm w, false)
    else
      let t := s.setWords (ceWindow + exportSpd w) b.record
      let sl := slotSpd w
      let t := ((t.setSlotSt sl (t.recordSt (exportSpd w))).setFld (ceSlot sl) CESLOT.LAST_OUT (t.ce32 (exportSpd w + 0xF0))).setFld (ceSlot sl)
        CESLOT.PHASE (t.ce32 (exportSpd w + 0xF4))
      let t := (t.setMode sl modeArmed).cmdHandoverArm w
      let t := t.setWheel w { t.wheel w with given := some (b.spd, b.ref * 1000) }
      (match n, b.axes with
        | 41, (p, homed) :: _ => (t.setAxPos axElv p).setAxHomed axElv homed
        | _, _ => t, true)
  else if n = 42 then
    let t := s.forEach ((tokenAxes 42).zip b.axes) fun u (a, p, homed) => (u.setAxPos a p).setAxHomed a homed
    let (kind, intent, wheel, store) := b.custody
    let t := ((t.setFld loaderPage LOADER.CUSTODY_KIND kind).setFld loaderPage LOADER.CUSTODY_INTENT intent).setFld loaderPage LOADER.CUSTODY_WHEEL wheel
    (t.setFld loaderPage LOADER.CUSTODY_STORE store, true)
  else (s.managerRole true, true)

/-! Zone writers (R548) -/

/-- Zones of a namespace continue from the mirrored staging and journal (R548). -/
def State.adoptMirror (s : State) (ns : Nat) : State :=
  let rs := newestRecords (s.jr.mirror.filter fun r => decide (r.ns = ns) && decide (r.load = s.load.id) && decide (r.ty = 2))
  let t := s.forEach rs fun u r =>
    let z := u.zone r.zone
    u.setZone r.zone { z with ns := ns, gen := r.gen, enc := max z.enc r.stripe, fired := max z.fired r.a, conf := max z.conf r.b, pad := r.c
                              mirrorAck := decide (r.flags % 2 = 1), wp := max z.wp (stripeFirstLba z.width (max z.enc r.stripe)) }
  let mine (u : State) (k : Nat) : Bool := decide ((u.zone k).ns = ns)
  let copies := t.st.mirror.filter fun e => mine t e.1
  let t := t.forEach copies fun u (k, j, b) =>
    let z := u.zone k
    u.setZone k { z with staged := storePut (fun _ => []) z.staged j b, wp := max z.wp (j + 1) }
  (t.setSt { t.st with mirror := t.st.mirror.filter fun e => !mine t e.1 }).stgShow

/-- This side becomes zone writer of a namespace (R548). -/
def State.becomeWriter (s : State) (ns : Nat) : State :=
  let t := s.setTw { s.tw with writers := (s.tw.writers.filter fun x => x != ns) ++ [ns] }
  (t.adoptMirror ns).setAna ns 1

end Sys2Proof.Machine
end

