-- ==== Sys2Proof/Machine/TwinMsg.lean ====
section
/-!
DEFINITION. The messages of port T and the twin's events (R540-R552, R638).
-/
namespace Sys2Proof.Machine

/-! Frames (R540, R541) -/

/-- A refused frame: its tag fails, or its (BOOT, SEQ) is old. -/
def State.tRefused (s : State) (tagFails : Bool) : State :=
  (s.count twPage (if tagFails then TW.T_AUTH_FAIL else TW.T_REPLAY)).event twPage 0x8408 7

/-- T_FRAME_REFUSED (R540). -/
def execTFrameRefused (tagFails : Bool) (s : State) : Res := done (s.tRefused tagFails)

/-- A frame's (BOOT, SEQ) is above the last one accepted. -/
def State.tFresh (s : State) (h : THdr) : Bool :=
  match s.tw.rx with
  | none => true
  | some (b, q) => decide (b < h.boot.toNat % 2 ^ 31) || (decide (b = h.boot.toNat % 2 ^ 31) && decide (q < h.seq))

/-- A frame is accepted. -/
def State.tTaken (s : State) (h : THdr) : State := s.setTw { s.tw with rx := some (h.boot.toNat % 2 ^ 31, h.seq) }

/-- A message whose frame is encrypted: without K_T its tag cannot pass. It keeps port T alive. A reliable
class is applied in MSN order, and duplicates are discarded. -/
def State.tMsg (s : State) (h : THdr) (cls : Nat) (f : State → State) : State :=
  if s.tw.hello.isNone then s.tRefused true
  else if !s.tFresh h then s.tRefused false
  else
    let t := (s.tTaken h).setFlag twPage TW.TW_STAT_T_ALIVE true
    let t := t.setTw { t.tw with lastSign := t.now, lastFrame := t.now }
    if !t.paired then t
    else if cls = clsNone then f t
    else if h.msn = t.msnSeen cls + 1 then f (t.setTw { t.tw with msnRx := storePut (fun _ => 0) t.tw.msnRx cls h.msn })
    else if cls = clsMirror ∧ h.msn ≤ t.msnSeen cls then t.tSend0 (.mirrorAck (t.msnSeen cls))
    else t

/-! Pairing (R542) -/

/-- HELLO_SEND (R542, R545): an unpaired side that holds a domain key says HELLO; for a withdrawn side each is a new attempt. -/
def execHelloSend (s : State) : Res :=
  if s.paired ∨ !s.flag rdyPage RDY.PORT_T ∨ s.te.drk.isNone then done s
  else
    let t := if s.twState = 5 then (s.setFld twPage TW.BOOT (s.fld twPage TW.BOOT + 1)).setTw { s.tw with seq := 0 } else s
    done (t.tSend0 (.hello t.helloBody))

/-- A HELLO of another domain, of the same side, of another shelf or of another role (R542, R617). -/
def State.foreignHello (s : State) (b : HelloBody) : Bool :=
  decide (b.domain ≠ s.domainId) || decide (b.kcv ≠ s.pair tePage TE.DRK_KCV_LO TE.DRK_KCV_HI) || decide (b.side ≠ 1 - s.side) ||
    decide (b.shelf ≠ s.fld chipPage CHIP.SHELF_ID) || decide (b.role ≠ s.fld chipPage CHIP.ROLE)

/-- K_T (R514). -/
def State.twinKey (s : State) (drk : Nat) (b : HelloBody) : Nat :=
  let mine := bytesBE 8 s.serial
  let other := bytesBE 8 b.serial
  Config.hkdf drk (if s.side = 0 then mine ++ other else other ++ mine) (ascii "HL6633 twin link")

/-- HELLO (R542). -/
def execHelloMsg (h : THdr) (b : HelloBody) (s : State) : Res :=
  match s.te.drk with
  | none => done s
  | some drk =>
    -- a chip held in reset hears nothing (R30)
    if s.paired ∨ s.svc.held ≠ .no then done s
    else if !s.tFresh h then done (s.tRefused false)
    else if s.foreignHello b then
      done (if s.tw.foreign then s else (s.setTw { s.tw with foreign := true }).event twPage 0x8408 7)
    else
      let t := s.tTaken h
      let t := t.setTw { t.tw with hello := some b, kt := t.twinKey drk b, foreign := false, authOut := true }
      let t := (t.setPair twPage TW.TWIN_SER_LO TW.TWIN_SER_HI b.serial).setFlag tePage TE.TE_STAT_TWIN_KEY true
      done ((t.setTwState 1).tSend0 (.helloAuth b.serial h.boot.toNat)).tryPair

/-- HELLO_AUTH (R542): it names this side's serial and boot number as received. -/
def execHelloAuth (h : THdr) (serial boot : Nat) (s : State) : Res :=
  if s.tw.hello.isNone then done (s.tRefused true)
  else if !s.tFresh h then done (s.tRefused false)
  else
    let t := s.tTaken h
    if t.paired ∨ serial ≠ t.serial ∨ boot ≠ t.fld twPage TW.BOOT + 2 ^ 31 * t.side then done t
    else done (t.setTw { t.tw with authIn := true, lastSign := t.now }).tryPair

/-! Heartbeats, resending (R541, R543, R544) -/

/-- HEARTBEAT (R541, R544): the twin's chip state and the numbers it has received. Mirror messages wait for
MIRROR_ACK. -/
def execHeartbeat (h : THdr) (chip _tw _staging : Nat) (msns : List Nat) (s : State) : Res :=
  done (s.tMsg h clsNone fun t =>
    let t := t.setFld twPage TW.TW_STAT_TWIN_STATE chip
    t.setTw { t.tw with unacked := t.tw.unacked.filter fun x => decide (x.cls = clsMirror) || decide (msns.getD x.cls 0 < x.msn) })

/-- HEARTBEAT_SEND (R544). -/
def execHeartbeatSend (s : State) : Res :=
  if !s.paired then done s
  else done (s.tSend0 (.heartbeat (s.fld chipPage CHIP.STATE) s.twState (stagingMiB - min stagingMiB (s.stagedOwn + s.stagedMirror))
    ((List.range 4).map s.msnSeen)))

/-- The oldest message of a class has waited 200 µs for its acknowledgement (R541). -/
def State.resendDue (s : State) (cls : Nat) : Bool :=
  match s.tw.unacked.find? fun x => decide (x.cls = cls) with
  | some x => decide (x.sent + 200000 ≤ s.now)
  | none => false

/-- RELIABLE_RESEND (R541): the oldest unacknowledged message of a class and every later one, with new SEQs. -/
def execReliableResend (cls : Fin 4) (s : State) : Res :=
  if !s.paired ∨ !s.resendDue cls.val then done s
  else
    let t := s.forEach (s.tw.unacked.filter fun x => decide (x.cls = cls.val)) fun u x => u.tFrame x.cls x.msn x.msg
    done (t.setTw { t.tw with unacked := t.tw.unacked.map fun x => if x.cls = cls.val then { x with sent := t.now } else x })

/-- TWIN_HB_OUT runs while the controller runs, boots with MC started or quiesces, and its watchdog and CE report
(R543). -/
def State.hbRuns (s : State) : Bool :=
  let st := s.fld chipPage CHIP.STATE
  (decide (st = 2 ∨ st = 3 ∨ st = 4) || (decide (st = 1) && s.flag rdyPage RDY.MC_RUN)) && s.flag mcPage MC.MC_STAT_WDOG_OK &&
    s.fldBit ckPage CK.ISL_RUN1 25 && decide (s.twState ≠ 5)

/-- TWIN_HB_OUT_TOGGLE (R543). -/
def execTwinHbOutToggle (s : State) : Res := done (if s.hbRuns then s.setTw { s.tw with hbOut := !s.tw.hbOut } else s)

/-- An edge comes 0.5 to 1.5 ms after the one before (R543). -/
def State.edgeInTime (s : State) : Bool :=
  match s.tw.lastEdge with
  | some e => decide (e + 500000 ≤ s.now ∧ s.now ≤ e + 1500000)
  | none => false

/-- TWIN_HB_IN_EDGE (R543, R545): an edge in time makes the pin alive, and a pin fault ends. An edge within 100 µs of the last is
noise (R628). -/
def execTwinHbInEdge (s : State) : Res :=
  let t := s.setTw { s.tw with lastEdge := some s.now }
  let noise : Bool := match s.tw.lastEdge with
    | some e => decide (s.now < e + 100000)
    | none => false
  if noise then done s
  else if !s.edgeInTime then done t
  else
    let t := (t.setFlag twPage TW.TW_STAT_PIN_ALIVE true).setFlag twPage TW.TW_STAT_PIN_FAULT false
    done (t.setTw { t.tw with lastSign := t.now })

/-- A partition as side B sees it (R545): it holds what it owns. -/
def State.partitionSeen (s : State) : State :=
  if s.paired && s.flag twPage TW.TW_STAT_PIN_ALIVE && !s.flag twPage TW.TW_STAT_T_ALIVE && decide (s.side = 1) then
    let t := (s.setTwState 4).setRdy RDY.TWIN_PAIRED false
    (t.setTw { t.tw with declared := t.now }).istat twPage 13
  else s

/-- PIN_MISS consecutive expected edges have been missed (R543). -/
def State.edgesMissed (s : State) : Bool :=
  decide ((s.tw.lastEdge.getD 0) + s.fldIn twPage TW.TW_CFG_PIN_MISS 3 15 * 1000000 ≤ s.now)

/-- TWIN_HB_PIN_LOST (R543, R545): with port T alive a pin fault, 0x8405. -/
def execTwinHbPinLost (s : State) : Res :=
  if !s.flag twPage TW.TW_STAT_PIN_ALIVE ∨ !s.edgesMissed then done s
  else
    let t := s.setFlag twPage TW.TW_STAT_PIN_ALIVE false
    done (if t.flag twPage TW.TW_STAT_T_ALIVE then ((t.setFlag twPage TW.TW_STAT_PIN_FAULT true).istat twPage 14).event twPage 0x8405 3 else t)

/-- PORT_T_LOST (R544, R545): T_HB_MISS periods of 100 µs have passed without a frame. -/
def execPortTLost (s : State) : Res :=
  if s.now < s.tw.lastFrame + s.fldIn twPage TW.TW_CFG_T_HB_MISS 10 255 * 100000 then done s
  else done (s.setFlag twPage TW.TW_STAT_T_ALIVE false).partitionSeen

/-- The twin is absent (R545): both signs lost. -/
def State.twinAbsent (s : State) : Bool := !s.flag twPage TW.TW_STAT_PIN_ALIVE && !s.flag twPage TW.TW_STAT_T_ALIVE

/-- UNPLANNED_TAKEOVER (R545, R546): with AUTO_TAKE, by a side that was paired or holds a partition. -/
def execUnplannedTakeover (s : State) : Res :=
  if s.twinAbsent && (s.paired || decide (s.twState = 4)) && s.flag twPage TW.TW_CFG_AUTO_TAKE then done s.takeover.takeoverGo else done s

/-- PARTITION_WITHDRAW (R545): side A, with the pin alive and port T lost. -/
def execPartitionWithdraw (s : State) : Res :=
  if s.paired && decide (s.side = 0) && s.flag twPage TW.TW_STAT_PIN_ALIVE && !s.flag twPage TW.TW_STAT_T_ALIVE then done s.withdraw else done s

/-- PART_WAIT_EXPIRY (R545): side B takes over with the pin alive, 0x8406. -/
def execPartWaitExpiry (s : State) : Res :=
  if s.twState = 4 ∧ s.tw.declared + s.fldIn twPage TW.TW_CFG_PART_WAIT 10 255 * 1000000 ≤ s.now then
    done (s.takeover.event twPage 0x8406 5).takeoverGo
  else done s

/-! Tokens (R547) -/

/-- TOKEN_OFFER. -/
def execTokenOffer (h : THdr) (tok : TokenIx) (_epoch : Nat) (s : State) : Res :=
  done (s.tMsg h clsToken fun t => (t.putHo { tok := tok.val, release := false, stage := .offered, since := t.now }).xfer tok.val true)

/-- EXPORT: imported and answered with TOKEN_TAKE, or with TOKEN_DONE and result 5. -/
def execExportMessage (h : THdr) (tok : TokenIx) (epoch : Nat) (b : ExportBody) (s : State) : Res :=
  let n := tok.val
  done (s.tMsg h clsToken fun t =>
    match t.hoOf n with
    | none => t
    | some x =>
      let (u, ok) := t.hoImport n b
      if ok then ((u.putHo { x with stage := .taken }).tSend clsToken (.tokenTake n epoch)).hoGo
      else (u.endHo n).tSend clsToken (.tokenDone n epoch 5))

/-- TOKEN_TAKE. -/
def execTokenTake (h : THdr) (tok : TokenIx) (_epoch : Nat) (s : State) : Res :=
  done (s.tMsg h clsToken fun t =>
    match t.hoOf tok.val with
    | some x => if x.release ∧ x.stage = .exportSent then (t.putHo { x with stage := .taken }).hoSwitch tok.val else t
    | none => t)

/-- TOKEN_DONE. -/
def execTokenDone (h : THdr) (tok : TokenIx) (_epoch result : Nat) (s : State) : Res :=
  done (s.tMsg h clsToken fun t =>
    match t.hoOf tok.val with
    | some x => if x.release then t.hoDone tok.val result else t
    | none => t)

/-- AUTO_RETURN (R549). -/
def execAutoReturn (s : State) : Res :=
  if s.flag twPage TW.TW_CFG_AUTO_RETURN ∧ s.twState = 2 ∧ s.twinUp then
    let (ns, ws) := s.hoBack
    let ns := ns.filter fun n => s.twinTakes n
    -- one head group at a time, then the rest
    let heads := ns.filter fun n => decide (n < 32)
    let one := match heads with
      | a :: _ => heads.filter fun n => decide (n / 8 = a / 8)
      | [] => ns
    if ns.isEmpty ∧ ws.isEmpty then done s else done (s.hoStart one (if heads.length = one.length then ws else []))
  else done s

/-- WRITER_MOVE (R548): once its heads have gone and nothing is left to mirror, a namespace's writer role goes. -/
def execWriterMove (ns : Nat) (s : State) : Res :=
  let heads := (s.tw.hoQueue ++ s.tw.ho.map fun x => x.tok).any fun n => decide (n < 33)
  match s.tw.moves.find? fun m => decide (m.1 = ns) with
  | none => done s
  | some (_, side) =>
    if heads ∨ s.fld journalPage JOURNAL.MIRROR_LAG ≠ 0 then done s
    else
      let t := s.tSend clsControl (.writer ns side)
      let t := t.setTw { t.tw with moves := t.tw.moves.filter (fun m => decide (m.1 ≠ ns)),
                                   writers := t.tw.writers.filter fun n => n != ns }
      done (t.setAna ns 3).hoOver

/-- WRITER (R548). -/
def execWriterMsg (h : THdr) (ns side : Nat) (s : State) : Res :=
  done (s.tMsg h clsControl fun t => if side = t.side then t.becomeWriter ns else t)

/-! Mirroring (R550) -/

/-- JOURNAL: the records go to the mirror area. -/
def execJournalMsg (h : THdr) (recs : List JRec) (s : State) : Res :=
  done (s.tMsg h clsMirror fun t =>
    let m := t.jr.mirror ++ recs
    let t := t.setJr { t.jr with mirror := m.drop (m.length - hbmRing) }
    (t.forEach recs fun u r => u.journalStore mirrorArea r.seq (jrecBytes r)).tSend0 (.mirrorAck h.msn))

/-- STAGE: the data goes to staging; the zone belongs to the namespace. -/
def execStageMsg (h : THdr) (ns zone first : Nat) (lbas : List (List Nat)) (s : State) : Res :=
  done (s.tMsg h clsMirror fun t =>
    let n := lbas.length
    let rest := t.st.mirror.filter fun e => !(decide (e.1 = zone) && decide (first ≤ e.2.1) && decide (e.2.1 < first + n))
    let t := t.setSt { t.st with mirror := rest ++ lbas.zipIdx.map fun (b, i) => (zone, first + i, b) }
    let t := if (t.zone zone).ns = 0 then t.setZone zone { t.zone zone with ns := ns } else t
    (t.stgShow).tSend0 (.mirrorAck h.msn))

/-- STAGE_FREE: confirmed stripes leave the mirror. -/
def execStageFree (h : THdr) (zone : Nat) (stripes : List Nat) (s : State) : Res :=
  done (s.tMsg h clsMirror fun t =>
    let w := (t.zone zone).width
    let free (j : Nat) : Bool := stripes.any fun i => decide (stripeFirstLba w i ≤ j) && decide (j < stripeFirstLba w (i + 1))
    ((t.setSt { t.st with mirror := t.st.mirror.filter fun e => !(decide (e.1 = zone) && free e.2.1) }).stgShow).tSend0 (.mirrorAck h.msn))

/-- MIRROR_ACK: every mirror message up to an MSN is stored. -/
def execMirrorAck (h : THdr) (msn : Nat) (s : State) : Res :=
  done (s.tMsg h clsNone fun t =>
    let stored := t.tw.unacked.filter fun x => decide (x.cls = clsMirror) && decide (x.msn ≤ msn)
    let t := t.setTw { t.tw with unacked := t.tw.unacked.filter (fun x => !(decide (x.cls = clsMirror) && decide (x.msn ≤ msn))), acked := max t.tw.acked msn }
    let t := t.forEach stored fun u x => match x.msg with
      | .stage _ k first lbas =>
        let z := u.zone k
        u.setZone k { z with unmirrored := z.unmirrored.filter fun j => !(decide (first ≤ j) && decide (j < first + lbas.length)) }
      | _ => u
    let t := t.setJr { t.jr with unacked := t.jr.unacked.filter fun n => decide (msn < n) }
    t.mirrorShow.sendDueMembers.hostProgress)

/-! Member blocks (R551) -/

/-- The bytes of a block of which all nine pieces have come. -/
def State.memberBytes (s : State) (head sa blk : Nat) : Option (List Nat) :=
  let ps := (List.range 9).map fun n => (s.tw.partials.find? fun e => decide (e.1 = head) && decide (e.2.1 = sa) && decide (e.2.2.1 = blk) &&
    decide (e.2.2.2.1 = 8192 * n)).map fun e => e.2.2.2.2
  if ps.all Option.isSome then some (ps.filterMap id).flatten else none

/-- MEMBER: once its four blocks are whole, a setting is ready here, after a blank scan of its own. -/
def execMemberMsg (h : THdr) (head : HeadIx) (sa : Nat) (blk : Fin 4) (offset : Nat) (bytes : List Nat) (s : State) : Res :=
  let n := head.val
  done (s.tMsg h clsFire fun t =>
    if !t.tokenMine n then t
    else
      let t := t.setTw { t.tw with partials := t.tw.partials ++ [(n, sa, blk.val, offset, bytes)] }
      let bs := (List.range 4).map fun k => t.memberBytes n sa k
      if !bs.all Option.isSome then t
      else
        let blocks := (bs.filterMap id).map fun b => (headerOf (b.take 4096), b.drop 4096)
        let t := t.setTw { t.tw with partials := t.tw.partials.filter fun e => !(decide (e.1 = n) && decide (e.2.1 = sa)) }
        let t : State := { t with fire := { t.fire with ready := t.fire.ready ++ [{ head := n, sa := sa, kind := .forTwin, blocks := blocks }] } }
        t.want n sa .blankScan)

/-- A setting fired for this writer by the twin, from its home or its spare. -/
def State.twinSetting (s : State) (h sa : Nat) : Option (Nat × Nat × ReadySet) :=
  let home := s.homeOf h sa
  match zoneOfSa (h % 4) home, s.headPos h with
  | some (k, first), some pos =>
    let kind : FireKind := if home = sa then .data k else .remap home 1
    some (k, pos, { head := h, sa := sa, kind := kind, blocks := (s.settingBlocks k first pos).getD [] })
  | _, _ => none

/-- FIRE_REPORT (R551): events and verdicts of settings fired by the twin enter this writer's journal. -/
def execFireReport (h : THdr) (head : HeadIx) (sa event _segment : Nat) (verdict : Option Bool) (s : State) : Res :=
  let n := head.val
  done (s.tMsg h clsFire fun t =>
    match t.twinSetting n sa with
    | none => t
    | some (k, pos, r) =>
      let again (u : State) : State := (u.pool.wants.filter fun w => decide (w.head = n)).foldl (fun (v : State) w => v.unwant n w.sa) (u.passSettings n)
      match verdict, event with
      | some true, _ => (t.setPassed n r).hostProgress
      | some false, _ => again (t.refire n r)
      | none, 3 => (t.settingFired k r.home pos).hostProgress
      | none, 6 | none, 8 => again (t.remapSet r 3)
      | none, _ => t)

/-- RELEASE_CONF (R370): the twin has released a wheel, or not. -/
def execReleaseConf (h : THdr) (wheel : WheelIx) (result : Nat) (s : State) : Res :=
  done (s.tMsg h clsFire fun t => t.setFldBit loaderPage LOADER.TWIN_REL wheel.val (decide (result = 0)))

/-! TWIN_STATE (R638) -/

/-- The body of this side's TWIN_STATE. -/
def State.twinBody (s : State) : TwinState :=
  let up (h : Nat) : Nat := boolNat (decide (s.linkState h = 5))
  { rdySys := s.plainWord (rdyPage + 0x40), headLo := s.fld rdyPage RDY.HEAD_LO, headHi := s.plainWord (rdyPage + 0x48),
    wheel := s.plainWord (rdyPage + 0x4C), linkLo := ((List.range 32).map fun h => up h * 2 ^ h).sum, linkHi := up 32,
    cmpOk := (List.range 9).map s.phasesUsable, tokens := s.tokenBytes }

/-- TWIN_STATE_SEND. -/
def execTwinStateSend (s : State) : Res := done (if s.paired then s.tSend clsControl (.twinState s.twinBody) else s)

/-- The whole catalogue goes to a twin that has none yet (R574). -/
def State.sendCatalogue (s : State) : State :=
  let t := s.forEach s.host.nss fun u e => match e.2 with
    | some n => (u.tSend clsControl (.forward (.nsBinding e.1 n.binding))).tSend clsControl (.forward (.nsAttach e.1 n.attached))
    | none => u
  t.forEach t.st.cat.recs fun u r => u.tSend clsControl (.forward (.catalogue r.serial (r.slot.getD 4) r.ty r.body r.seq))

/-- TWIN_STATE. -/
def execTwinState (h : THdr) (b : TwinState) (s : State) : Res :=
  done (s.tMsg h clsControl fun t =>
    let u := (t.setTw { t.tw with twin := some b }).refreshLanes
    if t.tw.twin.isNone && t.flag rdyPage RDY.CATALOGUE && !bitOf b.rdySys RDY.CATALOGUE.lsb then u.sendCatalogue else u)

/-! FORWARD (R541) -/

/-- The result of a Stage Load or an Unmount Load that the twin ran. -/
def State.forwardDone (s : State) (status : Nat) : State :=
  let st : NvStatus := if status = 0 then .ok else .vendor status
  let t := s.forEach (s.host.ctxs.filter fun x => decide (x.work = .forwarded)) fun u x => u.complete x.conn x.cid st
  match t.hy.stage with
  | some _ => State.setFld { t with hy := { t.hy with stage := none } } hyPage HY.STAGE_RESULT status
  | none => t

/-- A namespace as the twin's binding gives it. -/
def State.takeBinding (s : State) (ns : Nat) (b : List Nat) : State :=
  let old := s.nsp ns
  let home := bindingAt b 5 1
  let n : NsSt := { home := home, mirrorAck := decide (bindingAt b 6 1 = 1), lbaf := b.getLast?.getD 0, extents := bindingExtents b,
                    attached := (old.map fun x => x.attached).getD [], keyId := (old.map fun x => x.keyId).getD 0, deleting := false, keyRaised := false }
  let t := (s.setNsp ns (some n)).showHome ns (decide (home = 1))
  if old.isSome then t else t.assignRole ns home

/-- FORWARD. -/
def execForwardMsg (h : THdr) (f : Forward) (s : State) : Res :=
  done (s.tMsg h clsControl fun t => match f with
    | .stageLoad id =>
      if t.load.mounted ∧ t.load.id = id ∧ t.load.phase = .none then t.tSend clsControl (.forward (.loadResult 0))
      else match t.stageRefusal id with
        | some code => t.tSend clsControl (.forward (.loadResult code))
        | none => (t.tSend clsControl (.forward (.loadResult 0))).startStage id
    | .unmountLoad id store => match t.unmountRefusal id with
      | some code => t.tSend clsControl (.forward (.loadResult code))
      | none => (t.setLoad { t.load with forTwin := true }).startUnmount id store
    | .loadResult status => t.forwardDone status
    | .nsKey ns keyId we wn => match t.restoreKeys ns keyId we wn with
      | some u =>
        let u := match u.nsp ns with
          | some n => u.setNsp ns (some { n with keyId := keyId })
          | none => u
        u.tSend clsControl (.forward (.nsKeyAck ns keyId))
      | none => t
    | .nsKeyAck ns _ => t.createAcked ns
    | .psk id wrapped =>
      let d := ofBytesLE (id.take 32)
      let t := t.setTe { t.te with psks := (t.te.psks.filter fun e => decide (e.1 ≠ d)) ++ [(d, id.getD 32 0, wrapped)] }
      t.setFld tlsPage TLS.PSK_CNT t.te.psks.length
    | .pskDel id =>
      let t := t.setTe { t.te with psks := t.te.psks.filter fun e => decide (e.1 ≠ ofBytesLE id) }
      t.setFld tlsPage TLS.PSK_CNT t.te.psks.length
    | .nsBinding ns b => t.takeBinding ns b
    | .nsAttach ns ids => match t.nsp ns with
      | some n => t.attachTo ns n ids
      | none => t
    | .seal ns z bytes => t.setHost { t.host with seals := (t.host.seals.filter fun e => !(decide (e.1 = ns) && decide (e.2.1 = z))) ++ [(ns, z, bytes)] }
    | .nsDelete ns =>
      let u := (t.eraseNs ns).event tePage 0x8104 2 0xFF ns
      (u.eraseAtManager ns).tSend clsControl (.forward (.nsDeleted ns))
    | .nsDeleted ns => t.forEach (t.host.ctxs.filter fun x => decide (x.work = .delete ns)) fun u x => u.complete x.conn x.cid .ok
    | .catalogue serial slot ty body seq =>
      t.takeRecord { serial := serial, slot := if slot < 4 then some slot else none, ty := ty, body := body, seq := seq, fired := [] }
    | .custody kind intent wheel store =>
      let was := t.mot.custodyXspi
      let u := if was.1 = 3 ∧ kind = 2 then (t.saggerTaken was.2.2.1).loadGo else t
      { u with mot := { u.mot with custodyXspi := (kind, intent, wheel, store) } })

/-! Conflicts (R538, R552) -/

/-- 100 µs have passed since a token's last TOKEN_DONE (R552). -/
def State.handedOver (s : State) (n : Nat) : Bool :=
  match s.tw.doneAt.find? fun e => decide (e.1 = n) with
  | some e => decide (e.2 + 100000 ≤ s.now)
  | none => true

/-- The object of a token is in conflict, or its claim stale. -/
def State.inConflict (s : State) (n : Nat) : Bool :=
  s.tw.pendingConflict.contains n ||
  (if n < 33 then s.flag (headPage n) HEAD.LINK_STAT_CONFLICT && (s.hoOf n).isNone && s.handedOver n
   else if n < 42 then s.flag (wheelPage (n - 33)) WHEEL.WH_STAT_OWN_OUT && s.flag (wheelPage (n - 33)) WHEEL.WH_STAT_OWNX_IN
   else if n = 42 then s.flag loaderPage LOADER.LD_STAT_OWN_OUT && s.flag loaderPage LOADER.LD_STAT_OWNX_IN else false)

/-- The winner of a conflict starts the object afresh. -/
def State.startAfresh (s : State) (n : Nat) : State :=
  if n < 33 then
    let t := s.grantToken n
    t.setTw { t.tw with takenHeads := t.tw.takenHeads.filter (fun x => x != n) ++ [n] }
  else if n < 42 then s.unplannedWheelTake (n - 33)
  else s.grantToken n

/-- CONFLICT_RESOLUTION (R545, R552): by epoch, then by SPLIT; with port T lost side A withdraws from
everything. -/
def execConflictResolution (tok : TokenIx) (s : State) : Res :=
  let n := tok.val
  if !s.inConflict n then done s
  else if !s.flag twPage TW.TW_STAT_T_ALIVE then done (if s.side = 0 then s.withdraw.conflictDone n else s)
  else
    let mine := s.token n
    let twins := (s.tw.twin.map fun b => b.tokens.getD n (255, 0)).getD (255, 0)
    -- each table's own claim: the twin's entry counts as the twin's
    let t : (Nat × Nat) × (Nat × Nat) := ((s.side, mine.2), (1 - s.side, twins.2))
    let win := newer t.1.2 t.2.2 || (!newer t.2.2 t.1.2 && decide (s.splitSide n = s.side))
    if win then done (((s.setToken n s.side (mine.2 + 1)).startAfresh n).conflictDone n)
    else done (((s.dropToken n).setToken n (1 - s.side) (twins.2 + 1)).conflictDone n)

end Sys2Proof.Machine
end

