-- ==== Sys2Proof/Machine/Rack.lean ====
section
/-!
DEFINITION. The rack hierarchy: registration, polling, shelf power, stage requests (R553-R558, R562).
-/
namespace Sys2Proof.Machine

/-- Change the hierarchy's state. -/
def State.setHy (s : State) (x : HySt) : State := { s with hy := x }

/-- This controller is the active manager. -/
def State.activeMgr (s : State) : Bool := s.flag hyPage HY.HY_STAT_ACTIVE_MGR

/-! Workers (R554, R555) -/

/-- A shelf nothing is known of. -/
def Worker.fresh : Worker := { serial := (0, 0), hb := (0, 0), silent := (0, 0), ps := (0, 0), catGen := 0, load := 0 }

def State.worker (s : State) (k : Nat) : Option Worker := storeFind (fun _ => none) s.hy.workers k
def State.setWorker (s : State) (k : Nat) (w : Worker) : State :=
  s.setHy { s.hy with workers := storePut (fun _ => none) s.hy.workers k (some w) }

/-- One side of a pair. -/
def sideOf (p : Nat × Nat) (side : Nat) : Nat := if side = 0 then p.1 else p.2
def setSide (p : Nat × Nat) (side v : Nat) : Nat × Nat := if side = 0 then (v, p.2) else (p.1, v)

/-- WORKER[k].A or B: 0 unknown, 1 registered, 2 missing, 3 dark. -/
def workerFld (side : Nat) : Fld := if side = 0 then HY.WORKER_A else HY.WORKER_B
def State.workerSt (s : State) (k side : Nat) : Nat := s.fld hyPage (workerFld side) k

/-- WORKERS and MISSING count shelves. -/
def State.rackShow (s : State) : State :=
  let reg := ((List.range 64).filter fun k => decide (s.workerSt k 0 = 1) || decide (s.workerSt k 1 = 1)).length
  let mis := ((List.range 64).filter fun k => decide (s.workerSt k 0 = 2) && decide (s.workerSt k 1 = 2)).length
  (s.setFld hyPage HY.HY_STAT_WORKERS reg).setFld hyPage HY.HY_STAT_MISSING mis

/-- What a registration block says (R554, R562): words of HY 0x040 to 0x07C. -/
def State.takeBlock (s : State) (k side : Nat) (block : List Word) : State :=
  let v (i : Nat) : Nat := (block.getD i 0).toNat
  let w := (s.worker k).getD Worker.fresh
  let load := v 10 + 2 ^ 32 * v 11
  let w := { w with serial := setSide w.serial side (v 8 + 2 ^ 32 * v 9), hb := setSide w.hb side (v 5), silent := setSide w.silent side 0,
                    ps := setSide w.ps side (v 12 / 256 % 8), catGen := v 12 / 65536, load := load }
  let t := (s.setWorker k w).setFld hyPage HY.WORKER_LOAD_STATE (v 12 % 256) k
  let t := if load = 0 then t else t.setHy { t.hy with rackLoads := (t.hy.rackLoads.filter fun e => decide (e.1 ≠ load)) ++ [(load, k)] }
  ((t.setFld hyPage (workerFld side) 1 k).setFld hyPage HY.WORKER_SILENT 0 k).rackShow

/-- The ANNOUNCE body: 48 bytes (R554). -/
def State.announceBytes (s : State) : List Nat :=
  bytesLE 2 0x4859 ++ [1, s.side + 2 * s.fld hyPage HY.HY_STAT_REGISTERED, s.fld chipPage CHIP.SHELF_ID, 0, 0, 0] ++
    bytesLE 8 s.serial ++ bytesLE 8 s.domainId ++ bytesLE 8 (s.pair tePage TE.DRK_KCV_LO TE.DRK_KCV_HI) ++
    bytesLE 4 (s.fld twPage TW.BOOT) ++ List.replicate 12 0

/-- ff02::6633, where workers announce themselves. -/
def announceGroup : Nat := 0xFF02 * 2 ^ 112 + 0x6633

/-- MGR_ADDR: its first word is bits [127:96]. -/
def State.mgrAddr (s : State) : Nat := (List.range 4).foldl (fun a i => a * 2 ^ 32 + s.fld hyPage HY.MGR_ADDR i) 0

/-- ANNOUNCE_SEND (R554): from RDY.STEBARO until REGISTERED, every 200 ms, or every 5 s once no manager was reachable, to the group
and to MGR_ADDR. -/
def execAnnounceSend (s : State) : Res :=
  let gap := if s.hy.noMgr then 5000000000 else 200000000
  let due : Bool := match s.hy.announced with
    | some t => decide (t + gap ≤ s.now)
    | none => true
  if !s.flag rdyPage RDY.STEBARO ∨ s.flag hyPage HY.HY_STAT_REGISTERED ∨ !due then done s
  else
    let t := (s.setHy { s.hy with announced := some s.now }).send (.announce announceGroup 47211 s.announceBytes)
    done (if s.mgrAddr = 0 then t else t.send (.announce s.mgrAddr 47211 s.announceBytes))

/-- ANNOUNCE (R554): the active manager reads the sender's registration block and writes REG_ACK; with
AUTO_ENROL an unenrolled worker is enrolled. -/
def execAnnounceMsg (b : AnnounceBody) (block : List Word) (s : State) : Res :=
  if !s.activeMgr ∨ b.magic ≠ 0x4859 ∨ b.version ≠ 1 ∨ block.length ≠ 16 then done s
  else
    let k := b.shelf.val
    let side := b.flags % 2
    let new := decide (s.workerSt k side ≠ 1)
    let t := s.takeBlock k side block
    let t := t.send (.custodian k side (hyPage + 0x58) 1)
    let t := if new then (t.istat hyPage 8).event hyPage 0x8501 1 0xFF k else t
    let t := if b.domain = 0 ∧ t.flag hyPage HY.MGR_CFG_AUTO_ENROL then t.setHy { t.hy with enrol := (t.hy.enrol ++ [2 * k + side]).eraseDups } else t
    done t

/-- NO_MANAGER_TIMEOUT (R554): 60 s after port M came up (RDY_TIME), no manager having answered. -/
def execNoManagerTimeout (s : State) : Res :=
  if s.hy.noMgr ∨ s.flag hyPage HY.HY_STAT_REGISTERED ∨ !s.flag rdyPage RDY.STEBARO ∨ s.now < s.fld rdyPage RDY.RDY_TIME 2 * 1000 + 60000000000 then done s
  else done ((s.setHy { s.hy with noMgr := true }).event hyPage 0x8507 3)

/-- A write of REG_ACK (R554, R562). -/
def State.regAck (s : State) : State :=
  let t := (s.setFlag hyPage HY.HY_STAT_REGISTERED true).setFld hyPage HY.REG_TIME s.now
  (t.setHy { t.hy with noMgr := false }).istat hyPage 8

/-- Seconds since a shelf's last heartbeat, of the side heard last. -/
def State.silentShow (s : State) (k : Nat) : State :=
  match s.worker k with
  | none => s
  | some w =>
    let known := (List.range 2).filter fun d => decide (s.workerSt k d = 1) || decide (s.workerSt k d = 2)
    let n := (known.map fun d => sideOf w.silent d).foldl min 0xFFFF
    s.setFld hyPage HY.WORKER_SILENT n k

/-- A side of a shelf is missing (R555). -/
def State.workerMissing (s : State) (k side : Nat) : State :=
  let t := ((s.setFld hyPage (workerFld side) 2 k).rackShow).istat hyPage 9
  let t := t.event hyPage 0x8502 4 0xFF (2 * k + side)
  if t.workerSt k (1 - side) = 2 then (t.event hyPage 0x8503 5 0xFF k).notice .discLog else t

/-- WORKER_POLL (R555, R557): a registration block read, or none. -/
def execWorkerPoll (shelf : Fin 64) (side : Side) (block : Option (List Word)) (s : State) : Res :=
  let k := shelf.val
  let d := side.val
  match s.worker k with
  | none => done s
  | some w =>
    if !s.activeMgr ∨ s.workerSt k d = 0 then done s
    else
      let heard : Bool := match block with
        | some b => decide (b.length = 16) && decide ((b.getD 5 0).toNat ≠ sideOf w.hb d)
        | none => false
      if heard then
        let b := block.getD []
        let t := s.takeBlock k d b
        -- the worker's answer to a stage request completes the command that waits for it
        match t.hy.stage with
        | some (_, q, true) => if q = k then done (t.forwardDone ((b.getD 15 0).toNat % 256)) else done t
        | _ => done t
      else
        let n := min 0xFFFF (sideOf w.silent d + 1)
        let t := (s.setWorker k { w with silent := setSide w.silent d n }).silentShow k
        if s.workerSt k d = 1 ∧ s.fldIn hyPage HY.MGR_CFG_WMISS 2 60 ≤ n then done (t.workerMissing k d) else done t

/-! Power (R556) -/

/-- Send a PMBus transaction (R556). -/
def State.pmbusSend (s : State) (p : Pmbus) : State := s.send (.pmbus (s.fld hyPage HY.PMB_CFG_PMB_ADDR) p.shelf p.op)

/-- Queue a PMBus transaction; the first of the queue is under way. -/
def State.pmbusPut (s : State) (p : Pmbus) : State :=
  let t := s.setHy { s.hy with pmbus := s.hy.pmbus ++ [p] }
  if s.hy.pmbus.isEmpty then t.pmbusSend p else t

/-- The transaction under way is over; the next begins. -/
def State.pmbusNext (s : State) : State :=
  let t := s.setHy { s.hy with pmbus := s.hy.pmbus.tail }
  match t.hy.pmbus with
  | p :: _ => t.pmbusSend p
  | [] => t

/-- Shelves powered, or about to be. -/
def State.poweredCount (s : State) : Nat :=
  ((List.range 64).filter fun k => s.flag hyPage HY.WORKER_POWERED k || s.hy.pmbus.any fun p => decide (p.shelf = k) && decide (p.op = 0x80)).length

/-- The rack's budget and the spacing of power-ons allow one more. -/
def State.powerRoom (s : State) : Bool :=
  let gap := s.fld hyPage HY.PMB_CFG_PWR_GAP * 1000000000
  let near := (s.hy.gaps.filter fun g => decide (s.now < g.2 + gap)).length
  decide (s.fld hyPage HY.SHELF_W * (s.poweredCount + 1) ≤ s.fld hyPage HY.RACK_W) &&
    decide (near < s.fldIn hyPage HY.PMB_CFG_PWR_CONC 1 15)

def State.pwrResult (s : State) (n : Nat) : State := s.setFld hyPage HY.PWR_RESULT n

/-- A power-on request: served in arrival order, or queued with 0x8508. -/
def State.powerOn (s : State) (k : Nat) : State :=
  if s.hy.queue.isEmpty && s.powerRoom then s.pmbusPut { shelf := k, op := 0x80, tries := 0, cycle := false }
  else if s.hy.queue.contains k then s.pwrResult 1
  else
    let t := (s.setHy { s.hy with queue := s.hy.queue ++ [k] }).setFlag hyPage HY.WORKER_QUEUED true k
    (t.pwrResult 1).event hyPage 0x8508 2 0xFF k

/-- Soft off: once both controllers of the shelf report PS4 or are missing. -/
def State.powerSoftOff (s : State) (k : Nat) : State :=
  let w := (s.worker k).getD Worker.fresh
  let ready (d : Nat) : Bool := decide (s.workerSt k d = 2) || (decide (s.workerSt k d = 1) && decide (sideOf w.ps d = 4))
  if ready 0 && ready 1 then s.pmbusPut { shelf := k, op := 0x40, tries := 0, cycle := false } else s.pwrResult 2

/-- A power cycle: immediate off, then on. -/
def State.powerCycle (s : State) (k : Nat) : State := s.pmbusPut { shelf := k, op := 0x00, tries := 0, cycle := true }

/-- A write of PWR_CMD (R556, R562): manager fields act only on the active manager. -/
def State.pwrCmd (s : State) (k op : Nat) : State :=
  if !s.activeMgr then s
  else match op with
    | 1 => s.powerOn k
    | 2 => s.powerSoftOff k
    | 3 => s.powerCycle k
    | _ => s

/-- A shelf's power has changed. -/
def State.powerChanged (s : State) (k : Nat) (on : Bool) : State :=
  let t := (s.setFlag hyPage HY.WORKER_POWERED on k).istat hyPage 10
  let t := if on then t.setHy { t.hy with gaps := (t.hy.gaps.filter fun g => decide (g.1 ≠ k)) ++ [(k, t.now)] }
    else (t.setFld hyPage HY.WORKER_A 3 k).setFld hyPage HY.WORKER_B 3 k
  t.rackShow.event hyPage 0x8504 1 0xFF k

/-- PMBUS_TRANSACTION_DONE (R556): three failures raise 0x8505; a change of power is followed by a read of
STATUS_WORD, an immediate off by the on of its cycle. -/
def execPmbusTransactionDone (ok : Bool) (status : Nat) (s : State) : Res :=
  match s.hy.pmbus with
  | [] => done s
  | p :: r =>
    let k := p.shelf
    if !ok then
      if p.tries < 2 then
        done ((s.setHy { s.hy with pmbus := { p with tries := p.tries + 1 } :: r }).pmbusSend p)
      else done (((s.pmbusNext.pwrResult 3).istat hyPage 11).event hyPage 0x8505 4 0xFF k)
    else
      let t := s.pmbusNext
      let read : Pmbus := { shelf := k, op := 0x79, tries := 0, cycle := false }
      match p.op with
      | 0x80 => done (((t.powerChanged k true).pwrResult 0).pmbusPut read)
      | 0x40 => done (((t.powerChanged k false).pwrResult 0).pmbusPut read)
      | 0x00 => done ((t.powerChanged k false).pmbusPut { shelf := k, op := 0x80, tries := 0, cycle := false })
      | _ => done (t.setFld hyPage HY.WORKER_STATUS_WORD status k)

/-- SHELF_POWER_CYCLE (R555): a shelf missing for WMISS_PC seconds, with PC_EN. -/
def execShelfPowerCycle (shelf : Fin 64) (s : State) : Res :=
  let k := shelf.val
  let w := (s.worker k).getD Worker.fresh
  let gone := decide (s.workerSt k 0 = 2) && decide (s.workerSt k 1 = 2)
  if s.activeMgr && s.flag hyPage HY.MGR_CFG_PC_EN && gone && decide (s.fldIn hyPage HY.MGR_CFG_WMISS_PC 10 3600 ≤ min w.silent.1 w.silent.2) &&
      !s.hy.pmbus.any fun p => decide (p.shelf = k) then done (s.powerCycle k) else done s

/-- POWER_ON_DEQUEUE (R556). -/
def execPowerOnDequeue (s : State) : Res :=
  match s.hy.queue with
  | [] => done s
  | k :: r =>
    if !s.powerRoom then done s
    else
      let t := (s.setHy { s.hy with queue := r }).setFlag hyPage HY.WORKER_QUEUED false k
      done (t.pmbusPut { shelf := k, op := 0x80, tries := 0, cycle := false })

/-! Stage requests (R483, R557, R562) -/

def State.stageResult (s : State) (n : Nat) : State := s.setFld hyPage HY.STAGE_RESULT n

/-- A write of STAGE_REQ_HI issues Stage Load of the 64-bit value. -/
def State.stageReq (s : State) : State :=
  let id := s.pair hyPage HY.STAGE_REQ_LO HY.STAGE_REQ_HI
  if s.load.mounted ∧ s.load.id = id ∧ s.load.phase = .none then s.stageResult 0
  else if s.loaderTwin then
    (s.setHy { s.hy with stage := some (id, s.fld chipPage CHIP.SHELF_ID, true) }).tSend clsControl (.forward (.stageLoad id))
  else match s.stageRefusal id with
    | some code => s.stageResult code
    | none => (s.stageResult 0).startStage id

/-- A Stage Load for another shelf (R557): the shelf is powered if it is dark, and once it is registered its
STAGE_REQ is written. -/
def State.rackGo (s : State) : State :=
  match s.hy.stage with
  | some (id, k, false) =>
    match [0, 1].find? fun d => decide (s.workerSt k d = 1) with
    | some d =>
      let t := (s.send (.custodian k d (hyPage + 0x74) (id % 2 ^ 32))).send (.custodian k d (hyPage + 0x78) (id / 2 ^ 32))
      t.setHy { t.hy with stage := some (id, k, true) }
    | none =>
      if s.flag hyPage HY.WORKER_POWERED k ∨ s.hy.queue.contains k ∨ s.hy.pmbus.any (fun p => decide (p.shelf = k)) then s else s.powerOn k
  | _ => s

/-- HB_CNT_TICK (R562). -/
def execHbCntTick (s : State) : Res := done (s.countWrap hyPage HY.HB_CNT)

end Sys2Proof.Machine
end

