-- ==== Sys2Proof/Machine/Faults.lean ====
section
/-!
DEFINITION. Error containment through the levels (R47-R50), management cores (R583, R584), MAC lanes
(R298, R299), poison (R439), and the part of self-test that a fault ends (R581).
-/
namespace Sys2Proof.Machine

/-! Blocks and their pages (R34, R53) -/

/-- The page of a block; the firing encoders and CM have none (R637) and are shown by their region's. -/
def blockPage (r b : Nat) : Nat :=
  if r < 4 then bandPage (if r = 3 ∧ b = 8 then 32 else 8 * r + b % 8)
  else match r, b with
    | 4, 0 => ldpcPage | 4, 1 => outerPage | 4, 2 => mediacryptPage
    | 5, 0 => hbmPage 0 | 5, 1 => hbmPage 1 | 5, 2 => setterPage | 5, 3 => stripePage | 5, 4 => journalPage
    | 6, 4 => nvmePage | 6, 5 => tlsPage | 6, 6 => stebaroPage
    | 6, n => if n < 4 then ethPage n else regionPage 6
    | 7, 0 => ctrlengPage | 7, 1 => motionPage | 7, 3 => obsqPage
    | 8, 0 => mcPage | 8, 1 => tePage | 8, 2 => erPage | 8, 3 => stPage | 8, 4 => twPage | 8, 5 => ckPage | 8, 6 => trimPage | 8, 7 => rdyPage
    | r, _ => regionPage r

/-- The blocks of each region (R34). -/
def blocksOf (r : Nat) : Nat := match r with
  | 3 => 9 | 4 => 4 | 5 => 5 | 6 => 7 | 7 => 4 | _ => 8

/-- The head of a head block. -/
def blockHead (r b : Nat) : Nat := if r = 3 ∧ b = 8 then 32 else 8 * r + b % 8

/-! Tests that end (R49, R577, R581) -/

def State.setSvc (s : State) (x : SvcSt) : State := { s with svc := x }

/-- ST_STAT follows the tests that run. -/
def State.testShow (s : State) : State :=
  let f (t : State) (st te pa ce : Nat) : State :=
    (((t.setFld stPage ST.ST_STAT_STATE st).setFld stPage ST.ST_STAT_TEST te).setFld stPage ST.ST_STAT_PAGE pa).setFld stPage ST.ST_STAT_CELL ce
  match s.svc.tests.getLast? with
  | some r => f s 1 r.test r.page r.cell
  | none => f s (if s.flag mcPage MC.MC_STAT_OVERLOAD then 2 else 0) 0 0 0

/-- REQ_STAT: the request is done. -/
def State.reqDone (s : State) (result : Nat) : State :=
  ((s.setFld stPage ST.REQ_STAT_STATE 3).setFld stPage ST.REQ_STAT_RESULT result).istat stPage 8

/-- A test of a cell leaves its block: CC16 is free again. -/
def State.testLeaves (s : State) (r : TestRun) : State :=
  let t := s.setSvc { s.svc with tests := s.svc.tests.filter fun x => decide (x ≠ r) }
  let t := if r.test = 1 then t.setFlag (r.page * 0x1000) BAND.CC_MAP_TEST_BUSY false else t
  t.testShow

/-- A test ends early (R581): RESULT 2 where it was asked for, 0x8704. -/
def State.testEarly (s : State) (r : TestRun) : State :=
  let t := s.testLeaves r
  let t := if r.kind = .request then (t.setSvc { t.svc with request := none }).reqDone 2 else t
  t.event stPage 0x8704 1 r.cell (r.page * 0x1000)

/-- A fault of a block ends the rotating tests that hold its spare (R49). -/
def State.testYield (s : State) (page : Nat) : State :=
  s.forEach (s.svc.tests.filter fun r => decide (r.page * 0x1000 = page) && decide (r.test ≠ 2 ∧ r.test ≠ 8 ∧ r.test ≠ 9)) State.testEarly

/-! Management cores (R583, R584) -/

def coreOff : Nat := 0
def coreRun : Nat := 2
def coreSpare : Nat := 3
def coreTest : Nat := 4
def coreRetired : Nat := 5

def State.coreSt (s : State) (c : Nat) : Nat := s.fld mcPage MC.CORE_STATE c
def State.setCore (s : State) (c st group : Nat) : State :=
  (s.setFld mcPage MC.CORE_STATE st c).setFld mcPage MC.CORE_GROUP group c

/-- CORE_MAP, ACTIVE and WDOG_OK follow the cores; fewer than MIN_CORES is fatal (R584). -/
def State.coresShow (s : State) : State :=
  let on := (List.range 10).filter fun c => decide (s.coreSt c = coreRun)
  let t := (s.setFld mcPage MC.CORE_MAP (on.map fun c => 2 ^ c).sum).setFld mcPage MC.MC_STAT_ACTIVE on.length
  let few := decide (on.length < t.fld mcPage MC.WDT_CFG_MIN_CORES)
  let t := t.setFlag mcPage MC.MC_STAT_WDOG_OK (!few)
  if few ∧ t.fld chipPage CHIP.STATE ≠ 6 then (t.event mcPage 0x8804 6).fatal 0x8804 else t

/-- A task group stops where it is (R583): the admin commands that it was executing complete with Internal Error. -/
def State.groupStops (s : State) (g : Nat) : State :=
  let mine (x : Ctx) : Bool := decide (Config.adminGroup x.conn x.cid % 8 = g) && decide (x.work ≠ .fresh) && decide (x.work ≠ .aer) &&
    match storeFind (fun _ => none) s.host.conns x.conn with
    | some k => decide (k.qid = 0)
    | none => false
  s.forEach (s.host.ctxs.filter mine) fun u x => u.complete x.conn x.cid .internalError

/-- A core starts again from its entry point (R55): its group stops. -/
def State.coreRestart (s : State) (c : Nat) : State := s.groupStops (s.fld mcPage MC.CORE_GROUP c)

/-- The task group of a core moves (R583, R584): to a spare, or onto a running core. -/
def State.moveGroup (s : State) (c : Nat) : State :=
  let g := s.fld mcPage MC.CORE_GROUP c
  if s.coreSt c ≠ coreRun ∨ 8 ≤ g then s
  else
    let s := s.groupStops g
    let t := ((s.count mcPage MC.CORE_RESTARTS).istat mcPage 8).event mcPage 0x8801 4 c
    match (List.range 10).find? fun j => decide (t.coreSt j = coreSpare) with
    | some j => t.setCore j coreRun g
    | none => ((t.worsen mcPage HDR.DEGRADED).istat mcPage 9).event mcPage 0x8802 5 c |>.passUp 8 0 c false

/-- A core is retired (R584): a spare's count falls. -/
def State.retireCore (s : State) (c : Nat) : State :=
  if s.coreSt c = coreRetired then s
  else
    let t := s.moveGroup c
    let t := if 0 < t.fld mcPage HDR.SPARES_LEFT then t.useSpare mcPage else t
    ((t.setCore c coreRetired 15).setFldBit mcPage MC.CORE_FAILED c true).coresShow

/-- A core is reset (R583) and then tested with CORE (R584, R577): its group runs elsewhere. -/
def State.resetCore (s : State) (c : Nat) : State :=
  if s.coreSt c ≠ coreRun then s
  else
    let t := (s.moveGroup c).setCore c coreTest 15
    let r : TestRun := { test := 6, page := mcPage / 0x1000, cell := c, kind := .forced }
    ((t.setSvc { t.svc with tests := t.svc.tests ++ [r] }).testShow).coresShow

/-! MAC lanes (R298, R299) -/

/-- Slots are shed: they compute nothing until a reset of CE. -/
def State.shedSlots (s : State) (ns : List Nat) (m : Nat) : State :=
  let mine := ns.filter fun n => decide (s.slotMode n ≠ modeOff) && !s.ce.shed.contains n
  let t := s.forEach mine fun u n => if m = modeHold then u.setMode n modeHold else u
  ({ t with ce := { t.ce with shed := t.ce.shed ++ mine } }).updateLoad

/-- LOAD is within LOAD_LIMIT. -/
def State.loadFits (s : State) : Bool := decide (s.loadPermille none ≤ s.loadLimit)

/-- The heads to give up, in descending index, until LOAD fits (R299). -/
def State.shedHeads (s : State) : List Nat → List Nat × State
  | [] => ([], s)
  | h :: r =>
    if s.loadFits then ([], s)
    else if (List.range 5).all fun j => decide (s.slotMode (5 * h + j) = modeOff) || s.ce.shed.contains (5 * h + j) then s.shedHeads r
    else
      let (hs, t) := (s.shedSlots ((List.range 5).map fun j => 5 * h + j) 0).shedHeads r
      (h :: hs, t)

/-- CE sheds load until it fits (R299): user slots; with SHED_EN also OQ slots and heads. -/
def State.shedLoad (s : State) : State :=
  if s.loadFits then s
  else
    let t := (s.shedSlots ((List.range 192).filter fun n => decide (174 ≤ n)) modeHold).istat ctrlengPage 13
    if s.cfg ctrlengPage CTRLENG.LOAD_CFG_SHED_EN = 0 ∨ t.loadFits then t
    else
      let t := t.shedSlots ((List.range 33).map fun h => 5 * h + 4) modeHold
      let t := (t.setFlag ctrlengPage CTRLENG.CE_STAT_SHED_OQ true).event ctrlengPage 0x7108 5
      if t.loadFits then t
      else
        let (hs, t) := t.shedHeads ((List.range 33).reverse)
        let t := (t.setFlag ctrlengPage CTRLENG.CE_STAT_SHED_HEADS true).event ctrlengPage 0x7109 5
        if t.paired then
          if t.twState = 6 then t.setTw { t.tw with hoQueue := t.tw.hoQueue ++ hoOrder hs } else t.hoStart hs (t.hoNss hs)
        else t.forEach hs fun u h => u.seqCmd h 8 0

/-- A MAC lane is lost (R298): the spare lane takes its place, or load is shed. -/
def State.laneOut (s : State) (i : Nat) : State :=
  let b := ctrlengPage
  if s.fldBit b CTRLENG.CE_STAT_LANE_FAILED i then s
  else
    let was := s.fldBit b CTRLENG.CE_STAT_LANE_MAP i
    let t := (s.setFldBit b CTRLENG.CE_STAT_LANE_MAP i false).setFldBit b CTRLENG.CE_STAT_LANE_FAILED i true
    let free := (List.range 5).find? fun j => !t.fldBit b CTRLENG.CE_STAT_LANE_MAP j && !t.fldBit b CTRLENG.CE_STAT_LANE_FAILED j
    if !was then t.setPg b HDR.SPARES_LEFT 0
    else match free with
      | some j => (((t.setFldBit b CTRLENG.CE_STAT_LANE_MAP j true).useSpare b).istat b 12).event b 0x7107 3 i
      | none =>
        let t := (t.setFld b CTRLENG.CE_STAT_LANES (t.fld b CTRLENG.CE_STAT_LANES - 1)).worsen b HDR.DEGRADED
        ((t.updateLoad).shedLoad).passUp 7 0 i false

/-! TLS engines (R504) -/

/-- A TLS engine is lost: the spare takes its place; with none left, TLS connections are closed (R582). -/
def State.tlsOut (s : State) (i : Nat) : State :=
  let b := tlsPage
  if s.fldBit b TLS.TLS_STAT_ENGINE_MAP i then
    let t := s.setFldBit b TLS.TLS_STAT_ENGINE_MAP i false
    if 0 < t.fld b HDR.SPARES_LEFT then
      -- the spare is the engine that was not in the map at reset
      (((t.setFldBit b TLS.TLS_STAT_ENGINE_MAP 4 true).useSpare b).istat b 9).event b 0x610C 3 i
    else
      let n := popCount 5 (t.fld b TLS.TLS_STAT_ENGINE_MAP)
      let t := ((t.setFld b TLS.TLS_STAT_ENGINES n).worsen b HDR.DEGRADED).passUp 6 5 i false
      if n ≠ 0 then t
      else
        let cs := (t.host.conns.filter fun e => match e.2 with
          | some k => k.tls.isSome
          | none => false).map fun e => e.1
        (t.setReady b false).forEach cs State.finish
  else if i = 4 then s.setPg b HDR.SPARES_LEFT 0 else s

/-! Comparators (R346, R347) -/

/-- A comparator is lost; with fewer than two usable, the wheel goes to the twin or stops. -/
def State.comparatorOut (s : State) (w c : Nat) : State :=
  let t := s.comparatorFails w c
  if 2 ≤ t.phasesUsable w ∨ s.phasesUsable w < 2 then t
  else
    let twinOk : Bool := match t.tw.twin with
      | some b => decide (2 ≤ b.cmpOk.getD w 0)
      | none => false
    if !t.whOwns w then t
    else if t.paired ∧ twinOk then (if t.twState = 6 then t.setTw { t.tw with hoQueue := t.tw.hoQueue ++ [33 + w] } else t.hoStart [33 + w] [])
    else if t.whState w = whOff ∨ t.whState w = whRest then t
    else t.wheelFault w 5

/-! Reports (R47, R49) -/

/-- A cell reports a fault to its block: its output stops (R47, R48). A channel cell is marked failed, and so
is an LDPC cell. -/
def State.cellFault (s : State) (r b cell sev : Nat) (shared : Bool) : State :=
  let t := s.setBlockReports r b (s.blockReports r b ++ [{ block := b, cell := cell, sev := sev, shared := shared, arrival := s.now }])
  if shared then t
  else if r < 4 then (if cell < 17 then t.setFldBit (blockPage r b) BAND.CC_FAILED cell true else t)
  else if r = 4 ∧ b = 0 ∧ cell < 18 then t.setFldBit ldpcPage LDPC.CELL_FAILED cell true
  else t

/-- CELL_FAULT_DETECTED. -/
def execCellFaultDetected (region : RegionIx) (block : Nat) (cell : Nat) (sev : Fin 8) (shared : Bool) (s : State) : Res :=
  done (if block < blocksOf region.val then s.cellFault region.val block cell sev.val shared else s)

/-- The report a block serves next: by severity, then arrival, then lower cell (R49). -/
def worstReport (xs : List FaultReport) : Option FaultReport :=
  xs.foldl (fun (a : Option FaultReport) x => match a with
    | none => some x
    | some y => if y.sev < x.sev ∨ (y.sev = x.sev ∧ y.arrival = x.arrival ∧ x.cell < y.cell) then some x else some y) none

/-! Spares (R48, R49) -/

/-- A channel cell (R203): CC16 takes its beam. `fails`: the spare fails as it is taken. -/
def State.headSpare (s : State) (r b cell : Nat) (fails : Bool) : State :=
  let h := blockHead r b
  let p := bandPage h
  let beam := s.fld p BAND.CC_MAP_SPARE_BEAM
  if cell = 16 then
    -- the spare itself: the cell that it replaced stays retired (R49)
    let t := s.setPg p HDR.SPARES_LEFT 0
    if beam < 16 then t.passUp r b beam false else t
  else if beam ≠ 0x1F ∨ s.fldBit p BAND.CC_FAILED 16 then s.passUp r b cell false
  else
    let t := s.useSpare p
    if fails then (t.setFldBit p BAND.CC_FAILED 16 true).passUp r b cell false else
      let t := if t.flag p BAND.CC_MAP_REDET_BUSY then t.redetAbort h else t
      t.bandSpare h cell

/-- CELL_WT of a cell. -/
def State.setCellWeight (s : State) (c v : Nat) : State :=
  let f := if c < 8 then LDPC.CELL_WT0 else if c < 16 then LDPC.CELL_WT1 else LDPC.CELL_WT2
  let p := 16 ^ (c % 8)
  let w := s.fld ldpcPage f
  s.setFld ldpcPage f (w - w / p % 16 * p + v % 16 * p)

/-- An LDPC cell (R227): its codeword is issued again from the first iteration, a spare takes its place and
weight. A spare in use that fails passes up as a report without a spare (R49). -/
def State.ldpcSpare (s : State) (cell : Nat) (fails : Bool) : State :=
  let p := ldpcPage
  let was := s.fldBit p LDPC.CELL_MAP cell
  let t := s.setFldBit p LDPC.CELL_MAP cell false
  let t := match s.cellJob cell with
    | some j =>
      let u := (t.setCell cell none).count p LDPC.CW_REISSUE
      (if j.rung = 0 then u.setPool { u.pool with queueA := j :: u.pool.queueA } else u.setPool { u.pool with queueB := j :: u.pool.queueB }).showQueues
    | none => t
  let idle (u : State) : List Nat := (List.range 18).filter fun c => !u.fldBit p LDPC.CELL_MAP c && !u.fldBit p LDPC.CELL_FAILED c
  let show_ (u : State) : State := u.setFld p LDPC.POOL_STAT_SPARE_IDLE (idle u).length
  if !was then show_ (t.setPg p HDR.SPARES_LEFT (t.fld p HDR.SPARES_LEFT - 1))
  else if 16 ≤ cell then show_ (t.passUp 4 0 cell false)
  else match idle t with
    | c :: _ =>
      let last := decide (t.fld p HDR.SPARES_LEFT = 1)
      let t := t.useSpare p
      if fails then show_ ((t.setFldBit p LDPC.CELL_FAILED c true).passUp 4 0 cell false)
      else show_ (((t.setFldBit p LDPC.CELL_MAP c true).setCellWeight c (s.cellWeight cell % 16)).event p 0x410B (if last then 3 else 2) cell)
    | [] => show_ (t.passUp 4 0 cell false)

/-- A head's readiness bit follows READY of its BAND page (R65, R572). -/
def State.bandReady (s : State) (base : Nat) : State :=
  match pageAt base with
  | some p => if p.kind = .band then s.refreshHead p.idx else s
  | none => s

/-- The spare that a substitution has just taken fails as well (R49): it is lost in its turn. -/
def State.spareAlso (s before : State) (page : Nat) (fails : Bool) (lose : State → State) : State :=
  if fails && decide (s.fld page HDR.SPARES_USED ≠ before.fld page HDR.SPARES_USED) then lose s else s

/-- SPARE_SUBSTITUTION (R48, R49): at its unit boundary a block serves its worst report. -/
def State.substitute (s : State) (r b : Nat) (fails : Bool) : State :=
  match worstReport (s.blockReports r b) with
  | none => s
  | some x =>
    let t := (s.setBlockReports r b ((s.blockReports r b).erase x)).testYield (blockPage r b)
    if x.shared then ((t.setReady (blockPage r b) false).bandReady (blockPage r b)).passUp r b x.cell true
    else if r < 4 then t.headSpare r b x.cell fails
    else match r, b with
      | 4, 0 => if x.cell < 18 then t.ldpcSpare x.cell fails else t
      | 4, 2 => (t.engineFail x.cell).spareAlso t mediacryptPage fails fun u => u.engineFail 4
      | 5, 2 => if x.cell < 17 then (t.wayOut x.cell).spareAlso t setterPage fails fun u => u.wayOut 16 else t
      | 6, 5 => (t.tlsOut x.cell).spareAlso t tlsPage fails fun u => u.tlsOut 4
      | 7, 0 => (t.laneOut x.cell).spareAlso t ctrlengPage fails fun u => u.laneOut 4
      | 7, 2 => if x.cell < 36 then t.comparatorOut (x.cell / 4) (x.cell % 4) else t
      | 8, 0 => if x.cell < 10 then t.retireCore x.cell else t
      | _, _ => ((t.setReady (blockPage r b) false).bandReady (blockPage r b)).passUp r b x.cell true

/-- SPARE_SUBSTITUTION. -/
def execSpareSubstitution (region : RegionIx) (block : Nat) (spareFails : Bool) (s : State) : Res :=
  done (s.reportsTo (s.substitute region.val block spareFails) region.val)

/-! Isolation (R50) -/

/-- A block is isolated. -/
def State.isolate (s : State) (r b : Nat) : State :=
  if s.flt.isolated.contains (r, b) then s
  else
    let p := blockPage r b
    let t := if p = regionPage r then s else s.setFlag p HDR.ISOLATE true
    let t := (t.setFldBit (regionPage r) REGION.RG_BLK_ISOL b true).istat (regionPage r) 8
    t.setFlt { t.flt with isolated := t.flt.isolated ++ [(r, b)], freshened := t.flt.freshened.filter fun x => decide (x ≠ (r, b)) }

/-- An isolated block returns to service. -/
def State.unisolate (s : State) (r b : Nat) : State :=
  let t := s.setFldBit (regionPage r) REGION.RG_BLK_ISOL b false
  t.setFlt { t.flt with isolated := t.flt.isolated.filter fun x => decide (x ≠ (r, b)) }

/-- Another block of the kind carries an isolated block's work: the other data port. -/
def State.otherCarries (s : State) (r b : Nat) : Bool :=
  decide (r = 6) && decide (b < 2) && s.flag (ethPage (1 - b)) ETH.ETH_STAT_LINK && !s.flt.isolated.contains (6, 1 - b)

/-- An event code of a region that no rule lists: a free value below its region's digit (R15, R609, log entry 2). -/
def State.regionCode (s : State) (r : Nat) : Nat × State := ((s.free).1 % 0x1000 + r * 0x1000, (s.free).2)

/-- BLOCK_ISOLATION (R47, R50): the region takes its first report. The code of its own event is not stated: a
free value (log entry 2). -/
def execBlockIsolation (region : RegionIx) (s : State) : Res :=
  let r := region.val
  let p := regionPage r
  match s.regionReports r with
  | [] => done s
  | x :: rest =>
    let t := if x.whole && s.flag p REGION.AUTO_ISOLATE then s.isolate r x.block else s
    if x.whole && s.flag p REGION.AUTO_REROUTE && t.otherCarries r x.block then
      let (code, t) := t.regionCode r
      done (s.reportsTo ((t.setRegionReports r rest).event p code 4 x.block) r)
    else if !s.flag p REGION.CHIP_ESC_EN then done t
    else
      let t := (t.setRegionReports r rest).istat p 9
      done (t.setFlt { t.flt with chip := t.flt.chip ++ [x] })

/-! The chip level (R47) -/

/-- RG_LAST_ESC of a region: the code of the chip's event. -/
def State.lastEsc (s : State) (r code : Nat) : State :=
  (s.setFld (regionPage r) REGION.RG_LAST_ESC_CODE code).setFld (regionPage r) REGION.RG_LAST_ESC_LEVEL 3

/-- A function is degraded: CHIP.STATE follows. -/
def State.degraded (s : State) : State := if s.fld chipPage CHIP.STATE = 2 then s.chipState 3 else s

/-- A beam is declared dead (R204): its head is retired from firing, and at three leaves reading service. -/
def State.beamLost (s : State) (h b : Nat) : State :=
  let (out, t) := s.bandDead h b
  let t := if t.retired h then t else t.retireHead h 1
  if out then t.headOut h else t

/-- Blocks without which the chip cannot run its owned mechanics or data path. -/
def vitalBlock (r b : Nat) : Bool :=
  decide (r = 4) || decide (r = 5) || (decide (r = 6) && decide (b = 4)) || (decide (r = 7) && decide (b < 3)) ||
  (decide (r = 8) && (decide (b = 0) || decide (b = 1) || decide (b = 4) || decide (b = 5)))

/-- A whole block is lost: the chip degrades its function or is fatal. The code is a free value where no rule
names one (log entry 2). -/
def State.blockLost (s : State) (r b : Nat) : Nat × State :=
  if r < 4 then
    let h := blockHead r b
    let p := bandPage h
    let t := (s.setFlag p BAND.BAND_STAT_NO_READ true).refreshHead h
    let t := (t.closeGathers h).event p (headCode h 0x203) 5
    let t := if t.retired h then t else t.retireHead h 4
    (headCode h 0x203, ((t.worsen p HDR.RETIRED).headOut h).degraded)
  else
    let (code, t) := s.regionCode r
    if vitalBlock r b then (code, t.fatal code)
    else
      let p := blockPage r b
      let t := if r = 6 ∧ b < 4 ∧ t.flag p ETH.ETH_STAT_LINK then t.portDown b else t
      let t := if r = 6 ∧ b = 6 then t.setRdy RDY.STEBARO false else t
      (code, ((t.worsen p HDR.DEGRADED).event p code 5).degraded)

/-- A cell is lost without a spare in a block that goes on without it (R582): the code of the chip's event. Its own rule's
event where it has one that says so; else a code of the region's own that no rule names, at severity 5. -/
def State.cellLost (s : State) (r b : Nat) : Nat × State :=
  match r, b with
  | 5, 2 => (0x5207, s)
  | 7, 2 => (0x7206, s)
  | 8, 0 => (0x8802, s)
  | _, _ =>
    let (code, t) := s.regionCode r
    (code, t.event (blockPage r b) code 5)

/-- CHIP_DEGRADE: the chip takes its first report. -/
def execChipDegrade (s : State) : Res :=
  match s.flt.chip with
  | [] => done s
  | x :: rest =>
    let t := s.setFlt { s.flt with chip := rest }
    if x.whole then
      let (c, u) := t.blockLost x.region x.block
      done ((s.reportsTo u 15).lastEsc x.region c)
    else
      let t := t.setFlt { t.flt with lost := t.flt.lost ++ [(x.region, x.block, x.cell)] }
      if x.region < 4 then
        let h := blockHead x.region x.block
        done ((s.reportsTo (if x.cell < 16 then t.beamLost h x.cell else t).degraded 15).lastEsc x.region (headCode h 0x202))
      else if x.region = 4 ∧ x.block = 0 then
        done ((s.reportsTo (((t.worsen ldpcPage HDR.DEGRADED).poolCapacity).degraded) 15).lastEsc x.region 0x4108)
      else
        let (c, t) := t.cellLost x.region x.block
        done ((s.reportsTo t.degraded 15).lastEsc x.region c)

/-! Commands whose cause is a cell -/

/-- MAC_RESIDUE_FAIL (R298): the lane's samples of the frame are discarded and count as deadline misses, one
for the frame (log entry 46). -/
def execMacResidueFail (lane : Fin 5) (s : State) : Res :=
  if !s.fldBit ctrlengPage CTRLENG.CE_STAT_LANE_MAP lane.val then done s
  else done (s.reportsTo (((s.count ctrlengPage CTRLENG.DEADLINE_MISS).istat ctrlengPage 11).laneOut lane.val) 7)

/-- COMPARATOR_FAULT (R346, R347). -/
def execComparatorFault (w : WheelIx) (c : Fin 4) (byTest : Bool) (s : State) : Res :=
  done (if byTest || s.comparatorCause w.val c.val then s.reportsTo (s.comparatorOut w.val c.val) 7 else s)

/-- WATCHDOG_EXPIRY (R583, R584): a second reset of a core within 24 powered hours retires it. -/
def execWatchdogExpiry (core : Fin 10) (s : State) : Res :=
  let c := core.val
  if s.coreSt c ≠ coreRun then done s
  else
    let t := s.count mcPage MC.WDT_EXPIRED
    let again := t.svc.wdt.any fun e => decide (e.1 = c) && decide (t.poweredS < e.2 + 86400)
    let t := t.setSvc { t.svc with wdt := t.svc.wdt ++ [(c, t.poweredS)] }
    done (s.reportsTo (if again then t.retireCore c else t.resetCore c) 8)

/-- OVERLOAD_ENTER (R586): LOAD has been above OVL_ON for 10 ms. -/
def execOverloadEnter (load : Nat) (s : State) : Res :=
  let t := (s.setFld mcPage MC.LOAD_NOW (min load 1000)).peak mcPage MC.LOAD_PEAK (min load 1000)
  if min load 1000 ≤ 10 * t.fldIn mcPage MC.WDT_CFG_OVL_ON 50 99 ∨ t.flag mcPage MC.MC_STAT_OVERLOAD then done t
  else
    let t := t.setSvc { t.svc with ovlAt := t.now }
    done (((t.setFlag mcPage MC.MC_STAT_OVERLOAD true).istat mcPage 10).event mcPage 0x8803 3).testShow

/-- OVERLOAD_LEAVE: LOAD has been below OVL_OFF for 100 ms, so the overload is at least as old. -/
def execOverloadLeave (load : Nat) (s : State) : Res :=
  let on := s.fldIn mcPage MC.WDT_CFG_OVL_ON 50 99
  let t := (s.setFld mcPage MC.LOAD_NOW (min load 1000)).peak mcPage MC.LOAD_PEAK (min load 1000)
  if 10 * t.fldIn mcPage MC.WDT_CFG_OVL_OFF 30 on ≤ min load 1000 ∨ !t.flag mcPage MC.MC_STAT_OVERLOAD ∨ t.now < t.svc.ovlAt + 100000000 then done t
  else done ((t.setFlag mcPage MC.MC_STAT_OVERLOAD false).istat mcPage 11).testShow

/-! Poison (R439) -/

/-- A consumption that recovers, or loses data or a command. -/
def State.poisonOk (s : State) : State := s.poisonUsed.event ecctabPage 0x5208 4
def State.poisonLost (s : State) : State := ((s.poisonUsed).count ecctabPage ECCTAB.POISON_LOST).event ecctabPage 0x5209 5

/-- A staged LBA's copy is held by the twin. -/
def State.lbaMirrored (s : State) (k lba : Nat) : Bool :=
  s.paired && (s.zone k).mirrorAck && (s.zone k).hasLba lba && !(s.zone k).unmirrored.contains lba

/-- LLRs of a codeword's piece become erasures, in the gather area and in the working memory (R439). -/
def State.poisonPiece (s : State) (h sa slot b : Nat) : State :=
  let lost (ps : Store (Option KeptPiece)) := ps.map fun e =>
    if e.1 = b then (e.1, e.2.map fun p => { p with llrs := noLlrs, erased := true }) else e
  let cut (j : CwJob) : CwJob :=
    if j.head = h ∧ j.sa = sa ∧ j.slot = slot then { j with llrs := j.llrs.take (2560 * b) ++ noLlrs ++ j.llrs.drop (2560 * (b + 1)) } else j
  let t := s.setPool { s.pool with
    gathers := s.pool.gathers.map fun g => if g.head = h ∧ g.sa = sa ∧ g.slot = slot then { g with pieces := lost g.pieces } else g,
    queueA := s.pool.queueA.map cut, queueB := s.pool.queueB.map cut, cells := s.pool.cells.map fun e => (e.1, e.2.map cut) }
  match t.setting h sa with
  | some x => t.putSetting (x.setSlot slot { x.slot slot with kept := lost (x.slot slot).kept })
  | none => t

/-- POISON_CONSUMED (R439): the block recovers as the table states for it. -/
def execPoisonConsumed (use : PoisonUse) (s : State) : Res :=
  match use with
  | .firedRead c cid => match s.ctx c cid with
    | some x => match x.work with
      | .read _ k first n =>
        let bs := s.readBlocks k first n
        let t := s.setPool { s.pool with released := s.pool.released.filter fun o => !(decide (o.why = .host) &&
          bs.any fun b => decide (o.head = b.1) && decide (o.blk = b.2.2) && decide (o.sa = s.placeOf b.1 b.2.1)) }
        done (t.forEach bs fun u b => u.askBlock b.1 b.2.1 b.2.2).poisonOk
      | _ => done s.poisonOk
    | none => done s.poisonOk
  | .stagedRead lane zone lba =>
    let k := 300 * lane.val + zone.val
    if s.lbaMirrored k lba then done s.poisonOk
    else
      let z := s.zone k
      let st := (List.range stripesPerZone).find? fun i => decide (lba < stripeFirstLba z.width (i + 1))
      -- the zone rolls back to the stripe before, and is listed with FLAGS bit 3
      done (((s.addInt k 8).rollback k (st.getD 0)).intAfter k 8 0).poisonLost
  | .stripeOp | .outerOp | .journal | .catalogue => done s.poisonOk
  | .ldpc h sa slot b => done (s.poisonPiece h.val sa slot.val b.val).poisonUsed
  | .headShelf h sa seg b =>
    let x := s.band h.val
    done (s.setBand h.val { x with shelf := x.shelf.map fun p =>
      if p.sa = sa ∧ p.seg = seg ∧ p.beam = b.val then { p with erased := true, samples := [] } else p }).poisonUsed
  | .core c => done (s.resetCore c.val).poisonOk
  | .ceSlot n => done ((if s.slotMode n.val = modeOff then s else s.setMode n.val modeFault).poisonOk)
  | .context c cid => done (s.complete c cid .internalError).poisonLost
  | .tcp c => match s.conn c with
    | some k => done ((s.loseConn c 2).send (.tcp c false false false true k.sndNxt k.rcvNxt)).poisonLost
    | none => done s
  | .recorder => match s.recd.log.reverse with
    | _ :: r => done (((s.withRec fun x => { x with log := r.reverse }).count erPage ER.DROP_CNT).istat erPage 9).poisonUsed
    | [] => done s
  | .queue q => match (s.oqueue q.val).items with
    | i :: is => done (((s.setOqueue q.val { s.oqueue q.val with items := is }).poisonUsed).dropItem q.val i.qseq)
    | [] => done s

end Sys2Proof.Machine
end

