-- ==== Sys2Proof/Machine/Bringup.lean ====
section
/-!
DEFINITION. Bring-up and resets (R563-R576, R614-R635), self-test (R577-R581), and the pins' events of
chapter 19.
-/
namespace Sys2Proof.Machine

/-! The trim store (R567, R568) -/

/-- The check word of a store: CRC-32 over bytes 0 to 1,019. -/
def trimCheck (ws : List Nat) : Nat := crc32 ((ws.take 255).flatMap (bytesLE 4))

/-- A store passes its check word. -/
def trimOk (ws : List Nat) : Bool := decide (ws.length = 256) && decide (ws.getD 255 0 = trimCheck ws)

/-- The ROM defaults: offsets 0, gains 1, preset 5, MAC base 0x02 followed by the low 40 bits of the serial. -/
def romStore (serial : Nat) : List Nat := (List.range 256).map fun n =>
  if n = 2 then serial % 2 ^ 32
  else if n = 3 then 0x0200 + serial / 2 ^ 32 % 256
  else if 22 ≤ n ∧ n ≤ 38 then 0
  else if 39 ≤ n ∧ n ≤ 47 then 0x4000
  else if 48 ≤ n ∧ n ≤ 55 then 5 * 2 ^ 16 + Config.romTrim n % 2 ^ 16
  else if (4 ≤ n ∧ n ≤ 15) ∨ (72 ≤ n ∧ n ≤ 254) then 0
  else Config.romTrim n % 2 ^ 32

/-- TRIM_LOAD (R568): the first source that passes its check. -/
def State.trimLoad (s : State) : State :=
  let fuse := s.svc.trim.fuse.map BitVec.toNat
  let flash := s.svc.trim.flash.map BitVec.toNat
  let fuseOk := trimOk fuse
  let flashOk := trimOk flash && Config.verify Config.firmwareKey (Config.sha384 (flash.flatMap (bytesLE 4))) s.svc.trim.sig
  let src := if fuseOk then 0 else if flashOk then 1 else 2
  let ws := if src = 0 then fuse else if src = 1 then flash else romStore s.serial
  let p := trimPage
  let t := ((s.setFld p TRIM.TRIM_STAT_SOURCE src).setFlag p TRIM.TRIM_STAT_FUSE_OK fuseOk).setFlag p TRIM.TRIM_STAT_FLASH_OK flashOk
  let t := (t.setFlag p TRIM.TRIM_STAT_MATCH (decide (fuse = flash))).setFld p TRIM.TRIM_CRC (ws.getD 255 0)
  let t := t.forEach ws.zipIdx fun u (w, n) => u.setFld p TRIM.TRIM_WORD w n
  let t := t.setReady p true
  if src = 0 then t else if src = 1 then t.event p 0x8603 3 else (t.worsen p HDR.DEGRADED).event p 0x8604 5

/-! What a chip reset keeps (R564, R575) -/

/-- A field keeps its value over a reset. -/
def State.keepFld (t s : State) (base : Nat) (f : Fld) (n : Nat := 1) : State :=
  t.forEach (List.range n) fun u i => u.setFld base f (s.fld base f i) i

/-- The registers that xSPI memory, fuses, straps and pins hold (R512, R564, R575, R617). -/
def State.keepRegs (t s : State) : State :=
  let c := [CHIP.ROLE, CHIP.SIDE, CHIP.SHELF_ID, CHIP.BOOT_SRC, CHIP.PWR_CYCLES, CHIP.TRUST_LOCKED, CHIP.DEBUG_UNLOCKED, CHIP.DOMAIN_ENROLLED]
  let t := t.forEach c fun u f => u.keepFld s chipPage f
  let e := [TE.SVN_FUSE, TE.PIN_VALID, TE.TE_STAT_OPEN, TE.DOMAIN_ID_LO, TE.DOMAIN_ID_HI, TE.DRK_KCV_LO, TE.DRK_KCV_HI]
  let t := t.forEach e fun u f => u.keepFld s tePage f
  let t := t.forEach [TE.DBG_PIN, TE.MGR_PIN0, TE.MGR_PIN1] fun u f => u.keepFld s tePage f 12
  let a := [TE.ROLE_ANCHOR_DIGEST0, TE.ROLE_ANCHOR_DIGEST1, TE.ROLE_ANCHOR_DIGEST2, TE.ROLE_ANCHOR_DIGEST3, TE.ROLE_ANCHOR_DIGEST4,
    TE.ROLE_ANCHOR_DIGEST5, TE.ROLE_ANCHOR_DIGEST6, TE.ROLE_ANCHOR_DIGEST7, TE.ROLE_ANCHOR_DIGEST8, TE.ROLE_ANCHOR_DIGEST9,
    TE.ROLE_ANCHOR_DIGEST10, TE.ROLE_ANCHOR_DIGEST11, TE.ROLE_ANCHOR_ROLE, TE.ROLE_ANCHOR_VALID]
  let t := t.forEach a fun u f => u.keepFld s tePage f 16
  let t := (t.keepFld s twPage TW.BOOT).keepFld s stPage ST.COV_CURSOR 9 |>.keepFld s stPage ST.COV_PASS 9
  -- head write retirements (R277); a disc's are in its zone state
  let t := t.forEach ((List.range 33).filter fun h => s.retired h && decide (s.fld (firestatPage h) FIRESTAT.RETIRE_CAUSE ≠ 5)) fun u h =>
    let u := if h < 32 then u.setFldBit firePage FIRE.WR_RETIRE_LO h true else u.setFldBit firePage FIRE.WR_RETIRE_HI 0 true
    (u.keepFld s (firestatPage h) FIRESTAT.RETIRE_CAUSE).setFld (firestatPage h) FIRESTAT.STATE 5
  -- what pins show
  let t := t.forEach (List.range 9) fun u w => (u.keepFld s (wheelPage w) WHEEL.WH_STAT_CLAMP_SNS).keepFld s (wheelPage w) WHEEL.WH_STAT_OWNX_IN
  let t := t.keepFld s loaderPage LOADER.LD_STAT_OWNX_IN
  let t := t.forEach (List.range 38) fun u x => u.setFld (axisBlock x) AXIS.AX_STAT_SW (s.fld (axisBlock x) AXIS.AX_STAT_SW)
  let (kind, intent, wheel, store) := s.mot.custodyXspi
  let l := loaderPage
  let t := (((t.setFld l LOADER.CUSTODY_KIND kind).setFld l LOADER.CUSTODY_INTENT intent).setFld l LOADER.CUSTODY_WHEEL wheel).setFld l LOADER.CUSTODY_STORE store
  -- the journal's numbering continues from its ring
  t.setFld journalPage JOURNAL.JR_SEQ ((s.jr.xspi.map fun r => r.seq).foldl max 0)

/-- The newest mirrored records, up to 512 KiB (R601). -/
def newestMirrored : List Record → Nat → List Record
  | [], _ => []
  | r :: rs, left => if left < r.ev.units then [] else { r with loaded := true } :: newestMirrored rs (left - r.ev.units)

/-- The event recorder after a reset (R594, R601). -/
def State.keepEvents (s : State) : RecSt :=
  let x := State.reset.recd
  let top := (s.recd.mirror.map fun r => r.seq).foldl max 0
  { x with mirror := s.recd.mirror, log := (newestMirrored s.recd.mirror.reverse 8192).reverse, nextSeq := if s.recd.mirror.isEmpty then 1 else top + 1 }

/-- A zone as the catalogue and the journal know it: replay raises its pointers again (R398). -/
def ZoneSt.asFired (z : ZoneSt) : ZoneSt :=
  { z with enc := z.fired, wp := min z.wp (stripeFirstLba z.width z.fired), staged := [], unmirrored := [], replaying := false, finish := false }

/-- Zones of loads as they stand outside the controller. -/
def State.keptZones (s : State) : List (Nat × Store ZoneSt) :=
  let others := s.host.zoneSets.filter fun e => !s.load.mounted || decide (e.1 ≠ s.load.id)
  if s.load.mounted then others ++ [(s.load.id, s.st.zones.map fun e => (e.1, e.2.asFired))] else others

/-- A re-throw's progress is in xSPI memory: one cut off waits to resume on its sagger (R413). -/
def State.rtKept (s : State) : RethrowSt :=
  let rt := s.st.rt
  let r := State.reset.st.rt
  if rt.op = 0 then { r with partials := rt.partials, pending := rt.pending }
  else { r with partials := rt.partials ++ [s.rtProgress], pending := some (rt.pos, rt.op) }

/-- The state that a chip reset leaves (R564): HBM, the cache and every SRAM are lost. The catalogue's
content stands for what the twin, the manager and the discs hold of it (log entry 47). -/
def State.afterReset (s : State) (porst : Bool) : State :=
  let r := State.reset
  let te : TeSt := { s.te with slots := [], requests := 0, healthOk := true, enrol := none, unlocking := none,
                               challenge := if porst then none else s.te.challenge }
  let wheels := ((List.range 9).filter fun w => s.flag (wheelPage w) WHEEL.WH_STAT_CLAMP_SNS).map fun w => (w, { WheelSt.off with sense := some 0 })
  let ect := (s.mem.ect.map fun e => (e.1, e.2.filter fun x => decide (2 ≤ x.state))).filter fun e => !e.2.isEmpty
  let powered := if porst then s.svc.poweredXspi else s.poweredS
  let t : State := { r with
    pending := s.pending, out := s.out, freeCount := s.freeCount, jtag := s.jtag, aon := if porst then [] else s.aon
    recd := s.keepEvents, mot := { r.mot with custodyXspi := s.mot.custodyXspi }, wheels := wheels
    jr := { r.jr with xspi := s.jr.xspi, run := s.jr.run, interrupted := s.jr.interrupted }
    mem := { r.mem with retired := s.mem.retired, ect := ect }, te := te
    host := { r.host with nss := s.host.nss, zoneSets := s.keptZones, retired := s.host.retired, seals := s.host.seals, stored := s.host.stored,
                          holdPwr := s.host.holdPwr }
    st := { r.st with cat := s.st.cat, rt := s.rtKept }
    svc := { r.svc with trim := s.svc.trim, began := s.svc.began, overdue := s.svc.overdue, wdt := s.svc.wdt, fatals := s.svc.fatals,
                        powered := powered, poweredXspi := powered } }
  t.keepRegs s

/-! The steps of bring-up (R563) -/

/-- One image of boot flash (R529, R530): the factory's where nothing has been stored. -/
def State.imageTry (s : State) (i : Nat) : Bool × State :=
  match s.host.stored.getD i none with
  | some img => s.imageCheck img
  | none => if Config.factorySvn < s.svnFuse then (false, s.event tePage 0x8109 7 0xFF (Config.factorySvn % 2 ^ 32)) else (true, s)

/-- The boot ROM verifies the image that BOOT_SRC selects, then the other (R529). -/
def State.bootImage (s : State) : Option Nat × State :=
  let b := s.fld chipPage CHIP.BOOT_SRC
  let (ok, t) := s.imageTry b
  if ok then (some b, t)
  else
    let (ok', u) := t.imageTry (1 - b)
    (if ok' then some (1 - b) else none, u)

/-- The verified image runs: cores 0 to 7 are released, 8 and 9 are spares. Every SRAM macro is initialised in the same
step; CM and the firing encoders, which have no page, then stand checked (R637, log entry 152). -/
def State.runImage (s : State) (i : Nat) : State :=
  let img := s.host.stored.getD i none
  let t := s.setHost { s.host with running := img }
  let t := t.setFlt { t.flt with sharedOk := [(7, 2), (4, 3)] }
  let (v, n) := match img with
    | some x => (x.version, x.svn)
    | none => (Config.factoryVersion, Config.factorySvn)
  let t := (t.setFld chipPage CHIP.FW_VER v).setFld tePage TE.SVN_RUNNING n
  let t := (t.setRdy RDY.FW_VERIFIED true).milestone 0
  let t := t.forEach (List.range 10) fun u c => if c < 8 then u.setCore c coreRun c else u.setCore c coreSpare 15
  t.coresShow

/-- The key store is unsealed (R507, R514): one copy that fails is rewritten from the other; with both lost
no domain key is held. -/
def State.openKeys (s : State) (keys : Bool × Bool) : State :=
  let lost := !keys.1 && !keys.2
  let t := if lost then
      let u := s.setTe { s.te with drk := none, ens := [], nk := [], psks := [], others := [], copies := (false, false) }
      (u.istat tePage 10).event tePage 0x810A 5
    else (if keys.1 && keys.2 then s else s.istat tePage 10).setTe { s.te with copies := (true, true) }
  let ok := match t.te.drk with
    | some k => decide (Config.kcv k % 2 ^ 64 = t.pair tePage TE.DRK_KCV_LO TE.DRK_KCV_HI)
    | none => false
  let t := ((t.setFlag chipPage CHIP.DOMAIN_ENROLLED t.te.drk.isSome).setFlag tePage TE.TE_STAT_ENROLLED t.te.drk.isSome).setFlag tePage TE.TE_STAT_DRK_OK ok
  let t := (t.setFlag tePage TE.TE_STAT_DRBG_OK true).setFlag tePage TE.TE_STAT_STORE_OK (!lost)
  let t := (t.setFld tlsPage TLS.PSK_CNT t.te.psks.length).keysShow
  t.setRdy RDY.DOMAIN ok

/-- Retired link lanes stay out of training (R146). -/
def State.showRetiredLanes (s : State) : State :=
  s.forEach (List.range 33) fun u h => u.forEach (List.range 11) fun v i => if v.laneRetired h i then v.setLaneFailed h i true else v

/-- MC runs (R563): boot number, key store, links and HBM training, readiness of the pages; the CE programme
is loaded. -/
def State.mcRuns (s : State) (keys : Bool × Bool) : State :=
  let t := (s.setReady mcPage true).setRdy RDY.MC_RUN true |>.milestone 1
  let t := t.setFld twPage TW.BOOT (t.fld twPage TW.BOOT + 1)
  let t := t.openKeys keys
  let pages := [chipPage, rdyPage, ckPage, stPage, erPage, tePage, twPage, hyPage, motionPage, kickPage, loaderPage, ldpcPage, outerPage,
    mediacryptPage, ecctabPage, tlsPage, stebaroPage, obsqPage, ctrlengPage] ++ (List.range 9).map wheelPage ++ (List.range 9).map regionPage
  let t := t.forEach pages fun u p => u.setReady p true
  let t := t.showRetiredLanes
  let t := t.forEach (List.range 33) fun u h => u.startTraining h 1 false
  let t := (t.startHbmTraining 0).startHbmTraining 1
  let t := (t.retShow).recRegs
  let t := (t.setRdy RDY.CE_LOADED true).milestone 6
  let t := t.setTwState 1
  t.chipState 2

/-- Bring-up (R563): trim store, PLLs, image, MC. With no valid image the controller stays in state 1. -/
def State.bringUp (s : State) (keys : Bool × Bool) : State :=
  let t := s.setPair hyPage HY.SERIAL_LO HY.SERIAL_HI Config.serial
  let t := t.setNqn t.serial
  let c := ckPage
  let t := ((t.setFld c CK.REF_SYS 1).setFld c CK.REF_AO 1).setFld c CK.REF_ETH 3 |>.setFld c CK.REF_HEAD 15
  let t := t.trimLoad
  let t := (t.setFld c CK.PLL_LOCK (2 ^ 23 - 1)).setFld c CK.ISL_RUN1 (2 ^ 29 - 2)
  let t := t.event chipPage 0xF003 1 0xFF (t.fld c CK.RESET_CAUSE)
  match t.bootImage with
  | (some i, u) => (u.runImage i).mcRuns keys
  | (none, u) => u.setFld chipPage CHIP.FATAL_CODE 0x8108

/-- A chip reset with its cause, and the bring-up that follows (R564). -/
def State.chipReset (s : State) (cause : Nat) : State :=
  ((s.afterReset false).setFld ckPage CK.RESET_CAUSE (2 ^ cause)).bringUp s.te.copies

/-- The chip is held in reset (R30): every output at its deasserted level, nothing running. -/
def State.holdReset (s : State) (why : HeldReset) (cause : Nat) : State :=
  let t := ((s.afterReset false).setFld ckPage CK.RESET_CAUSE (2 ^ cause)).setFld chipPage CHIP.STATE 0
  t.setSvc { t.svc with held := why }

/-- A chip held in reset is brought up. -/
def State.leaveReset (s : State) : State :=
  ((s.setSvc { s.svc with held := .no }).setFld chipPage CHIP.STATE 1).bringUp s.te.copies

/-! Resets and pins -/

/-- PORST_N_RELEASE (R563, R617, R626): straps are sampled, PWR_CYCLES rises. -/
def execPorstNRelease (straps : Straps) (trim : TrimSources) (holdup : Bool) (keys : Bool × Bool) (s : State) : Res :=
  let t := s.afterReset true
  let c := chipPage
  let t := (t.setFlag c CHIP.ROLE straps.manager).setFlag c CHIP.SIDE straps.sideB
  let t := (t.setFld c CHIP.SHELF_ID straps.shelf.val).setFld c CHIP.BOOT_SRC straps.bootSrc.val
  let t := (t.setFld c CHIP.PWR_CYCLES (t.fld c CHIP.PWR_CYCLES + 1)).setFlag c CHIP.DEBUG_UNLOCKED false
  let t := t.setSvc { t.svc with trim := trim, hold := holdup }
  done ((t.setFld ckPage CK.RESET_CAUSE 1).bringUp keys)

/-- PORST_N_ASSERTION (R30): the chip is in reset until PORST_N rises. -/
def execPorstNAssertion (s : State) : Res := done (s.holdReset .porst 0)

/-- PWRGD_FALL (R620): chip reset, cause bit 3; bring-up follows once power is good again (log entry 48). -/
def execPwrgdFall (s : State) : Res := done (if s.svc.held = .porst then s else s.holdReset .power 3)

/-- THERMAL_TRIP (R635): DIE_TEMP has been at 115 degrees for 1 ms. -/
def execThermalTrip (s : State) : Res :=
  done (if s.svc.held = .porst then s else ((s.holdReset .thermal 2).setFld chipPage CHIP.DIE_TEMP 920).setFld chipPage CHIP.DIE_TEMP_PEAK 920)

/-- DIE_TEMP and its peak, in 0.125 degrees, signed. -/
def State.dieTemp (s : State) (v : BitVec 12) : State :=
  let t := s.setFld chipPage CHIP.DIE_TEMP v.toNat
  if t.fldS chipPage CHIP.DIE_TEMP_PEAK < v.toInt then t.setFld chipPage CHIP.DIE_TEMP_PEAK v.toNat else t

/-- THERMAL_TRIP_END (R635): below 100 degrees bring-up runs. -/
def execThermalTripEnd (temp : BitVec 12) (s : State) : Res :=
  done (if s.svc.held = .thermal ∧ temp.toInt < 800 then s.leaveReset.dieTemp temp else s)

/-- TEMP_ALARM (R62, R628): page bit 9 and 0xF002; ALERT_N goes low. -/
def execTempAlarm (temp : BitVec 12) (s : State) : Res :=
  let t := s.dieTemp temp
  if temp.toInt < t.fldS chipPage CHIP.TEMP_ALARM then done t
  else done ((t.istat chipPage 9).event chipPage 0xF002 4)

/-- TEMP_ALARM_CLEAR (R628): ALERT_N follows its causes. -/
def execTempAlarmClear (temp : BitVec 12) (s : State) : Res := done (s.dieTemp temp)

/-- HBM_OVERTEMP (R635): the refresh rate rises as JESD238 has it, which no register shows. -/
def execHbmOvertemp (k : StackIx) (s : State) : Res := done ((s.istat (hbmPage k.val) 12).event (hbmPage k.val) 0x520C 4)

/-- FATAL_RESETS: fatal resets within the last powered hour (R591). -/
def State.recentFatals (s : State) : List Nat := s.svc.fatals.filter fun t => decide (s.poweredS < t + 3600)

/-- FATAL_RESET (R566): FATAL_HOLD after a fatal event, unless three fell within one powered hour. -/
def execFatalReset (s : State) : Res :=
  let n := s.recentFatals
  if s.fld chipPage CHIP.STATE ≠ 6 ∨ !s.flag mcPage MC.BOOT_CFG_FATAL_RESET_EN ∨ 3 ≤ n.length ∨
      s.now < s.svc.fatalAt + s.fldIn mcPage MC.BOOT_CFG_FATAL_HOLD 1 255 * 100000000 then done s
  else
    let t := (s.setSvc { s.svc with fatals := n ++ [s.poweredS] }).chipReset 5
    done (t.setFld mcPage MC.FATAL_RESETS (n.length + 1))

/-- BOOT_HOLD_EXPIRY (R565): alone BOOT_HOLD after MC_RUN, whose time RDY_TIME keeps, every token is taken. -/
def execBootHoldExpiry (s : State) : Res :=
  let hold := s.fldIn mcPage MC.BOOT_CFG_BOOT_HOLD 1 255 * 100000000
  if !s.flag rdyPage RDY.MC_RUN ∨ s.tw.everPaired ∨ s.twState ≠ 1 ∨ !s.twinAbsent ∨ s.now < s.fld rdyPage RDY.RDY_TIME 1 * 1000 + hold then done s
  else done ((s.event twPage 0x8602 3).takeover)

/-- POWERED_TIME_SAVE (R576). -/
def execPoweredTimeSave (s : State) : Res := done s.savePowered

/-- LD_OWNX_FALL (R547): the receiver of a loader handover asserts LD_OWN. -/
def execLdOwnxFall (s : State) : Res :=
  done ((s.setFlag loaderPage LOADER.LD_STAT_OWNX_IN false).hoGo)

/-! The catalogue (R574, R569) -/

/-- Main heads of clamped discs, ready here. -/
def State.catHeads (s : State) : List Nat := (s.clamped.flatMap fun w => [4 * w, 4 * w + 1, 4 * w + 2, 4 * w + 3]).filter fun h => s.headObeys h

/-- The catalogue is loaded (R569, R574): namespaces have their roles, the load on the wheels is identified,
and replay is over when none is mounted. -/
def State.catalogueIn (s : State) : State :=
  let t := s.setRdy RDY.CATALOGUE true
  let t := t.forEach t.host.nss fun u e => match e.2 with
    | some n => u.assignRole e.1 n.home
    | none => u
  let t := if !t.load.mounted ∧ t.load.phase = .none ∧ !t.clamped.isEmpty then
      (t.setLoad { t.load with phase := .mounting, target := 0, members := [], refused := [] }).loadTo 3 0
    else if !t.load.mounted then t.setRdy RDY.JOURNAL_REPLAYED true
    else t
  t.catResume

/-- CATALOGUE follows the first source that answers: the twin, the manager, the clamped discs. -/
def State.catalogueGo (s : State) : State :=
  if s.flag rdyPage RDY.CATALOGUE ∨ !s.flag rdyPage RDY.ADMIN then s
  else
    let twins : Bool := s.paired && (match s.tw.twin with
      | some b => bitOf b.rdySys RDY.CATALOGUE.lsb
      | none => false)
    if twins || s.flag hyPage HY.HY_STAT_REGISTERED then s.catalogueIn
    else if !s.paired ∧ s.twState ≠ 3 then s
    else
      let t := s.forEach s.catHeads State.readCatalogue
      let hs := t.catHeads
      if hs.all (fun h => decide (1024 ≤ t.catAt h)) && (t.clamped.all fun w => !t.whOwns w || hs.contains (4 * w)) then t.catalogueIn else t

/-- Bring-up gives each owned wheel with a clamped sagger its speed once it has measured (R29, R563). -/
def State.bootWheels (s : State) : State :=
  if !s.flag rdyPage RDY.CE_LOADED ∨ s.svc.hold ∨ 2 ≤ s.fld nvmePage NVME.PS_CUR then s
  else
    let due := (List.range 9).filter fun w => !s.svc.spun.contains w && s.whOwns w && s.clampReady w &&
      (decide (s.whState w = whOff) || decide (s.whState w = whRest) || decide (s.whState w = whRunning))
    s.forEach due fun u w =>
      let u := u.setSvc { u.svc with spun := u.svc.spun ++ [w] }
      (u.setFld (wheelPage w) WHEEL.SPD_CMD (psRpm (u.fld nvmePage NVME.PS_CUR))).spdWritten w

/-- A chip whose power is good again leaves its reset. -/
def State.resetGo (s : State) : State := if s.svc.held = .power then s.leaveReset else s

/-! Self-test (R577-R581) -/

/-- The object that the cursor of a test names: page number and cell (R577, R578; log entry 49). -/
def testObject (t n : Nat) : Nat × Nat :=
  let pg (a : Nat) : Nat := a / 0x1000
  match t with
  | 1 => (pg (bandPage (n / 17)), n % 17)
  | 2 =>
    if n < 363 then (pg (headPage (n / 11)), n % 11)
    else if n < 371 then (pg (ethPage 0), n - 363)
    else if n < 379 then (pg (ethPage 1), n - 371)
    else if n < 383 then (pg (ethPage 2), n - 379)
    else (pg (ethPage 3), 0)
  | 3 => (pg ldpcPage, n)
  | 4 => if n < 5 then (pg mediacryptPage, n) else (pg tlsPage, n - 5)
  | 5 => if n < 38 then (pg ecctabPage, if n < 6 then n else n + 2) else (pg setterPage, n - 38)
  | 6 => (pg mcPage, n)
  | 7 => (pg ctrlengPage, n)
  | 8 => (pg (wheelPage n), 0)
  | _ => (pg (hbmPage n), 0)

/-- The cells of a page that a test covers; none: the target is invalid. -/
def testCells (t page : Nat) : List Nat :=
  ((List.range (covObjects t)).map (testObject t)).filterMap fun o => if o.1 = page then some o.2 else none

def State.covCursor (s : State) (t : Nat) : Nat := s.fld stPage ST.COV_CURSOR (t - 1)

/-- The spare that a rotating test needs is free (R577). -/
def State.spareFree (s : State) (t page cell : Nat) : Bool :=
  let p := page * 0x1000
  match t with
  | 1 => decide (cell = 16) || (decide (s.fld p BAND.CC_MAP_SPARE_BEAM = 0x1F) && !s.flag p BAND.CC_MAP_REDET_BUSY && !s.fldBit p BAND.CC_FAILED 16)
  | 3 => !s.fldBit p LDPC.CELL_MAP cell || decide (0 < s.fld p LDPC.POOL_STAT_SPARE_IDLE)
  | 4 | 5 | 7 => decide (0 < s.fld p HDR.SPARES_LEFT) || decide (p = ecctabPage)
  | 6 => decide (s.coreSt cell = coreSpare) || (List.range 10).any fun c => decide (s.coreSt c = coreSpare)
  | 8 => decide (s.whState (page - 0x80) = whOff) || decide (s.whState (page - 0x80) = whRest)
  | _ => true

/-! Idle slots (R577, R578) -/

/-- The idle conditions that are kept: heads 0 to 32, the decoder pool 33, MC 34, CE 35, wheels from 36. -/
def idleKey (t page : Nat) : Option Nat :=
  match t with
  | 1 => some (page - bandPage 0 / 0x1000)
  | 3 => some 33
  | 6 => some 34
  | 7 => some 35
  | 8 => some (36 + (page - 0x80))
  | _ => none

/-- The condition of a key holds now. What a block's own load is for tests 4 and 5 no register shows: their row says
that the slot is idle (log entry 169). -/
def State.idleNow (s : State) (k : Nat) : Bool :=
  if k < 33 then !s.headFires k && s.pool.wants.all (fun r => decide (r.head ≠ k) || !r.on)
  else if k = 33 then decide (2 * s.fld ldpcPage LDPC.LOAD < s.fld ldpcPage LDPC.CAPACITY)
  else if k = 34 then decide (s.fld mcPage MC.LOAD_NOW < 500)
  else if k = 35 then
    let lanes := s.fld ctrlengPage CTRLENG.CE_STAT_LANES
    decide (s.loadPermille none * lanes ≤ s.loadLimit * (lanes - 1))
  else decide (s.whState (k - 36) = whOff) || decide (s.whState (k - 36) = whRest)

/-- Conditions found broken, each millisecond. -/
def State.idleMarks (s : State) : State :=
  s.forEach ((List.range 45).filter fun k => !s.idleNow k) fun u k =>
    u.setSvc { u.svc with busyAt := storePut (fun _ => 0) u.svc.busyAt k u.now }

/-- An idle slot of an object: its condition has held for IDLE_MIN. -/
def State.idleSlot (s : State) (t page : Nat) : Bool :=
  match idleKey t page with
  | none => true
  | some k => s.idleNow k && decide (storeFind (fun _ => 0) s.svc.busyAt k + s.fldIn stPage ST.ST_CFG_IDLE_MIN 1 255 * 10000000 ≤ s.now)

/-- A test of an object runs. -/
def State.runTest (s : State) (r : TestRun) : State :=
  let t := s.setSvc { s.svc with tests := s.svc.tests ++ [r] }
  let t := if r.test = 1 then t.setFlag (r.page * 0x1000) BAND.CC_MAP_TEST_BUSY true else t
  let t := if r.test = 6 ∧ t.coreSt r.cell = coreSpare then t.setCore r.cell coreTest 15 else t
  t.testShow

/-- The page has no test running, permits it, and ST is on. -/
def State.mayTest (s : State) (page : Nat) : Bool :=
  s.flag stPage ST.ST_CFG_ST_EN && !s.svc.tests.any (fun r => decide (r.page = page)) && s.flag (page * 0x1000) HDR.TEST_PERMIT

/-- The cursor moves past an object; at the end of a pass it returns to 0 (R578, R579). -/
def State.cursorOn (s : State) (t : Nat) : State :=
  let n := s.covCursor t + 1
  if n < covObjects t then s.setFld stPage ST.COV_CURSOR n (t - 1)
  else
    let u := (s.setFld stPage ST.COV_CURSOR 0 (t - 1)).setFld stPage ST.COV_PASS (s.fld stPage ST.COV_PASS (t - 1) + 1) (t - 1)
    u.setSvc { u.svc with began := storePut (fun _ => 0) u.svc.began t u.poweredS, overdue := u.svc.overdue.filter fun x => x != t }

/-- SELF_TEST_START (R578, R580): in an idle slot, the object at the cursor, or the one asked for. Objects
whose page does not permit it are skipped. -/
def execSelfTestStart (test : TestIx) (kind : TestKind) (s : State) : Res :=
  let n := test.val + 1
  if !s.accepts stPage then done s
  else match kind with
  | .request => match s.svc.request with
    | some q => match q.cells with
      | c :: _ =>
        if q.test = n ∧ s.mayTest q.page ∧ s.spareFree n q.page c ∧ s.idleSlot n q.page ∧ s.mcSpare then
          done ((s.runTest { test := n, page := q.page, cell := c, kind := .request }).setFld stPage ST.REQ_STAT_STATE 2)
        else done s
      | [] => done s
    | none => done s
  | .pass | .forced =>
    let o := testObject n (s.covCursor n)
    let p := o.1 * 0x1000
    if !s.fldBit stPage ST.TEST_MASK test.val ∨ !s.flag stPage ST.ST_CFG_ST_EN ∨ !s.mcSpare then done s
    else if !s.flag p HDR.TEST_PERMIT then done (s.cursorOn n)
    else if s.mayTest o.1 ∧ s.spareFree n o.1 o.2 ∧ s.idleSlot n o.1 then done (s.runTest { test := n, page := o.1, cell := o.2, kind := .pass })
    else done s

/-- A condemned object (R581): its block treats it as a faulted cell; a spare that fails is retired. -/
def State.condemn (s : State) (r : TestRun) : State :=
  let p := r.page * 0x1000
  let t := (s.count stPage ST.TEST_FAIL).istat stPage 9
  let t := ((t.setFld stPage ST.LAST_FAIL_TEST r.test).setFld stPage ST.LAST_FAIL_PAGE r.page).setFld stPage ST.LAST_FAIL_CELL r.cell
  let t := (t.setFld stPage ST.LAST_FAIL_VALID 1).event stPage 0x8701 4 r.cell p
  match pageAt p with
  | none => t
  | some g =>
    let (rg, b) := g.place
    match r.test with
    | 2 =>
      -- a lane's own figures count only where they are a cause of R143 in a link that is up (R146)
      if p < 0x50000 then
        (if t.linkState g.idx = 5 ∧ t.laneHasCause g.idx r.cell ∧ !t.laneFailed g.idx r.cell then t.laneFault g.idx r.cell else t)
      else t.cellFault rg b r.cell 4 false
    | 5 => if p = setterPage then t.reportsTo (t.wayOut r.cell) rg else t
    | 6 => t.reportsTo (t.retireCore r.cell) rg
    | 8 => t.reportsTo (t.comparatorOut g.idx r.cell) rg
    | 9 => t
    | _ => t.cellFault rg b r.cell 4 false

/-- SELF_TEST_DONE (R578, R581): coverage is written; page bit TEST_DONE of the object. -/
def execSelfTestDone (test : TestIx) (kind : TestKind) (pass : Bool) (s : State) : Res :=
  let n := test.val + 1
  match s.svc.tests.find? fun r => decide (r.test = n) && decide (r.kind = kind) with
  | none => done s
  | some r =>
    let t := (s.testLeaves r).istat (r.page * 0x1000) 5
    let t := if r.test = 6 ∧ pass ∧ t.coreSt r.cell = coreTest then (t.setCore r.cell coreSpare 15).coresShow else t
    let t := if pass then t.count stPage ST.TEST_PASS else t.condemn r
    match kind with
    | .pass => done (t.cursorOn n)
    | .forced => done t
    | .request => match t.svc.request with
      | some q =>
        let q' := { q with cells := q.cells.drop 1, failed := q.failed || !pass }
        match q'.cells with
        | [] => done ((t.setSvc { t.svc with request := none }).reqDone (boolNat q'.failed))
        | c :: _ =>
          -- the next cell of a forced request follows at once, or is refused
          let u := t.setSvc { t.svc with request := some q' }
          if !q'.force then done (u.setFld stPage ST.REQ_STAT_STATE 1)
          else if u.spareFree n q'.page c ∧ u.flag (q'.page * 0x1000) HDR.TEST_PERMIT then
            done (u.runTest { test := n, page := q'.page, cell := c, kind := .request })
          else done ((u.setSvc { u.svc with request := none }).reqDone 3)
      | none => done t

/-- SELF_TEST_EARLY_END (R581): the object returns to service. -/
def execSelfTestEarlyEnd (test : TestIx) (why : EarlyEnd) (s : State) : Res :=
  let cause : Bool := match why with
    | .spareNeeded => true
    | .holdup => s.fire.holdup
    | .wheelTaken => decide (test.val = 7)
  match s.svc.tests.find? fun r => decide (r.test = test.val + 1) with
  | some r => if cause then done (s.testEarly r) else done s
  | none => done s

/-- AGE of a pass in powered seconds. -/
def State.passAge (s : State) (t : Nat) : Nat := s.poweredS - storeFind (fun _ => 0) s.svc.began t

/-- ST_PERIOD in powered seconds. -/
def State.stPeriod (s : State) : Nat := 3600 * s.fldIn stPage ST.ST_CFG_ST_PERIOD 1 255

/-- PASS_OVERDUE (R579): 0x8702 once per pass. -/
def execPassOverdue (test : TestIx) (s : State) : Res :=
  let t := test.val + 1
  if s.passAge t < s.stPeriod ∨ s.svc.overdue.contains t ∨ !s.fldBit stPage ST.TEST_MASK test.val then done s
  else done (((s.setSvc { s.svc with overdue := s.svc.overdue ++ [t] }).istat stPage 10).event stPage 0x8702 3 0xFF t)

/-- FORCED_TEST_TICK (R579): with AUTO_FORCE, the object at the cursor of an overdue pass, one each 10 powered minutes. -/
def execForcedTestTick (test : TestIx) (s : State) : Res :=
  let t := test.val + 1
  let o := testObject t (s.covCursor t)
  let due : Bool := match s.svc.forcedAt.find? fun e => decide (e.1 = t) with
    | some e => decide (e.2 + 600 ≤ s.poweredS)
    | none => true
  if !s.flag stPage ST.ST_CFG_AUTO_FORCE ∨ !s.svc.overdue.contains t ∨ !due then done s
  else if !s.flag (o.1 * 0x1000) HDR.TEST_PERMIT then done (s.cursorOn t)
  else if s.mayTest o.1 ∧ s.spareFree t o.1 o.2 then
    let u := s.setSvc { s.svc with forcedAt := (s.svc.forcedAt.filter fun e => decide (e.1 ≠ t)) ++ [(t, s.poweredS)] }
    done ((u.event stPage 0x8703 2 o.2 (o.1 * 0x1000)).runTest { test := t, page := o.1, cell := o.2, kind := .pass })
  else done s

/-- A TEST_REQ that no other holds up (R580). -/
def State.testReq (s : State) (test page cell : Nat) (force : Bool) : State :=
  let all := testCells test page
  let cells := if cell = 0xFF then all else all.filter fun c => c == cell
  let t := (s.setFld stPage ST.REQ_STAT_STATE 1).setFld stPage ST.REQ_STAT_RESULT 0
  if test = 0 ∨ 9 < test ∨ cells.isEmpty then t.reqDone 4
  else
    let q : TestReq := { test := test, page := page, cells := cells, failed := false, force := force }
    if !force then t.setSvc { t.svc with request := some q }
    else match cells with
      | c :: _ =>
        if !t.spareFree test page c ∨ !t.flag (page * 0x1000) HDR.TEST_PERMIT then t.reqDone 3
        else
          let t := (t.setSvc { t.svc with request := some q }).event stPage 0x8703 2 c (page * 0x1000)
          (t.runTest { test := test, page := page, cell := c, kind := .request }).setFld stPage ST.REQ_STAT_STATE 2
      | [] => t.reqDone 4

/-- A request made while another is pending or running is refused with CLASS 8 (R580). -/
def State.testReqRefused (s : State) : Bool := s.svc.request.isSome

end Sys2Proof.Machine
end

