-- ==== Sys2Proof/Machine/Activate.lean ====
section
/-!
DEFINITION. Handing the whole shelf over and what follows it: firmware activation (R498), CHIP_RESET (R62), debug
unlock (R532).
-/
namespace Sys2Proof.Machine

/-- Every owned object goes to the twin; without a paired twin the heads park instead (R547). -/
def State.handAll (s : State) : State :=
  if !s.paired then s.forEach ((List.range 33).filter fun h => s.headObeys h && decide (s.seqState h ≠ sqParked)) fun u h => u.parkHead h
  else
    let ns := (List.range 44).filter fun n => s.tokenMine n && (s.hoOf n).isNone
    (s.hoStart ns s.tw.writers).chipState 4

/-- CHIP_RESET 0x0000_A5A5 (R62): the reset follows the handover. -/
def State.resetHandover (s : State) : State :=
  let t := s.handAll
  t.setTw { t.tw with after := setBit t.tw.after 0 true }

/-- What waits for the handover to end: the drain of an activation, a reset, an unlock, which waits at most 1 s. -/
def State.handedGo (s : State) : State :=
  let past : Bool := decide (s.twState ≠ 6)
  let t := if past ∧ s.fld nvmePage NVME.FW_ACT = 1 then (s.setFld nvmePage NVME.FW_ACT 2).chipState 5 else s
  let t := match t.te.unlocking with
    | some since =>
      if past ∨ since + 1000000000 ≤ t.now then
        let u := t.unlockNow
        if u.fld chipPage CHIP.STATE = 4 then u.chipState 2 else u
      else t
    | none => t
  if past ∧ bitOf t.tw.after 0 then t.chipReset 1 else t

/-- The twin quiesces, as its HEARTBEAT says: it is activating (R498). -/
def State.twinActivating (s : State) : Bool :=
  decide (s.fld twPage TW.TW_STAT_TWIN_STATE = 4) || decide (s.fld twPage TW.TW_STAT_TWIN_STATE = 5)

/-- FIRMWARE_COMMIT_ACTIVATE (R498, R530): the image is verified and stored, the command completes, and the shelf
goes to the twin. -/
def execFirmwareCommitActivate (c : ConnIx) (cid : Nat) (s : State) : Res :=
  done (s.adminWith c.val cid 4 fun u =>
    if !u.paired ∨ u.twinActivating then u.complete c.val cid .fwProhibited
    else match u.host.fw with
      | none => u.complete c.val cid .invalidImage
      | some img =>
        let (ok, t) := u.imageCheck img
        if !ok then (t.setHost { t.host with fw := none }).complete c.val cid .invalidImage
        else
          let t := (((t.storeImage img).complete c.val cid .ok).notice .fwAct).event nvmePage 0x6107 2
          State.handAll ((t.setHost { t.host with fwAt := t.now }).setFld nvmePage NVME.FW_ACT 1))

/-- A command still in flight at 2 s (R498): it completes with Asymmetric Access Transition, and the zone of a
write whose data is here gets its C2h entry. -/
def State.drainEnd (s : State) (x : Ctx) : State :=
  let t := match x.work with
    | .durable _ k _ _ _ _ => s.addInt k 4
    | .write ns k _ n _ _ zeroes _ =>
      let size := match s.nsp ns with
        | some d => if zeroes then 0 else n * d.lbaBytes
        | none => 0
      if x.data.length < size then s else s.addInt k 4
    | _ => s
  t.complete x.conn x.cid .anaTransition

/-- FW_ACTIVATION_DRAIN_END (R498): 2 s after the commit, the controller resets into the new image. -/
def execFwActivationDrainEnd (s : State) : Res :=
  if (s.fld nvmePage NVME.FW_ACT ≠ 1 ∧ s.fld nvmePage NVME.FW_ACT ≠ 2) ∨ s.now < s.host.fwAt + 2000000000 then done s
  else
    let t := s.forEach (s.host.ctxs.filter fun x => decide (x.work ≠ .aer)) fun u x => u.drainEnd x
    done ((t.setFld nvmePage NVME.FW_ACT 3).chipReset 1)

/-- DEBUG_UNLOCK (R532): a signature that fails raises 0x8102 and changes nothing else. -/
def execDebugUnlock (sig : List Nat) (s : State) : Res :=
  if !s.unlockSigned sig then done (s.event tePage 0x8102 7)
  else if !s.paired then done s.unlockNow
  else done (State.handAll (s.setTe { s.te with unlocking := some s.now }))

end Sys2Proof.Machine
end

