-- ==== Sys2Proof/Machine/Spine.lean ====
section
/-!
DEFINITION. The spine (R37, R45, R46, R50): the crossbar's ports and the blocks on them, and how an output port grants its
input ports.
-/
namespace Sys2Proof.Machine

/-! Ports (R37) -/

/-- Ports of the crossbar. -/
def spinePorts : Nat := 24

/-- The spine's own clock island. -/
def spineIsland : Nat := 33

/-- The ports of a region, ascending; RG_SPW_n belongs to the n-th (R37, R51). -/
def regionPorts (r : Nat) : List Nat :=
  match r with
  | 4 => [4, 5, 6, 7, 8, 9]
  | 5 => [10, 11, 12, 13, 14, 15, 16, 17]
  | 6 => [18, 19, 20]
  | 7 => [21]
  | 8 => [22, 23]
  | r => if r < 4 then [r] else []

/-- A port's region, and the number of its RG_SPW. -/
def portRegion (p : Nat) : Nat := ((List.range 9).find? fun r => (regionPorts r).contains p).getD 8
def portIndex (p : Nat) : Nat := (regionPorts (portRegion p)).idxOf p

/-- The blocks on a port, by region and block index (R34, R37). -/
def portBlocks (p : Nat) : List (Nat × Nat) :=
  match p with
  | 3 => (List.range 9).map fun b => (3, b)
  | 4 | 5 => [(4, 0)]
  | 6 => [(4, 1)]
  | 7 | 8 => [(4, 2)]
  | 9 => [(4, 3)]
  | 10 | 11 => [(5, 0)]
  | 12 | 13 => [(5, 1)]
  | 14 | 15 => [(5, 2)]
  | 16 => [(5, 3)]
  | 17 => [(5, 4)]
  | 18 | 19 => [(6, 4), (6, 0), (6, 1)]
  | 20 => [(6, 5), (6, 2), (6, 3), (6, 6)]
  | 21 => [(7, 0), (7, 1), (7, 2), (7, 3)]
  | 22 => [(8, 0)]
  | 23 => [(8, 1), (8, 2), (8, 3), (8, 4), (8, 5)]
  | p => (List.range 8).map fun b => (p, b)

/-- The clock islands of a block (R39). The observation queues, of which the table names none, stand with ME and CM (log
entry 150). -/
def blockIslands (r b : Nat) : List Nat :=
  if r < 4 then [if r = 3 ∧ b = 8 then 32 else 8 * r + b]
  else match r, b with
    | 4, b => [34 + b]
    | 5, 0 => [38] | 5, 1 => [39]
    | 5, _ => [spineIsland]
    | 6, 4 | 6, 6 => [44]
    | 6, 5 => [45]
    | 6, b => [40 + b]
    | 7, 0 => [57]
    | 7, _ => [58]
    | 8, 0 => (List.range 10).map (46 + ·) ++ [56]
    | _, _ => [59]

/-- The ports by which a clock island reaches the spine. -/
def islandPorts (i : Nat) : List Nat :=
  (List.range spinePorts).filter fun p => (portBlocks p).any fun x => (blockIslands x.1 x.2).contains i

/-- The input port of a crossing into the spine: an island with several ports uses them in turn over its crossings
(log entry 150). -/
def inPort (k : Nat) : Nat :=
  let ps := islandPorts (keySrc k)
  ps.getD (k / 4096 % max 1 ps.length) 23

/-- The output port of an item, and the crossing by which it leaves: crossing `port` of the pair of islands. -/
def outPort (k item : Nat) : Nat := Config.spinePort k item % spinePorts
def outDest (k item : Nat) : Option Nat :=
  let p := outPort k item
  let is := ((portBlocks p).flatMap fun x => blockIslands x.1 x.2).eraseDups.filter fun i => i != spineIsland
  if is.isEmpty then none else some (spineIsland + 64 * is.getD (Config.spineBlock k item % is.length) 0 + 4096 * p)

/-! Arbitration (R46) -/

/-- An output port with nothing waiting. -/
def SpineOut.idle : SpineOut :=
  { urgent := [], data := { items := [], credit := [] }, back := { items := [], credit := [] }, recent := [], earned := 0 }

def State.spineOut (s : State) (p : Nat) : SpineOut := storeFind (fun _ => SpineOut.idle) s.arb.spine p
def State.setSpineOut (s : State) (p : Nat) (x : SpineOut) : State :=
  s.setArb { s.arb with spine := storePut (fun _ => SpineOut.idle) s.arb.spine p x }

/-- The blocks of a clock island; the spine itself stands as block 0 of no region. -/
def islandBlocks (i : Nat) : List (Nat × Nat) :=
  (((List.range spinePorts).flatMap portBlocks).eraseDups.filter fun x => (blockIslands x.1 x.2).contains i) ++
    (if i = spineIsland then [(9, 0)] else [])

/-- A crossing is one of a block's in an island (R55). -/
def xingOf (x : Nat × Nat) (k i : Nat) : Bool :=
  let bs := islandBlocks i
  bs.contains x && bs[Config.xingBlock k i % max 1 bs.length]? == some x

/-- An isolated block keeps its spine port idle (R50): nothing passes to or from an island all of whose blocks are
isolated, nor a port all of whose blocks are. -/
def State.islandIdle (s : State) (i : Nat) : Bool :=
  !(islandBlocks i).isEmpty && (islandBlocks i).all fun x => s.flt.isolated.contains x
def State.portIdle (s : State) (p : Nat) : Bool := (portBlocks p).all fun x => s.flt.isolated.contains x

/-- The weight of an input port in a class (R51): 0 acts as 1. -/
def State.spineWeight (s : State) (f : Fld) (p : Nat) : Nat := max 1 (s.fld (regionPage (portRegion p)) f (portIndex p))

/-- The item that a round grants next: the lowest input port that has credit left and an item waiting. -/
def SpineRobin.next (x : SpineRobin) (may : SpineItem → Bool) : Option SpineItem :=
  (List.range spinePorts).findSome? fun p =>
    if 0 < storeFind (fun _ => 0) x.credit p then x.items.find? fun i => decide (i.port = p) && may i else none

/-- A grant uses one of its port's credits. -/
def SpineRobin.granted (x : SpineRobin) (i : SpineItem) : SpineRobin :=
  { items := x.items.erase i, credit := storePut (fun _ => 0) x.credit i.port (storeFind (fun _ => 0) x.credit i.port - 1) }

/-- A grant of a class: from the round in progress, else from a new one, which takes the weights as they are then
(R51). -/
def State.robinGrant (s : State) (f : Fld) (may : SpineItem → Bool) (x : SpineRobin) : Option (SpineItem × SpineRobin) :=
  match x.next may with
  | some i => some (i, x.granted i)
  | none =>
    let y := { x with credit := (List.range spinePorts).map fun p => (p, s.spineWeight f p) }
    (y.next may).map fun i => (i, y.granted i)

/-- An item can leave: its crossing takes it, or its block stands in the spine's island. -/
def State.mayLeave (s : State) (i : SpineItem) : Bool :=
  match i.dest with
  | none => true
  | some k =>
    let d := s.dat k
    !d.resync && !decide (Config.fifoDepth k < d.inFlight.length) && !s.islandIdle (keyDst k)

/-- A granted item leaves by its crossing (R42). -/
def State.leaveSpine (s : State) (i : SpineItem) : State :=
  match i.dest with
  | none => s
  | some k => s.setDat k { s.dat k with inFlight := (s.dat k).inFlight ++ [i.item] }

/-- One port cycle of an output port (R46): an urgent item where none was granted in the last three cycles; else the
background class once it has earned a grant of its floor; else data; else background (log entry 150). -/
def State.spineCycle (s : State) (p : Nat) : State :=
  let x := s.spineOut p
  let may (i : SpineItem) : Bool := s.mayLeave i
  let floor := min 100 (s.fld (regionPage (portRegion p)) REGION.RG_SPW_BG_FLOOR (portIndex p))
  let urgent := if x.recent.any fun b => b then none else x.urgent.find? may
  match urgent with
  | some i => (s.setSpineOut p { x with urgent := x.urgent.erase i, recent := true :: x.recent.take 2 }).leaveSpine i
  | none =>
    let x := { x with recent := false :: x.recent.take 2 }
    let data := s.robinGrant REGION.RG_SPW_WEIGHT_DATA may x.data
    let back := s.robinGrant REGION.RG_SPW_WEIGHT_BG may x.back
    match data, back with
    | none, none => s.setSpineOut p x
    | some (i, d), none => (s.setSpineOut p { x with data := d, earned := 0 }).leaveSpine i
    | none, some (i, b) => (s.setSpineOut p { x with back := b, earned := 0 }).leaveSpine i
    | some (i, d), some (j, b) =>
      if 100 ≤ x.earned + floor then (s.setSpineOut p { x with back := b, earned := x.earned + floor - 100 }).leaveSpine j
      else (s.setSpineOut p { x with data := d, earned := x.earned + floor }).leaveSpine i

/-- Items wait at an output port whose block is not isolated. -/
def State.spineWaits (s : State) (p : Nat) : Bool :=
  let x := s.spineOut p
  !(x.urgent.isEmpty && x.data.items.isEmpty && x.back.items.isEmpty) && !s.portIdle p

/-- The port cycles of some time at 3.2 GHz: 16 for each 5 ns. -/
def State.spineGo (s : State) (ns : Nat) : State :=
  s.forEach ((List.range spinePorts).filter s.spineWaits) fun u p =>
    u.forEach (List.range (ns * 16 / 5)) fun v _ => if v.spineWaits p then v.spineCycle p else v

/-- An item reaches the spine (R42, R46): it waits at its output port, in its class. -/
def State.enterSpine (s : State) (k item : Nat) : State :=
  let p := outPort k item
  let x := s.spineOut p
  let i : SpineItem := { port := inPort k, dest := outDest k item, item := item }
  s.setSpineOut p (match Config.spineClass k item % 3 with
    | 0 => { x with urgent := x.urgent ++ [i] }
    | 1 => { x with data := { x.data with items := x.data.items ++ [i] } }
    | _ => { x with back := { x.back with items := x.back.items ++ [i] } })

/-- DATA_ITEM_READABLE (R42): the oldest item reaches the receiver, which takes it, and the source goes on. What reaches the
spine waits at its output port (R46); the spine takes nothing from the port of an isolated block (R50). -/
def execDataItemReadable (x : Crossing) (s : State) : Res :=
  let k := xingKey x
  let d := s.dat k
  match d.inFlight with
  | [] => done s
  | v :: r =>
    if x.dst.val = spineIsland then
      if s.islandIdle (keySrc k) then done s else done ((s.setDat k { d with inFlight := r, heldOff := d.resync }).enterSpine k v)
    else done (s.setDat k { d with inFlight := r, readable := d.readable ++ [v], heldOff := d.resync })

end Sys2Proof.Machine
end

