-- ==== Sys2Proof/Machine/LinkExec.lean ====
section
/-!
DEFINITION. The slip link where it meets the rest of the block: link loss (R166, R68), the written operations of
LINK_CTRL (R168), and the companion's reports that move other engines (R155, R156, R269, R295).
-/
namespace Sys2Proof.Machine

/-! Loss (R166) -/

/-- A head's link is lost: the head leaves service, its settings go to step 8, its sled stops, and what was armed
is ready again. -/
def State.linkGone (s : State) (h : Nat) (bothDown : Bool) : State :=
  let b := headPage h
  let t := ((s.count b HEAD.LOSS_CNT).istat b 9).event b (headCode h 0x102) 4
  let t := if bothDown then t else t.send (.down h .park)
  let t := t.setLink h { t.link h with tables := [], mapPending := none }
  let t := if t.fld b HEAD.LINK_STAT_COMP_OWNER = 0 then t else (t.setFld b HEAD.LINK_STAT_COMP_OWNER 0).istat b 12
  let t := (((t.setFlag b HEAD.LINK_STAT_CONFLICT false).fireOwnerLost h).seqLinkLost h).sledLinkLost h
  (t.headGone h).refreshHead h

/-- The loss is declared: retraining starts at once with AUTO_RETRAIN. -/
def State.linkLost (s : State) (h : Nat) (bothDown : Bool) : State :=
  let t := s.linkGone h bothDown
  if t.flag (headPage h) HEAD.LINK_CTRL_AUTO_RETRAIN then t.startTraining h 1 false else t.setLinkState h 0

/-- The PLL of a head group lost lock (R68, R166): every lane loses its clock, and retraining waits for the relock. -/
def State.linkClockLost (s : State) (h : Nat) : State :=
  let t := if s.linkState h = 5 ∨ s.linkState h = 6 then s.linkGone h true else s
  let t := t.forEach (List.range 11) fun u i => u.setLane h i { u.lane h i with block := false, frame := false }
  let t := t.setLink h { t.link h with retryDue := false }
  (if t.linkState h < 7 then t.setLinkState h 0 else t).bandClock h

/-- The group of a head (R53). -/
def headGroup (h : Nat) : Nat := if h = 32 then 3 else h / 8

/-- LINK_LOSS (R166): an upstream fault that no lane covers has put the link out of service before. -/
def execLinkLoss (h : HeadIx) (why : LossCause) (s : State) : Res :=
  let n := s.linkState h.val
  if n ≠ 5 ∧ n ≠ 6 then done s
  else match why with
    | .noFrame => done (s.linkLost h.val false)
    | .bothDown => if s.laneFailed h.val 9 ∧ s.laneFailed h.val 10 then done (s.linkLost h.val true) else done s
    | .uncovered => if n = 6 then done (s.linkLost h.val false) else done s
    | .pll => if s.fldBit ckPage CK.PLL_LOCK (19 + headGroup h.val) then done s else done (s.linkClockLost h.val)

/-- A position is moved to the standby lane once (R144, R168); 0xF and the values 8 to 14, of which the spec says nothing,
move none (log entry 149). -/
def State.forcePos (s : State) (h p : Nat) : State :=
  if 8 ≤ p then s
  else match s.standbyLane h with
    | some lane => s.linkMap h p lane
    | none => s

/-- A written RETRAIN starts a training with a new budget; RETRAIN reads 1 until T4 or failure (R166). A link that
is up is taken down first. -/
def State.retrain (s : State) (h : Nat) : State :=
  let t := if s.linkState h = 5 ∨ s.linkState h = 6 then s.linkGone h false else s
  (t.setFld (headPage h) HEAD.LINK_CTRL_RETRAIN 1).startTraining h 1 false

/-! Reports -/

/-- Every owned head reports parked after a seal: HOLDUP_T_PARK, in 10 µs (R397). -/
def State.parkedAll (s : State) : State :=
  let p := journalPage
  if !s.fire.holdup || !s.flag p JOURNAL.JR_STAT_SEALED || decide (s.fld p JOURNAL.HOLDUP_T_PARK ≠ 0) then s
  else if (List.range 33).all fun h => !s.headObeys h || s.headParked h then
    s.setFld p JOURNAL.HOLDUP_T_PARK (min 0xFFFF ((s.now - s.fire.holdupAt) / 10000))
  else s

/-- STATUS (R155, R538): what the companion obeys decides the head's axis and loops; an epoch newer than this
side's own makes its claim stale. -/
def execStatusMsg (h : HeadIx) (b : StatusBody) (s : State) : Res :=
  let n := h.val
  let had := s.headObeys n
  let t := s.statusFields n b
  let has := t.headObeys n
  let t := if had && !has then ((t.seqOwnerLost n).fireOwnerLost n).axOwnership n false false
    else if !had && has && decide (t.axState n = 6) then t.axOwnership n true true else t
  let t := if t.tokenMine n && newer b.epoch.val (t.token n).2 && !t.tw.pendingConflict.contains n then
      (t.setOwnTx n false).setTw { t.tw with pendingConflict := t.tw.pendingConflict ++ [n] }
    else t
  done ((t.refreshHead n).parkedAll)

/-- TABLE_ACK (R269): the oldest load of that table is stored, or goes out again up to three times; its fourth failure stops
firing on the head. -/
def execTableAck (h : HeadIx) (table result offset _nbody : Nat) (s : State) : Res :=
  let l := s.link h.val
  let hit (m : DownMsg) : Bool := match m with
    | .tableLoad t _ _ o _ => decide (t = table) && decide (o = offset)
    | _ => false
  match l.tables.find? fun m => hit m.1 with
  | none => done s
  | some (m, n) =>
    let rest := l.tables.erase (m, n)
    if result = 0 then done (s.setLink h.val { l with tables := rest })
    else if n < 3 then done ((s.setLink h.val { l with tables := rest ++ [(m, n + 1)] }).send (.down h.val m))
    else done ((s.setLink h.val { l with tables := rest }).dropFiring h.val)

/-- GROOVE (R156): its disc-ID quarter; the confirmed address of a band for which the sequencer waits; and, while
the head is to scan or fire another setting, the mismatch that loses the band. -/
def execGrooveWord (h : HeadIx) (crcOk : Bool) (setting quarter q : Nat) (s : State) : Res :=
  if !crcOk then done s
  else
    let n := h.val
    let t := s.grooveQuarter n (saLayer setting) q quarter
    let layer := saLayer setting
    let band := bandOfSetting (saSetting setting)
    if (t.seq n).phase = .address then done (t.seqAddress n layer band)
    else
      let scans := decide (t.fireState n = 1) || t.headFires n
      let off : Bool := match (t.band n).expect with
        | some (sa, _) => decide (sa ≠ setting)
        | none => false
      if scans && off then done (t.bandLost n layer band) else done t

/-- SERVO_ERR (R295): the frame's loops. An isolated CE takes no sample (R50); a sample whose crossing to CE is stale
counts as missing (R44, log entry 146). A layer jump that ends in the frame reloads the channel's start values (R207). -/
def execServoErr (h : HeadIx) (e : ServoErr) (obs : ServoObs) (s : State) : Res :=
  let n := h.val
  if s.flag ctrlengPage HDR.ISOLATE then done s
  else if s.xingStale n 57 0 then done (s.frameMissing n)
  else done ((s.servoFrame n e obs).bandLayerEntered n)

end Sys2Proof.Machine
end

