-- ==== Sys2Proof/Machine/WheelExec.lean ====
section
/-!
DEFINITION. Wheels, slots and the loader where they meet the rest of the block: the speed tick in a firing run
(R331, R334), the clamp sense (R345), conflicts of ownership lines (R351, R357), saturated slots (R309), and the
loader's recovery (R372).
-/
namespace Sys2Proof.Machine

/-! Wheels -/

/-- A wheel's rotor is lost, or its speed leaves 4,500 rpm by more than 1 % (R334, in 0.1 rpm). -/
def State.fireSpeedLost (s : State) (w : Nat) : Bool :=
  let n := s.fldS (wheelPage w) WHEEL.SPD_MEAS_N
  !(List.contains [whRunning, whFlywheel, whShadow] (s.whState w)) || decide (n < 44550) || decide (45450 < n)

/-- SPEED_TICK (R331, R334): heads that fire on a wheel out of speed stop at once, and the run ends (R256, R272); the heads'
ratios follow the speed (R173). -/
def execSpeedTick (w : WheelIx) (s : State) : Res :=
  let t := (s.speedTick w.val).forEach (wheelHeads w.val) State.refreshRatio
  let g := if w.val = 8 then 1 else 0
  if t.fireSpeedLost w.val then
    let t := t.forEach (wheelHeads w.val) State.dropFiring
    done (if (t.run g).phase = 2 ∧ t.owned (wheelPage w.val) then t.endRun g else t)
  else done t

/-- CLAMP_SENSE_CHANGE (R345, R336): RDY.WHEEL_CLAMPED follows, and the lanes that count the wheel's disc. -/
def execClampSenseChange (w : WheelIx) (high : Bool) (s : State) : Res :=
  let t := (s.clampSense w.val high).wheelRdy w.val
  done ((t.forEach (wheelHeads w.val) State.refreshHead).refreshLanes)

/-- An ownership line of a token's object is contested: its resolution is due (R552). -/
def State.contested (s : State) (n : Nat) : State :=
  if s.tw.pendingConflict.contains n then s else s.setTw { s.tw with pendingConflict := s.tw.pendingConflict ++ [n] }

/-- OWN_CONFLICT (R351): both lines of a wheel are asserted. -/
def execOwnConflict (w : WheelIx) (s : State) : Res :=
  if !s.flag (wheelPage w.val) WHEEL.WH_STAT_OWN_OUT ∨ s.whState w.val = whConflict then done s
  else
    let t := (s.ownConflict w.val).contested (33 + w.val)
    done (t.forEach (wheelHeads w.val) State.refreshHead)

/-- LD_OWN_CONFLICT (R357): every loader EN is deasserted; a move ends where its axis stands. -/
def execLdOwnConflict (s : State) : Res :=
  let b := loaderPage
  if !s.flag b LOADER.LD_STAT_OWN_OUT ∨ s.flag b LOADER.LD_STAT_CONFLICT then done s
  else
    let t := s.forEach [axX, axZ, axG, axP] fun u a =>
      let v := if u.axMoving a then u.endMotion a 3 4 else u
      v.setAxEn a false
    let t := (t.setFlag b LOADER.LD_STAT_OWNX_IN true).setFlag b LOADER.LD_STAT_CONFLICT true
    done (((t.istat b 9).event b 0x7306 4).contested 42)

/-! Saturated slots (R309) -/

/-- SATURATION_RUN: the slot goes to FAULT; a head's focus or tracking loop is recovered (R317), a wheel's speed
loop faults the wheel (R345). -/
def execSaturationRun (slot : SlotIx) (s : State) : Res :=
  let n := slot.val
  let run := 4 * s.cfgIn ctrlengPage CTRLENG.FRAME_CFG_SAT_RUN 1 255
  if s.slotMode n ≠ modeClosed ∨ s.fld (ceSlot n) CESLOT.LIMIT_RUN < run then done s
  else
    let t := (s.setMode n modeFault).event ctrlengPage 0x7106 4 0xFF n
    if n < 165 then
      let h := n / 5
      let u := if n % 5 = 0 then (t.focusLost h).refreshHead h
        else if n % 5 = 1 then t.trackingLost h
        else (t.setPermit h false).refreshHead h
      done u
    else if n < 174 then done (t.wheelFault (n - 165) 6)
    else done t

end Sys2Proof.Machine
end

