-- ==== Sys2Proof/Machine/ObjReset.lean ====
section
/-!
DEFINITION. Objects as PG_CTRL sees them (R54, R55, R50): units in progress, draining, disabling, soft reset of
each kind of object, isolation; sessions that close.
-/
namespace Sys2Proof.Machine

/-! Sessions (R75) -/

/-- A session closes; its path's cursors, latches and waiting writes go with it. -/
def State.closeSession (s : State) (i : Nat) : State :=
  match s.session i with
  | none => s
  | some _ =>
    let t := s.setSession i none
    let k := 2 + i
    let t := { t with recd := { t.recd with cursors := t.recd.cursors.filter fun e => decide (e.1 ≠ k) } }
    let ls := t.arb.latches.filter fun e => decide (e.1 ≠ k)
    let ws := t.arb.waiting.filter fun w => decide (pathKey w.path ≠ k)
    let t := (t.setOqReading k none).setArb { t.arb with latches := ls, waiting := ws }
    t.istat stebaroPage 8

/-- Sessions of a port close. -/
def State.closePortSessions (s : State) (p : Nat) : State :=
  s.forEach (List.range 16) fun u i =>
    match u.session i with
    | some x => if x.port = p then u.closeSession i else u
    | none => u

/-! Units in progress (R54) -/

/-- BUSY of a page. -/
def State.pageBusy (s : State) (p : PageRef) : Bool :=
  match p.kind with
  | .head => (s.fireHead p.idx).firing.isSome || decide (s.linkState p.idx = 5 ∧ s.bandMode p.idx ≠ 0)
  | .band => decide (s.bandMode p.idx ≠ 0)
  | .wheel => !([whOff, whRest, whFault, whShadow, whConflict].contains (s.whState p.idx))
  | .loader => [axX, axZ, axG, axP].any fun a => s.axMoving a
  | .kick => s.axMoving axElv
  | .motion => (List.range 38).any fun a => s.axMoving a
  | .ctrleng => (List.range 33).any fun h => decide ((s.seq h).op ≠ 0)
  | .ldpc => (List.range 18).any fun c => (s.cellJob c).isSome
  | .outer => !s.pool.settings.isEmpty
  | .hbm => decide (s.hbmState p.idx = 1) || decide (s.hbmState p.idx = 2)
  | .setter => !s.mem.fills.isEmpty || !s.mem.waiting.isEmpty || s.mem.maint.isSome
  | .journal => !s.jr.waiting.isEmpty
  | .stripe => decide (s.st.rt.op ≠ 0)
  | .nvme => s.host.ctxs.any fun x => decide (x.work ≠ .aer)
  | .st => !s.svc.tests.isEmpty
  | .er => !s.recd.raised.isEmpty || s.recd.mirrorBusy
  | .obsq => !s.oq.waiting.isEmpty
  | .tw => decide (s.twState = 6)
  | .region => !(s.regionReports p.idx).isEmpty
  | _ => false

/-- The pages whose object has units that BUSY shows. -/
def busyPages : List PageRef :=
  (((List.range 33).flatMap fun h => [headPage h, bandPage h]) ++ ((List.range 9).flatMap fun i => [wheelPage i, regionPage i]) ++
    [hbmPage 0, hbmPage 1, loaderPage, kickPage, motionPage, ctrlengPage, ldpcPage, outerPage, setterPage, journalPage, stripePage,
     nvmePage, stPage, erPage, obsqPage, twPage]).filterMap pageAt

/-- BUSY of every page follows its object, and PG_SEQ counts each change (R58). A tick does this; a change since the last
tick shows at once in what the page reads (log entry 153). -/
def State.busyGo (s : State) : State :=
  s.forEach busyPages fun u p => if u.flag p.base HDR.BUSY = u.pageBusy p then u else u.setPg p.base HDR.BUSY (boolNat (u.pageBusy p))

/-- Pages on which ENABLE and SOFT_RESET are ignored (R54, R55). -/
def fixedPage (k : PageKind) : Bool := k = .chip || k = .rdy || k = .ck || k = .trim

/-- An object begins to drain (R54). -/
def State.drainPage (s : State) (base : Nat) : State :=
  if s.arb.draining.contains base then s else s.setArb { s.arb with draining := s.arb.draining ++ [base] }

/-- Its units are complete: it rests, and a disabled object stops. -/
def State.drainedPage (s : State) (p : PageRef) : State :=
  if !s.arb.draining.contains p.base || s.pageBusy p then s
  else
    let t := s.setArb { s.arb with draining := s.arb.draining.filter fun b => b != p.base }
    if t.flag p.base HDR.ENABLE || !t.ready p.base then t
    else ((t.setArb { t.arb with stopped := t.arb.stopped ++ [p.base] }).setReady p.base false).bandReady p.base

/-- An object is enabled again: one that had stopped runs. -/
def State.enablePage (s : State) (base : Nat) : State :=
  let t := s.setArb { s.arb with draining := s.arb.draining.filter fun b => b != base }
  if t.arb.stopped.contains base then
    ((t.setArb { t.arb with stopped := t.arb.stopped.filter fun b => b != base }).setReady base true).bandReady base
  else t

/-! Soft reset (R55) -/

/-- The keys of a page's own RW fields. -/
def rwKeys (p : PageRef) : List Nat :=
  let keys (base : Nat) (fs : List Fld) : List Nat :=
    (fs.filter fun f => decide (f.acc = .rw)).flatMap fun f => (List.range f.count).map fun i => fldKey base f i
  let own := keys p.base p.kind.fields
  if p.kind = .motion then
    own ++ (List.range 38).flatMap fun a => keys (axisBlock a) (AXIS.fields ++ (if a < 33 then AXISS.fields else AXISP.fields))
  else own

/-- Page-specific RW fields return to their reset values; PG_ISTAT and PG_LAST_ERR clear; RWL fields, PG_CTRL, PG_IEN,
the error counters and the lock stay. -/
def State.resetRw (s : State) (p : PageRef) : State :=
  let ks := rwKeys p
  let t := { s with regs := s.regs.filter fun e => !ks.contains e.1 }
  let b := p.base
  ((t.setFld b HDR.ISTAT 0).setFld b HDR.LAST_ERR_CODE 0).setFld b HDR.LAST_ERR_CLASS 0
    |>.setFld b HDR.LAST_ERR_CELL 0 |>.setFld b HDR.LAST_ERR_VALID 0

/-- What HBM held is lost with a stack (R426): staging, the journal primary, the twin's mirror area, captures, the
observation queues' items that are no longer in the write buffer. -/
def State.loseHbm (s : State) : State :=
  let t := (s.setMem { s.mem with cache := [], plru := [], fills := [], evb := [], waiting := [], maint := none }).setJr
    { s.jr with hbm := [], mirror := [] }
  let t := t.setSt { t.st with zones := t.st.zones.map (fun e => (e.1, { e.2 with staged := [], unmirrored := [] })), mirror := [] }
  let t := (t.setPool { t.pool with caps := [], winWord := 0 }).setRetained []
  { t with oq := { t.oq with queues := t.oq.queues.map fun e => (e.1, { e.2 with items := e.2.items.filter fun i => i.pos.isNone }) } }

/-- A stack retrains (R426): at once where no token is owned, else after the shelf has been handed over. -/
def State.hbmReset (s : State) (k : Nat) : State :=
  if s.fld twPage TW.OWNED_LO = 0 ∧ s.fld twPage TW.OWNED_HI = 0 then s.loseHbm.startHbmTraining k
  else
    let t := s.handAll
    t.setTw { t.tw with after := setBit t.tw.after (1 + k) true }

/-- A stack that waited for the handover (R426). -/
def State.hbmHanded (s : State) : State :=
  if s.twState = 6 then s
  else s.forEach [0, 1] fun u k =>
    if bitOf u.tw.after (1 + k) then
      State.startHbmTraining (State.loseHbm (u.setTw { u.tw with after := setBit u.tw.after (1 + k) false })) k
    else u

/-- The logic of an object resets (R55; log entry 52). -/
def State.logicReset (s : State) (p : PageRef) : State :=
  let i := p.idx
  let lose (u : State) (f : Conn → Bool) : State :=
    u.forEach ((u.host.conns.filter fun e => match e.2 with
      | some k => f k
      | none => false).map fun e => e.1) fun v c => v.loseConn c 2
  match p.kind with
  | .chip | .rdy | .ck | .trim | .ecctab => s
  | .er =>
    -- records are kept; the paths' cursors start again, and a mirror write under way is made again
    s.withRec fun r => { r with cursors := [], mirrorBusy := !r.mirrorQ.isEmpty }
  | .st =>
    let t := s.forEach s.svc.tests State.testEarly
    (t.setSvc { t.svc with tests := [], request := none }).testShow
  | .te => s.setTe { s.te with enrol := none, unlocking := none }
  | .tw => if s.paired then s.unpair.setTwState 1 else s
  | .hy => s.setFlag hyPage HY.HY_STAT_REGISTERED false
  | .mc => s.forEach ((List.range 10).filter fun c => decide (s.coreSt c = coreRun)) State.coreRestart
  | .region => s.setRegionReports i []
  | .head =>
    let t := if s.linkState i = 5 ∨ s.linkState i = 6 then s.linkGone i false else s
    t.startTraining i 1 false
  | .band => (s.setBand i BandSt.idle).setBandMode i 0 |>.headGone i
  | .wheel =>
    let t := (s.clearAtSpeed i).setWheel i { WheelSt.off with sense := (s.wheel i).sense }
    (if t.whOwns i then t.setWhState i whOff else t).forEach (wheelHeads i) State.refreshHead
  | .loader => s.forEach [axX, axZ, axG, axP] fun u a => (u.disableAxis a).setAxHomed a false
  | .kick => (s.disableAxis axElv).setAxHomed axElv false
  | .motion => s.forEach ((List.range 38).filter fun a => s.axOwned a) fun u a => (u.disableAxis a).setAxHomed a false
  | .ctrleng =>
    let t := s.forEach ((List.range 33).filter fun h => s.headObeys h) fun u h => (u.parkHead h).refreshHead h
    let t := t.forEach (List.range 192) fun u n => if u.slotMode n = modeOff then u else u.setMode n modeOff
    { t with ce := { seqs := [], presetNext := [], shed := [], traceLeft := 0, held := [] } }
  | .ldpc =>
    let jobs := (List.range 18).filterMap s.cellJob
    s.setPool { s.pool with cells := [], queueA := (jobs.filter fun j => decide (j.rung = 0)) ++ s.pool.queueA,
                            queueB := (jobs.filter fun j => decide (j.rung ≠ 0)) ++ s.pool.queueB }
  | .outer => (s.setPool { s.pool with winWord := 0 }).setRetained []
  | .mediacrypt => s.setTe { s.te with slots := [] }
  | .hbm => s.hbmReset i
  | .setter => s.initCache
  | .stripe =>
    -- what SE was computing begins again from staging and the catalogue, which hold all that is not on disc
    s
  | .journal => s.setJr { s.jr with xspiFail := false, failAt := none }
  | .eth => s.portRestart i
  | .nvme => lose s fun _ => true
  | .tls => lose s fun k => k.tls.isSome
  | .stebaro => s.forEach (List.range 16) State.closeSession
  | .obsq => { s with oq := { s.oq with reading := [] } }
  | .ceslot | .fire | .firestat => s

/-- The block of an object (R34): a wheel is one of CM's, an axis page one of ME's. -/
def objectBlock (p : PageRef) : Nat × Nat :=
  match p.kind with
  | .wheel => (7, 2)
  | .loader | .kick | .motion => (7, 1)
  | _ => p.place

/-- A SOFT_RESET that is refused with CLASS 8 (R426). -/
def State.softResetRefused (s : State) (p : PageRef) : Bool :=
  decide (p.kind = .hbm) && !(decide (s.fld twPage TW.OWNED_LO = 0) && decide (s.fld twPage TW.OWNED_HI = 0)) && !s.paired

/-- A written SOFT_RESET. -/
def State.softReset (s : State) (p : PageRef) : State :=
  if fixedPage p.kind then s.setFlag p.base HDR.SOFT_RESET false
  else
    let t := (s.logicReset p).resyncAt (xingOf (objectBlock p))
    let t := (t.resetRw p).setFlag p.base HDR.SOFT_RESET true
    (t.setReady p.base false).bandReady p.base

/-- An object can be ready: what it stands on is there (R563, R569). -/
def State.objectUp (s : State) (p : PageRef) : Bool :=
  s.flag rdyPage RDY.MC_RUN && s.flag p.base HDR.ENABLE && !s.flag p.base HDR.RETIRED &&
  match p.kind with
  | .setter | .stripe | .journal | .nvme => s.flag rdyPage RDY.HBM0_FILLED && s.flag rdyPage RDY.HBM1_FILLED
  | .head => decide (s.linkState p.idx = 5)
  | .band => (List.range 9).any fun i => (s.lane p.idx i).block
  | .eth => s.flag p.base ETH.ETH_STAT_LINK
  | .hbm => decide (s.hbmState p.idx = 2) || decide (s.hbmState p.idx = 3)
  | .wheel => decide (2 ≤ s.phasesUsable p.idx)
  | _ => true

/-- SOFT_RESET_COMPLETE (R55): SOFT_RESET reads 0, on a stack only once it has been filled or has failed. -/
def State.softResetDone (s : State) (p : PageRef) : State :=
  if !s.flag p.base HDR.SOFT_RESET then s
  else if p.kind = .hbm ∧ s.hbmState p.idx ≠ 3 ∧ s.hbmState p.idx ≠ 5 then s
  else
    let t := (s.setFlag p.base HDR.SOFT_RESET false).setReady p.base (s.objectUp p) |>.bandReady p.base
    if t.flt.isolated.contains p.place then t.setFlt { t.flt with freshened := t.flt.freshened ++ [p.place] } else t

/-! Isolation (R50) -/

/-- An isolated block may return to service (R50): it has had its soft reset and READY reads 1. -/
def State.mayReturn (s : State) (p : PageRef) : Bool :=
  let (r, b) := p.place
  decide (r > 8) || decide (b = 0xFF) || !s.flt.isolated.contains (r, b) || (s.flt.freshened.contains (r, b) && s.ready p.base)

/-- A written ISOLATE: 1 isolates the page's block, 0 returns it to service only if READY reads 1 after its soft reset. -/
def State.isolateWritten (s : State) (p : PageRef) (on : Bool) : State :=
  let (r, b) := p.place
  if r > 8 ∨ b = 0xFF then s.setFlag p.base HDR.ISOLATE on
  else if on then (s.setFlag p.base HDR.ISOLATE true).isolate r b
  else if s.mayReturn p then (s.setFlag p.base HDR.ISOLATE false).unisolate r b
  else s

/-- The page of an operand. -/
def pageBase : Page → Nat
  | .chip => chipPage | .rdy => rdyPage | .ck => ckPage | .st => stPage | .er => erPage | .te => tePage
  | .tw => twPage | .hy => hyPage | .mc => mcPage | .trim => trimPage
  | .region r => regionPage r.val | .head h => headPage h.val | .band h => bandPage h.val | .wheel w => wheelPage w.val
  | .loader => loaderPage | .kick => kickPage | .motion => motionPage | .ctrleng => ctrlengPage
  | .ldpc => ldpcPage | .outer => outerPage | .mediacrypt => mediacryptPage | .hbm k => hbmPage k.val
  | .setter => setterPage | .ecctab => ecctabPage | .stripe => stripePage | .journal => journalPage
  | .eth p => ethPage p.val | .nvme => nvmePage | .tls => tlsPage | .stebaro => stebaroPage | .obsq => obsqPage

/-- SOFT_RESET_COMPLETE. -/
def execSoftResetComplete (page : Page) (s : State) : Res :=
  match pageAt (pageBase page) with
  | some p => done (s.softResetDone p)
  | none => done s

/-- OBJECT_DRAINED. -/
def execObjectDrained (page : Page) (s : State) : Res :=
  match pageAt (pageBase page) with
  | some p => done (s.drainedPage p)
  | none => done s

end Sys2Proof.Machine
end

