-- ==== Sys2Proof/Machine/Clocks.lean ====
section
/-!
DEFINITION. Clocks (R66-R68): the frequency monitor, island resets, PLLs, reference clocks.
-/
namespace Sys2Proof.Machine

/-! The frequency monitor (R67) -/

/-- A written FMON_START: the 1 ms gate of the island that FMON_SRC names begins. -/
def State.fmonStart (s : State) : State :=
  let t := (s.setFlag ckPage CK.FMON_START true).setFlag ckPage CK.FMON_VALID false
  t.setArb { t.arb with fmon := some (t.fld ckPage CK.FMON_SRC) }

/-- FMON_RESULT: the gate ends with the frequency counted. -/
def execFmonResult (khz : Nat) (s : State) : Res :=
  match s.arb.fmon with
  | none => done s
  | some _ =>
    let t := (s.setFld ckPage CK.FMON_KHZ khz).setFlag ckPage CK.FMON_VALID true
    done ((t.setFlag ckPage CK.FMON_START false).setArb { t.arb with fmon := none })

/-! Island resets (R67) -/

/-- The pages whose objects run in an island (R34, R66). -/
def islandPages (i : Nat) : List Nat :=
  if i < 33 then [headPage i, bandPage i]
  else match i with
    | 34 => [ldpcPage] | 35 => [outerPage] | 36 => [mediacryptPage]
    | 38 => [hbmPage 0] | 39 => [hbmPage 1]
    | 40 => [ethPage 0] | 41 => [ethPage 1] | 42 => [ethPage 2] | 43 => [ethPage 3]
    | 44 => [nvmePage, stebaroPage] | 45 => [tlsPage]
    | 57 => [ctrlengPage]
    | 58 => [motionPage] ++ (List.range 9).map wheelPage
    | 59 => [stPage, erPage, tePage, twPage, hyPage]
    | _ => []

/-- Islands whose reset is refused with CLASS 8: the spine, the always-on island, and indices that name none
(log entry 53). -/
def islRefused (i : Nat) : Bool := i = 33 || 60 ≤ i

/-- A written ISL_RST_REQ: the logic in the island resets and its crossings enter RESYNC; a core's task group moves
to a spare (R583). -/
def State.islandReset (s : State) (i : Nat) : State :=
  if islRefused i then s
  else
    let t := s.setArb { s.arb with islandResets := s.arb.islandResets.filter (fun j => j != i) ++ [i] }
    let t := t.setIsl i false
    let t := if 46 ≤ i ∧ i < 56 then t.resetCore (i - 46) else t
    t.forEach ((islandPages i).filterMap pageAt) State.logicReset

/-- The PLL of an island (R68); the always-on island has none. -/
def pllOf (i : Nat) : Option Nat :=
  if i < 33 then some (19 + headGroup i)
  else if i < 38 then some 0
  else match i with
    | 38 => some 1 | 39 => some 2 | 44 => some 3 | 45 => some 3 | 56 => some 14 | 57 => some 15 | 59 => some 15 | 58 => some 16
    | 40 => some 17 | 41 => some 17 | 42 => some 18 | 43 => some 18
    | n => if 46 ≤ n ∧ n < 56 then some (n - 42) else none

/-- An island that nothing holds in reset runs: its PLL is locked, and a head's link clock is there. -/
def State.islandFree (s : State) (i : Nat) : State :=
  let locked : Bool := match pllOf i with
    | some p => s.fldBit ckPage CK.PLL_LOCK p
    | none => true
  if !locked || s.arb.islandResets.contains i then s
  else if i < 33 then s.bandClock i else s.setIsl i true

/-- ISLAND_RELEASE: 10 µs after the request. -/
def execIslandRelease (island : IslandIx) (s : State) : Res :=
  let i := island.val
  if s.arb.islandResets.contains i then
    done (State.islandFree (s.setArb { s.arb with islandResets := s.arb.islandResets.filter fun j => j != i }) i)
  else done s

/-! PLLs (R68) -/

/-- Islands of a PLL. -/
def pllIslands (p : Nat) : List Nat := (List.range 60).filter fun i => decide (pllOf i = some p)

/-- PLLs whose loss is fatal. -/
def pllFatal (p : Nat) : Bool := p < 4 || p = 14 || p = 15 || p = 16

/-- PLL_LOSS_OF_LOCK: its islands are held in reset; fatal, a core restart (R584), ports down, or a head group's
links lost (R166). -/
def execPllLossOfLock (pll : PllIx) (s : State) : Res :=
  let p := pll.val
  if !s.fldBit ckPage CK.PLL_LOCK p then done s
  else
    let t := ((s.setFldBit ckPage CK.PLL_LOCK p false).count ckPage CK.PLL_LOSS_CNT).setFld ckPage CK.PLL_LOSS_LAST p
    let t := (t.istat ckPage 8).event ckPage 0x8901 (if pllFatal p then 6 else 5) 0xFF p
    let down (u : State) (q : Nat) : State := if u.flag (ethPage q) ETH.ETH_STAT_LINK then u.portDown q else u
    let t := t.forEach (pllIslands p) fun u i => u.setIsl i false
    if pllFatal p then done (t.fatal 0x8901)
    else if p < 14 then done (t.reportsTo (t.retireCore (p - 4)) 8)
    else if p = 17 then done (down (down t 0) 1)
    else if p = 18 then done (down (down t 2) 3)
    else done (t.forEach ((List.range 33).filter fun h => decide (headGroup h = p - 19)) State.linkClockLost)

/-- PLL_RELOCK: its islands run; a head group's links retrain, outside the retry budget (R166). Ethernet links retrain
as their partners lock. -/
def execPllRelock (pll : PllIx) (s : State) : Res :=
  let p := pll.val
  if s.fldBit ckPage CK.PLL_LOCK p then done s
  else
    let t := s.setFldBit ckPage CK.PLL_LOCK p true
    let t := t.forEach (pllIslands p) State.islandFree
    if p < 19 then done t
    else done (t.forEach ((List.range 33).filter fun h => decide (headGroup h = p - 19) && decide (t.linkState h = 0)) fun u h =>
      u.startTraining h 1 true)

/-- REFERENCE_CLOCK_LOST (R67): PG_ISTAT bit 9 of CK. What follows comes with the loss of its PLLs. -/
def execReferenceClockLost (clk : RefClock) (s : State) : Res :=
  let gone (f : Fld) (n : Nat) : State :=
    if s.fldBit ckPage f n then (s.setFldBit ckPage f n false).istat ckPage 9 else s
  match clk with
  | .sys => done (gone CK.REF_SYS 0)
  | .eth k => done (gone CK.REF_ETH k.val)
  | .head g => done (gone CK.REF_HEAD g.val)

/-- XTAL_AO_LOST (R68): the always-on island runs from REFCLK_SYS divided by 4; the time base goes on. -/
def execXtalAoLost (s : State) : Res :=
  if s.arb.aoOnRef then done s
  else
    let t := (s.setArb { s.arb with aoOnRef := true }).setFlag ckPage CK.REF_AO false
    done ((t.istat ckPage 9).event ckPage 0x8902 3)

end Sys2Proof.Machine
end

