-- ==== Sys2Proof/Machine/LinkRx.lean ====
section
/-!
DEFINITION. Upstream frames of the slip link (R135-R144, R152-R155): what a link lane takes, the frames of one FSEQ put
together by position, their samples to the channel cells and their sideband messages to the engines.
-/
namespace Sys2Proof.Machine

/-! Sideband messages -/

/-- The state after an effect; as before where there is none. -/
def State.after (s : State) (r : Res) : State :=
  match r with
  | .next t => t
  | _ => s

/-- A message acts (R154): by the operation of the report it is. The time since an ECHO went out is not in its answer: a
free value (log entry 143). `obs` is what the servo frame of a SERVO_ERR shows beside it. -/
def State.upReport (s : State) (h : HeadIx) (obs : ServoObs) (m : UpMsg) : State :=
  s.after (match m with
  | .servoErr e => execServoErr h e obs s
  | .fireMon segment half power => execFireMon h (Fin.ofNat 256 segment) (fin2 half) power s
  | .laserMon power current temp => execLaserMon h power current (BitVec.ofInt 16 temp) s
  | .sled home far pos => execSledMsg h home far pos s
  | .status b => execStatusMsg h b s
  | .fireEvent b => execFireEvent h b s
  | .fireCredit held0 held1 nacks => execFireCredit h held0 held1 nacks s
  | .echoRsp tag turnaround => execEchoRsp h tag (s.free).1 turnaround (s.free).2
  | .ident b => execIdentMsg h b s
  | .tableAck table result offset nbody => execTableAck h table result offset nbody s
  | .groove crcOk setting quarter q => execGrooveWord h crcOk setting quarter q s)

/-- The messages of a frame in their order (R152, R153): a discarded one is counted, and so is one that the table of R154
does not list (log entry 143). -/
def State.upMessages (s : State) (h : HeadIx) (obs : ServoObs) (ms : List (Option (List Nat))) : State :=
  s.forEach ms fun u m =>
    match m.bind upMsg with
    | some y => u.upReport h obs y
    | none => u.count (headPage h.val) HEAD.SB_DROP

/-! Samples -/

/-- Input samples that wait at most, the newest, at a cell whose head reads no band: more than any acquisition takes
(log entry 141). -/
def waitingMax : Nat := 65536

/-- The samples of a frame reach the channel cells (R136, R140, R170): cells that do not run take none. -/
def State.takeSamples (s : State) (h : Nat) (x : UpSet) : State :=
  if !s.cellsRun h then s
  else
    let keep (xs : List Int) : List Int := if s.bandMode h = 0 then xs.drop (xs.length - waitingMax) else xs
    let b := s.band h
    s.setBand h { b with cells := (List.range 16).map fun i =>
      let c := s.cellRun h i
      (i, { c with inp := keep (c.inp ++ x.samples i) }) }

/-! Frames -/

/-- The positions that locked link lanes carry. -/
def State.carried (s : State) (h : Nat) : List Nat :=
  ((List.range 9).filterMap fun i =>
    let x := s.lane h i
    if x.block && x.frame then x.lpos else none).eraseDups

/-- The frames of one FSEQ are together: samples first, since they reach the cells as they arrive, then the messages. -/
def State.takeSet (s : State) (h : HeadIx) (obs : ServoObs) (x : UpSet) : State :=
  ((s.setLink h.val { s.link h.val with set := none }).takeSamples h.val x).upMessages h obs x.messages

/-- A position's part joins the frames of its FSEQ (R142). The set is complete when every position that a locked lane
carries is there; frames of another FSEQ close it. -/
def State.joinSet (s : State) (h : HeadIx) (obs : ServoObs) (fseq p : Nat) (part : UpPart) : State :=
  let n := h.val
  let t := match (s.link n).set with
    | some x => if x.fseq = fseq then s else s.takeSet h obs x
    | none => s
  let x : UpSet := ((t.link n).set).getD { fseq := fseq, parts := [] }
  let x := { x with parts := storePut (fun _ => none) x.parts p (some part) }
  if (t.carried n).all fun q => (storeFind (fun _ => none) x.parts q).isSome then t.takeSet h obs x
  else t.setLink n { t.link n with set := some x }

/-- A moved position has come on its new lane (R144). -/
def State.mapSeen (s : State) (h lane : Nat) (y : LaneSt) (ok : Bool) : State :=
  match (s.link h).mapPending with
  | some (p, l) => if ok && decide (l = lane) && y.lpos == some p then s.mapDone h p lane else s
  | none => s

/-- UPSTREAM_FRAME (R135-R143): a link lane in block lock takes a frame of 34 blocks; a corrupt one counts against the
lane alone. A locked lane that carries a position gives that position's part. `obs` serves a SERVO_ERR that the frame
completes. -/
def execUpstreamFrame (h : HeadIx) (lane : Fin 9) (f : UpArrival) (s : State) : Res :=
  let obs := f.obs
  let f := f.frame
  if f.blocks.length ≠ 34 then .fault (.malformed "UPSTREAM_FRAME: 34 blocks")
  else
    let n := h.val
    let x := s.lane n lane.val
    if !x.block then done s
    else
      let (w, scr) := upWords x.scr f
      let y := s.laneFrame n x f w scr
      let t := (s.setLane n lane.val y).mapSeen n lane.val y w.crcOk
      let t := if w.crcOk then t else t.count (headPage n) HEAD.UL_CRC_ERR
      let live := decide (3 ≤ t.linkState n ∧ t.linkState n ≤ 6)
      match y.lpos with
      | some p => if live && y.frame then
          done (t.joinSet h obs y.fseq p { ok := w.crcOk, sv := y.sv, payload := w.payload, sb := w.sb })
        else done t
      | none => done t

end Sys2Proof.Machine
end

