-- ==== Sys2Proof/Machine/RegAccess.lean ====
section
/-!
DEFINITION. What a read and a write of the register space do (R11-R13, R52-R63, R69-R74, R636): computed fields,
windows, the checks of R60, the fields a write touches, and what a written field sets going.
-/
namespace Sys2Proof.Machine

/-! What a read shows -/

/-- Fields that an instance of a page lacks: they read 0 and ignore writes (R51, R502). -/
def absent (p : PageRef) (x : FldAt) : Bool :=
  let f := x.fld
  match p.kind with
  | .region =>
    (f = REGION.RG_SPW_WEIGHT_DATA || f = REGION.RG_SPW_WEIGHT_BG || f = REGION.RG_SPW_BG_FLOOR) && decide ((regionPorts p.idx).length ≤ x.idx)
  | .eth =>
    if f = ETH.ETH_CFG_RATE then decide (2 ≤ p.idx)
    else if f = ETH.ETH_CFG_AUI then p.idx = 3
    else if f = ETH.ETH_CFG_MTU || f = ETH.IPV4 || f = ETH.IPV6 || f = ETH.IPV4_PFX || f = ETH.IPV6_PFX || f = ETH.GW4 || f = ETH.GW6 then
      p.idx = 2
    else false
  | _ => false

/-- The access type of a field's copy, with what its page says of single copies: ENABLE and SOFT_RESET where they are
ignored (R54, R55), the slot fields that only user slots let write (R291), the sources of report queues (R613). -/
def effAcc (p : PageRef) (x : FldAt) : Access :=
  let f := x.fld
  if absent p x then .ro
  else if fixedPage p.kind && (f = HDR.ENABLE || f = HDR.SOFT_RESET) then .ro
  else match p.kind with
  | .ceslot =>
    if p.idx < 174 && (f = CESLOT.RATE || f = CESLOT.UNIT || f = CESLOT.IN_SRC || f = CESLOT.MANUAL) then .ro else f.acc
  | .obsq => if f = OBSQ.Q_CFG_SRC && decide (x.idx < 16) then .ro else f.acc
  | _ => f.acc

/-- The PG_ISTAT bits that a kind of page has: bits 0 to 6 of R56 and the bits that the page's own chapter gives; the
others are reserved. -/
def istatBits (k : PageKind) : Nat :=
  0x7F + match k with
  | .chip | .rdy | .ck | .region | .ldpc | .tls | .stebaro => 0x300
  | .st | .eth | .obsq | .loader | .mediacrypt => 0x700
  | .er | .te | .mc | .setter | .ecctab | .nvme => 0xF00
  | .hy | .outer | .hbm | .journal | .motion => 0x1F00
  | .band | .stripe => 0x3F00
  | .head | .ctrleng | .tw => 0x7F00
  | .wheel => 0xFF00
  | .kick => 0x100
  | .trim | .ceslot | .fire | .firestat => 0

/-- A block is ready (R637). -/
def State.blockReady (s : State) (r b : Nat) : Bool :=
  !s.flt.isolated.contains (r, b) &&
  (if r < 4 then
    let h := blockHead r b
    s.ready (headPage h) && s.ready (bandPage h)
  else if blockPage r b = regionPage r then s.flt.sharedOk.contains (r, b)
  else s.ready (blockPage r b))

/-- An entry of the error table that ECT_SEL names (R433). -/
def State.ectShown (s : State) (f : Fld) (i : Nat) : Nat :=
  match (s.ectTable (min 39 (s.fld ecctabPage ECCTAB.ECT_SEL)))[i]? with
  | none => 0
  | some e =>
    if f = ECCTAB.ECT_ENTRY_ADDR then e.addr
    else if f = ECCTAB.ECT_ENTRY_COUNT then e.count
    else if f = ECCTAB.ECT_ENTRY_SYNDROME then e.syn
    else if f = ECCTAB.ECT_ENTRY_STATE then e.state
    else 1

/-- The nonempty queues as a number. -/
def State.nonempty (s : State) : Nat :=
  ((List.range 64).map fun q => if (s.oqueue q).items.isEmpty then 0 else 2 ^ q).sum

/-- The value that a field's copy shows to a path: the one held, or what the page computes. -/
def State.shown (s : State) (path : Path) (p : PageRef) (x : FldAt) : Nat :=
  let f := x.fld
  let held := s.fld x.base f x.idx
  let k := pathKey path
  let v : Nat :=
    if absent p x then 0
    else if p.kind.hasHeader && x.base = p.base && decide (f.off < 0x40) then
      if f = HDR.BUSY then boolNat (s.pageBusy p)
      else if f = HDR.PG_SEQ then held + boolNat (s.flag p.base HDR.BUSY != s.pageBusy p)
      else if f = HDR.TRUST_LOCKED then boolNat s.trustLocked
      else held
    else match p.kind with
    | .chip =>
      if f = CHIP.TIME_LO then s.now
      else if f = CHIP.TIME_HI then storeFind (fun _ => 0) s.arb.latches k
      else held
    | .rdy =>
      if f = RDY.SUMMARY then boolNat s.summary
      else if f = RDY.FILL0 then s.fillProgress 0
      else if f = RDY.FILL1 then s.fillProgress 1
      else held
    | .region =>
      if f = REGION.RG_BLK_STAT then ((List.range (blocksOf p.idx)).map fun b => boolNat (s.blockReady p.idx b) * 2 ^ b).sum
      else if f = REGION.RG_STALE_NOW then s.staleNow p.idx
      else held
    | .stebaro =>
      if f = STEBARO.SESSIONS then s.sess.length
      else if f = STEBARO.SUBSCRIPTIONS then
        (s.sess.filter fun e => match e.2 with
          | some y => y.sub.isSome
          | none => false).length
      else held
    | .er =>
      if f = ER.WIN_CURSOR then s.cursorSeq k
      else if f = ER.WIN_STAT_EMPTY then s.winStat k
      else if f = ER.WIN_STAT_SKIPPED then s.winStat k / 2
      else if f = ER.WIN_STAT_WORDS_LEFT then s.winStat k / 4
      else held
    | .obsq =>
      if f = OBSQ.NONEMPTY_LO then s.nonempty
      else if f = OBSQ.NONEMPTY_HI then s.nonempty / 2 ^ 32
      else if f = OBSQ.OQ_WSTAT_QUEUE then s.oqWstat k
      else if f = OBSQ.OQ_WSTAT_EMPTY then s.oqWstat k / 2 ^ 6
      else if f = OBSQ.OQ_WSTAT_WORDS_LEFT then s.oqWstat k / 2 ^ 8
      else if f = OBSQ.Q_FILL then itemBytes (s.oqueue x.idx).items
      else held
    | .ecctab =>
      if f = ECCTAB.ECT_ENTRY_ADDR || f = ECCTAB.ECT_ENTRY_COUNT || f = ECCTAB.ECT_ENTRY_SYNDROME || f = ECCTAB.ECT_ENTRY_STATE ||
         f = ECCTAB.ECT_ENTRY_VALID then s.ectShown f x.idx
      else if f = ECCTAB.RET_MAP_PAGE then ((s.mem.retired.getD x.idx none).getD 0)
      else if f = ECCTAB.RET_MAP_VALID then boolNat (s.mem.retired.getD x.idx none).isSome
      else held
    | .st =>
      if f = ST.POWERED_S then s.poweredS
      else if f = ST.COV_AGE_H then min 0xFFFF (s.passAge (x.idx + 1) / 3600)
      else held
    | .firestat =>
      if f = FIRESTAT.TF_USED then storeFind (fun _ => 0) (s.fireHead p.idx).tests (s.seqLayer p.idx) else held
    | .hy => if !s.flag chipPage CHIP.ROLE && (decide (0x80 ≤ f.off) || f = HY.HY_STAT_WORKERS || f = HY.HY_STAT_MISSING) then 0 else held
    | .mc =>
      if f = MC.ADMIN_QUEUED then
        (s.host.ctxs.filter fun x => match x.work with
          | .catWait _ _ => true
          | _ => false).length
      else if f = MC.FATAL_RESETS then min 0xFF s.recentFatals.length else held
    | _ => held
  v % 2 ^ f.width

/-- A window's word that is no field (R69, R70, R214). -/
def State.windowWord (s : State) (a : Nat) : Nat :=
  if 0x280000 ≤ a ∧ a < 0x2A1000 then
    let h := (a - 0x280000) / 0x1000
    let o := a % 0x1000
    if o < 0x300 then
      let i := o / 2
      s.liveTap h (i / 24) (i % 24) + 2 ^ 16 * s.liveTap h ((i + 1) / 24) ((i + 1) % 24)
    else if 0x400 ≤ o ∧ o < 0x460 then
      ofBytesLE ((List.range 4).map fun j => s.liveCanc h ((o - 0x400 + j) / 6) ((o - 0x400 + j) % 6))
    else s.word a
  else s.word a

/-- One field as a read takes it: write-only fields read 0. -/
def State.readFld (s : State) (path : Path) (p : PageRef) (x : FldAt) : Nat × State :=
  (if x.fld.acc = .wo then 0 else s.shown path p x, s)

/-- The fields of a word together. -/
def State.readFlds (s : State) (path : Path) (p : PageRef) : List FldAt → Nat × State
  | [] => (0, s)
  | x :: r =>
    let (v, t) := s.readFld path p x
    let (w, u) := t.readFlds path p r
    (v * 2 ^ x.fld.lsb + w, u)

/-- RC fields of a word clear to their reset values once read (R11). -/
def State.clearRc (s : State) (xs : List FldAt) : State :=
  s.forEach (xs.filter fun x => decide (x.fld.acc = .rc)) fun u x =>
    u.setFld x.base x.fld (regDefault (fldKey x.base x.fld x.idx)) x.idx

/-- Hardware updates that meet the read: each then applies to the cleared value (R13). -/
def State.meetRc (s : State) (xs : List FldAt) (meets : List (Nat × Nat)) : State :=
  s.forEach meets fun u m =>
    match xs.find? fun x => decide (x.fld.acc = .rc) && decide (x.fld.lsb = m.1) with
    | some x => u.count x.base x.fld m.2 x.idx
    | none => u

/-- The page whose arbiter and lock an address answers to (R59, R71). -/
def arbiterBase (a : Nat) : Nat :=
  if isWindow a then (if a < 0x200000 then ctrlengPage else chipPage)
  else a / 0x1000 * 0x1000

/-- An access to no register (R52, R12, R60). -/
def badAddress (a : Nat) : Bool := decide (a % 4 ≠ 0) || decide (2 ^ 24 ≤ a) || !assigned a

/-- A read of a word (R11, R60 check 1, R63, R69, R72): its value, whether a window port was empty, and the state
after. -/
def State.readWord (s : State) (path : Path) (a : Nat) (meets : List (Nat × Nat) := []) : Nat × Bool × State :=
  if badAddress a then (0, false, s.refuse chipPage 6)
  else if a = erPage + 0x64 then s.readWinData (pathKey path)
  else if a = obsqPage + 0x50 then s.readOqWin (pathKey path)
  else if a = outerPage + 0xC8 then
    let empty := s.flag outerPage OUTER.SHARD_STAT_EMPTY
    let (v, t) := s.shardRead
    (v, empty, t)
  else match pageAt a with
    | none => (s.windowWord a, false, s)
    | some p =>
      let xs := fieldsAt a
      if xs.isEmpty && isWindow a then (s.windowWord a, false, s)
      else
        let (v, t) := s.readFlds path p xs
        let t := (t.clearRc xs).meetRc xs meets
        let t := if a = chipPage + 0x54 then
            t.setArb { t.arb with latches := storePut (fun _ => 0) t.arb.latches (pathKey path) (t.now / 2 ^ 32 % 2 ^ 32) }
          else t
        (v, false, t)

/-! Which fields a write touches (R636) -/

/-- A field's bits in a written word. -/
def Fld.of (f : Fld) (v : Nat) : Nat := v / 2 ^ f.lsb % 2 ^ f.width

/-- A write of `v` touches a field's copy. -/
def State.touches (s : State) (path : Path) (p : PageRef) (v : Nat) (x : FldAt) : Bool :=
  match effAcc p x with
  | .rw | .rwl => decide (x.fld.of v ≠ s.shown path p x)
  | .w1c => decide (x.fld.of v &&& istatBits p.kind ≠ 0)
  | .wo => true
  | .ro | .rc => false

/-- The fields that a write touches. -/
def State.touched (s : State) (path : Path) (a v : Nat) : List FldAt :=
  match pageAt a with
  | none => []
  | some p => (fieldsAt a).filter fun x => s.touches path p v x

/-- The bits of a word of the CE window that can be written: SH of a coefficient, NBQ and NBQ_S of a bank (R292). -/
def ceMask (a : Nat) : Nat :=
  let o := (a % 0x800) % 0x200
  let bank := decide (a < 0x60000) && decide (0x200 ≤ a % 0x800 ∧ a % 0x800 < 0x600)
  if !ceWritable a then 0
  else if bank && decide (o < 0x178) && decide (o % 8 = 4) then 0x1F
  else if bank && decide (o = 0x18C) then 0xFF
  else 2 ^ 32 - 1

/-- The bits of a window's word that can be written (R69, R211, R214, R268). -/
def windowMask (a : Nat) : Nat :=
  if !(fieldsAt a).isEmpty then 0
  else if a < 0x200000 then ceMask (a - ceWindow)
  else
    let o := a % 0x1000
    let slots := if o = 0 then 0x1F1F else 0
    if a < 0x221000 then (if 0x40 ≤ o then 2 ^ 32 - 1 else slots)
    else if 0x240000 ≤ a ∧ a < 0x261000 then
      if (0x40 ≤ o ∧ o < 0x430) ∨ (0x440 ≤ o ∧ o < 0x830) ∨ (0xC00 ≤ o ∧ o < 0xC28) ∨ (0xC40 ≤ o ∧ o < 0xC68) then 2 ^ 32 - 1
      else if o = 0xC28 ∨ o = 0xC68 then 0xFFFF
      else slots
    else if 0x280000 ≤ a ∧ a < 0x2A1000 then (if 0x300 ≤ o ∧ o < 0x390 then 2 ^ 32 - 1 else 0)
    else 0

/-- A written word within a mask of writable bits. -/
def maskIn (old v mask : Nat) : Nat := ((List.range 32).map fun n => boolNat (bitOf (if bitOf mask n then v else old) n) * 2 ^ n).sum

/-- A write changes a window's word. -/
def State.touchesWord (s : State) (a v : Nat) : Bool :=
  isWindow a && decide (windowMask a ≠ 0) && decide (maskIn (s.word a) v (windowMask a) ≠ s.word a)

/-! The checks of R60 -/

/-- The role of a path (R72 to R74, R87); none once its session has closed. -/
def State.roleOf (s : State) (path : Path) : Option Role :=
  match path with
  | .mc => some .custodian
  | .host => some .operator
  | .steb i => (s.session i.val).map fun x => x.role

/-- The key digest with which a path's peer authenticated (R513): a Stebaro peer's certificate. -/
def State.peerOf (s : State) (path : Path) : List Nat :=
  match path with
  | .mc | .host => []
  | .steb i => match s.session i.val with
    | some x => x.cert
    | none => []

/-- What the owning page refuses with CLASS 8, with the words as written. -/
def State.refused8 (s : State) (path : Path) (a v : Nat) : Bool :=
  if isWindow a && decide (a < 0x200000) then s.ceWriteRefused (a - ceWindow)
  else match pageAt a with
  | none => false
  | some p =>
    let o := a - p.base
    let head := v % 64
    match p.kind with
    | .chip => o = 0x70 && decide (v ≠ 0xA5A5 ∧ v ≠ 0x5A5A)
    | .ck => o = 0x60 && islRefused (v % 64)
    | .ctrleng =>
      (o = 0x60 && (decide (32 < head) || decide (v / 2 ^ 8 % 16 = 0) || decide (10 < v / 2 ^ 8 % 16))) ||
      (decide (0x80 ≤ o ∧ o < 0x98) && !s.slotEnOk ((o - 0x80) / 4) v) ||
      (o = 0xD4 && decide (32 < head))
    | .band => o = 0x60 && !targetOk v
    | .head =>
      o = 0x44 && (s.touched path a v).any (fun x => x.fld = HEAD.LINK_CTRL_FORCE_POS) && decide (v / 2 ^ 4 % 16 < 8) &&
        (s.standbyLane p.idx).isNone
    | .fire =>
      let frees (h : Nat) (old : Bool) (new : Bool) : Bool :=
        old && !new && (!s.ready (headPage h) || decide (s.fld (bandPage h) BAND.BEAM_DEAD ≠ 0))
      (o = 0x1C && (List.range 32).any fun h => frees h (s.fldBit firePage FIRE.WR_RETIRE_LO h) (bitOf v h)) ||
      (o = 0x20 && frees 32 (s.flag firePage FIRE.WR_RETIRE_HI) (bitOf v 0))
    | .hbm => o = 0x0C && bitOf v 3 && !s.flag p.base HDR.SOFT_RESET && s.softResetRefused p
    | .te => (o = 0x58 && s.trustRefused v) || (o = 0x100 && bitOf v 0 && s.flag tePage TE.MBOX_CTRL_BUSY)
    | .st => o = 0x4C && s.testReqRefused
    | .wheel => o = 0x74 && (decide (v % 16 = 0) || decide (7 < v % 16))
    | .er => o = 0x74 && decide (v ≠ 0x0000C1EA ∧ v ≠ 0x0001C1EA)
    | _ => false

/-- Check 2 for an operator: a field of the custodian's alone (R87, R535, R561). -/
def operatorMay (p : PageRef) (v : Nat) (x : FldAt) : Bool :=
  !x.fld.cust && decide (x.fld.acc ≠ .rwl) && decide (p.kind ≠ .te) &&
  !(decide (p.kind = .hy) && x.fld = HY.PWR_CMD_OP && decide (x.fld.of v = 3))

/-- The checks of R60 in order, for one word of a write: the LAST_ERR.CLASS of the first that fails. -/
def State.checkWrite (s : State) (path : Path) (a v : Nat) : Option Nat :=
  if badAddress a then some 6
  else
    let xs := s.touched path a v
    let win := s.touchesWord a v
    let role := (s.roleOf path).getD .observer
    let base := arbiterBase a
    let o := a - base
    let header := !isWindow a
    let locked := s.flag base HDR.LOCK && decide (role ≠ .custodian)
    let exempt := header && (decide (o = 0x10) || decide (o = 0x14))
    let p : PageRef := (pageAt a).getD { kind := .chip, idx := 0, base := base }
    if role = .observer then some 5
    else if role = .operator ∧ !(xs.all fun x => operatorMay p v x) then some 5
    else if locked && !exempt && (win || !xs.isEmpty) then some 3
    else if s.trustLocked && xs.any (fun x => decide (effAcc p x = .rwl)) then some 3
    else if s.flag base HDR.OWN_TWIN && (win || (!xs.isEmpty && (decide (0x40 ≤ o) || o = 0x0C))) then some 4
    else if s.refused8 path a v then some 8
    else none

/-- The first word of a write that fails a check: its index, address and class (R81). -/
def State.firstFault (s : State) (path : Path) : Nat → List (Nat × Nat) → Option (Nat × Nat × Nat)
  | _, [] => none
  | n, (a, v) :: r => match s.checkWrite path a v with
    | some c => some (n, a, c)
    | none => s.firstFault path (n + 1) r

/-- A refusal is recorded in the page addressed, or in CHIP for an address that none has (R60); an undefined
sequencer command also gives result 11 (R311). -/
def State.recordRefusal (s : State) (a v cls : Nat) : State :=
  if cls = 6 then s.refuse chipPage 6
  else
    let t := s.refuse (arbiterBase a) cls
    if cls = 8 ∧ a = ctrlengPage + 0x60 then t.seqResult (v % 64) (v / 2 ^ 8 % 16) 11 else t

/-! Executing a word -/

/-- Bits that read 1 until what a written 1 started is done: a written 0 does nothing. -/
def selfClearing (p : PageRef) (f : Fld) : Bool :=
  (p.kind.hasHeader && f = HDR.SOFT_RESET) || (decide (p.kind = .ck) && f = CK.FMON_START) ||
  (decide (p.kind = .head) && f = HEAD.LINK_CTRL_RETRAIN) || (decide (p.kind = .ctrleng) && f = CTRLENG.TRACE_CFG_START)

/-- Fields that an operation of their page sets. -/
def setByHook (p : PageRef) (f : Fld) : Bool :=
  selfClearing p f || (p.kind.hasHeader && f = HDR.ISOLATE) || (decide (p.kind = .er) && f = ER.WIN_CURSOR) ||
  (decide (p.kind = .outer) && f = OUTER.SHARD_IDX) || (decide (p.kind = .fire) && (f = FIRE.WR_RETIRE_LO || f = FIRE.WR_RETIRE_HI))

/-- A touched field takes its new value. While a run is on, the firing table's old value stays in force until the next
(R279); a head's detection takes BAND's at a segment boundary, CE and CM their configuration at a servo frame or speed tick. -/
def State.putFld (s : State) (p : PageRef) (v : Nat) (x : FldAt) : State :=
  let f := x.fld
  let n := f.of v
  let old := s.fld x.base f x.idx
  match effAcc p x with
  | .w1c => s.setFld x.base f (maskIn old 0 n) x.idx
  | .rw | .rwl =>
    if setByHook p f then s
    else
      let t := s.setFld x.base f n x.idx
      match p.kind with
      | .band => if f.off < 0x40 then t else
      let (out, u) := t.bandWritten p.idx f old
      if out then u.headOut p.idx else u
      | .ctrleng => if 0x48 ≤ f.off ∧ f.off < 0x60 then t.holdCfg p.base f old else t
      | .wheel => if 0x50 ≤ f.off ∧ f.off < 0x74 then t.holdCfg p.base f old else t
      | .obsq => if decide (0x100 ≤ f.off ∧ f.off < 0x200) && s.oqInProgress x.idx then t.holdCfg p.base f old x.idx else t
      | .eth => if 0x44 ≤ f.off && f.off < 0xE0 && f.off ≠ 0x50 && f ≠ ETH.ETH_CFG_PFC_EN then t.holdCfg p.base f old x.idx else t
      | .stripe => if 0x40 ≤ f.off && s.loadActive then t.holdCfg p.base f old else t
      | .motion =>
        let a := (x.base - axisBlock 0) / 0x40
        if axisBlock 0 ≤ x.base && t.axMoving a && !([AXIS.SW_CFG_DEBOUNCE, AXIS.SW_CFG_CHAT_N, AXIS.SW_CFG_CHAT_WIN].contains f)
        then t.holdCfg x.base f old else t
      | .fire =>
        if f.off < 0x40 then t else
        let k := fldKey firePage f 0
        let on := s.fire.runs.any fun e => decide (e.2.phase ≠ 0)
        if on && (storeFind (fun _ => none) s.fire.held k).isNone then
          { t with fire := { t.fire with held := storePut (fun _ => none) t.fire.held k (some old) } }
        else t
      | _ => t
  | _ => s

/-- A write counts in PG_SEQ (R58): an RW or RWL field of a page changes. -/
def State.changesPage (s : State) (p : PageRef) (v : Nat) (xs : List FldAt) : Bool :=
  p.kind.hasHeader && xs.any fun x =>
    let a := effAcc p x
    let kept := (selfClearing p x.fld && decide (x.fld.of v = 0)) ||
      (x.fld = HDR.ISOLATE && x.base = p.base && decide (x.fld.of v = 0) && !s.mayReturn p)
    (decide (a = .rw) || decide (a = .rwl)) && !kept

/-- PG_CTRL written (R54, R55, R50): draining, enabling, isolation, soft reset. -/
def State.pgCtrlWritten (s : State) (p : PageRef) (v : Nat) (t : Fld → Bool) : State :=
  let u := if t HDR.ENABLE then (if bitOf v 0 then s.enablePage p.base else s.drainPage p.base) else s
  let u := if t HDR.QUIESCE then
      (if bitOf v 1 then u.drainPage p.base else if u.flag p.base HDR.ENABLE then u.enablePage p.base else u)
    else u
  let u := if (t HDR.ENABLE || t HDR.QUIESCE) && u.accepts p.base then
      match p.kind with
      | .nvme => u.resumeConns
      | .setter => u.retryMem
      | .wheel => u.tryStart p.idx
      | _ => u
    else u
  let u := if t HDR.ISOLATE then u.isolateWritten p (bitOf v 2) else u
  if t HDR.SOFT_RESET && bitOf v 3 then u.softReset p else u

/-- WR_RETIRE written (R277): a bit set retires its head, a bit cleared returns it. -/
def State.wrRetireWritten (s : State) (heads : List (Nat × Bool)) : State :=
  s.forEach heads fun u (h, on) =>
    let now := if h < 32 then u.fldBit firePage FIRE.WR_RETIRE_LO h else u.flag firePage FIRE.WR_RETIRE_HI
    if on = now then u
    else if on then u.retireHead h 6
    else
      let t := if h < 32 then u.setFldBit firePage FIRE.WR_RETIRE_LO h false else u.setFlag firePage FIRE.WR_RETIRE_HI false
      let t := (t.setFld (firestatPage h) FIRESTAT.RETIRE_CAUSE 0).setFld (firestatPage h) FIRESTAT.STATE 0
      if h = 32 then t else t.refreshLane (h % 4)

/-- CAL_REQ written (R271): each head named calibrates when it next may. -/
def State.calRequest (s : State) (heads : List Nat) : State :=
  s.forEach heads fun u h => u.setFireHead h { u.fireHead h with calDue := true }

/-- TRUST_CMD written (R512, R514, R526, R535). -/
def State.trustCmd (s : State) (v : Nat) : State :=
  match v with
  | 0x4C4B => s.trustLock
  | 0x5356 => s.svnCommit
  | 0x4C56 => s.zeroise.trustResult 0
  | 0x4443 => s.domainCreate
  | _ => s

/-- What a written word sets going on its page; `t` says which fields it touched, `s0` is the state before. -/
def State.wrote (s : State) (path : Path) (p : PageRef) (o v : Nat) (t : Fld → Bool) (s0 : State) : State :=
  let i := p.idx
  match p.kind with
  | .chip =>
    if o = 0x64 then
      let hot (u : State) : Bool := decide (u.fldS chipPage CHIP.TEMP_ALARM ≤ u.fldS chipPage CHIP.DIE_TEMP)
      if hot s && !hot s0 then s.istat chipPage 9 else s
    else if o = 0x70 then (if v = 0xA5A5 then s.resetHandover else if v = 0x5A5A then s.chipReset 1 else s)
    else s
  | .rdy => if !s0.summary && s.summary then s.summaryRose else s
  | .ck =>
    if o = 0x54 then (if t CK.FMON_START && bitOf v 31 then s.fmonStart else s)
    else if o = 0x60 then s.islandReset (v % 64)
    else s
  | .ctrleng =>
    if o = 0x60 then
      let arg := v / 2 ^ 12 % 2 ^ 20
      ((s.prepareJump (v % 64) (v / 2 ^ 8 % 16) arg).seqCmd (v % 64) (v / 2 ^ 8 % 16) arg).abortGo (v % 64)
    else if 0x68 ≤ o ∧ o < 0x80 then s.swapMask ((o - 0x68) / 4) v
    else if 0x80 ≤ o ∧ o < 0x98 then
      let k := (o - 0x80) / 4
      s.applySlotEn k (s0.fld ctrlengPage CTRLENG.SLOT_EN k) v
    else if o = 0xCC then
      (if t CTRLENG.TRACE_CFG_START && bitOf v 10 then (s.setFlag ctrlengPage CTRLENG.TRACE_CFG_START true).traceStart else s)
    else if o = 0xD4 then s.swapHead (v % 64) (v / 2 ^ 8 % 32)
    else s
  | .ceslot => if o = 8 ∧ bitOf v 2 then s.requestSwap i else s
  | .wheel =>
    if o = 0x4C then s.spdWritten i
    else if o = 0x74 then s.whCmd i (v % 16)
    else s
  | .motion =>
    if o = 0x4C then s.mvCmd (v % 16) (v / 2 ^ 4 % 4) (v / 2 ^ 8 % 64) (v / 2 ^ 16 % 64) (v / 2 ^ 24 % 64)
    else if o = 0x6C ∧ bitOf v 0 then s.stopAll
    else s
  | .kick => if o = 0x44 then s.elvCmd (v % 8) (decide (s.seqState 32 = sqParked)) else s
  | .loader =>
    if o = 0x44 then
      (if t LOADER.CUSTODY_KIND || t LOADER.CUSTODY_INTENT || t LOADER.CUSTODY_WHEEL || t LOADER.CUSTODY_STORE then
        s.custodyWritten (s0.fld loaderPage LOADER.CUSTODY_KIND) (s0.fld loaderPage LOADER.CUSTODY_WHEEL) else s)
    else s
  | .head =>
    if o = 0x44 then
      let u := if t HEAD.LINK_CTRL_FORCE_POS then s.forcePos i (v / 2 ^ 4 % 16) else s
      if t HEAD.LINK_CTRL_RETRAIN && bitOf v 0 then u.retrain i else u
    else s
  | .band =>
    if o = 0x7C then
      let u := if bitOf v 0 then s.bandReload i else s
      if bitOf v 2 then u.bandReacq i else u
    else s
  | .outer => if o = 0xC4 then s.shardSelect (v % 2 ^ 16) else s
  | .fire =>
    if o = 0x14 then s.calRequest ((List.range 32).filter fun h => bitOf v h)
    else if o = 0x18 then (if bitOf v 0 then s.calRequest [32] else s)
    else if o = 0x1C then s.wrRetireWritten ((List.range 32).map fun h => (h, bitOf v h))
    else if o = 0x20 then s.wrRetireWritten [(32, bitOf v 0)]
    else s
  | .stripe => if o = 0x5C then s.rtCmd (v / 2 ^ 4 % 4) (v % 8) else s
  | .setter =>
    if o = 0x78 ∧ 1 ≤ v % 8 ∧ v % 8 ≤ 6 then s.maintCmd (v % 8) (bitOf v 3) (v / 2 ^ 4 % 2 ^ 13) (v / 2 ^ 17 % 16) else s
  | .ecctab => if o = 0x60 ∧ bitOf v 0 then s.ectClear else s
  | .mediacrypt => if o = 0x5C ∧ bitOf v 0 then s.keyFlush else s
  | .te =>
    if o = 0x58 then s.trustCmd v
    else if o = 0x100 ∧ bitOf v 0 then s.mboxGo (s.peerOf path)
    else s
  | .tw =>
    if o = 0x5C then
      match v / 2 ^ 8 % 4 with
      | 1 => s.hoGive (v % 64)
      | 2 => s.hoReturn (v % 64)
      | _ => s
    else s
  | .hy =>
    if o = 0x58 then s.regAck
    else if o = 0x78 then s.stageReq
    else if o = 0x94 then s.pwrCmd (v % 64) (v / 2 ^ 8 % 4)
    else s
  | .st => if o = 0x4C then s.testReq (v % 16) (v / 2 ^ 4 % 2 ^ 12) (v / 2 ^ 16 % 2 ^ 8) (bitOf v 24) else s
  | .er =>
    if o = 0x60 then s.moveCursor (pathKey path) v
    else if o = 0x74 then s.clearLog (decide (v = 0x0001C1EA))
    else s
  | .obsq =>
    if o = 0x58 then (if bitOf v 6 then s.forEach (List.range 64) State.requestFlush else s.requestFlush (v % 64)) else s
  | .eth => if o = 0x44 ∧ t ETH.ETH_CFG_RATE then s.portRestart i else s
  | .nvme => if o = 0x4C then s.psReqWritten else s
  | .stebaro =>
    if o = 0x40 then
      let u := if t STEBARO.EN_M && !bitOf v 0 then s.closePortSessions 3 else s
      let u := if t STEBARO.EN_P0 && !bitOf v 1 then u.closePortSessions 0 else u
      if t STEBARO.EN_P1 && !bitOf v 2 then u.closePortSessions 1 else u
    else s
  | _ => s

/-- One word of a write that has passed every check (R58, R59, R636). -/
def State.writeWord (s : State) (path : Path) (a v : Nat) : State :=
  match pageAt a with
  | some p =>
    let xs := s.touched path a v
    if (fieldsAt a).isEmpty && isWindow a then
      (if windowMask a = 0 then s else s.setWord a (maskIn (s.word a) v (windowMask a)))
    else
      let t := s.forEach xs fun u x => u.putFld p v x
      let t := if s.changesPage p v xs then t.countWrap p.base HDR.PG_SEQ else t
      let has (f : Fld) : Bool := xs.any fun x => x.fld = f
      let o := a - p.base
      if p.kind.hasHeader && decide (o < 0x40) then (if o = 0x0C then t.pgCtrlWritten p v has else t)
      else t.wrote path p o v has s
  | none => if windowMask a = 0 then s else s.setWord a (maskIn (s.word a) v (windowMask a))

/-- Words in order; nothing follows a reset of the chip. -/
def State.writeWords (s : State) (path : Path) : List (Nat × Nat) → State
  | [] => s
  | (a, v) :: r =>
    let t := s.writeWord path a v
    if a = chipPage + 0x70 ∧ v = 0x5A5A then t else t.writeWords path r

/-- The pulse-table entry or read-power word of an address (R268), named by where it begins. -/
def pulseKey (a : Nat) : Nat :=
  let o := a % 0x1000
  if 0x40 ≤ o ∧ o < 0x430 then a - (o - 0x40) % 48
  else if 0x440 ≤ o ∧ o < 0x830 then a - (o - 0x440) % 48
  else a

/-- Pulse entries written are loaded once each (R269): a block write to an entry is one write of it. -/
def State.pulsesWritten (s : State) (as : List Nat) : State :=
  let ks := ((as.filter fun a => decide (0x240000 ≤ a ∧ a < 0x261000)).map pulseKey).eraseDups
  s.forEach ks State.pulseWritten

/-! A write as a whole (R59-R61) -/

/-- A page of the write is in an ownership transfer. -/
def State.transferring (s : State) (ws : List (Nat × Nat)) : Option (Nat × Nat × Nat) :=
  ((ws.zipIdx.filter fun w => !badAddress w.1.1 && !isWindow w.1.1 && s.flag (arbiterBase w.1.1) HDR.XFER_PENDING).head?).map fun w =>
    (w.2, w.1.1, w.1.2)

/-- An earlier write waits at a page of this one. -/
def behind (ws : List (Nat × Nat)) (q : List HeldWrite) : Bool :=
  q.any fun h => h.pairs.any fun x => ws.any fun w => decide (arbiterBase x.1 = arbiterBase w.1)

/-- Run the checks and the write: the refusal (index, address, class), if any. -/
def State.tryWrite (s : State) (path : Path) (ws : List (Nat × Nat)) : Option (Nat × Nat × Nat) × State :=
  match s.firstFault path 0 ws with
  | some (n, a, c) => (some (n, a, c), s.recordRefusal a ((ws.map Prod.snd).getD n 0) c)
  | none => (none, (s.writeWords path ws).pulsesWritten (ws.map Prod.fst))

/-- An enabled PG_ISTAT bit of a page interrupts the management cores (R56). -/
def State.irq (s : State) (base : Nat) : Bool :=
  (List.range 32).any fun n => s.fldBit base HDR.ISTAT n && s.fldBit base HDR.PG_IEN n

end Sys2Proof.Machine
end

