-- ==== Sys2Proof/Machine/Stebaro.lean ====
section
/-!
DEFINITION. Accesses as their paths make them (R59-R61, R72-R74) and the Stebaro transport (R75-R89, R608): sessions,
requests, responses, subscriptions.
-/
namespace Sys2Proof.Machine

/-! Datagrams (R77) -/

/-- The 16 bytes of a header (R77), in little-endian order. -/
def sbHeaderBytes (h : SbHeader) : List Nat :=
  bytesLE 2 0x5342 ++ [h.version, h.opcode] ++ bytesLE 2 h.tag ++ bytesLE 2 h.count ++ bytesLE 4 h.address ++
    bytesLE 2 h.status ++ bytesLE 2 h.flags

/-- The header that a datagram opens with (R77, R78); none without MAGIC, or below 16 bytes (log entry 147). -/
def sbHeaderOf (bs : List Nat) : Option SbHeader :=
  let at' (o n : Nat) : Nat := ofBytesLE ((bs.drop o).take n)
  if bs.length < 16 ∨ at' 0 2 ≠ 0x5342 then none
  else some { version := at' 2 1, opcode := at' 3 1, tag := at' 4 2, count := at' 6 2, address := at' 8 4,
              status := at' 12 2, flags := at' 14 2 }

/-- A datagram: its header, then the payload words (R77, R79). -/
def sbDatagram (h : SbHeader) (payload : List Nat) : List Nat := sbHeaderBytes h ++ payload.flatMap (bytesLE 4)

/-- The header of an EVENT with its TAG and the words of its payload (R79, R86). -/
def eventHeader (tag words : Nat) : SbHeader :=
  { version := 1, opcode := 0x10, tag := tag, count := words, address := 0, status := 0, flags := 0 }

/-! Responses (R79, R82, R83) -/

/-- The status code of a refusal (R60, R82). -/
def sbStatus (a cls : Nat) : Nat :=
  match cls with
  | 6 => if a < 2 ^ 24 ∧ a % 4 ≠ 0 then 5 else 4
  | 5 => 6
  | 3 => 7
  | 4 => 8
  | _ => 0xC

/-- Answer a request and keep the response (R79, R83). A closed session discards it (R89). -/
def State.sbRespond (s : State) (sid : SessionIx) (req : SbHeader) (status count : Nat) (payload : List Nat) (short : Nat := 0) : State :=
  match s.session sid.val with
  | none => s
  | some x =>
    let resp : SbHeader := { version := 1, opcode := if status = 0 then 0x20 else 0x21, tag := req.tag, count := count,
                             address := req.address, status := status, flags := req.opcode % 256 * 256 + short }
    let kept := x.kept ++ [{ req := req, resp := resp, payload := payload, time := s.now }]
    let t := (s.setSession sid.val (some { x with kept := kept.drop (kept.length - 64) })).send (.sbDatagram sid (sbDatagram resp payload))
    if status = 0 then t else t.count stebaroPage STEBARO.SB_NAK_CNT

/-- A NAK: the index of the first register at fault (R79). -/
def State.sbNak (s : State) (sid : SessionIx) (req : SbHeader) (status index : Nat) : State := s.sbRespond sid req status 1 [index]

/-! Writes of a path -/

/-- A path can reach the registers: the chip is out of reset, and a session is open. -/
def State.pathLive (s : State) (path : Path) : Bool :=
  decide (s.svc.held = .no) && (s.roleOf path).isSome

/-- Answer a write that was executed or refused. -/
def State.answerWrite (s : State) (w : HeldWrite) (r : Option (Nat × Nat × Nat)) : State :=
  match w.for' with
  | .plain =>
    let a := match r with
      | some (_, a, _) => a
      | none => (w.pairs.map Prod.fst).headD 0
    s.send (.writeDone w.path a (match r with
      | some (_, _, c) => c
      | none => 0))
  | .steb req => match w.path with
    | .steb sid => (match r with
      | some (n, a, c) => s.sbNak sid req (sbStatus a c) n
      | none => s.sbRespond sid req 0 0 [])
    | .mc | .host => s
  | .admin c cid => s.complete c cid (match r with
    | some (_, _, 6) => .invalidField
    | some _ => .opDenied
    | none => .ok)

/-- Check and execute a write, and answer it. A write that reset the chip is not answered. -/
def State.finishWrite (s : State) (w : HeldWrite) : State :=
  let (r, t) := s.tryWrite w.path w.pairs
  if r.isNone && w.pairs.contains (chipPage + 0x70, 0x5A5A) then t else t.answerWrite w r

/-- A write of a path (R59, R61): it waits while a page of it is in a transfer, or behind a write that waits there. -/
def State.regWrite (s : State) (path : Path) (ws : List (Nat × Nat)) (for' : WriteFor := .plain) : State :=
  if !s.pathLive path then s
  else
    let w : HeldWrite := { path := path, pairs := ws, arrival := s.now, for' := for' }
    if (s.transferring ws).isSome || behind ws s.arb.waiting then s.setArb { s.arb with waiting := s.arb.waiting ++ [w] }
    else s.finishWrite w

/-- The first waiting write whose pages satisfy `ok` and that no earlier one precedes, taken out of the queue. -/
def takeHeld (ok : HeldWrite → Bool) : List HeldWrite → List HeldWrite → Option (HeldWrite × List HeldWrite)
  | _, [] => none
  | before, w :: r =>
    if ok w && !behind w.pairs before then some (w, before ++ r) else takeHeld ok (before ++ [w]) r

/-- WRITE_RELEASED_AFTER_TRANSFER (R61): the first write whose pages are settled is checked against the new owner. -/
def execWriteReleasedAfterTransfer (s : State) : Res :=
  match takeHeld (fun w => (s.transferring w.pairs).isNone) [] s.arb.waiting with
  | none => done s
  | some (w, r) =>
    let t := s.setArb { s.arb with waiting := r }
    done (if t.pathLive w.path then t.finishWrite w else t)

/-- WRITE_TRANSFER_TIMEOUT (R61): the oldest write that still waits for a transfer is refused with CLASS 4 at the page
in transfer, once 10 ms have passed since it came. -/
def execWriteTransferTimeout (s : State) : Res :=
  match s.arb.waiting.find? fun w => (s.transferring w.pairs).isSome && decide (w.arrival + 10000000 ≤ s.now) with
  | none => done s
  | some w =>
    let t := s.setArb { s.arb with waiting := s.arb.waiting.erase w }
    match t.transferring w.pairs with
    | none => done t
    | some (n, a, _) =>
      if t.pathLive w.path then done ((t.refuse (arbiterBase a) 4).answerWrite w (some (n, a, 4))) else done t

/-! Reads of a path -/

/-- A read of a register by a path, answered. -/
def State.regRead (s : State) (path : Path) (a : Nat) (meets : List (Nat × Nat) := []) : State :=
  if !s.pathLive path then s
  else
    let (v, _, t) := s.readWord path a meets
    t.send (.readData path a v)

/-- Several reads in order. -/
def State.readMany (s : State) (path : Path) : List Nat → List Nat × State
  | [] => ([], s)
  | a :: r =>
    let (v, _, t) := s.readWord path a
    let (vs, u) := t.readMany path r
    (v :: vs, u)

/-- Reads of one address, until the window there is empty (R84). -/
def State.readPort (s : State) (path : Path) (a : Nat) : Nat → List Nat × Bool × State
  | 0 => ([], false, s)
  | n + 1 =>
    let (v, empty, t) := s.readWord path a
    if empty then ([], true, t)
    else
      let (vs, short, u) := t.readPort path a n
      (v :: vs, short, u)

/-- The index of the first address that is no register's. -/
def firstBad (as : List Nat) : Option Nat := as.findIdx? badAddress

/-! Sessions (R75, R76, R510, R511) -/

/-- Stebaro is served on a port (R76). -/
def State.served (s : State) (p : Nat) : Bool :=
  match p with
  | 0 => s.flag stebaroPage STEBARO.EN_P0
  | 1 => s.flag stebaroPage STEBARO.EN_P1
  | 3 => s.flag stebaroPage STEBARO.EN_M
  | _ => false

/-- A role anchor's digest as bytes. -/
def State.anchorDigest (s : State) (n : Nat) : List Nat :=
  [TE.ROLE_ANCHOR_DIGEST0, TE.ROLE_ANCHOR_DIGEST1, TE.ROLE_ANCHOR_DIGEST2, TE.ROLE_ANCHOR_DIGEST3, TE.ROLE_ANCHOR_DIGEST4,
   TE.ROLE_ANCHOR_DIGEST5, TE.ROLE_ANCHOR_DIGEST6, TE.ROLE_ANCHOR_DIGEST7, TE.ROLE_ANCHOR_DIGEST8, TE.ROLE_ANCHOR_DIGEST9,
   TE.ROLE_ANCHOR_DIGEST10, TE.ROLE_ANCHOR_DIGEST11].flatMap fun f => bytesLE 4 (s.fld tePage f n)

/-- Record a digest in ROLE_ANCHOR[0] with the custodian role (R510). -/
def State.bindAnchor (s : State) (d : List Nat) : State :=
  let fs := [TE.ROLE_ANCHOR_DIGEST0, TE.ROLE_ANCHOR_DIGEST1, TE.ROLE_ANCHOR_DIGEST2, TE.ROLE_ANCHOR_DIGEST3, TE.ROLE_ANCHOR_DIGEST4,
   TE.ROLE_ANCHOR_DIGEST5, TE.ROLE_ANCHOR_DIGEST6, TE.ROLE_ANCHOR_DIGEST7, TE.ROLE_ANCHOR_DIGEST8, TE.ROLE_ANCHOR_DIGEST9,
   TE.ROLE_ANCHOR_DIGEST10, TE.ROLE_ANCHOR_DIGEST11]
  let t := s.forEach (fs.zip (wordsLE d)) fun u x => u.setFld tePage x.1 x.2 0
  (t.setFld tePage TE.ROLE_ANCHOR_ROLE 3 0).setFlag tePage TE.ROLE_ANCHOR_VALID true 0

/-- The role of ROLE_ANCHOR[n].ROLE; 0 is none (R535). -/
def roleCode : Nat → Option Role
  | 1 => some .observer
  | 2 => some .operator
  | 3 => some .custodian
  | _ => none

/-- The role of a chain of key digests, peer certificate first (R511): the lowest-numbered valid anchor that the chain's
last certificate, within four, matches. -/
def State.chainRole (s : State) (chain : List (List Nat)) : Option Role :=
  if chain.isEmpty ∨ 4 < chain.length then none
  else
    let last := chain.getLastD []
    match (List.range 16).find? fun n => s.flag tePage TE.ROLE_ANCHOR_VALID n && decide (s.anchorDigest n = last) with
    | some n => roleCode (s.fld tePage TE.ROLE_ANCHOR_ROLE n)
    | none => none

/-- DTLS_HANDSHAKE (R75, R76, R510, R511, R569): the lowest free session opens with the chain's role, or the handshake is
refused. In the open state the first peer on port M is bound as custodian. The peer's certificate carries a P-384 or Ed25519
key (R528). -/
def execDtlsHandshake (port : PortIx) (chain : CertChain) (s : State) : Res :=
  let p := port.val
  let key := chain.key
  let chain := chain.certs
  if s.svc.held ≠ .no ∨ !s.served p ∨ !s.flag rdyPage RDY.STEBARO ∨ !s.accepts stebaroPage ∨ key = .other then done s
  else
    let first := decide (p = 3) && s.flag tePage TE.TE_STAT_OPEN && !s.flag tePage TE.ROLE_ANCHOR_VALID 0 && !chain.isEmpty
    let free := (List.range 16).find? fun i => (s.session i).isNone
    match free with
    | none => done s
    | some i =>
      let t := if first then s.bindAnchor (chain.headD []) else s
      match (if first then some Role.custodian else t.chainRole chain) with
      | none => done t
      | some r =>
        let x : Session := { port := p, role := r, cert := chain.headD [], sub := none, kept := [], lastDatagram := s.now }
        done ((t.setSession i (some x)).istat stebaroPage 8)

/-- DATAGRAM_DISCARD (R78): a datagram to a port that serves Stebaro, which fails DTLS record protection or has a wrong
MAGIC. One that has neither fault is discarded by no rule. -/
def execDatagramDiscard (port : Datagram) (s : State) : Res :=
  done (if s.svc.held = .no ∧ s.served port.port.val = true ∧ (port.recordOk = false ∨ sbHeaderOf port.bytes = none)
    then s.count stebaroPage STEBARO.SB_DROP_CNT else s)

/-- SESSION_CLOSE (R75). -/
def execSessionClose (sid : SessionIx) (s : State) : Res := done (s.closeSession sid.val)

/-- The idle time-out of a session in nanoseconds: SB_IDLE_TMO within 10 to 3,600 s (R89). -/
def State.idleTimeout (s : State) : Nat := 1000000000 * max 10 (min 3600 (s.fld stebaroPage STEBARO.SB_IDLE_TMO))

/-- SESSION_IDLE_TIMEOUT (R75): a session without a datagram for SB_IDLE_TMO seconds ends. -/
def execSessionIdleTimeout (sid : SessionIx) (s : State) : Res :=
  match s.session sid.val with
  | some x => done (if x.lastDatagram + s.idleTimeout ≤ s.now then s.closeSession sid.val else s)
  | none => done s

/-! Requests (R78-R84) -/

/-- What an opcode of a client takes (R79): the least and the largest COUNT, and payload words of a count. -/
def clientOp (op n : Nat) : Option (Nat × Nat × Nat) :=
  match op with
  | 1 => some (1, 256, n)
  | 2 => some (1, 128, 2 * n)
  | 3 => some (1, 256, 0)
  | 4 => some (1, 256, n)
  | 5 => some (1, 256, 0)
  | 6 => some (0, 0, 4)
  | _ => none

/-- Requests of a session in progress: its writes that wait (R61). -/
def State.outstanding (s : State) (i : Nat) : Nat :=
  (s.arb.waiting.filter fun w => decide (pathKey w.path = 2 + i)).length

/-- The fault of a request's form, as a status code (R82). The order in which they are looked for is the model's (log
entry 147): VERSION, OPCODE, COUNT, ADDRESS[31:24], then the outstanding requests; CROSS_PAGE comes after these and before
the faults of single registers. An ADDRESS below 2^24 where the table gives 0 is accepted, as STATUS and FLAGS of a
request are (log entry 147). -/
def State.requestFault (s : State) (i : Nat) (h : SbHeader) (words : Nat) : Option Nat :=
  if h.version ≠ 1 then some 1
  else match clientOp h.opcode h.count with
  | none => some 2
  | some (lo, hi, want) =>
    if h.count < lo ∨ hi < h.count ∨ words ≠ want then some 3
    else if 2 ^ 24 ≤ h.address then some 4
    else if 32 ≤ s.outstanding i then some 0xA
    else none

/-- A datagram of a session arrives: its idle time starts again, and responses older than 1 s go. -/
def State.sbTouch (s : State) (i : Nat) : State :=
  match s.session i with
  | none => s
  | some x => s.setSession i (some { x with lastDatagram := s.now, kept := x.kept.filter fun k => decide (s.now ≤ k.time + 1000000000) })

/-- A request (R78, R82, R83): a repeat gets its kept response with REPLAYED set; one whose first copy still waits is
counted and not executed a second time (log entry 147); a faulty one gets a NAK, an ADDRESS that no page can have being
recorded in CHIP as R60 says of unassigned addresses; any other runs. A datagram of no session fails DTLS record
protection. -/
def State.sbRequest (s : State) (sid : SessionIx) (h : SbHeader) (words : Nat) (run : State → State) : State :=
  let i := sid.val
  if s.svc.held ≠ .no then s
  else match s.session i with
  | none => s.count stebaroPage STEBARO.SB_DROP_CNT
  | some _ =>
    let t := s.sbTouch i
    let kept : List Kept := match t.session i with
      | some x => x.kept
      | none => []
    match kept.find? fun k => decide (k.req = h) with
    | some k =>
      let resp := { k.resp with flags := k.resp.flags / 4 * 4 + k.resp.flags % 2 + 2 }
      let u := t.send (.sbDatagram sid (sbDatagram resp k.payload))
      if resp.opcode = 0x21 then u.count stebaroPage STEBARO.SB_NAK_CNT else u
    | none =>
      let t := t.count stebaroPage STEBARO.SB_RX_CNT
      if t.arb.waiting.any fun w => decide (pathKey w.path = 2 + i) && decide (w.for' = .steb h) then t
      else
        match t.requestFault i h words with
        | some code => (if code = 4 then t.refuse chipPage 6 else t).sbNak sid h code 0
        | none => run t

/-- BAD_REQUEST (R78, R82): only a request with a fault of its form; one without is no bad request. -/
def execBadRequest (sid : SessionIx) (hdr : SbHeader) (words : Nat) (s : State) : Res :=
  done (s.sbRequest sid hdr words fun t => t)

/-- Reads of a list of addresses, checked whole first (R81), answered. -/
def State.sbReads (s : State) (sid : SessionIx) (h : SbHeader) (as : List Nat) : State :=
  match firstBad as with
  | some n => (s.refuse chipPage 6).sbNak sid h (sbStatus (as.getD n 0) 6) n
  | none =>
    let (vs, t) := s.readMany (.steb sid) as
    t.sbRespond sid h 0 vs.length vs

/-- READ (R79-R81). -/
def execSbRead (sid : SessionIx) (hdr : SbHeader) (addrs : List Nat) (s : State) : Res :=
  let h := { hdr with opcode := 1 }
  done (s.sbRequest sid h addrs.length fun t => t.sbReads sid h addrs)

/-- WRITE (R79-R81). -/
def execSbWrite (sid : SessionIx) (hdr : SbHeader) (pairs : List (Nat × Word)) (s : State) : Res :=
  let h := { hdr with opcode := 2 }
  done (s.sbRequest sid h (2 * pairs.length) fun t =>
    t.regWrite (.steb sid) (pairs.map fun x => (x.1, x.2.toNat)) (.steb h))

/-- The page or window area of an address (R70, R80). -/
def blockArea (a : Nat) : Nat := if isWindow a then (if a < 0x200000 then 0x100000 else a / 0x40000 * 0x40000) else a / 0x1000 * 0x1000

/-- Addresses of a block. -/
def blockAddrs (a n : Nat) : List Nat := (List.range n).map fun k => a + 4 * k

/-- A block within one page or area runs; any other is refused with CROSS_PAGE (R80), with the index of its first register
beyond the page or area (R79, log entry 147). -/
def State.sbBlock (s : State) (sid : SessionIx) (h : SbHeader) (run : State → State) : State :=
  if blockArea h.address = blockArea (h.address + 4 * (h.count - 1)) then run s
  else s.sbNak sid h 9 (((blockAddrs h.address h.count).findIdx? fun a => decide (blockArea a ≠ blockArea h.address)).getD 0)

/-- READ_BLOCK (R79-R81). -/
def execReadBlock (sid : SessionIx) (hdr : SbHeader) (s : State) : Res :=
  let h := { hdr with opcode := 3 }
  done (s.sbRequest sid h 0 fun t => t.sbBlock sid h fun u => u.sbReads sid h (blockAddrs h.address h.count))

/-- WRITE_BLOCK (R79-R81). -/
def execWriteBlock (sid : SessionIx) (hdr : SbHeader) (values : List Word) (s : State) : Res :=
  let h := { hdr with opcode := 4 }
  done (s.sbRequest sid h values.length fun t => t.sbBlock sid h fun u =>
    u.regWrite (.steb sid) ((blockAddrs h.address h.count).zip (values.map fun v => v.toNat)) (.steb h))

/-- WINDOW_READ (R84). -/
def execWindowRead (sid : SessionIx) (hdr : SbHeader) (s : State) : Res :=
  let h := { hdr with opcode := 5 }
  done (s.sbRequest sid h 0 fun t =>
    if badAddress h.address then (t.refuse chipPage 6).sbNak sid h (sbStatus h.address 6) 0
    else
      let (vs, short, u) := t.readPort (.steb sid) h.address h.count
      u.sbRespond sid h 0 vs.length vs (boolNat short))

/-! Subscriptions (R85, R86, R608) -/

/-- Sessions that hold a subscription. -/
def State.subscribed (s : State) : List Nat :=
  (List.range 16).filter fun i => match s.session i with
    | some x => x.sub.isSome
    | none => false

/-- Set a session's subscription. -/
def State.setSub (s : State) (i : Nat) (u : Option Sub) : State :=
  match s.session i with
  | some x => s.setSession i (some { x with sub := u })
  | none => s

/-- SUBSCRIBE (R85). -/
def execSubscribe (sid : SessionIx) (hdr : SbHeader) (filter : SubFilter) (s : State) : Res :=
  let h := { hdr with opcode := 6 }
  let i := sid.val
  done (s.sbRequest sid h 4 fun t =>
    if filter.reserved ≠ 0 ∨ filter.selectors / 4 ≠ 0 then t.sbNak sid h 0xD 0
    else if filter.selectors = 0 then (t.setSub i none).sbRespond sid h 0 0 []
    else if !t.subscribed.contains i && decide (8 ≤ t.subscribed.length) then t.sbNak sid h 0xB 0
    else (t.setSub i (some { filter := filter, buffer := [], nextNo := 0, evTag := 0, unacked := [] })).sbRespond sid h 0 0 [])

/-- The subscription of a session. -/
def State.subOf (s : State) (i : Nat) : Option Sub := (s.session i).bind fun x => x.sub

/-- EVENT_ACK (R86). -/
def execEventAck (sid : SessionIx) (tag : Nat) (s : State) : Res :=
  let t := s.sbTouch sid.val
  match t.subOf sid.val with
  | some u => done (t.setSub sid.val (some { u with unacked := u.unacked.filter fun e => decide (e.1 ≠ tag) }))
  | none => done t

/-- EVENT_NAK (R86): no acknowledgement. -/
def execEventNak (sid : SessionIx) (_tag : Nat) (s : State) : Res := done (s.sbTouch sid.val)

/-- An entry as an EVENT carries it (R608): its tag word, then its bytes. -/
def eventEntry (e : SubEntry) : List Nat :=
  let kind := match e with
    | .record _ => 1
    | .item _ => 2
    | .gap _ _ _ => 3
  let b := subEntryBytes e
  bytesLE 2 b.length ++ [kind, 0] ++ b

/-- The items of a buffer up to its first gap marker. -/
def itemsAhead : List SubEntry → List (List Nat)
  | .item b :: r => b :: itemsAhead r
  | .record _ :: r => itemsAhead r
  | _ => []

/-- The queue of an item (R603). -/
def itemQueue (b : List Nat) : Nat := b.getD 1 0

/-- The entry of a buffer that leaves next (R86): records leave in sequence order, items by the priority of their queues,
lower queue first on a tie (as in R605) and QSEQ order within a queue. Where both wait, the older of them says which kind
is next, and no entry passes a gap marker (log entry 147). -/
def pickEntry (prio : Nat → Nat) : List SubEntry → Option (SubEntry × List SubEntry)
  | [] => none
  | .item b :: r =>
    let best := (itemsAhead r).foldl (fun x y =>
      if prio (itemQueue x) < prio (itemQueue y) ∨ (prio (itemQueue x) = prio (itemQueue y) ∧ itemQueue y < itemQueue x)
      then y else x) b
    some (.item best, (SubEntry.item b :: r).erase (.item best))
  | e :: r => some (e, r)

/-- As many entries as one datagram of 1,024 bytes takes, one at least (R79, R608), at most `n`: the bytes, and the
entries left. -/
def packEntries (prio : Nat → Nat) : Nat → Nat → List SubEntry → List Nat × List SubEntry
  | 0, _, es => ([], es)
  | n + 1, used, es =>
    match pickEntry prio es with
    | none => ([], es)
    | some (e, r) =>
      let b := eventEntry e
      if 0 < used ∧ 1024 < used + b.length then ([], es)
      else
        let (bs, left) := packEntries prio n (used + b.length) r
        (b ++ bs, left)

/-- What the next EVENT of a subscription carries, and what stays in its buffer (R86). -/
def State.nextEvent (s : State) (u : Sub) : List Nat × List SubEntry :=
  packEntries (fun q => s.cfg obsqPage OBSQ.Q_CFG_PRIO q) u.buffer.length 0 u.buffer

/-- EVENT_SEND (R86): while fewer than 8 EVENTs are unacknowledged. -/
def execEventSend (sid : SessionIx) (s : State) : Res :=
  match s.subOf sid.val with
  | some u =>
    if 8 ≤ u.unacked.length ∨ u.buffer.isEmpty then done s
    else
      let (bs, left) := s.nextEvent u
      let ws := wordsLE bs
      let t := s.setSub sid.val (some { u with buffer := left, evTag := (u.evTag + 1) % 2 ^ 16, unacked := u.unacked ++ [(u.evTag, ws)] })
      done (t.send (.sbDatagram sid (sbDatagram (eventHeader u.evTag ws.length) ws)))
  | none => done s

/-- EVENT_RESEND (R86): t_SB_RETX after it was sent. -/
def execEventResend (sid : SessionIx) (tag : Nat) (s : State) : Res :=
  match s.subOf sid.val with
  | some u => match u.unacked.find? fun e => decide (e.1 = tag) with
    | some e => done (s.send (.sbDatagram sid (sbDatagram (eventHeader tag e.2.length) e.2)))
    | none => done s
  | none => done s

/-- SUBSCRIPTION_CANCEL (R86): its EVENTs have stayed unacknowledged for t_SB_SUB. -/
def execSubscriptionCancel (sid : SessionIx) (s : State) : Res :=
  match s.subOf sid.val with
  | some u =>
    if u.unacked.isEmpty then done s
    else done (((s.setSub sid.val none).istat stebaroPage 9).event stebaroPage 0x6201 2)
  | none => done s

end Sys2Proof.Machine
end

