-- ==== Sys2Proof/Machine/RegCmds.lean ====
section
/-!
DEFINITION. Commands that are a write or a read of one register: the words they write follow the tables of their pages.
-/
namespace Sys2Proof.Machine

/-- A command that writes one register. -/
def State.regSet (s : State) (path : Path) (a v : Nat) : Res := done (s.regWrite path [(a, v)])

/-- A register's word as a path reads it, without what a read sets going. -/
def State.shownWord (s : State) (path : Path) (a : Nat) : Nat :=
  match pageAt a with
  | none => 0
  | some p => ((fieldsAt a).map fun x => s.shown path p x * 2 ^ x.fld.lsb).sum

/-- A command that sets or clears one bit of a register, its other fields at their values. -/
def State.regBit (s : State) (path : Path) (a n : Nat) (on : Bool) : Res := s.regSet path a (setBit (s.shownWord path a) n on)

/-! Any register (R60, R11) -/

/-- The W1C bits that hardware sets in the bus event that also writes their register: the set wins (R13). -/
def State.setMeets (s : State) (a sets : Nat) : State :=
  match pageAt a with
  | none => s
  | some p => s.forEach ((fieldsAt a).filter fun x => decide (x.fld.acc = .w1c)) fun u x =>
    u.setFld x.base x.fld (u.fld x.base x.fld x.idx ||| (x.fld.of sets &&& istatBits p.kind)) x.idx

/-- REGISTER_WRITE: `sets` are the W1C bits of the register that hardware sets in the same bus event (R13). A chip in
reset takes no write. -/
def execRegisterWrite (path : Path) (addr : Nat) (value : RegWord) (s : State) : Res :=
  if s.svc.held ≠ .no then done s else done ((s.regWrite path [(addr, value.value.toNat)]).setMeets addr value.sets.toNat)

/-- RC_REGISTER_READ (R11, R13): `meets` are hardware updates that meet the read, by field and amount. -/
def execRcRegisterRead (path : Path) (addr : Nat) (meets : List (Nat × Nat)) (s : State) : Res := done (s.regRead path addr meets)

/-! The common header (R54, R55) -/

/-- SOFT_RESET. -/
def execSoftReset (path : Path) (page : Page) (s : State) : Res := s.regBit path (pageBase page + 0x0C) 3 true
/-- ENABLE_CLEAR. -/
def execEnableClear (path : Path) (page : Page) (s : State) : Res := s.regBit path (pageBase page + 0x0C) 0 false
/-- QUIESCE. -/
def execQuiesce (path : Path) (page : Page) (s : State) : Res := s.regBit path (pageBase page + 0x0C) 1 true
/-- ISOLATE_CLEAR (R50). -/
def execIsolateClear (path : Path) (page : Page) (s : State) : Res := s.regBit path (pageBase page + 0x0C) 2 false

/-! CHIP and CK (R62, R63, R67) -/

/-- CHIP_RESET_HANDOVER. -/
def execChipResetHandover (path : Path) (s : State) : Res := s.regSet path (chipPage + 0x70) 0xA5A5
/-- CHIP_RESET_IMMEDIATE. -/
def execChipResetImmediate (path : Path) (s : State) : Res := s.regSet path (chipPage + 0x70) 0x5A5A
/-- TIME_LO_READ: TIME_HI is latched for the path. -/
def execTimeLoRead (path : Path) (s : State) : Res := done (s.regRead path (chipPage + 0x54))
/-- FMON_START. -/
def execFmonStart (path : Path) (s : State) : Res := s.regBit path (ckPage + 0x54) 31 true
/-- ISL_RST_REQ. -/
def execIslRstReq (path : Path) (island : Fin 64) (s : State) : Res := s.regSet path (ckPage + 0x60) island.val

/-- STEBARO_PORT_DISABLE (R89): the port's enable bit; port T has none. -/
def execStebaroPortDisable (path : Path) (port : PortIx) (s : State) : Res :=
  match port.val with
  | 0 => s.regBit path (stebaroPage + 0x40) 1 false
  | 1 => s.regBit path (stebaroPage + 0x40) 2 false
  | 3 => s.regBit path (stebaroPage + 0x40) 0 false
  | _ => done s

/-! Heads and bands (R168, R207, R210, R231) -/

/-- FORCE_POS (R144). -/
def execForcePos (path : Path) (h : HeadIx) (p : Fin 16) (s : State) : Res :=
  let a := headPage h.val + 0x44
  let w := s.shownWord path a
  s.regSet path a (w - w / 2 ^ 4 % 16 * 2 ^ 4 + p.val * 2 ^ 4)
/-- RETRAIN (R166). -/
def execLinkRetrain (path : Path) (h : HeadIx) (s : State) : Res := s.regBit path (headPage h.val + 0x44) 0 true
/-- ADAPT_RELOAD (R207). -/
def execAdaptReload (path : Path) (h : HeadIx) (s : State) : Res := s.regBit path (bandPage h.val + 0x7C) 0 true
/-- ADAPT_REACQ (R176). -/
def execAdaptReacq (path : Path) (h : HeadIx) (s : State) : Res := s.regBit path (bandPage h.val + 0x7C) 2 true
/-- SHARD_IDX (R231). -/
def execShardIdx (path : Path) (n : Fin 65536) (s : State) : Res := s.regSet path (outerPage + 0xC4) n.val
/-- SHARD_WIN (R231). -/
def execShardWin (path : Path) (s : State) : Res := done (s.regRead path (outerPage + 0xC8))

/-! Tables (R70, R269, R279, R294) -/

/-- CAL_REQ (R262). -/
def execCalReq (path : Path) (hi : Bool) (mask : Word) (s : State) : Res :=
  s.regSet path (firePage + (if hi then 0x18 else 0x14)) mask.toNat
/-- WR_RETIRE (R277). -/
def execWrRetire (path : Path) (hi : Bool) (mask : Word) (s : State) : Res :=
  s.regSet path (firePage + (if hi then 0x20 else 0x1C)) mask.toNat
/-- TABLE_WINDOW_WRITE: a word of the table window; other addresses are not this command's. -/
def execTableWindowWrite (path : Path) (addr : Nat) (value : Word) (s : State) : Res :=
  if 0x200000 ≤ addr ∧ addr < 0x300000 then s.regSet path addr value.toNat else done s
/-- CE_MEMORY_WRITE: a word of the CE memory window; other addresses are not this command's. -/
def execCeMemoryWrite (path : Path) (addr : Nat) (value : Word) (s : State) : Res :=
  if 0x100000 ≤ addr ∧ addr < 0x200000 then s.regSet path addr value.toNat else done s

/-! The control engine (R300, R301, R311-R322) -/

/-- SWAP_REQ. -/
def execSwapReq (path : Path) (k : Fin 6) (mask : Word) (s : State) : Res := s.regSet path (ctrlengPage + 0x68 + 4 * k.val) mask.toNat
/-- SWAP_HEAD. -/
def execSwapHead (path : Path) (h : Fin 64) (slots : Fin 32) (s : State) : Res :=
  s.regSet path (ctrlengPage + 0xD4) (h.val + slots.val * 2 ^ 8)
/-- SLOT_EN. -/
def execSlotEn (path : Path) (k : Fin 6) (mask : Word) (s : State) : Res := s.regSet path (ctrlengPage + 0x80 + 4 * k.val) mask.toNat

/-- SEQ_CMD: head, command, argument. -/
def seqWordOf (h op arg : Nat) : Nat := h + op * 2 ^ 8 + arg * 2 ^ 12

/-- ACQUIRE (R312): argument [3:0] layer, [17:4] band. -/
def execSeqAcquire (path : Path) (h : HeadIx) (layer : Fin 16) (band : Fin 16384) (s : State) : Res :=
  s.regSet path (ctrlengPage + 0x60) (seqWordOf h.val 1 (layer.val + band.val * 2 ^ 4))
/-- LAYER_JUMP (R314). -/
def execLayerJump (path : Path) (h : HeadIx) (layer : Fin 16) (band : Fin 16384) (s : State) : Res :=
  s.regSet path (ctrlengPage + 0x60) (seqWordOf h.val 2 (layer.val + band.val * 2 ^ 4))
/-- BAND_JUMP (R315). -/
def execBandJump (path : Path) (h : HeadIx) (bands : BitVec 20) (s : State) : Res :=
  s.regSet path (ctrlengPage + 0x60) (seqWordOf h.val 3 bands.toNat)
/-- SEEK (R315). -/
def execSeqSeek (path : Path) (h : HeadIx) (band : Fin 16384) (s : State) : Res :=
  s.regSet path (ctrlengPage + 0x60) (seqWordOf h.val 4 band.val)
/-- STEP (R316): argument [2:0] kind, [11:4] value. -/
def execSeqStep (path : Path) (h : HeadIx) (kind : Fin 8) (value : BitVec 8) (s : State) : Res :=
  s.regSet path (ctrlengPage + 0x60) (seqWordOf h.val 5 (kind.val + value.toNat * 2 ^ 4))
/-- HOLD (R311). -/
def execSeqHold (path : Path) (h : HeadIx) (s : State) : Res := s.regSet path (ctrlengPage + 0x60) (seqWordOf h.val 6 0)
/-- RESUME (R311). -/
def execSeqResume (path : Path) (h : HeadIx) (s : State) : Res := s.regSet path (ctrlengPage + 0x60) (seqWordOf h.val 7 0)
/-- PARK (R311). -/
def execSeqPark (path : Path) (h : HeadIx) (s : State) : Res := s.regSet path (ctrlengPage + 0x60) (seqWordOf h.val 8 0)
/-- EXPORT (R318). -/
def execSeqExport (path : Path) (h : HeadIx) (s : State) : Res := s.regSet path (ctrlengPage + 0x60) (seqWordOf h.val 9 0)
/-- IMPORT (R319). -/
def execSeqImport (path : Path) (h : HeadIx) (s : State) : Res := s.regSet path (ctrlengPage + 0x60) (seqWordOf h.val 10 0)
/-- SEQ_CMD_UNDEFINED (R311): refused with CLASS 8 and result 11. -/
def execSeqCmdUndefined (path : Path) (h : Fin 64) (op : Fin 16) (arg : BitVec 20) (s : State) : Res :=
  s.regSet path (ctrlengPage + 0x60) (seqWordOf h.val op.val arg.toNat)
/-- TRACE_START (R322). -/
def execTraceStart (path : Path) (slot : SlotIx) (what : Fin 4) (s : State) : Res :=
  s.regSet path (ctrlengPage + 0xCC) (slot.val + what.val * 2 ^ 8 + 2 ^ 10)

/-! Wheels (R332, R352) -/

/-- SPD_CMD. -/
def execSpdCmd (path : Path) (w : WheelIx) (rpm : Fin 16384) (s : State) : Res := s.regSet path (wheelPage w.val + 0x4C) rpm.val
/-- RELEASE. -/
def execWheelRelease (path : Path) (w : WheelIx) (s : State) : Res := s.regSet path (wheelPage w.val + 0x74) 1
/-- CLAMP. -/
def execWheelClamp (path : Path) (w : WheelIx) (s : State) : Res := s.regSet path (wheelPage w.val + 0x74) 2
/-- CLEAR_FAULT. -/
def execClearFault (path : Path) (w : WheelIx) (s : State) : Res := s.regSet path (wheelPage w.val + 0x74) 3
/-- HANDOVER_REL. -/
def execHandoverRel (path : Path) (w : WheelIx) (s : State) : Res := s.regSet path (wheelPage w.val + 0x74) 4
/-- HANDOVER_ARM. -/
def execHandoverArm (path : Path) (w : WheelIx) (s : State) : Res := s.regSet path (wheelPage w.val + 0x74) 5
/-- DISARM. -/
def execWheelDisarm (path : Path) (w : WheelIx) (s : State) : Res := s.regSet path (wheelPage w.val + 0x74) 6
/-- COAST. -/
def execWheelCoast (path : Path) (w : WheelIx) (s : State) : Res := s.regSet path (wheelPage w.val + 0x74) 7

/-! Motion (R360, R373, R375) -/

/-- MV_CMD: operation, axes named, their indices. -/
def mvWordOf (op nax a0 a1 a2 : Nat) : Nat := op + nax * 2 ^ 4 + a0 * 2 ^ 8 + a1 * 2 ^ 16 + a2 * 2 ^ 24

/-- MOVE. -/
def execAxisMove (path : Path) (nax : Fin 4) (ax0 ax1 ax2 : Fin 64) (s : State) : Res :=
  s.regSet path (motionPage + 0x4C) (mvWordOf 1 nax.val ax0.val ax1.val ax2.val)
/-- HOME. -/
def execAxisHome (path : Path) (ax : Fin 64) (s : State) : Res := s.regSet path (motionPage + 0x4C) (mvWordOf 2 1 ax.val 0 0)
/-- STOP. -/
def execAxisStop (path : Path) (ax : Fin 64) (s : State) : Res := s.regSet path (motionPage + 0x4C) (mvWordOf 3 1 ax.val 0 0)
/-- DISABLE. -/
def execAxisDisable (path : Path) (ax : Fin 64) (s : State) : Res := s.regSet path (motionPage + 0x4C) (mvWordOf 4 1 ax.val 0 0)
/-- SET_POS. -/
def execSetPos (path : Path) (ax : Fin 64) (s : State) : Res := s.regSet path (motionPage + 0x4C) (mvWordOf 5 1 ax.val 0 0)
/-- STOP_ALL. -/
def execStopAll (path : Path) (s : State) : Res := s.regSet path (motionPage + 0x6C) 1
/-- ELV_CMD. -/
def execElvCmd (path : Path) (target : Fin 8) (s : State) : Res := s.regSet path (kickPage + 0x44) target.val

/-! Stripes and memory (R409-R414, R432, R450) -/

/-- RETHROW_START: re-throw, or relocation. -/
def execRethrowStart (path : Path) (pos : PosIx) (relocate : Bool) (s : State) : Res :=
  s.regSet path (stripePage + 0x5C) (pos.val + (if relocate then 2 else 1) * 2 ^ 4)
/-- RETHROW_ABORT. -/
def execRethrowAbort (path : Path) (s : State) : Res := s.regSet path (stripePage + 0x5C) (3 * 2 ^ 4)

/-- MAINT_CMD: operation, by set and way or by MAINT_ADDR. -/
def maintWordOf (op : Nat) (bySw : Bool) (set way : Nat) : Nat := op + boolNat bySw * 2 ^ 3 + set * 2 ^ 4 + way * 2 ^ 17

/-- CLEAN. -/
def execCleanLine (path : Path) (bySw : Bool) (set : Fin 8192) (way : Fin 16) (s : State) : Res :=
  s.regSet path (setterPage + 0x78) (maintWordOf 1 bySw set.val way.val)
/-- INVALIDATE. -/
def execInvalidateLine (path : Path) (bySw : Bool) (set : Fin 8192) (way : Fin 16) (s : State) : Res :=
  s.regSet path (setterPage + 0x78) (maintWordOf 2 bySw set.val way.val)
/-- CLEAN_INVALIDATE. -/
def execCleanInvalidate (path : Path) (bySw : Bool) (set : Fin 8192) (way : Fin 16) (s : State) : Res :=
  s.regSet path (setterPage + 0x78) (maintWordOf 3 bySw set.val way.val)
/-- ZERO. -/
def execZeroLine (path : Path) (bySw : Bool) (set : Fin 8192) (way : Fin 16) (s : State) : Res :=
  s.regSet path (setterPage + 0x78) (maintWordOf 4 bySw set.val way.val)
/-- CLEAN_ALL. -/
def execCleanAll (path : Path) (s : State) : Res := s.regSet path (setterPage + 0x78) 5
/-- CLEAN_INVALIDATE_ALL. -/
def execCleanInvalidateAll (path : Path) (s : State) : Res := s.regSet path (setterPage + 0x78) 6
/-- ECT_CLEAR. -/
def execEctClear (path : Path) (s : State) : Res := s.regSet path (ecctabPage + 0x60) 1

/-! Host (R492, R495) -/

/-- GET_FEATURES_C0 (R492, R73): with right 5, a read with observer rights. -/
def execGetFeaturesC0 (c : ConnIx) (cid : Nat) (addr : Nat) (s : State) : Res :=
  let c := c.val
  done (s.adminWith c cid 5 fun u =>
    let (v, _, t) := u.readWord .host addr
    if badAddress addr then t.complete c cid .invalidField else t.complete c cid .ok v)

/-- SET_FEATURES_C0 (R492, R73): with right 5, a write with operator rights; it completes once executed or refused. -/
def execSetFeaturesC0 (c : ConnIx) (cid : Nat) (addr : Nat) (value : Word) (s : State) : Res :=
  let c := c.val
  done (s.adminWith c cid 5 fun u => (u.setWork c cid 0 .reg).regWrite .host [(addr, value.toNat)] (.admin c cid))

/-- PS_REQ (R495). -/
def execPsReq (path : Path) (value : Fin 8) (s : State) : Res := s.regSet path (nvmePage + 0x4C) (value.val * 2 ^ 4)

/-! Trust (R510-R535) -/

/-- TRUST_LOCK. -/
def execTrustLock (path : Path) (s : State) : Res := s.regSet path (tePage + 0x58) 0x4C4B
/-- SVN_COMMIT. -/
def execSvnCommit (path : Path) (s : State) : Res := s.regSet path (tePage + 0x58) 0x5356
/-- LEAVE. -/
def execTrustLeave (path : Path) (s : State) : Res := s.regSet path (tePage + 0x58) 0x4C56
/-- DOMAIN_CREATE. -/
def execDomainCreate (path : Path) (s : State) : Res := s.regSet path (tePage + 0x58) 0x4443

/-- A mailbox message (R513, R535): TYPE, LEN and body into MBOX_IN, then GO, as one write. -/
def State.mboxSend (s : State) (path : Path) (ty : Nat) (body : List Nat) : Res :=
  let ws := (wordsLE (mboxMsg ty body)).take 256
  done (s.regWrite path ((ws.zipIdx.map fun x => (tePage + 0x800 + 4 * x.2, x.1)) ++ [(tePage + 0x100, 1)]))

/-- ENROL_OFFER. -/
def execEnrolOffer (path : Path) (body : List Nat) (s : State) : Res := s.mboxSend path 0x0001 body
/-- DRK_WRAP. -/
def execDrkWrap (path : Path) (body : List Nat) (s : State) : Res := s.mboxSend path 0x0003 body
/-- PSK_ADD. -/
def execPskAdd (path : Path) (body : List Nat) (s : State) : Res := s.mboxSend path 0x0010 body
/-- PSK_DEL. -/
def execPskDel (path : Path) (body : List Nat) (s : State) : Res := s.mboxSend path 0x0011 body
/-- NSKEY_RESTORE. -/
def execNskeyRestore (path : Path) (body : List Nat) (s : State) : Res := s.mboxSend path 0x0020 body
/-- ERASE_CONFIRM. -/
def execEraseConfirm (path : Path) (body : List Nat) (s : State) : Res := s.mboxSend path 0x0021 body
/-- KEY_FLUSH (R536). -/
def execKeyFlush (path : Path) (s : State) : Res := s.regSet path (mediacryptPage + 0x5C) 1

/-! Twin and rack (R549, R554-R557) -/

/-- HO_GIVE. -/
def execHoGive (path : Path) (tok : Fin 64) (s : State) : Res := s.regSet path (twPage + 0x5C) (tok.val + 2 ^ 8)
/-- HO_RETURN. -/
def execHoReturn (path : Path) (tok : Fin 64) (s : State) : Res := s.regSet path (twPage + 0x5C) (tok.val + 2 * 2 ^ 8)
/-- REG_ACK. -/
def execRegAck (path : Path) (value : Word) (s : State) : Res := s.regSet path (hyPage + 0x58) value.toNat
/-- PWR_CMD_ON. -/
def execPwrCmdOn (path : Path) (shelf : Fin 64) (s : State) : Res := s.regSet path (hyPage + 0x94) (shelf.val + 2 ^ 8)
/-- PWR_CMD_SOFT_OFF. -/
def execPwrCmdSoftOff (path : Path) (shelf : Fin 64) (s : State) : Res := s.regSet path (hyPage + 0x94) (shelf.val + 2 * 2 ^ 8)
/-- PWR_CMD_POWER_CYCLE. -/
def execPwrCmdPowerCycle (path : Path) (shelf : Fin 64) (s : State) : Res := s.regSet path (hyPage + 0x94) (shelf.val + 3 * 2 ^ 8)
/-- STAGE_REQ: the high word; the low word stands in STAGE_REQ_LO. -/
def execStageReq (path : Path) (value : Word) (s : State) : Res := s.regSet path (hyPage + 0x78) value.toNat

/-! Self-test (R580) -/

/-- TEST_REQ. -/
def execTestReq (path : Path) (test : Fin 16) (page : Fin 4096) (cell : Fin 256) (s : State) : Res :=
  s.regSet path (stPage + 0x4C) (test.val + page.val * 2 ^ 4 + cell.val * 2 ^ 16)
/-- TEST_REQ with FORCE. -/
def execTestReqForce (path : Path) (test : Fin 16) (page : Fin 4096) (cell : Fin 256) (s : State) : Res :=
  s.regSet path (stPage + 0x4C) (test.val + page.val * 2 ^ 4 + cell.val * 2 ^ 16 + 2 ^ 24)

/-! Recorder and queues (R598-R607) -/

/-- WIN_CURSOR. -/
def execWinCursor (path : Path) (seq : Word) (s : State) : Res := s.regSet path (erPage + 0x60) seq.toNat
/-- WIN_DATA. -/
def execWinData (path : Path) (s : State) : Res := done (s.regRead path (erPage + 0x64))
/-- ER_CLEAR_LOG. -/
def execErClearLog (path : Path) (s : State) : Res := s.regSet path (erPage + 0x74) 0x0000C1EA
/-- ER_CLEAR_MIRROR. -/
def execErClearMirror (path : Path) (s : State) : Res := s.regSet path (erPage + 0x74) 0x0001C1EA
/-- OQ_WIN. -/
def execOqWin (path : Path) (s : State) : Res := done (s.regRead path (obsqPage + 0x50))
/-- Q_FLUSH. -/
def execQFlush (path : Path) (q : QueueIx) (s : State) : Res := s.regSet path (obsqPage + 0x58) q.val
/-- Q_FLUSH with ALL. -/
def execQFlushAll (path : Path) (s : State) : Res := s.regSet path (obsqPage + 0x58) (2 ^ 6)

end Sys2Proof.Machine
end

