-- ==== Sys2Proof/Machine/Transfer.lean ====
section
/-!
DEFINITION. The loader's transfers (R371) and its recovery (R372), as MC's firmware runs them with commands of ME, and what a
bring-up homes (R369).
-/
namespace Sys2Proof.Machine

/-! Sequences -/

/-- From wheel w to store slot k (R371). -/
def unmountPlan (w k : Nat) : List XferStep :=
  [.rest w, .station w, .opened, .intent 1 w k, .release w, .released w, .hub, .grip, .gripped, .pull, .clamp w, .slot k,
   .intent 4 w k, .store, .opened, .pull, .held 1]

/-- What places a sagger in the gripper: in store slot k, on wheel w. -/
def storePlan (w k : Nat) : List XferStep := [.slot k, .intent 4 w k, .store, .opened, .pull, .held 1]
def placePlan (w k : Nat) : List XferStep :=
  [.rest w, .station w, .intent 2 w k, .release w, .released w, .hub, .opened, .pull, .clamp w, .sensed w, .held 3]

/-- From store slot k onto wheel w (R371). -/
def mountPlan (w k : Nat) : List XferStep :=
  [.slot k, .opened, .intent 3 w k, .store, .grip, .gripped, .pull] ++ placePlan w k

/-- The recovery for an intent once the presence test has shown whether the gripper holds a sagger (R372). -/
def recoveryPlan (intent w k : Nat) (holds : Bool) : List XferStep :=
  let homes : List XferStep := [.home axG, .home axP, .home axZ, .home axX]
  let rest : List XferStep := [.home axP, .home axZ, .home axX, .held 2, .over]
  if intent = 1 ∨ intent = 2 then
    if holds then [.release w, .released w] ++ rest ++ (if intent = 1 then storePlan w k else placePlan w k)
    else homes ++ [.clamp w, .sensed w, .held 3, .over]
  else if holds then rest ++ storePlan w k
  else homes ++ [.held 1, .over]

/-! Custody (R371) -/

/-- The custody record's place and intent are written, to xSPI memory and to the twin. -/
def State.writeCustody (s : State) (kind intent w k : Nat) : State :=
  let b := loaderPage
  let t := ((s.setFld b LOADER.CUSTODY_KIND kind).setFld b LOADER.CUSTODY_INTENT intent).setFld b LOADER.CUSTODY_WHEEL w
  (t.setFld b LOADER.CUSTODY_STORE k).custodyWritten (s.fld b LOADER.CUSTODY_KIND) (s.fld b LOADER.CUSTODY_WHEEL)

/-- A sequence ends where it stands. -/
def State.planStops (s : State) : State := { s with mot := { s.mot with plan := [], stuck := true } }

/-- The sagger is not where custody places it (R371): 0x7308, and the sequence ends. -/
def State.misplaced (s : State) (kind w : Nat) : State :=
  ((s.event loaderPage 0x7308 5 0xFF w).writeCustody kind 0 w (s.fld loaderPage LOADER.CUSTODY_STORE)).planStops

/-! Running a sequence -/

/-- A MOVE of the loader's sequence; a refusal stops the sequence. -/
def State.planMove (s : State) (as : List Nat) (targets : List Int) : State :=
  let t := s.mvMove as targets
  if t.fld motionPage MOTION.MV_RESULT_CODE = 0 then t else t.planStops

/-- HOME of an axis of the loader's sequence. -/
def State.planHome (s : State) (a : Nat) : State :=
  if s.axOwned a && s.profileOk a && s.homeInterlockOk a then s.beginHome a else s.planStops

/-- The presence test begins (R372): G toward closed at HOME_SLOW, through its full travel. -/
def State.beginPresence (s : State) : State :=
  let t := s.axesApply [axG]
  let travel := if t.axCfg axG AXIS.SOFT_MAX = 0 then 2 ^ 24 else (t.axCfgS axG AXIS.SOFT_MAX - t.axCfgS axG AXIS.SOFT_MIN).natAbs
  let slow := t.homeSlow axG
  let t := t.axRun axG (!t.homeUp axG) (cruiseSeg slow (1000000 * travel))
  (t.setAxis axG { t.axis axG with mode := .presence, group := [], fault := 0,
                                   prof := { t.axProfile axG with vStart := slow, vStop := slow, vMax := slow } }).setAxState axG 3

/-- Whether the next step of the sequence may be taken, or is over without an act. -/
def State.planReady (s : State) (x : XferStep) : Bool :=
  match x with
  | .rest w => !s.whOwns w || (s.flag (wheelPage w) WHEEL.WH_STAT_REST_OK && (wheelHeads w).all fun h => s.headParked h)
  | .released w => s.releaseAt w
  | .sensed w => s.flag (wheelPage w) WHEEL.WH_STAT_CLAMP_SNS
  | .home a => decide (s.axState a ≠ 5)
  | _ => true

/-- One step of the sequence. -/
def State.planStep (s : State) (x : XferStep) : State :=
  let f (y : Fld) : Nat := s.fld loaderPage y
  let pos (y : Fld) (i : Nat) : Int := s.fldS loaderPage y i
  let intent := f LOADER.CUSTODY_INTENT
  let w0 := f LOADER.CUSTODY_WHEEL
  let k0 := f LOADER.CUSTODY_STORE
  match x with
  | .rest _ | .released _ | .sensed _ => s
  | .station w => s.planMove [axX, axZ] [pos LOADER.X_STN w, pos LOADER.Z_STN w]
  | .slot k => s.planMove [axX, axZ] [Config.storeX k, Config.storeZ k]
  | .hub => s.planMove [axP] [pos LOADER.P_HUB 0]
  | .store => s.planMove [axP] [pos LOADER.P_STORE 0]
  | .pull => s.planMove [axP] [0]
  | .grip => s.planMove [axG] [pos LOADER.G_GRIP 0]
  | .opened => if s.flag (axisBlock axG) AXIS.AX_STAT_HOMED then s.planMove [axG] [s.axCfgS axG AXIS.HOME_OFS] else s.planHome axG
  | .intent n w k => s.writeCustody (f LOADER.CUSTODY_KIND) n w k
  | .held kind => s.writeCustody kind 0 w0 k0
  | .gripped => if s.flag loaderPage LOADER.LD_STAT_G_HOLD then s.writeCustody 2 0 w0 k0 else s.misplaced (f LOADER.CUSTODY_KIND) w0
  | .release w => if s.whOwns w then s.whCmd w 1 else s
  | .clamp w => if s.whOwns w then s.whCmd w 2 else s
  | .home a => if s.flag (axisBlock a) AXIS.AX_STAT_HOMED then s else s.planHome a
  | .test => s.beginPresence
  | .decide =>
    { s with mot := { s.mot with plan := recoveryPlan intent w0 k0 (s.flag loaderPage LOADER.LD_STAT_G_HOLD) } }
  | .over =>
    let t := (s.setFlag loaderPage LOADER.LD_STAT_RECOVERY false).count loaderPage LOADER.RECOV_CNT
    (t.istat loaderPage 10).event loaderPage 0x7307 3

/-- The loader's axes rest, and none of its sequence has failed. -/
def State.loaderRests (s : State) : Bool := [axX, axZ, axG, axP].all fun a => !s.axMoving a

/-- The loader's sequence takes its next step once the one before has ended; the end of `home` needs the axis homed. Without the
loader it ends. -/
def State.planGo (s : State) : State :=
  match s.mot.plan with
  | [] => s
  | x :: r =>
    if !s.flag loaderPage LOADER.LD_STAT_OWN_OUT ∨ s.flag loaderPage LOADER.LD_STAT_CONFLICT then
      { s with mot := { s.mot with plan := [] } }.setFlag loaderPage LOADER.LD_STAT_RECOVERY false
    else if !s.loaderRests || !s.planReady x then s
    else
      let again := match x with
        | .home a => !s.flag (axisBlock a) AXIS.AX_STAT_HOMED
        | _ => false
      ({ s with mot := { s.mot with plan := if again then x :: r else r } }).planStep x

/-! What the loader does next -/

/-- The sagger on a wheel by what is known of it: identified there, or left there by the loader. -/
def State.sagOn (s : State) (w : Nat) : Option Nat :=
  match s.wheelSagger w with
  | some g => some g.1
  | none => if s.flag (wheelPage w) WHEEL.WH_STAT_CLAMP_SNS then storeFind (fun _ => none) s.mot.onWheel w else none

/-- A transfer: the loader's steps, and the sagger that they put onto a wheel. -/
structure Transfer where
  plan : List XferStep
  onto : Option (Nat × Nat)
  deriving DecidableEq, Repr

def toStore (w g : Nat) : Transfer := { plan := unmountPlan w (Config.storeSlot g), onto := none }
def toWheel (w g : Nat) : Transfer := { plan := mountPlan w (Config.storeSlot g), onto := some (w, g) }
def wheelToWheel (w w' g : Nat) : Transfer :=
  { plan := (unmountPlan w 0).takeWhile (fun x => decide (x ≠ .clamp w)) ++ [.clamp w] ++ placePlan w' (Config.storeSlot g), onto := some (w', g) }

/-- A wheel holds a clamped sagger. -/
def State.clampedAt (s : State) (w : Nat) : Bool := s.flag (wheelPage w) WHEEL.WH_STAT_CLAMP_SNS

/-- The next transfer of an exchange or of an unmount to the store (R27, R484): a sagger that no longer belongs leaves its
wheel; then a sagger of the wanted load goes to a free wheel, one of this controller's first. -/
def State.loadTransfer (s : State) : Option Transfer :=
  let want := if s.load.phase = .exchanging then (s.loadSaggers s.load.target).map fun g => g.serial else []
  let out := (List.range 8).findSome? fun w => match s.sagOn w with
    | some g => if want.contains g || !s.clampedAt w then none else some (w, g)
    | none => none
  let free := (List.range 8).filter fun w => !s.clampedAt w
  let free := free.filter s.whOwns ++ free.filter fun w => !s.whOwns w
  let placed := (List.range 8).filterMap s.sagOn
  if s.load.phase ≠ .exchanging ∧ s.load.state ≠ 7 then none
  else match out, want.find? (fun g => !placed.contains g), free with
    | some (w, g), _, _ => some (toStore w g)
    | none, some g, w :: _ => if s.openWheels.isEmpty || !placed.isEmpty then some (toWheel w g) else none
    | none, _, _ => none

/-- The next transfer of a re-throw: its spare to W8 (R410 step 1), the swap (step 7), and after an abort the way back to the store
(R414). -/
def State.rtTransfer (s : State) : Option Transfer :=
  let st := s.fld stripePage STRIPE.RT_STAT_STATE
  let rt := s.st.rt
  let kick := if s.clampedAt 8 then storeFind (fun _ => none) s.mot.onWheel 8 else none
  if st = 2 then
    match kick with
    | some g => if g = rt.new then none else some (toStore 8 g)
    | none => if s.clampedAt 8 then none else some (toWheel 8 rt.new)
  else if st = 6 then
    match s.rtWheel with
    | none => none
    | some w =>
      if s.clampedAt w && s.sagOn w == some rt.old then some (toStore w rt.old)
      else if !s.clampedAt w && kick == some rt.new then some (wheelToWheel 8 w rt.new)
      else none
  else if st = 9 then kick.map (toStore 8)
  else none

/-- The loader begins the next transfer: homed, with its custody known and nothing under way. -/
def State.transferGo (s : State) : State :=
  let b := loaderPage
  if !s.mot.plan.isEmpty || s.mot.stuck || !s.flag b LOADER.LD_STAT_OWN_OUT || s.flag b LOADER.LD_STAT_CONFLICT || !s.flag b LOADER.LD_STAT_HOMED ||
      s.flag b LOADER.LD_STAT_RECOVERY || decide (s.fld b LOADER.CUSTODY_KIND = 0) || decide (s.fld b LOADER.CUSTODY_KIND = 2) then s
  else match (match s.loadTransfer with | some x => some x | none => s.rtTransfer) with
    | some x =>
      let on := match x.onto with
        | some (w, g) => storePut (fun _ => none) s.mot.onWheel w (some g)
        | none => s.mot.onWheel
      { s with mot := { s.mot with plan := x.plan, onWheel := on } }
    | none => s

/-- LOADER_RECOVERY (R372): after a bring-up or an unplanned takeover the new owner, whose axes are not homed, acts on the last
custody record; the interrupted transfer is then completed. -/
def execLoaderRecovery (_ : Computed) (s : State) : Res :=
  let b := loaderPage
  if !s.flag b LOADER.LD_STAT_OWN_OUT || s.flag b LOADER.LD_STAT_RECOVERY || s.flag b LOADER.LD_STAT_HOMED then done s
  else
    let (kind, intent, w, k) := s.mot.custodyXspi
    let s := ((s.setFld b LOADER.CUSTODY_KIND kind).setFld b LOADER.CUSTODY_INTENT intent).setFld b LOADER.CUSTODY_WHEEL w
    let s := (s.setFld b LOADER.CUSTODY_STORE k).setFlag b LOADER.LD_STAT_RECOVERY true
    let homes : List XferStep := [.home axG, .home axP, .home axZ, .home axX]
    let plan : List XferStep :=
      if intent = 0 then homes ++ [.over]
      else if (intent = 1 ∨ intent = 2) ∧ s.flag (wheelPage w) WHEEL.WH_STAT_CLAMP_SNS then homes ++ [.held 3, .over]
      else [.test, .decide]
    done (State.planGo { s with mot := { s.mot with plan := plan, stuck := false } })

/-- CLAMP_SENSE_TIMEOUT (R371, R372): a clamp of a mount or recovery has not been sensed within 1 s; after a recovery the
sagger's place is unknown. -/
def execClampSenseTimeout (w : WheelIx) (s : State) : Res :=
  let l := loaderPage
  let n := w.val
  let rec' := s.flag l LOADER.LD_STAT_RECOVERY
  let mounting := decide (s.fld l LOADER.CUSTODY_KIND = 2) || rec'
  if !mounting ∨ s.fld l LOADER.CUSTODY_WHEEL ≠ n ∨ s.flag (wheelPage n) WHEEL.WH_STAT_CLAMP_SNS ∨ s.now < (s.wheel n).clampAt + 1000000000 then done s
  else if rec' then
    let t := (s.event loaderPage 0x7308 5 0xFF n).writeCustody 0 0 n (s.fld l LOADER.CUSTODY_STORE)
    let t := (t.setFlag l LOADER.LD_STAT_RECOVERY false).count l LOADER.RECOV_CNT
    done (((t.istat l 10).event l 0x7307 3).planStops)
  else done ((s.event loaderPage 0x7308 5 0xFF n).planStops)

/-! What a bring-up homes (R369) -/

/-- At bring-up the owned sleds and the elevator home once, while parked; a head gained later is referenced by its first ACQUIRE
(R364). -/
def State.bootHomes (s : State) : State :=
  if !s.flag rdyPage RDY.CE_LOADED ∨ s.svc.hold then s
  else
    let due := (List.range 34).filter fun a => !s.svc.homed.contains a && s.axOwned a && !s.axMoving a && s.profileOk a &&
      decide (s.fld (axisBlock a) AXIS.AX_STAT_FAULT = 0) && (decide (a = axElv) || s.headParked a)
    s.forEach due fun u a =>
      let u := u.setSvc { u.svc with homed := u.svc.homed ++ [a] }
      if u.flag (axisBlock a) AXIS.AX_STAT_HOMED || u.flag (axisBlock a) AXIS.AX_STAT_REFD then u else u.beginHome a

end Sys2Proof.Machine
end

