-- ==== Sys2Proof/Machine/Dispatch.lean ====
section
/-!
DEFINITION. exec: one arm per command; each arm is a direct call of the command's meaning.
-/
namespace Sys2Proof.Machine

/-- The command's effect on everything but the queue. -/
def exec (i : Instr) (s : State) : Host.Outcome State Fault Refusal :=
  match i with
  | .registerWrite path addr value => Sys2Proof.Machine.execRegisterWrite path addr value s
  | .rcRegisterRead path addr meets => Sys2Proof.Machine.execRcRegisterRead path addr meets s
  | .writeReleasedAfterTransfer => Sys2Proof.Machine.execWriteReleasedAfterTransfer s
  | .writeTransferTimeout => Sys2Proof.Machine.execWriteTransferTimeout s
  | .softReset path page => Sys2Proof.Machine.execSoftReset path page s
  | .softResetComplete page => Sys2Proof.Machine.execSoftResetComplete page s
  | .enableClear path page => Sys2Proof.Machine.execEnableClear path page s
  | .quiesce path page => Sys2Proof.Machine.execQuiesce path page s
  | .objectDrained page => Sys2Proof.Machine.execObjectDrained page s
  | .isolateClear path page => Sys2Proof.Machine.execIsolateClear path page s
  | .chipResetHandover path => Sys2Proof.Machine.execChipResetHandover path s
  | .chipResetImmediate path => Sys2Proof.Machine.execChipResetImmediate path s
  | .timeLoRead path => Sys2Proof.Machine.execTimeLoRead path s
  | .fmonStart path => Sys2Proof.Machine.execFmonStart path s
  | .fmonResult khz => Sys2Proof.Machine.execFmonResult khz s
  | .islRstReq path island => Sys2Proof.Machine.execIslRstReq path island s
  | .islandRelease island => Sys2Proof.Machine.execIslandRelease island s
  | .pllLossOfLock pll => Sys2Proof.Machine.execPllLossOfLock pll s
  | .pllRelock pll => Sys2Proof.Machine.execPllRelock pll s
  | .referenceClockLost clk => Sys2Proof.Machine.execReferenceClockLost clk s
  | .xtalAoLost => Sys2Proof.Machine.execXtalAoLost s
  | .controlValueWrite x v => Sys2Proof.Machine.execControlValueWrite x v s
  | .controlCapture x => Sys2Proof.Machine.execControlCapture x s
  | .controlAckArrival x => Sys2Proof.Machine.execControlAckArrival x s
  | .dataItemWrite x item => Sys2Proof.Machine.execDataItemWrite x item s
  | .dataItemReadable x => Sys2Proof.Machine.execDataItemReadable x s
  | .resyncEntry x cls sides => Sys2Proof.Machine.execResyncEntry x cls sides s
  | .resyncHandshakeDone x cls => Sys2Proof.Machine.execResyncHandshakeDone x cls s
  | .cellFaultDetected region block cell sev shared => Sys2Proof.Machine.execCellFaultDetected region block cell sev shared s
  | .spareSubstitution region block spareFails => Sys2Proof.Machine.execSpareSubstitution region block spareFails s
  | .blockIsolation region => Sys2Proof.Machine.execBlockIsolation region s
  | .chipDegrade => Sys2Proof.Machine.execChipDegrade s
  | .dtlsHandshake port chain => Sys2Proof.Machine.execDtlsHandshake port chain s
  | .datagramDiscard port => Sys2Proof.Machine.execDatagramDiscard port s
  | .badRequest sid hdr words => Sys2Proof.Machine.execBadRequest sid hdr words s
  | .sbRead sid hdr addrs => Sys2Proof.Machine.execSbRead sid hdr addrs s
  | .sbWrite sid hdr pairs => Sys2Proof.Machine.execSbWrite sid hdr pairs s
  | .readBlock sid hdr => Sys2Proof.Machine.execReadBlock sid hdr s
  | .writeBlock sid hdr values => Sys2Proof.Machine.execWriteBlock sid hdr values s
  | .windowRead sid hdr => Sys2Proof.Machine.execWindowRead sid hdr s
  | .subscribe sid hdr filter => Sys2Proof.Machine.execSubscribe sid hdr filter s
  | .eventAck sid tag => Sys2Proof.Machine.execEventAck sid tag s
  | .eventNak sid tag => Sys2Proof.Machine.execEventNak sid tag s
  | .eventSend sid => Sys2Proof.Machine.execEventSend sid s
  | .eventResend sid tag => Sys2Proof.Machine.execEventResend sid tag s
  | .subscriptionCancel sid => Sys2Proof.Machine.execSubscriptionCancel sid s
  | .sessionIdleTimeout sid => Sys2Proof.Machine.execSessionIdleTimeout sid s
  | .sessionClose sid => Sys2Proof.Machine.execSessionClose sid s
  | .stebaroPortDisable path port => Sys2Proof.Machine.execStebaroPortDisable path port s
  | .blockLockGained h lane => Sys2Proof.Machine.execBlockLockGained h lane s
  | .blockLockLost h lane => Sys2Proof.Machine.execBlockLockLost h lane s
  | .upstreamFrame h lane f => Sys2Proof.Machine.execUpstreamFrame h lane f s
  | .frameLockGained h lane => Sys2Proof.Machine.execFrameLockGained h lane s
  | .frameLockLost h lane => Sys2Proof.Machine.execFrameLockLost h lane s
  | .linkLaneFault h lane why => Sys2Proof.Machine.execLinkLaneFault h lane why s
  | .forcePos path h p => Sys2Proof.Machine.execForcePos path h p s
  | .linkRetrain path h => Sys2Proof.Machine.execLinkRetrain path h s
  | .trainingStepAdvance h obs => Sys2Proof.Machine.execTrainingStepAdvance h obs s
  | .trainingStepTimeout h => Sys2Proof.Machine.execTrainingStepTimeout h s
  | .linkLoss h why => Sys2Proof.Machine.execLinkLoss h why s
  | .retrainRetry h => Sys2Proof.Machine.execRetrainRetry h s
  | .servoErr h e obs => Sys2Proof.Machine.execServoErr h e obs s
  | .fireMon h segment half power => Sys2Proof.Machine.execFireMon h segment half power s
  | .laserMon h power current temp => Sys2Proof.Machine.execLaserMon h power current temp s
  | .sledMsg h home far pos => Sys2Proof.Machine.execSledMsg h home far pos s
  | .statusMsg h b => Sys2Proof.Machine.execStatusMsg h b s
  | .fireEvent h b => Sys2Proof.Machine.execFireEvent h b s
  | .fireCredit h held0 held1 nacks => Sys2Proof.Machine.execFireCredit h held0 held1 nacks s
  | .echoRsp h tag elapsed turnaround => Sys2Proof.Machine.execEchoRsp h tag elapsed turnaround s
  | .identMsg h b => Sys2Proof.Machine.execIdentMsg h b s
  | .tableAck h table result offset nbody => Sys2Proof.Machine.execTableAck h table result offset nbody s
  | .grooveWord h crcOk setting quarter q => Sys2Proof.Machine.execGrooveWord h crcOk setting quarter q s
  | .segmentVote h obs => Sys2Proof.Machine.execSegmentVote h obs s
  | .bandLost h => Sys2Proof.Machine.execBandLost h s
  | .bandLockLost h => Sys2Proof.Machine.execBandLockLost h s
  | .reacquisitionStart h => Sys2Proof.Machine.execReacquisitionStart h s
  | .bandLocked h => Sys2Proof.Machine.execBandLocked h s
  | .ringBoundary h => Sys2Proof.Machine.execRingBoundary h s
  | .adaptReload path h => Sys2Proof.Machine.execAdaptReload path h s
  | .adaptReacq path h => Sys2Proof.Machine.execAdaptReacq path h s
  | .bandConfigApply h => Sys2Proof.Machine.execBandConfigApply h s
  | .pieceLeavesShelf h => Sys2Proof.Machine.execPieceLeavesShelf h s
  | .failedCodewordCopy h => Sys2Proof.Machine.execFailedCodewordCopy h s
  | .redetectionRequest h => Sys2Proof.Machine.execRedetectionRequest h s
  | .redetectionDone h mse => Sys2Proof.Machine.execRedetectionDone h mse s
  | .pieceFiled => Sys2Proof.Machine.execPieceFiled s
  | .decodeStart => Sys2Proof.Machine.execDecodeStart s
  | .decodeResult cell pass iters info => Sys2Proof.Machine.execDecodeResult cell pass iters info s
  | .bandReadStart h => Sys2Proof.Machine.execBandReadStart h s
  | .shardIdx path n => Sys2Proof.Machine.execShardIdx path n s
  | .shardWin path => Sys2Proof.Machine.execShardWin path s
  | .outerAttemptDone h sa => Sys2Proof.Machine.execOuterAttemptDone h sa s
  | .norevBudgetExpiry h sa => Sys2Proof.Machine.execNorevBudgetExpiry h sa s
  | .revolutionStepDone h => Sys2Proof.Machine.execRevolutionStepDone h s
  | .ladderTimeout h sa => Sys2Proof.Machine.execLadderTimeout h sa s
  | .reconstructionDone h sa blk tagOk => Sys2Proof.Machine.execReconstructionDone h sa blk tagOk s
  | .gcmVerifyDone h sa blk ok => Sys2Proof.Machine.execGcmVerifyDone h sa blk ok s
  | .firingRunStart g => Sys2Proof.Machine.execFiringRunStart g s
  | .firingBegin g => Sys2Proof.Machine.execFiringBegin g s
  | .settingArm h => Sys2Proof.Machine.execSettingArm h s
  | .firingRunEnd g => Sys2Proof.Machine.execFiringRunEnd g s
  | .runMaxExpiry g => Sys2Proof.Machine.execRunMaxExpiry g s
  | .readWaitExpiry g => Sys2Proof.Machine.execReadWaitExpiry g s
  | .blankScanDone h => Sys2Proof.Machine.execBlankScanDone h s
  | .calibration h mse mon => Sys2Proof.Machine.execCalibration h mse mon s
  | .calReq path hi mask => Sys2Proof.Machine.execCalReq path hi mask s
  | .bisqueVerdict h => Sys2Proof.Machine.execBisqueVerdict h s
  | .writeRetirement h cause => Sys2Proof.Machine.execWriteRetirement h cause s
  | .wrRetire path hi mask => Sys2Proof.Machine.execWrRetire path hi mask s
  | .tableWindowWrite path addr value => Sys2Proof.Machine.execTableWindowWrite path addr value s
  | .ceMemoryWrite path addr value => Sys2Proof.Machine.execCeMemoryWrite path addr value s
  | .bankCrcRecompute slot bank => Sys2Proof.Machine.execBankCrcRecompute slot bank s
  | .servoFrameMissing h => Sys2Proof.Machine.execServoFrameMissing h s
  | .loopMissFault h => Sys2Proof.Machine.execLoopMissFault h s
  | .macResidueFail lane => Sys2Proof.Machine.execMacResidueFail lane s
  | .swapReq path k mask => Sys2Proof.Machine.execSwapReq path k mask s
  | .swapHead path h slots => Sys2Proof.Machine.execSwapHead path h slots s
  | .slotEn path k mask => Sys2Proof.Machine.execSlotEn path k mask s
  | .saturationRun slot => Sys2Proof.Machine.execSaturationRun slot s
  | .seqAcquire path h layer band => Sys2Proof.Machine.execSeqAcquire path h layer band s
  | .layerJump path h layer band => Sys2Proof.Machine.execLayerJump path h layer band s
  | .bandJump path h bands => Sys2Proof.Machine.execBandJump path h bands s
  | .seqSeek path h band => Sys2Proof.Machine.execSeqSeek path h band s
  | .seqStep path h kind value => Sys2Proof.Machine.execSeqStep path h kind value s
  | .seqHold path h => Sys2Proof.Machine.execSeqHold path h s
  | .seqResume path h => Sys2Proof.Machine.execSeqResume path h s
  | .seqPark path h => Sys2Proof.Machine.execSeqPark path h s
  | .seqExport path h => Sys2Proof.Machine.execSeqExport path h s
  | .seqImport path h => Sys2Proof.Machine.execSeqImport path h s
  | .seqCmdUndefined path h op arg => Sys2Proof.Machine.execSeqCmdUndefined path h op arg s
  | .acqSweepTimeout h => Sys2Proof.Machine.execAcqSweepTimeout h s
  | .trackingCaptureTimeout h => Sys2Proof.Machine.execTrackingCaptureTimeout h s
  | .layerJumpTimeout h => Sys2Proof.Machine.execLayerJumpTimeout h s
  | .stepRemoved h => Sys2Proof.Machine.execStepRemoved h s
  | .focusLost h => Sys2Proof.Machine.execFocusLost h s
  | .trackingLost h => Sys2Proof.Machine.execTrackingLost h s
  | .traceStart path slot what => Sys2Proof.Machine.execTraceStart path slot what s
  | .traceFull => Sys2Proof.Machine.execTraceFull s
  | .speedTick w => Sys2Proof.Machine.execSpeedTick w s
  | .zeroCrossing w x => Sys2Proof.Machine.execZeroCrossing w x s
  | .commutation w t => Sys2Proof.Machine.execCommutation w t s
  | .currentSample w code => Sys2Proof.Machine.execCurrentSample w code s
  | .overcurrentTrip w t => Sys2Proof.Machine.execOvercurrentTrip w t s
  | .spdCmd path w rpm => Sys2Proof.Machine.execSpdCmd path w rpm s
  | .atSpeedSet w => Sys2Proof.Machine.execAtSpeedSet w s
  | .measuringEnd w seen => Sys2Proof.Machine.execMeasuringEnd w seen s
  | .brakeOnExpiry w => Sys2Proof.Machine.execBrakeOnExpiry w s
  | .restWindowEnd w seen => Sys2Proof.Machine.execRestWindowEnd w seen s
  | .alignEnd w t => Sys2Proof.Machine.execAlignEnd w t s
  | .openLoopTimeout w => Sys2Proof.Machine.execOpenLoopTimeout w s
  | .crossingWindowEmpty w => Sys2Proof.Machine.execCrossingWindowEmpty w s
  | .coastEnd w seen => Sys2Proof.Machine.execCoastEnd w seen s
  | .brakeHoldExpiry w => Sys2Proof.Machine.execBrakeHoldExpiry w s
  | .wheelRelease path w => Sys2Proof.Machine.execWheelRelease path w s
  | .wheelClamp path w => Sys2Proof.Machine.execWheelClamp path w s
  | .clearFault path w => Sys2Proof.Machine.execClearFault path w s
  | .handoverRel path w => Sys2Proof.Machine.execHandoverRel path w s
  | .handoverRelTimeout w => Sys2Proof.Machine.execHandoverRelTimeout w s
  | .handoverArm path w => Sys2Proof.Machine.execHandoverArm path w s
  | .wheelDisarm path w => Sys2Proof.Machine.execWheelDisarm path w s
  | .wheelCoast path w => Sys2Proof.Machine.execWheelCoast path w s
  | .clampSenseChange w high => Sys2Proof.Machine.execClampSenseChange w high s
  | .comparatorFault w c condemned => Sys2Proof.Machine.execComparatorFault w c condemned s
  | .shadowCrossing w x => Sys2Proof.Machine.execShadowCrossing w x s
  | .ownxFall w => Sys2Proof.Machine.execOwnxFall w s
  | .unplannedWheelTake w => Sys2Proof.Machine.execUnplannedWheelTake w s
  | .ownConflict w => Sys2Proof.Machine.execOwnConflict w s
  | .axisMove path nax ax0 ax1 ax2 => Sys2Proof.Machine.execAxisMove path nax ax0 ax1 ax2 s
  | .axisHome path ax => Sys2Proof.Machine.execAxisHome path ax s
  | .axisStop path ax => Sys2Proof.Machine.execAxisStop path ax s
  | .axisDisable path ax => Sys2Proof.Machine.execAxisDisable path ax s
  | .setPos path ax => Sys2Proof.Machine.execSetPos path ax s
  | .stopAll path => Sys2Proof.Machine.execStopAll path s
  | .moveEnd a pos => Sys2Proof.Machine.execMoveEnd a pos s
  | .enLagExpiry a => Sys2Proof.Machine.execEnLagExpiry a s
  | .switchAccepted a sw level stable pos => Sys2Proof.Machine.execSwitchAccepted a sw level stable pos s
  | .switchChatter a => Sys2Proof.Machine.execSwitchChatter a s
  | .ldOwnConflict => Sys2Proof.Machine.execLdOwnConflict s
  | .loaderRecovery farTripped => Sys2Proof.Machine.execLoaderRecovery farTripped s
  | .elvCmd path target => Sys2Proof.Machine.execElvCmd path target s
  | .stripeEncode lane zone => Sys2Proof.Machine.execStripeEncode lane zone s
  | .writeCompletion => Sys2Proof.Machine.execWriteCompletion s
  | .journalRecordWrite => Sys2Proof.Machine.execJournalRecordWrite s
  | .xspiWriteDone ok => Sys2Proof.Machine.execXspiWriteDone ok s
  | .xspiWriteRetry => Sys2Proof.Machine.execXspiWriteRetry s
  | .xspiRingCompact => Sys2Proof.Machine.execXspiRingCompact s
  | .runClose => Sys2Proof.Machine.execRunClose s
  | .holdup => Sys2Proof.Machine.execHoldup s
  | .holdupRearm => Sys2Proof.Machine.execHoldupRearm s
  | .journalReplay lane zone => Sys2Proof.Machine.execJournalReplay lane zone s
  | .rethrowStart path pos relocate => Sys2Proof.Machine.execRethrowStart path pos relocate s
  | .rethrowAutoStart pos => Sys2Proof.Machine.execRethrowAutoStart pos s
  | .rethrowStepDone step => Sys2Proof.Machine.execRethrowStepDone step s
  | .rethrowAbort path => Sys2Proof.Machine.execRethrowAbort path s
  | .crazePatrol lane zone => Sys2Proof.Machine.execCrazePatrol lane zone s
  | .coneRead h layer witnesses => Sys2Proof.Machine.execConeRead h layer witnesses s
  | .hbmTrainingDone k lanes failed => Sys2Proof.Machine.execHbmTrainingDone k lanes failed s
  | .zeroFillComplete k => Sys2Proof.Machine.execZeroFillComplete k s
  | .watermarkStallRelease k pc wm => Sys2Proof.Machine.execWatermarkStallRelease k pc wm s
  | .selfRefreshEntry => Sys2Proof.Machine.execSelfRefreshEntry s
  | .selfRefreshExit => Sys2Proof.Machine.execSelfRefreshExit s
  | .correctableError blk addr syndrome => Sys2Proof.Machine.execCorrectableError blk addr syndrome s
  | .uncorrectableError blk addr => Sys2Proof.Machine.execUncorrectableError blk addr s
  | .sramRowSubstitution blk ok => Sys2Proof.Machine.execSramRowSubstitution blk ok s
  | .postPackageRepair k res => Sys2Proof.Machine.execPostPackageRepair k res s
  | .pageRetirement page => Sys2Proof.Machine.execPageRetirement page s
  | .scrubWord k syn res => Sys2Proof.Machine.execScrubWord k syn res s
  | .poisonConsumed use => Sys2Proof.Machine.execPoisonConsumed use s
  | .cacheRequest who acc addr => Sys2Proof.Machine.execCacheRequest who acc addr s
  | .bypassAccess acc addr => Sys2Proof.Machine.execBypassAccess acc addr s
  | .cacheFillDone tag => Sys2Proof.Machine.execCacheFillDone tag s
  | .writebackDone k => Sys2Proof.Machine.execWritebackDone k s
  | .cleanLine path bySw set way => Sys2Proof.Machine.execCleanLine path bySw set way s
  | .invalidateLine path bySw set way => Sys2Proof.Machine.execInvalidateLine path bySw set way s
  | .cleanInvalidate path bySw set way => Sys2Proof.Machine.execCleanInvalidate path bySw set way s
  | .zeroLine path bySw set way => Sys2Proof.Machine.execZeroLine path bySw set way s
  | .cleanAll path => Sys2Proof.Machine.execCleanAll path s
  | .cleanInvalidateAll path => Sys2Proof.Machine.execCleanInvalidateAll path s
  | .maintenanceDone => Sys2Proof.Machine.execMaintenanceDone s
  | .waySparing way => Sys2Proof.Machine.execWaySparing way s
  | .ectClear path => Sys2Proof.Machine.execEctClear path s
  | .ethLinkUp p lanes fec74 => Sys2Proof.Machine.execEthLinkUp p lanes fec74 s
  | .ethLinkFallback p lanes => Sys2Proof.Machine.execEthLinkFallback p lanes s
  | .ethLinkDown p => Sys2Proof.Machine.execEthLinkDown p s
  | .ethFrameReceive p f => Sys2Proof.Machine.execEthFrameReceive p f s
  | .tcpSegment c p seg => Sys2Proof.Machine.execTcpSegment c p seg s
  | .tcpRetransmitTimeout c => Sys2Proof.Machine.execTcpRetransmitTimeout c s
  | .icreq c pfv hdgst ddgst maxr2t => Sys2Proof.Machine.execIcreq c pfv hdgst ddgst maxr2t s
  | .capsuleCmd c cid data chk => Sys2Proof.Machine.execCapsuleCmd c cid data chk s
  | .h2cData c cid offset bytes chk => Sys2Proof.Machine.execH2cData c cid offset bytes chk s
  | .h2cTermReq c => Sys2Proof.Machine.execH2cTermReq c s
  | .tlsHandshake c psk suite128 ok => Sys2Proof.Machine.execTlsHandshake c psk suite128 ok s
  | .nvmeConnect c cid host disc qid size cntlid kato => Sys2Proof.Machine.execNvmeConnect c cid host disc qid size cntlid kato s
  | .nvmeIdentify c cid cns ns => Sys2Proof.Machine.execNvmeIdentify c cid cns ns s
  | .namespaceCreate c cid lbaf nsze ncap binding => Sys2Proof.Machine.execNamespaceCreate c cid lbaf nsze ncap binding s
  | .namespaceDelete c cid ns => Sys2Proof.Machine.execNamespaceDelete c cid ns s
  | .namespaceAttachment c cid ns ids on => Sys2Proof.Machine.execNamespaceAttachment c cid ns ids on s
  | .readCommand c cid ns slba nlb => Sys2Proof.Machine.execReadCommand c cid ns slba nlb s
  | .writeCommand c cid ns slba nlb fua => Sys2Proof.Machine.execWriteCommand c cid ns slba nlb fua s
  | .zoneAppend c cid ns zslba nlb fua => Sys2Proof.Machine.execZoneAppend c cid ns zslba nlb fua s
  | .writeZeroes c cid ns slba nlb fua => Sys2Proof.Machine.execWriteZeroes c cid ns slba nlb fua s
  | .stagingWaitExpiry c cid => Sys2Proof.Machine.execStagingWaitExpiry c cid s
  | .nvmeFlush c cid ns => Sys2Proof.Machine.execNvmeFlush c cid ns s
  | .zoneOpen c cid ns slba all => Sys2Proof.Machine.execZoneOpen c cid ns slba all s
  | .zoneClose c cid ns slba all => Sys2Proof.Machine.execZoneClose c cid ns slba all s
  | .zoneFinish c cid ns slba all => Sys2Proof.Machine.execZoneFinish c cid ns slba all s
  | .zoneReset c cid ns slba all => Sys2Proof.Machine.execZoneReset c cid ns slba all s
  | .zoneOffline c cid ns slba all => Sys2Proof.Machine.execZoneOffline c cid ns slba all s
  | .setZoneDescriptorExt c cid ns slba => Sys2Proof.Machine.execSetZoneDescriptorExt c cid ns slba s
  | .stageLoad c cid id => Sys2Proof.Machine.execStageLoad c cid id s
  | .unmountLoad c cid id store => Sys2Proof.Machine.execUnmountLoad c cid id store s
  | .getLogC0 c cid len => Sys2Proof.Machine.execGetLogC0 c cid len s
  | .getLogC1 c cid offset len => Sys2Proof.Machine.execGetLogC1 c cid offset len s
  | .getLogC2 c cid clear len => Sys2Proof.Machine.execGetLogC2 c cid clear len s
  | .getLogC3 c cid len => Sys2Proof.Machine.execGetLogC3 c cid len s
  | .getLogC4 c cid ns offset len => Sys2Proof.Machine.execGetLogC4 c cid ns offset len s
  | .getLogC5 c cid ns offset len => Sys2Proof.Machine.execGetLogC5 c cid ns offset len s
  | .getLogSmart c cid => Sys2Proof.Machine.execGetLogSmart c cid s
  | .getFeaturesC0 c cid addr => Sys2Proof.Machine.execGetFeaturesC0 c cid addr s
  | .setFeaturesC0 c cid addr value => Sys2Proof.Machine.execSetFeaturesC0 c cid addr value s
  | .setFeaturesC1 c cid ns mirrorAck => Sys2Proof.Machine.execSetFeaturesC1 c cid ns mirrorAck s
  | .setFeaturesStandard c cid f => Sys2Proof.Machine.execSetFeaturesStandard c cid f s
  | .powerManagement c cid ps => Sys2Proof.Machine.execPowerManagement c cid ps s
  | .autonomousPsTransition a ps => Sys2Proof.Machine.execAutonomousPsTransition a ps s
  | .psReq path value => Sys2Proof.Machine.execPsReq path value s
  | .keepAlive c cid => Sys2Proof.Machine.execKeepAlive c cid s
  | .keepAliveExpiry a => Sys2Proof.Machine.execKeepAliveExpiry a s
  | .connectionLoss c => Sys2Proof.Machine.execConnectionLoss c s
  | .controllerReset a subsystem => Sys2Proof.Machine.execControllerReset a subsystem s
  | .firmwareDownload c cid img => Sys2Proof.Machine.execFirmwareDownload c cid img s
  | .firmwareCommitStore c cid action => Sys2Proof.Machine.execFirmwareCommitStore c cid action s
  | .firmwareCommitActivate c cid => Sys2Proof.Machine.execFirmwareCommitActivate c cid s
  | .fwActivationDrainEnd => Sys2Proof.Machine.execFwActivationDrainEnd s
  | .securityReceive c cid protocol spsp => Sys2Proof.Machine.execSecurityReceive c cid protocol spsp s
  | .getVersion c cid => Sys2Proof.Machine.execGetVersion c cid s
  | .getCapabilities c cid => Sys2Proof.Machine.execGetCapabilities c cid s
  | .negotiateAlgorithms c cid => Sys2Proof.Machine.execNegotiateAlgorithms c cid s
  | .getDigests c cid => Sys2Proof.Machine.execGetDigests c cid s
  | .getCertificate c cid slot offset len => Sys2Proof.Machine.execGetCertificate c cid slot offset len s
  | .spdmChallenge c cid slot nonce => Sys2Proof.Machine.execSpdmChallenge c cid slot nonce s
  | .getMeasurements c cid index nonce => Sys2Proof.Machine.execGetMeasurements c cid index nonce s
  | .spdmUnsupported c cid => Sys2Proof.Machine.execSpdmUnsupported c cid s
  | .trustLock path => Sys2Proof.Machine.execTrustLock path s
  | .svnCommit path => Sys2Proof.Machine.execSvnCommit path s
  | .trustLeave path => Sys2Proof.Machine.execTrustLeave path s
  | .domainCreate path => Sys2Proof.Machine.execDomainCreate path s
  | .enrolOffer path body => Sys2Proof.Machine.execEnrolOffer path body s
  | .drkWrap path body => Sys2Proof.Machine.execDrkWrap path body s
  | .enrolTimeout => Sys2Proof.Machine.execEnrolTimeout s
  | .pskAdd path body => Sys2Proof.Machine.execPskAdd path body s
  | .pskDel path body => Sys2Proof.Machine.execPskDel path body s
  | .nskeyRestore path body => Sys2Proof.Machine.execNskeyRestore path body s
  | .eraseConfirm path body => Sys2Proof.Machine.execEraseConfirm path body s
  | .eraseConfirmRetry => Sys2Proof.Machine.execEraseConfirmRetry s
  | .drbgReseed => Sys2Proof.Machine.execDrbgReseed s
  | .entropyHealthFail => Sys2Proof.Machine.execEntropyHealthFail s
  | .loadKeyDerived ns load => Sys2Proof.Machine.execLoadKeyDerived ns load s
  | .encryptBlock lane zone stripe engine checkOk => Sys2Proof.Machine.execEncryptBlock lane zone stripe engine checkOk s
  | .zoneSeal lane zone readBack => Sys2Proof.Machine.execZoneSeal lane zone readBack s
  | .debugChallengeRead => Sys2Proof.Machine.execDebugChallengeRead s
  | .debugUnlock sig => Sys2Proof.Machine.execDebugUnlock sig s
  | .keyFlush path => Sys2Proof.Machine.execKeyFlush path s
  | .tFrameRefused tagFails => Sys2Proof.Machine.execTFrameRefused tagFails s
  | .helloMsg h b => Sys2Proof.Machine.execHelloMsg h b s
  | .helloAuth h serial boot => Sys2Proof.Machine.execHelloAuth h serial boot s
  | .helloSend => Sys2Proof.Machine.execHelloSend s
  | .heartbeat h chip tw staging msns => Sys2Proof.Machine.execHeartbeat h chip tw staging msns s
  | .heartbeatSend => Sys2Proof.Machine.execHeartbeatSend s
  | .reliableResend cls => Sys2Proof.Machine.execReliableResend cls s
  | .tokenOffer h tok epoch => Sys2Proof.Machine.execTokenOffer h tok epoch s
  | .exportMessage h tok epoch b => Sys2Proof.Machine.execExportMessage h tok epoch b s
  | .tokenTake h tok epoch => Sys2Proof.Machine.execTokenTake h tok epoch s
  | .tokenDone h tok epoch result => Sys2Proof.Machine.execTokenDone h tok epoch result s
  | .journalMsg h recs => Sys2Proof.Machine.execJournalMsg h recs s
  | .stageMsg h ns zone first lbas => Sys2Proof.Machine.execStageMsg h ns zone first lbas s
  | .stageFree h zone stripes => Sys2Proof.Machine.execStageFree h zone stripes s
  | .mirrorAck h msn => Sys2Proof.Machine.execMirrorAck h msn s
  | .memberMsg h head sa blk offset bytes => Sys2Proof.Machine.execMemberMsg h head sa blk offset bytes s
  | .fireReport h head sa event segment verdict => Sys2Proof.Machine.execFireReport h head sa event segment verdict s
  | .releaseConf h wheel result => Sys2Proof.Machine.execReleaseConf h wheel result s
  | .forwardMsg h f => Sys2Proof.Machine.execForwardMsg h f s
  | .writerMsg h ns side => Sys2Proof.Machine.execWriterMsg h ns side s
  | .twinState h b => Sys2Proof.Machine.execTwinState h b s
  | .twinStateSend => Sys2Proof.Machine.execTwinStateSend s
  | .twinHbPinLost => Sys2Proof.Machine.execTwinHbPinLost s
  | .portTLost => Sys2Proof.Machine.execPortTLost s
  | .unplannedTakeover => Sys2Proof.Machine.execUnplannedTakeover s
  | .partitionWithdraw => Sys2Proof.Machine.execPartitionWithdraw s
  | .partWaitExpiry => Sys2Proof.Machine.execPartWaitExpiry s
  | .hoGive path tok => Sys2Proof.Machine.execHoGive path tok s
  | .hoReturn path tok => Sys2Proof.Machine.execHoReturn path tok s
  | .autoReturn => Sys2Proof.Machine.execAutoReturn s
  | .writerMove ns => Sys2Proof.Machine.execWriterMove ns s
  | .conflictResolution tok => Sys2Proof.Machine.execConflictResolution tok s
  | .announceSend => Sys2Proof.Machine.execAnnounceSend s
  | .announceMsg b block => Sys2Proof.Machine.execAnnounceMsg b block s
  | .noManagerTimeout => Sys2Proof.Machine.execNoManagerTimeout s
  | .regAck path value => Sys2Proof.Machine.execRegAck path value s
  | .workerPoll shelf side block => Sys2Proof.Machine.execWorkerPoll shelf side block s
  | .shelfPowerCycle shelf => Sys2Proof.Machine.execShelfPowerCycle shelf s
  | .pmbusTransactionDone ok status => Sys2Proof.Machine.execPmbusTransactionDone ok status s
  | .pwrCmdOn path shelf => Sys2Proof.Machine.execPwrCmdOn path shelf s
  | .pwrCmdSoftOff path shelf => Sys2Proof.Machine.execPwrCmdSoftOff path shelf s
  | .pwrCmdPowerCycle path shelf => Sys2Proof.Machine.execPwrCmdPowerCycle path shelf s
  | .powerOnDequeue => Sys2Proof.Machine.execPowerOnDequeue s
  | .stageReq path value => Sys2Proof.Machine.execStageReq path value s
  | .porstNRelease straps trim holdup keys => Sys2Proof.Machine.execPorstNRelease straps trim holdup keys s
  | .bootHoldExpiry => Sys2Proof.Machine.execBootHoldExpiry s
  | .fatalReset => Sys2Proof.Machine.execFatalReset s
  | .selfTestStart test kind => Sys2Proof.Machine.execSelfTestStart test kind s
  | .selfTestDone test kind pass => Sys2Proof.Machine.execSelfTestDone test kind pass s
  | .selfTestEarlyEnd test why => Sys2Proof.Machine.execSelfTestEarlyEnd test why s
  | .passOverdue test => Sys2Proof.Machine.execPassOverdue test s
  | .forcedTestTick test => Sys2Proof.Machine.execForcedTestTick test s
  | .testReq path test page cell => Sys2Proof.Machine.execTestReq path test page cell s
  | .testReqForce path test page cell => Sys2Proof.Machine.execTestReqForce path test page cell s
  | .watchdogExpiry core => Sys2Proof.Machine.execWatchdogExpiry core s
  | .overloadEnter load => Sys2Proof.Machine.execOverloadEnter load s
  | .overloadLeave load => Sys2Proof.Machine.execOverloadLeave load s
  | .poweredTimeSave => Sys2Proof.Machine.execPoweredTimeSave s
  | .eventRaised => Sys2Proof.Machine.execEventRaised s
  | .winCursor path seq => Sys2Proof.Machine.execWinCursor path seq s
  | .winData path => Sys2Proof.Machine.execWinData path s
  | .erClearLog path => Sys2Proof.Machine.execErClearLog path s
  | .erClearMirror path => Sys2Proof.Machine.execErClearMirror path s
  | .mirrorWriteDone ok => Sys2Proof.Machine.execMirrorWriteDone ok s
  | .mirrorRetry => Sys2Proof.Machine.execMirrorRetry s
  | .queueItemWrite q => Sys2Proof.Machine.execQueueItemWrite q s
  | .telemetryPeriod q => Sys2Proof.Machine.execTelemetryPeriod q s
  | .oqWin path => Sys2Proof.Machine.execOqWin path s
  | .qFlush path q => Sys2Proof.Machine.execQFlush path q s
  | .qFlushAll path => Sys2Proof.Machine.execQFlushAll path s
  | .qFlushEffect q => Sys2Proof.Machine.execQFlushEffect q s
  | .pwrgdFall => Sys2Proof.Machine.execPwrgdFall s
  | .thermalTrip => Sys2Proof.Machine.execThermalTrip s
  | .thermalTripEnd temp => Sys2Proof.Machine.execThermalTripEnd temp s
  | .tempAlarm temp => Sys2Proof.Machine.execTempAlarm temp s
  | .hbmOvertemp k => Sys2Proof.Machine.execHbmOvertemp k s
  | .porstNAssertion => Sys2Proof.Machine.execPorstNAssertion s
  | .twinHbOutToggle => Sys2Proof.Machine.execTwinHbOutToggle s
  | .twinHbInEdge => Sys2Proof.Machine.execTwinHbInEdge s
  | .ldOwnxFall => Sys2Proof.Machine.execLdOwnxFall s
  | .clampSenseTimeout w => Sys2Proof.Machine.execClampSenseTimeout w s
  | .namespaceKeyAckTimeout ns => Sys2Proof.Machine.execNamespaceKeyAckTimeout ns s
  | .catalogueWaitExpiry c cid => Sys2Proof.Machine.execCatalogueWaitExpiry c cid s
  | .asynchronousEventRequest c cid => Sys2Proof.Machine.execAsynchronousEventRequest c cid s
  | .hbCntTick => Sys2Proof.Machine.execHbCntTick s
  | .tempAlarmClear temp => Sys2Proof.Machine.execTempAlarmClear temp s

end Sys2Proof.Machine
end

