-- ==== Sys2Proof/Machine/Tick.lean ====
section
/-!
DEFINITION. What the block does when no command waits (log entry 1): 40 ns pass, and what the controller
does of itself goes on as far as its state allows.
-/
namespace Sys2Proof.Machine

/-- The time of one empty step in ns: a period of XTAL_AO, 25 MHz, which times CHIP.TIME (chapter 19). -/
def tickNs : Nat := 40

/-- The work of MC that waits for a state, by its priority (R585): hold-up, ownership, handover and journal; admin
commands, with the load and power changes that they ask for; catalogue maintenance; the rack. What MC does at an
event's own row, draining and self-test among it, is at that row. -/
def mcWork : List (Nat × (State → State)) :=
  [(1, State.parkedAll), (1, State.hoGo), (1, State.takeoverGo), (1, State.handedGo), (1, State.hbmHanded), (1, State.planGo), (1, State.bootHomes),
   (1, State.bootWheels), (1, State.expectGo), (2, State.psGo), (2, State.loadGo), (2, State.transferGo), (2, State.kickGo), (3, State.catalogueGo), (3, State.coneGo), (3, State.rtResume),
   (3, State.rackGo)]

/-- Work of the pool and the host engine, which are hardware, and of MC in the order of R585. -/
def State.ownWork (s : State) : State := mcWork.foldl (fun u w => w.2 u) s.abortsGo.hostProgress

/-- A meter of a page: every copy of its field takes a free value. -/
def State.meter (s : State) (base : Nat) (f : Fld) : State :=
  s.forEach (List.range f.count) fun u i => (u.free).2.setFld base f ((u.free).1 % 2 ^ f.width) i

/-- The on-die corrections that a stack reports (R422): how many, no rule gives (log entry 2). -/
def State.onDie (s : State) (k : Nat) : State :=
  if s.hbmState k = 2 ∨ s.hbmState k = 3 then (s.free).2.count (hbmPage k) HBM.ODECC_CNT (s.free).1 else s

/-- What a port with its link up counts by itself (R502): FEC codewords, and PFC frames where PFC is on; how many, no rule
gives (log entry 2). -/
def State.portCounts (s : State) (p : Nat) : State :=
  let b := ethPage p
  if !s.flag b ETH.ETH_STAT_LINK then s
  else
    let u := (s.free).2.count b ETH.FEC_CORR (s.free).1
    let u := (u.free).2.count b ETH.FEC_UNCORR (u.free).1
    if u.fld b ETH.ETH_CFG_PFC_EN = 0 then u else (u.free).2.count b ETH.PFC_TX (u.free).1

/-- What the pages estimate or count over each millisecond (R51 and the tables of HBM, TW and MC): power, temperature and rates, whose
values no rule gives (log entry 2). -/
def State.meters (s : State) : State :=
  let t := s.forEach (List.range 9) fun u r => u.meter (regionPage r) REGION.RG_PWR_W
  let t := t.forEach [0, 1] fun u n =>
    (((u.meter (hbmPage n) HBM.BW_RD).meter (hbmPage n) HBM.BW_WR).meter (hbmPage n) HBM.HB_STAT_TEMP).onDie n
  let t := t.forEach (List.range 4) State.portCounts
  let t := ((t.meter twPage TW.T_RATE_TX).meter twPage TW.T_RATE_RX).meter mcPage MC.CORE_LOAD
  let load := min t.free.1 1000
  let t := (t.free.2.setFld mcPage MC.LOAD_NOW load).peak mcPage MC.LOAD_PEAK load
  let t := if t.flag mcPage MC.MC_STAT_OVERLOAD then t.count mcPage MC.OVERLOAD_MS else t
  t.idleMarks

/-- Time goes on by one period; the pin axes make their steps, HBM is filled, and the meters follow each millisecond. -/
def State.timeGo (s : State) : State :=
  let t := (((State.motionGo { s with now := s.now + tickNs }).shareGo tickNs).fillStack 0).fillStack 1
  if t.now / 10 ^ 6 = s.now / 10 ^ 6 then t else t.meters

/-- A step on an empty queue. A chip in reset does nothing, or leaves it once its power is good. -/
def State.tick (s : State) : State :=
  if s.svc.held ≠ .no then s.resetGo else ((s.timeGo.spineGo tickNs).ownWork).busyGo

end Sys2Proof.Machine
end

