-- ==== Sys2Proof/Machine/Step.lean ====
section
/-!
DEFINITION. One step: the command at the front of the queue, or a tick of the block's own.
-/
namespace Sys2Proof.Machine

/-- The step: the command at the front runs on the state with the queue's rest; an empty queue is a tick
(log entry 1). -/
def step (s : State) : Res :=
  match s.pending with
  | [] => done s.tick
  | c :: rest => exec c { s with pending := rest }

/-- The state with the command that a word spells put at the front of its queue; the table gives no row bits,
so that no word spells a command and the state is unchanged. -/
def State.withFetchWord (s : State) (nbits w : Nat) : State :=
  match Sys2Proof.decodeTableWord nbits w with
  | some c => { s with pending := c :: s.pending }
  | none => s

end Sys2Proof.Machine
end

