-- ==== Sys2Proof/Safety.lean ====
section
/-!
DEFINITION. What the statements about every step speak of: readiness that agrees with its pages, and the
stores in their canonical form.
-/
namespace Sys2Proof.Machine

/-- R65: a RDY_SYS bit that reads 1 has READY of its page at 1, and no bit waits for a page that is
ready. -/
structure State.Quiet (s : State) : Prop where
  agree : ∀ x ∈ rdyOwners, if s.ready x.1 = true then x.2.lsb ∉ s.arb.cut else s.flag rdyPage x.2 = false

/-- The keys of the fields that settling may change: RDY_SYS bits and PG_ISTAT of RDY. -/
def settleKeys : List Nat := fldKey rdyPage HDR.ISTAT 0 :: rdyOwners.map fun x => fldKey rdyPage x.2 0

/-- The register store and the window words are in canonical form. -/
def State.regsWf (s : State) : Bool := storeWf regDefault s.regs && storeWf wordDefault s.words

/-- A register's copy by its key, as it is held. -/
def State.reg (s : State) (k : Nat) : Nat := storeFind regDefault s.regs k

/-! Writes that are executed -/

/-- A write of one word goes ahead at once: the path is open, neither a transfer nor an earlier write makes it
wait (R59, R61), and no check of R60 refuses it. -/
structure State.Passes (s : State) (path : Path) (a v : Nat) : Prop where
  live : s.pathLive path = true
  still : s.transferring [(a, v)] = none
  alone : behind [(a, v)] s.arb.waiting = false
  allowed : s.checkWrite path a v = none

/-- Whether a write of a word touches a field (R636). -/
def State.hits (s : State) (path : Path) (a v : Nat) (f : Fld) : Bool := (s.touched path a v).any fun x => x.fld = f

/-- The fields that a write of a word touches have their new values, and PG_SEQ has counted (R58, R636). -/
def State.put (s : State) (path : Path) (a v : Nat) : State :=
  match pageAt a with
  | none => s
  | some p =>
    let xs := s.touched path a v
    let t := s.forEach xs fun u x => u.putFld p v x
    if s.changesPage p v xs then t.countWrap p.base HDR.PG_SEQ else t

/-- The outcome of a write that was executed: it is answered with class 0. -/
def answered (path : Path) (a : Nat) (t : State) : Res := .next (t.send (.writeDone path a 0)).settle

/-! Requests of a STEBARO session -/

/-- A request has been received and counted (R75, R86). -/
def State.sbHeard (s : State) (sid : SessionIx) : State := (s.sbTouch sid.val).count stebaroPage STEBARO.SB_RX_CNT

/-- A request that is carried out: its session is open, it is no repeat of one answered or waiting (R81), and its
form has no fault (R78, R82). -/
structure State.NewRequest (s : State) (sid : SessionIx) (h : SbHeader) (words : Nat) : Prop where
  live : s.svc.held = .no
  isOpen : (s.session sid.val).isSome = true
  fresh : ∀ x, (s.sbTouch sid.val).session sid.val = some x → ∀ k ∈ x.kept, k.req ≠ h
  alone : ∀ w ∈ (s.sbTouch sid.val).arb.waiting, pathKey w.path = 2 + sid.val → w.for' ≠ .steb h
  formed : (s.sbHeard sid).requestFault sid.val h words = none

/-- A write of several words goes ahead at once and no word of it is refused (R59-R61). -/
structure State.PassesAll (s : State) (path : Path) (ws : List (Nat × Nat)) : Prop where
  live : s.pathLive path = true
  still : s.transferring ws = none
  alone : behind ws s.arb.waiting = false
  allowed : s.firstFault path 0 ws = none

/-! Commands of the host -/

/-- An admin command has been taken and nothing has been done for it yet: its connection is the admin queue of an
association (R463, R464). -/
def State.freshAdmin (s : State) (c cid : Nat) : Bool :=
  match s.ctx c cid, s.conn c with
  | some x, some k => decide (x.work = .fresh) && decide (k.qid = 0) && k.assoc.isSome
  | _, _ => false

/-- An I/O command has been taken and nothing has been done for it yet: its connection is an I/O queue, and no power
state holds it (R463, R464, R494). -/
structure State.FreshIo (s : State) (c cid : Nat) : Prop where
  taken : ∃ x, s.ctx c cid = some x ∧ x.work = .fresh
  queue : ∃ q, s.conn c = some q ∧ q.qid ≠ 0
  awake : s.fld nvmePage NVME.PS_CUR ≠ 2

/-! Messages of the twin -/

/-- A frame of the twin is taken (R541, R542): a HELLO has come, SEQ is fresh, this side is paired, and the message
is the next of its class. -/
structure State.Hears (s : State) (h : THdr) (cls : Nat) : Prop where
  known : s.tw.hello.isSome = true
  fresh : s.tFresh h = true
  paired : s.paired = true
  next : cls = clsNone ∨ h.msn = s.msnSeen cls + 1

/-- What every frame that is taken does: its number is the newest, and port T is alive (R541, R544). -/
def State.twinHeard (s : State) (h : THdr) (cls : Nat) : State :=
  let t := (s.tTaken h).setFlag twPage TW.TW_STAT_T_ALIVE true
  let t := t.setTw { t.tw with lastSign := t.now, lastFrame := t.now }
  if cls = clsNone then t else t.setTw { t.tw with msnRx := storePut (fun _ => 0) t.tw.msnRx cls h.msn }

end Sys2Proof.Machine
end

