-- ==== Sys2Proof/WellFormed.lean ====
section
/-!
DEFINITION. Well-formed commands: the shapes that a frame, a message or an observation of the spec has,
and the widths of the fields that a command carries as a number. The index types of Operands.lean bound
every other operand.
-/
namespace Sys2Proof

/-- A command that the outside can send: 33 payload blocks and a trailer in an upstream frame (R135), eight beams in
FIRE_MON (R154), register addresses of 24 bits (R52), NVMe identifiers, LBAs and lengths in their command fields. -/
def Instr.wf : Instr → Bool
  | .registerWrite _ addr _ => decide (addr < 2 ^ 24)
  | .rcRegisterRead _ addr _ => decide (addr < 2 ^ 24)
  | .upstreamFrame _ _ f => decide (f.frame.blocks.length = 34)
  | .fireMon _ _ _ power => decide (power.length = 8)
  | .tableWindowWrite _ addr _ => decide (addr < 2 ^ 24)
  | .ceMemoryWrite _ addr _ => decide (addr < 2 ^ 24)
  | .coneRead _ _ _ => true
  | .ethFrameReceive _ f => decide (f.tag < 2 ^ 12)
  | .capsuleCmd _ cid _ _ => decide (cid < 2 ^ 16)
  | .h2cData _ cid _ _ _ => decide (cid < 2 ^ 16)
  | .nvmeConnect _ cid _ _ _ _ _ _ => decide (cid < 2 ^ 16)
  | .nvmeIdentify _ cid _ ns => decide (cid < 2 ^ 16) && decide (ns < 2 ^ 32)
  | .namespaceCreate _ cid _ _ _ _ => decide (cid < 2 ^ 16)
  | .namespaceDelete _ cid ns => decide (cid < 2 ^ 16) && decide (ns < 2 ^ 32)
  | .namespaceAttachment _ cid ns _ _ => decide (cid < 2 ^ 16) && decide (ns < 2 ^ 32)
  | .readCommand _ cid ns slba nlb => decide (cid < 2 ^ 16) && decide (ns < 2 ^ 32) && decide (slba < 2 ^ 64) && decide (nlb < 2 ^ 16)
  | .writeCommand _ cid ns slba nlb _ => decide (cid < 2 ^ 16) && decide (ns < 2 ^ 32) && decide (slba < 2 ^ 64) && decide (nlb < 2 ^ 16)
  | .zoneAppend _ cid ns zslba nlb _ => decide (cid < 2 ^ 16) && decide (ns < 2 ^ 32) && decide (zslba < 2 ^ 64) && decide (nlb < 2 ^ 16)
  | .writeZeroes _ cid ns slba nlb _ => decide (cid < 2 ^ 16) && decide (ns < 2 ^ 32) && decide (slba < 2 ^ 64) && decide (nlb < 2 ^ 16)
  | .stagingWaitExpiry _ cid => decide (cid < 2 ^ 16)
  | .nvmeFlush _ cid ns => decide (cid < 2 ^ 16) && decide (ns < 2 ^ 32)
  | .zoneOpen _ cid ns slba _ => decide (cid < 2 ^ 16) && decide (ns < 2 ^ 32) && decide (slba < 2 ^ 64)
  | .zoneClose _ cid ns slba _ => decide (cid < 2 ^ 16) && decide (ns < 2 ^ 32) && decide (slba < 2 ^ 64)
  | .zoneFinish _ cid ns slba _ => decide (cid < 2 ^ 16) && decide (ns < 2 ^ 32) && decide (slba < 2 ^ 64)
  | .zoneReset _ cid ns slba _ => decide (cid < 2 ^ 16) && decide (ns < 2 ^ 32) && decide (slba < 2 ^ 64)
  | .zoneOffline _ cid ns slba _ => decide (cid < 2 ^ 16) && decide (ns < 2 ^ 32) && decide (slba < 2 ^ 64)
  | .setZoneDescriptorExt _ cid ns slba => decide (cid < 2 ^ 16) && decide (ns < 2 ^ 32) && decide (slba < 2 ^ 64)
  | .stageLoad _ cid _ => decide (cid < 2 ^ 16)
  | .unmountLoad _ cid _ _ => decide (cid < 2 ^ 16)
  | .getLogC0 _ cid _ => decide (cid < 2 ^ 16)
  | .getLogC1 _ cid _ _ => decide (cid < 2 ^ 16)
  | .getLogC2 _ cid _ _ => decide (cid < 2 ^ 16)
  | .getLogC3 _ cid _ => decide (cid < 2 ^ 16)
  | .getLogC4 _ cid ns _ _ => decide (cid < 2 ^ 16) && decide (ns < 2 ^ 32)
  | .getLogC5 _ cid ns _ _ => decide (cid < 2 ^ 16) && decide (ns < 2 ^ 32)
  | .getLogSmart _ cid => decide (cid < 2 ^ 16)
  | .getFeaturesC0 _ cid addr => decide (cid < 2 ^ 16) && decide (addr < 2 ^ 24)
  | .setFeaturesC0 _ cid addr _ => decide (cid < 2 ^ 16) && decide (addr < 2 ^ 24)
  | .setFeaturesC1 _ cid ns _ => decide (cid < 2 ^ 16) && decide (ns < 2 ^ 32)
  | .setFeaturesStandard _ cid _ => decide (cid < 2 ^ 16)
  | .powerManagement _ cid _ => decide (cid < 2 ^ 16)
  | .keepAlive _ cid => decide (cid < 2 ^ 16)
  | .firmwareDownload _ cid _ => decide (cid < 2 ^ 16)
  | .firmwareCommitStore _ cid _ => decide (cid < 2 ^ 16)
  | .firmwareCommitActivate _ cid => decide (cid < 2 ^ 16)
  | .securityReceive _ cid _ _ => decide (cid < 2 ^ 16)
  | .getVersion _ cid => decide (cid < 2 ^ 16)
  | .getCapabilities _ cid => decide (cid < 2 ^ 16)
  | .negotiateAlgorithms _ cid => decide (cid < 2 ^ 16)
  | .getDigests _ cid => decide (cid < 2 ^ 16)
  | .getCertificate _ cid _ _ _ => decide (cid < 2 ^ 16)
  | .spdmChallenge _ cid _ _ => decide (cid < 2 ^ 16)
  | .getMeasurements _ cid _ _ => decide (cid < 2 ^ 16)
  | .spdmUnsupported _ cid => decide (cid < 2 ^ 16)
  | .loadKeyDerived ns _ => decide (ns < 2 ^ 32)
  | .stageMsg _ ns _ _ _ => decide (ns < 2 ^ 32)
  | .writerMsg _ ns _ => decide (ns < 2 ^ 32)
  | .writerMove ns => decide (ns < 2 ^ 32)
  | .namespaceKeyAckTimeout ns => decide (ns < 2 ^ 32)
  | .catalogueWaitExpiry _ cid => decide (cid < 2 ^ 16)
  | .asynchronousEventRequest _ cid => decide (cid < 2 ^ 16)
  | .writeReleasedAfterTransfer | .writeTransferTimeout | .softReset .. | .softResetComplete ..
  | .enableClear .. | .quiesce .. | .objectDrained .. | .isolateClear .. | .chipResetHandover ..
  | .chipResetImmediate .. | .timeLoRead .. | .fmonStart .. | .fmonResult .. | .islRstReq ..
  | .islandRelease .. | .pllLossOfLock .. | .pllRelock .. | .referenceClockLost .. | .xtalAoLost
  | .controlValueWrite .. | .controlCapture .. | .controlAckArrival .. | .dataItemWrite ..
  | .dataItemReadable .. | .resyncEntry .. | .resyncHandshakeDone .. | .cellFaultDetected ..
  | .spareSubstitution .. | .blockIsolation .. | .chipDegrade | .dtlsHandshake .. | .datagramDiscard ..
  | .badRequest .. | .sbRead .. | .sbWrite .. | .readBlock .. | .writeBlock .. | .windowRead ..
  | .subscribe .. | .eventAck .. | .eventNak .. | .eventSend .. | .eventResend .. | .subscriptionCancel ..
  | .sessionIdleTimeout .. | .sessionClose .. | .stebaroPortDisable .. | .blockLockGained ..
  | .blockLockLost .. | .frameLockGained .. | .frameLockLost .. | .linkLaneFault .. | .forcePos ..
  | .linkRetrain .. | .trainingStepAdvance .. | .trainingStepTimeout .. | .linkLoss .. | .retrainRetry ..
  | .servoErr .. | .laserMon .. | .sledMsg .. | .statusMsg .. | .fireEvent .. | .fireCredit .. | .echoRsp ..
  | .identMsg .. | .tableAck .. | .grooveWord .. | .bandLost .. | .bandLockLost .. | .reacquisitionStart ..
  | .segmentVote .. | .decodeResult .. | .bandLocked .. | .ringBoundary .. | .adaptReload .. | .adaptReacq .. | .bandConfigApply ..
  | .pieceLeavesShelf .. | .failedCodewordCopy .. | .redetectionRequest .. | .redetectionDone ..
  | .pieceFiled | .decodeStart | .bandReadStart .. | .shardIdx .. | .shardWin .. | .outerAttemptDone ..
  | .norevBudgetExpiry .. | .revolutionStepDone .. | .ladderTimeout .. | .reconstructionDone ..
  | .gcmVerifyDone .. | .firingRunStart .. | .firingBegin .. | .settingArm .. | .firingRunEnd ..
  | .runMaxExpiry .. | .readWaitExpiry .. | .blankScanDone .. | .calibration .. | .calReq .. | .bisqueVerdict ..
  | .writeRetirement .. | .wrRetire .. | .bankCrcRecompute .. | .servoFrameMissing .. | .loopMissFault ..
  | .macResidueFail .. | .swapReq .. | .swapHead .. | .slotEn .. | .saturationRun .. | .seqAcquire ..
  | .layerJump .. | .bandJump .. | .seqSeek .. | .seqStep .. | .seqHold .. | .seqResume .. | .seqPark ..
  | .seqExport .. | .seqImport .. | .seqCmdUndefined .. | .acqSweepTimeout .. | .trackingCaptureTimeout ..
  | .layerJumpTimeout .. | .stepRemoved .. | .focusLost .. | .trackingLost .. | .traceStart .. | .traceFull
  | .speedTick .. | .zeroCrossing .. | .commutation .. | .currentSample .. | .overcurrentTrip .. | .spdCmd ..
  | .atSpeedSet .. | .measuringEnd .. | .brakeOnExpiry .. | .restWindowEnd .. | .alignEnd ..
  | .openLoopTimeout .. | .crossingWindowEmpty .. | .coastEnd .. | .brakeHoldExpiry .. | .wheelRelease ..
  | .wheelClamp .. | .clearFault .. | .handoverRel .. | .handoverRelTimeout .. | .handoverArm ..
  | .wheelDisarm .. | .wheelCoast .. | .clampSenseChange .. | .comparatorFault .. | .shadowCrossing ..
  | .ownxFall .. | .unplannedWheelTake .. | .ownConflict .. | .axisMove .. | .axisHome .. | .axisStop ..
  | .axisDisable .. | .setPos .. | .stopAll .. | .moveEnd .. | .enLagExpiry .. | .switchAccepted ..
  | .switchChatter .. | .ldOwnConflict | .loaderRecovery .. | .elvCmd .. | .stripeEncode ..
  | .writeCompletion | .journalRecordWrite | .xspiWriteDone .. | .xspiWriteRetry | .xspiRingCompact
  | .runClose | .holdup | .holdupRearm | .journalReplay .. | .rethrowStart .. | .rethrowAutoStart ..
  | .rethrowStepDone .. | .rethrowAbort .. | .crazePatrol .. | .hbmTrainingDone .. | .zeroFillComplete ..
  | .watermarkStallRelease .. | .selfRefreshEntry | .selfRefreshExit | .correctableError ..
  | .uncorrectableError .. | .sramRowSubstitution .. | .postPackageRepair .. | .pageRetirement ..
  | .scrubWord .. | .poisonConsumed .. | .cacheRequest .. | .bypassAccess .. | .cacheFillDone ..
  | .writebackDone .. | .cleanLine .. | .invalidateLine .. | .cleanInvalidate .. | .zeroLine ..
  | .cleanAll .. | .cleanInvalidateAll .. | .maintenanceDone | .waySparing .. | .ectClear .. | .ethLinkUp ..
  | .ethLinkFallback .. | .ethLinkDown .. | .tcpSegment .. | .tcpRetransmitTimeout ..
  | .icreq .. | .h2cTermReq .. | .tlsHandshake .. | .autonomousPsTransition .. | .psReq ..
  | .keepAliveExpiry .. | .connectionLoss .. | .controllerReset .. | .fwActivationDrainEnd | .trustLock ..
  | .svnCommit .. | .trustLeave .. | .domainCreate .. | .enrolOffer .. | .drkWrap .. | .enrolTimeout
  | .pskAdd .. | .pskDel .. | .nskeyRestore .. | .eraseConfirm .. | .eraseConfirmRetry | .drbgReseed
  | .entropyHealthFail | .encryptBlock .. | .zoneSeal .. | .debugChallengeRead | .debugUnlock ..
  | .keyFlush .. | .tFrameRefused .. | .helloMsg .. | .helloAuth .. | .helloSend | .heartbeat ..
  | .heartbeatSend | .reliableResend .. | .tokenOffer .. | .exportMessage .. | .tokenTake .. | .tokenDone ..
  | .journalMsg .. | .stageFree .. | .mirrorAck .. | .memberMsg .. | .fireReport .. | .releaseConf ..
  | .forwardMsg .. | .twinState .. | .twinStateSend | .twinHbPinLost | .portTLost | .unplannedTakeover
  | .partitionWithdraw | .partWaitExpiry | .hoGive .. | .hoReturn .. | .autoReturn | .conflictResolution ..
  | .announceSend | .announceMsg .. | .noManagerTimeout | .regAck .. | .workerPoll .. | .shelfPowerCycle ..
  | .pmbusTransactionDone .. | .pwrCmdOn .. | .pwrCmdSoftOff .. | .pwrCmdPowerCycle .. | .powerOnDequeue
  | .stageReq .. | .porstNRelease .. | .bootHoldExpiry | .fatalReset | .selfTestStart .. | .selfTestDone ..
  | .selfTestEarlyEnd .. | .passOverdue .. | .forcedTestTick .. | .testReq .. | .testReqForce ..
  | .watchdogExpiry .. | .overloadEnter .. | .overloadLeave .. | .poweredTimeSave | .eventRaised
  | .winCursor .. | .winData .. | .erClearLog .. | .erClearMirror .. | .mirrorWriteDone .. | .mirrorRetry
  | .queueItemWrite .. | .telemetryPeriod .. | .oqWin .. | .qFlush .. | .qFlushAll .. | .qFlushEffect ..
  | .pwrgdFall | .thermalTrip | .thermalTripEnd .. | .tempAlarm .. | .hbmOvertemp .. | .porstNAssertion
  | .twinHbOutToggle | .twinHbInEdge | .ldOwnxFall | .clampSenseTimeout .. | .hbCntTick | .tempAlarmClear .. => true

end Sys2Proof
end

