-- ==== Sys2Proof/Certificates/Slice0/Obligations.lean ====
section
/-!
DEFINITION. Statements about the model, each a rule or a group of rules of the spec.
-/
section
open Sys2Proof Sys2Proof.Machine


/-- One step is the command at the front of the queue run on the state with the queue's rest. On an empty queue the
block's own tick runs: the model's choice, log entry 1. -/
def Obligations.StepRunsTheFrontCommand : Prop :=
  ∀ s : State,
    (∀ c rest, s.pending = c :: rest → step s = exec c { s with pending := rest }) ∧
    (s.pending = [] → step s = .next s.tick.settle)

/-- After reset no command waits, nothing has been sent, every page's header and the fields named hold the values of
the Reset columns (R54, R62, R64, R89, R168, R254, R279, R322, R355, R420, R561, R591, R612), and no RDY bit reads 1. -/
def Obligations.ResetLeavesStatedValues : Prop :=
  let s := State.reset
  s.pending = [] ∧ s.out = [] ∧ s.Quiet ∧ s.regsWf = true ∧
  (∀ (page : Page) (p : PageRef), pageAt (pageBase page) = some p →
    let b := pageBase page
    s.fld b HDR.READY = 0 ∧ s.fld b HDR.DEGRADED = 0 ∧ s.fld b HDR.RETIRED = 0 ∧ s.fld b HDR.ENABLE = 1 ∧
    s.fld b HDR.QUIESCE = 0 ∧ s.fld b HDR.ISOLATE = 0 ∧ s.fld b HDR.SOFT_RESET = 0 ∧ s.fld b HDR.TEST_PERMIT = 1 ∧
    s.fld b HDR.ISTAT = 0 ∧ s.fld b HDR.PG_IEN = 0 ∧ s.fld b HDR.PG_ECNT_C = 0 ∧ s.fld b HDR.PG_ECNT_U = 0 ∧
    s.fld b HDR.LAST_ERR_VALID = 0 ∧ s.fld b HDR.OWN_SELF = 1 ∧ s.fld b HDR.OWN_TWIN = 0 ∧ s.fld b HDR.XFER_PENDING = 0 ∧
    s.fld b HDR.LOCK = 0 ∧ s.fld b HDR.PG_SEQ = 0) ∧
  (∀ x ∈ rdyOwners, s.flag rdyPage x.2 = false) ∧
  s.fld chipPage CHIP.CHIP_ID = 0x6633 ∧ s.fld chipPage CHIP.STATE = 1 ∧ s.fld chipPage CHIP.TEMP_ALARM = 0x2D0 ∧
  s.fld rdyPage RDY.SUMMARY_MASK = 0x8FF ∧ s.fld stebaroPage STEBARO.EN_M = 1 ∧ s.fld stebaroPage STEBARO.SB_IDLE_TMO = 300 ∧
  s.fld ctrlengPage CTRLENG.JUMP_CFG_BJ_MAX = 32 ∧
  (∀ w : WheelIx, s.fld (wheelPage w.val) WHEEL.TOL_CFG_FLY_STEPS = 6 ∧ s.fld (wheelPage w.val) WHEEL.SPD_MEAS_STALE = 1) ∧
  (∀ h : HeadIx, s.fld (headPage h.val) HEAD.CRC_CFG_RETRY_MAX = 8 ∧ s.fld (headPage h.val) HEAD.LINK_CTRL_AUTO_RETRAIN = 1) ∧
  s.fld firePage FIRE.RUN_MAX_S = 60 ∧ s.fld stripePage STRIPE.STG_CFG_STG_FULL = 95 ∧ s.fld outerPage OUTER.LADDER_TMO = 150 ∧
  s.fld erPage ER.WIN_STAT_EMPTY = 1 ∧ s.fld twPage TW.TW_CFG_AUTO_TAKE = 1 ∧ s.fld mcPage MC.WDT_CFG_OVL_ON = 90

/-- After every step each RDY_SYS bit that reads 1 has READY of the page that owns its function at 1 (R65). Which page
owns which bit is the model's reading, log entry 54; that a bit falls in the same step is within the 1 µs of R65. -/
def Obligations.EveryStepSettlesReadiness : Prop :=
 ∀ s t : State, step s = .next t → t.Quiet

/-- Every command whose operands have the lengths and ranges that the spec gives them runs to a next state, in every
state; no command is refused. -/
def Obligations.WellFormedCommandsRun : Prop :=
  ∀ (c : Instr) (s : State), (c.wf = true → ∃ t, exec c s = .next t) ∧ ∀ r, exec c s ≠ .refused r

/-- The checks of R60 in their order, field by field (R636): the first that fails refuses the write, PG_ISTAT bit 6 and
PG_LAST_ERR of the page addressed (CHIP for an address that is none) are set (R57), and no other register changes. Reads
pass check 1 only. -/
def Obligations.RefusedWritesChangeNothing : Prop :=
  ∀ (path : Path) (a : Nat) (v : Word) (s : State),
    s.pathLive path = true → s.transferring [(a, v.toNat)] = none → behind [(a, v.toNat)] s.arb.waiting = false →
    let xs := s.touched path a v.toNat
    let base := arbiterBase a
    let o := a - base
    let p : PageRef := (pageAt a).getD { kind := .chip, idx := 0, base := base }
    let touches : Prop := s.touchesWord a v.toNat = true ∨ xs ≠ []
    let refused (page cls : Nat) : Prop :=
      let keys := [HDR.ISTAT, HDR.LAST_ERR_CODE, HDR.LAST_ERR_CLASS, HDR.LAST_ERR_CELL, HDR.LAST_ERR_VALID].map fun f => fldKey page f 0
      ∃ t, exec (.registerWrite path a ⟨v, 0⟩) s = .next t ∧ t.out = s.out ++ [.writeDone path a cls] ∧
        t.fldBit page HDR.ISTAT 6 = true ∧ t.fld page HDR.LAST_ERR_CODE = 0 ∧ t.fld page HDR.LAST_ERR_CLASS = cls ∧
        t.fld page HDR.LAST_ERR_CELL = 0xFF ∧ t.flag page HDR.LAST_ERR_VALID = true ∧ t.words = s.words ∧
        ∀ k, k ∉ keys → k ∉ settleKeys → t.reg k = s.reg k
    let noPage : Prop := a % 4 ≠ 0 ∨ 2 ^ 24 ≤ a ∨ assigned a = false
    let noRole : Prop := s.roleOf path = some .observer ∨
      (s.roleOf path = some .operator ∧ ∃ x ∈ xs, operatorMay p v.toNat x = false)
    let locked : Prop := s.flag base HDR.LOCK = true ∧ s.roleOf path ≠ some .custodian ∧ touches ∧
      ¬(isWindow a = false ∧ (o = 0x10 ∨ o = 0x14))
    let trust : Prop := s.trustLocked = true ∧ ∃ x ∈ xs, effAcc p x = .rwl
    let twins : Prop := s.flag base HDR.OWN_TWIN = true ∧
      (s.touchesWord a v.toNat = true ∨ (xs ≠ [] ∧ (0x40 ≤ o ∨ o = 0x0C)))
    (noPage → refused chipPage 6) ∧
    (¬noPage → noRole → refused base 5) ∧
    (¬noPage → ¬noRole → locked → refused base 3) ∧
    (¬noPage → ¬noRole → ¬locked → trust → refused base 3) ∧
    (¬noPage → ¬noRole → ¬locked → ¬trust → twins → refused base 4) ∧
    (¬noPage → ∃ t, exec (.rcRegisterRead path a []) s = .next t ∧ t.out = s.out ++ [.readData path a (s.readWord path a).1]) ∧
    (noPage → ∃ t, exec (.rcRegisterRead path a []) s = .next t ∧ t.out = s.out ++ [.readData path a 0])

/-- PG_IEN, PG_LOCK and PG_ISTAT of every page: a write that passes its checks gives the field its new value or clears
the bits written 1 that the page has, counts once in PG_SEQ where an RW field changes (R54, R58), and changes nothing else.
A PG_ISTAT bit that hardware sets as the write clears it stays set (R13). -/
def Obligations.HeaderWritesChangeTheirFieldAlone : Prop :=
  ∀ (path : Path) (page : Page) (p : PageRef) (v : Word) (s : State), pageAt (pageBase page) = some p →
    let b := pageBase page
    let same (t : State) (fs : List Fld) : Prop :=
      (∀ k, k ∉ fs.map (fun f => fldKey b f 0) → k ∉ settleKeys → t.reg k = s.reg k) ∧
      t = { s with regs := t.regs, recd := t.recd, arb := t.arb, out := t.out }
    let counts (t : State) (changed : Prop) : Prop :=
      (changed → t.fld b HDR.PG_SEQ = (s.fld b HDR.PG_SEQ + 1) % 2 ^ 32) ∧ (¬changed → t.fld b HDR.PG_SEQ = s.fld b HDR.PG_SEQ)
    (s.Passes path (b + 0x14) v.toNat → ∃ t, exec (.registerWrite path (b + 0x14) ⟨v, 0⟩) s = .next t ∧
      t.fld b HDR.PG_IEN % 2 ^ 32 = v.toNat ∧ counts t (s.fld b HDR.PG_IEN % 2 ^ 32 ≠ v.toNat) ∧ same t [HDR.PG_IEN, HDR.PG_SEQ]) ∧
    (s.Passes path (b + 0x28) v.toNat → ∃ t, exec (.registerWrite path (b + 0x28) ⟨v, 0⟩) s = .next t ∧
      t.fld b HDR.LOCK % 2 = v.toNat % 2 ∧ counts t (s.fld b HDR.LOCK % 2 ≠ v.toNat % 2) ∧ same t [HDR.LOCK, HDR.PG_SEQ]) ∧
    (s.Passes path (b + 0x10) v.toNat → ∀ sets : Word, ∃ t, exec (.registerWrite path (b + 0x10) ⟨v, sets⟩) s = .next t ∧
      (∀ n < 32, bitOf (istatBits p.kind) n = true → b = rdyPage ∧ (n = 8 ∨ n = 9) ∨
        t.fldBit b HDR.ISTAT n = (s.fldBit b HDR.ISTAT n && !bitOf v.toNat n || bitOf sets.toNat n)) ∧
      counts t False ∧ same t [HDR.ISTAT])

/-- A session with the observer role changes no register and no window by any write (R87): only PG_ISTAT and PG_LAST_ERR
of the page addressed, and the counters of Stebaro, may move. -/
def Obligations.ObserversWriteNothing : Prop :=
  ∀ (sid : SessionIx) (s t : State), s.roleOf (.steb sid) = some .observer →
    let kept : Prop := t.words = s.words ∧ ∀ k, k / 32 % 0x1000 ≠ 0x10 → k / 32 % 0x1000 ≠ 0x20 →
      k ∉ ([STEBARO.SB_RX_CNT, STEBARO.SB_NAK_CNT, STEBARO.SB_DROP_CNT].map fun f => fldKey stebaroPage f 0) → k ∉ settleKeys →
      t.reg k = s.reg k
    (∀ (a : Nat) (v sets : Word), exec (.registerWrite (.steb sid) a ⟨v, sets⟩) s = .next t → kept) ∧
    (∀ (hdr : SbHeader) (pairs : List (Nat × Word)), exec (.sbWrite sid hdr pairs) s = .next t → kept) ∧
    (∀ (hdr : SbHeader) (values : List Word), exec (.writeBlock sid hdr values) s = .next t → kept)

/-- R83: the responses to the last 64 requests of a session are kept for 1 s; a request whose header equals that of a
kept request is a repeat whatever its payload, is not executed, and gets the kept response with FLAGS.REPLAYED set. -/
def Obligations.RepeatsAreNotExecutedAgain : Prop :=
  ∀ (sid : SessionIx) (s : State),
    (∀ (x : Session) (req : SbHeader) (status count short : Nat) (payload : List Nat), s.session sid.val = some x → x.kept.length ≤ 64 →
      ∃ (y : Session) (k : Kept), (s.sbRespond sid req status count payload short).session sid.val = some y ∧
        k.req = req ∧ k.payload = payload ∧ k.time = s.now ∧ y.kept.length ≤ 64 ∧
        y.kept = (if x.kept.length = 64 then x.kept.drop 1 else x.kept) ++ [k] ∧
        (s.sbRespond sid req status count payload short).out = s.out ++ [.sbDatagram sid (sbDatagram k.resp payload)]) ∧
    (∀ (x : Session) (k : Kept) (i : Instr), s.svc.held = .no → s.session sid.val = some x → k ∈ x.kept →
      s.now ≤ k.time + 1000000000 → (∀ j ∈ x.kept, j.req = k.req → j = k) →
      (∃ hdr addrs, k.req = { hdr with opcode := 1 } ∧ i = .sbRead sid hdr addrs) ∨
      (∃ hdr pairs, k.req = { hdr with opcode := 2 } ∧ i = .sbWrite sid hdr pairs) ∨
      (∃ hdr, k.req = { hdr with opcode := 3 } ∧ i = .readBlock sid hdr) ∨
      (∃ hdr values, k.req = { hdr with opcode := 4 } ∧ i = .writeBlock sid hdr values) ∨
      (∃ hdr, k.req = { hdr with opcode := 5 } ∧ i = .windowRead sid hdr) ∨
      (∃ hdr f, k.req = { hdr with opcode := 6 } ∧ i = .subscribe sid hdr f) ∨
      (∃ words, i = .badRequest sid k.req words) →
      ∃ t, exec i s = .next t ∧ t.out = s.out ++ [.sbDatagram sid (sbDatagram { k.resp with flags := k.resp.flags / 4 * 4 + k.resp.flags % 2 + 2 } k.payload)] ∧
        t.words = s.words ∧ ∀ key, key ≠ fldKey stebaroPage STEBARO.SB_NAK_CNT 0 → key ∉ settleKeys → t.reg key = s.reg key)

/-- R41: of the values written while a transfer is pending, the receiver sees the first and then the newest, and never
one that was replaced while it waited. -/
def Obligations.PendingUpdateIsTheNewest : Prop :=
  ∀ (x : Crossing) (s : State) (v : Nat) (before after : List Nat),
    let k := xingKey x
    let go (s : State) (cs : List Instr) : Option State := cs.foldl (fun o c => o.bind fun u => match exec c u with
      | .next t => some t
      | _ => none) (some s)
    (s.ctl k).resync = false → (s.ctl k).flight = none →
    ∃ t u w, go s ([.controlValueWrite x v] ++ before.map (.controlValueWrite x) ++ [.controlCapture x]) = some t ∧
      (t.ctl k).recv = v ∧ go t (after.map (.controlValueWrite x) ++ [.controlAckArrival x]) = some u ∧
      (u.ctl k).recv = v ∧ go u [.controlCapture x] = some w ∧
      match (before ++ after).getLast? with
      | none => (u.ctl k).flight = none ∧ (w.ctl k).recv = v
      | some n => (u.ctl k).flight = some (n, false) ∧ (u.ctl k).update = none ∧ (w.ctl k).recv = n

/-- R607: a write to Q_FLUSH marks the queue; while an item of it is being read the flush waits; at the boundary every
complete item is discarded, no gap marker is made, and what is written afterwards is kept. -/
def Obligations.FlushDiscardsCompleteItems : Prop :=
  ∀ (q : QueueIx) (s : State),
    (∀ path, s.Passes path (obsqPage + 0x58) q.val → ∃ t, exec (.qFlush path q) s = .next t ∧
      (t.oqueue q.val).flush = true ∧ (t.oqueue q.val).items = (s.oqueue q.val).items) ∧
    ((s.oqueue q.val).flush = true → s.oqInProgress q.val = true → exec (.qFlushEffect q) s = .next s.settle) ∧
    ((s.oqueue q.val).flush = true → s.oqInProgress q.val = false →
      ∃ t, exec (.qFlushEffect q) s = .next t ∧ (t.oqueue q.val).items = [] ∧ (t.oqueue q.val).flush = false ∧
        (t.oqueue q.val).nextQseq = (s.oqueue q.val).nextQseq ∧ (∀ p, p ≠ q.val → t.oqueue p = s.oqueue p) ∧
        t.oq.waiting = s.oq.waiting ∧ t.oq.reading = s.oq.reading ∧ t.fldBit obsqPage HDR.ISTAT 10 = true ∧
        (∀ k, k ≠ fldKey obsqPage HDR.ISTAT 0 → k ∉ settleKeys → t.reg k = s.reg k) ∧
        (∀ i, s.oq.waiting.find? (fun x => x.1 == q.val) = some (q.val, i) → t.cfg obsqPage OBSQ.Q_CFG_ENABLE q.val ≠ 0 →
          t.itemFits (t.oqueue q.val) i.len = true →
          ∃ u pos, exec (.queueItemWrite q) t = .next u ∧
            (u.oqueue q.val).items = [{ i with qseq := (s.oqueue q.val).nextQseq, pos := pos }]))

/-- R595: an event identical to the newest record, the time apart, is not stored; REPEAT of that record rises by 1 up to
0xFFFF, LAST_TIME takes the event's time, FOLD_CNT counts, and a mirrored record's copy is due for renewal. -/
def Obligations.IdenticalEventsFold : Prop :=
  ∀ (s : State) (e : Event) (rest : List Event) (old : List Record) (r : Record), s.recd.raised = e :: rest → s.recd.log = old ++ [r] →
    { r.ev with time := e.time } = e →
    ∃ t, exec .eventRaised s = .next t ∧ t.recd.nextSeq = s.recd.nextSeq ∧
      (∃ n, t.recd.log = old ++ [n] ∧ n.seq = r.seq ∧ n.ev = r.ev ∧ n.rep = min 0xFFFF (r.rep + 1) ∧ n.lastTime = e.time ∧
        n.mirrored = r.mirrored) ∧
      t.fld erPage ER.FOLD_CNT = min (2 ^ 32 - 1) (s.fld erPage ER.FOLD_CNT + 1) ∧
      (let due := r.mirrored = true ∨ ∃ y ∈ s.recd.mirrorQ, y.seq = r.seq
       (due → ∃ n ∈ t.recd.log.getLast?, n ∈ t.recd.mirrorQ) ∧ (¬due → t.recd.mirrorQ = s.recd.mirrorQ)) ∧
      t.words = s.words ∧ t.sess = s.sess ∧
      ∀ k, k ≠ fldKey erPage ER.FOLD_CNT 0 → k ∉ settleKeys → t.reg k = s.reg k

/-- R597: an event for which the records that may be removed (R596) cannot free enough units is dropped: it takes no
sequence number, DROP_CNT counts it, PG_ISTAT bit 9 is set, every record held stays, and the drop raises no event. -/
def Obligations.DropsKeepTheLog : Prop :=
  ∀ (s : State) (e : Event) (rest : List Event), s.recd.raised = e :: rest →
    (∀ r, s.recd.log.getLast? = some r → { r.ev with time := e.time } ≠ e) →
    let removable := s.recd.log.filter fun r => decide (r.ev.sev ≤ e.sev) && !s.beingRead r
    (logUnits - unitsUsed s.recd.log) + unitsUsed removable < e.units →
    let t : State := { s with recd := { s.recd with raised := rest } }
    ∃ u, exec .eventRaised s = .next u ∧
      u = ((t.count erPage ER.DROP_CNT).istat erPage 9).settle ∧ u.recd.log = s.recd.log ∧ u.recd.nextSeq = s.recd.nextSeq ∧
      u.recd.mirror = s.recd.mirror ∧ u.recd.mirrorQ = s.recd.mirrorQ ∧
      u.fld erPage ER.DROP_CNT = min (2 ^ 32 - 1) (s.fld erPage ER.DROP_CNT + 1) ∧ u.fldBit erPage HDR.ISTAT 9 = true ∧
      ∀ k, k ≠ fldKey erPage ER.DROP_CNT 0 → k ≠ fldKey erPage HDR.ISTAT 0 → k ∉ settleKeys → u.reg k = s.reg k

/-- The header codeword of a block (R113, R115): decoding an encoded header gives every field back, at every value that
its width admits, and a reader at the block's address accepts it. -/
def Obligations.BlockHeadersRoundTrip : Prop :=
  ∀ h : BlockHeader,
    h.kind < 2 ^ 8 → h.flags < 2 ^ 16 → h.discId < 2 ^ 64 → h.pba < 2 ^ 32 → h.homePba < 2 ^ 32 → h.loadId < 2 ^ 64 →
    h.nsid < 2 ^ 32 → h.zone < 2 ^ 16 → h.lane < 2 ^ 8 → h.position < 2 ^ 8 → h.stripe < 2 ^ 32 → h.width < 2 ^ 8 →
    h.member < 2 ^ 8 → h.generation < 2 ^ 32 → h.nonce < 2 ^ 96 → h.tag < 2 ^ 128 → h.lbaFirst < 2 ^ 64 →
    h.journalPtr.length = 16 → h.metadata.length = 256 →
    (headerBytes h).length = 4096 ∧ headerOf (headerBytes h) = h ∧ headerOk (headerBytes h) h.pba = true

/-- Places on a disc (R93-R96, R109, R116, R130): each setting of a layer has one band and angle and one place in the
layer's recording order, a zone's settings are its own, and each segment position holds one piece of one slot. -/
def Obligations.DiscPlacesAreOneToOne : Prop :=
  (∀ layer g blk : Nat, layer < layersPerDisc → g < settingsPerLayer → blk < 4 →
    bandOfSetting g < bandsPerLayer ∧ settingAt (bandOfSetting g) (angleOfSetting g) = g ∧
    angleOfSetting g < ringS (ringOfBand (bandOfSetting g)) ∧
    recordingPos layer g < settingsPerLayer ∧ settingAtPos layer (recordingPos layer g) = g ∧
    pbaLayer (pbaOf layer g blk) = layer ∧ pbaSetting (pbaOf layer g blk) = g ∧ pbaBlock (pbaOf layer g blk) = blk ∧
    (g < 5824 → zoneOfSetting layer g = none) ∧
    (5824 ≤ g → ∃ z i, zoneOfSetting layer g = some (z, i) ∧ z < zonesPerLane ∧ i < settingsPerZone ∧ zoneLayer z = layer ∧
      zoneSetting z i = g)) ∧
  (∀ c b : Nat, c < 72 → b < 16 → piecePos c b < 72 ∧ slotAtPos (piecePos c b) b = c) ∧
  (∀ p b : Nat, p < 72 → b < 16 → slotAtPos p b < 72 ∧ piecePos (slotAtPos p b) b = p)

/-- Frames of the crossings, the frame lock of a link's lanes and the echo (R39-R43, R140, R168): what these commands leave
unchanged. Settling (R65) may touch RDY_SYS, its PG_ISTAT and its event after any command. -/
def Obligations.CrossingAndLaneFrames : Prop :=
  ∀ (c : Instr) (s t : State), exec c s = .next t →
    (∀ x, (c = .controlCapture x ∨ c = .controlAckArrival x ∨ c = .dataItemReadable x ∨ (∃ v, c = .controlValueWrite x v) ∨
        (∃ v, c = .dataItemWrite x v) ∨ (∃ k sides, c = .resyncEntry x k sides) ∨ ∃ k, c = .resyncHandshakeDone x k) →
      let counted := [REGION.RG_XING_DROP, REGION.RG_RESYNC_CNT].map fun f => fldKey (regionPage (islandRegion x.dst.val)) f 0
      t = { s with regs := t.regs, recd := t.recd, arb := t.arb } ∧ (∀ k, k ∉ counted → k ∉ settleKeys → t.reg k = s.reg k) ∧
      (∀ k, k ≠ xingKey x → t.ctl k = s.ctl k ∧ t.dat k = s.dat k) ∧ t.arb.waiting = s.arb.waiting) ∧
    (∀ h lane, (c = .frameLockGained h lane ∨ c = .frameLockLost h lane) →
      t = { s with regs := t.regs, recd := t.recd, arb := t.arb, links := t.links } ∧
      (∀ k, k ∉ settleKeys → t.reg k = s.reg k) ∧
      (∀ g, g ≠ h.val → t.link g = s.link g) ∧ ∀ i, i ≠ lane.val → t.lane h.val i = s.lane h.val i) ∧
    (∀ h tag elapsed turnaround, c = .echoRsp h tag elapsed turnaround →
      t = { s with regs := t.regs, recd := t.recd, arb := t.arb } ∧
      ∀ k, k ≠ fldKey (headPage h.val) HEAD.LAT_RTT 0 → k ∉ settleKeys → t.reg k = s.reg k)

/-- Frames of the recorder, the queues and the subscriptions (R86, R592-R607): what these commands leave unchanged. -/
def Obligations.RecorderQueueAndSessionFrames : Prop :=
  ∀ (c : Instr) (s t : State), exec c s = .next t →
    let dropKey := fldKey stebaroPage STEBARO.SB_EVT_DROP 0
    ((c = .eventRaised ∨ c = .mirrorRetry ∨ ∃ ok, c = .mirrorWriteDone ok) →
      t = { s with regs := t.regs, recd := t.recd, arb := t.arb, sess := t.sess } ∧
      ∀ k, (k / 32) / 0x1000 ≠ erPage / 0x1000 → k ≠ dropKey → k ∉ settleKeys → t.reg k = s.reg k) ∧
    (∀ q, (c = .queueItemWrite q ∨ c = .qFlushEffect q ∨ c = .telemetryPeriod q) →
      t = { s with regs := t.regs, recd := t.recd, arb := t.arb, sess := t.sess, oq := t.oq, freeCount := t.freeCount,
                   mem := { s.mem with words := t.mem.words, cache := t.mem.cache, evb := t.mem.evb } } ∧
      (let area := queueArea + 65536 * q.val
       ∀ a, (∀ b, area ≤ b → b < area + 65536 → s.translate a / 256 ≠ s.translate b / 256) → t.hbmWord a = s.hbmWord a) ∧
      (∀ p, p ≠ q.val → t.oqueue p = s.oqueue p) ∧ t.oq.reading = s.oq.reading ∧ t.recd.log = s.recd.log ∧
      ∀ k, (k / 32) / 0x1000 ≠ obsqPage / 0x1000 → k ≠ dropKey → k ∉ settleKeys → t.reg k = s.reg k) ∧
    (∀ sid : SessionIx, (c = .eventSend sid ∨ (∃ tag, c = .eventAck sid tag) ∨ (∃ tag, c = .eventNak sid tag) ∨
        ∃ tag, c = .eventResend sid tag) →
      t = { s with regs := t.regs, recd := t.recd, arb := t.arb, sess := t.sess, out := t.out } ∧
      (∀ i, i ≠ sid.val → t.session i = s.session i) ∧ t.roleOf (.steb sid) = s.roleOf (.steb sid) ∧
      ∀ k, k ∉ settleKeys → t.reg k = s.reg k)

/-- R63: a read of TIME_LO latches TIME_HI for its own path and leaves every other path's latch; a read of TIME_HI then
returns the latch of its path, whatever other paths have read between, so that the two words are one time. -/
def Obligations.TimeReadsLatchPerPath : Prop :=
  let latch (u : State) (path : Path) : Nat := storeFind (fun _ => 0) u.arb.latches (pathKey path)
  ∀ (path : Path) (s : State), s.pathLive path = true →
    ∃ t, exec (.timeLoRead path) s = .next t ∧
      t.out = s.out ++ [.readData path (chipPage + 0x54) (s.now % 2 ^ 32)] ∧ latch t path = s.now / 2 ^ 32 % 2 ^ 32 ∧
      (∀ other : Path, other ≠ path → latch t other = latch s other) ∧ (∀ k, k ∉ settleKeys → t.reg k = s.reg k) ∧
      ∀ u : State, u.pathLive path = true → latch u path = latch t path →
        ∃ w, exec (.rcRegisterRead path (chipPage + 0x58) []) u = .next w ∧ w.arb.latches = u.arb.latches ∧
          w.out = u.out ++ [.readData path (chipPage + 0x58) (s.now / 2 ^ 32 % 2 ^ 32)]

/-- The sequencer's motion commands (R311, R312, R314-R316). A jump to another layer first fills the slot of its start values (R211),
and the hypotheses are about the state that this leaves; a read that the motion cuts off ends (R219).
The sequencer's other commands (R311, R318, R319): what runs may be held or parked; a command that is not defined
is refused with CLASS 8 and result 11. -/
def Obligations.SequencerCommands : Prop :=
  (∀ (path : Path) (h : HeadIx) (s : State),
      let a := ctrlengPage + 0x60
      let free (t : State) : Prop := (t.seq h.val).op = 0 ∧ t.accepts ctrlengPage = true ∧ t.headObeys h.val = true
      (∀ (layer : Fin 16) (band : Fin 16384), layer.val ≤ 9 → band.val < bandsPerLayer →
        let arg := layer.val + band.val * 2 ^ 4
        (free (s.prepareJump h.val 1 arg) → s.Passes path a (seqWordOf h.val 1 arg) →
          exec (.seqAcquire path h layer band) s =
            answered path a ((((s.prepareJump h.val 1 arg).seqRead h.val).startAcquire h.val layer.val band.val 0).abortGo h.val)) ∧
        (free (s.prepareJump h.val 2 arg) → s.Passes path a (seqWordOf h.val 2 arg) →
          exec (.layerJump path h layer band) s =
            answered path a ((((s.prepareJump h.val 2 arg).seqRead h.val).startLayerJump h.val layer.val band.val).abortGo h.val))) ∧
      (∀ bands : BitVec 20, free s → bands.toInt.natAbs ≤ s.cfgIn ctrlengPage CTRLENG.JUMP_CFG_BJ_MAX 1 63 →
        s.Passes path a (seqWordOf h.val 3 bands.toNat) →
          exec (.bandJump path h bands) s = answered path a (((s.seqRead h.val).startBandJump h.val bands.toInt).abortGo h.val)) ∧
      (∀ band : Fin 16384, free s → band.val < bandsPerLayer → s.flag (axisBlock h.val) AXIS.AX_STAT_REFD = true →
        s.Passes path a (seqWordOf h.val 4 band.val) →
          exec (.seqSeek path h band) s = answered path a (((s.seqRead h.val).startBandSeek h.val band.val).abortGo h.val)) ∧
      (∀ (kind : Fin 8) (value : BitVec 8), free s → 1 ≤ kind.val → kind.val ≤ 3 →
        s.Passes path a (seqWordOf h.val 5 (kind.val + value.toNat * 2 ^ 4)) →
          exec (.seqStep path h kind value) s =
            answered path a (((s.seqRead h.val).startStep h.val kind.val value.toInt).abortGo h.val))) ∧
  (∀ (path : Path) (h : HeadIx) (s : State),
      let a := ctrlengPage + 0x60
      (s.Passes path a (seqWordOf h.val 6 0) → exec (.seqHold path h) s = answered path a ((s.holdHead h.val).abortGo h.val)) ∧
      (s.headObeys h.val = true → s.Passes path a (seqWordOf h.val 8 0) →
        exec (.seqPark path h) s = answered path a ((s.parkNow h.val).abortGo h.val)) ∧
      ((s.seq h.val).op = 0 → s.accepts ctrlengPage = true →
        (s.headObeys h.val = true → s.Passes path a (seqWordOf h.val 7 0) →
          exec (.seqResume path h) s = answered path a ((s.resumeHead h.val).abortGo h.val)) ∧
        (s.Passes path a (seqWordOf h.val 9 0) →
          exec (.seqExport path h) s = answered path a ((s.setSeq h.val { s.seq h.val with op := 9, phase := .exporting }).abortGo h.val)) ∧
        (s.Passes path a (seqWordOf h.val 10 0) →
          exec (.seqImport path h) s = answered path a (((s.importHead h.val).refreshHead h.val).abortGo h.val))) ∧
      (∀ (k : Fin 64) (op : Fin 16) (arg : BitVec 20), op.val = 0 ∨ 10 < op.val →
        s.pathLive path = true → s.transferring [(a, seqWordOf k.val op.val arg.toNat)] = none →
        behind [(a, seqWordOf k.val op.val arg.toNat)] s.arb.waiting = false →
        s.checkWrite path a (seqWordOf k.val op.val arg.toNat) = some 8 →
          exec (.seqCmdUndefined path k op arg) s =
            .next (((s.refuse ctrlengPage 8).seqResult k.val op.val 11).send (.writeDone path a 8)).settle))

/-- Swaps, enables, traces and the windows (R69, R70, R262, R277, R300, R301, R322). -/
def Obligations.EngineRegisterCommands : Prop :=
  ∀ (path : Path) (s : State),
    (∀ (k : Fin 6) (mask : Word), s.Passes path (ctrlengPage + 0x68 + 4 * k.val) mask.toNat →
      exec (.swapReq path k mask) s = answered path (ctrlengPage + 0x68 + 4 * k.val) (s.swapMask k.val mask.toNat)) ∧
    (∀ (h : Fin 64) (slots : Fin 32), s.Passes path (ctrlengPage + 0xD4) (h.val + slots.val * 2 ^ 8) →
      exec (.swapHead path h slots) s = answered path (ctrlengPage + 0xD4) (s.swapHead h.val slots.val)) ∧
    (∀ (k : Fin 6) (mask : Word), s.Passes path (ctrlengPage + 0x80 + 4 * k.val) mask.toNat →
      exec (.slotEn path k mask) s = answered path (ctrlengPage + 0x80 + 4 * k.val)
        ((s.put path (ctrlengPage + 0x80 + 4 * k.val) mask.toNat).applySlotEn k.val (s.fld ctrlengPage CTRLENG.SLOT_EN k.val) mask.toNat)) ∧
    (∀ (slot : SlotIx) (what : Fin 4),
      let v := slot.val + what.val * 2 ^ 8 + 2 ^ 10
      s.hits path (ctrlengPage + 0xCC) v CTRLENG.TRACE_CFG_START = true → s.Passes path (ctrlengPage + 0xCC) v →
      exec (.traceStart path slot what) s = answered path (ctrlengPage + 0xCC)
        (((s.put path (ctrlengPage + 0xCC) v).setFlag ctrlengPage CTRLENG.TRACE_CFG_START true).traceStart)) ∧
    (∀ (addr : Nat) (value : Word), s.Passes path addr value.toNat →
      let t := (s.writeWord path addr value.toNat).pulsesWritten [addr]
      (0x100000 ≤ addr → addr < 0x200000 → exec (.ceMemoryWrite path addr value) s = answered path addr t) ∧
      (0x200000 ≤ addr → addr < 0x300000 → exec (.tableWindowWrite path addr value) s = answered path addr t) ∧
      (isWindow addr = true → (fieldsAt addr).isEmpty = true → windowMask addr ≠ 0 →
        s.writeWord path addr value.toNat = s.setWord addr (maskIn (s.word addr) value.toNat (windowMask addr)))) ∧
    (∀ mask : Word, s.Passes path (firePage + 0x14) mask.toNat →
      exec (.calReq path false mask) s =
        answered path (firePage + 0x14) (s.calRequest ((List.range 32).filter fun h => bitOf mask.toNat h))) ∧
    (∀ mask : Word, s.Passes path (firePage + 0x18) mask.toNat →
      exec (.calReq path true mask) s =
        answered path (firePage + 0x18) (if bitOf mask.toNat 0 then s.calRequest [32] else s)) ∧
    (∀ mask : Word, s.Passes path (firePage + 0x1C) mask.toNat →
      exec (.wrRetire path false mask) s = answered path (firePage + 0x1C)
        ((s.put path (firePage + 0x1C) mask.toNat).wrRetireWritten ((List.range 32).map fun h => (h, bitOf mask.toNat h)))) ∧
    (∀ mask : Word, s.Passes path (firePage + 0x20) mask.toNat →
      exec (.wrRetire path true mask) s = answered path (firePage + 0x20)
        ((s.put path (firePage + 0x20) mask.toNat).wrRetireWritten [(32, bitOf mask.toNat 0)]))

/-- The wheel's commands (R332, R336, R343-R345, R349, R350, R352).
The axes' commands (R360, R364, R366, R373, R375, R376) and a head's link (R144, R166). What was written to an axis that stands
takes effect with HOME (R355). -/
def Obligations.WheelAndAxisRegisterCommands : Prop :=
  (∀ (path : Path) (w : WheelIx) (s : State),
      let p := wheelPage w.val
      let a := p + 0x74
      let x := s.wheel w.val
      (∀ rpm : Fin 16384, s.Passes path (p + 0x4C) rpm.val →
        exec (.spdCmd path w rpm) s = answered path (p + 0x4C) ((s.put path (p + 0x4C) rpm.val).spdWritten w.val)) ∧
      (s.whOwns w.val = true → s.flag p WHEEL.WH_STAT_REST_OK = true → s.whState w.val = whRest →
        (wheelHeads w.val).all (fun h => s.headParked h) = true → s.Passes path a 1 →
          exec (.wheelRelease path w) s = answered path a ((s.setWheel w.val { x with release := true, phaseAt := s.now }).whResult w.val 1 1)) ∧
      (s.Passes path a 2 → exec (.wheelClamp path w) s =
        answered path a
          ((((s.setWheel w.val { x with release := false, clampAt := s.now }).setFlag p WHEEL.WH_STAT_REL_OUT false).whResult w.val 2 0).relConf w.val 3)) ∧
      (s.whState w.val = whFault → s.flag p WHEEL.WH_STAT_REST_OK = true → s.Passes path a 3 →
        exec (.clearFault path w) s = answered path a
          ((((s.setFld p WHEEL.WH_STAT_FAULT_CAUSE 0).setFld p WHEEL.WH_STAT_CATCH_FAILS 0).setWhState w.val whRest).whResult w.val 3 0)) ∧
      (s.whOwns w.val = true → s.whState w.val = whRunning → x.episode = false → s.Passes path a 4 →
        exec (.handoverRel path w) s = answered path a ((s.setWheel w.val { x with atComm := .release }).whResult w.val 4 1)) ∧
      (s.flag p WHEEL.WH_STAT_SHADOW_VALID = true → s.Passes path a 5 →
        exec (.handoverArm path w) s = answered path a ((s.setWheel w.val { x with armed := true }).whResult w.val 5 0)) ∧
      (s.Passes path a 6 →
        exec (.wheelDisarm path w) s = answered path a ((s.setWheel w.val { x with armed := false }).whResult w.val 6 0)) ∧
      (s.whOwns w.val = true → s.whState w.val = whRunning → s.Passes path a 7 →
        exec (.wheelCoast path w) s =
          let t := ((s.parkHeads w.val).clearAtSpeed w.val).whResult w.val 7 0
          answered path a (t.setWheel w.val { t.wheel w.val with atComm := .coast }))) ∧
  (∀ (path : Path) (s : State),
      let a := motionPage + 0x4C
      (∀ (nax : Fin 4) (x y z : Fin 64), 1 ≤ nax.val →
        let as := [x.val, y.val, z.val].take nax.val
        let ts := [s.fldS motionPage MOTION.MV_TGT 0, s.fldS motionPage MOTION.MV_TGT 1, s.fldS motionPage MOTION.MV_TGT 2].take nax.val
        (s.axesApply (as.filter fun b => !s.axMoving b)).moveCheck as ts = 0 → s.Passes path a (mvWordOf 1 nax.val x.val y.val z.val) →
        exec (.axisMove path nax x y z) s = answered path a (s.mvMove as ts)) ∧
      (∀ x : Fin 38, s.axOwned x.val = true →
        let k : Fin 64 := ⟨x.val, by omega⟩
        (let t := s.axesApply [x.val]
         s.axMoving x.val = false → t.axOwned x.val = true → t.axMoving x.val = false → t.accepts motionPage = true → t.profileOk x.val = true →
          (isLoader x.val = true → t.homeInterlockOk x.val = true ∧ t.flag loaderPage LOADER.LD_STAT_G_HOLD = false) →
          s.Passes path a (mvWordOf 2 1 x.val 0 0) →
            exec (.axisHome path k) s = answered path a (((t.mvResult x.val 2 0).interlockRefused 0).beginHome x.val)) ∧
        (s.Passes path a (mvWordOf 3 1 x.val 0 0) →
          exec (.axisStop path k) s = answered path a ((s.mvResult x.val 3 0).stopAxis x.val 0)) ∧
        (s.Passes path a (mvWordOf 4 1 x.val 0 0) →
          exec (.axisDisable path k) s = answered path a ((s.mvResult x.val 4 0).disableAxis x.val)) ∧
        (s.axMoving x.val = false → s.Passes path a (mvWordOf 5 1 x.val 0 0) →
          exec (.setPos path k) s = answered path a
            (((s.mvResult x.val 5 0).clearAxFault x.val).setAxPos x.val (s.fldS motionPage MOTION.MV_TGT 0)))) ∧
      (s.Passes path (motionPage + 0x6C) 1 → exec (.stopAll path) s = answered path (motionPage + 0x6C) s.stopAll) ∧
      (∀ target : Fin 8, s.Passes path (kickPage + 0x44) target.val →
        exec (.elvCmd path target) s = answered path (kickPage + 0x44)
          (s.elvCmd target.val (decide (s.seqState 32 = sqParked)))) ∧
      (∀ (h : HeadIx) (n : Fin 16),
        let b := headPage h.val + 0x44
        let w := s.shownWord path b
        let v := w - w / 2 ^ 4 % 16 * 2 ^ 4 + n.val * 2 ^ 4
        s.hits path b v HEAD.LINK_CTRL_FORCE_POS = true → s.hits path b v HEAD.LINK_CTRL_RETRAIN = false → s.Passes path b v →
        v / 2 ^ 4 % 16 = n.val → exec (.forcePos path h n) s = answered path b ((s.put path b v).forcePos h.val n.val)) ∧
      (∀ h : HeadIx,
        let b := headPage h.val + 0x44
        let v := setBit (s.shownWord path b) 0 true
        s.hits path b v HEAD.LINK_CTRL_FORCE_POS = false → s.hits path b v HEAD.LINK_CTRL_RETRAIN = true → s.Passes path b v →
        exec (.linkRetrain path h) s = answered path b ((s.put path b v).retrain h.val)))

/-- Stripes and memory (R409-R414, R432, R433, R450). -/
def Obligations.StripeAndMemoryRegisterCommands : Prop :=
  ∀ (path : Path) (s : State),
    let r := stripePage + 0x5C
    let m := setterPage + 0x78
    (∀ (pos : PosIx) (relocate : Bool),
      let op := if relocate then 2 else 1
      s.Passes path r (pos.val + op * 2 ^ 4) →
        exec (.rethrowStart path pos relocate) s = answered path r (s.rtStart pos.val op)) ∧
    (s.Passes path r (3 * 2 ^ 4) → exec (.rethrowAbort path) s = answered path r s.rtAbort) ∧
    (∀ (bySw : Bool) (set : Fin 8192) (way : Fin 16),
      let does (op : Nat) (c : Instr) : Prop :=
        s.Passes path m (maintWordOf op bySw set.val way.val) → exec c s = answered path m (s.maintCmd op bySw set.val way.val)
      does 1 (.cleanLine path bySw set way) ∧ does 2 (.invalidateLine path bySw set way) ∧
      does 3 (.cleanInvalidate path bySw set way) ∧ does 4 (.zeroLine path bySw set way)) ∧
    (s.Passes path m 5 → exec (.cleanAll path) s = answered path m (s.maintCmd 5 false 0 0)) ∧
    (s.Passes path m 6 → exec (.cleanInvalidateAll path) s = answered path m (s.maintCmd 6 false 0 0)) ∧
    (s.Passes path (ecctabPage + 0x60) 1 → exec (.ectClear path) s = answered path (ecctabPage + 0x60) (s.ectClear))

/-- TRUST_CMD and KEY_FLUSH (R510, R512, R514, R526, R535, R536).
Handover, registration, shelf power, staging and test commands (R549, R554-R557, R580). -/
def Obligations.TrustAndTwinRegisterCommands : Prop :=
  (∀ (path : Path) (s : State),
      let a := tePage + 0x58
      (s.Passes path a 0x4C4B → exec (.trustLock path) s = answered path a s.trustLock) ∧
      (s.Passes path a 0x5356 → exec (.svnCommit path) s = answered path a s.svnCommit) ∧
      (s.Passes path a 0x4C56 → exec (.trustLeave path) s = answered path a (s.zeroise.trustResult 0)) ∧
      (s.flag tePage TE.TE_STAT_ENROLLED = false → s.te.healthOk = true → s.Passes path a 0x4443 →
        exec (.domainCreate path) s =
          let d := s.random 32
          let i := d.2.random 8
          answered path a ((i.2.joinDomain d.1 i.1).trustResult 0)) ∧
      (s.Passes path (mediacryptPage + 0x5C) 1 →
        exec (.keyFlush path) s = answered path (mediacryptPage + 0x5C) (s.setSlots []))) ∧
  (∀ (path : Path) (s : State),
      (∀ tok : Fin 64, s.Passes path (twPage + 0x5C) (tok.val + 2 ^ 8) →
        exec (.hoGive path tok) s = answered path (twPage + 0x5C) (s.hoGive tok.val)) ∧
      (∀ tok : Fin 64, s.Passes path (twPage + 0x5C) (tok.val + 2 * 2 ^ 8) →
        exec (.hoReturn path tok) s = answered path (twPage + 0x5C) (s.hoReturn tok.val)) ∧
      (∀ value : Word, s.Passes path (hyPage + 0x58) value.toNat →
        exec (.regAck path value) s = answered path (hyPage + 0x58) s.regAck) ∧
      (∀ shelf : Fin 64, s.activeMgr = true →
        (s.Passes path (hyPage + 0x94) (shelf.val + 2 ^ 8) →
          exec (.pwrCmdOn path shelf) s = answered path (hyPage + 0x94) (s.powerOn shelf.val)) ∧
        (s.Passes path (hyPage + 0x94) (shelf.val + 2 * 2 ^ 8) →
          exec (.pwrCmdSoftOff path shelf) s = answered path (hyPage + 0x94) (s.powerSoftOff shelf.val)) ∧
        (s.Passes path (hyPage + 0x94) (shelf.val + 3 * 2 ^ 8) →
          exec (.pwrCmdPowerCycle path shelf) s = answered path (hyPage + 0x94) (s.powerCycle shelf.val))) ∧
      (∀ value : Word, s.Passes path (hyPage + 0x78) value.toNat →
        exec (.stageReq path value) s = answered path (hyPage + 0x78) ((s.put path (hyPage + 0x78) value.toNat).stageReq)) ∧
      (∀ (test : Fin 16) (page : Fin 4096) (cell : Fin 256),
        let v := test.val + page.val * 2 ^ 4 + cell.val * 2 ^ 16
        (s.Passes path (stPage + 0x4C) v →
          exec (.testReq path test page cell) s = answered path (stPage + 0x4C) (s.testReq test.val page.val cell.val false)) ∧
        (s.Passes path (stPage + 0x4C) (v + 2 ^ 24) →
          exec (.testReqForce path test page cell) s = answered path (stPage + 0x4C) (s.testReq test.val page.val cell.val true))))

/-- The mailbox (R513, R535): a message is one write of MBOX_IN and GO; the management cores then take it by its
type. -/
def Obligations.MailboxCommandsReachTheirMessage : Prop :=
  (∀ (path : Path) (body : List Nat) (s : State),
    let ws (ty : Nat) : List (Nat × Nat) :=
      (((wordsLE (mboxMsg ty body)).take 256).zipIdx.map fun x => (tePage + 0x800 + 4 * x.2, x.1))
    let sent (ty : Nat) (c : Instr) : Prop :=
      s.pathLive path = true → s.transferring (ws ty ++ [(tePage + 0x100, 1)]) = none →
      behind (ws ty ++ [(tePage + 0x100, 1)]) s.arb.waiting = false →
      s.firstFault path 0 (ws ty ++ [(tePage + 0x100, 1)]) = none →
        exec c s = answered path (tePage + 0x800) ((s.writeWords path (ws ty)).writeWord path (tePage + 0x100) 1)
    sent 0x0001 (.enrolOffer path body) ∧ sent 0x0003 (.drkWrap path body) ∧ sent 0x0010 (.pskAdd path body) ∧
    sent 0x0011 (.pskDel path body) ∧ sent 0x0020 (.nskeyRestore path body) ∧ sent 0x0021 (.eraseConfirm path body)) ∧
  (∀ (u : State) (peer body rest : List Nat), body.length ≤ 1020 →
    let holds (ty : Nat) : Prop :=
      ((List.range 256).flatMap fun i => bytesLE 4 (u.fld tePage TE.MBOX_IN i)) = mboxMsg ty body ++ rest
    (holds 0x0001 → u.mboxGo peer = u.mboxOffer peer body) ∧ (holds 0x0003 → u.mboxGo peer = u.mboxWrap body) ∧
    (holds 0x0010 → u.mboxGo peer = u.mboxPsk body) ∧ (holds 0x0011 → u.mboxGo peer = u.mboxPskDel body) ∧
    (holds 0x0020 → u.mboxGo peer = u.mboxRestore body) ∧ (holds 0x0021 → u.mboxGo peer = u.mboxErase body))

/-- The recorder's, the queues' and the shard window's registers (R63, R231, R598-R600, R606, R607, R609). -/
def Obligations.WindowAndFlushCommands : Prop :=
  ∀ (path : Path) (s : State),
    (∀ seq : Word, s.Passes path (erPage + 0x60) seq.toNat →
      exec (.winCursor path seq) s =
        answered path (erPage + 0x60) ((s.put path (erPage + 0x60) seq.toNat).moveCursor (pathKey path) seq.toNat)) ∧
    (s.Passes path (erPage + 0x74) 0x0000C1EA →
      exec (.erClearLog path) s = answered path (erPage + 0x74) (s.clearLog false)) ∧
    (s.Passes path (erPage + 0x74) 0x0001C1EA →
      exec (.erClearMirror path) s = answered path (erPage + 0x74) (s.clearLog true)) ∧
    (∀ q : QueueIx, s.Passes path (obsqPage + 0x58) q.val →
      exec (.qFlush path q) s = answered path (obsqPage + 0x58) (s.requestFlush q.val)) ∧
    (s.Passes path (obsqPage + 0x58) (2 ^ 6) →
      exec (.qFlushAll path) s = answered path (obsqPage + 0x58) (s.forEach (List.range 64) State.requestFlush)) ∧
    (∀ n : Fin 65536, s.Passes path (outerPage + 0xC4) n.val →
      exec (.shardIdx path n) s = answered path (outerPage + 0xC4) ((s.put path (outerPage + 0xC4) n.val).shardSelect n.val)) ∧
    (s.pathLive path = true →
      let sent (a v : Nat) (t : State) : Res := .next (t.send (.readData path a v)).settle
      exec (.winData path) s =
        sent (erPage + 0x64) (s.readWinData (pathKey path)).1 (s.readWinData (pathKey path)).2.2 ∧
      exec (.oqWin path) s =
        sent (obsqPage + 0x50) (s.readOqWin (pathKey path)).1 (s.readOqWin (pathKey path)).2.2 ∧
      exec (.shardWin path) s = sent (outerPage + 0xC8) s.shardRead.1 s.shardRead.2)

/-- The common header and the reset, clock, band, power and feature registers (R30, R43, R50, R54, R55, R62, R67,
R207, R492, R495); a W1C bit that hardware sets in the same bus event stays set (R13). -/
def Obligations.HeaderAndChipCommands : Prop :=
  ∀ (path : Path) (s : State),
    (∀ (page : Page) (p : PageRef), pageAt (pageBase page) = some p →
      let a := pageBase page + 0x0C
      let w (n : Nat) (on : Bool) : Nat := setBit (s.shownWord path a) n on
      let only (v : Nat) (f : Fld) : Prop :=
        ∀ g ∈ [HDR.ENABLE, HDR.QUIESCE, HDR.ISOLATE, HDR.SOFT_RESET], s.hits path a v g = decide (g = f)
      (only (w 3 true) HDR.SOFT_RESET → s.Passes path a (w 3 true) →
        exec (.softReset path page) s = answered path a ((s.put path a (w 3 true)).softReset p)) ∧
      (only (w 0 false) HDR.ENABLE → s.Passes path a (w 0 false) →
        (s.put path a (w 0 false)).flag p.base HDR.ENABLE = false →
        exec (.enableClear path page) s = answered path a ((s.put path a (w 0 false)).drainPage p.base)) ∧
      (only (w 1 true) HDR.QUIESCE → s.Passes path a (w 1 true) →
        (s.put path a (w 1 true)).flag p.base HDR.QUIESCE = true →
        exec (.quiesce path page) s = answered path a ((s.put path a (w 1 true)).drainPage p.base)) ∧
      (only (w 2 false) HDR.ISOLATE → s.Passes path a (w 2 false) →
        exec (.isolateClear path page) s = answered path a ((s.put path a (w 2 false)).isolateWritten p false))) ∧
    (s.Passes path (chipPage + 0x70) 0xA5A5 →
      exec (.chipResetHandover path) s = answered path (chipPage + 0x70) s.resetHandover) ∧
    (s.Passes path (chipPage + 0x70) 0x5A5A → exec (.chipResetImmediate path) s = .next (s.chipReset 1).settle) ∧
    (∀ k : Fin 64, k.val < 61 → s.Passes path (ckPage + 0x60) k.val →
      exec (.islRstReq path k) s = answered path (ckPage + 0x60) (s.islandReset k.val)) ∧
    (let v := setBit (s.shownWord path (ckPage + 0x54)) 31 true
     s.hits path (ckPage + 0x54) v CK.FMON_START = true → s.Passes path (ckPage + 0x54) v →
      exec (.fmonStart path) s = answered path (ckPage + 0x54) ((s.put path (ckPage + 0x54) v).fmonStart)) ∧
    (∀ h : HeadIx,
      let a := bandPage h.val + 0x7C
      let w (n : Nat) : Nat := setBit (s.shownWord path a) n true
      (bitOf (w 0) 2 = false → s.Passes path a (w 0) →
        exec (.adaptReload path h) s = answered path a ((s.put path a (w 0)).bandReload h.val)) ∧
      (bitOf (w 2) 0 = false → s.Passes path a (w 2) →
        exec (.adaptReacq path h) s = answered path a ((s.put path a (w 2)).bandReacq h.val))) ∧
    (∀ value : Fin 8, s.Passes path (nvmePage + 0x4C) (value.val * 2 ^ 4) →
      exec (.psReq path value) s =
        answered path (nvmePage + 0x4C) ((s.put path (nvmePage + 0x4C) (value.val * 2 ^ 4)).psReqWritten)) ∧
    (let a := stebaroPage + 0x40
     let w (n : Nat) : Nat := setBit (s.shownWord path a) n false
     let only (v : Nat) (f : Fld) : Prop := ∀ g ∈ [STEBARO.EN_M, STEBARO.EN_P0, STEBARO.EN_P1], s.hits path a v g = decide (g = f)
     (only (w 0) STEBARO.EN_M → s.Passes path a (w 0) →
      exec (.stebaroPortDisable path 3) s = answered path a ((s.put path a (w 0)).closePortSessions 3)) ∧
     (only (w 1) STEBARO.EN_P0 → s.Passes path a (w 1) →
      exec (.stebaroPortDisable path 0) s = answered path a ((s.put path a (w 1)).closePortSessions 0)) ∧
     (only (w 2) STEBARO.EN_P1 → s.Passes path a (w 2) →
      exec (.stebaroPortDisable path 1) s = answered path a ((s.put path a (w 2)).closePortSessions 1))) ∧
    (∀ (addr : Nat) (value : Word), addr ≠ chipPage + 0x70 → s.Passes path addr value.toNat →
      ∀ sets : Word, exec (.registerWrite path addr ⟨value, sets⟩) s =
        .next (((((s.writeWord path addr value.toNat).pulsesWritten [addr]).send (.writeDone path addr 0)).setMeets addr sets.toNat).settle))

/-- The host reaches registers by C0h: a read with observer rights, a write with operator rights (R73, R492). -/
def Obligations.HostRegisterFeature : Prop :=
  ∀ (c : ConnIx) (cid addr : Nat) (value : Word) (s : State), s.freshAdmin c.val cid = true → s.hasRight c.val 5 = true →
    (badAddress addr = false → exec (.getFeaturesC0 c cid addr) s =
      .next ((s.readWord .host addr).2.2.complete c.val cid .ok (s.readWord .host addr).1).settle) ∧
    exec (.setFeaturesC0 c cid addr value) s =
      .next (((s.setWork c.val cid 0 .reg).regWrite .host [(addr, value.toNat)] (.admin c.val cid)).settle)

/-- A read of an RC register returns its value and clears it; an update that meets the read applies to the cleared
value (R11, R13): the corrected-error counter of every page. -/
def Obligations.RcReadReturnsAndClears : Prop :=
  ∀ (path : Path) (page : Page) (n : Nat) (s : State), s.pathLive path = true →
    let b := pageBase page
    ∃ t, exec (.rcRegisterRead path (b + 0x18) [(0, n)]) s = .next t ∧
      t.out = s.out ++ [.readData path (b + 0x18) (s.fld b HDR.PG_ECNT_C % 2 ^ 32)] ∧
      t.fld b HDR.PG_ECNT_C = min (2 ^ 32 - 1) n ∧
      ∀ k, k ≠ fldKey b HDR.PG_ECNT_C 0 → k ∉ settleKeys → t.reg k = s.reg k

/-- Requests that read or write (R79-R82, R84): a request with a fault of its form is NAKed with that fault. -/
def Obligations.RequestsReadAndWrite : Prop :=
  ∀ (sid : SessionIx) (hdr : SbHeader) (s : State),
    let op (n : Nat) : SbHeader := { hdr with opcode := n }
    (∀ addrs : List Nat, s.NewRequest sid (op 1) addrs.length → (∀ a ∈ addrs, badAddress a = false) →
      exec (.sbRead sid hdr addrs) s =
        let r := (s.sbHeard sid).readMany (.steb sid) addrs
        .next (r.2.sbRespond sid (op 1) 0 r.1.length r.1).settle) ∧
    (∀ pairs : List (Nat × Word), s.NewRequest sid (op 2) (2 * pairs.length) →
      let ws := pairs.map fun x => (x.1, x.2.toNat)
      (s.sbHeard sid).PassesAll (.steb sid) ws → (chipPage + 0x70, 0x5A5A) ∉ ws →
      exec (.sbWrite sid hdr pairs) s =
        .next ((((s.sbHeard sid).writeWords (.steb sid) ws).pulsesWritten (ws.map Prod.fst)).sbRespond sid (op 2) 0 0 []).settle) ∧
    (s.NewRequest sid (op 3) 0 → blockArea hdr.address = blockArea (hdr.address + 4 * (hdr.count - 1)) →
      (∀ a ∈ blockAddrs hdr.address hdr.count, badAddress a = false) →
      exec (.readBlock sid hdr) s =
        let r := (s.sbHeard sid).readMany (.steb sid) (blockAddrs hdr.address hdr.count)
        .next (r.2.sbRespond sid (op 3) 0 r.1.length r.1).settle) ∧
    (∀ values : List Word, s.NewRequest sid (op 4) values.length →
      blockArea hdr.address = blockArea (hdr.address + 4 * (hdr.count - 1)) →
      let ws := (blockAddrs hdr.address hdr.count).zip (values.map fun v => v.toNat)
      (s.sbHeard sid).PassesAll (.steb sid) ws → (chipPage + 0x70, 0x5A5A) ∉ ws →
      exec (.writeBlock sid hdr values) s =
        .next ((((s.sbHeard sid).writeWords (.steb sid) ws).pulsesWritten (ws.map Prod.fst)).sbRespond sid (op 4) 0 0 []).settle) ∧
    (s.NewRequest sid (op 5) 0 → badAddress hdr.address = false →
      exec (.windowRead sid hdr) s =
        let r := (s.sbHeard sid).readPort (.steb sid) hdr.address hdr.count
        .next (r.2.2.sbRespond sid (op 5) 0 r.1.length r.1 (boolNat r.2.1)).settle) ∧
    (∀ (words code : Nat), s.svc.held = .no → (s.session sid.val).isSome = true →
      (∀ x, (s.sbTouch sid.val).session sid.val = some x → ∀ k ∈ x.kept, k.req ≠ hdr) →
      (∀ w ∈ (s.sbTouch sid.val).arb.waiting, pathKey w.path = 2 + sid.val → w.for' ≠ .steb hdr) →
      (s.sbHeard sid).requestFault sid.val hdr words = some code →
      exec (.badRequest sid hdr words) s =
        .next ((if code = 4 then (s.sbHeard sid).refuse chipPage 6 else s.sbHeard sid).sbNak sid hdr code 0).settle)

/-- Subscriptions and their EVENTs (R85, R86).
Sessions open with the role of the certificate chain, in the lowest free place, and close (R75, R76, R78, R511);
waiting writes go on or are refused (R61). -/
def Obligations.SubscriptionAndSessionCommands : Prop :=
  (∀ (sid : SessionIx) (s : State),
      let fresh (f : SubFilter) : Option Sub := some { filter := f, buffer := [], nextNo := 0, evTag := 0, unacked := [] }
      (∀ (hdr : SbHeader) (f : SubFilter),
        let h : SbHeader := { hdr with opcode := 6 }
        let u := s.sbHeard sid
        s.NewRequest sid h 4 → f.reserved = 0 → f.selectors < 4 →
        (f.selectors = 0 → exec (.subscribe sid hdr f) s = .next ((u.setSub sid.val none).sbRespond sid h 0 0 []).settle) ∧
        (f.selectors ≠ 0 → sid.val ∈ u.subscribed ∨ u.subscribed.length < 8 →
          exec (.subscribe sid hdr f) s = .next ((u.setSub sid.val (fresh f)).sbRespond sid h 0 0 []).settle) ∧
        (f.selectors ≠ 0 → sid.val ∉ u.subscribed → 8 ≤ u.subscribed.length →
          exec (.subscribe sid hdr f) s = .next (u.sbNak sid h 0xB 0).settle)) ∧
      (∀ (tag : Nat) (u : Sub), (s.sbTouch sid.val).subOf sid.val = some u →
        exec (.eventAck sid tag) s = .next ((s.sbTouch sid.val).setSub sid.val
          (some { u with unacked := u.unacked.filter fun e => decide (e.1 ≠ tag) })).settle ∧
        exec (.eventNak sid tag) s = .next (s.sbTouch sid.val).settle) ∧
      (∀ u : Sub, s.subOf sid.val = some u →
        (u.unacked.length < 8 → u.buffer ≠ [] →
          ∃ ws t, exec (.eventSend sid) s = .next t ∧ ws = wordsLE (s.nextEvent u).1 ∧
            t.out = s.out ++ [.sbDatagram sid (sbDatagram (eventHeader u.evTag ws.length) ws)] ∧
            t.subOf sid.val = some { u with buffer := (s.nextEvent u).2, evTag := (u.evTag + 1) % 2 ^ 16,
                                            unacked := u.unacked ++ [(u.evTag, ws)] }) ∧
        (8 ≤ u.unacked.length → exec (.eventSend sid) s = .next s.settle) ∧
        (∀ e tag, u.unacked.find? (fun e => decide (e.1 = tag)) = some e →
          exec (.eventResend sid tag) s = .next (s.send (.sbDatagram sid (sbDatagram (eventHeader tag e.2.length) e.2))).settle) ∧
        (u.unacked ≠ [] → exec (.subscriptionCancel sid) s =
          .next (((s.setSub sid.val none).istat stebaroPage 9).event stebaroPage 0x6201 2).settle))) ∧
  (∀ s : State,
      (∀ (port : PortIx) (key : CertKey) (chain : List (List Nat)) (i : Nat) (r : Role), key ≠ .other →
        s.svc.held = .no → s.served port.val = true → s.flag rdyPage RDY.STEBARO = true → s.accepts stebaroPage = true →
        (List.range 16).find? (fun k => (s.session k).isNone) = some i →
        let x : Session := { port := port.val, role := r, cert := chain.headD [], sub := none, kept := [], lastDatagram := s.now }
        let first := decide (port.val = 3) && s.flag tePage TE.TE_STAT_OPEN && !s.flag tePage TE.ROLE_ANCHOR_VALID 0 && !chain.isEmpty
        (first = false → s.chainRole chain = some r →
          exec (.dtlsHandshake port ⟨key, chain⟩) s = .next ((s.setSession i (some x)).istat stebaroPage 8).settle) ∧
        (first = true → r = .custodian →
          exec (.dtlsHandshake port ⟨key, chain⟩) s =
            .next (((s.bindAnchor (chain.headD [])).setSession i (some x)).istat stebaroPage 8).settle)) ∧
      (∀ (port : PortIx) (recordOk : Bool) (bytes : List Nat), s.svc.held = .no → s.served port.val = true →
        recordOk = false ∨ sbHeaderOf bytes = none →
        exec (.datagramDiscard ⟨port, recordOk, bytes⟩) s = .next (s.count stebaroPage STEBARO.SB_DROP_CNT).settle) ∧
      (∀ sid : SessionIx, (s.session sid.val).isSome = true →
        exec (.sessionClose sid) s = .next (s.closeSession sid.val).settle ∧
        (∀ x, s.session sid.val = some x → x.lastDatagram + s.idleTimeout ≤ s.now →
          exec (.sessionIdleTimeout sid) s = .next (s.closeSession sid.val).settle) ∧
        (s.closeSession sid.val).session sid.val = none ∧
        ∀ w ∈ (s.closeSession sid.val).arb.waiting, pathKey w.path ≠ 2 + sid.val) ∧
      (∀ w r, takeHeld (fun w => (s.transferring w.pairs).isNone) [] s.arb.waiting = some (w, r) →
        s.pathLive w.path = true →
        exec .writeReleasedAfterTransfer s = .next ((s.setArb { s.arb with waiting := r }).finishWrite w).settle) ∧
      (∀ w n a m, s.arb.waiting.find? (fun w => (s.transferring w.pairs).isSome && decide (w.arrival + 10000000 ≤ s.now)) = some w →
        s.transferring w.pairs = some (n, a, m) → s.pathLive w.path = true →
        exec .writeTransferTimeout s =
          .next (((s.setArb { s.arb with waiting := s.arb.waiting.erase w }).refuse (arbiterBase a) 4).answerWrite w (some (n, a, 4))).settle))

/-- Clocks (R65-R68): what the frequency monitor, a PLL, a reference clock and the always-on crystal do.
A soft reset and a drain end (R50, R54). -/
def Obligations.ClockAndObjectResetCommands : Prop :=
  (∀ s : State,
      (∀ khz : Nat, s.arb.fmon ≠ none →
        ∃ t, exec (.fmonResult khz) s = .next t ∧ t.fld ckPage CK.FMON_KHZ = khz ∧ t.flag ckPage CK.FMON_VALID = true ∧
          t.flag ckPage CK.FMON_START = false ∧ t.arb.fmon = none) ∧
      (∀ i : IslandIx, i.val ∈ s.arb.islandResets →
        exec (.islandRelease i) s = .next (State.islandFree
          (s.setArb { s.arb with islandResets := s.arb.islandResets.filter fun j => j != i.val }) i.val).settle) ∧
      (∀ p : PllIx, s.fldBit ckPage CK.PLL_LOCK p.val = true →
        let t := ((s.setFldBit ckPage CK.PLL_LOCK p.val false).count ckPage CK.PLL_LOSS_CNT).setFld ckPage CK.PLL_LOSS_LAST p.val
        let t := (t.istat ckPage 8).event ckPage 0x8901 (if pllFatal p.val then 6 else 5) 0xFF p.val
        let t := t.forEach (pllIslands p.val) fun u i => u.setIsl i false
        let down (u : State) (q : Nat) : State := if u.flag (ethPage q) ETH.ETH_STAT_LINK then u.portDown q else u
        (pllFatal p.val = true → exec (.pllLossOfLock p) s = .next (t.fatal 0x8901).settle) ∧
        (pllFatal p.val = false → p.val < 14 → exec (.pllLossOfLock p) s = .next (t.reportsTo (t.retireCore (p.val - 4)) 8).settle) ∧
        (pllFatal p.val = false → p.val = 17 → exec (.pllLossOfLock p) s = .next (down (down t 0) 1).settle) ∧
        (pllFatal p.val = false → p.val = 18 → exec (.pllLossOfLock p) s = .next (down (down t 2) 3).settle) ∧
        (pllFatal p.val = false → 19 ≤ p.val → exec (.pllLossOfLock p) s =
          .next (t.forEach ((List.range 33).filter fun h => decide (headGroup h = p.val - 19)) State.linkClockLost).settle)) ∧
      (∀ p : PllIx, s.fldBit ckPage CK.PLL_LOCK p.val = false →
        let t := (s.setFldBit ckPage CK.PLL_LOCK p.val true).forEach (pllIslands p.val) State.islandFree
        (p.val < 19 → exec (.pllRelock p) s = .next t.settle) ∧
        (19 ≤ p.val → exec (.pllRelock p) s = .next (t.forEach ((List.range 33).filter fun h =>
          decide (headGroup h = p.val - 19) && decide (t.linkState h = 0)) fun u h => u.startTraining h 1 true).settle)) ∧
      (s.fldBit ckPage CK.REF_SYS 0 = true →
        exec (.referenceClockLost .sys) s = .next ((s.setFldBit ckPage CK.REF_SYS 0 false).istat ckPage 9).settle) ∧
      (∀ k, s.fldBit ckPage CK.REF_ETH k.val = true →
        exec (.referenceClockLost (.eth k)) s = .next ((s.setFldBit ckPage CK.REF_ETH k.val false).istat ckPage 9).settle) ∧
      (∀ g, s.fldBit ckPage CK.REF_HEAD g.val = true →
        exec (.referenceClockLost (.head g)) s = .next ((s.setFldBit ckPage CK.REF_HEAD g.val false).istat ckPage 9).settle) ∧
      (s.arb.aoOnRef = false →
        exec .xtalAoLost s = .next ((((s.setArb { s.arb with aoOnRef := true }).setFlag ckPage CK.REF_AO false).istat ckPage 9).event
          ckPage 0x8902 3).settle)) ∧
  (∀ (page : Page) (p : PageRef) (s : State), pageAt (pageBase page) = some p →
      exec (.softResetComplete page) s = .next (s.softResetDone p).settle ∧
      exec (.objectDrained page) s = .next (s.drainedPage p).settle)

/-- A control crossing (R40, R41, R43): one value is in flight at a time, the newest waits, and the receiver holds whole
values only.
A data crossing (R42, R43): items arrive in order, none is lost but by a resynchronisation, which counts them; an
item that reaches the spine waits at its output port (R46). -/
def Obligations.CrossingCommands : Prop :=
  (∀ (x : Crossing) (s : State),
      let k := xingKey x
      (∀ v : Nat, ∃ t, exec (.controlValueWrite x v) s = .next t ∧ (t.ctl k).cur = v ∧ (t.ctl k).recv = (s.ctl k).recv ∧
        ((s.ctl k).resync = false → (s.ctl k).flight = none → (t.ctl k).flight = some (v, false)) ∧
        (∀ f, (s.ctl k).resync = false → (s.ctl k).flight = some f → (t.ctl k).flight = some f ∧ (t.ctl k).update = some v)) ∧
      (∀ v : Nat, (s.ctl k).flight = some (v, false) →
        ∃ t, exec (.controlCapture x) s = .next t ∧ (t.ctl k).recv = v ∧ (t.ctl k).stale = false ∧ (t.ctl k).flight = some (v, true)) ∧
      (∀ v : Nat, (s.ctl k).flight = some (v, true) →
        ∃ t, exec (.controlAckArrival x) s = .next t ∧ (t.ctl k).update = none ∧
          (t.ctl k).flight = (s.ctl k).update.map fun u => (u, false)) ∧
      (∀ sides : Sides, sides.src = true ∨ sides.dst = true →
        exec (.resyncEntry x .control sides) s = .next (s.ctlResync k sides.dst).settle) ∧
      (s.islRun x.src.val = true → s.islRun x.dst.val = true → (s.ctl k).resync = true →
        exec (.resyncHandshakeDone x .control) s = .next ((s.setCtl k { s.ctl k with resync := false, flight := some ((s.ctl k).cur, false), update := none }).count
          (regionPage (islandRegion x.dst.val)) REGION.RG_RESYNC_CNT).settle)) ∧
  (∀ (x : Crossing) (s : State),
      let k := xingKey x
      (∀ item : Nat, (s.dat k).resync = false → (s.dat k).inFlight.length ≤ Config.fifoDepth k →
        exec (.dataItemWrite x item) s = .next (s.setDat k { s.dat k with inFlight := (s.dat k).inFlight ++ [item] }).settle) ∧
      (∀ (v : Nat) (r : List Nat), (s.dat k).inFlight = v :: r →
        (x.dst.val ≠ spineIsland → exec (.dataItemReadable x) s = .next (s.setDat k
          { s.dat k with inFlight := r, readable := (s.dat k).readable ++ [v], heldOff := (s.dat k).resync }).settle) ∧
        (x.dst.val = spineIsland → s.islandIdle (keySrc k) = false → exec (.dataItemReadable x) s =
          .next ((s.setDat k { s.dat k with inFlight := r, heldOff := (s.dat k).resync }).enterSpine k v).settle)) ∧
      (∀ sides : Sides, sides.src = true ∨ sides.dst = true →
        exec (.resyncEntry x .data sides) s = .next (s.datResync k).settle) ∧
      (s.islRun x.src.val = true → s.islRun x.dst.val = true → (s.dat k).resync = true →
        exec (.resyncHandshakeDone x .data) s = .next ((s.setDat k { s.dat k with resync := false, heldOff := false, readable := [] }).count
          (regionPage (islandRegion x.dst.val)) REGION.RG_RESYNC_CNT).settle))

/-- Failed cells go up from cell to region to chip (R46-R48, R50).
Watchdogs, overload and poison (R439, R583, R584, R586). -/
def Obligations.FaultAndOverloadCommands : Prop :=
  (∀ s : State,
      (∀ (r : RegionIx) (block cell : Nat) (sev : Fin 8) (shared : Bool), block < blocksOf r.val →
        exec (.cellFaultDetected r block cell sev shared) s = .next (s.cellFault r.val block cell sev.val shared).settle) ∧
      (∀ (r : RegionIx) (block : Nat) (fails : Bool),
        exec (.spareSubstitution r block fails) s = .next (s.reportsTo (s.substitute r.val block fails) r.val).settle) ∧
      (∀ (r : RegionIx) x rest, s.regionReports r.val = x :: rest → s.flag (regionPage r.val) REGION.CHIP_ESC_EN = true →
        (x.whole = false ∨ s.flag (regionPage r.val) REGION.AUTO_REROUTE = false) →
        let t := if x.whole && s.flag (regionPage r.val) REGION.AUTO_ISOLATE then s.isolate r.val x.block else s
        let u := (t.setRegionReports r.val rest).istat (regionPage r.val) 9
        exec (.blockIsolation r) s = .next (u.setFlt { u.flt with chip := u.flt.chip ++ [x] }).settle) ∧
      (∀ (r : RegionIx) x rest, s.regionReports r.val = x :: rest → x.whole = true →
        s.flag (regionPage r.val) REGION.AUTO_REROUTE = true →
        let t := if s.flag (regionPage r.val) REGION.AUTO_ISOLATE then s.isolate r.val x.block else s
        let c := t.regionCode r.val
        t.otherCarries r.val x.block = true → exec (.blockIsolation r) s =
          .next (s.reportsTo ((c.2.setRegionReports r.val rest).event (regionPage r.val) c.1 4 x.block) r.val).settle) ∧
      (∀ x rest, s.flt.chip = x :: rest → x.whole = false →
        let t := s.setFlt { s.flt with chip := rest }
        let t := t.setFlt { t.flt with lost := t.flt.lost ++ [(x.region, x.block, x.cell)] }
        (x.region < 4 → exec .chipDegrade s =
          .next ((s.reportsTo (if x.cell < 16 then t.beamLost (blockHead x.region x.block) x.cell else t).degraded 15).lastEsc
            x.region (headCode (blockHead x.region x.block) 0x202)).settle) ∧
        (x.region = 4 → x.block = 0 → exec .chipDegrade s =
          .next ((s.reportsTo ((t.worsen ldpcPage HDR.DEGRADED).poolCapacity.degraded) 15).lastEsc x.region 0x4108).settle) ∧
        (4 ≤ x.region → ¬(x.region = 4 ∧ x.block = 0) → exec .chipDegrade s =
          .next ((s.reportsTo (t.cellLost x.region x.block).2.degraded 15).lastEsc x.region (t.cellLost x.region x.block).1).settle)) ∧
      (∀ x rest, s.flt.chip = x :: rest → x.whole = true →
        let u := (s.setFlt { s.flt with chip := rest }).blockLost x.region x.block
        exec .chipDegrade s = .next ((s.reportsTo u.2 15).lastEsc x.region u.1).settle) ∧
      (∀ lane : Fin 5, s.fldBit ctrlengPage CTRLENG.CE_STAT_LANE_MAP lane.val = true →
        exec (.macResidueFail lane) s =
          .next (s.reportsTo (((s.count ctrlengPage CTRLENG.DEADLINE_MISS).istat ctrlengPage 11).laneOut lane.val) 7).settle) ∧
      (∀ (w : WheelIx) (c : Fin 4) (byTest : Bool), byTest = true ∨ s.comparatorCause w.val c.val = true →
        exec (.comparatorFault w c byTest) s = .next (s.reportsTo (s.comparatorOut w.val c.val) 7).settle)) ∧
  (∀ s : State,
      (∀ core : Fin 10, s.coreSt core.val = coreRun →
        let t := s.count mcPage MC.WDT_EXPIRED
        let u := t.setSvc { t.svc with wdt := t.svc.wdt ++ [(core.val, t.poweredS)] }
        let again := ∃ e ∈ s.svc.wdt, e.1 = core.val ∧ s.poweredS < e.2 + 86400
        (again → exec (.watchdogExpiry core) s = .next (s.reportsTo (u.retireCore core.val) 8).settle) ∧
        (¬ again → exec (.watchdogExpiry core) s = .next (s.reportsTo (u.resetCore core.val) 8).settle)) ∧
      (∀ load : Nat,
        let t := (s.setFld mcPage MC.LOAD_NOW (min load 1000)).peak mcPage MC.LOAD_PEAK (min load 1000)
        (10 * t.fldIn mcPage MC.WDT_CFG_OVL_ON 50 99 < min load 1000 → t.flag mcPage MC.MC_STAT_OVERLOAD = false →
          let u := t.setSvc { t.svc with ovlAt := t.now }
          exec (.overloadEnter load) s =
            .next (((u.setFlag mcPage MC.MC_STAT_OVERLOAD true).istat mcPage 10).event mcPage 0x8803 3).testShow.settle) ∧
        (min load 1000 < 10 * t.fldIn mcPage MC.WDT_CFG_OVL_OFF 30 (s.fldIn mcPage MC.WDT_CFG_OVL_ON 50 99) →
          t.flag mcPage MC.MC_STAT_OVERLOAD = true → t.svc.ovlAt + 100000000 ≤ t.now →
          exec (.overloadLeave load) s =
            .next ((t.setFlag mcPage MC.MC_STAT_OVERLOAD false).istat mcPage 11).testShow.settle)) ∧
      (∀ use : PoisonUse, use = .stripeOp ∨ use = .outerOp ∨ use = .journal ∨ use = .catalogue →
        exec (.poisonConsumed use) s = .next s.poisonOk.settle) ∧
      (∀ c, exec (.poisonConsumed (.core c)) s = .next ((s.resetCore c.val).poisonOk).settle) ∧
      (∀ c cid, exec (.poisonConsumed (.context c cid)) s = .next ((s.complete c cid .internalError).poisonLost).settle) ∧
      (∀ n, exec (.poisonConsumed (.ceSlot n)) s =
        .next ((if s.slotMode n.val = modeOff then s else s.setMode n.val modeFault).poisonOk).settle) ∧
      (∀ (h : HeadIx) sa slot b, exec (.poisonConsumed (.ldpc h sa slot b)) s =
        .next (s.poisonPiece h.val sa slot.val b.val).poisonUsed.settle) ∧
      (∀ (h : HeadIx) sa seg b, exec (.poisonConsumed (.headShelf h sa seg b)) s =
        .next ((s.setBand h.val { s.band h.val with shelf := (s.band h.val).shelf.map fun p =>
          if p.sa = sa ∧ p.seg = seg ∧ p.beam = b.val then { p with erased := true, samples := [] } else p }).poisonUsed).settle) ∧
      (∀ (lane : Fin 4) zone lba, s.lbaMirrored (300 * lane.val + zone.val) lba = false →
        let k := 300 * lane.val + zone.val
        let st := (List.range stripesPerZone).find? fun i => decide (lba < stripeFirstLba (s.zone k).width (i + 1))
        exec (.poisonConsumed (.stagedRead lane zone lba)) s =
          .next (((s.addInt k 8).rollback k (st.getD 0)).intAfter k 8 0).poisonLost.settle) ∧
      (∀ c k, s.conn c = some k → exec (.poisonConsumed (.tcp c)) s =
        .next (((s.loseConn c 2).send (.tcp c false false false true k.sndNxt k.rcvNxt)).poisonLost).settle) ∧
      (∀ e r, s.recd.log.reverse = e :: r → exec (.poisonConsumed .recorder) s =
        .next ((((s.withRec fun x => { x with log := r.reverse }).count erPage ER.DROP_CNT).istat erPage 9).poisonUsed).settle) ∧
      (∀ (q : QueueIx) i r, (s.oqueue q.val).items = i :: r → exec (.poisonConsumed (.queue q)) s =
        .next (((s.setOqueue q.val { s.oqueue q.val with items := r }).poisonUsed).dropItem q.val i.qseq).settle) ∧
      (∀ c cid x op k first n, s.ctx c cid = some x → x.work = .read op k first n →
        let bs := s.readBlocks k first n
        let t := s.setPool { s.pool with released := s.pool.released.filter fun o => !(decide (o.why = .host) &&
          bs.any fun b => decide (o.head = b.1) && decide (o.blk = b.2.2) && decide (o.sa = s.placeOf b.1 b.2.1)) }
        exec (.poisonConsumed (.firedRead c cid)) s = .next (t.forEach bs fun u b => u.askBlock b.1 b.2.1 b.2.2).poisonOk.settle))

/-- The lanes of a head's link (R133, R140, R141, R143, R146, R168). -/
def Obligations.LinkLaneCommands : Prop :=
  ∀ (h : HeadIx) (s : State),
    (∀ (lane : LaneIx) (hdrs : List (Fin 4)),
      let x := (s.lane h.val lane.val).seeHdrs hdrs
      let y := s.lane h.val lane.val
      (x.block = true ∨ x.blockGains = true ∨ 9 ≤ lane.val → exec (.blockLockGained h ⟨lane, hdrs⟩) s =
        .next ((s.setLane h.val lane.val { x with block := true }).bandClock h.val).settle) ∧
      (x.blockLoses = true ∨ 9 ≤ lane.val → exec (.blockLockLost h ⟨lane, hdrs⟩) s = .next
        ((s.setLane h.val lane.val { x with block := false, frame := false, hdrs := [], good := 0, bad := 0 }).bandClock
          h.val).settle) ∧
      (x.blockLoses = false → lane.val < 9 → exec (.blockLockLost h ⟨lane, hdrs⟩) s =
        .next (s.setLane h.val lane.val x).settle) ∧
      (y.block = true → 4 ≤ y.good ∨ 9 ≤ lane.val →
        exec (.frameLockGained h lane) s = .next (s.setLane h.val lane.val { y with frame := true }).settle) ∧
      (4 ≤ y.bad ∨ 9 ≤ lane.val →
        exec (.frameLockLost h lane) s = .next (s.setLane h.val lane.val { y with frame := false }).settle) ∧
      (∀ why, s.linkState h.val = 5 → s.laneCause h.val lane.val why = true → s.laneFailed h.val lane.val = false →
        exec (.linkLaneFault h lane why) s = .next (s.laneFault h.val lane.val).settle)) ∧
    (∀ (lane : Fin 9) (f : UpFrame) (obs : ServoObs), f.blocks.length = 34 →
      let x := s.lane h.val lane.val
      let w := (upWords x.scr f).1
      let y := s.laneFrame h.val x f w (upWords x.scr f).2
      let t := (s.setLane h.val lane.val y).mapSeen h.val lane.val y w.crcOk
      let t := if w.crcOk then t else t.count (headPage h.val) HEAD.UL_CRC_ERR
      (x.block = false → exec (.upstreamFrame h lane ⟨f, obs⟩) s = .next s.settle) ∧
      (x.block = true → y.lpos = none → exec (.upstreamFrame h lane ⟨f, obs⟩) s = .next t.settle) ∧
      (∀ p, x.block = true → y.lpos = some p → y.frame = true → 3 ≤ t.linkState h.val → t.linkState h.val ≤ 6 →
        exec (.upstreamFrame h lane ⟨f, obs⟩) s =
          .next (t.joinSet h obs y.fseq p { ok := w.crcOk, sv := y.sv, payload := w.payload, sb := w.sb }).settle) ∧
      (w.crcOk = true → w.type = 0xB4 → y.lpos = some w.lpos ∧ y.standby = false ∧ y.fseq = w.fseq ∧ y.sv = w.sv) ∧
      (w.crcOk = true → w.type = 0xB6 → y.lpos = none ∧ y.standby = true ∧ y.fseq = w.fseq)) ∧
    (∀ tag elapsed turnaround : Nat,
      exec (.echoRsp h tag elapsed turnaround) s =
        .next (s.setFld (headPage h.val) HEAD.LAT_RTT (min 0xFFFF (elapsed - turnaround))).settle)

/-- Training of a head's link (R162, R163, R166): its four steps, the retries, and the port that must match. -/
def Obligations.LinkTrainingCommands : Prop :=
  ∀ (h : HeadIx) (s : State),
    let b := headPage h.val
    (∀ obs : TrainObs,
      let up := s.upLanes h.val
      let dl := s.downLanes h.val obs
      1 ≤ dl.length →
      (s.linkState h.val = 1 → 8 ≤ (up.filter fun i => (s.lane h.val i).block && peerStep obs i 0).length →
        exec (.trainingStepAdvance h obs) s =
          .next ((((s.forEach dl fun u i => u.setLane h.val i { u.lane h.val i with block := true }).setLinkState h.val 2).sendTrain
            h.val 1).bandClock h.val).settle) ∧
      (s.linkState h.val = 2 →
        let t := s.forEach (List.range 9) fun u i =>
          match obs.eyes[i]? with
          | some e => ((u.setFld b HEAD.EYE_UL_WIDTH e.1 i).setFld b HEAD.EYE_UL_HEIGHT e.2 i).setFld b HEAD.EYE_UL_VALID 1 i
          | none => u
        let t := (t.takePresets h.val obs.blocks).sendTrain h.val 1
        let pass := up.filter fun i => (s.lane h.val i).block && peerStep obs i 1 && eyeOk (obs.eyes.getD i (0, 0))
        let u := t.forEach pass.zipIdx fun u x =>
          u.setLane h.val x.1 { u.lane h.val x.1 with lpos := if x.2 < 8 then some x.2 else none, standby := decide (x.2 = 8) }
        (8 ≤ pass.length →
          exec (.trainingStepAdvance h obs) s = .next (((match pass.zipIdx.find? (fun (x : Nat × Nat) => decide (x.1 = 8)) with
            | some x => u.setFld b HEAD.LINK_MAP_UL8_POS (if x.2 < 8 then x.2 else 0xF)
            | none => u).useDownLanes h.val dl).setLinkState h.val 3).settle) ∧
        (pass.length < 8 → exec (.trainingStepAdvance h obs) s = .next t.settle)) ∧
      (s.linkState h.val = 3 → obs.skew ≤ 31 →
        8 ≤ (up.filter fun i => (s.lane h.val i).block && (s.lane h.val i).frame && (s.lane h.val i).lpos.isSome).length →
        let t := (s.setFld b HEAD.LAT_SKEW (min 255 obs.skew)).forEach dl fun u i =>
          u.setLane h.val i { u.lane h.val i with frame := true }
        exec (.trainingStepAdvance h obs) s = .next ((t.useDownLanes h.val dl).setLinkState h.val 4).settle) ∧
      (s.linkState h.val = 4 → (s.link h.val).identOk = true →
        exec (.trainingStepAdvance h obs) s = .next (s.linkUp h.val).settle)) ∧
    (1 ≤ s.linkState h.val → s.linkState h.val ≤ 4 →
      (s.flag b HEAD.LINK_CTRL_AUTO_RETRAIN = false →
        exec (.trainingStepTimeout h) s = .next (s.linkFailed h.val false).settle) ∧
      (s.flag b HEAD.LINK_CTRL_AUTO_RETRAIN = true → (s.link h.val).uncounted = false →
        s.fld b HEAD.CRC_CFG_RETRY_MAX ≤ (s.link h.val).attempt →
        exec (.trainingStepTimeout h) s = .next (s.linkFailed h.val true).settle) ∧
      (s.flag b HEAD.LINK_CTRL_AUTO_RETRAIN = true →
        (s.link h.val).uncounted = true ∨ (s.link h.val).attempt < s.fld b HEAD.CRC_CFG_RETRY_MAX →
        exec (.trainingStepTimeout h) s =
          .next ((s.setLink h.val { s.link h.val with retryDue := true }).setLinkState h.val 0).settle)) ∧
    ((s.link h.val).retryDue = true → (s.link h.val).began + s.fld b HEAD.CRC_CFG_RETRY_GAP * 100000000 ≤ s.now →
      ((s.link h.val).uncounted = true →
        exec (.retrainRetry h) s = .next (s.startTraining h.val (s.link h.val).attempt true).settle) ∧
      ((s.link h.val).uncounted = false → (s.link h.val).attempt < s.fld b HEAD.CRC_CFG_RETRY_MAX →
        exec (.retrainRetry h) s = .next (s.startTraining h.val ((s.link h.val).attempt + 1) false).settle) ∧
      ((s.link h.val).uncounted = false → s.fld b HEAD.CRC_CFG_RETRY_MAX ≤ (s.link h.val).attempt →
        exec (.retrainRetry h) s = .next (s.linkFailed h.val true).settle)) ∧
    (∀ body : IdentBody,
      let t := s.setFld b HEAD.COMP_ID (body.model.val + 2 ^ 16 * body.fwMajor.val + 2 ^ 24 * body.fwMinor.val)
      let t := t.setPair b HEAD.COMP_SER_LO HEAD.COMP_SER_HI body.serial.toNat
      (body.port.val = s.fld chipPage CHIP.SIDE →
        exec (.identMsg h body) s = .next (t.setLink h.val { t.link h.val with identOk := true }).settle) ∧
      (body.port.val ≠ s.fld chipPage CHIP.SIDE →
        let u := (t.setLinkState h.val 7).setLink h.val { t.link h.val with identOk := false }
        exec (.identMsg h body) s = .next (((u.setOwnTx h.val false).istat b 11).event b (headCode h.val 0x104) 4).settle))

/-- What a companion reports (R155, R156, R160, R166, R269, R295). -/
def Obligations.CompanionReports : Prop :=
  ∀ (h : HeadIx) (s : State),
    (s.linkState h.val = 5 ∨ s.linkState h.val = 6 →
      exec (.linkLoss h .noFrame) s = .next (s.linkLost h.val false).settle ∧
      (s.laneFailed h.val 9 = true → s.laneFailed h.val 10 = true →
        exec (.linkLoss h .bothDown) s = .next (s.linkLost h.val true).settle) ∧
      (s.linkState h.val = 6 → exec (.linkLoss h .uncovered) s = .next (s.linkLost h.val false).settle) ∧
      (s.fldBit ckPage CK.PLL_LOCK (19 + headGroup h.val) = false →
        exec (.linkLoss h .pll) s = .next (s.linkClockLost h.val).settle)) ∧
    (∀ b : StatusBody, s.headObeys h.val = (s.statusFields h.val b).headObeys h.val →
      (newer b.epoch.val ((s.statusFields h.val b).token h.val).2 = false ∨ (s.statusFields h.val b).tokenMine h.val = false) →
      exec (.statusMsg h b) s = .next (((s.statusFields h.val b).refreshHead h.val).parkedAll).settle) ∧
    (∀ (table result offset nbody : Nat) (m : DownMsg) (n : Nat),
      let hit (m : DownMsg) : Bool := match m with
        | .tableLoad t _ _ o _ => decide (t = table) && decide (o = offset)
        | _ => false
      let l := s.link h.val
      let rest := l.tables.erase (m, n)
      l.tables.find? (fun x => hit x.1) = some (m, n) →
      (result = 0 → exec (.tableAck h table result offset nbody) s =
        .next (s.setLink h.val { l with tables := rest }).settle) ∧
      (result ≠ 0 → n < 3 → exec (.tableAck h table result offset nbody) s =
        .next ((s.setLink h.val { l with tables := rest ++ [(m, n + 1)] }).send (.down h.val m)).settle) ∧
      (result ≠ 0 → 3 ≤ n → exec (.tableAck h table result offset nbody) s =
        .next ((s.setLink h.val { l with tables := rest }).dropFiring h.val).settle)) ∧
    (∀ setting quarter q : Nat,
      let t := s.grooveQuarter h.val (saLayer setting) q quarter
      (exec (.grooveWord h false setting quarter q) s = .next s.settle) ∧
      ((t.seq h.val).phase = .address → exec (.grooveWord h true setting quarter q) s =
        .next (t.seqAddress h.val (saLayer setting) (bandOfSetting (saSetting setting))).settle) ∧
      ((t.seq h.val).phase ≠ .address →
        (∀ sa seg, t.fireState h.val = 1 ∨ t.headFires h.val = true → (t.band h.val).expect = some (sa, seg) → sa ≠ setting →
          exec (.grooveWord h true setting quarter q) s =
            .next (t.bandLost h.val (saLayer setting) (bandOfSetting (saSetting setting))).settle) ∧
        (t.fireState h.val ≠ 1 → t.headFires h.val = false →
          exec (.grooveWord h true setting quarter q) s = .next t.settle))) ∧
    (∀ (e : ServoErr) (obs : ServoObs),
      (s.flag ctrlengPage HDR.ISOLATE = false → s.xingStale h.val 57 0 = false →
        exec (.servoErr h e obs) s = .next ((s.servoFrame h.val e obs).bandLayerEntered h.val).settle) ∧
      (s.flag ctrlengPage HDR.ISOLATE = false → s.xingStale h.val 57 0 = true →
        exec (.servoErr h e obs) s = .next (s.frameMissing h.val).settle) ∧
      (s.flag ctrlengPage HDR.ISOLATE = true → exec (.servoErr h e obs) s = .next s.settle)) ∧
    (∀ (held0 held1 : Nat) (nacks : List (Fin 2 × Nat)),
      let b := headPage h.val
      let fill (u : State) (f : Fld) (n : Nat) : State :=
        if u.fld b f = 1 ∧ 1665 ≤ n then u.setFld b f 2 else if u.fld b f = 2 ∧ n < 1665 then u.setFld b f 1 else u
      let body (u : State) (x : Fin 2 × Nat) : List Nat := match u.armed h.val x.1.val with
        | some r => fireChunk r x.2
        | none => []
      exec (.fireCredit h held0 held1 nacks) s =
        .next ((fill (fill s HEAD.FIRE_STAT_SLOT0 held0) HEAD.FIRE_STAT_SLOT1 held1).forEach nacks fun u x =>
          (u.send (.down h.val (.fireData x.1.val x.2 (body u x)))).count b HEAD.FIRE_NACK).settle)

/-- A firing run (R255-R258, R272, R273, R279, R394, R395).
Hold-up and what firing reports (R256, R257, R272, R397-R400, R551, R625, R626). -/
def Obligations.FiringCommands : Prop :=
  (∀ s : State,
      (∀ g : RunIx, (s.run g.val).phase = 0 → s.fire.holdup = false → s.svc.hold = false → s.runWanted g.val = true →
        (∀ h ∈ groupHeads g.val, (s.fireHead h).await = []) → g.val ≠ 0 ∨ s.rtHolds = false →
        let t := ({ s with fire := { s.fire with held := [] } } : State).setRun g.val { phase := 1, start := s.now }
        exec (.firingRunStart g) s = .next (State.commandWheels
          (if g.val = 0 then (t.setJr { t.jr with run := t.jr.run + 1 }).jput (runJRec (t.jr.run + 1) 0) else t) g.val 4500).settle) ∧
      (∀ g : RunIx, (s.run g.val).phase = 1 → (∀ w ∈ groupWheels g.val, s.wheelAt w 4500 = true) →
        exec (.firingBegin g) s =
          .next ((s.setRun g.val { phase := 2, start := s.now }).forEach (groupHeads g.val) State.headBegin).settle) ∧
      (∀ g : RunIx, (s.run g.val).phase = 2 →
        ((s.run g.val).start + 10 ^ 9 * s.ffldIn FIRE.RUN_MAX_S 1 255 ≤ s.now →
          exec (.runMaxExpiry g) s = .next (s.endRun g.val).settle) ∧
        ((∃ h ∈ groupHeads g.val, s.headFires h = true ∧ ∃ r ∈ s.pool.wants, r.head = h ∧ r.why = .host ∧ r.on = false ∧
            r.since + 10 ^ 8 * s.ffldIn FIRE.READ_WAIT_MAX 1 255 ≤ s.now) →
          exec (.readWaitExpiry g) s = .next (s.endRun g.val).settle) ∧
        (s.runIdle g.val = true ∨ (∃ h ∈ groupHeads g.val, s.scanEnded h = true) →
          exec (.firingRunEnd g) s = .next (if g.val = 0 then s.endRun g.val else (s.endRun g.val).beginPass g.val).settle)) ∧
      ((s.run 1).phase = 4 → s.runIdle 1 = true → exec (.firingRunEnd 1) s = .next (s.beginPass 1).settle) ∧
      ((s.run 0).phase = 5 → s.runIdle 0 = true → exec (.firingRunEnd 0) s = .next (s.beginPass 0).settle) ∧
      (∀ h : HeadIx, s.accepts (headPage h.val) = true → s.headFires h.val = true → s.fire.holdup = false → s.svc.hold = false →
        (s.fireHead h.val).stopping = false → s.headObeys h.val = true → s.permit h.val = true → s.retired h.val = false →
        ∀ k r, s.freeSlot h.val = some k → s.nextReady h.val = some r →
          (s.journalled r = true → exec (.settingArm h) s = .next (s.armSlot h.val k r).settle) ∧
          (s.journalled r = false → exec (.settingArm h) s = .next (s.recordSetting r).settle)) ∧
      (∀ (h : HeadIx) (segment : Fin 256) (half : Fin 2) (power : List Nat), power.length = 8 →
        (∀ p, (s.fireHead h.val).half = some (2 * segment.val + (1 - half.val), p) →
          exec (.fireMon h segment half power) s =
            .next (s.rpcSegment h.val segment.val (if half.val = 1 then p ++ power else power ++ p)).settle) ∧
        ((∀ p, (s.fireHead h.val).half ≠ some (2 * segment.val + (1 - half.val), p)) →
          exec (.fireMon h segment half power) s = .next (s.setFireHead h.val
            { s.fireHead h.val with half := some (2 * segment.val + half.val, power) }).settle)) ∧
      (∀ (h : HeadIx) (power current : Nat) (temp : BitVec 16),
        let t := s.setLink h.val { s.link h.val with laserPower := power, laserCurrent := current, laserTemp := temp.toInt }
        (t.headFires h.val = false ∨ t.powerOk power = true → exec (.laserMon h power current temp) s = .next t.settle) ∧
        (t.headFires h.val = true → t.powerOk power = false →
          let u := t.dropFiring h.val
          exec (.laserMon h power current temp) s =
            .next (u.setFireHead h.val { u.fireHead h.val with stops := (u.fireHead h.val).stops + 1 }).settle))) ∧
  (∀ s : State,
      (let t := ({ s with fire := { s.fire with holdup := true, holdupAt := s.now } } : State).setFlag journalPage JOURNAL.JR_STAT_SEALED false
       exec .holdup s =
         .next (t.forEach (List.range 33) fun u h => if u.headFires h then u.stopBoundary h else u).holdupSeal.settle) ∧
      (s.endBootHold.fire.holdup = true → s.fire.holdupAt + 100000000 ≤ s.now →
        s.fire.holdup = false ∨ s.flag journalPage JOURNAL.JR_STAT_SEALED = true ∨ s.jr.failAt.isSome = true →
        let b := s.endBootHold
        let t := ({ b with fire := { b.fire with holdup := false, parked := [] } } : State).setFlag journalPage JOURNAL.JR_STAT_SEALED false
        let t := (t.setJr { t.jr with run := t.jr.run + 1 }).jput (runJRec (t.jr.run + 1) 0)
        let t := t.forEach b.fire.parked fun u x => u.seqCmd x.1 1 (x.2.1 + 16 * x.2.2)
        exec .holdupRearm s =
          .next (t.forEach [0, 1] fun u g => if (u.run g).phase = 0 ∨ (u.run g).phase = 3 then u else u.beginPass g).settle) ∧
      (∀ (h : HeadIx) (b : FireEventBody),
        let twins : Prop := ∃ k r, s.slotOfSetting h.val b.setting = some k ∧ s.armed h.val k = some r ∧ r.kind = .forTwin ∧ b.event.val ≠ 3
        (¬ twins → exec (.fireEvent h b) s = .next (s.fireEvent h.val b).holdupSeal.settle) ∧
        (twins → exec (.fireEvent h b) s = .next ((s.fireEvent h.val b).tSend clsFire
          (.fireReport h.val b.setting b.event.val b.segment.val none)).holdupSeal.settle)) ∧
      (∀ (lane : LaneOf) (zone : ZoneIx),
        let k := 300 * lane.val + zone.val
        (s.zone k).replaying = true → s.pool.wants = [] → s.journalUnread = false →
        let t := (s.mergeRecords fun r => decide (r.zone = k)).adoptFired k
        let z := t.zone k
        let t := ((t.replayFrom k (z.enc - z.fired) z.fired).advanceFired k).recheck k
        let flags := (if (t.zone k).gen ≠ z.gen then 8 else 0) + if t.st.stripes.any fun x => decide (x.zone = k) && x.replay then 16 else 0
        let u := t.intAfter k 1 flags
        exec (.journalReplay lane zone) s =
          .next ((u.setZone k { u.zone k with replaying := false }).replayOver.stgShow).settle))

/-- Scans, calibration, verdicts and write retirement (R259, R262, R274, R277, R291, R322, R395). -/
def Obligations.BisqueAndTraceCommands : Prop :=
  ∀ s : State,
    (∀ (h : HeadIx) g, s.figFor h.val .blankScan = some g →
      exec (.blankScanDone h) s = .next (s.blankScanned h.val g).settle) ∧
    (∀ (h : HeadIx) r rest,
      let tests := (s.fireHead h.val).await.filter fun r => decide (r.kind.rank = 0)
      tests = r :: rest → (∀ x ∈ tests, (s.figOf h.val x.sa).isSome = true) →
      exec (.calibration h () ()) s = .next (s.calibrateHead h.val tests r).settle) ∧
    (∀ (h : HeadIx) r x g,
      let read (r : ReadySet) : Bool := match s.setting h.val r.sa, s.figOf h.val r.sa with
        | some x, some _ => decide (x.why = .bisque) && decide (x.step = .blocks)
        | _, _ => false
      (s.fireHead h.val).await.find? read = some r → s.setting h.val r.sa = some x → s.figOf h.val r.sa = some g →
      exec (.bisqueVerdict h) s = .next (s.giveVerdict h.val r x g).settle) ∧
    (∀ (h : HeadIx) cause, s.retired h.val = false → s.retireDue h.val cause = true →
      exec (.writeRetirement h cause) s = .next (s.retireHead h.val (retireCode cause)).settle) ∧
    (∀ ok : Bool, s.jr.failAt = none → exec (.xspiWriteDone ok) s = .next (s.xspiDone ok).sendDueMembers.holdupSeal.settle) ∧
    (∀ (slot : SlotIx) (bank : Fin 2),
      exec (.bankCrcRecompute slot bank) s =
        .next (s.setFld (ceSlot slot.val) (if bank.val = 0 then CESLOT.BANK_CRC_A else CESLOT.BANK_CRC_B)
          (s.bankCrc slot.val bank.val)).settle) ∧
    (s.flag ctrlengPage CTRLENG.TRACE_CFG_START = true → s.ce.traceLeft = 0 →
      ∃ t, exec .traceFull s = .next t ∧ t.flag ctrlengPage CTRLENG.TRACE_CFG_START = false)

/-- The axes (R358, R362, R365-R367, R369). -/
def Obligations.AxisCommands : Prop :=
  ∀ s : State,
    (∀ a : AxisIx, s.axMoving a.val = true → s.axArrived a.val = true →
      let u := s.axSync a.val
      let x := u.axis a.val
      let t := u.setAxis a.val { x with travel := x.travel + moveLen x.start (u.axPos a.val) }
      (x.stopping = false → x.mode = .move → exec (.moveEnd a ()) s = .next (t.moveEnds a.val).settle) ∧
      (x.stopping = false → x.mode = .presence → exec (.moveEnd a ()) s = .next (t.presenceSeen true).settle) ∧
      (∀ rest, x.stopping = false → x.mode = .home 5 rest → exec (.moveEnd a ()) s = .next (t.homeDone a.val).settle) ∧
      (∀ step, x.stopping = false → x.mode = .home step true → 1 ≤ step → step ≤ 3 →
        exec (.moveEnd a ()) s = .next (t.homeStep a.val (step + 1)).settle) ∧
      (∀ step, x.stopping = false → x.mode = .home step false → step ≠ 5 →
        let v := t.setAxis a.val { t.axis a.val with made := 0, start := t.axPos a.val, segs := cruiseSeg x.prof.vMax 1, t0 := t.now, run := 0 }
        exec (.moveEnd a ()) s = .next (v.homeNotFound a.val).settle) ∧
      (x.stopping = true → x.fault = 0 → exec (.moveEnd a ()) s = .next (t.endMotion a.val 2 0).settle) ∧
      (x.stopping = true → x.fault ≠ 0 → exec (.moveEnd a ()) s = .next (t.endMotion a.val 3 x.fault).settle)) ∧
    (∀ a : AxisIx, isSled a.val = false → s.axCfg a.val AXIS.SW_CFG_HOLD_EN ≠ 1 → s.axMoving a.val = false →
      (s.axis a.val).endAt + 1000000 * s.axCfg a.val AXISP.STEP_CFG_EN_LAG ≤ s.now →
      let t := s.setAxEn a.val false
      exec (.enLagExpiry a) s = .next (if t.axState a.val = 1 then t.setAxState a.val 0 else t).settle) ∧
    (∀ (a : AxisIx) sw level stable,
      (isSled a.val = true → exec (.switchAccepted a sw level stable ()) s = .next (s.sledAccept a.val sw).settle) ∧
      (isSled a.val = false → s.debounce a.val ≤ stable → exec (.switchAccepted a sw level stable ()) s = .next
        ((s.axSync a.val).switchAccepted a.val sw (s.switchActive a.val sw level) (s.axPosAgo a.val stable)).settle) ∧
      (isSled a.val = false → stable < s.debounce a.val →
        exec (.switchAccepted a sw level stable ()) s = .next s.settle)) ∧
    (∀ (a : AxisIx) sw (ages : List Nat),
      let b := axisBlock a.val
      let seen := if isSled a.val then ((s.axis a.val).raw sw).edges.map fun t => s.now - t else ages
      s.fldIn b AXIS.SW_CFG_CHAT_N 2 255 < (seen.filter fun t => decide (t ≤ 1000000 * s.fldIn b AXIS.SW_CFG_CHAT_WIN 1 255)).length →
      s.fld b AXIS.AX_STAT_FAULT ≠ 2 → (s.axis a.val).fault ≠ 2 →
      let t := (s.istat motionPage 12).event motionPage 0x7302 4 0xFF a.val
      (t.axMoving a.val = true → exec (.switchChatter ⟨a, sw, ages⟩) s = .next (t.stopAxis a.val 2).settle) ∧
      (t.axMoving a.val = false → exec (.switchChatter ⟨a, sw, ages⟩) s =
        .next (((t.setAxFault a.val 2).setAxState a.val 5).istat motionPage 9).settle)) ∧
    (∀ (h : HeadIx) (home far : Bool) (pos : Int),
      let s1 := (s.sledSwitch h.val .home home).sledSwitch h.val .far far
      s1.headObeys h.val = true →
      let d := pos - s1.axPos h.val
      ((s1.axis h.val).ofs = none →
        exec (.sledMsg h home far pos) s = .next (s1.setAxis h.val { s1.axis h.val with ofs := some d }).settle) ∧
      (∀ o, (s1.axis h.val).ofs = some o →
        ((d - o).natAbs ≤ 64 → exec (.sledMsg h home far pos) s = .next s1.settle) ∧
        (64 < (d - o).natAbs →
          let t := (s1.setAxFault h.val 5).setFlag (axisBlock h.val) AXIS.AX_STAT_REFD false
          let t := if t.axMoving h.val then t.stopAxis h.val 5 else t.setAxState h.val 5
          let t := t.setAxis h.val { t.axis h.val with ofs := some d }
          exec (.sledMsg h home far pos) s = .next ((t.istat motionPage 9).event motionPage 0x7305 3 0xFF h.val).settle)))

/-- The segments of a band (R176, R186-R195, R197, R198, R217).
What leaves the shelf of a head is copied to the re-decode store, or dropped (R197, R198). -/
def Obligations.ReadChannelCommands : Prop :=
  (∀ (h : HeadIx) (s : State),
      let b := s.band h.val
      (∀ (ahead : Nat) (edgeEmpty : Bool),
        (s.cellsRun h.val = true → exec (.segmentVote h ⟨ahead, edgeEmpty⟩) s = .next (s.voteSegment h.val ahead edgeEmpty).settle) ∧
        (s.cellsRun h.val = false → exec (.segmentVote h ⟨ahead, edgeEmpty⟩) s = .next s.settle)) ∧
      (∀ sa, b.missAt = some sa → 3 ≤ b.miss → s.cellsRun h.val = true →
        let t := s.triggerReacq h.val true
        let t := t.setBand h.val { t.band h.val with miss := 0, missAt := none, expect := none }
        let layer := saLayer sa
        let band := bandOfSetting (saSetting sa)
        let back (u : State) : State := State.seqAddress (u.setSeq h.val { u.seq h.val with
          op := 16, phase := .address, layer := u.seqLayer h.val, band := u.seqBand h.val, jumps := 0, seeks := 0 }) h.val layer band
        (t.headObeys h.val = false → exec (.bandLost h) s = .next t.settle) ∧
        (t.headObeys h.val = true → (t.seq h.val).op = 0 → exec (.bandLost h) s = .next (back t).settle) ∧
        (t.headObeys h.val = true → (t.seq h.val).op ≠ 0 →
          ((t.seq h.val).phase = .address → exec (.bandLost h) s = .next (t.seqAddress h.val layer band).settle) ∧
          ((t.seq h.val).phase = .stepHold →
            exec (.bandLost h) s = .next (back ((t.undoStep h.val).seqResult h.val 5 5)).settle) ∧
          ((t.seq h.val).phase ≠ .address → (t.seq h.val).phase ≠ .stepHold →
            exec (.bandLost h) s = .next t.settle))) ∧
      (s.bandMode h.val = 2 ∨ s.bandMode h.val = 3 → b.lockOut = true →
        exec (.bandLockLost h) s = .next (s.triggerReacq h.val true).settle) ∧
      (b.reacq = true → s.cellsRun h.val = true → (∀ sa seg, b.expect = some (sa, seg) → seg = 0) →
        exec (.reacquisitionStart h) s = .next (s.startAcq h.val true).settle) ∧
      (s.bandMode h.val = 1 → 2 ≤ b.run → s.cellsRun h.val = true →
        let t := ((s.setBandMode h.val 2).setBand h.val { b with again := false }).refreshHead h.val
        exec (.bandLocked h) s =
          .next (if b.again then (t.istat (bandPage h.val) 8).event (bandPage h.val) (headCode h.val 0x204) 1 else t).settle) ∧
      (∀ sa, b.expect = some (sa, 0) → s.cellsRun h.val = true →
        exec (.ringBoundary h) s = .next (s.placeBand h.val sa).settle) ∧
      exec (.bandConfigApply h) s =
        .next (if (s.bandApply h.val).1 then (s.bandApply h.val).2.headOut h.val else (s.bandApply h.val).2).settle) ∧
  (∀ (h : HeadIx) (s : State),
      let b := s.band h.val
      (∀ x r, b.shelf = x :: r → 128 < b.shelf.length →
        let fresh := match b.group with
          | [] => true
          | y :: _ => !(decide (y.sa = x.sa) && decide (y.seg = x.seg))
        let weakPiece (y : Piece) : Bool := s.pieceWeak y && !s.pool.caps.any y.same && !s.pieceOver y
        let group := if fresh then b.shelf.filter fun y => decide (y.sa = x.sa) && decide (y.seg = x.seg) && weakPiece y else b.group
        let t := s.setBand h.val { b with shelf := r, group := group }
        let weak := weakPiece x = true ∧ s.bfld h.val BAND.SHELF_CFG_CAPTURE_EN = 1
        let worse := (group.filter fun y =>
          decide (x.mse < y.mse) || (decide (x.mse = y.mse) && decide (y.beam < x.beam))).length
        (¬ weak → exec (.pieceLeavesShelf h) s = .next t.settle) ∧
        (weak → worse < s.bfld h.val BAND.SHELF_CFG_WEAK_CAP → exec (.pieceLeavesShelf h) s = .next (t.shelfCopy x true).settle) ∧
        (weak → s.bfld h.val BAND.SHELF_CFG_WEAK_CAP ≤ worse →
          exec (.pieceLeavesShelf h) s = .next (t.shelfDrop h.val false).settle)) ∧
      (∀ sa c, s.pool.failed.find? (fun x => decide (x.1 = h.val)) = some (h.val, sa, c) → s.bfld h.val BAND.SHELF_CFG_FAIL_COPY = 1 →
        let t := s.setPool { s.pool with failed := s.pool.failed.erase (h.val, sa, c) }
        exec (.failedCodewordCopy h) s = .next (t.forEach
          (b.shelf.filter fun x => decide (x.sa = sa) && decide (x.slot = c) && !s.pool.caps.any x.same)
          fun u x => u.shelfCopy x false).settle))

/-- Decodes and the steps of the ladder (R200, R202, R222, R241, R242, R249).
The pool (R218, R223-R225, R257): band reads, pieces and codewords. -/
def Obligations.LadderAndPoolCommands : Prop :=
  (∀ s : State,
      (∀ (cell : Fin 18) j, s.cellJob cell.val = some j → s.flag ldpcPage HDR.ISOLATE = false →
        exec (.decodeResult cell () () ()) s = .next (s.decodeEnds cell.val j (ldpcDecode j.norm j.limit j.llrs)).settle) ∧
      (∀ (h : HeadIx) x r, s.redetNext h.val = some (x, r) →
        let y : SettingRd := { x with todo := x.todo.drop 1 }
        (s.redetCell h.val = none → exec (.redetectionRequest h) s = .next (s.passDecode y).settle) ∧
        (∀ c y, s.redetCell h.val = some c → s.capAt x.head x.sa r.slot r.beam = some y →
          storeFind (fun _ => none) s.pool.redet c = none →
          let run := { r with taps := s.redetTaps y r.set, canc := (s.curVals x.head r.beam).canc }
          let t := s.setPool { s.pool with redet := storePut (fun _ => none) s.pool.redet c (some (x.head, x.sa, run)) }
          exec (.redetectionRequest h) s = .next (t.setFlag (bandPage c) BAND.CC_MAP_REDET_BUSY true).settle)) ∧
      (∀ (h : HeadIx) hh sa r x y, storeFind (fun _ => none) s.pool.redet h.val = some (hh, sa, r) →
        let t := s.setPool { s.pool with redet := storePut (fun _ => none) s.pool.redet h.val none }
        let t := t.setFlag (bandPage h.val) BAND.CC_MAP_REDET_BUSY false
        t.setting hh sa = some x → t.capAt hh sa r.slot r.beam = some y →
        let z := { x with todo := x.todo.filter fun y => decide (y ≠ { r with taps := [], canc := [] }) }
        let res := t.redetRun y r (z.slot r.slot).ext
        let took (w : Piece) : Piece := if w = y then Piece.tookSet w r.set (res.mse.getD worstMse) else w
        let u := t.setPool { t.pool with caps := t.pool.caps.map took }
        exec (.redetectionDone h ()) s =
          .next ((u.count (bandPage h.val) BAND.REDET_CNT).passDecode (z.takeRedet r res.llrs)).settle) ∧
      (∀ (h : HeadIx) sa x, s.setting h.val sa = some x → x.step = .norev → x.norevStart + 10000 * x.cfg.budget ≤ s.now →
        let out := s.pool.redet.any fun y => match y.2 with
          | some (hh, a, _) => decide (hh = x.head) && decide (a = sa)
          | none => false
        let t := s.putSetting { x with todo := if out then x.todo.take 1 else [], cfg := { x.cfg with altMask := 0, turboMax := 0, slideMax := 0 } }
        (out = true → exec (.norevBudgetExpiry h sa) s = .next t.settle) ∧
        (∀ y, out = false → t.setting h.val sa = some y → exec (.norevBudgetExpiry h sa) s = .next (t.passDecode y).settle)) ∧
      (∀ (h : HeadIx) sa x, s.setting h.val sa = some x → x.rung 6 = true → s.flag outerPage HDR.ISOLATE = false →
        x.step = .outer ∨ (x.step = .revOuter ∧ x.decoding = []) →
        exec (.outerAttemptDone h sa) s = .next ((s.outerAttempt x).startRev h.val).settle) ∧
      (∀ h : HeadIx, exec (.revolutionStepDone h) s = .next (s.revolutionDone h.val).settle) ∧
      (∀ (h : HeadIx) sa x t0, s.setting h.val sa = some x → x.since = some t0 → t0 + 1000000 * x.cfg.tmo ≤ s.now →
        x.timedOut = false → x.step ≠ .blocks → x.step ≠ .l7 →
        let t := (s.count outerPage OUTER.LADDER_TIMEOUT).event outerPage 0x4105 4 0xFF sa
        let y : SettingRd := { x with timedOut := true }
        exec (.ladderTimeout h sa) s = .next (if x.step = .revWait then t.toBlocks y else t.putSetting y).settle)) ∧
  (∀ s : State,
      (∀ (h : HeadIx) r,
        let u := s.startRev h.val
        u.nextRead h.val = some r → u.accepts (headPage h.val) = true → u.accepts (bandPage h.val) = true →
        (∀ x ∈ u.pool.wants, x.head = h.val → x.on = false) → (∀ x ∈ u.pool.settings, x.head = h.val → x.step ≠ .rev) →
        u.flag (bandPage h.val) BAND.BAND_STAT_NO_READ = false →
        u.flag (wheelPage (wheelOfHead h.val)) WHEEL.WH_STAT_ROTOR_UNSURE = false →
        u.fld (firestatPage h.val) FIRESTAT.STATE ≠ 2 → u.fld (firestatPage h.val) FIRESTAT.STATE ≠ 3 →
        u.admits (ringOfSetting (saSetting r.sa)) = true →
        exec (.bandReadStart h) s = .next (u.startBandRead h.val r.sa).settle) ∧
      (∀ a r, s.pool.arrivals = a :: r → s.flag ldpcPage HDR.ISOLATE = false →
        exec .pieceFiled s = .next ((s.filePiece a r).ladderStep a.head a.sa).settle) ∧
      (∀ j r,
        let max := s.fldIn ldpcPage LDPC.ERASE_MAX 0 8192
        let runs (t : State) : Prop :=
          (max < erasedBits j.llrs → exec .decodeStart s = .next (t.eraseSkip j).settle) ∧
          (∀ c, erasedBits j.llrs ≤ max → s.accepts ldpcPage = true → s.nextCell = some c →
            let limit := if j.rung = 0 then s.fldIn ldpcPage LDPC.ITER_CFG_ITER_L0 1 63 else s.fldIn ldpcPage LDPC.ITER_CFG_ITER_L1 1 63
            let u := t.setCell c (some { j with norm := s.fldIn ldpcPage LDPC.ITER_CFG_NORM 8 15, limit := limit })
            exec .decodeStart s = .next
              (u.setPool { u.pool with rr := if s.pool.rr.1 = c then (c, s.pool.rr.2 + 1) else (c, 1) }).showQueues.settle)
        (s.classB = true → s.pool.queueB = j :: r → runs (s.setPool { s.pool with queueB := r })) ∧
        (s.classB = false → s.pool.queueA = j :: r → runs (s.setPool { s.pool with queueA := r }))))

/-- Host reads, writes and flushes that pass their checks (R247, R464, R467-R472, R477, R478, R390, R391).
Zone management of one zone (R471, R475, R476): the states from which each action goes ahead. -/
def Obligations.HostIoCommands : Prop :=
  (∀ (c : ConnIx) (cid ns : Nat) (s : State), s.FreshIo c.val cid →
      (∀ (slba nlb : Nat) n k j x,
        let t := s.setWork c.val cid 1 .fresh
        let u := t.setWork c.val cid 1 (.read ns k j nlb)
        t.ioPlace c.val ns slba = .ok (n, k, j) → sizeOk n nlb false = true → slba + nlb ≤ n.zones * zsze → j + nlb ≤ zsze →
        (t.zone k).state ≠ 6 → u.ctx c.val cid = some x →
        exec (.readCommand c cid ns slba nlb) s = .next (u.readGo x ns k j nlb).urgentShow.settle) ∧
      (∀ (slba nlb : Nat) (fua append zeroes : Bool) n k j x,
        let t := s.setWork c.val cid 2 .fresh
        let z := t.zone k
        let start := z.wp + t.pendingLbas k
        let new := z.state = 0 ∨ z.state = 3
        let u := (if z.state = 0 ∨ z.state = 3 then t.openZone ns n k 1 else t).setWork c.val cid 2
          (.write ns k start nlb fua append zeroes false)
        let goes (i : Instr) : Prop :=
          exec i s = .next (u.writeGo x ns k start nlb fua append zeroes false).urgentShow.settle
        t.ioPlace c.val ns slba = .ok (n, k, j) → nlb ≠ 0 → (zeroes = true ∨ sizeOk n nlb append = true) →
        z.state ≠ 4 → z.state ≠ 5 → z.state ≠ 6 → (if append then j = 0 else j = start) →
        start + nlb ≤ (if z.state = 0 then t.newZcap k else z.zcap) → (new → t.openLimit ns z = none) →
        u.ctx c.val cid = some x →
        (append = false → zeroes = false → goes (.writeCommand c cid ns slba nlb fua)) ∧
        (append = true → zeroes = false → goes (.zoneAppend c cid ns slba nlb fua)) ∧
        (append = false → zeroes = true → goes (.writeZeroes c cid ns slba nlb fua))) ∧
      (∀ x, ns ≠ 0xFFFFFFFF → s.nsRefusal c.val ns = none →
        let ks := (s.st.zones.filter fun e => [ns].contains e.2.ns && decide (1 ≤ e.2.state ∧ e.2.state ≤ 5)).map fun e => (e.1, 0)
        let t := s.setWork c.val cid 0 (.flush ks)
        t.ctx c.val cid = some x →
        exec (.nvmeFlush c cid ns) s = .next (t.flushGo x ks).urgentShow.settle) ∧
      (∀ slba : Nat, s.nsRefusal c.val ns = none →
        exec (.setZoneDescriptorExt c cid ns slba) s = .next (s.complete c.val cid .invalidField).urgentShow.settle)) ∧
  (∀ (c : ConnIx) (cid ns slba : Nat) (s : State) n k, s.FreshIo c.val cid → s.ioPlace c.val ns slba = .ok (n, k, 0) →
      let st := (s.zone k).state
      let ends (t : State) : Res := .next (t.complete c.val cid .ok).urgentShow.settle
      (st = 1 → exec (.zoneOpen c cid ns slba false) s = ends (s.zoneTo k 2)) ∧
      (st = 0 ∨ st = 3 → s.openLimit ns (s.zone k) = none →
        exec (.zoneOpen c cid ns slba false) s = ends (s.openZone ns n k 2)) ∧
      (st = 1 ∨ st = 2 → exec (.zoneClose c cid ns slba false) s = ends (s.zoneTo k 3)) ∧
      (∀ x, st ≠ 4 → st ≠ 5 → st ≠ 6 →
        let t := (s.finishZone ns n k).setWork c.val cid 0 (.finish [k])
        t.ctx c.val cid = some x →
        exec (.zoneFinish c cid ns slba false) s = .next (t.finishGo x [k]).urgentShow.settle) ∧
      (st ≠ 0 → st ≠ 5 → st ≠ 6 → s.holdsFired k = false →
        exec (.zoneReset c cid ns slba false) s = .next ((s.resetZone k).complete c.val cid .ok).hostProgress.settle) ∧
      (st = 5 → exec (.zoneOffline c cid ns slba false) s = ends (s.zoneTo k 6)) ∧
      (st = 4 → ∀ i, i = .zoneOpen c cid ns slba false ∨ i = .zoneClose c cid ns slba false →
        exec i s = .next (s.complete c.val cid .zoneTransition).urgentShow.settle))

/-- What lets waiting host commands go on (R246, R248, R390, R391, R407, R477, R498, R530, R532). -/
def Obligations.HostProgressCommands : Prop :=
  ∀ s : State,
    (∀ (c : ConnIx) (cid : Nat) x ns k first n fua append zeroes, s.ctx c.val cid = some x →
      x.work = .write ns k first n fua append zeroes false → s.stgAccepts = false →
      x.since + 100000000 * s.fldIn nvmePage NVME.CTX_CFG_STG_WAIT_MAX 1 255 ≤ s.now →
      exec (.stagingWaitExpiry c cid) s = .next (s.complete c.val cid (.interrupted 3)).hostProgress.settle) ∧
    (∀ (h : HeadIx) (sa : Nat) (blk : BlockIx),
      (s.flag mediacryptPage HDR.ISOLATE = false →
        exec (.gcmVerifyDone h sa blk ()) s = .next (s.gcmVerified h.val sa blk.val).hostProgress.settle) ∧
      (s.flag stripePage HDR.ISOLATE = false →
        exec (.reconstructionDone h sa blk ()) s = .next (s.reconstructed h.val sa blk.val).hostProgress.settle)) ∧
    exec .writeCompletion s = .next s.hostProgress.settle ∧
    (∀ (c : ConnIx) (cid : Nat) (img : FwImage), s.freshAdmin c.val cid = true → s.hasRight c.val 4 = true →
      s.paired = true → s.twinActivating = false → s.host.fw = some img →
      let k := s.imageCheck img
      let t := (((k.2.storeImage img).complete c.val cid .ok).notice .fwAct).event nvmePage 0x6107 2
      exec (.firmwareCommitActivate c cid) s = .next (if k.1 = true
        then State.handAll ((t.setHost { t.host with fwAt := t.now }).setFld nvmePage NVME.FW_ACT 1)
        else (k.2.setHost { k.2.host with fw := none }).complete c.val cid .invalidImage).settle) ∧
    (s.fld nvmePage NVME.FW_ACT = 1 ∨ s.fld nvmePage NVME.FW_ACT = 2 → s.host.fwAt + 2000000000 ≤ s.now →
      exec .fwActivationDrainEnd s = .next (State.chipReset ((s.forEach (s.host.ctxs.filter fun x => decide (x.work ≠ .aer))
        fun u x => u.drainEnd x).setFld nvmePage NVME.FW_ACT 3) 1).settle) ∧
    (∀ sig : List Nat,
      exec (.debugUnlock sig) s = .next (if s.unlockSigned sig = false then s.event tePage 0x8102 7
        else if s.paired = false then s.unlockNow
        else State.handAll (s.setTe { s.te with unlocking := some s.now })).settle)

/-- Ethernet and TCP (R456-R460, R497). -/
def Obligations.NetworkCommands : Prop :=
  ∀ s : State,
    (∀ (p : PortIx) (lanes : BitVec 8) (fec74 : Bool),
      let b := ethPage p.val
      let l := lanes.toNat
      s.flag b ETH.ETH_STAT_LINK = false →
      (p.val = portM → bitOf l 0 = true → exec (.ethLinkUp p lanes fec74) s =
        .next (((s.setFlag b ETH.ETH_STAT_AN_DONE true).setFlag b ETH.ETH_STAT_FEC74 fec74).portUp portM 4 1).settle) ∧
      (p.val = portT → s.fld nvmePage NVME.PS_CUR < 3 → l % 16 = 15 →
        exec (.ethLinkUp p lanes fec74) s = .next (s.portUp portT 2 0x0F).settle) ∧
      (p.val < portT → s.fld nvmePage NVME.PS_CUR < 3 → s.cfg b ETH.ETH_CFG_RATE ≠ 2 → p.val ∉ s.host.fallback → l = 0xFF →
        exec (.ethLinkUp p lanes fec74) s = .next (s.portUp p.val 1 0xFF).settle) ∧
      (∀ mode ok, p.val < portT → s.fld nvmePage NVME.PS_CUR < 3 → s.cfg b ETH.ETH_CFG_RATE = 2 ∨ p.val ∈ s.host.fallback →
        laneGroup l = some (mode, ok) →
        exec (.ethLinkUp p lanes fec74) s = .next (s.portUp p.val mode ok).settle)) ∧
    (∀ (p : PortIx) (lanes : BitVec 8) mode ok, p.val < portT → s.cfg (ethPage p.val) ETH.ETH_CFG_RATE = 0 → lanes.toNat ≠ 0xFF →
      s.flag (ethPage p.val) ETH.ETH_STAT_LINK = true ∨ storeFind (fun _ => 0) s.host.linkStart p.val + 500000000 ≤ s.now →
      laneGroup lanes.toNat = some (mode, ok) →
      let t := s.setHost { s.host with fallback := (p.val :: s.host.fallback).eraseDups }
      exec (.ethLinkFallback p lanes) s =
        .next (((t.portUp p.val mode ok).istat (ethPage p.val) 10).event (ethPage p.val) 0x6102 3).settle) ∧
    (∀ p : PortIx, s.flag (ethPage p.val) ETH.ETH_STAT_LINK = true →
      exec (.ethLinkDown p) s = .next (s.portDown p.val).settle) ∧
    (∀ (p : PortIx) (len : Nat), s.flag (ethPage p.val) ETH.ETH_STAT_LINK = true → s.flag (ethPage p.val) HDR.ISOLATE = false →
      let b := ethPage p.val
      let tag := s.fld b ETH.VLAN_VID
      let t := s.count b ETH.RX_FRAMES
      let drop (f : RxFrame) : Prop := exec (.ethFrameReceive p ⟨tag, len, f⟩) s = .next (t.count b ETH.RX_DROP).settle
      (∀ f, 9216 < len → f ≠ .badFcs → drop f) ∧
      (∀ tag' ip, tag' ≠ tag → exec (.ethFrameReceive p ⟨tag', len, (.tcp4 ip)⟩) s = .next (t.count b ETH.RX_DROP).settle) ∧
      (len ≤ 9216 →
      exec (.ethFrameReceive p ⟨tag, len, .badFcs⟩) s = .next (s.count b ETH.RX_FCS_ERR).settle ∧
      drop .pause ∧ drop .otherMac ∧ drop .fragment ∧ drop .options ∧ drop .extHeader ∧
      (∀ mask, exec (.ethFrameReceive p ⟨tag, len, (.pfc mask)⟩) s =
        .next ((t.count b ETH.PFC_RX).setFld b ETH.ETH_STAT_PFC_PAUSED (mask.toNat &&& (t.fld b ETH.ETH_CFG_PFC_EN))).settle) ∧
      (∀ ip, p.val ≠ portT →
        (s.hasIp4 p.val ip = true → exec (.ethFrameReceive p ⟨tag, len, (.arp ip)⟩) s = .next (t.answerFrame p.val (.arp ip)).settle ∧
          exec (.ethFrameReceive p ⟨tag, len, (.icmp4 ip)⟩) s = .next (t.answerFrame p.val (.icmp4 ip)).settle) ∧
        (s.hasIp4 p.val ip = false → drop (.arp ip) ∧ drop (.icmp4 ip) ∧ drop (.tcp4 ip))) ∧
      (∀ ip, p.val ≠ portT →
        (s.hasIp6 p.val ip = true → exec (.ethFrameReceive p ⟨tag, len, (.ndp ip)⟩) s = .next (t.answerFrame p.val (.ndp ip)).settle) ∧
        (s.hasIp6 p.val ip = false → drop (.ndp ip) ∧ drop (.icmp6 ip) ∧ drop (.tcp6 ip))))) ∧
    (∀ c : ConnIx, exec (.connectionLoss c) s = .next (s.loseConn c.val 2).psGo.settle) ∧
    (∀ (a : Fin 64) x, s.assoc (a.val + 1) = some x → x.kato ≠ 0 → x.last + 1000000 * x.kato ≤ s.now → exec (.keepAliveExpiry a) s =
      .next ((s.endAssoc (a.val + 1) 2).event nvmePage 0x6105 3 0xFF (a.val + 1)).psGo.settle) ∧
    (∀ a : Fin 64, exec (.controllerReset a false) s = .next (s.resetAssoc (a.val + 1)).psGo.settle ∧
      exec (.controllerReset a true) s =
        .next (s.forEach (s.host.assocs.map fun e => e.1) State.resetAssoc).psGo.settle)

/-- Connections: TCP, TLS and the NVMe/TCP start (R460-R464). -/
def Obligations.ConnectionCommands : Prop :=
  ∀ (c : ConnIx) (s : State),
    (∀ (p : PortIx) (seg : TcpSeg), p.val < portT → s.flag (ethPage p.val) ETH.ETH_STAT_LINK = true → s.conn c.val = none →
      s.flag (ethPage p.val) HDR.ISOLATE = false → s.flag nvmePage HDR.ISOLATE = false →
      seg.rst = false → seg.ack = false → seg.syn = true → s.listens seg.dst = true →
      ∃ k t, exec (.tcpSegment c p seg) s = .next t ∧ t.conn c.val = some k ∧ k.tcp = .synRcvd ∧ k.port = p.val ∧
        k.rcvNxt = (seg.seq + 1) % 2 ^ 32 ∧ k.tls = none ∧ k.ic = false ∧ k.assoc = none ∧ k.mss = s.mss p.val seg.six ∧
        t.out = s.out ++ [.tcpSyn c.val k.sndUna k.rcvNxt k.mss]) ∧
    (∀ k, s.conn c.val = some k → k.timer + k.rto ≤ s.now →
      exec (.tcpRetransmitTimeout c) s = .next ((s.setConn c.val
        (some { k with rto := min 1000000000 (2 * k.rto), timer := s.now })).send
        (if k.tcp = .synRcvd then .tcpSyn c.val k.sndUna k.rcvNxt k.mss
          else .tcp c.val false true false false k.sndUna k.rcvNxt)).settle) ∧
    (∀ k (psk : Nat) (suite128 ok : Bool), s.conn c.val = some k → k.tcp = .established → k.tls = none → k.ic = false →
      s.accepts tlsPage = true →
      let held := ∃ e ∈ s.te.psks, e.1 = psk ∧ e.2.1 = if suite128 then 1 else 2
      let good := ok = true ∧ held ∧ (suite128 = false ∨ s.flag tlsPage TLS.TLS_CFG_SUITE_128 = true)
      (good → exec (.tlsHandshake c psk suite128 ok) s =
        .next ((s.setConn c.val (some { k with tls := some suite128 })).count tlsPage TLS.HS_OK).hostShow.settle) ∧
      (¬ good → exec (.tlsHandshake c psk suite128 ok) s =
        .next ((((s.count tlsPage TLS.HS_FAIL).istat tlsPage 8).event tlsPage 0x6103 7).finish c.val).settle)) ∧
    (∀ k (psk : Nat) (suite128 : Bool), s.conn c.val = some k → k.tls.isSome = true →
      exec (.tlsHandshake c psk suite128 true) s = .next (s.count tlsPage TLS.KEY_UPDATES).settle ∧
      exec (.tlsHandshake c psk suite128 false) s = .next (s.badRecord c.val).settle) ∧
    (∀ k (hdgst ddgst : Bool) (maxr2t : Nat), s.conn c.val = some k → k.tcp = .established →
      (s.flag tlsPage TLS.TLS_CFG_REQUIRE = true → k.tls = none →
        exec (.icreq c 0 hdgst ddgst maxr2t) s = .next (s.finish c.val).settle) ∧
      (s.flag tlsPage TLS.TLS_CFG_REQUIRE = false ∨ k.tls ≠ none → k.ic = false →
        exec (.icreq c 0 hdgst ddgst maxr2t) s = .next ((s.setConn c.val (some { k with
          ic := true, hdgst := hdgst, ddgst := ddgst, maxR2t := min 4 (maxr2t + 1) })).send (.icResp c.val hdgst ddgst)).settle)) ∧
    (∀ k (cid : Nat) (data : List Nat), s.conn c.val = some k → k.ic = true → data.length ≤ 8192 → s.ctx c.val cid = none →
      (k.stopped = false → s.ctxRoom c.val = true →
        exec (.capsuleCmd c cid data .good) s = .next (s.takeCtx c.val cid data).settle) ∧
      (k.stopped = true ∨ s.ctxRoom c.val = false → s.host.exhausted = true →
        exec (.capsuleCmd c cid data .good) s =
          .next (s.setConn c.val (some { k with stopped := true, window := k.window ++ [(cid, data)] })).settle)) ∧
    (∀ k (cid : Nat) (data : List Nat), s.conn c.val = some k → k.ic = true →
      (k.tls.isSome = true → exec (.capsuleCmd c cid data .badRecord) s = .next (s.badRecord c.val).settle) ∧
      (k.hdgst = true ∨ k.ddgst = true →
        exec (.capsuleCmd c cid data .badDigest) s = .next (s.terminate c.val).settle)) ∧
    (∀ k x (cid : Nat) (bytes : List Nat) ns kz j n fua append d, s.conn c.val = some k → s.ctx c.val cid = some x →
      x.work = .write ns kz j n fua append false true → s.nsp ns = some d → bytes.length ≤ 131072 →
      x.data.length + bytes.length ≤ n * d.lbaBytes →
      exec (.h2cData c cid x.data.length bytes .good) s =
        .next (s.setCtx { x with data := x.data ++ bytes }).hostProgress.settle) ∧
    exec (.h2cTermReq c) s = .next (s.finish c.val).settle ∧
    (∀ k x (cid host size cntlid kato : Nat) (disc : Bool), s.conn c.val = some k → s.ctx c.val cid = some x → x.work = .fresh →
      k.assoc = none → (s.aclOf host).isSome = true → (disc = false ∨ s.flag chipPage CHIP.ROLE = true) →
      (∀ i, (List.range 64).find? (fun i => (s.assoc (i + 1)).isNone) = some i → size ≠ 0 → size ≤ 32 → cntlid = 0xFFFF →
        let a : Assoc := { host := host, disc := disc, kato := (kato + 99) / 100 * 100, last := s.now, acre := false, aec := 0, aers := [], pend := [], ps := 0,
                           auto := 0, apst := false, errs := [] }
        let t := (s.setAssoc (i + 1) (some a)).setConn c.val (some { k with assoc := some (i + 1), qid := 0, size := size })
        exec (.nvmeConnect c cid host disc 0 size cntlid kato) s =
          .next (((t.hostShow).istat nvmePage 8).complete c.val cid .ok (s.side * 0x100 + i + 1)).psGo.settle) ∧
      (∀ qid, qid ≠ 0 → exec (.nvmeConnect c cid host disc qid size cntlid kato) s =
        .next (s.connectIo c.val cid k host qid size cntlid).settle))

/-- Admin commands that read (R465, R479, R485-R489).
Admin commands that set (R478, R492, R494, R495, R497-R499, R530): each completes without error. -/
def Obligations.AdminCommands : Prop :=
  (∀ (c : ConnIx) (cid : Nat) (s : State), s.freshAdmin c.val cid = true →
      let data (d : List Nat) : State := s.complete c.val cid .ok 0 d
      (∀ ns : Nat, exec (.nvmeIdentify c cid 1 ns) s = .next (data (s.identifyController c.val)).settle ∧
        exec (.nvmeIdentify c cid 6 ns) s = .next (data identifyZnsController).settle) ∧
      (∀ (ns : Nat) n, s.nsp ns = some n → s.cntlid c.val ∈ n.attached → s.inMask c.val ns = true →
        exec (.nvmeIdentify c cid 0 ns) s = .next (data (n.identify ns)).settle ∧
        exec (.nvmeIdentify c cid 5 ns) s = .next (data identifyZnsNs).settle) ∧
      (∀ len, exec (.getLogC0 c cid len) s = .next (data (s.logC0.take len)).settle) ∧
      (∀ offset len, exec (.getLogC1 c cid offset len) s = .next (data (s.logC1 offset len)).settle) ∧
      (∀ len, exec (.getLogC2 c cid false len) s = .next (data (s.logC2.take len)).settle) ∧
      (∀ len, s.hasRight c.val 3 = true → exec (.getLogC2 c cid true len) s =
        let t := data (s.logC2.take len)
        .next (State.settle { t with jr := { t.jr with interrupted := t.jr.interrupted.drop ((len - 16) / 32) } })) ∧
      (∀ len, s.hasRight c.val 3 = false → exec (.getLogC2 c cid true len) s = .next (s.complete c.val cid .accessDenied).settle) ∧
      (∀ len, exec (.getLogC3 c cid len) s = .next (data (s.logC3.take len)).settle) ∧
      (∀ ns offset len, (s.nsp ns).isSome = true → offset % 512 = 0 →
        exec (.getLogC4 c cid ns offset len) s = .next (data (((s.logC4 ns).drop offset).take len)).settle) ∧
      (∀ ns offset len n, s.nsp ns = some n → s.hasRight c.val 0 = true → s.inMask c.val ns = true → offset % 8 = 0 →
        exec (.getLogC5 c cid ns offset len) s = .next (data (logBytes (s.logC5 n) offset len)).settle) ∧
      exec (.getLogSmart c cid) s = .next (data (hostData 512 0x102 [(0, 1, s.criticalWarning), (3, 1, s.availableSpare)])).settle) ∧
  (∀ (c : ConnIx) (cid : Nat) (s : State),
      (s.freshAdmin c.val cid = true →
        let ok (t : State) : State := t.complete c.val cid .ok
        (∀ (ns : Nat) (on : Bool) n, s.nsp ns = some n →
          let m : NsSt := { n with mirrorAck := on }
          exec (.setFeaturesC1 c cid ns on) s =
            .next (ok ((s.setNsp ns (some m)).tSend clsControl (.forward (.nsBinding ns m.binding)))).settle) ∧
        (∀ ms, exec (.setFeaturesStandard c cid (.keepAlive ms)) s =
          .next (ok (s.withAssoc c.val fun x => { x with kato := (ms + 99) / 100 * 100, last := s.now })).psGo.settle) ∧
        (∀ mask, exec (.setFeaturesStandard c cid (.asyncEvents mask)) s =
          .next (ok (s.withAssoc c.val fun x => { x with aec := mask % 2 ^ 32 })).psGo.settle) ∧
        (∀ n, exec (.setFeaturesStandard c cid (.queues n)) s = .next (s.complete c.val cid .ok (min n 127 * 0x10001)).psGo.settle) ∧
        (∀ acre, exec (.setFeaturesStandard c cid (.hostBehavior acre)) s =
          .next (ok (s.withAssoc c.val fun x => { x with acre := acre })).psGo.settle) ∧
        (∀ on, exec (.setFeaturesStandard c cid (.apst on)) s =
          .next (ok (s.withAssoc c.val fun x => { x with apst := on, auto := if on then x.auto else 0 })).psGo.settle) ∧
        (∀ ps : Fin 5, ps.val < 3 ∨ s.hasRight c.val 2 = true → exec (.powerManagement c cid ps) s =
          .next (ok (s.withAssoc c.val fun x => { x with ps := ps.val, auto := 0 })).psGo.settle) ∧
        exec (.keepAlive c cid) s = .next (ok (s.withAssoc c.val fun x => { x with last := s.now })).settle ∧
        (∀ x, s.assocOf c.val = some x →
          (∀ n r, x.pend = n :: r → exec (.asynchronousEventRequest c cid) s =
            .next (((s.withAssoc c.val fun y => { y with pend := r }).send (.aen c.val cid n)).dropCtx c.val cid).settle) ∧
          (x.pend = [] → exec (.asynchronousEventRequest c cid) s =
            .next ((s.withAssoc c.val fun y => { y with aers := y.aers ++ [(c.val, cid)] }).setWork c.val cid 0 .aer).settle)) ∧
        (s.hasRight c.val 4 = true →
          (∀ img, exec (.firmwareDownload c cid img) s = .next (ok (s.setHost { s.host with fw := some img })).settle) ∧
          (∀ (action : Fin 3) img, s.host.fw = some img →
            let k := s.imageCheck img
            exec (.firmwareCommitStore c cid action) s = .next (if k.1 = true then ok (k.2.storeImage img)
              else (k.2.setHost { k.2.host with fw := none }).complete c.val cid .invalidImage).settle))) ∧
      (∀ (a : Fin 64) (ps : Fin 5) x, s.assoc (a.val + 1) = some x → x.apst = true → 1 ≤ ps.val → ps.val ≤ 2 →
        exec (.autonomousPsTransition a ps) s = .next (s.setAssoc (a.val + 1) (some { x with auto := ps.val })).psGo.settle))

/-- Namespaces and loads (R466, R473, R474, R482-R484, R518, R569): with the right they need and the catalogue ready. -/
def Obligations.NamespaceAndLoadCommands : Prop :=
  ∀ (c : ConnIx) (cid : Nat) (s : State),
    (s.freshAdmin c.val cid = true → s.flag rdyPage RDY.CATALOGUE = true →
      (s.hasRight c.val 1 = true →
        (∀ (lbaf nsze ncap : Nat) (b : List Nat) d,
          let total := ((bindingExtents b).map fun e => e.zones).sum * zsze
          bindingOk b = true → lbaf ≤ 1 → nsze = total → ncap = total → s.capacityOk (bindingExtents b) = true →
          (∃ i < 64, s.nsp (i + 1) = none) → s.te.drk = some d → s.te.healthOk = true →
          exec (.namespaceCreate c cid lbaf nsze ncap b) s = .next (s.createNs c.val cid lbaf b d).settle) ∧
        (∀ (ns : Nat) n, s.nsp ns = some n →
          let t := (s.eraseNs ns).event tePage 0x8104 2 0xFF ns
          let id := storeFind (fun _ => 0) t.te.keyIds ns
          let ask : EraseAsk := { ns := ns, keyId := id, first := t.now, last := t.now, raised := false }
          let t := (State.erasePend { t with te := { t.te with erase := t.te.erase ++ [ask] } }).send
            (.toManager (mboxMsg 0x21 (bytesLE 4 ns ++ bytesLE 4 id)))
          (t.paired = false → exec (.namespaceDelete c cid ns) s = .next (t.complete c.val cid .ok).settle) ∧
          (t.paired = true → exec (.namespaceDelete c cid ns) s =
            .next ((t.tSend clsControl (.forward (.nsDelete ns))).setWork c.val cid 0 (.delete ns)).settle)) ∧
        (∀ (ns : Nat) (ids : List Nat) (on : Bool) n, s.nsp ns = some n → ids ≠ [] → (∀ x ∈ ids, cntlidOk x = true) →
          let rest := n.attached.filter fun x => !ids.contains x
          let now := if on then (rest ++ ids).eraseDups else rest
          let mine := (List.range 64).filter fun i =>
            now.contains (s.side * 0x100 + i + 1) != n.attached.contains (s.side * 0x100 + i + 1)
          let t := (s.setNsp ns (some { n with attached := now })).forEach mine fun u i => u.noticeTo .nsAttr (i + 1)
          exec (.namespaceAttachment c cid ns ids on) s =
            .next ((t.tSend clsControl (.forward (.nsAttach ns now))).complete c.val cid .ok).settle)) ∧
      (s.hasRight c.val 2 = true → s.loaderTwin = false →
        (∀ id : Nat, ¬(s.load.mounted = true ∧ s.load.id = id ∧ s.load.phase = .none) → s.otherShelf id = none →
          s.stageRefusal id = none →
          exec (.stageLoad c cid id) s = .next ((s.complete c.val cid .ok).startStage id).settle) ∧
        (∀ (id : Nat) (store : Bool), s.unmountRefusal id = none →
          exec (.unmountLoad c cid id store) s = .next ((s.setWork c.val cid 0 .unmount).startUnmount id store).settle))) ∧
    (∀ x cmd since, s.ctx c.val cid = some x → x.work = .catWait cmd since → since + 1000000000 ≤ s.now →
      exec (.catalogueWaitExpiry c cid) s = .next (s.complete c.val cid (.interrupted 0)).settle) ∧
    (∀ (ns : Nat) x, s.host.ctxs.find? (fun x => decide (x.work = .create ns) && decide (x.since + 1000000000 ≤ s.now)) = some x →
      exec (.namespaceKeyAckTimeout ns) s = .next ((s.eraseNs ns).complete x.conn x.cid .internalError).settle)

/-- Lost frames and lost loops (R296, R312-R314, R316, R317). -/
def Obligations.ServoLossCommands : Prop :=
  ∀ (h : HeadIx) (s : State),
    let q := s.seq h.val
    (s.headObeys h.val = true →
      let v := s.applyCfg ctrlengPage
      let p := v.seq h.val
      let sfn := (p.sfn + 1) % 256
      let user := ((List.range 18).map (174 + ·)).filter fun n => decide (v.fld (ceSlot n) CESLOT.UNIT = h.val)
      exec (.servoFrameMissing h) s = .next ((v.forEach ((List.range 5).map (5 * h.val + ·) ++ user) fun u n =>
        if u.slotMode n ≠ modeOff ∧ u.slotDue n sfn then (u.count (ceSlot n) CESLOT.MISS_CNT).count ctrlengPage CTRLENG.SAMPLE_MISS
        else u).setSeq h.val { p with missRun := min 255 (p.missRun + 1), sinceMiss := 0, sfn := sfn }).settle) ∧
    (s.headObeys h.val = false → exec (.servoFrameMissing h) s = .next s.settle) ∧
    (s.cfgIn ctrlengPage CTRLENG.FRAME_CFG_MISS_MAX 2 255 ≤ q.missRun →
      exec (.loopMissFault h) s = .next (((s.forEach (List.range 5) fun u j =>
        if u.slotMode (5 * h.val + j) = modeOff then u else u.setMode (5 * h.val + j) modeFault).focusLost h.val).refreshHead h.val).settle) ∧
    (4 ≤ q.fsLow ∨ s.slotMode (slotFo h.val) = modeFault →
      exec (.focusLost h) s = .next ((s.focusLost h.val).refreshHead h.val).settle) ∧
    (8 ≤ q.trErr ∨ s.slotMode (slotTr h.val) = modeFault → exec (.trackingLost h) s = .next (s.trackingLost h.val).settle) ∧
    (q.phase = .sweep → q.since + 1000000 * s.cfgIn ctrlengPage CTRLENG.ACQ_CFG_ACQ_SWEEP_TMO 5 50 < s.now →
      exec (.acqSweepTimeout h) s = .next (s.seqFail h.val 3).settle) ∧
    (q.phase = .capture → q.since + 5000000 ≤ s.now → exec (.trackingCaptureTimeout h) s = .next (s.seqFail h.val 4).settle) ∧
    (q.op = 2 → q.phase = .kick ∨ q.phase = .watch → q.since + 100000 * s.cfg ctrlengPage CTRLENG.JUMP_CFG_LJ_TMO ≤ s.now →
      exec (.layerJumpTimeout h) s = .next (s.seqFail h.val 6).settle) ∧
    (q.phase = .stepHold → q.stepRun = true → q.since + s.revolutionNs h.val ≤ s.now → exec (.stepRemoved h) s = .next (s.removeStep h.val).settle)

/-- Wheels and loader as the rest of the chip sees them (R331, R334, R336, R345, R351, R357, R372). -/
def Obligations.WheelAndLoaderEvents : Prop :=
  ∀ s : State,
    (∀ w : WheelIx,
      let t := (s.speedTick w.val).forEach (wheelHeads w.val) State.refreshRatio
      let u := t.forEach (wheelHeads w.val) State.dropFiring
      let g := if w.val = 8 then 1 else 0
      (t.fireSpeedLost w.val = false → exec (.speedTick w) s = .next t.settle) ∧
      (t.fireSpeedLost w.val = true → exec (.speedTick w) s =
        .next (if (u.run g).phase = 2 ∧ u.owned (wheelPage w.val) then u.endRun g else u).settle)) ∧
    (∀ (w : WheelIx) (high : Bool),
      exec (.clampSenseChange w high) s =
        .next ((((s.clampSense w.val high).wheelRdy w.val).forEach (wheelHeads w.val) State.refreshHead).refreshLanes).settle) ∧
    (∀ w : WheelIx, s.flag (wheelPage w.val) WHEEL.WH_STAT_OWN_OUT = true → s.whState w.val ≠ whConflict →
      exec (.ownConflict w) s =
        .next (((s.ownConflict w.val).contested (33 + w.val)).forEach (wheelHeads w.val) State.refreshHead).settle) ∧
    (s.flag loaderPage LOADER.LD_STAT_OWN_OUT = true → s.flag loaderPage LOADER.LD_STAT_CONFLICT = false →
      let t := s.forEach [axX, axZ, axG, axP] fun u a => (if u.axMoving a then u.endMotion a 3 4 else u).setAxEn a false
      let t := (t.setFlag loaderPage LOADER.LD_STAT_OWNX_IN true).setFlag loaderPage LOADER.LD_STAT_CONFLICT true
      exec .ldOwnConflict s = .next (((t.istat loaderPage 9).event loaderPage 0x7306 4).contested 42).settle) ∧
    (∀ slot : SlotIx, s.slotMode slot.val = modeClosed →
      4 * s.cfgIn ctrlengPage CTRLENG.FRAME_CFG_SAT_RUN 1 255 ≤ s.fld (ceSlot slot.val) CESLOT.LIMIT_RUN →
      let n := slot.val
      let t := (s.setMode n modeFault).event ctrlengPage 0x7106 4 0xFF n
      (n < 165 →
        let u := if n % 5 = 0 then (t.focusLost (n / 5)).refreshHead (n / 5)
          else if n % 5 = 1 then t.trackingLost (n / 5) else (t.setPermit (n / 5) false).refreshHead (n / 5)
        exec (.saturationRun slot) s = .next u.settle) ∧
      (165 ≤ n → n < 174 → exec (.saturationRun slot) s = .next (t.wheelFault (n - 165) 6).settle) ∧
      (174 ≤ n → exec (.saturationRun slot) s = .next t.settle)) ∧
    (∀ intent kind w store, s.flag loaderPage LOADER.LD_STAT_OWN_OUT = true →
      s.flag loaderPage LOADER.LD_STAT_RECOVERY = false → s.flag loaderPage LOADER.LD_STAT_HOMED = false →
      s.mot.custodyXspi = (kind, intent, w, store) →
      let b := loaderPage
      let t := (((s.setFld b LOADER.CUSTODY_KIND kind).setFld b LOADER.CUSTODY_INTENT intent).setFld b LOADER.CUSTODY_WHEEL w).setFld b
        LOADER.CUSTODY_STORE store
      let u := t.setFlag b LOADER.LD_STAT_RECOVERY true
      let homes : List XferStep := [.home axG, .home axP, .home axZ, .home axX]
      let high := u.flag (wheelPage w) WHEEL.WH_STAT_CLAMP_SNS
      let runs (plan : List XferStep) : Prop :=
        exec (.loaderRecovery ()) s = .next (State.planGo { u with mot := { u.mot with plan := plan, stuck := false } }).settle
      (intent = 0 → runs (homes ++ [.over])) ∧
      (intent = 1 ∨ intent = 2 → high = true → runs (homes ++ [.held 3, .over])) ∧
      (intent = 1 ∨ intent = 2 → high = false → runs [.test, .decide]) ∧
      (2 < intent → runs [.test, .decide]))

/-- A wheel starts, is aligned and caught, and comes to rest (R337, R338, R343-R345, R349, R350).
A running wheel (R326, R328-R330, R333, R338-R342, R346-R349, R352, R354). -/
def Obligations.WheelCommands : Prop :=
  (∀ (w : WheelIx) (s : State),
      let n := w.val
      let x := s.wheel n
      let b := wheelPage n
      (∀ seen : List Trans, s.whState n = whMeasuring →
        3 ≤ seen.length ∨ s.whFor n (1000000 * s.cfgIn b WHEEL.START_CFG_MEAS_T 5 20) = true →
        exec (.measuringEnd w seen) s = .next (s.measured n (seen.take 3)).settle) ∧
      (s.whState n = whBraking →
        (x.hold = false → s.whFor n (1000000 * s.cfgIn b WHEEL.START_CFG_BRK_ON 10 255) = true →
          exec (.brakeOnExpiry w) s = .next (s.setWhState n whChecking).settle) ∧
        (x.hold = true → s.whFor n (10000000 * s.cfgIn b WHEEL.REST_CFG_BRAKE_HOLD 1 255) = true →
          exec (.brakeHoldExpiry w) s =
          .next ((s.setWheel n { x with hold := false }).setWhState n whChecking).settle)) ∧
      (s.whState n = whChecking → s.whFor n (s.restWin n) = true →
        (∀ seen : Nat, seen ≠ 0 → exec (.restWindowEnd w seen) s = .next (s.setWhState n whBraking).settle) ∧
        (x.brakeFor = .start →
          exec (.restWindowEnd w 0) s = .next ((s.setFld b WHEEL.WH_STAT_STEP 5).setWhState n whAligning).settle) ∧
        (x.brakeFor = .stop → exec (.restWindowEnd w 0) s = .next ((s.setWhState n whRest).restConfirmed n).settle)) ∧
      (s.whState n = whRest → x.release = true → s.whFor n (s.restWin n) = true →
        let t := s.setWheel n { x with release := false }
        (∀ seen : Nat, seen ≠ 0 →
          exec (.restWindowEnd w seen) s = .next (((t.brakeToRest n .stop false).whResult n 1 3).relConf n 3).settle) ∧
        (t.whOwns n = true → (∀ h ∈ wheelHeads n, t.headParked h = true) →
          exec (.restWindowEnd w 0) s = .next (((t.setFlag b WHEEL.WH_STAT_REL_OUT true).whResult n 1 0).relConf n 0).settle)) ∧
      (s.whState n = whFault → x.window = true ∨ s.faultBrakes n = false → s.whFor n (s.restWin n) = true →
        exec (.restWindowEnd w 0) s =
          .next (State.restConfirmed (s.setWheel n { x with window := false, phaseAt := s.now }) n).settle) ∧
      (s.whState n = whFault → s.faultBrakes n = true → x.window = false →
        s.whFor n (1000000 * s.cfgIn b WHEEL.START_CFG_BRK_ON 10 255) = true →
        exec (.brakeOnExpiry w) s = .next (s.setWheel n { x with window := true, phaseAt := s.now }).settle) ∧
      (∀ t : Nat, s.whState n = whAligning → s.whFor n (10000000 * s.cfgIn b WHEEL.ALIGN_CFG_ALIGN_T 5 100) = true →
        let u := s.setWheel n { x with olStart := t, commT := t, good := 0, ivals := [], recent := [] }
        exec (.alignEnd w t) s = .next ((u.setFld b WHEEL.WH_STAT_STEP 0).setWhState n whOpenLoop).settle) ∧
      (s.whState n = whOpenLoop → s.whFor n (s.olLimit n) = true →
        let t := s.setWheel n { x with tries := x.tries + 1 }
        (x.tries < 2 → exec (.openLoopTimeout w) s = .next (t.beginMeasuring n).settle) ∧
        (2 ≤ x.tries → exec (.openLoopTimeout w) s = .next ((t.wheelFault n 2).event b 0x720B 5).settle)) ∧
      (x.relWait = true → x.episode = true → x.relAt + 100000000 ≤ s.now →
        exec (.handoverRelTimeout w) s = .next ((s.setWheel n { x with relWait := false }).whResult n 4 6).settle) ∧
      (∀ v : Trans, s.whState n = whShadow ∨ s.whState n = whConflict →
        1000 * s.cfgIn b WHEEL.REST_CFG_SHADOW_HOLD 10 100 ≤ v.hold →
        exec (.shadowCrossing w v) s = .next (s.shadowed n v).settle) ∧
      (let s1 := s.setFlag b WHEEL.WH_STAT_OWNX_IN false
       (x.armed = false → exec (.ownxFall w) s = .next s1.settle) ∧
       (x.armed = true → ∀ cmd nref, x.given = some (cmd, nref) →
        let t := ((s1.driveFromShadow n).setFld b WHEEL.SPD_CMD cmd).setNref n nref
        exec (.ownxFall w) s = .next ((t.setWheel n { t.wheel n with given := none }).setWhState n whRunning).settle)) ∧
      (s.flag b WHEEL.WH_STAT_OWN_OUT = false → s.svc.held = .no → exec (.unplannedWheelTake w) s = .next (s.unplannedWheelTake n).settle)) ∧
  (∀ (w : WheelIx) (s : State),
      let n := w.val
      let x := s.wheel n
      let b := wheelPage n
      let st := s.whState n
      (∀ v : Trans, stepOf v = s.fld b WHEEL.WH_STAT_STEP → s.phaseUsable n v.phase.val = true → s.transTaken n v = true →
        st = whRunning ∨ st = whFlywheel →
        s.inWindow n (x.base + meanInterval x.ivals) (meanInterval x.ivals) v.t = true →
        exec (.zeroCrossing w v) s = .next (s.crossing n v).settle) ∧
      (∀ t : Nat, st = whRunning ∨ st = whFlywheel ∨ st = whOpenLoop → s.commDue n t = true →
        (x.atComm = .release → exec (.commutation w t) s = .next (s.releaseWheel n).settle) ∧
        (x.atComm = .coast → exec (.commutation w t) s =
          .next ((s.setWheel n { x with atComm := .none, coasting := true, episode := false }).setWhState n whCoasting).settle) ∧
        (x.atComm = .none →
          let u := s.setFld b WHEEL.WH_STAT_STEP ((s.fld b WHEEL.WH_STAT_STEP + 1) % 6)
          let u := u.setWheel n { x with commT := t, steps := (x.steps + 1) % 24000 }
          (x.steps + 1 < 24000 → exec (.commutation w t) s = .next u.settle) ∧
          (24000 ≤ x.steps + 1 → exec (.commutation w t) s = .next (u.count b WHEEL.REV_K).settle))) ∧
      (∀ t : Nat, st = whOpenLoop → s.windowEnd n ≤ t →
        exec (.crossingWindowEmpty ⟨w, t⟩) s = .next (s.setWheel n { x with good := 0, ivals := [] }).settle) ∧
      (∀ at' : Nat, s.windowEnd n ≤ at' → st = whRunning ∨ st = whFlywheel → s.phaseUsable n (floatPhase (s.fld b WHEEL.WH_STAT_STEP)) = true → x.caught = false →
        let p := floatPhase (s.fld b WHEEL.WH_STAT_STEP)
        let y : WheelSt := { x with base := x.base + meanInterval x.ivals, recent := (x.recent ++ [false]).drop (x.recent.length + 1 - 12) }
        let t := (s.setWheel n { y.setMiss p (x.miss p + 1) with empties := x.empties + 1 }).count b WHEEL.ZC_MISS
        let t := if st = whRunning then (if x.episode then t else t.beginEpisode n).setWhState n whFlywheel else t
        exec (.crossingWindowEmpty ⟨w, at'⟩) s =
          .next (if s.cfgIn b WHEEL.TOL_CFG_FLY_STEPS 1 12 ≤ x.empties + 1 then t.enterCoast n else t).settle) ∧
      (∀ seen : List Trans, st = whCoasting → x.coasting = false → s.whFor n (12 * meanInterval x.ivals) = true →
        (∀ l iv, s.catchRule n seen = some (l, iv) → exec (.coastEnd w seen) s = .next (s.enterCatch n l iv).settle) ∧
        (s.catchRule n seen = none → exec (.coastEnd w seen) s = .next (s.catchFailed n).settle)) ∧
      (st = whRunning → s.spdTarget n ≠ 0 → x.stopping = false → x.nref = s.spdTarget n * 10000 →
        s.flag b WHEEL.SPD_MEAS_STALE = false → s.spdWithin n 1 = true →
        (∃ a, x.within = some a ∧ a + 1000000 * s.cfgIn b WHEEL.TOL_CFG_SPD_SETTLE 1 255 ≤ s.now) →
        exec (.atSpeedSet w) s = .next (s.reachSpeed n).settle) ∧
      (∀ code : Fin 4096,
        let meas : Int := clampInt (-32768) 32767 (((code.val : Int) - 2048) * 32768 / 2047)
        let t := s.setFldS b WHEEL.CUR_MEAS meas
        (s.sixStep n = false → exec (.currentSample w code) s = .next t.settle) ∧
        (s.sixStep n = true → exec (.currentSample w code) s = .next (t.currentLoop n meas).settle)) ∧
      (∀ (code : Fin 4096) (t : Nat), s.cfg b WHEEL.OC_CFG_OC_TRIP ≤ ((code.val : Int) - 2048).natAbs →
        let ts := x.trips.filter (fun k => t < k + 10000000) ++ [t]
        let u := (s.setWheel n { x with trips := ts }).count b WHEEL.OC_CNT
        (ts.length < s.cfgIn b WHEEL.OC_CFG_OC_MAX 1 255 ∨ s.sixStep n = false →
          exec (.overcurrentTrip w ⟨code, t⟩) s = .next u.settle) ∧
        (s.cfgIn b WHEEL.OC_CFG_OC_MAX 1 255 ≤ ts.length → s.sixStep n = true →
          exec (.overcurrentTrip w ⟨code, t⟩) s =
            .next (((u.setWheel n { u.wheel n with trips := [] }).wheelFault n 3).event b 0x7207 5).settle)))

/-- Stripes, the journal, re-throws, the patrol and cone reads (R381, R395, R396, R401, R409-R413, R415-R417). -/
def Obligations.StripeAndRethrowCommands : Prop :=
  ∀ s : State,
    (∀ (lane : LaneOf) (zone : ZoneIx), s.accepts stripePage = true → s.accepts mediacryptPage = true →
      exec (.stripeEncode lane zone) s = .next (s.stripeBegin (300 * lane.val + zone.val)).stgShow.settle) ∧
    exec .journalRecordWrite s = .next s.journalWrite.settle ∧
    (∀ t, s.jr.failAt = some t → t + 10000000 ≤ s.now →
      exec .xspiWriteRetry s = .next (s.setJr { s.jr with failAt := none }).settle) ∧
    (xspiRing - s.jr.xspi.length < 16384 →
      let keep := jCurrent s.jLive s.jr.xspi
      exec .xspiRingCompact s =
        .next ((s.setJr { s.jr with xspi := keep }).count journalPage JOURNAL.XSPI_WR keep.length).xspiShow.settle) ∧
    (∀ pos : PosIx, s.cfg stripePage STRIPE.RT_CFG_RT_AUTO ≠ 0 → s.load.mounted = true → s.positionBad pos.val = true →
      s.st.rt.pending = none →
      (s.fld stripePage STRIPE.RT_STAT_STATE < 2 ∨ 6 < s.fld stripePage STRIPE.RT_STAT_STATE →
        exec (.rethrowAutoStart pos) s = .next (s.rtStart pos.val 1).settle) ∧
      (2 ≤ s.fld stripePage STRIPE.RT_STAT_STATE → s.fld stripePage STRIPE.RT_STAT_STATE ≤ 6 →
        exec (.rethrowAutoStart pos) s = .next s.rtResume.settle)) ∧
    (let st := s.fld stripePage STRIPE.RT_STAT_STATE
     (∀ ids, exec (.rethrowStepDone (.mounted ids)) s = .next (s.rtMounted ids).settle) ∧
     (3 ≤ st → st ≤ 5 → exec (.rethrowStepDone .settingDone) s = .next s.rtSetting.settle) ∧
     (3 ≤ st → st ≤ 5 → exec (.rethrowStepDone .slotCaught) s = .next s.rtCaught.settle) ∧
     exec (.rethrowStepDone .finalDone) s = .next s.rtFinal.settle ∧
     exec (.rethrowStepDone .recordsFired) s = .next s.rtRecorded.settle ∧
     exec (.rethrowStepDone .swapped) s = .next s.rtSwapped.settle ∧
     (2 ≤ st → st ≤ 6 → exec (.rethrowStepDone .failed) s = .next s.rtFail.settle)) ∧
    ((s.run 0).phase = 4 → s.jr.waiting = [] →
      exec .runClose s = .next (s.forEach (s.liveZones.filter fun z => decide (z.2.patrolSaved ≠ z.2.passes * 32768 + z.2.nextPatrol))
        fun u z => u.patrolRecord z.1).runClose.settle) ∧
    (∀ (lane : LaneOf) (zone : ZoneIx),
      let k := 300 * lane.val + zone.val
      s.cfg stripePage STRIPE.RT_CFG_PATROL_EN ≠ 0 → s.mcSpare = true → s.load.mounted = true → (s.zone k).conf ≠ 0 → (s.zone k).replaying = false →
      exec (.crazePatrol lane zone) s = .next (s.patrolStripe lane.val k).settle) ∧
    (∀ (h : HeadIx) (layer : Fin 10),
      let sas := s.coneSettings h.val layer.val
      let ws := sas.filterMap (s.coneFig h.val)
      (ws ≠ [] → ws.length = sas.length →
        exec (.coneRead h layer ()) s = .next ((s.coneRecord h.val layer.val ws).forEach sas fun u sa =>
          ((u.dropSetting h.val sa).unwant h.val sa).dropFig h.val sa).settle) ∧
      (ws.length < sas.length → exec (.coneRead h layer ()) s = .next s.settle))

/-- Stacks: training, fill, faults and repairs (R426-R429, R431-R435, R437, R438, R450, R493). -/
def Obligations.StackCommands : Prop :=
  ∀ s : State,
    (∀ (k : StackIx) (lanes : List (Fin 32 × Fin 36)) (failed : BitVec 32), s.hbmState k.val = 1 →
      exec (.hbmTrainingDone k lanes failed) s = .next (s.hbmTrained k.val lanes failed).settle) ∧
    (∀ k : StackIx, s.hbmState k.val = 2 →
      (0x2000 ≤ s.fld (hbmPage k.val) HBM.FILL_STAT_MIN_WM →
        exec (.zeroFillComplete k) s = .next (s.stackFilled k.val).settle) ∧
      exec (.watermarkStallRelease k () ()) s = .next (s.drainQueues.releaseStalls k.val).settle) ∧
    (∀ (blk : MemBlockIx) (addr : BitVec 32) (syn : BitVec 8),
      exec (.correctableError blk addr syn) s = .next (s.correctable blk.val addr.toNat syn.toNat).settle ∧
      exec (.uncorrectableError blk addr) s = .next (s.uncorrectable blk.val addr.toNat).settle) ∧
    (∀ (blk : MemBlockIx) addr, s.repairOf blk.val .sramRow = some addr →
      let t := s.repairOver blk.val addr .sramRow
      let u := t.setEctState blk.val addr 2
      let used := ((u.ectTable blk.val).filter fun e => decide (e.state = 2)).length
      let v := if used = min 255 (Config.sramSpares blk.val) then u.notice .health else u
      exec (.sramRowSubstitution blk true) s =
        .next ((v.istat (memBlockPage blk.val) 3).event ecctabPage 0x5202 2 0xFF blk.val).settle ∧
      exec (.sramRowSubstitution blk false) s =
        .next (if blk.val = 0 then t.repairDue 0 addr .way else t.noRepair blk.val addr).settle) ∧
    (∀ (k : StackIx) addr, s.repairOf (6 + k.val) .package = some addr →
      let b := hbmPage k.val
      let t := s.repairOver (6 + k.val) addr .package
      exec (.postPackageRepair k .repaired) s =
        .next (((((t.setEctState (6 + k.val) addr 2).count b HBM.PPR_DONE).istat b 10).istat b 3).event b 0x5203 2).settle ∧
      exec (.postPackageRepair k .failed) s =
        .next (((t.count b HBM.PPR_FAIL).istat b 11).pageDue (6 + k.val) addr).settle ∧
      exec (.postPackageRepair k .noResource) s = .next (t.pageDue (6 + k.val) addr).settle) ∧
    (∀ page : Fin 16384, page.val < reservePage → (∃ x ∈ s.mem.repairs, x.2.2 = .page ∧ x.2.1 * 8 / 2 ^ 21 = page.val) →
      exec (.pageRetirement page) s = .next (s.retirePage page.val).settle) ∧
    (∀ k : StackIx, s.scrubDue k.val = true →
      let n := (s.scrubbed k.val).1 % scrubWords
      let addr := scrubAddr k.val n
      let next := (n + 1) % scrubWords
      let t := (s.setScrub k.val (next, s.now)).setFld (hbmPage k.val) HBM.SCRUB_PROG (next * 1000 / scrubWords)
      ∀ syn : Fin 256, exec (.scrubWord k syn .clean) s = .next t.settle ∧
        exec (.scrubWord k syn .corrected) s =
          .next ((t.count (hbmPage k.val) HBM.SCRUB_CORR).correctable (6 + k.val) addr syn.val).settle ∧
        exec (.scrubWord k syn .bad) s = .next (t.uncorrectable (6 + k.val) addr).settle) ∧
    (s.fld nvmePage NVME.PS_CUR = 3 → s.hbmState 0 = 3 → s.hbmState 1 = 3 → s.mem.fills = [] → s.mem.waiting = [] →
      s.mem.maint = none →
      let t := (s.forEach s.mem.evb fun u x => u.setMemLine x.1 x.2).setEvb []
      exec .selfRefreshEntry s = .next ((((t.forEach t.heldPlaces fun u x => u.maintain 6 x.1 x.2).setHbmState 0 4).setHbmState 1 4).setReady
        setterPage false).settle) ∧
    (s.fld nvmePage NVME.PS_CUR ≠ 3 → s.hbmState 0 = 4 → s.hbmState 1 = 4 →
      exec .selfRefreshExit s = .next (((s.setHbmState 0 3).setHbmState 1 3).initCache).settle)

/-- The setter's cache (R443-R446, R448-R450). -/
def Obligations.CacheCommands : Prop :=
  ∀ s : State,
    (∀ (who : Requester) (acc : MemAcc) (addr : BitVec 35),
      exec (.cacheRequest who acc addr) s = .next (s.requests 0 who addr.toNat acc).settle ∧
      exec (.bypassAccess acc addr) s = .next (s.requests 1 .stream addr.toNat acc).settle) ∧
    (∀ (tag : FillTag) f, s.fillAt tag.val = some f → s.lineReady f.line = true → s.evbOf f.line = none →
      exec (.cacheFillDone tag) s = .next (s.lineFilled tag.val f).settle) ∧
    (∀ (k : EvbIx) e x, s.mem.evb[k.val]? = some e → s.mem.evb.find? (fun x => x.1 == e.1) = some x → s.lineReady x.1 = true →
      exec (.writebackDone k) s =
        .next (((s.setMemLine x.1 x.2).setEvb (s.mem.evb.erase x)).pendingDone.retryMem).settle) ∧
    (∀ m, s.pendingDone.mem.maint = some m → m.tags = [] → m.pend = [] →
      (∀ r ∈ s.pendingDone.mem.waiting, r.kind ≠ 2) → s.pendingDone.mem.fills = [] →
      exec .maintenanceDone s = .next ((((s.pendingDone.setMaint none).setFlag setterPage SETTER.MAINT_STAT_BUSY false).maintResult 0).istat
        setterPage 10).settle) ∧
    (∀ way : PhysWay, exec (.waySparing way) s = .next (s.wayOut way.val).settle)

/-- SPDM over the security commands (R508, R509).
The trust engine (R506, R513, R519, R520, R522-R526, R532). -/
def Obligations.TrustCommands : Prop :=
  (∀ (c : ConnIx) (cid : Nat) (s : State), s.freshAdmin c.val cid = true →
      let a := ((s.conn c.val).bind fun k => k.assoc).getD 0
      let tells (u : State) (resp : List Nat) : State :=
        (u.setHost { u.host with spdm := (u.host.spdm.filter fun e => decide (e.1 ≠ a)) ++ [(a, resp)] }).complete c.val cid .ok
      exec (.getVersion c cid) s = .next (tells s [0x04, 0x12]).settle ∧
      exec (.getCapabilities c cid) s = .next (tells s [0x61, 0x12, 22]).settle ∧
      exec (.negotiateAlgorithms c cid) s = .next (tells s [0x63, 0x12, 0x80, 0x02, 0x04]).settle ∧
      (let slots := (List.range 8).filter fun n => (s.certSlot n).isSome
       exec (.getDigests c cid) s = .next (tells s ([0x01, slots.foldl (fun m n => setBit m n true) 0] ++
        slots.flatMap fun n => Config.sha384 ((s.certSlot n).getD []))).settle) ∧
      (∀ (slot : Fin 8) (offset len : Nat) chain, s.certSlot slot.val = some chain →
        exec (.getCertificate c cid slot offset len) s = .next (tells s ([0x02, slot.val] ++ (chain.drop offset).take len)).settle) ∧
      (∀ (slot : Fin 8) (nonce : List Nat) chain, s.certSlot slot.val = some chain →
        let ms := (List.range 5).flatMap fun i => s.measurement (i + 1)
        exec (.spdmChallenge c cid slot nonce) s = .next ((s.random 32).2.spdmSigned c.val cid
          ([0x03, slot.val] ++ Config.sha384 chain ++ bytesBE 32 (s.random 32).1 ++ Config.sha384 ms) nonce).settle) ∧
      (∀ (index : Fin 256) (nonce : List Nat),
        let body := if index.val = 0 then [5] else if index.val = 0xFF then (List.range 5).flatMap fun i => s.measurement (i + 1)
          else s.measurement index.val
        (index.val = 0 ∨ index.val = 0xFF ∨ index.val ≤ 5 →
          exec (.getMeasurements c cid index nonce) s = .next ((s.random 32).2.spdmSigned c.val cid
            ([0x60, index.val] ++ body ++ bytesBE 32 (s.random 32).1) nonce).settle) ∧
        (5 < index.val → index.val < 0xFF → exec (.getMeasurements c cid index nonce) s = .next (tells s spdmError).settle)) ∧
      exec (.spdmUnsupported c cid) s = .next (tells s spdmError).settle ∧
      (∀ r, s.host.spdm.find? (fun e => decide (e.1 = a)) = some (a, r) →
        exec (.securityReceive c cid 0xF2 0) s = .next (State.complete
          (s.setHost { s.host with spdm := s.host.spdm.filter fun e => decide (e.1 ≠ a) }) c.val cid .ok 0 r).settle)) ∧
  (∀ s : State,
      exec .entropyHealthFail s = .next ((((s.setTe { s.te with healthOk := false }).setFlag tePage TE.TE_STAT_DRBG_OK false).istat
        tePage 11).event tePage 0x810B 5).settle ∧
      (2 ^ 20 ≤ s.te.requests → exec .drbgReseed s = .next (s.setTe { s.te with requests := 0 }).settle) ∧
      (∀ e, s.te.enrol = some e → e.since + 10000000000 ≤ s.now →
        exec .enrolTimeout s = .next (s.setTe { s.te with enrol := none }).settle) ∧
      (let again (e : EraseAsk) : Bool := decide (e.last + 10000000000 ≤ s.now)
       let late (e : EraseAsk) : Bool := again e && !e.raised && decide (e.first + 60000000000 ≤ s.now)
       let asked := s.te.erase.map fun e => if again e then { e with last := s.now, raised := e.raised || late e } else e
       exec .eraseConfirmRetry s =
        .next (((s.setTe { s.te with erase := asked }).forEach (s.te.erase.filter again) fun u e =>
          u.send (.toManager (mboxMsg 0x21 (bytesLE 4 e.ns ++ bytesLE 4 e.keyId)))).forEach (s.te.erase.filter late)
            fun u e => u.event tePage 0x810C 4 0xFF e.ns).settle) ∧
      (∀ ns load : Nat,
        (s.loadKey ns load = none → exec (.loadKeyDerived ns load) s = .next (s.keyMissing ns).settle) ∧
        (∀ key, s.loadKey ns load = some key →
          let rest := s.te.slots.filter fun e => decide (e ≠ (ns, load))
          exec (.loadKeyDerived ns load) s = .next (s.setSlots (rest.drop (rest.length - 255) ++ [(ns, load)])).settle)) ∧
      (∀ (lane : LaneOf) (zone : ZoneIx) (stripe : Nat) (engine : Fin 5) x key,
        let k := 300 * lane.val + zone.val
        let e := ((s.zone k).ns, s.load.id)
        s.stripe k stripe = some x → x.plain ≠ [] → s.flag mediacryptPage HDR.ISOLATE = false →
        s.fldBit mediacryptPage MEDIACRYPT.MX_STAT_ENGINE_MAP engine.val = true → s.loadKey e.1 e.2 = some key → e ∈ s.te.slots →
        exec (.encryptBlock lane zone stripe engine true) s =
          .next (((s.touchSlot e).encryptMember x key).count mediacryptPage MEDIACRYPT.ENC_BLOCKS).settle ∧
        exec (.encryptBlock lane zone stripe engine false) s =
          .next ((s.count mediacryptPage MEDIACRYPT.SELFCHK_FAIL).engineFail engine.val).settle) ∧
      (∀ (lane : LaneOf) (zone : ZoneIx) (readBack : List Nat) n,
        let k := 300 * lane.val + zone.val
        let z := s.zone k
        let nz := (n.zoneOf s.load.id k).getD 0
        s.nsp z.ns = some n → z.state = 4 → z.allConfirmed = true → z.sealed = false → s.zoneWriter k = true →
        let bytes := s.sealBytes n k (Config.sha384 (if z.digestOk then z.digest else readBack)) false
        let t := s.setZone k { z with sealed := true, finish := false, digest := [] }
        let t := t.setHost { t.host with seals := t.host.seals ++ [(z.ns, nz, bytes)] }
        let t := ((t.count tePage TE.SEAL_CNT).event tePage 0x8105 1 0xFF z.ns).zoneRecord k
        exec (.zoneSeal lane zone readBack) s = .next (t.tSend clsControl (.forward (.seal z.ns nz bytes))).hostProgress.settle) ∧
      (∀ ch, s.te.challenge = some ch → exec .debugChallengeRead s = .next ((s.jtagSelect .challenge).send (.challenge ch)).settle) ∧
      (s.te.challenge = none → ∃ ch t, exec .debugChallengeRead s = .next t ∧ t.te.challenge = some ch ∧
        t.out = s.out ++ [.challenge ch]))

/-- The rack (R554-R557, R562). -/
def Obligations.RackCommands : Prop :=
  ∀ s : State,
    (s.flag rdyPage RDY.STEBARO = true → s.flag hyPage HY.HY_STAT_REGISTERED = false →
      let gap := if s.hy.noMgr then 5000000000 else 200000000
      (s.hy.announced = none ∨ (∃ t, s.hy.announced = some t ∧ t + gap ≤ s.now) →
        let t := (s.setHy { s.hy with announced := some s.now }).send (.announce announceGroup 47211 s.announceBytes)
        exec .announceSend s =
          .next (if s.mgrAddr = 0 then t else t.send (.announce s.mgrAddr 47211 s.announceBytes)).settle) ∧
      (s.hy.noMgr = false → s.fld rdyPage RDY.RDY_TIME 2 * 1000 + 60000000000 ≤ s.now → exec .noManagerTimeout s =
        .next ((s.setHy { s.hy with noMgr := true }).event hyPage 0x8507 3).settle)) ∧
    (∀ (b : AnnounceBody) (block : List Word), s.activeMgr = true → b.magic = 0x4859 → b.version = 1 → block.length = 16 →
      let k := b.shelf.val
      let side := b.flags % 2
      let t := (s.takeBlock k side block).send (.custodian k side (hyPage + 0x58) 1)
      let t := if s.workerSt k side ≠ 1 then (t.istat hyPage 8).event hyPage 0x8501 1 0xFF k else t
      exec (.announceMsg b block) s = .next (if b.domain = 0 ∧ t.flag hyPage HY.MGR_CFG_AUTO_ENROL = true then
        t.setHy { t.hy with enrol := (t.hy.enrol ++ [2 * k + side]).eraseDups } else t).settle) ∧
    (∀ (shelf : Fin 64) (side : Side) w, s.worker shelf.val = some w → s.activeMgr = true → s.workerSt shelf.val side.val ≠ 0 →
      (∀ block, block.length = 16 → (block.getD 5 0).toNat ≠ sideOf w.hb side.val →
        (s.takeBlock shelf.val side.val block).hy.stage = none →
        exec (.workerPoll shelf side (some block)) s = .next (s.takeBlock shelf.val side.val block).settle) ∧
      (let n := min 0xFFFF (sideOf w.silent side.val + 1)
       let t := (s.setWorker shelf.val { w with silent := setSide w.silent side.val n }).silentShow shelf.val
       exec (.workerPoll shelf side none) s =
        .next (if s.workerSt shelf.val side.val = 1 ∧ s.fldIn hyPage HY.MGR_CFG_WMISS 2 60 ≤ n
          then t.workerMissing shelf.val side.val else t).settle)) ∧
    (∀ p r (status : Nat), s.hy.pmbus = p :: r →
      let k := p.shelf
      let t := s.pmbusNext
      let read : Pmbus := { shelf := k, op := 0x79, tries := 0, cycle := false }
      (p.tries < 2 → exec (.pmbusTransactionDone false status) s =
        .next ((s.setHy { s.hy with pmbus := { p with tries := p.tries + 1 } :: r }).pmbusSend p).settle) ∧
      (2 ≤ p.tries → exec (.pmbusTransactionDone false status) s =
        .next (((t.pwrResult 3).istat hyPage 11).event hyPage 0x8505 4 0xFF k).settle) ∧
      (p.op = 0x80 → exec (.pmbusTransactionDone true status) s =
        .next (((t.powerChanged k true).pwrResult 0).pmbusPut read).settle) ∧
      (p.op = 0x40 → exec (.pmbusTransactionDone true status) s =
        .next (((t.powerChanged k false).pwrResult 0).pmbusPut read).settle) ∧
      (p.op = 0x00 → exec (.pmbusTransactionDone true status) s =
        .next ((t.powerChanged k false).pmbusPut { shelf := k, op := 0x80, tries := 0, cycle := false }).settle) ∧
      (p.op = 0x79 → exec (.pmbusTransactionDone true status) s =
        .next (t.setFld hyPage HY.WORKER_STATUS_WORD status k).settle)) ∧
    (∀ (shelf : Fin 64) w, s.worker shelf.val = some w → s.activeMgr = true → s.flag hyPage HY.MGR_CFG_PC_EN = true →
      s.workerSt shelf.val 0 = 2 → s.workerSt shelf.val 1 = 2 →
      s.fldIn hyPage HY.MGR_CFG_WMISS_PC 10 3600 ≤ min w.silent.1 w.silent.2 → (∀ p ∈ s.hy.pmbus, p.shelf ≠ shelf.val) →
      exec (.shelfPowerCycle shelf) s = .next (s.powerCycle shelf.val).settle) ∧
    (∀ k r, s.hy.queue = k :: r → s.powerRoom = true →
      exec .powerOnDequeue s = .next (((s.setHy { s.hy with queue := r }).setFlag hyPage HY.WORKER_QUEUED false k).pmbusPut
        { shelf := k, op := 0x80, tries := 0, cycle := false }).settle) ∧
    exec .hbCntTick s = .next (s.countWrap hyPage HY.HB_CNT).settle

/-- The recorder and the observation queues (R594-R597, R601, R602, R606, R607). -/
def Obligations.RecorderCommands : Prop :=
  ∀ s : State,
    (∀ e es, s.recd.raised = e :: es →
      exec .eventRaised s = .next ((s.withRec fun r => { r with raised := es }).record e).settle) ∧
    (∀ q qs ok, s.recd.mirrorBusy = true → s.recd.mirrorQ = q :: qs →
      exec (.mirrorWriteDone ok) s = .next (s.mirrorDone ok).settle) ∧
    (s.recd.mirrorQ ≠ [] → s.recd.mirrorFailAt + 10000000 ≤ s.now → exec .mirrorRetry s = .next (s.withRec fun r => { r with mirrorBusy := true }).settle) ∧
    (∀ (q : QueueIx) x, s.oq.waiting.find? (fun x => x.1 == q.val) = some x →
      exec (.queueItemWrite q) s = .next (State.putItem { s with oq := { s.oq with waiting := s.oq.waiting.erase x } } q.val x.2).settle) ∧
    (∀ q : QueueIx, 16 ≤ q.val →
      storeFind (fun _ => 0) s.oq.telAt q.val + 1000000 * clampNat 1 255 (s.cfg obsqPage OBSQ.Q_CFG_PERIOD q.val) ≤ s.now →
      let src := s.cfg obsqPage OBSQ.Q_CFG_SRC q.val
      let at' (u : State) : State := { u with oq := { u.oq with telAt := storePut (fun _ => 0) u.oq.telAt q.val s.now } }
      (2 ≤ src → src ≤ 6 → ∃ l0, exec (.telemetryPeriod q) s =
        .next (at' (s.forEach (s.telemetryBodies l0 src) fun u b => u.queueItem q.val 2 b)).settle) ∧
      (src = 1 → ∃ l0 sums, exec (.telemetryPeriod q) s =
        let t := (s.frees 33).2
        let u := at' (t.forEach (t.telemetryBodies l0 1) fun u b => u.queueItem q.val 2 b)
        .next (State.settle { u with oq := { u.oq with l0 := sums } }))) ∧
    (∀ q : QueueIx, (s.oqueue q.val).flush = true → s.oqInProgress q.val = false →
      exec (.qFlushEffect q) s = .next (s.flushQueue q.val).settle)

/-- The twin link (R540-R546): heartbeats, HELLO, loss, partition and take-over. -/
def Obligations.TwinLinkCommands : Prop :=
  ∀ s : State,
    (∀ fails : Bool, exec (.tFrameRefused fails) s =
      .next ((s.count twPage (if fails then TW.T_AUTH_FAIL else TW.T_REPLAY)).event twPage 0x8408 7).settle) ∧
    (s.paired = false → s.flag rdyPage RDY.PORT_T = true → s.te.drk.isSome = true →
      let t := if s.twState = 5 then (s.setFld twPage TW.BOOT (s.fld twPage TW.BOOT + 1)).setTw { s.tw with seq := 0 } else s
      exec .helloSend s = .next (t.tSend0 (.hello t.helloBody)).settle) ∧
    (∀ (h : THdr) (b : HelloBody) drk, s.te.drk = some drk → s.paired = false → s.svc.held = .no → s.tFresh h = true → s.foreignHello b = false →
      let t := s.tTaken h
      let t := t.setTw { t.tw with hello := some b, kt := t.twinKey drk b, foreign := false, authOut := true }
      let t := (t.setPair twPage TW.TWIN_SER_LO TW.TWIN_SER_HI b.serial).setFlag tePage TE.TE_STAT_TWIN_KEY true
      exec (.helloMsg h b) s = .next ((t.setTwState 1).tSend0 (.helloAuth b.serial h.boot.toNat)).tryPair.settle) ∧
    (∀ (h : THdr) (serial boot : Nat), s.tw.hello.isSome = true → s.tFresh h = true → s.paired = false → serial = s.serial →
      boot = s.fld twPage TW.BOOT + 2 ^ 31 * s.side →
      let t := s.tTaken h
      exec (.helloAuth h serial boot) s = .next (t.setTw { t.tw with authIn := true, lastSign := t.now }).tryPair.settle) ∧
    (s.paired = true →
      exec .heartbeatSend s = .next (s.tSend0 (.heartbeat (s.fld chipPage CHIP.STATE) s.twState
        (stagingMiB - min stagingMiB (s.stagedOwn + s.stagedMirror)) ((List.range 4).map s.msnSeen))).settle ∧
      (∀ cls : Fin 4, s.resendDue cls.val = true →
        let t := s.forEach (s.tw.unacked.filter fun x => decide (x.cls = cls.val)) fun u x => u.tFrame x.cls x.msn x.msg
        exec (.reliableResend cls) s = .next (t.setTw { t.tw with
          unacked := t.tw.unacked.map fun x => if x.cls = cls.val then { x with sent := t.now } else x }).settle) ∧
      exec .twinStateSend s = .next (s.tSend clsControl (.twinState s.twinBody)).settle) ∧
    (s.hbRuns = true → exec .twinHbOutToggle s = .next (s.setTw { s.tw with hbOut := !s.tw.hbOut }).settle) ∧
    (∀ e, s.tw.lastEdge = some e →
      let t := s.setTw { s.tw with lastEdge := some s.now }
      let u := (t.setFlag twPage TW.TW_STAT_PIN_ALIVE true).setFlag twPage TW.TW_STAT_PIN_FAULT false
      (s.now < e + 100000 → exec .twinHbInEdge s = .next s.settle) ∧
      (e + 100000 ≤ s.now → ¬(e + 500000 ≤ s.now ∧ s.now ≤ e + 1500000) → exec .twinHbInEdge s = .next t.settle) ∧
      (e + 500000 ≤ s.now → s.now ≤ e + 1500000 → exec .twinHbInEdge s = .next (u.setTw { u.tw with lastSign := u.now }).settle)) ∧
    (s.flag twPage TW.TW_STAT_PIN_ALIVE = true → s.edgesMissed = true →
      let t := s.setFlag twPage TW.TW_STAT_PIN_ALIVE false
      exec .twinHbPinLost s = .next (if t.flag twPage TW.TW_STAT_T_ALIVE
        then ((t.setFlag twPage TW.TW_STAT_PIN_FAULT true).istat twPage 14).event twPage 0x8405 3 else t).settle) ∧
    (s.tw.lastFrame + s.fldIn twPage TW.TW_CFG_T_HB_MISS 10 255 * 100000 ≤ s.now → exec .portTLost s = .next (s.setFlag twPage TW.TW_STAT_T_ALIVE false).partitionSeen.settle) ∧
    (s.twinAbsent = true → s.paired = true ∨ s.twState = 4 → s.flag twPage TW.TW_CFG_AUTO_TAKE = true →
      exec .unplannedTakeover s = .next s.takeover.takeoverGo.settle) ∧
    (s.paired = true → s.side = 0 → s.flag twPage TW.TW_STAT_PIN_ALIVE = true → s.flag twPage TW.TW_STAT_T_ALIVE = false →
      exec .partitionWithdraw s = .next s.withdraw.settle) ∧
    (s.twState = 4 → s.tw.declared + s.fldIn twPage TW.TW_CFG_PART_WAIT 10 255 * 1000000 ≤ s.now →
      exec .partWaitExpiry s = .next (s.takeover.event twPage 0x8406 5).takeoverGo.settle)

/-- Tokens and writer roles change sides (R546-R552). -/
def Obligations.TokenCommands : Prop :=
  ∀ s : State,
    (∀ (h : THdr) (tok : TokenIx) (epoch : Nat), s.Hears h clsToken →
      let t := s.twinHeard h clsToken
      exec (.tokenOffer h tok epoch) s =
        .next ((t.putHo { tok := tok.val, release := false, stage := .offered, since := t.now }).xfer tok.val true).settle ∧
      (∀ (b : ExportBody) x, t.hoOf tok.val = some x →
        ((t.hoImport tok.val b).2 = true → exec (.exportMessage h tok epoch b) s =
          .next ((((t.hoImport tok.val b).1.putHo { x with stage := .taken }).tSend clsToken (.tokenTake tok.val epoch)).hoGo).settle) ∧
        ((t.hoImport tok.val b).2 = false → exec (.exportMessage h tok epoch b) s =
          .next (((t.hoImport tok.val b).1.endHo tok.val).tSend clsToken (.tokenDone tok.val epoch 5)).settle)) ∧
      (∀ x, t.hoOf tok.val = some x → x.release = true →
        (x.stage = .exportSent → exec (.tokenTake h tok epoch) s =
          .next ((t.putHo { x with stage := .taken }).hoSwitch tok.val).settle) ∧
        (∀ result : Nat, exec (.tokenDone h tok epoch result) s = .next (t.hoDone tok.val result).settle))) ∧
    (s.flag twPage TW.TW_CFG_AUTO_RETURN = true → s.twState = 2 → s.twinUp = true →
      let back := s.hoBack
      let ns := back.1.filter fun n => s.twinTakes n
      let heads := ns.filter fun n => decide (n < 32)
      let one := match heads with
        | a :: _ => heads.filter fun n => decide (n / 8 = a / 8)
        | [] => ns
      ns ≠ [] ∨ back.2 ≠ [] → exec .autoReturn s = .next (s.hoStart one (if heads.length = one.length then back.2 else [])).settle) ∧
    (∀ (ns : Nat) m, s.tw.moves.find? (fun m => decide (m.1 = ns)) = some m → (∀ n ∈ s.tw.hoQueue, 33 ≤ n) →
      (∀ x ∈ s.tw.ho, 33 ≤ x.tok) → s.fld journalPage JOURNAL.MIRROR_LAG = 0 →
      let t := s.tSend clsControl (.writer ns m.2)
      let t := t.setTw { t.tw with
        moves := t.tw.moves.filter (fun m => decide (m.1 ≠ ns)),
        writers := t.tw.writers.filter fun n => n != ns }
      exec (.writerMove ns) s = .next (t.setAna ns 3).hoOver.settle) ∧
    (∀ (h : THdr) (ns side : Nat), s.Hears h clsControl →
      let t := s.twinHeard h clsControl
      exec (.writerMsg h ns side) s = .next (if side = t.side then t.becomeWriter ns else t).settle) ∧
    (∀ tok : TokenIx, s.inConflict tok.val = true →
      let n := tok.val
      (s.flag twPage TW.TW_STAT_T_ALIVE = false → s.side = 0 →
        exec (.conflictResolution tok) s = .next (s.withdraw.conflictDone n).settle) ∧
      (s.flag twPage TW.TW_STAT_T_ALIVE = true →
        let mine := s.token n
        let twins := (s.tw.twin.map fun b => b.tokens.getD n (255, 0)).getD (255, 0)
        let win := newer mine.2 twins.2 = true ∨ (newer twins.2 mine.2 = false ∧ s.splitSide n = s.side)
        (win → exec (.conflictResolution tok) s = .next (((s.setToken n s.side (mine.2 + 1)).startAfresh n).conflictDone n).settle) ∧
        (¬ win → exec (.conflictResolution tok) s =
          .next (((s.dropToken n).setToken n (1 - s.side) (twins.2 + 1)).conflictDone n).settle)))

/-- What the twin tells this side (R541, R544, R550-R552): every message is heard in the order of its class. -/
def Obligations.TwinMessages : Prop :=
  ∀ (h : THdr) (s : State),
    (s.Hears h clsNone →
      let t := s.twinHeard h clsNone
      (∀ (chip tw staging : Nat) (msns : List Nat),
        let u := t.setFld twPage TW.TW_STAT_TWIN_STATE chip
        exec (.heartbeat h chip tw staging msns) s = .next (u.setTw { u.tw with
          unacked := u.tw.unacked.filter fun x => decide (x.cls = clsMirror) || decide (msns.getD x.cls 0 < x.msn) }).settle) ∧
      (∀ msn : Nat,
        let u := t.setTw { t.tw with
          unacked := t.tw.unacked.filter (fun x => !(decide (x.cls = clsMirror) && decide (x.msn ≤ msn))), acked := max t.tw.acked msn }
        let u := u.forEach (t.tw.unacked.filter fun x => decide (x.cls = clsMirror) && decide (x.msn ≤ msn)) fun v x => match x.msg with
          | .stage _ k first lbas =>
            let z := v.zone k
            v.setZone k { z with unmirrored := z.unmirrored.filter fun j => !(decide (first ≤ j) && decide (j < first + lbas.length)) }
          | _ => v
        exec (.mirrorAck h msn) s = .next (u.setJr { u.jr with
          unacked := u.jr.unacked.filter fun n => decide (msn < n) }).mirrorShow.sendDueMembers.hostProgress.settle)) ∧
    (s.Hears h clsMirror →
      let t := s.twinHeard h clsMirror
      (∀ recs : List JRec,
        let m := t.jr.mirror ++ recs
        let u := t.setJr { t.jr with mirror := m.drop (m.length - hbmRing) }
        exec (.journalMsg h recs) s =
          .next ((u.forEach recs fun v r => v.journalStore mirrorArea r.seq (jrecBytes r)).tSend0 (.mirrorAck h.msn)).settle) ∧
      (∀ (ns zone first : Nat) (lbas : List (List Nat)),
        let rest := t.st.mirror.filter fun e => !(decide (e.1 = zone) && decide (first ≤ e.2.1) && decide (e.2.1 < first + lbas.length))
        let u := t.setSt { t.st with mirror := rest ++ lbas.zipIdx.map fun x => (zone, first + x.2, x.1) }
        let u := if (u.zone zone).ns = 0 then u.setZone zone { u.zone zone with ns := ns } else u
        exec (.stageMsg h ns zone first lbas) s = .next ((u.stgShow).tSend0 (.mirrorAck h.msn)).settle) ∧
      (∀ (zone : Nat) (stripes : List Nat),
        let w := (t.zone zone).width
        let free (j : Nat) : Bool := stripes.any fun i => decide (stripeFirstLba w i ≤ j) && decide (j < stripeFirstLba w (i + 1))
        exec (.stageFree h zone stripes) s = .next ((t.setSt { t.st with
          mirror := t.st.mirror.filter fun e => !(decide (e.1 = zone) && free e.2.1) }).stgShow.tSend0 (.mirrorAck h.msn)).settle)) ∧
    (s.Hears h clsFire →
      let t := s.twinHeard h clsFire
      (∀ (head : HeadIx) (sa : Nat) (blk : Fin 4) (offset : Nat) (bytes : List Nat), t.tokenMine head.val = true →
        let u := t.setTw { t.tw with partials := t.tw.partials ++ [(head.val, sa, blk.val, offset, bytes)] }
        let bs := (List.range 4).map fun k => u.memberBytes head.val sa k
        (bs.all Option.isSome = false → exec (.memberMsg h head sa blk offset bytes) s = .next u.settle) ∧
        (bs.all Option.isSome = true →
          let blocks := (bs.filterMap id).map fun b => (headerOf (b.take 4096), b.drop 4096)
          let v := u.setTw { u.tw with partials := u.tw.partials.filter fun e => !(decide (e.1 = head.val) && decide (e.2.1 = sa)) }
          exec (.memberMsg h head sa blk offset bytes) s = .next (State.want { v with fire := { v.fire with
            ready := v.fire.ready ++ [{ head := head.val, sa := sa, kind := .forTwin, blocks := blocks }] } } head.val sa .blankScan).settle)) ∧
      (∀ (head : HeadIx) (sa event segment : Nat) k pos r, t.twinSetting head.val sa = some (k, pos, r) →
        exec (.fireReport h head sa event segment (some true)) s = .next (t.setPassed head.val r).hostProgress.settle ∧
        exec (.fireReport h head sa 3 segment none) s = .next (t.settingFired k r.home pos).hostProgress.settle) ∧
      (∀ (wheel : WheelIx) (result : Nat), exec (.releaseConf h wheel result) s =
        .next (t.setFldBit loaderPage LOADER.TWIN_REL wheel.val (decide (result = 0))).settle)) ∧
    (s.Hears h clsControl →
      let t := s.twinHeard h clsControl
      (∀ b : TwinState,
        let u := (t.setTw { t.tw with twin := some b }).refreshLanes
        exec (.twinState h b) s = .next (if t.tw.twin.isNone && t.flag rdyPage RDY.CATALOGUE && !bitOf b.rdySys RDY.CATALOGUE.lsb
          then u.sendCatalogue else u).settle) ∧
      (∀ id : Nat, t.stageRefusal id = none → ¬(t.load.mounted = true ∧ t.load.id = id ∧ t.load.phase = .none) →
        exec (.forwardMsg h (.stageLoad id)) s = .next ((t.tSend clsControl (.forward (.loadResult 0))).startStage id).settle) ∧
      (∀ (id : Nat) (store : Bool), t.unmountRefusal id = none → exec (.forwardMsg h (.unmountLoad id store)) s =
        .next ((t.setLoad { t.load with forTwin := true }).startUnmount id store).settle) ∧
      (∀ st, exec (.forwardMsg h (.loadResult st)) s = .next (t.forwardDone st).settle) ∧
      (∀ ns keyId, exec (.forwardMsg h (.nsKeyAck ns keyId)) s = .next (t.createAcked ns).settle) ∧
      (∀ ns b, exec (.forwardMsg h (.nsBinding ns b)) s = .next (t.takeBinding ns b).settle) ∧
      (∀ ns z bytes, exec (.forwardMsg h (.seal ns z bytes)) s = .next (t.setHost { t.host with
        seals := (t.host.seals.filter fun e => !(decide (e.1 = ns) && decide (e.2.1 = z))) ++ [(ns, z, bytes)] }).settle) ∧
      (∀ ns, exec (.forwardMsg h (.nsDeleted ns)) s = .next (t.forEach (t.host.ctxs.filter fun x => decide (x.work = .delete ns))
        fun u x => u.complete x.conn x.cid .ok).settle) ∧
      (∀ kind intent wheel store, ¬(t.mot.custodyXspi.1 = 3 ∧ kind = 2) → exec (.forwardMsg h (.custody kind intent wheel store)) s =
        .next (State.settle { t with mot := { t.mot with custodyXspi := (kind, intent, wheel, store) } })))

/-- Resets, temperature and bring-up (R30, R62, R565, R566, R576, R617, R620, R626, R628, R635). -/
def Obligations.ResetAndTemperatureCommands : Prop :=
  ∀ s : State,
    (∀ (straps : Straps) (trim : TrimSources) (holdup : Bool) (keys : Bool × Bool),
      let c := chipPage
      let t := s.afterReset true
      let t := (t.setFlag c CHIP.ROLE straps.manager).setFlag c CHIP.SIDE straps.sideB
      let t := (t.setFld c CHIP.SHELF_ID straps.shelf.val).setFld c CHIP.BOOT_SRC straps.bootSrc.val
      let t := (t.setFld c CHIP.PWR_CYCLES (t.fld c CHIP.PWR_CYCLES + 1)).setFlag c CHIP.DEBUG_UNLOCKED false
      let t := t.setSvc { t.svc with trim := trim, hold := holdup }
      exec (.porstNRelease straps trim holdup keys) s = .next ((t.setFld ckPage CK.RESET_CAUSE 1).bringUp keys).settle) ∧
    exec .porstNAssertion s = .next (s.holdReset .porst 0).settle ∧
    (s.svc.held ≠ .porst →
      exec .pwrgdFall s = .next (s.holdReset .power 3).settle ∧
      exec .thermalTrip s = .next (((s.holdReset .thermal 2).setFld chipPage CHIP.DIE_TEMP 920).setFld chipPage
        CHIP.DIE_TEMP_PEAK 920).settle) ∧
    (∀ temp : BitVec 12, s.svc.held = .thermal → temp.toInt < 800 →
      exec (.thermalTripEnd temp) s = .next (s.leaveReset.dieTemp temp).settle) ∧
    (∀ temp : BitVec 12,
      let t := s.dieTemp temp
      exec (.tempAlarmClear temp) s = .next t.settle ∧
      (temp.toInt < t.fldS chipPage CHIP.TEMP_ALARM → exec (.tempAlarm temp) s = .next t.settle) ∧
      (t.fldS chipPage CHIP.TEMP_ALARM ≤ temp.toInt →
        exec (.tempAlarm temp) s = .next ((t.istat chipPage 9).event chipPage 0xF002 4).settle)) ∧
    (∀ k : StackIx, exec (.hbmOvertemp k) s =
      .next ((s.istat (hbmPage k.val) 12).event (hbmPage k.val) 0x520C 4).settle) ∧
    (s.fld chipPage CHIP.STATE = 6 → s.flag mcPage MC.BOOT_CFG_FATAL_RESET_EN = true → s.recentFatals.length < 3 →
      s.svc.fatalAt + s.fldIn mcPage MC.BOOT_CFG_FATAL_HOLD 1 255 * 100000000 ≤ s.now →
      exec .fatalReset s = .next (((s.setSvc { s.svc with fatals := s.recentFatals ++ [s.poweredS] }).chipReset 5).setFld
        mcPage MC.FATAL_RESETS (s.recentFatals.length + 1)).settle) ∧
    (s.flag rdyPage RDY.MC_RUN = true → s.tw.everPaired = false → s.twState = 1 → s.twinAbsent = true →
      s.fld rdyPage RDY.RDY_TIME 1 * 1000 + s.fldIn mcPage MC.BOOT_CFG_BOOT_HOLD 1 255 * 100000000 ≤ s.now →
      exec .bootHoldExpiry s = .next ((s.event twPage 0x8602 3).takeover).settle) ∧
    exec .poweredTimeSave s = .next s.savePowered.settle ∧
    exec .ldOwnxFall s = .next (s.setFlag loaderPage LOADER.LD_STAT_OWNX_IN false).hoGo.settle ∧
    (∀ w : WheelIx, s.fld loaderPage LOADER.CUSTODY_KIND = 2 ∨ s.flag loaderPage LOADER.LD_STAT_RECOVERY = true →
      s.fld loaderPage LOADER.CUSTODY_WHEEL = w.val → s.flag (wheelPage w.val) WHEEL.WH_STAT_CLAMP_SNS = false →
      (s.wheel w.val).clampAt + 1000000000 ≤ s.now →
      let u := s.event loaderPage 0x7308 5 0xFF w.val
      let r := u.writeCustody 0 0 w.val (s.fld loaderPage LOADER.CUSTODY_STORE)
      let r := (r.setFlag loaderPage LOADER.LD_STAT_RECOVERY false).count loaderPage LOADER.RECOV_CNT
      exec (.clampSenseTimeout w) s = .next (if s.flag loaderPage LOADER.LD_STAT_RECOVERY
        then ((r.istat loaderPage 10).event loaderPage 0x7307 3).planStops else u.planStops).settle)

/-- Self-tests (R577-R581). -/
def Obligations.SelfTestCommands : Prop :=
  ∀ (test : TestIx) (s : State),
    let n := test.val + 1
    let o := testObject n (s.covCursor n)
    (∀ q c r, s.accepts stPage = true → s.svc.request = some q → q.cells = c :: r → q.test = n → s.mayTest q.page = true →
      s.spareFree n q.page c = true → s.idleSlot n q.page = true → s.mcSpare = true →
      exec (.selfTestStart test .request) s = .next ((s.runTest { test := n, page := q.page, cell := c, kind := .request }).setFld
        stPage ST.REQ_STAT_STATE 2).settle) ∧
    (∀ kind : TestKind, kind ≠ .request → s.accepts stPage = true → s.fldBit stPage ST.TEST_MASK test.val = true →
      s.flag stPage ST.ST_CFG_ST_EN = true → s.mcSpare = true →
      (s.flag (o.1 * 0x1000) HDR.TEST_PERMIT = false → exec (.selfTestStart test kind) s = .next (s.cursorOn n).settle) ∧
      (s.flag (o.1 * 0x1000) HDR.TEST_PERMIT = true → s.mayTest o.1 = true → s.spareFree n o.1 o.2 = true → s.idleSlot n o.1 = true →
        exec (.selfTestStart test kind) s =
          .next (s.runTest { test := n, page := o.1, cell := o.2, kind := .pass }).settle)) ∧
    (∀ (kind : TestKind) (pass : Bool) r, s.svc.tests.find? (fun r => decide (r.test = n) && decide (r.kind = kind)) = some r →
      let t := (s.testLeaves r).istat (r.page * 0x1000) 5
      let t := if r.test = 6 ∧ pass = true ∧ t.coreSt r.cell = coreTest then (t.setCore r.cell coreSpare 15).coresShow else t
      let t := if pass then t.count stPage ST.TEST_PASS else t.condemn r
      (kind = .pass → exec (.selfTestDone test kind pass) s = .next (t.cursorOn n).settle) ∧
      (kind = .forced → exec (.selfTestDone test kind pass) s = .next t.settle) ∧
      (∀ q, kind = .request → t.svc.request = some q →
        (∀ c rest, q.cells.drop 1 = c :: rest →
          let u := t.setSvc { t.svc with request := some { q with cells := c :: rest, failed := q.failed || !pass } }
          let fits := u.spareFree n q.page c = true ∧ u.flag (q.page * 0x1000) HDR.TEST_PERMIT = true
          (q.force = false → exec (.selfTestDone test kind pass) s = .next (u.setFld stPage ST.REQ_STAT_STATE 1).settle) ∧
          (q.force = true → fits → exec (.selfTestDone test kind pass) s =
            .next (u.runTest { test := n, page := q.page, cell := c, kind := .request }).settle) ∧
          (q.force = true → ¬ fits → exec (.selfTestDone test kind pass) s =
            .next ((u.setSvc { u.svc with request := none }).reqDone 3).settle)) ∧
        (q.cells.length ≤ 1 → exec (.selfTestDone test kind pass) s =
          .next ((t.setSvc { t.svc with request := none }).reqDone (boolNat (q.failed || !pass))).settle))) ∧
    (∀ (why : EarlyEnd) r, s.svc.tests.find? (fun r => decide (r.test = n)) = some r →
      (why = .spareNeeded ∨ (why = .holdup ∧ s.fire.holdup = true) ∨ (why = .wheelTaken ∧ n = 8)) →
      exec (.selfTestEarlyEnd test why) s = .next (s.testEarly r).settle) ∧
    (s.stPeriod ≤ s.passAge n → n ∉ s.svc.overdue → s.fldBit stPage ST.TEST_MASK test.val = true →
      exec (.passOverdue test) s =
        .next (((s.setSvc { s.svc with overdue := s.svc.overdue ++ [n] }).istat stPage 10).event stPage 0x8702 3 0xFF n).settle) ∧
    (s.flag stPage ST.ST_CFG_AUTO_FORCE = true → n ∈ s.svc.overdue →
      (∀ e, s.svc.forcedAt.find? (fun e => decide (e.1 = n)) = some e → e.2 + 600 ≤ s.poweredS) →
      let u := s.setSvc { s.svc with forcedAt := (s.svc.forcedAt.filter fun e => decide (e.1 ≠ n)) ++ [(n, s.poweredS)] }
      (s.flag (o.1 * 0x1000) HDR.TEST_PERMIT = false → exec (.forcedTestTick test) s = .next (s.cursorOn n).settle) ∧
      (s.flag (o.1 * 0x1000) HDR.TEST_PERMIT = true → s.mayTest o.1 = true → s.spareFree n o.1 o.2 = true →
        exec (.forcedTestTick test) s = .next ((u.event stPage 0x8703 2 o.2 (o.1 * 0x1000)).runTest
          { test := n, page := o.1, cell := o.2, kind := .pass }).settle))

end
end

