-- ==== Sys2Proof/Laws/State.lean ====
section
/-!
SUPPORT. Which part of the state each named update changes: every other part, and every register field
where no register is written, is as it was.
-/
namespace Sys2Proof.Machine

variable (s : State)

/-! setFld changes `regs` alone -/

@[simp] theorem State.setFld_pending (b : Nat) (f : Fld) (v i : Nat) : (s.setFld b f v i).pending = s.pending := rfl
@[simp] theorem State.setFld_words (b : Nat) (f : Fld) (v i : Nat) : (s.setFld b f v i).words = s.words := rfl
@[simp] theorem State.setFld_now (b : Nat) (f : Fld) (v i : Nat) : (s.setFld b f v i).now = s.now := rfl
@[simp] theorem State.setFld_recd (b : Nat) (f : Fld) (v i : Nat) : (s.setFld b f v i).recd = s.recd := rfl
@[simp] theorem State.setFld_oq (b : Nat) (f : Fld) (v i : Nat) : (s.setFld b f v i).oq = s.oq := rfl
@[simp] theorem State.setFld_sess (b : Nat) (f : Fld) (v i : Nat) : (s.setFld b f v i).sess = s.sess := rfl
@[simp] theorem State.setFld_arb (b : Nat) (f : Fld) (v i : Nat) : (s.setFld b f v i).arb = s.arb := rfl
@[simp] theorem State.setFld_flt (b : Nat) (f : Fld) (v i : Nat) : (s.setFld b f v i).flt = s.flt := rfl
@[simp] theorem State.setFld_links (b : Nat) (f : Fld) (v i : Nat) : (s.setFld b f v i).links = s.links := rfl
@[simp] theorem State.setFld_aon (b : Nat) (f : Fld) (v i : Nat) : (s.setFld b f v i).aon = s.aon := rfl
@[simp] theorem State.setFld_ce (b : Nat) (f : Fld) (v i : Nat) : (s.setFld b f v i).ce = s.ce := rfl
@[simp] theorem State.setFld_mot (b : Nat) (f : Fld) (v i : Nat) : (s.setFld b f v i).mot = s.mot := rfl
@[simp] theorem State.setFld_wheels (b : Nat) (f : Fld) (v i : Nat) : (s.setFld b f v i).wheels = s.wheels := rfl
@[simp] theorem State.setFld_bands (b : Nat) (f : Fld) (v i : Nat) : (s.setFld b f v i).bands = s.bands := rfl
@[simp] theorem State.setFld_pool (b : Nat) (f : Fld) (v i : Nat) : (s.setFld b f v i).pool = s.pool := rfl
@[simp] theorem State.setFld_fire (b : Nat) (f : Fld) (v i : Nat) : (s.setFld b f v i).fire = s.fire := rfl
@[simp] theorem State.setFld_load (b : Nat) (f : Fld) (v i : Nat) : (s.setFld b f v i).load = s.load := rfl
@[simp] theorem State.setFld_st (b : Nat) (f : Fld) (v i : Nat) : (s.setFld b f v i).st = s.st := rfl
@[simp] theorem State.setFld_jr (b : Nat) (f : Fld) (v i : Nat) : (s.setFld b f v i).jr = s.jr := rfl
@[simp] theorem State.setFld_mem (b : Nat) (f : Fld) (v i : Nat) : (s.setFld b f v i).mem = s.mem := rfl
@[simp] theorem State.setFld_host (b : Nat) (f : Fld) (v i : Nat) : (s.setFld b f v i).host = s.host := rfl
@[simp] theorem State.setFld_te (b : Nat) (f : Fld) (v i : Nat) : (s.setFld b f v i).te = s.te := rfl
@[simp] theorem State.setFld_tw (b : Nat) (f : Fld) (v i : Nat) : (s.setFld b f v i).tw = s.tw := rfl
@[simp] theorem State.setFld_hy (b : Nat) (f : Fld) (v i : Nat) : (s.setFld b f v i).hy = s.hy := rfl
@[simp] theorem State.setFld_svc (b : Nat) (f : Fld) (v i : Nat) : (s.setFld b f v i).svc = s.svc := rfl
@[simp] theorem State.setFld_out (b : Nat) (f : Fld) (v i : Nat) : (s.setFld b f v i).out = s.out := rfl
@[simp] theorem State.setFld_freeCount (b : Nat) (f : Fld) (v i : Nat) : (s.setFld b f v i).freeCount = s.freeCount := rfl

/-! setFlag changes `regs` alone -/

@[simp] theorem State.setFlag_pending (b : Nat) (f : Fld) (v : Bool) (i : Nat) : (s.setFlag b f v i).pending = s.pending := rfl
@[simp] theorem State.setFlag_words (b : Nat) (f : Fld) (v : Bool) (i : Nat) : (s.setFlag b f v i).words = s.words := rfl
@[simp] theorem State.setFlag_now (b : Nat) (f : Fld) (v : Bool) (i : Nat) : (s.setFlag b f v i).now = s.now := rfl
@[simp] theorem State.setFlag_recd (b : Nat) (f : Fld) (v : Bool) (i : Nat) : (s.setFlag b f v i).recd = s.recd := rfl
@[simp] theorem State.setFlag_oq (b : Nat) (f : Fld) (v : Bool) (i : Nat) : (s.setFlag b f v i).oq = s.oq := rfl
@[simp] theorem State.setFlag_sess (b : Nat) (f : Fld) (v : Bool) (i : Nat) : (s.setFlag b f v i).sess = s.sess := rfl
@[simp] theorem State.setFlag_arb (b : Nat) (f : Fld) (v : Bool) (i : Nat) : (s.setFlag b f v i).arb = s.arb := rfl
@[simp] theorem State.setFlag_flt (b : Nat) (f : Fld) (v : Bool) (i : Nat) : (s.setFlag b f v i).flt = s.flt := rfl
@[simp] theorem State.setFlag_links (b : Nat) (f : Fld) (v : Bool) (i : Nat) : (s.setFlag b f v i).links = s.links := rfl
@[simp] theorem State.setFlag_aon (b : Nat) (f : Fld) (v : Bool) (i : Nat) : (s.setFlag b f v i).aon = s.aon := rfl
@[simp] theorem State.setFlag_ce (b : Nat) (f : Fld) (v : Bool) (i : Nat) : (s.setFlag b f v i).ce = s.ce := rfl
@[simp] theorem State.setFlag_mot (b : Nat) (f : Fld) (v : Bool) (i : Nat) : (s.setFlag b f v i).mot = s.mot := rfl
@[simp] theorem State.setFlag_wheels (b : Nat) (f : Fld) (v : Bool) (i : Nat) : (s.setFlag b f v i).wheels = s.wheels := rfl
@[simp] theorem State.setFlag_bands (b : Nat) (f : Fld) (v : Bool) (i : Nat) : (s.setFlag b f v i).bands = s.bands := rfl
@[simp] theorem State.setFlag_pool (b : Nat) (f : Fld) (v : Bool) (i : Nat) : (s.setFlag b f v i).pool = s.pool := rfl
@[simp] theorem State.setFlag_fire (b : Nat) (f : Fld) (v : Bool) (i : Nat) : (s.setFlag b f v i).fire = s.fire := rfl
@[simp] theorem State.setFlag_load (b : Nat) (f : Fld) (v : Bool) (i : Nat) : (s.setFlag b f v i).load = s.load := rfl
@[simp] theorem State.setFlag_st (b : Nat) (f : Fld) (v : Bool) (i : Nat) : (s.setFlag b f v i).st = s.st := rfl
@[simp] theorem State.setFlag_jr (b : Nat) (f : Fld) (v : Bool) (i : Nat) : (s.setFlag b f v i).jr = s.jr := rfl
@[simp] theorem State.setFlag_mem (b : Nat) (f : Fld) (v : Bool) (i : Nat) : (s.setFlag b f v i).mem = s.mem := rfl
@[simp] theorem State.setFlag_host (b : Nat) (f : Fld) (v : Bool) (i : Nat) : (s.setFlag b f v i).host = s.host := rfl
@[simp] theorem State.setFlag_te (b : Nat) (f : Fld) (v : Bool) (i : Nat) : (s.setFlag b f v i).te = s.te := rfl
@[simp] theorem State.setFlag_tw (b : Nat) (f : Fld) (v : Bool) (i : Nat) : (s.setFlag b f v i).tw = s.tw := rfl
@[simp] theorem State.setFlag_hy (b : Nat) (f : Fld) (v : Bool) (i : Nat) : (s.setFlag b f v i).hy = s.hy := rfl
@[simp] theorem State.setFlag_svc (b : Nat) (f : Fld) (v : Bool) (i : Nat) : (s.setFlag b f v i).svc = s.svc := rfl
@[simp] theorem State.setFlag_out (b : Nat) (f : Fld) (v : Bool) (i : Nat) : (s.setFlag b f v i).out = s.out := rfl
@[simp] theorem State.setFlag_freeCount (b : Nat) (f : Fld) (v : Bool) (i : Nat) : (s.setFlag b f v i).freeCount = s.freeCount := rfl

/-! setFldS changes `regs` alone -/

@[simp] theorem State.setFldS_pending (b : Nat) (f : Fld) (v : Int) (i : Nat) : (s.setFldS b f v i).pending = s.pending := rfl
@[simp] theorem State.setFldS_words (b : Nat) (f : Fld) (v : Int) (i : Nat) : (s.setFldS b f v i).words = s.words := rfl
@[simp] theorem State.setFldS_now (b : Nat) (f : Fld) (v : Int) (i : Nat) : (s.setFldS b f v i).now = s.now := rfl
@[simp] theorem State.setFldS_recd (b : Nat) (f : Fld) (v : Int) (i : Nat) : (s.setFldS b f v i).recd = s.recd := rfl
@[simp] theorem State.setFldS_oq (b : Nat) (f : Fld) (v : Int) (i : Nat) : (s.setFldS b f v i).oq = s.oq := rfl
@[simp] theorem State.setFldS_sess (b : Nat) (f : Fld) (v : Int) (i : Nat) : (s.setFldS b f v i).sess = s.sess := rfl
@[simp] theorem State.setFldS_arb (b : Nat) (f : Fld) (v : Int) (i : Nat) : (s.setFldS b f v i).arb = s.arb := rfl
@[simp] theorem State.setFldS_flt (b : Nat) (f : Fld) (v : Int) (i : Nat) : (s.setFldS b f v i).flt = s.flt := rfl
@[simp] theorem State.setFldS_links (b : Nat) (f : Fld) (v : Int) (i : Nat) : (s.setFldS b f v i).links = s.links := rfl
@[simp] theorem State.setFldS_aon (b : Nat) (f : Fld) (v : Int) (i : Nat) : (s.setFldS b f v i).aon = s.aon := rfl
@[simp] theorem State.setFldS_ce (b : Nat) (f : Fld) (v : Int) (i : Nat) : (s.setFldS b f v i).ce = s.ce := rfl
@[simp] theorem State.setFldS_mot (b : Nat) (f : Fld) (v : Int) (i : Nat) : (s.setFldS b f v i).mot = s.mot := rfl
@[simp] theorem State.setFldS_wheels (b : Nat) (f : Fld) (v : Int) (i : Nat) : (s.setFldS b f v i).wheels = s.wheels := rfl
@[simp] theorem State.setFldS_bands (b : Nat) (f : Fld) (v : Int) (i : Nat) : (s.setFldS b f v i).bands = s.bands := rfl
@[simp] theorem State.setFldS_pool (b : Nat) (f : Fld) (v : Int) (i : Nat) : (s.setFldS b f v i).pool = s.pool := rfl
@[simp] theorem State.setFldS_fire (b : Nat) (f : Fld) (v : Int) (i : Nat) : (s.setFldS b f v i).fire = s.fire := rfl
@[simp] theorem State.setFldS_load (b : Nat) (f : Fld) (v : Int) (i : Nat) : (s.setFldS b f v i).load = s.load := rfl
@[simp] theorem State.setFldS_st (b : Nat) (f : Fld) (v : Int) (i : Nat) : (s.setFldS b f v i).st = s.st := rfl
@[simp] theorem State.setFldS_jr (b : Nat) (f : Fld) (v : Int) (i : Nat) : (s.setFldS b f v i).jr = s.jr := rfl
@[simp] theorem State.setFldS_mem (b : Nat) (f : Fld) (v : Int) (i : Nat) : (s.setFldS b f v i).mem = s.mem := rfl
@[simp] theorem State.setFldS_host (b : Nat) (f : Fld) (v : Int) (i : Nat) : (s.setFldS b f v i).host = s.host := rfl
@[simp] theorem State.setFldS_te (b : Nat) (f : Fld) (v : Int) (i : Nat) : (s.setFldS b f v i).te = s.te := rfl
@[simp] theorem State.setFldS_tw (b : Nat) (f : Fld) (v : Int) (i : Nat) : (s.setFldS b f v i).tw = s.tw := rfl
@[simp] theorem State.setFldS_hy (b : Nat) (f : Fld) (v : Int) (i : Nat) : (s.setFldS b f v i).hy = s.hy := rfl
@[simp] theorem State.setFldS_svc (b : Nat) (f : Fld) (v : Int) (i : Nat) : (s.setFldS b f v i).svc = s.svc := rfl
@[simp] theorem State.setFldS_out (b : Nat) (f : Fld) (v : Int) (i : Nat) : (s.setFldS b f v i).out = s.out := rfl
@[simp] theorem State.setFldS_freeCount (b : Nat) (f : Fld) (v : Int) (i : Nat) : (s.setFldS b f v i).freeCount = s.freeCount := rfl

/-! setFldBit changes `regs` alone -/

@[simp] theorem State.setFldBit_pending (b : Nat) (f : Fld) (n : Nat) (v : Bool) (i : Nat) : (s.setFldBit b f n v i).pending = s.pending := rfl
@[simp] theorem State.setFldBit_words (b : Nat) (f : Fld) (n : Nat) (v : Bool) (i : Nat) : (s.setFldBit b f n v i).words = s.words := rfl
@[simp] theorem State.setFldBit_now (b : Nat) (f : Fld) (n : Nat) (v : Bool) (i : Nat) : (s.setFldBit b f n v i).now = s.now := rfl
@[simp] theorem State.setFldBit_recd (b : Nat) (f : Fld) (n : Nat) (v : Bool) (i : Nat) : (s.setFldBit b f n v i).recd = s.recd := rfl
@[simp] theorem State.setFldBit_oq (b : Nat) (f : Fld) (n : Nat) (v : Bool) (i : Nat) : (s.setFldBit b f n v i).oq = s.oq := rfl
@[simp] theorem State.setFldBit_sess (b : Nat) (f : Fld) (n : Nat) (v : Bool) (i : Nat) : (s.setFldBit b f n v i).sess = s.sess := rfl
@[simp] theorem State.setFldBit_arb (b : Nat) (f : Fld) (n : Nat) (v : Bool) (i : Nat) : (s.setFldBit b f n v i).arb = s.arb := rfl
@[simp] theorem State.setFldBit_flt (b : Nat) (f : Fld) (n : Nat) (v : Bool) (i : Nat) : (s.setFldBit b f n v i).flt = s.flt := rfl
@[simp] theorem State.setFldBit_links (b : Nat) (f : Fld) (n : Nat) (v : Bool) (i : Nat) : (s.setFldBit b f n v i).links = s.links := rfl
@[simp] theorem State.setFldBit_aon (b : Nat) (f : Fld) (n : Nat) (v : Bool) (i : Nat) : (s.setFldBit b f n v i).aon = s.aon := rfl
@[simp] theorem State.setFldBit_ce (b : Nat) (f : Fld) (n : Nat) (v : Bool) (i : Nat) : (s.setFldBit b f n v i).ce = s.ce := rfl
@[simp] theorem State.setFldBit_mot (b : Nat) (f : Fld) (n : Nat) (v : Bool) (i : Nat) : (s.setFldBit b f n v i).mot = s.mot := rfl
@[simp] theorem State.setFldBit_wheels (b : Nat) (f : Fld) (n : Nat) (v : Bool) (i : Nat) : (s.setFldBit b f n v i).wheels = s.wheels := rfl
@[simp] theorem State.setFldBit_bands (b : Nat) (f : Fld) (n : Nat) (v : Bool) (i : Nat) : (s.setFldBit b f n v i).bands = s.bands := rfl
@[simp] theorem State.setFldBit_pool (b : Nat) (f : Fld) (n : Nat) (v : Bool) (i : Nat) : (s.setFldBit b f n v i).pool = s.pool := rfl
@[simp] theorem State.setFldBit_fire (b : Nat) (f : Fld) (n : Nat) (v : Bool) (i : Nat) : (s.setFldBit b f n v i).fire = s.fire := rfl
@[simp] theorem State.setFldBit_load (b : Nat) (f : Fld) (n : Nat) (v : Bool) (i : Nat) : (s.setFldBit b f n v i).load = s.load := rfl
@[simp] theorem State.setFldBit_st (b : Nat) (f : Fld) (n : Nat) (v : Bool) (i : Nat) : (s.setFldBit b f n v i).st = s.st := rfl
@[simp] theorem State.setFldBit_jr (b : Nat) (f : Fld) (n : Nat) (v : Bool) (i : Nat) : (s.setFldBit b f n v i).jr = s.jr := rfl
@[simp] theorem State.setFldBit_mem (b : Nat) (f : Fld) (n : Nat) (v : Bool) (i : Nat) : (s.setFldBit b f n v i).mem = s.mem := rfl
@[simp] theorem State.setFldBit_host (b : Nat) (f : Fld) (n : Nat) (v : Bool) (i : Nat) : (s.setFldBit b f n v i).host = s.host := rfl
@[simp] theorem State.setFldBit_te (b : Nat) (f : Fld) (n : Nat) (v : Bool) (i : Nat) : (s.setFldBit b f n v i).te = s.te := rfl
@[simp] theorem State.setFldBit_tw (b : Nat) (f : Fld) (n : Nat) (v : Bool) (i : Nat) : (s.setFldBit b f n v i).tw = s.tw := rfl
@[simp] theorem State.setFldBit_hy (b : Nat) (f : Fld) (n : Nat) (v : Bool) (i : Nat) : (s.setFldBit b f n v i).hy = s.hy := rfl
@[simp] theorem State.setFldBit_svc (b : Nat) (f : Fld) (n : Nat) (v : Bool) (i : Nat) : (s.setFldBit b f n v i).svc = s.svc := rfl
@[simp] theorem State.setFldBit_out (b : Nat) (f : Fld) (n : Nat) (v : Bool) (i : Nat) : (s.setFldBit b f n v i).out = s.out := rfl
@[simp] theorem State.setFldBit_freeCount (b : Nat) (f : Fld) (n : Nat) (v : Bool) (i : Nat) : (s.setFldBit b f n v i).freeCount = s.freeCount := rfl

/-! count changes `regs` alone -/

@[simp] theorem State.count_pending (b : Nat) (f : Fld) (n i : Nat) : (s.count b f n i).pending = s.pending := rfl
@[simp] theorem State.count_words (b : Nat) (f : Fld) (n i : Nat) : (s.count b f n i).words = s.words := rfl
@[simp] theorem State.count_now (b : Nat) (f : Fld) (n i : Nat) : (s.count b f n i).now = s.now := rfl
@[simp] theorem State.count_recd (b : Nat) (f : Fld) (n i : Nat) : (s.count b f n i).recd = s.recd := rfl
@[simp] theorem State.count_oq (b : Nat) (f : Fld) (n i : Nat) : (s.count b f n i).oq = s.oq := rfl
@[simp] theorem State.count_sess (b : Nat) (f : Fld) (n i : Nat) : (s.count b f n i).sess = s.sess := rfl
@[simp] theorem State.count_arb (b : Nat) (f : Fld) (n i : Nat) : (s.count b f n i).arb = s.arb := rfl
@[simp] theorem State.count_flt (b : Nat) (f : Fld) (n i : Nat) : (s.count b f n i).flt = s.flt := rfl
@[simp] theorem State.count_links (b : Nat) (f : Fld) (n i : Nat) : (s.count b f n i).links = s.links := rfl
@[simp] theorem State.count_aon (b : Nat) (f : Fld) (n i : Nat) : (s.count b f n i).aon = s.aon := rfl
@[simp] theorem State.count_ce (b : Nat) (f : Fld) (n i : Nat) : (s.count b f n i).ce = s.ce := rfl
@[simp] theorem State.count_mot (b : Nat) (f : Fld) (n i : Nat) : (s.count b f n i).mot = s.mot := rfl
@[simp] theorem State.count_wheels (b : Nat) (f : Fld) (n i : Nat) : (s.count b f n i).wheels = s.wheels := rfl
@[simp] theorem State.count_bands (b : Nat) (f : Fld) (n i : Nat) : (s.count b f n i).bands = s.bands := rfl
@[simp] theorem State.count_pool (b : Nat) (f : Fld) (n i : Nat) : (s.count b f n i).pool = s.pool := rfl
@[simp] theorem State.count_fire (b : Nat) (f : Fld) (n i : Nat) : (s.count b f n i).fire = s.fire := rfl
@[simp] theorem State.count_load (b : Nat) (f : Fld) (n i : Nat) : (s.count b f n i).load = s.load := rfl
@[simp] theorem State.count_st (b : Nat) (f : Fld) (n i : Nat) : (s.count b f n i).st = s.st := rfl
@[simp] theorem State.count_jr (b : Nat) (f : Fld) (n i : Nat) : (s.count b f n i).jr = s.jr := rfl
@[simp] theorem State.count_mem (b : Nat) (f : Fld) (n i : Nat) : (s.count b f n i).mem = s.mem := rfl
@[simp] theorem State.count_host (b : Nat) (f : Fld) (n i : Nat) : (s.count b f n i).host = s.host := rfl
@[simp] theorem State.count_te (b : Nat) (f : Fld) (n i : Nat) : (s.count b f n i).te = s.te := rfl
@[simp] theorem State.count_tw (b : Nat) (f : Fld) (n i : Nat) : (s.count b f n i).tw = s.tw := rfl
@[simp] theorem State.count_hy (b : Nat) (f : Fld) (n i : Nat) : (s.count b f n i).hy = s.hy := rfl
@[simp] theorem State.count_svc (b : Nat) (f : Fld) (n i : Nat) : (s.count b f n i).svc = s.svc := rfl
@[simp] theorem State.count_out (b : Nat) (f : Fld) (n i : Nat) : (s.count b f n i).out = s.out := rfl
@[simp] theorem State.count_freeCount (b : Nat) (f : Fld) (n i : Nat) : (s.count b f n i).freeCount = s.freeCount := rfl

/-! countWrap changes `regs` alone -/

@[simp] theorem State.countWrap_pending (b : Nat) (f : Fld) (n : Nat) : (s.countWrap b f n).pending = s.pending := rfl
@[simp] theorem State.countWrap_words (b : Nat) (f : Fld) (n : Nat) : (s.countWrap b f n).words = s.words := rfl
@[simp] theorem State.countWrap_now (b : Nat) (f : Fld) (n : Nat) : (s.countWrap b f n).now = s.now := rfl
@[simp] theorem State.countWrap_recd (b : Nat) (f : Fld) (n : Nat) : (s.countWrap b f n).recd = s.recd := rfl
@[simp] theorem State.countWrap_oq (b : Nat) (f : Fld) (n : Nat) : (s.countWrap b f n).oq = s.oq := rfl
@[simp] theorem State.countWrap_sess (b : Nat) (f : Fld) (n : Nat) : (s.countWrap b f n).sess = s.sess := rfl
@[simp] theorem State.countWrap_arb (b : Nat) (f : Fld) (n : Nat) : (s.countWrap b f n).arb = s.arb := rfl
@[simp] theorem State.countWrap_flt (b : Nat) (f : Fld) (n : Nat) : (s.countWrap b f n).flt = s.flt := rfl
@[simp] theorem State.countWrap_links (b : Nat) (f : Fld) (n : Nat) : (s.countWrap b f n).links = s.links := rfl
@[simp] theorem State.countWrap_aon (b : Nat) (f : Fld) (n : Nat) : (s.countWrap b f n).aon = s.aon := rfl
@[simp] theorem State.countWrap_ce (b : Nat) (f : Fld) (n : Nat) : (s.countWrap b f n).ce = s.ce := rfl
@[simp] theorem State.countWrap_mot (b : Nat) (f : Fld) (n : Nat) : (s.countWrap b f n).mot = s.mot := rfl
@[simp] theorem State.countWrap_wheels (b : Nat) (f : Fld) (n : Nat) : (s.countWrap b f n).wheels = s.wheels := rfl
@[simp] theorem State.countWrap_bands (b : Nat) (f : Fld) (n : Nat) : (s.countWrap b f n).bands = s.bands := rfl
@[simp] theorem State.countWrap_pool (b : Nat) (f : Fld) (n : Nat) : (s.countWrap b f n).pool = s.pool := rfl
@[simp] theorem State.countWrap_fire (b : Nat) (f : Fld) (n : Nat) : (s.countWrap b f n).fire = s.fire := rfl
@[simp] theorem State.countWrap_load (b : Nat) (f : Fld) (n : Nat) : (s.countWrap b f n).load = s.load := rfl
@[simp] theorem State.countWrap_st (b : Nat) (f : Fld) (n : Nat) : (s.countWrap b f n).st = s.st := rfl
@[simp] theorem State.countWrap_jr (b : Nat) (f : Fld) (n : Nat) : (s.countWrap b f n).jr = s.jr := rfl
@[simp] theorem State.countWrap_mem (b : Nat) (f : Fld) (n : Nat) : (s.countWrap b f n).mem = s.mem := rfl
@[simp] theorem State.countWrap_host (b : Nat) (f : Fld) (n : Nat) : (s.countWrap b f n).host = s.host := rfl
@[simp] theorem State.countWrap_te (b : Nat) (f : Fld) (n : Nat) : (s.countWrap b f n).te = s.te := rfl
@[simp] theorem State.countWrap_tw (b : Nat) (f : Fld) (n : Nat) : (s.countWrap b f n).tw = s.tw := rfl
@[simp] theorem State.countWrap_hy (b : Nat) (f : Fld) (n : Nat) : (s.countWrap b f n).hy = s.hy := rfl
@[simp] theorem State.countWrap_svc (b : Nat) (f : Fld) (n : Nat) : (s.countWrap b f n).svc = s.svc := rfl
@[simp] theorem State.countWrap_out (b : Nat) (f : Fld) (n : Nat) : (s.countWrap b f n).out = s.out := rfl
@[simp] theorem State.countWrap_freeCount (b : Nat) (f : Fld) (n : Nat) : (s.countWrap b f n).freeCount = s.freeCount := rfl

/-! peak changes `regs` alone -/

@[simp] theorem State.peak_pending (b : Nat) (f : Fld) (v i : Nat) : (s.peak b f v i).pending = s.pending := rfl
@[simp] theorem State.peak_words (b : Nat) (f : Fld) (v i : Nat) : (s.peak b f v i).words = s.words := rfl
@[simp] theorem State.peak_now (b : Nat) (f : Fld) (v i : Nat) : (s.peak b f v i).now = s.now := rfl
@[simp] theorem State.peak_recd (b : Nat) (f : Fld) (v i : Nat) : (s.peak b f v i).recd = s.recd := rfl
@[simp] theorem State.peak_oq (b : Nat) (f : Fld) (v i : Nat) : (s.peak b f v i).oq = s.oq := rfl
@[simp] theorem State.peak_sess (b : Nat) (f : Fld) (v i : Nat) : (s.peak b f v i).sess = s.sess := rfl
@[simp] theorem State.peak_arb (b : Nat) (f : Fld) (v i : Nat) : (s.peak b f v i).arb = s.arb := rfl
@[simp] theorem State.peak_flt (b : Nat) (f : Fld) (v i : Nat) : (s.peak b f v i).flt = s.flt := rfl
@[simp] theorem State.peak_links (b : Nat) (f : Fld) (v i : Nat) : (s.peak b f v i).links = s.links := rfl
@[simp] theorem State.peak_aon (b : Nat) (f : Fld) (v i : Nat) : (s.peak b f v i).aon = s.aon := rfl
@[simp] theorem State.peak_ce (b : Nat) (f : Fld) (v i : Nat) : (s.peak b f v i).ce = s.ce := rfl
@[simp] theorem State.peak_mot (b : Nat) (f : Fld) (v i : Nat) : (s.peak b f v i).mot = s.mot := rfl
@[simp] theorem State.peak_wheels (b : Nat) (f : Fld) (v i : Nat) : (s.peak b f v i).wheels = s.wheels := rfl
@[simp] theorem State.peak_bands (b : Nat) (f : Fld) (v i : Nat) : (s.peak b f v i).bands = s.bands := rfl
@[simp] theorem State.peak_pool (b : Nat) (f : Fld) (v i : Nat) : (s.peak b f v i).pool = s.pool := rfl
@[simp] theorem State.peak_fire (b : Nat) (f : Fld) (v i : Nat) : (s.peak b f v i).fire = s.fire := rfl
@[simp] theorem State.peak_load (b : Nat) (f : Fld) (v i : Nat) : (s.peak b f v i).load = s.load := rfl
@[simp] theorem State.peak_st (b : Nat) (f : Fld) (v i : Nat) : (s.peak b f v i).st = s.st := rfl
@[simp] theorem State.peak_jr (b : Nat) (f : Fld) (v i : Nat) : (s.peak b f v i).jr = s.jr := rfl
@[simp] theorem State.peak_mem (b : Nat) (f : Fld) (v i : Nat) : (s.peak b f v i).mem = s.mem := rfl
@[simp] theorem State.peak_host (b : Nat) (f : Fld) (v i : Nat) : (s.peak b f v i).host = s.host := rfl
@[simp] theorem State.peak_te (b : Nat) (f : Fld) (v i : Nat) : (s.peak b f v i).te = s.te := rfl
@[simp] theorem State.peak_tw (b : Nat) (f : Fld) (v i : Nat) : (s.peak b f v i).tw = s.tw := rfl
@[simp] theorem State.peak_hy (b : Nat) (f : Fld) (v i : Nat) : (s.peak b f v i).hy = s.hy := rfl
@[simp] theorem State.peak_svc (b : Nat) (f : Fld) (v i : Nat) : (s.peak b f v i).svc = s.svc := rfl
@[simp] theorem State.peak_out (b : Nat) (f : Fld) (v i : Nat) : (s.peak b f v i).out = s.out := rfl
@[simp] theorem State.peak_freeCount (b : Nat) (f : Fld) (v i : Nat) : (s.peak b f v i).freeCount = s.freeCount := rfl

/-! istat changes `regs` alone -/

@[simp] theorem State.istat_pending (b n : Nat) : (s.istat b n).pending = s.pending := rfl
@[simp] theorem State.istat_words (b n : Nat) : (s.istat b n).words = s.words := rfl
@[simp] theorem State.istat_now (b n : Nat) : (s.istat b n).now = s.now := rfl
@[simp] theorem State.istat_recd (b n : Nat) : (s.istat b n).recd = s.recd := rfl
@[simp] theorem State.istat_oq (b n : Nat) : (s.istat b n).oq = s.oq := rfl
@[simp] theorem State.istat_sess (b n : Nat) : (s.istat b n).sess = s.sess := rfl
@[simp] theorem State.istat_arb (b n : Nat) : (s.istat b n).arb = s.arb := rfl
@[simp] theorem State.istat_flt (b n : Nat) : (s.istat b n).flt = s.flt := rfl
@[simp] theorem State.istat_links (b n : Nat) : (s.istat b n).links = s.links := rfl
@[simp] theorem State.istat_aon (b n : Nat) : (s.istat b n).aon = s.aon := rfl
@[simp] theorem State.istat_ce (b n : Nat) : (s.istat b n).ce = s.ce := rfl
@[simp] theorem State.istat_mot (b n : Nat) : (s.istat b n).mot = s.mot := rfl
@[simp] theorem State.istat_wheels (b n : Nat) : (s.istat b n).wheels = s.wheels := rfl
@[simp] theorem State.istat_bands (b n : Nat) : (s.istat b n).bands = s.bands := rfl
@[simp] theorem State.istat_pool (b n : Nat) : (s.istat b n).pool = s.pool := rfl
@[simp] theorem State.istat_fire (b n : Nat) : (s.istat b n).fire = s.fire := rfl
@[simp] theorem State.istat_load (b n : Nat) : (s.istat b n).load = s.load := rfl
@[simp] theorem State.istat_st (b n : Nat) : (s.istat b n).st = s.st := rfl
@[simp] theorem State.istat_jr (b n : Nat) : (s.istat b n).jr = s.jr := rfl
@[simp] theorem State.istat_mem (b n : Nat) : (s.istat b n).mem = s.mem := rfl
@[simp] theorem State.istat_host (b n : Nat) : (s.istat b n).host = s.host := rfl
@[simp] theorem State.istat_te (b n : Nat) : (s.istat b n).te = s.te := rfl
@[simp] theorem State.istat_tw (b n : Nat) : (s.istat b n).tw = s.tw := rfl
@[simp] theorem State.istat_hy (b n : Nat) : (s.istat b n).hy = s.hy := rfl
@[simp] theorem State.istat_svc (b n : Nat) : (s.istat b n).svc = s.svc := rfl
@[simp] theorem State.istat_out (b n : Nat) : (s.istat b n).out = s.out := rfl
@[simp] theorem State.istat_freeCount (b n : Nat) : (s.istat b n).freeCount = s.freeCount := rfl

/-! setWord changes `words` alone -/

@[simp] theorem State.setWord_pending (a v : Nat) : (s.setWord a v).pending = s.pending := rfl
@[simp] theorem State.setWord_regs (a v : Nat) : (s.setWord a v).regs = s.regs := rfl
@[simp] theorem State.setWord_now (a v : Nat) : (s.setWord a v).now = s.now := rfl
@[simp] theorem State.setWord_recd (a v : Nat) : (s.setWord a v).recd = s.recd := rfl
@[simp] theorem State.setWord_oq (a v : Nat) : (s.setWord a v).oq = s.oq := rfl
@[simp] theorem State.setWord_sess (a v : Nat) : (s.setWord a v).sess = s.sess := rfl
@[simp] theorem State.setWord_arb (a v : Nat) : (s.setWord a v).arb = s.arb := rfl
@[simp] theorem State.setWord_flt (a v : Nat) : (s.setWord a v).flt = s.flt := rfl
@[simp] theorem State.setWord_links (a v : Nat) : (s.setWord a v).links = s.links := rfl
@[simp] theorem State.setWord_aon (a v : Nat) : (s.setWord a v).aon = s.aon := rfl
@[simp] theorem State.setWord_ce (a v : Nat) : (s.setWord a v).ce = s.ce := rfl
@[simp] theorem State.setWord_mot (a v : Nat) : (s.setWord a v).mot = s.mot := rfl
@[simp] theorem State.setWord_wheels (a v : Nat) : (s.setWord a v).wheels = s.wheels := rfl
@[simp] theorem State.setWord_bands (a v : Nat) : (s.setWord a v).bands = s.bands := rfl
@[simp] theorem State.setWord_pool (a v : Nat) : (s.setWord a v).pool = s.pool := rfl
@[simp] theorem State.setWord_fire (a v : Nat) : (s.setWord a v).fire = s.fire := rfl
@[simp] theorem State.setWord_load (a v : Nat) : (s.setWord a v).load = s.load := rfl
@[simp] theorem State.setWord_st (a v : Nat) : (s.setWord a v).st = s.st := rfl
@[simp] theorem State.setWord_jr (a v : Nat) : (s.setWord a v).jr = s.jr := rfl
@[simp] theorem State.setWord_mem (a v : Nat) : (s.setWord a v).mem = s.mem := rfl
@[simp] theorem State.setWord_host (a v : Nat) : (s.setWord a v).host = s.host := rfl
@[simp] theorem State.setWord_te (a v : Nat) : (s.setWord a v).te = s.te := rfl
@[simp] theorem State.setWord_tw (a v : Nat) : (s.setWord a v).tw = s.tw := rfl
@[simp] theorem State.setWord_hy (a v : Nat) : (s.setWord a v).hy = s.hy := rfl
@[simp] theorem State.setWord_svc (a v : Nat) : (s.setWord a v).svc = s.svc := rfl
@[simp] theorem State.setWord_out (a v : Nat) : (s.setWord a v).out = s.out := rfl
@[simp] theorem State.setWord_freeCount (a v : Nat) : (s.setWord a v).freeCount = s.freeCount := rfl
@[simp] theorem State.setWord_fld (a v : Nat) (p : Nat) (g : Fld) (j : Nat) : (s.setWord a v).fld p g j = s.fld p g j := rfl
@[simp] theorem State.setWord_flag (a v : Nat) (p : Nat) (g : Fld) (j : Nat) : (s.setWord a v).flag p g j = s.flag p g j := rfl

/-! send changes `out` alone -/

@[simp] theorem State.send_pending (o : Out) : (s.send o).pending = s.pending := rfl
@[simp] theorem State.send_regs (o : Out) : (s.send o).regs = s.regs := rfl
@[simp] theorem State.send_words (o : Out) : (s.send o).words = s.words := rfl
@[simp] theorem State.send_now (o : Out) : (s.send o).now = s.now := rfl
@[simp] theorem State.send_recd (o : Out) : (s.send o).recd = s.recd := rfl
@[simp] theorem State.send_oq (o : Out) : (s.send o).oq = s.oq := rfl
@[simp] theorem State.send_sess (o : Out) : (s.send o).sess = s.sess := rfl
@[simp] theorem State.send_arb (o : Out) : (s.send o).arb = s.arb := rfl
@[simp] theorem State.send_flt (o : Out) : (s.send o).flt = s.flt := rfl
@[simp] theorem State.send_links (o : Out) : (s.send o).links = s.links := rfl
@[simp] theorem State.send_aon (o : Out) : (s.send o).aon = s.aon := rfl
@[simp] theorem State.send_ce (o : Out) : (s.send o).ce = s.ce := rfl
@[simp] theorem State.send_mot (o : Out) : (s.send o).mot = s.mot := rfl
@[simp] theorem State.send_wheels (o : Out) : (s.send o).wheels = s.wheels := rfl
@[simp] theorem State.send_bands (o : Out) : (s.send o).bands = s.bands := rfl
@[simp] theorem State.send_pool (o : Out) : (s.send o).pool = s.pool := rfl
@[simp] theorem State.send_fire (o : Out) : (s.send o).fire = s.fire := rfl
@[simp] theorem State.send_load (o : Out) : (s.send o).load = s.load := rfl
@[simp] theorem State.send_st (o : Out) : (s.send o).st = s.st := rfl
@[simp] theorem State.send_jr (o : Out) : (s.send o).jr = s.jr := rfl
@[simp] theorem State.send_mem (o : Out) : (s.send o).mem = s.mem := rfl
@[simp] theorem State.send_host (o : Out) : (s.send o).host = s.host := rfl
@[simp] theorem State.send_te (o : Out) : (s.send o).te = s.te := rfl
@[simp] theorem State.send_tw (o : Out) : (s.send o).tw = s.tw := rfl
@[simp] theorem State.send_hy (o : Out) : (s.send o).hy = s.hy := rfl
@[simp] theorem State.send_svc (o : Out) : (s.send o).svc = s.svc := rfl
@[simp] theorem State.send_freeCount (o : Out) : (s.send o).freeCount = s.freeCount := rfl
@[simp] theorem State.send_fld (o : Out) (p : Nat) (g : Fld) (j : Nat) : (s.send o).fld p g j = s.fld p g j := rfl
@[simp] theorem State.send_flag (o : Out) (p : Nat) (g : Fld) (j : Nat) : (s.send o).flag p g j = s.flag p g j := rfl

/-! raise changes `recd` alone -/

@[simp] theorem State.raise_pending (e : Event) : (s.raise e).pending = s.pending := rfl
@[simp] theorem State.raise_regs (e : Event) : (s.raise e).regs = s.regs := rfl
@[simp] theorem State.raise_words (e : Event) : (s.raise e).words = s.words := rfl
@[simp] theorem State.raise_now (e : Event) : (s.raise e).now = s.now := rfl
@[simp] theorem State.raise_oq (e : Event) : (s.raise e).oq = s.oq := rfl
@[simp] theorem State.raise_sess (e : Event) : (s.raise e).sess = s.sess := rfl
@[simp] theorem State.raise_arb (e : Event) : (s.raise e).arb = s.arb := rfl
@[simp] theorem State.raise_flt (e : Event) : (s.raise e).flt = s.flt := rfl
@[simp] theorem State.raise_links (e : Event) : (s.raise e).links = s.links := rfl
@[simp] theorem State.raise_aon (e : Event) : (s.raise e).aon = s.aon := rfl
@[simp] theorem State.raise_ce (e : Event) : (s.raise e).ce = s.ce := rfl
@[simp] theorem State.raise_mot (e : Event) : (s.raise e).mot = s.mot := rfl
@[simp] theorem State.raise_wheels (e : Event) : (s.raise e).wheels = s.wheels := rfl
@[simp] theorem State.raise_bands (e : Event) : (s.raise e).bands = s.bands := rfl
@[simp] theorem State.raise_pool (e : Event) : (s.raise e).pool = s.pool := rfl
@[simp] theorem State.raise_fire (e : Event) : (s.raise e).fire = s.fire := rfl
@[simp] theorem State.raise_load (e : Event) : (s.raise e).load = s.load := rfl
@[simp] theorem State.raise_st (e : Event) : (s.raise e).st = s.st := rfl
@[simp] theorem State.raise_jr (e : Event) : (s.raise e).jr = s.jr := rfl
@[simp] theorem State.raise_mem (e : Event) : (s.raise e).mem = s.mem := rfl
@[simp] theorem State.raise_host (e : Event) : (s.raise e).host = s.host := rfl
@[simp] theorem State.raise_te (e : Event) : (s.raise e).te = s.te := rfl
@[simp] theorem State.raise_tw (e : Event) : (s.raise e).tw = s.tw := rfl
@[simp] theorem State.raise_hy (e : Event) : (s.raise e).hy = s.hy := rfl
@[simp] theorem State.raise_svc (e : Event) : (s.raise e).svc = s.svc := rfl
@[simp] theorem State.raise_out (e : Event) : (s.raise e).out = s.out := rfl
@[simp] theorem State.raise_freeCount (e : Event) : (s.raise e).freeCount = s.freeCount := rfl
@[simp] theorem State.raise_fld (e : Event) (p : Nat) (g : Fld) (j : Nat) : (s.raise e).fld p g j = s.fld p g j := rfl
@[simp] theorem State.raise_flag (e : Event) (p : Nat) (g : Fld) (j : Nat) : (s.raise e).flag p g j = s.flag p g j := rfl

/-! setCut changes `arb` alone -/

@[simp] theorem State.setCut_pending (x : List Nat) : (s.setCut x).pending = s.pending := rfl
@[simp] theorem State.setCut_regs (x : List Nat) : (s.setCut x).regs = s.regs := rfl
@[simp] theorem State.setCut_words (x : List Nat) : (s.setCut x).words = s.words := rfl
@[simp] theorem State.setCut_now (x : List Nat) : (s.setCut x).now = s.now := rfl
@[simp] theorem State.setCut_recd (x : List Nat) : (s.setCut x).recd = s.recd := rfl
@[simp] theorem State.setCut_oq (x : List Nat) : (s.setCut x).oq = s.oq := rfl
@[simp] theorem State.setCut_sess (x : List Nat) : (s.setCut x).sess = s.sess := rfl
@[simp] theorem State.setCut_flt (x : List Nat) : (s.setCut x).flt = s.flt := rfl
@[simp] theorem State.setCut_links (x : List Nat) : (s.setCut x).links = s.links := rfl
@[simp] theorem State.setCut_aon (x : List Nat) : (s.setCut x).aon = s.aon := rfl
@[simp] theorem State.setCut_ce (x : List Nat) : (s.setCut x).ce = s.ce := rfl
@[simp] theorem State.setCut_mot (x : List Nat) : (s.setCut x).mot = s.mot := rfl
@[simp] theorem State.setCut_wheels (x : List Nat) : (s.setCut x).wheels = s.wheels := rfl
@[simp] theorem State.setCut_bands (x : List Nat) : (s.setCut x).bands = s.bands := rfl
@[simp] theorem State.setCut_pool (x : List Nat) : (s.setCut x).pool = s.pool := rfl
@[simp] theorem State.setCut_fire (x : List Nat) : (s.setCut x).fire = s.fire := rfl
@[simp] theorem State.setCut_load (x : List Nat) : (s.setCut x).load = s.load := rfl
@[simp] theorem State.setCut_st (x : List Nat) : (s.setCut x).st = s.st := rfl
@[simp] theorem State.setCut_jr (x : List Nat) : (s.setCut x).jr = s.jr := rfl
@[simp] theorem State.setCut_mem (x : List Nat) : (s.setCut x).mem = s.mem := rfl
@[simp] theorem State.setCut_host (x : List Nat) : (s.setCut x).host = s.host := rfl
@[simp] theorem State.setCut_te (x : List Nat) : (s.setCut x).te = s.te := rfl
@[simp] theorem State.setCut_tw (x : List Nat) : (s.setCut x).tw = s.tw := rfl
@[simp] theorem State.setCut_hy (x : List Nat) : (s.setCut x).hy = s.hy := rfl
@[simp] theorem State.setCut_svc (x : List Nat) : (s.setCut x).svc = s.svc := rfl
@[simp] theorem State.setCut_out (x : List Nat) : (s.setCut x).out = s.out := rfl
@[simp] theorem State.setCut_freeCount (x : List Nat) : (s.setCut x).freeCount = s.freeCount := rfl
@[simp] theorem State.setCut_fld (x : List Nat) (p : Nat) (g : Fld) (j : Nat) : (s.setCut x).fld p g j = s.fld p g j := rfl
@[simp] theorem State.setCut_flag (x : List Nat) (p : Nat) (g : Fld) (j : Nat) : (s.setCut x).flag p g j = s.flag p g j := rfl

/-! setArb changes `arb` alone -/

@[simp] theorem State.setArb_pending (x : ArbSt) : (s.setArb x).pending = s.pending := rfl
@[simp] theorem State.setArb_regs (x : ArbSt) : (s.setArb x).regs = s.regs := rfl
@[simp] theorem State.setArb_words (x : ArbSt) : (s.setArb x).words = s.words := rfl
@[simp] theorem State.setArb_now (x : ArbSt) : (s.setArb x).now = s.now := rfl
@[simp] theorem State.setArb_recd (x : ArbSt) : (s.setArb x).recd = s.recd := rfl
@[simp] theorem State.setArb_oq (x : ArbSt) : (s.setArb x).oq = s.oq := rfl
@[simp] theorem State.setArb_sess (x : ArbSt) : (s.setArb x).sess = s.sess := rfl
@[simp] theorem State.setArb_flt (x : ArbSt) : (s.setArb x).flt = s.flt := rfl
@[simp] theorem State.setArb_links (x : ArbSt) : (s.setArb x).links = s.links := rfl
@[simp] theorem State.setArb_aon (x : ArbSt) : (s.setArb x).aon = s.aon := rfl
@[simp] theorem State.setArb_ce (x : ArbSt) : (s.setArb x).ce = s.ce := rfl
@[simp] theorem State.setArb_mot (x : ArbSt) : (s.setArb x).mot = s.mot := rfl
@[simp] theorem State.setArb_wheels (x : ArbSt) : (s.setArb x).wheels = s.wheels := rfl
@[simp] theorem State.setArb_bands (x : ArbSt) : (s.setArb x).bands = s.bands := rfl
@[simp] theorem State.setArb_pool (x : ArbSt) : (s.setArb x).pool = s.pool := rfl
@[simp] theorem State.setArb_fire (x : ArbSt) : (s.setArb x).fire = s.fire := rfl
@[simp] theorem State.setArb_load (x : ArbSt) : (s.setArb x).load = s.load := rfl
@[simp] theorem State.setArb_st (x : ArbSt) : (s.setArb x).st = s.st := rfl
@[simp] theorem State.setArb_jr (x : ArbSt) : (s.setArb x).jr = s.jr := rfl
@[simp] theorem State.setArb_mem (x : ArbSt) : (s.setArb x).mem = s.mem := rfl
@[simp] theorem State.setArb_host (x : ArbSt) : (s.setArb x).host = s.host := rfl
@[simp] theorem State.setArb_te (x : ArbSt) : (s.setArb x).te = s.te := rfl
@[simp] theorem State.setArb_tw (x : ArbSt) : (s.setArb x).tw = s.tw := rfl
@[simp] theorem State.setArb_hy (x : ArbSt) : (s.setArb x).hy = s.hy := rfl
@[simp] theorem State.setArb_svc (x : ArbSt) : (s.setArb x).svc = s.svc := rfl
@[simp] theorem State.setArb_out (x : ArbSt) : (s.setArb x).out = s.out := rfl
@[simp] theorem State.setArb_freeCount (x : ArbSt) : (s.setArb x).freeCount = s.freeCount := rfl
@[simp] theorem State.setArb_fld (x : ArbSt) (p : Nat) (g : Fld) (j : Nat) : (s.setArb x).fld p g j = s.fld p g j := rfl
@[simp] theorem State.setArb_flag (x : ArbSt) (p : Nat) (g : Fld) (j : Nat) : (s.setArb x).flag p g j = s.flag p g j := rfl

/-! setSvc changes `svc` alone -/

@[simp] theorem State.setSvc_pending (x : SvcSt) : (s.setSvc x).pending = s.pending := rfl
@[simp] theorem State.setSvc_regs (x : SvcSt) : (s.setSvc x).regs = s.regs := rfl
@[simp] theorem State.setSvc_words (x : SvcSt) : (s.setSvc x).words = s.words := rfl
@[simp] theorem State.setSvc_now (x : SvcSt) : (s.setSvc x).now = s.now := rfl
@[simp] theorem State.setSvc_recd (x : SvcSt) : (s.setSvc x).recd = s.recd := rfl
@[simp] theorem State.setSvc_oq (x : SvcSt) : (s.setSvc x).oq = s.oq := rfl
@[simp] theorem State.setSvc_sess (x : SvcSt) : (s.setSvc x).sess = s.sess := rfl
@[simp] theorem State.setSvc_arb (x : SvcSt) : (s.setSvc x).arb = s.arb := rfl
@[simp] theorem State.setSvc_flt (x : SvcSt) : (s.setSvc x).flt = s.flt := rfl
@[simp] theorem State.setSvc_links (x : SvcSt) : (s.setSvc x).links = s.links := rfl
@[simp] theorem State.setSvc_aon (x : SvcSt) : (s.setSvc x).aon = s.aon := rfl
@[simp] theorem State.setSvc_ce (x : SvcSt) : (s.setSvc x).ce = s.ce := rfl
@[simp] theorem State.setSvc_mot (x : SvcSt) : (s.setSvc x).mot = s.mot := rfl
@[simp] theorem State.setSvc_wheels (x : SvcSt) : (s.setSvc x).wheels = s.wheels := rfl
@[simp] theorem State.setSvc_bands (x : SvcSt) : (s.setSvc x).bands = s.bands := rfl
@[simp] theorem State.setSvc_pool (x : SvcSt) : (s.setSvc x).pool = s.pool := rfl
@[simp] theorem State.setSvc_fire (x : SvcSt) : (s.setSvc x).fire = s.fire := rfl
@[simp] theorem State.setSvc_load (x : SvcSt) : (s.setSvc x).load = s.load := rfl
@[simp] theorem State.setSvc_st (x : SvcSt) : (s.setSvc x).st = s.st := rfl
@[simp] theorem State.setSvc_jr (x : SvcSt) : (s.setSvc x).jr = s.jr := rfl
@[simp] theorem State.setSvc_mem (x : SvcSt) : (s.setSvc x).mem = s.mem := rfl
@[simp] theorem State.setSvc_host (x : SvcSt) : (s.setSvc x).host = s.host := rfl
@[simp] theorem State.setSvc_te (x : SvcSt) : (s.setSvc x).te = s.te := rfl
@[simp] theorem State.setSvc_tw (x : SvcSt) : (s.setSvc x).tw = s.tw := rfl
@[simp] theorem State.setSvc_hy (x : SvcSt) : (s.setSvc x).hy = s.hy := rfl
@[simp] theorem State.setSvc_out (x : SvcSt) : (s.setSvc x).out = s.out := rfl
@[simp] theorem State.setSvc_freeCount (x : SvcSt) : (s.setSvc x).freeCount = s.freeCount := rfl
@[simp] theorem State.setSvc_fld (x : SvcSt) (p : Nat) (g : Fld) (j : Nat) : (s.setSvc x).fld p g j = s.fld p g j := rfl
@[simp] theorem State.setSvc_flag (x : SvcSt) (p : Nat) (g : Fld) (j : Nat) : (s.setSvc x).flag p g j = s.flag p g j := rfl

/-! setFlt changes `flt` alone -/

@[simp] theorem State.setFlt_pending (x : FaultSt) : (s.setFlt x).pending = s.pending := rfl
@[simp] theorem State.setFlt_regs (x : FaultSt) : (s.setFlt x).regs = s.regs := rfl
@[simp] theorem State.setFlt_words (x : FaultSt) : (s.setFlt x).words = s.words := rfl
@[simp] theorem State.setFlt_now (x : FaultSt) : (s.setFlt x).now = s.now := rfl
@[simp] theorem State.setFlt_recd (x : FaultSt) : (s.setFlt x).recd = s.recd := rfl
@[simp] theorem State.setFlt_oq (x : FaultSt) : (s.setFlt x).oq = s.oq := rfl
@[simp] theorem State.setFlt_sess (x : FaultSt) : (s.setFlt x).sess = s.sess := rfl
@[simp] theorem State.setFlt_arb (x : FaultSt) : (s.setFlt x).arb = s.arb := rfl
@[simp] theorem State.setFlt_links (x : FaultSt) : (s.setFlt x).links = s.links := rfl
@[simp] theorem State.setFlt_aon (x : FaultSt) : (s.setFlt x).aon = s.aon := rfl
@[simp] theorem State.setFlt_ce (x : FaultSt) : (s.setFlt x).ce = s.ce := rfl
@[simp] theorem State.setFlt_mot (x : FaultSt) : (s.setFlt x).mot = s.mot := rfl
@[simp] theorem State.setFlt_wheels (x : FaultSt) : (s.setFlt x).wheels = s.wheels := rfl
@[simp] theorem State.setFlt_bands (x : FaultSt) : (s.setFlt x).bands = s.bands := rfl
@[simp] theorem State.setFlt_pool (x : FaultSt) : (s.setFlt x).pool = s.pool := rfl
@[simp] theorem State.setFlt_fire (x : FaultSt) : (s.setFlt x).fire = s.fire := rfl
@[simp] theorem State.setFlt_load (x : FaultSt) : (s.setFlt x).load = s.load := rfl
@[simp] theorem State.setFlt_st (x : FaultSt) : (s.setFlt x).st = s.st := rfl
@[simp] theorem State.setFlt_jr (x : FaultSt) : (s.setFlt x).jr = s.jr := rfl
@[simp] theorem State.setFlt_mem (x : FaultSt) : (s.setFlt x).mem = s.mem := rfl
@[simp] theorem State.setFlt_host (x : FaultSt) : (s.setFlt x).host = s.host := rfl
@[simp] theorem State.setFlt_te (x : FaultSt) : (s.setFlt x).te = s.te := rfl
@[simp] theorem State.setFlt_tw (x : FaultSt) : (s.setFlt x).tw = s.tw := rfl
@[simp] theorem State.setFlt_hy (x : FaultSt) : (s.setFlt x).hy = s.hy := rfl
@[simp] theorem State.setFlt_svc (x : FaultSt) : (s.setFlt x).svc = s.svc := rfl
@[simp] theorem State.setFlt_out (x : FaultSt) : (s.setFlt x).out = s.out := rfl
@[simp] theorem State.setFlt_freeCount (x : FaultSt) : (s.setFlt x).freeCount = s.freeCount := rfl
@[simp] theorem State.setFlt_fld (x : FaultSt) (p : Nat) (g : Fld) (j : Nat) : (s.setFlt x).fld p g j = s.fld p g j := rfl
@[simp] theorem State.setFlt_flag (x : FaultSt) (p : Nat) (g : Fld) (j : Nat) : (s.setFlt x).flag p g j = s.flag p g j := rfl

/-! setMem changes `mem` alone -/

@[simp] theorem State.setMem_pending (x : MemSt) : (s.setMem x).pending = s.pending := rfl
@[simp] theorem State.setMem_regs (x : MemSt) : (s.setMem x).regs = s.regs := rfl
@[simp] theorem State.setMem_words (x : MemSt) : (s.setMem x).words = s.words := rfl
@[simp] theorem State.setMem_now (x : MemSt) : (s.setMem x).now = s.now := rfl
@[simp] theorem State.setMem_recd (x : MemSt) : (s.setMem x).recd = s.recd := rfl
@[simp] theorem State.setMem_oq (x : MemSt) : (s.setMem x).oq = s.oq := rfl
@[simp] theorem State.setMem_sess (x : MemSt) : (s.setMem x).sess = s.sess := rfl
@[simp] theorem State.setMem_arb (x : MemSt) : (s.setMem x).arb = s.arb := rfl
@[simp] theorem State.setMem_flt (x : MemSt) : (s.setMem x).flt = s.flt := rfl
@[simp] theorem State.setMem_links (x : MemSt) : (s.setMem x).links = s.links := rfl
@[simp] theorem State.setMem_aon (x : MemSt) : (s.setMem x).aon = s.aon := rfl
@[simp] theorem State.setMem_ce (x : MemSt) : (s.setMem x).ce = s.ce := rfl
@[simp] theorem State.setMem_mot (x : MemSt) : (s.setMem x).mot = s.mot := rfl
@[simp] theorem State.setMem_wheels (x : MemSt) : (s.setMem x).wheels = s.wheels := rfl
@[simp] theorem State.setMem_bands (x : MemSt) : (s.setMem x).bands = s.bands := rfl
@[simp] theorem State.setMem_pool (x : MemSt) : (s.setMem x).pool = s.pool := rfl
@[simp] theorem State.setMem_fire (x : MemSt) : (s.setMem x).fire = s.fire := rfl
@[simp] theorem State.setMem_load (x : MemSt) : (s.setMem x).load = s.load := rfl
@[simp] theorem State.setMem_st (x : MemSt) : (s.setMem x).st = s.st := rfl
@[simp] theorem State.setMem_jr (x : MemSt) : (s.setMem x).jr = s.jr := rfl
@[simp] theorem State.setMem_host (x : MemSt) : (s.setMem x).host = s.host := rfl
@[simp] theorem State.setMem_te (x : MemSt) : (s.setMem x).te = s.te := rfl
@[simp] theorem State.setMem_tw (x : MemSt) : (s.setMem x).tw = s.tw := rfl
@[simp] theorem State.setMem_hy (x : MemSt) : (s.setMem x).hy = s.hy := rfl
@[simp] theorem State.setMem_svc (x : MemSt) : (s.setMem x).svc = s.svc := rfl
@[simp] theorem State.setMem_out (x : MemSt) : (s.setMem x).out = s.out := rfl
@[simp] theorem State.setMem_freeCount (x : MemSt) : (s.setMem x).freeCount = s.freeCount := rfl
@[simp] theorem State.setMem_fld (x : MemSt) (p : Nat) (g : Fld) (j : Nat) : (s.setMem x).fld p g j = s.fld p g j := rfl
@[simp] theorem State.setMem_flag (x : MemSt) (p : Nat) (g : Fld) (j : Nat) : (s.setMem x).flag p g j = s.flag p g j := rfl

/-! setJr changes `jr` alone -/

@[simp] theorem State.setJr_pending (x : JournalSt) : (s.setJr x).pending = s.pending := rfl
@[simp] theorem State.setJr_regs (x : JournalSt) : (s.setJr x).regs = s.regs := rfl
@[simp] theorem State.setJr_words (x : JournalSt) : (s.setJr x).words = s.words := rfl
@[simp] theorem State.setJr_now (x : JournalSt) : (s.setJr x).now = s.now := rfl
@[simp] theorem State.setJr_recd (x : JournalSt) : (s.setJr x).recd = s.recd := rfl
@[simp] theorem State.setJr_oq (x : JournalSt) : (s.setJr x).oq = s.oq := rfl
@[simp] theorem State.setJr_sess (x : JournalSt) : (s.setJr x).sess = s.sess := rfl
@[simp] theorem State.setJr_arb (x : JournalSt) : (s.setJr x).arb = s.arb := rfl
@[simp] theorem State.setJr_flt (x : JournalSt) : (s.setJr x).flt = s.flt := rfl
@[simp] theorem State.setJr_links (x : JournalSt) : (s.setJr x).links = s.links := rfl
@[simp] theorem State.setJr_aon (x : JournalSt) : (s.setJr x).aon = s.aon := rfl
@[simp] theorem State.setJr_ce (x : JournalSt) : (s.setJr x).ce = s.ce := rfl
@[simp] theorem State.setJr_mot (x : JournalSt) : (s.setJr x).mot = s.mot := rfl
@[simp] theorem State.setJr_wheels (x : JournalSt) : (s.setJr x).wheels = s.wheels := rfl
@[simp] theorem State.setJr_bands (x : JournalSt) : (s.setJr x).bands = s.bands := rfl
@[simp] theorem State.setJr_pool (x : JournalSt) : (s.setJr x).pool = s.pool := rfl
@[simp] theorem State.setJr_fire (x : JournalSt) : (s.setJr x).fire = s.fire := rfl
@[simp] theorem State.setJr_load (x : JournalSt) : (s.setJr x).load = s.load := rfl
@[simp] theorem State.setJr_st (x : JournalSt) : (s.setJr x).st = s.st := rfl
@[simp] theorem State.setJr_mem (x : JournalSt) : (s.setJr x).mem = s.mem := rfl
@[simp] theorem State.setJr_host (x : JournalSt) : (s.setJr x).host = s.host := rfl
@[simp] theorem State.setJr_te (x : JournalSt) : (s.setJr x).te = s.te := rfl
@[simp] theorem State.setJr_tw (x : JournalSt) : (s.setJr x).tw = s.tw := rfl
@[simp] theorem State.setJr_hy (x : JournalSt) : (s.setJr x).hy = s.hy := rfl
@[simp] theorem State.setJr_svc (x : JournalSt) : (s.setJr x).svc = s.svc := rfl
@[simp] theorem State.setJr_out (x : JournalSt) : (s.setJr x).out = s.out := rfl
@[simp] theorem State.setJr_freeCount (x : JournalSt) : (s.setJr x).freeCount = s.freeCount := rfl
@[simp] theorem State.setJr_fld (x : JournalSt) (p : Nat) (g : Fld) (j : Nat) : (s.setJr x).fld p g j = s.fld p g j := rfl
@[simp] theorem State.setJr_flag (x : JournalSt) (p : Nat) (g : Fld) (j : Nat) : (s.setJr x).flag p g j = s.flag p g j := rfl

/-! setSt changes `st` alone -/

@[simp] theorem State.setSt_pending (x : StripeSt) : (s.setSt x).pending = s.pending := rfl
@[simp] theorem State.setSt_regs (x : StripeSt) : (s.setSt x).regs = s.regs := rfl
@[simp] theorem State.setSt_words (x : StripeSt) : (s.setSt x).words = s.words := rfl
@[simp] theorem State.setSt_now (x : StripeSt) : (s.setSt x).now = s.now := rfl
@[simp] theorem State.setSt_recd (x : StripeSt) : (s.setSt x).recd = s.recd := rfl
@[simp] theorem State.setSt_oq (x : StripeSt) : (s.setSt x).oq = s.oq := rfl
@[simp] theorem State.setSt_sess (x : StripeSt) : (s.setSt x).sess = s.sess := rfl
@[simp] theorem State.setSt_arb (x : StripeSt) : (s.setSt x).arb = s.arb := rfl
@[simp] theorem State.setSt_flt (x : StripeSt) : (s.setSt x).flt = s.flt := rfl
@[simp] theorem State.setSt_links (x : StripeSt) : (s.setSt x).links = s.links := rfl
@[simp] theorem State.setSt_aon (x : StripeSt) : (s.setSt x).aon = s.aon := rfl
@[simp] theorem State.setSt_ce (x : StripeSt) : (s.setSt x).ce = s.ce := rfl
@[simp] theorem State.setSt_mot (x : StripeSt) : (s.setSt x).mot = s.mot := rfl
@[simp] theorem State.setSt_wheels (x : StripeSt) : (s.setSt x).wheels = s.wheels := rfl
@[simp] theorem State.setSt_bands (x : StripeSt) : (s.setSt x).bands = s.bands := rfl
@[simp] theorem State.setSt_pool (x : StripeSt) : (s.setSt x).pool = s.pool := rfl
@[simp] theorem State.setSt_fire (x : StripeSt) : (s.setSt x).fire = s.fire := rfl
@[simp] theorem State.setSt_load (x : StripeSt) : (s.setSt x).load = s.load := rfl
@[simp] theorem State.setSt_jr (x : StripeSt) : (s.setSt x).jr = s.jr := rfl
@[simp] theorem State.setSt_mem (x : StripeSt) : (s.setSt x).mem = s.mem := rfl
@[simp] theorem State.setSt_host (x : StripeSt) : (s.setSt x).host = s.host := rfl
@[simp] theorem State.setSt_te (x : StripeSt) : (s.setSt x).te = s.te := rfl
@[simp] theorem State.setSt_tw (x : StripeSt) : (s.setSt x).tw = s.tw := rfl
@[simp] theorem State.setSt_hy (x : StripeSt) : (s.setSt x).hy = s.hy := rfl
@[simp] theorem State.setSt_svc (x : StripeSt) : (s.setSt x).svc = s.svc := rfl
@[simp] theorem State.setSt_out (x : StripeSt) : (s.setSt x).out = s.out := rfl
@[simp] theorem State.setSt_freeCount (x : StripeSt) : (s.setSt x).freeCount = s.freeCount := rfl
@[simp] theorem State.setSt_fld (x : StripeSt) (p : Nat) (g : Fld) (j : Nat) : (s.setSt x).fld p g j = s.fld p g j := rfl
@[simp] theorem State.setSt_flag (x : StripeSt) (p : Nat) (g : Fld) (j : Nat) : (s.setSt x).flag p g j = s.flag p g j := rfl

/-! setLoad changes `load` alone -/

@[simp] theorem State.setLoad_pending (x : LoadSt) : (s.setLoad x).pending = s.pending := rfl
@[simp] theorem State.setLoad_regs (x : LoadSt) : (s.setLoad x).regs = s.regs := rfl
@[simp] theorem State.setLoad_words (x : LoadSt) : (s.setLoad x).words = s.words := rfl
@[simp] theorem State.setLoad_now (x : LoadSt) : (s.setLoad x).now = s.now := rfl
@[simp] theorem State.setLoad_recd (x : LoadSt) : (s.setLoad x).recd = s.recd := rfl
@[simp] theorem State.setLoad_oq (x : LoadSt) : (s.setLoad x).oq = s.oq := rfl
@[simp] theorem State.setLoad_sess (x : LoadSt) : (s.setLoad x).sess = s.sess := rfl
@[simp] theorem State.setLoad_arb (x : LoadSt) : (s.setLoad x).arb = s.arb := rfl
@[simp] theorem State.setLoad_flt (x : LoadSt) : (s.setLoad x).flt = s.flt := rfl
@[simp] theorem State.setLoad_links (x : LoadSt) : (s.setLoad x).links = s.links := rfl
@[simp] theorem State.setLoad_aon (x : LoadSt) : (s.setLoad x).aon = s.aon := rfl
@[simp] theorem State.setLoad_ce (x : LoadSt) : (s.setLoad x).ce = s.ce := rfl
@[simp] theorem State.setLoad_mot (x : LoadSt) : (s.setLoad x).mot = s.mot := rfl
@[simp] theorem State.setLoad_wheels (x : LoadSt) : (s.setLoad x).wheels = s.wheels := rfl
@[simp] theorem State.setLoad_bands (x : LoadSt) : (s.setLoad x).bands = s.bands := rfl
@[simp] theorem State.setLoad_pool (x : LoadSt) : (s.setLoad x).pool = s.pool := rfl
@[simp] theorem State.setLoad_fire (x : LoadSt) : (s.setLoad x).fire = s.fire := rfl
@[simp] theorem State.setLoad_st (x : LoadSt) : (s.setLoad x).st = s.st := rfl
@[simp] theorem State.setLoad_jr (x : LoadSt) : (s.setLoad x).jr = s.jr := rfl
@[simp] theorem State.setLoad_mem (x : LoadSt) : (s.setLoad x).mem = s.mem := rfl
@[simp] theorem State.setLoad_host (x : LoadSt) : (s.setLoad x).host = s.host := rfl
@[simp] theorem State.setLoad_te (x : LoadSt) : (s.setLoad x).te = s.te := rfl
@[simp] theorem State.setLoad_tw (x : LoadSt) : (s.setLoad x).tw = s.tw := rfl
@[simp] theorem State.setLoad_hy (x : LoadSt) : (s.setLoad x).hy = s.hy := rfl
@[simp] theorem State.setLoad_svc (x : LoadSt) : (s.setLoad x).svc = s.svc := rfl
@[simp] theorem State.setLoad_out (x : LoadSt) : (s.setLoad x).out = s.out := rfl
@[simp] theorem State.setLoad_freeCount (x : LoadSt) : (s.setLoad x).freeCount = s.freeCount := rfl
@[simp] theorem State.setLoad_fld (x : LoadSt) (p : Nat) (g : Fld) (j : Nat) : (s.setLoad x).fld p g j = s.fld p g j := rfl
@[simp] theorem State.setLoad_flag (x : LoadSt) (p : Nat) (g : Fld) (j : Nat) : (s.setLoad x).flag p g j = s.flag p g j := rfl

/-! setHost changes `host` alone -/

@[simp] theorem State.setHost_pending (x : HostSt) : (s.setHost x).pending = s.pending := rfl
@[simp] theorem State.setHost_regs (x : HostSt) : (s.setHost x).regs = s.regs := rfl
@[simp] theorem State.setHost_words (x : HostSt) : (s.setHost x).words = s.words := rfl
@[simp] theorem State.setHost_now (x : HostSt) : (s.setHost x).now = s.now := rfl
@[simp] theorem State.setHost_recd (x : HostSt) : (s.setHost x).recd = s.recd := rfl
@[simp] theorem State.setHost_oq (x : HostSt) : (s.setHost x).oq = s.oq := rfl
@[simp] theorem State.setHost_sess (x : HostSt) : (s.setHost x).sess = s.sess := rfl
@[simp] theorem State.setHost_arb (x : HostSt) : (s.setHost x).arb = s.arb := rfl
@[simp] theorem State.setHost_flt (x : HostSt) : (s.setHost x).flt = s.flt := rfl
@[simp] theorem State.setHost_links (x : HostSt) : (s.setHost x).links = s.links := rfl
@[simp] theorem State.setHost_aon (x : HostSt) : (s.setHost x).aon = s.aon := rfl
@[simp] theorem State.setHost_ce (x : HostSt) : (s.setHost x).ce = s.ce := rfl
@[simp] theorem State.setHost_mot (x : HostSt) : (s.setHost x).mot = s.mot := rfl
@[simp] theorem State.setHost_wheels (x : HostSt) : (s.setHost x).wheels = s.wheels := rfl
@[simp] theorem State.setHost_bands (x : HostSt) : (s.setHost x).bands = s.bands := rfl
@[simp] theorem State.setHost_pool (x : HostSt) : (s.setHost x).pool = s.pool := rfl
@[simp] theorem State.setHost_fire (x : HostSt) : (s.setHost x).fire = s.fire := rfl
@[simp] theorem State.setHost_load (x : HostSt) : (s.setHost x).load = s.load := rfl
@[simp] theorem State.setHost_st (x : HostSt) : (s.setHost x).st = s.st := rfl
@[simp] theorem State.setHost_jr (x : HostSt) : (s.setHost x).jr = s.jr := rfl
@[simp] theorem State.setHost_mem (x : HostSt) : (s.setHost x).mem = s.mem := rfl
@[simp] theorem State.setHost_te (x : HostSt) : (s.setHost x).te = s.te := rfl
@[simp] theorem State.setHost_tw (x : HostSt) : (s.setHost x).tw = s.tw := rfl
@[simp] theorem State.setHost_hy (x : HostSt) : (s.setHost x).hy = s.hy := rfl
@[simp] theorem State.setHost_svc (x : HostSt) : (s.setHost x).svc = s.svc := rfl
@[simp] theorem State.setHost_out (x : HostSt) : (s.setHost x).out = s.out := rfl
@[simp] theorem State.setHost_freeCount (x : HostSt) : (s.setHost x).freeCount = s.freeCount := rfl
@[simp] theorem State.setHost_fld (x : HostSt) (p : Nat) (g : Fld) (j : Nat) : (s.setHost x).fld p g j = s.fld p g j := rfl
@[simp] theorem State.setHost_flag (x : HostSt) (p : Nat) (g : Fld) (j : Nat) : (s.setHost x).flag p g j = s.flag p g j := rfl

/-! setConn changes `host` alone -/

@[simp] theorem State.setConn_pending (c : Nat) (x : Option Conn) : (s.setConn c x).pending = s.pending := rfl
@[simp] theorem State.setConn_regs (c : Nat) (x : Option Conn) : (s.setConn c x).regs = s.regs := rfl
@[simp] theorem State.setConn_words (c : Nat) (x : Option Conn) : (s.setConn c x).words = s.words := rfl
@[simp] theorem State.setConn_now (c : Nat) (x : Option Conn) : (s.setConn c x).now = s.now := rfl
@[simp] theorem State.setConn_recd (c : Nat) (x : Option Conn) : (s.setConn c x).recd = s.recd := rfl
@[simp] theorem State.setConn_oq (c : Nat) (x : Option Conn) : (s.setConn c x).oq = s.oq := rfl
@[simp] theorem State.setConn_sess (c : Nat) (x : Option Conn) : (s.setConn c x).sess = s.sess := rfl
@[simp] theorem State.setConn_arb (c : Nat) (x : Option Conn) : (s.setConn c x).arb = s.arb := rfl
@[simp] theorem State.setConn_flt (c : Nat) (x : Option Conn) : (s.setConn c x).flt = s.flt := rfl
@[simp] theorem State.setConn_links (c : Nat) (x : Option Conn) : (s.setConn c x).links = s.links := rfl
@[simp] theorem State.setConn_aon (c : Nat) (x : Option Conn) : (s.setConn c x).aon = s.aon := rfl
@[simp] theorem State.setConn_ce (c : Nat) (x : Option Conn) : (s.setConn c x).ce = s.ce := rfl
@[simp] theorem State.setConn_mot (c : Nat) (x : Option Conn) : (s.setConn c x).mot = s.mot := rfl
@[simp] theorem State.setConn_wheels (c : Nat) (x : Option Conn) : (s.setConn c x).wheels = s.wheels := rfl
@[simp] theorem State.setConn_bands (c : Nat) (x : Option Conn) : (s.setConn c x).bands = s.bands := rfl
@[simp] theorem State.setConn_pool (c : Nat) (x : Option Conn) : (s.setConn c x).pool = s.pool := rfl
@[simp] theorem State.setConn_fire (c : Nat) (x : Option Conn) : (s.setConn c x).fire = s.fire := rfl
@[simp] theorem State.setConn_load (c : Nat) (x : Option Conn) : (s.setConn c x).load = s.load := rfl
@[simp] theorem State.setConn_st (c : Nat) (x : Option Conn) : (s.setConn c x).st = s.st := rfl
@[simp] theorem State.setConn_jr (c : Nat) (x : Option Conn) : (s.setConn c x).jr = s.jr := rfl
@[simp] theorem State.setConn_mem (c : Nat) (x : Option Conn) : (s.setConn c x).mem = s.mem := rfl
@[simp] theorem State.setConn_te (c : Nat) (x : Option Conn) : (s.setConn c x).te = s.te := rfl
@[simp] theorem State.setConn_tw (c : Nat) (x : Option Conn) : (s.setConn c x).tw = s.tw := rfl
@[simp] theorem State.setConn_hy (c : Nat) (x : Option Conn) : (s.setConn c x).hy = s.hy := rfl
@[simp] theorem State.setConn_svc (c : Nat) (x : Option Conn) : (s.setConn c x).svc = s.svc := rfl
@[simp] theorem State.setConn_out (c : Nat) (x : Option Conn) : (s.setConn c x).out = s.out := rfl
@[simp] theorem State.setConn_freeCount (c : Nat) (x : Option Conn) : (s.setConn c x).freeCount = s.freeCount := rfl
@[simp] theorem State.setConn_fld (c : Nat) (x : Option Conn) (p : Nat) (g : Fld) (j : Nat) : (s.setConn c x).fld p g j = s.fld p g j := rfl
@[simp] theorem State.setConn_flag (c : Nat) (x : Option Conn) (p : Nat) (g : Fld) (j : Nat) : (s.setConn c x).flag p g j = s.flag p g j := rfl

/-! setAssoc changes `host` alone -/

@[simp] theorem State.setAssoc_pending (c : Nat) (x : Option Assoc) : (s.setAssoc c x).pending = s.pending := rfl
@[simp] theorem State.setAssoc_regs (c : Nat) (x : Option Assoc) : (s.setAssoc c x).regs = s.regs := rfl
@[simp] theorem State.setAssoc_words (c : Nat) (x : Option Assoc) : (s.setAssoc c x).words = s.words := rfl
@[simp] theorem State.setAssoc_now (c : Nat) (x : Option Assoc) : (s.setAssoc c x).now = s.now := rfl
@[simp] theorem State.setAssoc_recd (c : Nat) (x : Option Assoc) : (s.setAssoc c x).recd = s.recd := rfl
@[simp] theorem State.setAssoc_oq (c : Nat) (x : Option Assoc) : (s.setAssoc c x).oq = s.oq := rfl
@[simp] theorem State.setAssoc_sess (c : Nat) (x : Option Assoc) : (s.setAssoc c x).sess = s.sess := rfl
@[simp] theorem State.setAssoc_arb (c : Nat) (x : Option Assoc) : (s.setAssoc c x).arb = s.arb := rfl
@[simp] theorem State.setAssoc_flt (c : Nat) (x : Option Assoc) : (s.setAssoc c x).flt = s.flt := rfl
@[simp] theorem State.setAssoc_links (c : Nat) (x : Option Assoc) : (s.setAssoc c x).links = s.links := rfl
@[simp] theorem State.setAssoc_aon (c : Nat) (x : Option Assoc) : (s.setAssoc c x).aon = s.aon := rfl
@[simp] theorem State.setAssoc_ce (c : Nat) (x : Option Assoc) : (s.setAssoc c x).ce = s.ce := rfl
@[simp] theorem State.setAssoc_mot (c : Nat) (x : Option Assoc) : (s.setAssoc c x).mot = s.mot := rfl
@[simp] theorem State.setAssoc_wheels (c : Nat) (x : Option Assoc) : (s.setAssoc c x).wheels = s.wheels := rfl
@[simp] theorem State.setAssoc_bands (c : Nat) (x : Option Assoc) : (s.setAssoc c x).bands = s.bands := rfl
@[simp] theorem State.setAssoc_pool (c : Nat) (x : Option Assoc) : (s.setAssoc c x).pool = s.pool := rfl
@[simp] theorem State.setAssoc_fire (c : Nat) (x : Option Assoc) : (s.setAssoc c x).fire = s.fire := rfl
@[simp] theorem State.setAssoc_load (c : Nat) (x : Option Assoc) : (s.setAssoc c x).load = s.load := rfl
@[simp] theorem State.setAssoc_st (c : Nat) (x : Option Assoc) : (s.setAssoc c x).st = s.st := rfl
@[simp] theorem State.setAssoc_jr (c : Nat) (x : Option Assoc) : (s.setAssoc c x).jr = s.jr := rfl
@[simp] theorem State.setAssoc_mem (c : Nat) (x : Option Assoc) : (s.setAssoc c x).mem = s.mem := rfl
@[simp] theorem State.setAssoc_te (c : Nat) (x : Option Assoc) : (s.setAssoc c x).te = s.te := rfl
@[simp] theorem State.setAssoc_tw (c : Nat) (x : Option Assoc) : (s.setAssoc c x).tw = s.tw := rfl
@[simp] theorem State.setAssoc_hy (c : Nat) (x : Option Assoc) : (s.setAssoc c x).hy = s.hy := rfl
@[simp] theorem State.setAssoc_svc (c : Nat) (x : Option Assoc) : (s.setAssoc c x).svc = s.svc := rfl
@[simp] theorem State.setAssoc_out (c : Nat) (x : Option Assoc) : (s.setAssoc c x).out = s.out := rfl
@[simp] theorem State.setAssoc_freeCount (c : Nat) (x : Option Assoc) : (s.setAssoc c x).freeCount = s.freeCount := rfl
@[simp] theorem State.setAssoc_fld (c : Nat) (x : Option Assoc) (p : Nat) (g : Fld) (j : Nat) : (s.setAssoc c x).fld p g j = s.fld p g j := rfl
@[simp] theorem State.setAssoc_flag (c : Nat) (x : Option Assoc) (p : Nat) (g : Fld) (j : Nat) : (s.setAssoc c x).flag p g j = s.flag p g j := rfl

/-! setSession changes `sess` alone -/

@[simp] theorem State.setSession_pending (i : Nat) (x : Option Session) : (s.setSession i x).pending = s.pending := rfl
@[simp] theorem State.setSession_regs (i : Nat) (x : Option Session) : (s.setSession i x).regs = s.regs := rfl
@[simp] theorem State.setSession_words (i : Nat) (x : Option Session) : (s.setSession i x).words = s.words := rfl
@[simp] theorem State.setSession_now (i : Nat) (x : Option Session) : (s.setSession i x).now = s.now := rfl
@[simp] theorem State.setSession_recd (i : Nat) (x : Option Session) : (s.setSession i x).recd = s.recd := rfl
@[simp] theorem State.setSession_oq (i : Nat) (x : Option Session) : (s.setSession i x).oq = s.oq := rfl
@[simp] theorem State.setSession_arb (i : Nat) (x : Option Session) : (s.setSession i x).arb = s.arb := rfl
@[simp] theorem State.setSession_flt (i : Nat) (x : Option Session) : (s.setSession i x).flt = s.flt := rfl
@[simp] theorem State.setSession_links (i : Nat) (x : Option Session) : (s.setSession i x).links = s.links := rfl
@[simp] theorem State.setSession_aon (i : Nat) (x : Option Session) : (s.setSession i x).aon = s.aon := rfl
@[simp] theorem State.setSession_ce (i : Nat) (x : Option Session) : (s.setSession i x).ce = s.ce := rfl
@[simp] theorem State.setSession_mot (i : Nat) (x : Option Session) : (s.setSession i x).mot = s.mot := rfl
@[simp] theorem State.setSession_wheels (i : Nat) (x : Option Session) : (s.setSession i x).wheels = s.wheels := rfl
@[simp] theorem State.setSession_bands (i : Nat) (x : Option Session) : (s.setSession i x).bands = s.bands := rfl
@[simp] theorem State.setSession_pool (i : Nat) (x : Option Session) : (s.setSession i x).pool = s.pool := rfl
@[simp] theorem State.setSession_fire (i : Nat) (x : Option Session) : (s.setSession i x).fire = s.fire := rfl
@[simp] theorem State.setSession_load (i : Nat) (x : Option Session) : (s.setSession i x).load = s.load := rfl
@[simp] theorem State.setSession_st (i : Nat) (x : Option Session) : (s.setSession i x).st = s.st := rfl
@[simp] theorem State.setSession_jr (i : Nat) (x : Option Session) : (s.setSession i x).jr = s.jr := rfl
@[simp] theorem State.setSession_mem (i : Nat) (x : Option Session) : (s.setSession i x).mem = s.mem := rfl
@[simp] theorem State.setSession_host (i : Nat) (x : Option Session) : (s.setSession i x).host = s.host := rfl
@[simp] theorem State.setSession_te (i : Nat) (x : Option Session) : (s.setSession i x).te = s.te := rfl
@[simp] theorem State.setSession_tw (i : Nat) (x : Option Session) : (s.setSession i x).tw = s.tw := rfl
@[simp] theorem State.setSession_hy (i : Nat) (x : Option Session) : (s.setSession i x).hy = s.hy := rfl
@[simp] theorem State.setSession_svc (i : Nat) (x : Option Session) : (s.setSession i x).svc = s.svc := rfl
@[simp] theorem State.setSession_out (i : Nat) (x : Option Session) : (s.setSession i x).out = s.out := rfl
@[simp] theorem State.setSession_freeCount (i : Nat) (x : Option Session) : (s.setSession i x).freeCount = s.freeCount := rfl
@[simp] theorem State.setSession_fld (i0 : Nat) (x : Option Session) (p : Nat) (g : Fld) (j : Nat) : (s.setSession i0 x).fld p g j = s.fld p g j := rfl
@[simp] theorem State.setSession_flag (i0 : Nat) (x : Option Session) (p : Nat) (g : Fld) (j : Nat) : (s.setSession i0 x).flag p g j = s.flag p g j := rfl

/-! setPool changes `pool` alone -/

@[simp] theorem State.setPool_pending (x : PoolSt) : (s.setPool x).pending = s.pending := rfl
@[simp] theorem State.setPool_regs (x : PoolSt) : (s.setPool x).regs = s.regs := rfl
@[simp] theorem State.setPool_words (x : PoolSt) : (s.setPool x).words = s.words := rfl
@[simp] theorem State.setPool_now (x : PoolSt) : (s.setPool x).now = s.now := rfl
@[simp] theorem State.setPool_recd (x : PoolSt) : (s.setPool x).recd = s.recd := rfl
@[simp] theorem State.setPool_oq (x : PoolSt) : (s.setPool x).oq = s.oq := rfl
@[simp] theorem State.setPool_sess (x : PoolSt) : (s.setPool x).sess = s.sess := rfl
@[simp] theorem State.setPool_arb (x : PoolSt) : (s.setPool x).arb = s.arb := rfl
@[simp] theorem State.setPool_flt (x : PoolSt) : (s.setPool x).flt = s.flt := rfl
@[simp] theorem State.setPool_links (x : PoolSt) : (s.setPool x).links = s.links := rfl
@[simp] theorem State.setPool_aon (x : PoolSt) : (s.setPool x).aon = s.aon := rfl
@[simp] theorem State.setPool_ce (x : PoolSt) : (s.setPool x).ce = s.ce := rfl
@[simp] theorem State.setPool_mot (x : PoolSt) : (s.setPool x).mot = s.mot := rfl
@[simp] theorem State.setPool_wheels (x : PoolSt) : (s.setPool x).wheels = s.wheels := rfl
@[simp] theorem State.setPool_bands (x : PoolSt) : (s.setPool x).bands = s.bands := rfl
@[simp] theorem State.setPool_fire (x : PoolSt) : (s.setPool x).fire = s.fire := rfl
@[simp] theorem State.setPool_load (x : PoolSt) : (s.setPool x).load = s.load := rfl
@[simp] theorem State.setPool_st (x : PoolSt) : (s.setPool x).st = s.st := rfl
@[simp] theorem State.setPool_jr (x : PoolSt) : (s.setPool x).jr = s.jr := rfl
@[simp] theorem State.setPool_mem (x : PoolSt) : (s.setPool x).mem = s.mem := rfl
@[simp] theorem State.setPool_host (x : PoolSt) : (s.setPool x).host = s.host := rfl
@[simp] theorem State.setPool_te (x : PoolSt) : (s.setPool x).te = s.te := rfl
@[simp] theorem State.setPool_tw (x : PoolSt) : (s.setPool x).tw = s.tw := rfl
@[simp] theorem State.setPool_hy (x : PoolSt) : (s.setPool x).hy = s.hy := rfl
@[simp] theorem State.setPool_svc (x : PoolSt) : (s.setPool x).svc = s.svc := rfl
@[simp] theorem State.setPool_out (x : PoolSt) : (s.setPool x).out = s.out := rfl
@[simp] theorem State.setPool_freeCount (x : PoolSt) : (s.setPool x).freeCount = s.freeCount := rfl
@[simp] theorem State.setPool_fld (x : PoolSt) (p : Nat) (g : Fld) (j : Nat) : (s.setPool x).fld p g j = s.fld p g j := rfl
@[simp] theorem State.setPool_flag (x : PoolSt) (p : Nat) (g : Fld) (j : Nat) : (s.setPool x).flag p g j = s.flag p g j := rfl

/-! setHy changes `hy` alone -/

@[simp] theorem State.setHy_pending (x : HySt) : (s.setHy x).pending = s.pending := rfl
@[simp] theorem State.setHy_regs (x : HySt) : (s.setHy x).regs = s.regs := rfl
@[simp] theorem State.setHy_words (x : HySt) : (s.setHy x).words = s.words := rfl
@[simp] theorem State.setHy_now (x : HySt) : (s.setHy x).now = s.now := rfl
@[simp] theorem State.setHy_recd (x : HySt) : (s.setHy x).recd = s.recd := rfl
@[simp] theorem State.setHy_oq (x : HySt) : (s.setHy x).oq = s.oq := rfl
@[simp] theorem State.setHy_sess (x : HySt) : (s.setHy x).sess = s.sess := rfl
@[simp] theorem State.setHy_arb (x : HySt) : (s.setHy x).arb = s.arb := rfl
@[simp] theorem State.setHy_flt (x : HySt) : (s.setHy x).flt = s.flt := rfl
@[simp] theorem State.setHy_links (x : HySt) : (s.setHy x).links = s.links := rfl
@[simp] theorem State.setHy_aon (x : HySt) : (s.setHy x).aon = s.aon := rfl
@[simp] theorem State.setHy_ce (x : HySt) : (s.setHy x).ce = s.ce := rfl
@[simp] theorem State.setHy_mot (x : HySt) : (s.setHy x).mot = s.mot := rfl
@[simp] theorem State.setHy_wheels (x : HySt) : (s.setHy x).wheels = s.wheels := rfl
@[simp] theorem State.setHy_bands (x : HySt) : (s.setHy x).bands = s.bands := rfl
@[simp] theorem State.setHy_pool (x : HySt) : (s.setHy x).pool = s.pool := rfl
@[simp] theorem State.setHy_fire (x : HySt) : (s.setHy x).fire = s.fire := rfl
@[simp] theorem State.setHy_load (x : HySt) : (s.setHy x).load = s.load := rfl
@[simp] theorem State.setHy_st (x : HySt) : (s.setHy x).st = s.st := rfl
@[simp] theorem State.setHy_jr (x : HySt) : (s.setHy x).jr = s.jr := rfl
@[simp] theorem State.setHy_mem (x : HySt) : (s.setHy x).mem = s.mem := rfl
@[simp] theorem State.setHy_host (x : HySt) : (s.setHy x).host = s.host := rfl
@[simp] theorem State.setHy_te (x : HySt) : (s.setHy x).te = s.te := rfl
@[simp] theorem State.setHy_tw (x : HySt) : (s.setHy x).tw = s.tw := rfl
@[simp] theorem State.setHy_svc (x : HySt) : (s.setHy x).svc = s.svc := rfl
@[simp] theorem State.setHy_out (x : HySt) : (s.setHy x).out = s.out := rfl
@[simp] theorem State.setHy_freeCount (x : HySt) : (s.setHy x).freeCount = s.freeCount := rfl
@[simp] theorem State.setHy_fld (x : HySt) (p : Nat) (g : Fld) (j : Nat) : (s.setHy x).fld p g j = s.fld p g j := rfl
@[simp] theorem State.setHy_flag (x : HySt) (p : Nat) (g : Fld) (j : Nat) : (s.setHy x).flag p g j = s.flag p g j := rfl

/-! setTe changes `te` alone -/

@[simp] theorem State.setTe_pending (x : TeSt) : (s.setTe x).pending = s.pending := rfl
@[simp] theorem State.setTe_regs (x : TeSt) : (s.setTe x).regs = s.regs := rfl
@[simp] theorem State.setTe_words (x : TeSt) : (s.setTe x).words = s.words := rfl
@[simp] theorem State.setTe_now (x : TeSt) : (s.setTe x).now = s.now := rfl
@[simp] theorem State.setTe_recd (x : TeSt) : (s.setTe x).recd = s.recd := rfl
@[simp] theorem State.setTe_oq (x : TeSt) : (s.setTe x).oq = s.oq := rfl
@[simp] theorem State.setTe_sess (x : TeSt) : (s.setTe x).sess = s.sess := rfl
@[simp] theorem State.setTe_arb (x : TeSt) : (s.setTe x).arb = s.arb := rfl
@[simp] theorem State.setTe_flt (x : TeSt) : (s.setTe x).flt = s.flt := rfl
@[simp] theorem State.setTe_links (x : TeSt) : (s.setTe x).links = s.links := rfl
@[simp] theorem State.setTe_aon (x : TeSt) : (s.setTe x).aon = s.aon := rfl
@[simp] theorem State.setTe_ce (x : TeSt) : (s.setTe x).ce = s.ce := rfl
@[simp] theorem State.setTe_mot (x : TeSt) : (s.setTe x).mot = s.mot := rfl
@[simp] theorem State.setTe_wheels (x : TeSt) : (s.setTe x).wheels = s.wheels := rfl
@[simp] theorem State.setTe_bands (x : TeSt) : (s.setTe x).bands = s.bands := rfl
@[simp] theorem State.setTe_pool (x : TeSt) : (s.setTe x).pool = s.pool := rfl
@[simp] theorem State.setTe_fire (x : TeSt) : (s.setTe x).fire = s.fire := rfl
@[simp] theorem State.setTe_load (x : TeSt) : (s.setTe x).load = s.load := rfl
@[simp] theorem State.setTe_st (x : TeSt) : (s.setTe x).st = s.st := rfl
@[simp] theorem State.setTe_jr (x : TeSt) : (s.setTe x).jr = s.jr := rfl
@[simp] theorem State.setTe_mem (x : TeSt) : (s.setTe x).mem = s.mem := rfl
@[simp] theorem State.setTe_host (x : TeSt) : (s.setTe x).host = s.host := rfl
@[simp] theorem State.setTe_tw (x : TeSt) : (s.setTe x).tw = s.tw := rfl
@[simp] theorem State.setTe_hy (x : TeSt) : (s.setTe x).hy = s.hy := rfl
@[simp] theorem State.setTe_svc (x : TeSt) : (s.setTe x).svc = s.svc := rfl
@[simp] theorem State.setTe_out (x : TeSt) : (s.setTe x).out = s.out := rfl
@[simp] theorem State.setTe_freeCount (x : TeSt) : (s.setTe x).freeCount = s.freeCount := rfl
@[simp] theorem State.setTe_fld (x : TeSt) (p : Nat) (g : Fld) (j : Nat) : (s.setTe x).fld p g j = s.fld p g j := rfl
@[simp] theorem State.setTe_flag (x : TeSt) (p : Nat) (g : Fld) (j : Nat) : (s.setTe x).flag p g j = s.flag p g j := rfl

/-! setTw changes `tw` alone -/

@[simp] theorem State.setTw_pending (x : TwSt) : (s.setTw x).pending = s.pending := rfl
@[simp] theorem State.setTw_regs (x : TwSt) : (s.setTw x).regs = s.regs := rfl
@[simp] theorem State.setTw_words (x : TwSt) : (s.setTw x).words = s.words := rfl
@[simp] theorem State.setTw_now (x : TwSt) : (s.setTw x).now = s.now := rfl
@[simp] theorem State.setTw_recd (x : TwSt) : (s.setTw x).recd = s.recd := rfl
@[simp] theorem State.setTw_oq (x : TwSt) : (s.setTw x).oq = s.oq := rfl
@[simp] theorem State.setTw_sess (x : TwSt) : (s.setTw x).sess = s.sess := rfl
@[simp] theorem State.setTw_arb (x : TwSt) : (s.setTw x).arb = s.arb := rfl
@[simp] theorem State.setTw_flt (x : TwSt) : (s.setTw x).flt = s.flt := rfl
@[simp] theorem State.setTw_links (x : TwSt) : (s.setTw x).links = s.links := rfl
@[simp] theorem State.setTw_aon (x : TwSt) : (s.setTw x).aon = s.aon := rfl
@[simp] theorem State.setTw_ce (x : TwSt) : (s.setTw x).ce = s.ce := rfl
@[simp] theorem State.setTw_mot (x : TwSt) : (s.setTw x).mot = s.mot := rfl
@[simp] theorem State.setTw_wheels (x : TwSt) : (s.setTw x).wheels = s.wheels := rfl
@[simp] theorem State.setTw_bands (x : TwSt) : (s.setTw x).bands = s.bands := rfl
@[simp] theorem State.setTw_pool (x : TwSt) : (s.setTw x).pool = s.pool := rfl
@[simp] theorem State.setTw_fire (x : TwSt) : (s.setTw x).fire = s.fire := rfl
@[simp] theorem State.setTw_load (x : TwSt) : (s.setTw x).load = s.load := rfl
@[simp] theorem State.setTw_st (x : TwSt) : (s.setTw x).st = s.st := rfl
@[simp] theorem State.setTw_jr (x : TwSt) : (s.setTw x).jr = s.jr := rfl
@[simp] theorem State.setTw_mem (x : TwSt) : (s.setTw x).mem = s.mem := rfl
@[simp] theorem State.setTw_host (x : TwSt) : (s.setTw x).host = s.host := rfl
@[simp] theorem State.setTw_te (x : TwSt) : (s.setTw x).te = s.te := rfl
@[simp] theorem State.setTw_hy (x : TwSt) : (s.setTw x).hy = s.hy := rfl
@[simp] theorem State.setTw_svc (x : TwSt) : (s.setTw x).svc = s.svc := rfl
@[simp] theorem State.setTw_out (x : TwSt) : (s.setTw x).out = s.out := rfl
@[simp] theorem State.setTw_freeCount (x : TwSt) : (s.setTw x).freeCount = s.freeCount := rfl
@[simp] theorem State.setTw_fld (x : TwSt) (p : Nat) (g : Fld) (j : Nat) : (s.setTw x).fld p g j = s.fld p g j := rfl
@[simp] theorem State.setTw_flag (x : TwSt) (p : Nat) (g : Fld) (j : Nat) : (s.setTw x).flag p g j = s.flag p g j := rfl

/-! setLink changes `links` alone -/

@[simp] theorem State.setLink_pending (h : Nat) (x : LinkSt) : (s.setLink h x).pending = s.pending := rfl
@[simp] theorem State.setLink_regs (h : Nat) (x : LinkSt) : (s.setLink h x).regs = s.regs := rfl
@[simp] theorem State.setLink_words (h : Nat) (x : LinkSt) : (s.setLink h x).words = s.words := rfl
@[simp] theorem State.setLink_now (h : Nat) (x : LinkSt) : (s.setLink h x).now = s.now := rfl
@[simp] theorem State.setLink_recd (h : Nat) (x : LinkSt) : (s.setLink h x).recd = s.recd := rfl
@[simp] theorem State.setLink_oq (h : Nat) (x : LinkSt) : (s.setLink h x).oq = s.oq := rfl
@[simp] theorem State.setLink_sess (h : Nat) (x : LinkSt) : (s.setLink h x).sess = s.sess := rfl
@[simp] theorem State.setLink_arb (h : Nat) (x : LinkSt) : (s.setLink h x).arb = s.arb := rfl
@[simp] theorem State.setLink_flt (h : Nat) (x : LinkSt) : (s.setLink h x).flt = s.flt := rfl
@[simp] theorem State.setLink_aon (h : Nat) (x : LinkSt) : (s.setLink h x).aon = s.aon := rfl
@[simp] theorem State.setLink_ce (h : Nat) (x : LinkSt) : (s.setLink h x).ce = s.ce := rfl
@[simp] theorem State.setLink_mot (h : Nat) (x : LinkSt) : (s.setLink h x).mot = s.mot := rfl
@[simp] theorem State.setLink_wheels (h : Nat) (x : LinkSt) : (s.setLink h x).wheels = s.wheels := rfl
@[simp] theorem State.setLink_bands (h : Nat) (x : LinkSt) : (s.setLink h x).bands = s.bands := rfl
@[simp] theorem State.setLink_pool (h : Nat) (x : LinkSt) : (s.setLink h x).pool = s.pool := rfl
@[simp] theorem State.setLink_fire (h : Nat) (x : LinkSt) : (s.setLink h x).fire = s.fire := rfl
@[simp] theorem State.setLink_load (h : Nat) (x : LinkSt) : (s.setLink h x).load = s.load := rfl
@[simp] theorem State.setLink_st (h : Nat) (x : LinkSt) : (s.setLink h x).st = s.st := rfl
@[simp] theorem State.setLink_jr (h : Nat) (x : LinkSt) : (s.setLink h x).jr = s.jr := rfl
@[simp] theorem State.setLink_mem (h : Nat) (x : LinkSt) : (s.setLink h x).mem = s.mem := rfl
@[simp] theorem State.setLink_host (h : Nat) (x : LinkSt) : (s.setLink h x).host = s.host := rfl
@[simp] theorem State.setLink_te (h : Nat) (x : LinkSt) : (s.setLink h x).te = s.te := rfl
@[simp] theorem State.setLink_tw (h : Nat) (x : LinkSt) : (s.setLink h x).tw = s.tw := rfl
@[simp] theorem State.setLink_hy (h : Nat) (x : LinkSt) : (s.setLink h x).hy = s.hy := rfl
@[simp] theorem State.setLink_svc (h : Nat) (x : LinkSt) : (s.setLink h x).svc = s.svc := rfl
@[simp] theorem State.setLink_out (h : Nat) (x : LinkSt) : (s.setLink h x).out = s.out := rfl
@[simp] theorem State.setLink_freeCount (h : Nat) (x : LinkSt) : (s.setLink h x).freeCount = s.freeCount := rfl
@[simp] theorem State.setLink_fld (h : Nat) (x : LinkSt) (p : Nat) (g : Fld) (j : Nat) : (s.setLink h x).fld p g j = s.fld p g j := rfl
@[simp] theorem State.setLink_flag (h : Nat) (x : LinkSt) (p : Nat) (g : Fld) (j : Nat) : (s.setLink h x).flag p g j = s.flag p g j := rfl

/-! setAxis changes `mot` alone -/

@[simp] theorem State.setAxis_pending (a : Nat) (x : AxisSt) : (s.setAxis a x).pending = s.pending := rfl
@[simp] theorem State.setAxis_regs (a : Nat) (x : AxisSt) : (s.setAxis a x).regs = s.regs := rfl
@[simp] theorem State.setAxis_words (a : Nat) (x : AxisSt) : (s.setAxis a x).words = s.words := rfl
@[simp] theorem State.setAxis_now (a : Nat) (x : AxisSt) : (s.setAxis a x).now = s.now := rfl
@[simp] theorem State.setAxis_recd (a : Nat) (x : AxisSt) : (s.setAxis a x).recd = s.recd := rfl
@[simp] theorem State.setAxis_oq (a : Nat) (x : AxisSt) : (s.setAxis a x).oq = s.oq := rfl
@[simp] theorem State.setAxis_sess (a : Nat) (x : AxisSt) : (s.setAxis a x).sess = s.sess := rfl
@[simp] theorem State.setAxis_arb (a : Nat) (x : AxisSt) : (s.setAxis a x).arb = s.arb := rfl
@[simp] theorem State.setAxis_flt (a : Nat) (x : AxisSt) : (s.setAxis a x).flt = s.flt := rfl
@[simp] theorem State.setAxis_links (a : Nat) (x : AxisSt) : (s.setAxis a x).links = s.links := rfl
@[simp] theorem State.setAxis_aon (a : Nat) (x : AxisSt) : (s.setAxis a x).aon = s.aon := rfl
@[simp] theorem State.setAxis_ce (a : Nat) (x : AxisSt) : (s.setAxis a x).ce = s.ce := rfl
@[simp] theorem State.setAxis_wheels (a : Nat) (x : AxisSt) : (s.setAxis a x).wheels = s.wheels := rfl
@[simp] theorem State.setAxis_bands (a : Nat) (x : AxisSt) : (s.setAxis a x).bands = s.bands := rfl
@[simp] theorem State.setAxis_pool (a : Nat) (x : AxisSt) : (s.setAxis a x).pool = s.pool := rfl
@[simp] theorem State.setAxis_fire (a : Nat) (x : AxisSt) : (s.setAxis a x).fire = s.fire := rfl
@[simp] theorem State.setAxis_load (a : Nat) (x : AxisSt) : (s.setAxis a x).load = s.load := rfl
@[simp] theorem State.setAxis_st (a : Nat) (x : AxisSt) : (s.setAxis a x).st = s.st := rfl
@[simp] theorem State.setAxis_jr (a : Nat) (x : AxisSt) : (s.setAxis a x).jr = s.jr := rfl
@[simp] theorem State.setAxis_mem (a : Nat) (x : AxisSt) : (s.setAxis a x).mem = s.mem := rfl
@[simp] theorem State.setAxis_host (a : Nat) (x : AxisSt) : (s.setAxis a x).host = s.host := rfl
@[simp] theorem State.setAxis_te (a : Nat) (x : AxisSt) : (s.setAxis a x).te = s.te := rfl
@[simp] theorem State.setAxis_tw (a : Nat) (x : AxisSt) : (s.setAxis a x).tw = s.tw := rfl
@[simp] theorem State.setAxis_hy (a : Nat) (x : AxisSt) : (s.setAxis a x).hy = s.hy := rfl
@[simp] theorem State.setAxis_svc (a : Nat) (x : AxisSt) : (s.setAxis a x).svc = s.svc := rfl
@[simp] theorem State.setAxis_out (a : Nat) (x : AxisSt) : (s.setAxis a x).out = s.out := rfl
@[simp] theorem State.setAxis_freeCount (a : Nat) (x : AxisSt) : (s.setAxis a x).freeCount = s.freeCount := rfl
@[simp] theorem State.setAxis_fld (a : Nat) (x : AxisSt) (p : Nat) (g : Fld) (j : Nat) : (s.setAxis a x).fld p g j = s.fld p g j := rfl
@[simp] theorem State.setAxis_flag (a : Nat) (x : AxisSt) (p : Nat) (g : Fld) (j : Nat) : (s.setAxis a x).flag p g j = s.flag p g j := rfl

/-! setSeq changes `ce` alone -/

@[simp] theorem State.setSeq_pending (h : Nat) (x : SeqSt) : (s.setSeq h x).pending = s.pending := rfl
@[simp] theorem State.setSeq_regs (h : Nat) (x : SeqSt) : (s.setSeq h x).regs = s.regs := rfl
@[simp] theorem State.setSeq_words (h : Nat) (x : SeqSt) : (s.setSeq h x).words = s.words := rfl
@[simp] theorem State.setSeq_now (h : Nat) (x : SeqSt) : (s.setSeq h x).now = s.now := rfl
@[simp] theorem State.setSeq_recd (h : Nat) (x : SeqSt) : (s.setSeq h x).recd = s.recd := rfl
@[simp] theorem State.setSeq_oq (h : Nat) (x : SeqSt) : (s.setSeq h x).oq = s.oq := rfl
@[simp] theorem State.setSeq_sess (h : Nat) (x : SeqSt) : (s.setSeq h x).sess = s.sess := rfl
@[simp] theorem State.setSeq_arb (h : Nat) (x : SeqSt) : (s.setSeq h x).arb = s.arb := rfl
@[simp] theorem State.setSeq_flt (h : Nat) (x : SeqSt) : (s.setSeq h x).flt = s.flt := rfl
@[simp] theorem State.setSeq_links (h : Nat) (x : SeqSt) : (s.setSeq h x).links = s.links := rfl
@[simp] theorem State.setSeq_aon (h : Nat) (x : SeqSt) : (s.setSeq h x).aon = s.aon := rfl
@[simp] theorem State.setSeq_mot (h : Nat) (x : SeqSt) : (s.setSeq h x).mot = s.mot := rfl
@[simp] theorem State.setSeq_wheels (h : Nat) (x : SeqSt) : (s.setSeq h x).wheels = s.wheels := rfl
@[simp] theorem State.setSeq_bands (h : Nat) (x : SeqSt) : (s.setSeq h x).bands = s.bands := rfl
@[simp] theorem State.setSeq_pool (h : Nat) (x : SeqSt) : (s.setSeq h x).pool = s.pool := rfl
@[simp] theorem State.setSeq_fire (h : Nat) (x : SeqSt) : (s.setSeq h x).fire = s.fire := rfl
@[simp] theorem State.setSeq_load (h : Nat) (x : SeqSt) : (s.setSeq h x).load = s.load := rfl
@[simp] theorem State.setSeq_st (h : Nat) (x : SeqSt) : (s.setSeq h x).st = s.st := rfl
@[simp] theorem State.setSeq_jr (h : Nat) (x : SeqSt) : (s.setSeq h x).jr = s.jr := rfl
@[simp] theorem State.setSeq_mem (h : Nat) (x : SeqSt) : (s.setSeq h x).mem = s.mem := rfl
@[simp] theorem State.setSeq_host (h : Nat) (x : SeqSt) : (s.setSeq h x).host = s.host := rfl
@[simp] theorem State.setSeq_te (h : Nat) (x : SeqSt) : (s.setSeq h x).te = s.te := rfl
@[simp] theorem State.setSeq_tw (h : Nat) (x : SeqSt) : (s.setSeq h x).tw = s.tw := rfl
@[simp] theorem State.setSeq_hy (h : Nat) (x : SeqSt) : (s.setSeq h x).hy = s.hy := rfl
@[simp] theorem State.setSeq_svc (h : Nat) (x : SeqSt) : (s.setSeq h x).svc = s.svc := rfl
@[simp] theorem State.setSeq_out (h : Nat) (x : SeqSt) : (s.setSeq h x).out = s.out := rfl
@[simp] theorem State.setSeq_freeCount (h : Nat) (x : SeqSt) : (s.setSeq h x).freeCount = s.freeCount := rfl
@[simp] theorem State.setSeq_fld (h : Nat) (x : SeqSt) (p : Nat) (g : Fld) (j : Nat) : (s.setSeq h x).fld p g j = s.fld p g j := rfl
@[simp] theorem State.setSeq_flag (h : Nat) (x : SeqSt) (p : Nat) (g : Fld) (j : Nat) : (s.setSeq h x).flag p g j = s.flag p g j := rfl

/-! setWheel changes `wheels` alone -/

@[simp] theorem State.setWheel_pending (w : Nat) (x : WheelSt) : (s.setWheel w x).pending = s.pending := rfl
@[simp] theorem State.setWheel_regs (w : Nat) (x : WheelSt) : (s.setWheel w x).regs = s.regs := rfl
@[simp] theorem State.setWheel_words (w : Nat) (x : WheelSt) : (s.setWheel w x).words = s.words := rfl
@[simp] theorem State.setWheel_now (w : Nat) (x : WheelSt) : (s.setWheel w x).now = s.now := rfl
@[simp] theorem State.setWheel_recd (w : Nat) (x : WheelSt) : (s.setWheel w x).recd = s.recd := rfl
@[simp] theorem State.setWheel_oq (w : Nat) (x : WheelSt) : (s.setWheel w x).oq = s.oq := rfl
@[simp] theorem State.setWheel_sess (w : Nat) (x : WheelSt) : (s.setWheel w x).sess = s.sess := rfl
@[simp] theorem State.setWheel_arb (w : Nat) (x : WheelSt) : (s.setWheel w x).arb = s.arb := rfl
@[simp] theorem State.setWheel_flt (w : Nat) (x : WheelSt) : (s.setWheel w x).flt = s.flt := rfl
@[simp] theorem State.setWheel_links (w : Nat) (x : WheelSt) : (s.setWheel w x).links = s.links := rfl
@[simp] theorem State.setWheel_aon (w : Nat) (x : WheelSt) : (s.setWheel w x).aon = s.aon := rfl
@[simp] theorem State.setWheel_ce (w : Nat) (x : WheelSt) : (s.setWheel w x).ce = s.ce := rfl
@[simp] theorem State.setWheel_mot (w : Nat) (x : WheelSt) : (s.setWheel w x).mot = s.mot := rfl
@[simp] theorem State.setWheel_bands (w : Nat) (x : WheelSt) : (s.setWheel w x).bands = s.bands := rfl
@[simp] theorem State.setWheel_pool (w : Nat) (x : WheelSt) : (s.setWheel w x).pool = s.pool := rfl
@[simp] theorem State.setWheel_fire (w : Nat) (x : WheelSt) : (s.setWheel w x).fire = s.fire := rfl
@[simp] theorem State.setWheel_load (w : Nat) (x : WheelSt) : (s.setWheel w x).load = s.load := rfl
@[simp] theorem State.setWheel_st (w : Nat) (x : WheelSt) : (s.setWheel w x).st = s.st := rfl
@[simp] theorem State.setWheel_jr (w : Nat) (x : WheelSt) : (s.setWheel w x).jr = s.jr := rfl
@[simp] theorem State.setWheel_mem (w : Nat) (x : WheelSt) : (s.setWheel w x).mem = s.mem := rfl
@[simp] theorem State.setWheel_host (w : Nat) (x : WheelSt) : (s.setWheel w x).host = s.host := rfl
@[simp] theorem State.setWheel_te (w : Nat) (x : WheelSt) : (s.setWheel w x).te = s.te := rfl
@[simp] theorem State.setWheel_tw (w : Nat) (x : WheelSt) : (s.setWheel w x).tw = s.tw := rfl
@[simp] theorem State.setWheel_hy (w : Nat) (x : WheelSt) : (s.setWheel w x).hy = s.hy := rfl
@[simp] theorem State.setWheel_svc (w : Nat) (x : WheelSt) : (s.setWheel w x).svc = s.svc := rfl
@[simp] theorem State.setWheel_out (w : Nat) (x : WheelSt) : (s.setWheel w x).out = s.out := rfl
@[simp] theorem State.setWheel_freeCount (w : Nat) (x : WheelSt) : (s.setWheel w x).freeCount = s.freeCount := rfl
@[simp] theorem State.setWheel_fld (w : Nat) (x : WheelSt) (p : Nat) (g : Fld) (j : Nat) : (s.setWheel w x).fld p g j = s.fld p g j := rfl
@[simp] theorem State.setWheel_flag (w : Nat) (x : WheelSt) (p : Nat) (g : Fld) (j : Nat) : (s.setWheel w x).flag p g j = s.flag p g j := rfl

/-! setBand changes `bands` alone -/

@[simp] theorem State.setBand_pending (h : Nat) (x : BandSt) : (s.setBand h x).pending = s.pending := rfl
@[simp] theorem State.setBand_regs (h : Nat) (x : BandSt) : (s.setBand h x).regs = s.regs := rfl
@[simp] theorem State.setBand_words (h : Nat) (x : BandSt) : (s.setBand h x).words = s.words := rfl
@[simp] theorem State.setBand_now (h : Nat) (x : BandSt) : (s.setBand h x).now = s.now := rfl
@[simp] theorem State.setBand_recd (h : Nat) (x : BandSt) : (s.setBand h x).recd = s.recd := rfl
@[simp] theorem State.setBand_oq (h : Nat) (x : BandSt) : (s.setBand h x).oq = s.oq := rfl
@[simp] theorem State.setBand_sess (h : Nat) (x : BandSt) : (s.setBand h x).sess = s.sess := rfl
@[simp] theorem State.setBand_arb (h : Nat) (x : BandSt) : (s.setBand h x).arb = s.arb := rfl
@[simp] theorem State.setBand_flt (h : Nat) (x : BandSt) : (s.setBand h x).flt = s.flt := rfl
@[simp] theorem State.setBand_links (h : Nat) (x : BandSt) : (s.setBand h x).links = s.links := rfl
@[simp] theorem State.setBand_aon (h : Nat) (x : BandSt) : (s.setBand h x).aon = s.aon := rfl
@[simp] theorem State.setBand_ce (h : Nat) (x : BandSt) : (s.setBand h x).ce = s.ce := rfl
@[simp] theorem State.setBand_mot (h : Nat) (x : BandSt) : (s.setBand h x).mot = s.mot := rfl
@[simp] theorem State.setBand_wheels (h : Nat) (x : BandSt) : (s.setBand h x).wheels = s.wheels := rfl
@[simp] theorem State.setBand_pool (h : Nat) (x : BandSt) : (s.setBand h x).pool = s.pool := rfl
@[simp] theorem State.setBand_fire (h : Nat) (x : BandSt) : (s.setBand h x).fire = s.fire := rfl
@[simp] theorem State.setBand_load (h : Nat) (x : BandSt) : (s.setBand h x).load = s.load := rfl
@[simp] theorem State.setBand_st (h : Nat) (x : BandSt) : (s.setBand h x).st = s.st := rfl
@[simp] theorem State.setBand_jr (h : Nat) (x : BandSt) : (s.setBand h x).jr = s.jr := rfl
@[simp] theorem State.setBand_mem (h : Nat) (x : BandSt) : (s.setBand h x).mem = s.mem := rfl
@[simp] theorem State.setBand_host (h : Nat) (x : BandSt) : (s.setBand h x).host = s.host := rfl
@[simp] theorem State.setBand_te (h : Nat) (x : BandSt) : (s.setBand h x).te = s.te := rfl
@[simp] theorem State.setBand_tw (h : Nat) (x : BandSt) : (s.setBand h x).tw = s.tw := rfl
@[simp] theorem State.setBand_hy (h : Nat) (x : BandSt) : (s.setBand h x).hy = s.hy := rfl
@[simp] theorem State.setBand_svc (h : Nat) (x : BandSt) : (s.setBand h x).svc = s.svc := rfl
@[simp] theorem State.setBand_out (h : Nat) (x : BandSt) : (s.setBand h x).out = s.out := rfl
@[simp] theorem State.setBand_freeCount (h : Nat) (x : BandSt) : (s.setBand h x).freeCount = s.freeCount := rfl
@[simp] theorem State.setBand_fld (h : Nat) (x : BandSt) (p : Nat) (g : Fld) (j : Nat) : (s.setBand h x).fld p g j = s.fld p g j := rfl
@[simp] theorem State.setBand_flag (h : Nat) (x : BandSt) (p : Nat) (g : Fld) (j : Nat) : (s.setBand h x).flag p g j = s.flag p g j := rfl

/-! setFireHead changes `fire` alone -/

@[simp] theorem State.setFireHead_pending (h : Nat) (x : FireHead) : (s.setFireHead h x).pending = s.pending := rfl
@[simp] theorem State.setFireHead_regs (h : Nat) (x : FireHead) : (s.setFireHead h x).regs = s.regs := rfl
@[simp] theorem State.setFireHead_words (h : Nat) (x : FireHead) : (s.setFireHead h x).words = s.words := rfl
@[simp] theorem State.setFireHead_now (h : Nat) (x : FireHead) : (s.setFireHead h x).now = s.now := rfl
@[simp] theorem State.setFireHead_recd (h : Nat) (x : FireHead) : (s.setFireHead h x).recd = s.recd := rfl
@[simp] theorem State.setFireHead_oq (h : Nat) (x : FireHead) : (s.setFireHead h x).oq = s.oq := rfl
@[simp] theorem State.setFireHead_sess (h : Nat) (x : FireHead) : (s.setFireHead h x).sess = s.sess := rfl
@[simp] theorem State.setFireHead_arb (h : Nat) (x : FireHead) : (s.setFireHead h x).arb = s.arb := rfl
@[simp] theorem State.setFireHead_flt (h : Nat) (x : FireHead) : (s.setFireHead h x).flt = s.flt := rfl
@[simp] theorem State.setFireHead_links (h : Nat) (x : FireHead) : (s.setFireHead h x).links = s.links := rfl
@[simp] theorem State.setFireHead_aon (h : Nat) (x : FireHead) : (s.setFireHead h x).aon = s.aon := rfl
@[simp] theorem State.setFireHead_ce (h : Nat) (x : FireHead) : (s.setFireHead h x).ce = s.ce := rfl
@[simp] theorem State.setFireHead_mot (h : Nat) (x : FireHead) : (s.setFireHead h x).mot = s.mot := rfl
@[simp] theorem State.setFireHead_wheels (h : Nat) (x : FireHead) : (s.setFireHead h x).wheels = s.wheels := rfl
@[simp] theorem State.setFireHead_bands (h : Nat) (x : FireHead) : (s.setFireHead h x).bands = s.bands := rfl
@[simp] theorem State.setFireHead_pool (h : Nat) (x : FireHead) : (s.setFireHead h x).pool = s.pool := rfl
@[simp] theorem State.setFireHead_load (h : Nat) (x : FireHead) : (s.setFireHead h x).load = s.load := rfl
@[simp] theorem State.setFireHead_st (h : Nat) (x : FireHead) : (s.setFireHead h x).st = s.st := rfl
@[simp] theorem State.setFireHead_jr (h : Nat) (x : FireHead) : (s.setFireHead h x).jr = s.jr := rfl
@[simp] theorem State.setFireHead_mem (h : Nat) (x : FireHead) : (s.setFireHead h x).mem = s.mem := rfl
@[simp] theorem State.setFireHead_host (h : Nat) (x : FireHead) : (s.setFireHead h x).host = s.host := rfl
@[simp] theorem State.setFireHead_te (h : Nat) (x : FireHead) : (s.setFireHead h x).te = s.te := rfl
@[simp] theorem State.setFireHead_tw (h : Nat) (x : FireHead) : (s.setFireHead h x).tw = s.tw := rfl
@[simp] theorem State.setFireHead_hy (h : Nat) (x : FireHead) : (s.setFireHead h x).hy = s.hy := rfl
@[simp] theorem State.setFireHead_svc (h : Nat) (x : FireHead) : (s.setFireHead h x).svc = s.svc := rfl
@[simp] theorem State.setFireHead_out (h : Nat) (x : FireHead) : (s.setFireHead h x).out = s.out := rfl
@[simp] theorem State.setFireHead_freeCount (h : Nat) (x : FireHead) : (s.setFireHead h x).freeCount = s.freeCount := rfl
@[simp] theorem State.setFireHead_fld (h : Nat) (x : FireHead) (p : Nat) (g : Fld) (j : Nat) : (s.setFireHead h x).fld p g j = s.fld p g j := rfl
@[simp] theorem State.setFireHead_flag (h : Nat) (x : FireHead) (p : Nat) (g : Fld) (j : Nat) : (s.setFireHead h x).flag p g j = s.flag p g j := rfl

/-! setOqueue changes `oq` alone -/

@[simp] theorem State.setOqueue_pending (q : Nat) (x : OQueue) : (s.setOqueue q x).pending = s.pending := rfl
@[simp] theorem State.setOqueue_regs (q : Nat) (x : OQueue) : (s.setOqueue q x).regs = s.regs := rfl
@[simp] theorem State.setOqueue_words (q : Nat) (x : OQueue) : (s.setOqueue q x).words = s.words := rfl
@[simp] theorem State.setOqueue_now (q : Nat) (x : OQueue) : (s.setOqueue q x).now = s.now := rfl
@[simp] theorem State.setOqueue_recd (q : Nat) (x : OQueue) : (s.setOqueue q x).recd = s.recd := rfl
@[simp] theorem State.setOqueue_sess (q : Nat) (x : OQueue) : (s.setOqueue q x).sess = s.sess := rfl
@[simp] theorem State.setOqueue_arb (q : Nat) (x : OQueue) : (s.setOqueue q x).arb = s.arb := rfl
@[simp] theorem State.setOqueue_flt (q : Nat) (x : OQueue) : (s.setOqueue q x).flt = s.flt := rfl
@[simp] theorem State.setOqueue_links (q : Nat) (x : OQueue) : (s.setOqueue q x).links = s.links := rfl
@[simp] theorem State.setOqueue_aon (q : Nat) (x : OQueue) : (s.setOqueue q x).aon = s.aon := rfl
@[simp] theorem State.setOqueue_ce (q : Nat) (x : OQueue) : (s.setOqueue q x).ce = s.ce := rfl
@[simp] theorem State.setOqueue_mot (q : Nat) (x : OQueue) : (s.setOqueue q x).mot = s.mot := rfl
@[simp] theorem State.setOqueue_wheels (q : Nat) (x : OQueue) : (s.setOqueue q x).wheels = s.wheels := rfl
@[simp] theorem State.setOqueue_bands (q : Nat) (x : OQueue) : (s.setOqueue q x).bands = s.bands := rfl
@[simp] theorem State.setOqueue_pool (q : Nat) (x : OQueue) : (s.setOqueue q x).pool = s.pool := rfl
@[simp] theorem State.setOqueue_fire (q : Nat) (x : OQueue) : (s.setOqueue q x).fire = s.fire := rfl
@[simp] theorem State.setOqueue_load (q : Nat) (x : OQueue) : (s.setOqueue q x).load = s.load := rfl
@[simp] theorem State.setOqueue_st (q : Nat) (x : OQueue) : (s.setOqueue q x).st = s.st := rfl
@[simp] theorem State.setOqueue_jr (q : Nat) (x : OQueue) : (s.setOqueue q x).jr = s.jr := rfl
@[simp] theorem State.setOqueue_mem (q : Nat) (x : OQueue) : (s.setOqueue q x).mem = s.mem := rfl
@[simp] theorem State.setOqueue_host (q : Nat) (x : OQueue) : (s.setOqueue q x).host = s.host := rfl
@[simp] theorem State.setOqueue_te (q : Nat) (x : OQueue) : (s.setOqueue q x).te = s.te := rfl
@[simp] theorem State.setOqueue_tw (q : Nat) (x : OQueue) : (s.setOqueue q x).tw = s.tw := rfl
@[simp] theorem State.setOqueue_hy (q : Nat) (x : OQueue) : (s.setOqueue q x).hy = s.hy := rfl
@[simp] theorem State.setOqueue_svc (q : Nat) (x : OQueue) : (s.setOqueue q x).svc = s.svc := rfl
@[simp] theorem State.setOqueue_out (q : Nat) (x : OQueue) : (s.setOqueue q x).out = s.out := rfl
@[simp] theorem State.setOqueue_freeCount (q : Nat) (x : OQueue) : (s.setOqueue q x).freeCount = s.freeCount := rfl
@[simp] theorem State.setOqueue_fld (q : Nat) (x : OQueue) (p : Nat) (g : Fld) (j : Nat) : (s.setOqueue q x).fld p g j = s.fld p g j := rfl
@[simp] theorem State.setOqueue_flag (q : Nat) (x : OQueue) (p : Nat) (g : Fld) (j : Nat) : (s.setOqueue q x).flag p g j = s.flag p g j := rfl

end Sys2Proof.Machine
end

