-- ==== Sys2Proof/Laws/Store.lean ====
section
/-!
SUPPORT. The laws of the sparse store: a read after a write, and the canonical form.
-/
namespace Sys2Proof.Machine

variable {α : Type}

theorem storeFind_storeErase_self (d : Nat → α) (m : Store α) (k : Nat) : storeFind d (storeErase m k) k = d k := by
  induction m with
  | nil => rfl
  | cons e m ih =>
    obtain ⟨j, v⟩ := e
    by_cases h : j = k <;> simp [storeErase, storeFind, h, ih]

theorem storeFind_storeErase_ne (d : Nat → α) (m : Store α) {j k : Nat} (h : j ≠ k) :
    storeFind d (storeErase m k) j = storeFind d m j := by
  induction m with
  | nil => rfl
  | cons e m ih =>
    obtain ⟨i, v⟩ := e
    by_cases hk : i = k
    · subst hk; simp [storeErase, storeFind, ih, Ne.symm h]
    · by_cases hj : i = j
      · subst hj; simp [storeErase, storeFind, hk]
      · simp [storeErase, storeFind, hk, hj, ih]

/-- A key stands in a store. -/
theorem storeFind_storeInsert_self (d : Nat → α) (m : Store α) (k : Nat) (v : α) (h : ∀ e ∈ m, e.1 ≠ k) :
    storeFind d (storeInsert m k v) k = v := by
  induction m with
  | nil => simp [storeInsert, storeFind]
  | cons e m ih =>
    obtain ⟨j, w⟩ := e
    have hj : j ≠ k := h (j, w) (by simp)
    have hm : ∀ e ∈ m, e.1 ≠ k := fun e he => h e (by simp [he])
    by_cases hlt : k < j <;> simp [storeInsert, storeFind, hlt, hj, ih hm]

theorem storeFind_storeInsert_ne (d : Nat → α) (m : Store α) {j k : Nat} (v : α) (h : j ≠ k) :
    storeFind d (storeInsert m k v) j = storeFind d m j := by
  induction m with
  | nil => simp [storeInsert, storeFind, Ne.symm h]
  | cons e m ih =>
    obtain ⟨i, w⟩ := e
    by_cases hlt : k < i
    · simp [storeInsert, storeFind, hlt, Ne.symm h]
    · by_cases hi : i = j
      · subst hi; simp [storeInsert, storeFind, hlt]
      · simp [storeInsert, storeFind, hlt, hi, ih]

theorem storeErase_no_key (m : Store α) (k : Nat) : ∀ e ∈ storeErase m k, e.1 ≠ k := by
  induction m with
  | nil => intro e he; simp [storeErase] at he
  | cons e m ih =>
    obtain ⟨j, w⟩ := e
    by_cases h : j = k
    · simpa [storeErase, h] using ih
    · intro x hx
      simp only [storeErase, h, if_false, List.mem_cons] at hx
      rcases hx with rfl | hx
      · exact h
      · exact ih x hx

/-! The canonical form is kept -/

theorem keysAbove_mono {lo lo' : Nat} (h : lo' ≤ lo) (m : Store α) (hm : keysAbove lo m = true) : keysAbove lo' m = true := by
  cases m with
  | nil => rfl
  | cons e m =>
    obtain ⟨k, v⟩ := e
    simp only [keysAbove, Bool.and_eq_true, decide_eq_true_eq] at hm ⊢
    exact ⟨Nat.le_trans h hm.1, hm.2⟩

theorem keysAbove_storeErase (m : Store α) (lo k : Nat) (hm : keysAbove lo m = true) :
    keysAbove lo (storeErase m k) = true := by
  induction m generalizing lo with
  | nil => rfl
  | cons e m ih =>
    obtain ⟨j, v⟩ := e
    simp only [keysAbove, Bool.and_eq_true, decide_eq_true_eq] at hm
    by_cases h : j = k
    · simp only [storeErase, h, if_true]
      exact keysAbove_mono (by omega) _ (ih (j + 1) hm.2)
    · simp only [storeErase, h, if_false, keysAbove, Bool.and_eq_true, decide_eq_true_eq]
      exact ⟨hm.1, ih (j + 1) hm.2⟩

theorem keysAbove_storeInsert (m : Store α) (lo k : Nat) (v : α) (hk : lo ≤ k) (hne : ∀ e ∈ m, e.1 ≠ k)
    (hm : keysAbove lo m = true) : keysAbove lo (storeInsert m k v) = true := by
  induction m generalizing lo with
  | nil => simp [storeInsert, keysAbove, hk]
  | cons e m ih =>
    obtain ⟨j, w⟩ := e
    simp only [keysAbove, Bool.and_eq_true, decide_eq_true_eq] at hm
    have hj : j ≠ k := hne (j, w) (by simp)
    by_cases hlt : k < j
    · simp only [storeInsert, hlt, if_true, keysAbove, Bool.and_eq_true, decide_eq_true_eq]
      exact ⟨hk, hlt, hm.2⟩
    · simp only [storeInsert, hlt, if_false, keysAbove, Bool.and_eq_true, decide_eq_true_eq]
      exact ⟨hm.1, ih (j + 1) (by omega) (fun e he => hne e (by simp [he])) hm.2⟩

variable [DecidableEq α]

theorem noDefaults_storeErase (d : Nat → α) (m : Store α) (k : Nat) (hm : noDefaults d m = true) :
    noDefaults d (storeErase m k) = true := by
  induction m with
  | nil => rfl
  | cons e m ih =>
    obtain ⟨j, v⟩ := e
    simp only [noDefaults, Bool.and_eq_true, decide_eq_true_eq] at hm
    by_cases h : j = k
    · simpa [storeErase, h] using ih hm.2
    · simp only [storeErase, h, if_false, noDefaults, Bool.and_eq_true, decide_eq_true_eq]
      exact ⟨hm.1, ih hm.2⟩

theorem noDefaults_storeInsert (d : Nat → α) (m : Store α) (k : Nat) (v : α) (hv : v ≠ d k)
    (hm : noDefaults d m = true) : noDefaults d (storeInsert m k v) = true := by
  induction m with
  | nil => simp [storeInsert, noDefaults, hv]
  | cons e m ih =>
    obtain ⟨j, w⟩ := e
    by_cases hlt : k < j
    · simp only [storeInsert, hlt, if_true, noDefaults, Bool.and_eq_true, decide_eq_true_eq] at hm ⊢
      exact ⟨hv, hm.1, hm.2⟩
    · simp only [storeInsert, hlt, if_false, noDefaults, Bool.and_eq_true, decide_eq_true_eq] at hm ⊢
      exact ⟨hm.1, ih hm.2⟩

/-- Every write keeps the canonical form. -/
theorem storeWf_storePut (d : Nat → α) (m : Store α) (k : Nat) (v : α) (hm : storeWf d m = true) :
    storeWf d (storePut d m k v) = true := by
  simp only [storeWf, Bool.and_eq_true] at hm ⊢
  unfold storePut
  split
  · exact ⟨keysAbove_storeErase m 0 k hm.1, noDefaults_storeErase d m k hm.2⟩
  · rename_i h
    exact ⟨keysAbove_storeInsert _ 0 k v (Nat.zero_le k) (storeErase_no_key m k) (keysAbove_storeErase m 0 k hm.1),
      noDefaults_storeInsert d _ k v h (noDefaults_storeErase d m k hm.2)⟩

/-! Read after write -/

/-- A read of the key just written gives the value written. -/
@[simp] theorem storeFind_storePut_self (d : Nat → α) (m : Store α) (k : Nat) (v : α) :
    storeFind d (storePut d m k v) k = v := by
  unfold storePut
  split
  · rename_i h; rw [storeFind_storeErase_self, h]
  · exact storeFind_storeInsert_self d _ k v (storeErase_no_key m k)

/-- A write leaves every other key alone. -/
theorem storeFind_storePut_ne (d : Nat → α) (m : Store α) {j k : Nat} (v : α) (h : j ≠ k) :
    storeFind d (storePut d m k v) j = storeFind d m j := by
  unfold storePut
  split
  · exact storeFind_storeErase_ne d m h
  · rw [storeFind_storeInsert_ne d _ v h, storeFind_storeErase_ne d m h]

end Sys2Proof.Machine
end

