-- ==== Sys2Proof/Laws/Regs.lean ====
section
/-!
SUPPORT. What the named operations over registers do: a field written reads as written, every other field
as before; bits; the page fields of R54 and R58; settling (R65).
-/
namespace Sys2Proof.Machine

variable (s : State)

/-! Fields -/

@[simp] theorem State.fld_setFld_self (b : Nat) (f : Fld) (v i : Nat) :
    (s.setFld b f v i).fld b f i = v % 2 ^ f.width := by
  simp [State.fld, State.setFld]

theorem State.fld_setFld_ne {b p : Nat} {f g : Fld} {i j : Nat} (v : Nat) (h : fldKey p g j ≠ fldKey b f i) :
    (s.setFld b f v i).fld p g j = s.fld p g j := by
  simp [State.fld, State.setFld, storeFind_storePut_ne _ _ _ h]

theorem State.reg_setFld_ne {b : Nat} {f : Fld} {i k : Nat} (v : Nat) (h : k ≠ fldKey b f i) :
    (s.setFld b f v i).reg k = s.reg k := by
  simp [State.reg, State.setFld, storeFind_storePut_ne _ _ _ h]

theorem State.fld_eq_reg (b : Nat) (f : Fld) (i : Nat) : s.fld b f i = s.reg (fldKey b f i) := rfl

theorem boolNat_mod {b : Bool} {w : Nat} (h : 0 < w) : boolNat b % 2 ^ w = boolNat b := by
  have h1 : 2 ^ 1 ≤ 2 ^ w := Nat.pow_le_pow_right (by omega) h
  apply Nat.mod_eq_of_lt
  cases b <;> simp [boolNat] <;> omega

theorem State.flag_setFlag_self {b : Nat} {f : Fld} {v : Bool} {i : Nat} (h : 0 < f.width) :
    (s.setFlag b f v i).flag b f i = v := by
  simp only [State.flag, State.setFlag, State.fld_setFld_self, boolNat_mod h]
  cases v <;> simp [boolNat]

theorem State.flag_setFld_ne {b p : Nat} {f g : Fld} {i j : Nat} (v : Nat) (h : fldKey p g j ≠ fldKey b f i) :
    (s.setFld b f v i).flag p g j = s.flag p g j := by
  simp [State.flag, State.fld_setFld_ne s v h]

theorem State.flag_setFlag_ne {b p : Nat} {f g : Fld} {v : Bool} {i j : Nat} (h : fldKey p g j ≠ fldKey b f i) :
    (s.setFlag b f v i).flag p g j = s.flag p g j := State.flag_setFld_ne s _ h

/-- Writing a field keeps the register store canonical. -/
theorem State.regsWf_setFld {b : Nat} {f : Fld} {v i : Nat} (h : s.regsWf = true) : (s.setFld b f v i).regsWf = true := by
  simp only [State.regsWf, Bool.and_eq_true] at h ⊢
  exact ⟨storeWf_storePut _ _ _ _ h.1, h.2⟩

/-! Bits -/

theorem bitOf_setBit_self (v n : Nat) (b : Bool) : bitOf (setBit v n b) n = b := by
  cases b
  · by_cases h : bitOf v n = true
    · simp only [setBit, h, Bool.false_eq_true, if_false, if_true]
      simp only [bitOf, decide_eq_true_eq] at h
      have hle : 2 ^ n ≤ v := by
        rcases Nat.lt_or_ge v (2 ^ n) with h' | h'
        · rw [Nat.div_eq_of_lt h'] at h; omega
        · exact h'
      obtain ⟨k, hk⟩ : ∃ k, v = k + 2 ^ n := ⟨v - 2 ^ n, by omega⟩
      subst hk
      rw [Nat.add_div_right _ (Nat.two_pow_pos n)] at h
      simp only [bitOf, decide_eq_false_iff_not, Nat.add_sub_cancel]
      omega
    · have h' : bitOf v n = false := by simpa using h
      simp [setBit, h']
  · by_cases h : bitOf v n = true
    · simp [setBit, h]
    · have h' : bitOf v n = false := by simpa using h
      simp only [setBit, h', if_true, Bool.false_eq_true, if_false]
      simp only [bitOf, decide_eq_false_iff_not] at h'
      simp only [bitOf, decide_eq_true_eq]
      rw [Nat.add_div_right _ (Nat.two_pow_pos n)]
      omega

end Sys2Proof.Machine
end

