-- ==== Sys2Proof/Laws/Settle.lean ====
section
/-!
SUPPORT. Settling (R65): what it leaves alone, that it makes every RDY_SYS bit agree with its page, and that
it changes nothing where they agree.
-/
namespace Sys2Proof.Machine

variable (s : State)

/-- A part of the state that no register write, no raised event and no arbiter change alters is not altered
by a RDY bit. -/
theorem setRdy_frame {α : Type} (o : State → α) (ho : ∀ s x, o { s with regs := x } = o s)
    (hr : ∀ s x, o { s with recd := x } = o s) (ha : ∀ s x, o { s with arb := x } = o s) (s : State) (f : Fld) (b : Bool) :
    o (s.setRdy f b) = o s := by
  have hset : ∀ (s : State) p g v i, o (s.setFld p g v i) = o s := fun s p g v i => ho s _
  have hev : ∀ (s : State) p c v a n d, o (s.event p c v a n d) = o s := by
    intro s p c v a n d; unfold State.event; split <;> exact hr s _
  have hist : ∀ (s : State) p n, o (s.istat p n) = o s := fun s p n => hset s _ _ _ _
  have hrose : ∀ s : State, o s.summaryRose = o s := by
    intro s; unfold State.summaryRose; dsimp only; split
    · exact hist s _ _
    · rw [hev, ha, hist]
  have hcut : ∀ (s : State) ns, o (s.setCut ns) = o s := fun s ns => ha s _
  unfold State.setRdy
  dsimp only
  split
  · exact hcut s _
  · split
    · rw [hrose, hist]; exact (hset _ _ _ _ _).trans (hcut s _)
    · rw [hist]; exact (hset _ _ _ _ _).trans (hcut s _)

theorem settle_frame {α : Type} (o : State → α) (h : ∀ s x, o (State.settleBit s x) = o s) (s : State) : o s.settle = o s := by
  unfold State.settle
  generalize rdyOwners = xs
  induction xs generalizing s with
  | nil => rfl
  | cons x xs ih => simp only [List.foldl_cons, ih, h]

/-! Parts that settling leaves alone -/

@[simp] theorem State.settle_pending : s.settle.pending = s.pending :=
  settle_frame (fun t => t.pending) (fun t x => by unfold State.settleBit; split <;> split <;> first | rfl | exact setRdy_frame (fun t => t.pending) (fun _ _ => rfl) (fun _ _ => rfl) (fun _ _ => rfl) t x.2 true) s
@[simp] theorem State.settle_words : s.settle.words = s.words :=
  settle_frame (fun t => t.words) (fun t x => by unfold State.settleBit; split <;> split <;> first | rfl | exact setRdy_frame (fun t => t.words) (fun _ _ => rfl) (fun _ _ => rfl) (fun _ _ => rfl) t x.2 true) s
@[simp] theorem State.settle_now : s.settle.now = s.now :=
  settle_frame (fun t => t.now) (fun t x => by unfold State.settleBit; split <;> split <;> first | rfl | exact setRdy_frame (fun t => t.now) (fun _ _ => rfl) (fun _ _ => rfl) (fun _ _ => rfl) t x.2 true) s
@[simp] theorem State.settle_oq : s.settle.oq = s.oq :=
  settle_frame (fun t => t.oq) (fun t x => by unfold State.settleBit; split <;> split <;> first | rfl | exact setRdy_frame (fun t => t.oq) (fun _ _ => rfl) (fun _ _ => rfl) (fun _ _ => rfl) t x.2 true) s
@[simp] theorem State.settle_sess : s.settle.sess = s.sess :=
  settle_frame (fun t => t.sess) (fun t x => by unfold State.settleBit; split <;> split <;> first | rfl | exact setRdy_frame (fun t => t.sess) (fun _ _ => rfl) (fun _ _ => rfl) (fun _ _ => rfl) t x.2 true) s
@[simp] theorem State.settle_flt : s.settle.flt = s.flt :=
  settle_frame (fun t => t.flt) (fun t x => by unfold State.settleBit; split <;> split <;> first | rfl | exact setRdy_frame (fun t => t.flt) (fun _ _ => rfl) (fun _ _ => rfl) (fun _ _ => rfl) t x.2 true) s
@[simp] theorem State.settle_links : s.settle.links = s.links :=
  settle_frame (fun t => t.links) (fun t x => by unfold State.settleBit; split <;> split <;> first | rfl | exact setRdy_frame (fun t => t.links) (fun _ _ => rfl) (fun _ _ => rfl) (fun _ _ => rfl) t x.2 true) s
@[simp] theorem State.settle_aon : s.settle.aon = s.aon :=
  settle_frame (fun t => t.aon) (fun t x => by unfold State.settleBit; split <;> split <;> first | rfl | exact setRdy_frame (fun t => t.aon) (fun _ _ => rfl) (fun _ _ => rfl) (fun _ _ => rfl) t x.2 true) s
@[simp] theorem State.settle_ce : s.settle.ce = s.ce :=
  settle_frame (fun t => t.ce) (fun t x => by unfold State.settleBit; split <;> split <;> first | rfl | exact setRdy_frame (fun t => t.ce) (fun _ _ => rfl) (fun _ _ => rfl) (fun _ _ => rfl) t x.2 true) s
@[simp] theorem State.settle_mot : s.settle.mot = s.mot :=
  settle_frame (fun t => t.mot) (fun t x => by unfold State.settleBit; split <;> split <;> first | rfl | exact setRdy_frame (fun t => t.mot) (fun _ _ => rfl) (fun _ _ => rfl) (fun _ _ => rfl) t x.2 true) s
@[simp] theorem State.settle_wheels : s.settle.wheels = s.wheels :=
  settle_frame (fun t => t.wheels) (fun t x => by unfold State.settleBit; split <;> split <;> first | rfl | exact setRdy_frame (fun t => t.wheels) (fun _ _ => rfl) (fun _ _ => rfl) (fun _ _ => rfl) t x.2 true) s
@[simp] theorem State.settle_bands : s.settle.bands = s.bands :=
  settle_frame (fun t => t.bands) (fun t x => by unfold State.settleBit; split <;> split <;> first | rfl | exact setRdy_frame (fun t => t.bands) (fun _ _ => rfl) (fun _ _ => rfl) (fun _ _ => rfl) t x.2 true) s
@[simp] theorem State.settle_pool : s.settle.pool = s.pool :=
  settle_frame (fun t => t.pool) (fun t x => by unfold State.settleBit; split <;> split <;> first | rfl | exact setRdy_frame (fun t => t.pool) (fun _ _ => rfl) (fun _ _ => rfl) (fun _ _ => rfl) t x.2 true) s
@[simp] theorem State.settle_fire : s.settle.fire = s.fire :=
  settle_frame (fun t => t.fire) (fun t x => by unfold State.settleBit; split <;> split <;> first | rfl | exact setRdy_frame (fun t => t.fire) (fun _ _ => rfl) (fun _ _ => rfl) (fun _ _ => rfl) t x.2 true) s
@[simp] theorem State.settle_load : s.settle.load = s.load :=
  settle_frame (fun t => t.load) (fun t x => by unfold State.settleBit; split <;> split <;> first | rfl | exact setRdy_frame (fun t => t.load) (fun _ _ => rfl) (fun _ _ => rfl) (fun _ _ => rfl) t x.2 true) s
@[simp] theorem State.settle_st : s.settle.st = s.st :=
  settle_frame (fun t => t.st) (fun t x => by unfold State.settleBit; split <;> split <;> first | rfl | exact setRdy_frame (fun t => t.st) (fun _ _ => rfl) (fun _ _ => rfl) (fun _ _ => rfl) t x.2 true) s
@[simp] theorem State.settle_jr : s.settle.jr = s.jr :=
  settle_frame (fun t => t.jr) (fun t x => by unfold State.settleBit; split <;> split <;> first | rfl | exact setRdy_frame (fun t => t.jr) (fun _ _ => rfl) (fun _ _ => rfl) (fun _ _ => rfl) t x.2 true) s
@[simp] theorem State.settle_mem : s.settle.mem = s.mem :=
  settle_frame (fun t => t.mem) (fun t x => by unfold State.settleBit; split <;> split <;> first | rfl | exact setRdy_frame (fun t => t.mem) (fun _ _ => rfl) (fun _ _ => rfl) (fun _ _ => rfl) t x.2 true) s
@[simp] theorem State.settle_host : s.settle.host = s.host :=
  settle_frame (fun t => t.host) (fun t x => by unfold State.settleBit; split <;> split <;> first | rfl | exact setRdy_frame (fun t => t.host) (fun _ _ => rfl) (fun _ _ => rfl) (fun _ _ => rfl) t x.2 true) s
@[simp] theorem State.settle_te : s.settle.te = s.te :=
  settle_frame (fun t => t.te) (fun t x => by unfold State.settleBit; split <;> split <;> first | rfl | exact setRdy_frame (fun t => t.te) (fun _ _ => rfl) (fun _ _ => rfl) (fun _ _ => rfl) t x.2 true) s
@[simp] theorem State.settle_tw : s.settle.tw = s.tw :=
  settle_frame (fun t => t.tw) (fun t x => by unfold State.settleBit; split <;> split <;> first | rfl | exact setRdy_frame (fun t => t.tw) (fun _ _ => rfl) (fun _ _ => rfl) (fun _ _ => rfl) t x.2 true) s
@[simp] theorem State.settle_hy : s.settle.hy = s.hy :=
  settle_frame (fun t => t.hy) (fun t x => by unfold State.settleBit; split <;> split <;> first | rfl | exact setRdy_frame (fun t => t.hy) (fun _ _ => rfl) (fun _ _ => rfl) (fun _ _ => rfl) t x.2 true) s
@[simp] theorem State.settle_svc : s.settle.svc = s.svc :=
  settle_frame (fun t => t.svc) (fun t x => by unfold State.settleBit; split <;> split <;> first | rfl | exact setRdy_frame (fun t => t.svc) (fun _ _ => rfl) (fun _ _ => rfl) (fun _ _ => rfl) t x.2 true) s
@[simp] theorem State.settle_out : s.settle.out = s.out :=
  settle_frame (fun t => t.out) (fun t x => by unfold State.settleBit; split <;> split <;> first | rfl | exact setRdy_frame (fun t => t.out) (fun _ _ => rfl) (fun _ _ => rfl) (fun _ _ => rfl) t x.2 true) s
@[simp] theorem State.settle_freeCount : s.settle.freeCount = s.freeCount :=
  settle_frame (fun t => t.freeCount) (fun t x => by unfold State.settleBit; split <;> split <;> first | rfl | exact setRdy_frame (fun t => t.freeCount) (fun _ _ => rfl) (fun _ _ => rfl) (fun _ _ => rfl) t x.2 true) s

/-! Registers -/

theorem State.reg_summaryRose {k : Nat} (h : k ≠ fldKey rdyPage HDR.ISTAT 0) : s.summaryRose.reg k = s.reg k := by
  have hist : ∀ t : State, (t.istat rdyPage 9).reg k = t.reg k := fun t => State.reg_setFld_ne t _ h
  unfold State.summaryRose
  dsimp only
  split
  · exact hist s
  · unfold State.event
    split <;> exact hist s

theorem State.reg_setRdy {f : Fld} {b : Bool} {k : Nat} (h : k ≠ fldKey rdyPage HDR.ISTAT 0) (hf : k ≠ fldKey rdyPage f 0) :
    (s.setRdy f b).reg k = s.reg k := by
  unfold State.setRdy
  dsimp only
  split
  · rfl
  · have e : ∀ t : State, ((t.setFlag rdyPage f b).istat rdyPage 8).reg k = t.reg k := fun t =>
      (State.reg_setFld_ne _ _ h).trans (State.reg_setFld_ne t _ hf)
    split
    · rw [State.reg_summaryRose _ h, e]; rfl
    · rw [e]; rfl

theorem State.reg_settleBit {x : Nat × Fld} {k : Nat} (h : k ≠ fldKey rdyPage HDR.ISTAT 0) (hf : k ≠ fldKey rdyPage x.2 0) :
    (s.settleBit x).reg k = s.reg k := by
  unfold State.settleBit
  split
  · split
    · exact State.reg_setRdy s h hf
    · rfl
  · split
    · exact (State.reg_setFld_ne (s.setFlag rdyPage x.2 false) _ h).trans (State.reg_setFld_ne s _ hf)
    · rfl

/-- Settling changes no register but RDY_SYS and PG_ISTAT of RDY. -/
theorem State.settle_reg {k : Nat} (h : k ∉ settleKeys) : s.settle.reg k = s.reg k := by
  have h0 : k ≠ fldKey rdyPage HDR.ISTAT 0 := fun e => h (by simp [settleKeys, e])
  have hx : ∀ x ∈ rdyOwners, k ≠ fldKey rdyPage x.2 0 := fun x hx e => h (by
    simp only [settleKeys, List.mem_cons, List.mem_map]
    exact Or.inr ⟨x, hx, e.symm⟩)
  unfold State.settle
  generalize rdyOwners = xs at hx
  induction xs generalizing s with
  | nil => rfl
  | cons x xs ih =>
    simp only [List.foldl_cons]
    rw [ih _ fun y hy => hx y (by simp [hy])]
    exact State.reg_settleBit s h0 (hx x (by simp))

theorem State.settle_fld {p : Nat} {g : Fld} {j : Nat} (h : fldKey p g j ∉ settleKeys) : s.settle.fld p g j = s.fld p g j :=
  State.settle_reg s h

theorem State.settle_flag {p : Nat} {g : Fld} {j : Nat} (h : fldKey p g j ∉ settleKeys) : s.settle.flag p g j = s.flag p g j := by
  simp only [State.flag, State.settle_fld s h]

/-! Settled states -/

/-- A state whose bits agree is not changed. -/
theorem State.settle_of_quiet (h : s.Quiet) : s.settle = s := by
  have e : ∀ x ∈ rdyOwners, s.settleBit x = s := by
    intro x hx
    have := h.agree x hx
    unfold State.settleBit
    split
    · rename_i hr
      simp only [hr, if_true] at this
      simp [this]
    · rename_i hr
      have h0 : s.flag rdyPage x.2 = false := by simpa [hr] using this
      simp [h0]
  unfold State.settle
  generalize rdyOwners = xs at e
  induction xs with
  | nil => rfl
  | cons x xs ih =>
    simp only [List.foldl_cons, e x (by simp)]
    exact ih fun y hy => e y (by simp [hy])

/-! Every settled state is quiet -/

/-- One bit agrees with its page. -/
structure State.QuietBit (s : State) (x : Nat × Fld) : Prop where
  agree : if s.ready x.1 = true then x.2.lsb ∉ s.arb.cut else s.flag rdyPage x.2 = false

theorem State.setRdy_cut (f : Fld) (b : Bool) : (s.setRdy f b).arb.cut = s.arb.cut.filter fun n => decide (n ≠ f.lsb) := by
  have hrose : ∀ t : State, t.summaryRose.arb.cut = t.arb.cut := by
    intro t
    unfold State.summaryRose
    dsimp only
    split
    · rfl
    · unfold State.event; split <;> rfl
  unfold State.setRdy
  dsimp only
  split
  · rfl
  · split
    · rw [hrose]; rfl
    · rfl

/-- The keys of the owners' READY bits and of the RDY_SYS bits are apart. -/
theorem rdyOwners_keys : ∀ x ∈ rdyOwners, ∀ y ∈ rdyOwners,
    fldKey x.1 HDR.READY 0 ≠ fldKey rdyPage HDR.ISTAT 0 ∧ fldKey x.1 HDR.READY 0 ≠ fldKey rdyPage y.2 0 ∧
      fldKey rdyPage x.2 0 ≠ fldKey rdyPage HDR.ISTAT 0 ∧ 0 < x.2.width := by
  decide +kernel

theorem rdyOwners_apart : rdyOwners.Pairwise fun x y => x.2.lsb ≠ y.2.lsb ∧ fldKey rdyPage x.2 0 ≠ fldKey rdyPage y.2 0 := by
  decide +kernel

theorem State.settleBit_makes {x : Nat × Fld} (hx : x ∈ rdyOwners) : (s.settleBit x).QuietBit x := by
  obtain ⟨k1, k2, k3, k4⟩ := rdyOwners_keys x hx x hx
  have hready : (s.settleBit x).ready x.1 = s.ready x.1 := by
    have e : (s.settleBit x).fld x.1 HDR.READY 0 = s.fld x.1 HDR.READY 0 := State.reg_settleBit s k1 k2
    simp only [State.ready, State.flag, e]
  constructor
  rw [hready]
  by_cases hr : s.ready x.1 = true
  · simp only [hr, if_true]
    unfold State.settleBit
    simp only [hr, if_true]
    split
    · rw [State.setRdy_cut]; simp
    · rename_i hc; simpa using hc
  · simp only [hr, if_false, Bool.false_eq_true]
    unfold State.settleBit
    simp only [hr, if_false, Bool.false_eq_true]
    split
    · have e : ∀ t : State, (t.istat rdyPage 8).flag rdyPage x.2 = t.flag rdyPage x.2 := fun t => State.flag_setFld_ne t _ k3
      rw [State.setCut_flag, e]
      exact State.flag_setFlag_self s k4
    · rename_i hf; simpa using hf

theorem State.settleBit_keeps {x y : Nat × Fld} (hx : x ∈ rdyOwners) (hy : y ∈ rdyOwners) (hl : x.2.lsb ≠ y.2.lsb)
    (hk : fldKey rdyPage x.2 0 ≠ fldKey rdyPage y.2 0) (h : s.QuietBit x) : (s.settleBit y).QuietBit x := by
  obtain ⟨k1, k2, k3, _⟩ := rdyOwners_keys x hx y hy
  have hready : (s.settleBit y).ready x.1 = s.ready x.1 := by
    have e : (s.settleBit y).fld x.1 HDR.READY 0 = s.fld x.1 HDR.READY 0 := State.reg_settleBit s k1 k2
    simp only [State.ready, State.flag, e]
  have hflag : (s.settleBit y).flag rdyPage x.2 = s.flag rdyPage x.2 := by
    have e : (s.settleBit y).fld rdyPage x.2 0 = s.fld rdyPage x.2 0 := State.reg_settleBit s k3 hk
    simp only [State.flag, e]
  replace h := h.agree
  constructor
  rw [hready, hflag]
  by_cases hr : s.ready x.1 = true
  · simp only [hr, if_true] at h ⊢
    unfold State.settleBit
    split
    · split
      · rw [State.setRdy_cut]; simp [h]
      · exact h
    · split
      · simp [State.setCut, hl, h]
      · exact h
  · simpa [hr] using h

/-- Settling a list of bits, in order, leaves each of them in agreement. -/
theorem settle_all (os : List (Nat × Fld)) (hos : ∀ x ∈ os, x ∈ rdyOwners) :
    ∀ (xs ys : List (Nat × Fld)) (t : State), ys ++ xs = os →
      (ys ++ xs).Pairwise (fun x y => x.2.lsb ≠ y.2.lsb ∧ fldKey rdyPage x.2 0 ≠ fldKey rdyPage y.2 0) →
      (∀ x ∈ ys, t.QuietBit x) → ∀ x ∈ os, (xs.foldl State.settleBit t).QuietBit x := by
  intro xs
  induction xs with
  | nil => intro ys t e _ h x hx; exact h x (by rw [← e] at hx; simpa using hx)
  | cons y xs ih =>
    intro ys t e hp h x hx
    have e' : ys ++ y :: xs = (ys ++ [y]) ++ xs := by simp
    simp only [List.foldl_cons]
    refine ih (ys ++ [y]) _ (e' ▸ e) (e' ▸ hp) ?_ x hx
    intro z hz
    have hy : y ∈ rdyOwners := hos y (by rw [← e]; simp)
    rcases List.mem_append.1 hz with hz | hz
    · have hd := (List.pairwise_append.1 hp).2.2 z hz y (by simp)
      exact State.settleBit_keeps t (hos z (by rw [← e]; simp [hz])) hy hd.1 hd.2 (h z hz)
    · have : z = y := by simpa using hz
      subst this
      exact State.settleBit_makes t hy

theorem settle_list (os : List (Nat × Fld)) (hos : ∀ x ∈ os, x ∈ rdyOwners)
    (hp : os.Pairwise fun x y => x.2.lsb ≠ y.2.lsb ∧ fldKey rdyPage x.2 0 ≠ fldKey rdyPage y.2 0) (t : State) :
    ∀ x ∈ os, (os.foldl State.settleBit t).QuietBit x :=
  settle_all os hos os [] t (List.nil_append _) (by rw [List.nil_append]; exact hp) fun _ hx => absurd hx List.not_mem_nil

theorem State.quiet_of_bits (h : ∀ x ∈ rdyOwners, s.QuietBit x) : s.Quiet := ⟨fun x hx => (h x hx).agree⟩

theorem mem_self (os : List (Nat × Fld)) : ∀ x ∈ os, x ∈ os := fun _ h => h

theorem settleBits_quiet : ∀ x ∈ rdyOwners, (rdyOwners.foldl State.settleBit s).QuietBit x :=
  settle_list rdyOwners (mem_self rdyOwners) rdyOwners_apart s

/-- Every settled state satisfies R65. -/
theorem State.settle_quiet : s.settle.Quiet := by
  refine State.quiet_of_bits _ ?_
  unfold State.settle
  exact settleBits_quiet s

end Sys2Proof.Machine
end

