-- ==== Sys2Proof/Laws/Writes.lean ====
section
/-!
SUPPORT. A write of one register that passes its checks: what it does is the write of its fields, then what
its page sets going, then the answer (R58-R61, R636).
-/
namespace Sys2Proof.Machine

variable {s : State}

theorem State.finishWrite_passes {path : Path} {a v : Nat} {p : PageRef} (hf : s.Passes path a v) (hp : pageAt a = some p)
    (hw : (fieldsAt a).isEmpty = false) (ho : 0x40 ≤ a - p.base ∨ p.kind.hasHeader = false)
    (ht : ¬(0x240000 ≤ a ∧ a < 0x261000)) (hr : a ≠ chipPage + 0x70) (w : HeldWrite) (hwp : w.path = path) (hws : w.pairs = [(a, v)]) :
    s.finishWrite w =
      ((s.put path a v).wrote path p (a - p.base) v (s.hits path a v) s).answerWrite w none := by
  subst hwp
  have h0 : (p.kind.hasHeader && decide (a - p.base < 0x40)) = false := by
    rcases ho with ho | ho
    · simp [Nat.not_lt.2 ho]
    · simp [ho]
  have hword : s.writeWord w.path a v = (s.put w.path a v).wrote w.path p (a - p.base) v (s.hits w.path a v) s := by
    unfold State.writeWord State.put State.hits
    simp only [hp, hw, h0, Bool.false_and, Bool.false_eq_true, if_false]
  have htry : s.tryWrite w.path [(a, v)] =
      (none, (s.put w.path a v).wrote w.path p (a - p.base) v (s.hits w.path a v) s) := by
    unfold State.tryWrite State.firstFault
    rw [hf.allowed]
    simp only [State.firstFault, State.writeWords, hr, false_and, if_false, hword, State.pulsesWritten, List.map_cons, List.map_nil,
      List.filter_cons, ht, decide_false, Bool.false_eq_true, List.filter_nil, State.forEach]
    rfl
  unfold State.finishWrite
  rw [hws, htry]
  simp [Ne.symm hr]

/-- A command that writes one register and passes. -/
theorem State.regSet_passes {path : Path} {a v : Nat} {p : PageRef} (hf : s.Passes path a v) (hp : pageAt a = some p)
    (hw : (fieldsAt a).isEmpty = false) (ho : 0x40 ≤ a - p.base ∨ p.kind.hasHeader = false)
    (ht : ¬(0x240000 ≤ a ∧ a < 0x261000)) (hr : a ≠ chipPage + 0x70) :
    s.regSet path a v = answered path a ((s.put path a v).wrote path p (a - p.base) v (s.hits path a v) s) := by
  unfold State.regSet State.regWrite
  simp only [hf.live, hf.still, hf.alone, Bool.not_true, Bool.false_eq_true, if_false, Option.isSome_none, Bool.or_false]
  rw [State.finishWrite_passes hf hp hw ho ht hr _ rfl rfl]
  rfl

/-- A word of write-only and read-only fields leaves its page as it was. -/
theorem State.put_of_plain {path : Path} {a v : Nat} {p : PageRef} (hp : pageAt a = some p)
    (h : ((fieldsAt a).all fun x => decide (effAcc p x = .wo) || decide (effAcc p x = .ro) || decide (effAcc p x = .rc)) = true) :
    s.put path a v = s := by
  have hacc : ∀ x ∈ s.touched path a v, effAcc p x ≠ .rw ∧ effAcc p x ≠ .rwl ∧ effAcc p x ≠ .w1c := by
    intro x hx
    have hm : x ∈ fieldsAt a := by
      unfold State.touched at hx
      rw [hp] at hx
      exact (List.mem_filter.1 hx).1
    have := List.all_eq_true.1 h x hm
    simp only [Bool.or_eq_true, decide_eq_true_eq] at this
    rcases this with (this | this) | this <;> simp [this]
  have hput : ∀ (u : State) x, x ∈ s.touched path a v → u.putFld p v x = u := by
    intro u x hx
    obtain ⟨h1, h2, h3⟩ := hacc x hx
    unfold State.putFld
    split <;> simp_all
  have hfold : ∀ (xs : List FldAt), (∀ x ∈ xs, ∀ u : State, u.putFld p v x = u) → ∀ u : State, (xs.foldl (fun u x => u.putFld p v x) u) = u := by
    intro xs
    induction xs with
    | nil => intro _ u; rfl
    | cons x xs ih =>
      intro hx u
      simp only [List.foldl_cons, hx x (by simp) u]
      exact ih (fun y hy => hx y (by simp [hy])) u
  have hch : s.changesPage p v (s.touched path a v) = false := by
    unfold State.changesPage
    simp only [Bool.and_eq_false_iff, List.any_eq_false]
    right
    intro x hx
    obtain ⟨h1, h2, _⟩ := hacc x hx
    simp [h1, h2]
  unfold State.put
  rw [hp]
  simp only [hch, State.forEach, Bool.false_eq_true, if_false]
  exact hfold _ (fun x hx u => hput u x hx) s

end Sys2Proof.Machine
end

