-- ==== Sys2Proof/Laws/Host.lean ====
section
/-!
SUPPORT. Host commands that have been taken and for which nothing has been done yet.
-/
namespace Sys2Proof.Machine

variable {s : State}

/-- An admin command that has been taken is carried out. -/
theorem State.admin_fresh {c cid : Nat} {f : State → State} (h : s.freshAdmin c cid = true) : s.admin c cid f = f s := by
  unfold State.freshAdmin at h
  unfold State.admin
  split at h
  next x k hx hk =>
    simp only [Bool.and_eq_true, decide_eq_true_eq, Option.isSome_iff_ne_none] at h
    simp [hx, hk, h.1.1, h.1.2, h.2]
  next => cases h

/-- One that needs a right the host has is carried out. -/
theorem State.adminWith_fresh {c cid right : Nat} {f : State → State} (h : s.freshAdmin c cid = true) (hr : s.hasRight c right = true) :
    s.adminWith c cid right f = f s := by
  unfold State.adminWith
  rw [State.admin_fresh h]
  simp [hr]

/-- An I/O command that has been taken is carried out. -/
theorem State.ioCmd_fresh {c cid ns : Nat} {cmd : IoCmd} (h : s.FreshIo c cid) : s.ioCmd c cid ns cmd = s.ioRun c cid ns cmd := by
  obtain ⟨⟨x, hx, hw⟩, ⟨q, hq, hz⟩, hp⟩ := h
  unfold State.ioCmd
  simp [hx, hq, hw, hz, hp]

end Sys2Proof.Machine
end

