-- ==== Sys2Proof/Laws/Stebaro.lean ====
section
/-!
SUPPORT. A request that is none answered or waiting, and a write of several words that passes its checks.
-/
namespace Sys2Proof.Machine

variable {s : State}

/-- What a request with no fault does: what its operation does, once it is counted. -/
theorem State.sbRequest_new {sid : SessionIx} {h : SbHeader} {words : Nat} {run : State → State}
    (hn : s.NewRequest sid h words) : s.sbRequest sid h words run = run (s.sbHeard sid) := by
  obtain ⟨h1, h2, h3, h4, h5⟩ := hn
  obtain ⟨x0, hs⟩ := Option.isSome_iff_exists.1 h2
  have hw : ((s.sbTouch sid.val).count stebaroPage STEBARO.SB_RX_CNT).arb.waiting.any (fun w => decide (pathKey w.path = 2 + sid.val) && decide (w.for' = .steb h)) = false := by
    simpa using h4
  have h5' : ((s.sbTouch sid.val).count stebaroPage STEBARO.SB_RX_CNT).requestFault sid.val h words = none := h5
  unfold State.sbRequest
  simp only [h1, hs, ne_eq, not_true_eq_false, if_false]
  cases ht : (s.sbTouch sid.val).session sid.val with
  | none => simp only [List.find?_nil, hw, h5', Bool.false_eq_true, if_false]; rfl
  | some x =>
    have hk : x.kept.find? (fun k => decide (k.req = h)) = none := by simpa [List.find?_eq_none] using h3 x ht
    simp only [hk, hw, h5', Bool.false_eq_true, if_false]
    rfl

/-- What a write of several words that pass does: each word is written, and the write is answered. -/
theorem State.regWrite_passes {path : Path} {ws : List (Nat × Nat)} {f : WriteFor} (h : s.PassesAll path ws)
    (hn : (chipPage + 0x70, 0x5A5A) ∉ ws) :
    s.regWrite path ws f = ((s.writeWords path ws).pulsesWritten (ws.map Prod.fst)).answerWrite
      { path := path, pairs := ws, arrival := s.now, for' := f } none := by
  obtain ⟨h1, h2, h3, h4⟩ := h
  unfold State.regWrite
  simp only [h1, h2, h3, Bool.not_true, Bool.false_eq_true, if_false, Option.isSome_none, Bool.or_false]
  unfold State.finishWrite State.tryWrite
  simp only [h4, Option.isNone_none, Bool.true_and]
  rw [if_neg (by simpa using hn)]

end Sys2Proof.Machine
end

