-- ==== Sys2Proof/Laws/Twin.lean ====
section
/-!
SUPPORT. A message of the twin that is the next of its class.
-/
namespace Sys2Proof.Machine

variable {s : State}

/-- What a frame that is taken does: what its message does, once it is heard. -/
theorem State.tMsg_hears {h : THdr} {cls : Nat} {f : State → State} (hh : s.Hears h cls) : s.tMsg h cls f = f (s.twinHeard h cls) := by
  obtain ⟨h1, h2, h3, h4⟩ := hh
  have hk : s.tw.hello.isNone = false := by cases hs : s.tw.hello <;> simp_all
  have hp : State.paired (((s.tTaken h).setFlag twPage TW.TW_STAT_T_ALIVE true).setTw
      { ((s.tTaken h).setFlag twPage TW.TW_STAT_T_ALIVE true).tw with
        lastSign := ((s.tTaken h).setFlag twPage TW.TW_STAT_T_ALIVE true).now
        lastFrame := ((s.tTaken h).setFlag twPage TW.TW_STAT_T_ALIVE true).now }) =
      s.paired := by
    have : ∀ u : State, u.twState = s.twState → u.paired = s.paired := by intro u hu; simp [State.paired, hu]
    apply this
    have hne : fldKey twPage TW.TW_STAT_STATE 0 ≠ fldKey twPage TW.TW_STAT_T_ALIVE 0 := by decide
    exact State.fld_setFld_ne (s := s.tTaken h) (boolNat true) hne
  have hm : ∀ u : State, u.tw.msnRx = s.tw.msnRx → u.msnSeen cls = s.msnSeen cls := by intro u hu; simp [State.msnSeen, hu]
  unfold State.tMsg
  simp only [hk, Bool.false_eq_true, if_false, h2, Bool.not_true]
  rw [hp, h3]
  simp only [Bool.not_true, Bool.false_eq_true, if_false]
  rcases h4 with h4 | h4
  · subst h4; simp [State.twinHeard]
  · by_cases hc : cls = clsNone
    · subst hc; simp [State.twinHeard]
    · rw [if_neg hc, if_pos (by rw [h4]; congr 1)]
      simp [State.twinHeard, hc]

end Sys2Proof.Machine
end

