-- ==== Sys2Proof/Tests/Slice0.lean ====
section
/-!
SUPPORT. Tests: an ill-formed command for each check of Instr.wf, a few single steps, and for each statement of
Obligations.lean that has hypotheses a witness (test_witness_…): states and operands that meet them, clause by clause.
-/
namespace Sys2Proof.Tests
open Sys2Proof Sys2Proof.Machine

-- One theorem at a time: many evaluations at once need too many threads.
set_option Elab.async false

/-- What a servo frame shows when nothing is late. -/
def servoObs0 : ServoObs := { delayFo := 0, delayTr := 0, delayTl := 0, goodSlope := true, quality := 0 }

/-! Well-formedness refuses what no message can carry -/

theorem test_wf_registerWrite : (Instr.registerWrite .mc (2 ^ 24) ⟨0, 0⟩).wf = false := by decide
theorem test_wf_registerRead : (Instr.rcRegisterRead .mc (2 ^ 24) []).wf = false := by decide
theorem test_wf_upstreamFrame_length : (Instr.upstreamFrame 0 0 ⟨⟨List.replicate 33 ⟨1, 0⟩⟩, servoObs0⟩).wf = false := by decide
theorem test_wf_upstreamFrame_accepts : (Instr.upstreamFrame 0 0 ⟨⟨List.replicate 34 ⟨1, 0⟩⟩, servoObs0⟩).wf = true := by decide
theorem test_wf_fireMon : (Instr.fireMon 0 0 0 [1, 2, 3]).wf = false := by decide
theorem test_wf_tableWindow : (Instr.tableWindowWrite .mc (2 ^ 24) 0).wf = false := by decide
theorem test_wf_ceMemory : (Instr.ceMemoryWrite .mc (2 ^ 24) 0).wf = false := by decide
theorem test_wf_capsule_cid : (Instr.capsuleCmd 0 (2 ^ 16) [] .good).wf = false := by decide
theorem test_wf_identify_nsid : (Instr.nvmeIdentify 0 0 0 (2 ^ 32)).wf = false := by decide
theorem test_wf_read_slba : (Instr.readCommand 0 0 1 (2 ^ 64) 1).wf = false := by decide
theorem test_wf_read_length : (Instr.readCommand 0 0 1 0 (2 ^ 16)).wf = false := by decide
theorem test_wf_write_length : (Instr.writeCommand 0 0 1 0 (2 ^ 16) false).wf = false := by decide
theorem test_wf_append_nsid : (Instr.zoneAppend 0 0 (2 ^ 32) 0 1 false).wf = false := by decide
theorem test_wf_featureC0_addr : (Instr.setFeaturesC0 0 0 (2 ^ 24) 0).wf = false := by decide
theorem test_wf_stageMsg_nsid (h : THdr) : (Instr.stageMsg h (2 ^ 32) 0 0 []).wf = false := by simp [Instr.wf]
theorem test_wf_accepts : (Instr.readCommand 0 0xFFFF 1 0 0xFFFF).wf = true := by decide

/-! Building states -/

/-- A state with some register fields set: page, field, index, value. -/
def withFlds (s : State) (xs : List (Nat × Fld × Nat × Nat)) : State := xs.foldl (fun u x => u.setFld x.1 x.2.1 x.2.2.2 x.2.2.1) s

/-- Passes as a test. -/
def passesB (s : State) (path : Path) (a v : Nat) : Bool :=
  s.pathLive path && (s.transferring [(a, v)]).isNone && !behind [(a, v)] s.arb.waiting && (s.checkWrite path a v).isNone

theorem passes_of (s : State) (path : Path) (a v : Nat) (h : passesB s path a v = true) : s.Passes path a v := by
  simp only [passesB, Bool.and_eq_true, Option.isNone_iff_eq_none, Bool.not_eq_true'] at h
  exact ⟨h.1.1.1, h.1.1.2, h.1.2, h.2⟩

/-- PassesAll as a test. -/
def passesAllB (s : State) (path : Path) (ws : List (Nat × Nat)) : Bool :=
  s.pathLive path && (s.transferring ws).isNone && !behind ws s.arb.waiting && (s.firstFault path 0 ws).isNone

theorem passesAll_of (s : State) (path : Path) (ws : List (Nat × Nat)) (h : passesAllB s path ws = true) : s.PassesAll path ws := by
  simp only [passesAllB, Bool.and_eq_true, Option.isNone_iff_eq_none, Bool.not_eq_true'] at h
  exact ⟨h.1.1.1, h.1.1.2, h.1.2, h.2⟩

/-! Witnesses of the register statements -/

/-- Head 31 obeys this side and is referenced, and the control engine works. -/
def seqState0 : State := withFlds State.reset [(headPage 31, HEAD.LINK_STAT_COMP_OWNER, 0, 1), (axisBlock 31, AXIS.AX_STAT_REFD, 0, 1)]

theorem test_witness_SequencerCommands :
    let a := ctrlengPage + 0x60
    let s := seqState0
    ((s.seq 31).op = 0 ∧ s.accepts ctrlengPage = true ∧ s.headObeys 31 = true ∧ s.flag (axisBlock 31) AXIS.AX_STAT_REFD = true) ∧
    ([s.prepareJump 31 1 (9 + (bandsPerLayer - 1) * 2 ^ 4), s.prepareJump 31 2 0].all fun t =>
      decide ((t.seq 31).op = 0) && t.accepts ctrlengPage && t.headObeys 31) = true ∧
    ((BitVec.ofInt 20 (-32)).toInt.natAbs ≤ s.cfgIn ctrlengPage CTRLENG.JUMP_CFG_BJ_MAX 1 63 ∧ bandsPerLayer - 1 < 16384) ∧
    ([seqWordOf 31 1 (9 + (bandsPerLayer - 1) * 2 ^ 4), seqWordOf 31 2 (0 + 0 * 2 ^ 4), seqWordOf 31 3 (BitVec.ofInt 20 (-32)).toNat,
      seqWordOf 31 4 (bandsPerLayer - 1), seqWordOf 31 5 (3 + 255 * 2 ^ 4), seqWordOf 31 5 (1 + 0 * 2 ^ 4), seqWordOf 31 6 0, seqWordOf 31 7 0,
      seqWordOf 31 8 0, seqWordOf 31 9 0, seqWordOf 31 10 0].all fun v => passesB s .mc a v) = true ∧
    ([seqWordOf 31 0 0, seqWordOf 63 15 0xFFFFF, seqWordOf 0 11 0].all fun v => s.checkWrite .mc a v = some 8 ∧
      (s.transferring [(a, v)]).isNone = true ∧ behind [(a, v)] s.arb.waiting = false) = true := by decide +kernel

/-! Witnesses of the statements over the whole machine -/

theorem test_witness_StepRunsTheFrontCommand :
    ({ State.reset with pending := [.mirrorRetry] } : State).pending = Instr.mirrorRetry :: [] ∧ State.reset.pending = [] := ⟨rfl, rfl⟩

theorem test_witness_ResetLeavesStatedValues :
    (pageAt (pageBase .chip)).isSome = true ∧ (pageAt (pageBase .obsq)).isSome = true ∧ (pageAt (pageBase (.head 32))).isSome = true ∧
    (pageAt (pageBase (.wheel 8))).isSome = true ∧ (pageAt (pageBase (.region 8))).isSome = true := by decide +kernel

theorem test_witness_EveryStepSettlesReadiness : ∃ t, step State.reset = .next t := ⟨_, rfl⟩

theorem test_witness_WellFormedCommandsRun :
    (Instr.fireMon 32 255 1 (List.replicate 8 0xFFFF)).wf = true ∧ (Instr.coneRead 0 9 ()).wf = true := by decide

/-- An observer in session 15 and an operator in session 0; CHIP is locked by custodian and by trust, STRIPE belongs to the twin. -/
def guarded : State :=
  let x (r : Role) : Session := { port := 0, role := r, cert := [], sub := none, kept := [], lastDatagram := 0 }
  let s := (State.reset.setSession 15 (some (x .observer))).setSession 0 (some (x .operator))
  withFlds s [(chipPage, HDR.LOCK, 0, 1), (chipPage, CHIP.TRUST_LOCKED, 0, 1), (stripePage, HDR.OWN_TWIN, 0, 1)]

/-- The premises of RefusedWritesChangeNothing that all its clauses share. -/
def goesToCheck (s : State) (path : Path) (a v : Nat) : Bool :=
  s.pathLive path && (s.transferring [(a, v)]).isNone && !behind [(a, v)] s.arb.waiting

theorem test_witness_RefusedWritesChangeNothing_noPage :
    ([2, 2 ^ 24, 0xFFFFFC].all fun a => goesToCheck guarded .mc a 0 &&
      (decide (a % 4 ≠ 0) || decide (2 ^ 24 ≤ a) || !assigned a)) = true ∧
    ([0, 0x1FFFFC].all fun a => decide (a % 4 = 0 ∧ a < 2 ^ 24) && assigned a) = true := by decide +kernel

theorem test_witness_RefusedWritesChangeNothing_noRole :
    goesToCheck guarded (.steb 15) (chipPage + 0x14) 1 = true ∧ guarded.roleOf (.steb 15) = some .observer ∧
    goesToCheck guarded (.steb 0) (erPage + 0x28) 1 = true ∧ guarded.roleOf (.steb 0) = some .operator ∧
    ((guarded.touched (.steb 0) (erPage + 0x28) 1).any fun x => !operatorMay { kind := .er, idx := 0, base := erPage } 1 x) = true := by
  decide +kernel

theorem test_witness_RefusedWritesChangeNothing_locked :
    goesToCheck guarded .host (chipPage + 0x0C) 0 = true ∧ guarded.flag chipPage HDR.LOCK = true ∧
    guarded.roleOf .host ≠ some .custodian ∧ guarded.touched .host (chipPage + 0x0C) 0 ≠ [] ∧ isWindow (chipPage + 0x0C) = false ∧
    ((guarded.touched .host (chipPage + 0x0C) 0).all fun x => operatorMay { kind := .chip, idx := 0, base := chipPage } 0 x) = true := by
  decide +kernel

theorem test_witness_RefusedWritesChangeNothing_trust :
    goesToCheck guarded .mc (regionPage 8 + 0x48) 0 = true ∧ guarded.trustLocked = true ∧ guarded.roleOf .mc = some .custodian ∧
    ((guarded.touched .mc (regionPage 8 + 0x48) 0).any fun x => decide (effAcc { kind := .region, idx := 8, base := regionPage 8 } x = .rwl)) = true := by
  decide +kernel

theorem test_witness_RefusedWritesChangeNothing_twin :
    goesToCheck guarded .mc (stripePage + 0x0C) 0 = true ∧ guarded.flag stripePage HDR.OWN_TWIN = true ∧
    guarded.touched .mc (stripePage + 0x0C) 0 ≠ [] ∧ guarded.flag stripePage HDR.LOCK = false := by decide +kernel

theorem test_witness_HeaderWritesChangeTheirFieldAlone :
    ([chipPage, rdyPage, obsqPage, headPage 32, regionPage 8].all fun b => [0x14, 0x28, 0x10].all fun o => [0, 0xFFFFFFFF].all fun v =>
      passesB State.reset .mc (b + o) v && (pageAt b).any fun p => bitOf (istatBits p.kind) 0 && bitOf (istatBits p.kind) 6) = true := by decide +kernel

theorem test_witness_ObserversWriteNothing :
    guarded.roleOf (.steb 15) = some .observer ∧
    (∃ t, exec (.registerWrite (.steb 15) chipPage ⟨1, 0xFFFFFFFF⟩) guarded = .next t) ∧
    (∃ t, exec (.sbWrite 15 { version := 1, opcode := 2, tag := 0, count := 1, address := 0, status := 0, flags := 0 } [(0, 1)]) guarded = .next t) ∧
    (∃ t, exec (.writeBlock 15 { version := 1, opcode := 4, tag := 0, count := 1, address := 0, status := 0, flags := 0 } [1]) guarded = .next t) :=
  ⟨by decide +kernel, ⟨_, rfl⟩, ⟨_, rfl⟩, ⟨_, rfl⟩⟩

/-- A kept response of session 0 at its last nanosecond, 64 kept in all. -/
def keeping : State :=
  let hdr (t : Nat) : SbHeader := { version := 1, opcode := 1 + t % 6, tag := t, count := 1, address := 0, status := 0, flags := 0 }
  let k (t : Nat) : Kept := { req := hdr t, resp := hdr t, payload := [], time := 0 }
  { State.reset with now := 1000000000 }.setSession 0
    (some { port := 0, role := .custodian, cert := [], sub := none, kept := (List.range 64).map k, lastDatagram := 0 })

theorem test_witness_RepeatsAreNotExecutedAgain :
    keeping.svc.held = .no ∧ ((keeping.session 0).any fun x => decide (x.kept.length = 64) && (x.kept.all fun k =>
      decide (keeping.now ≤ k.time + 1000000000) && x.kept.all fun j => decide (j.req ≠ k.req) || decide (j = k)) &&
      [1, 2, 3, 4, 5, 6].all fun op => x.kept.any fun k => decide (k.req.opcode = op)) = true := by decide +kernel

theorem test_witness_PendingUpdateIsTheNewest :
    let s : State := { State.reset with arb := { State.reset.arb with ctl :=
      [(xingKey ⟨60, 0, 4095⟩, { cur := 0, flight := none, update := none, recv := 0, stale := false, resync := false, used := false })] } }
    (s.ctl (xingKey ⟨60, 0, 4095⟩)).resync = false ∧ (s.ctl (xingKey ⟨60, 0, 4095⟩)).flight = none := by decide +kernel

/-- Queue 63 is enabled, holds an item, waits for its flush, and one more item is on its way. -/
def flushing : State :=
  let i (n : Nat) : OqItem := { ty := 2, queue := 63, qseq := n, time := 0, gap := none, body := [1, 2], pos := none }
  let s := State.reset.setFlag obsqPage OBSQ.Q_CFG_ENABLE true 63
  { s with oq := { s.oq with queues := [(63, { items := [i 4], nextQseq := 5, flush := true, dropRaised := false, wptr := 0 })],
                             waiting := [(63, i 0)] } }

theorem test_witness_FlushDiscardsCompleteItems :
    ([0, 63].all fun q => passesB State.reset .mc (obsqPage + 0x58) q) = true ∧
    (flushing.oqueue 63).flush = true ∧ flushing.oqInProgress 63 = false ∧
    flushing.oq.waiting.find? (fun x => x.1 == 63) ≠ none ∧ flushing.cfg obsqPage OBSQ.Q_CFG_ENABLE 63 ≠ 0 ∧
    flushing.itemFits { items := [], nextQseq := 5, flush := false, dropRaised := false, wptr := 0 } 18 = true ∧
    ({ flushing with oq := { flushing.oq with reading := [(0, some { queue := 63, words := [1] })] } } : State).oqInProgress 63 = true := by
  decide +kernel

def ev0 : Event := { code := 0x5202, sev := 1, level := 0, block := 0, cell := 0xFF, arg0 := 0, arg1 := 0, data := [], time := 7 }

theorem test_witness_IdenticalEventsFold :
    let r (m : Bool) : Record := { seq := 1, ev := { ev0 with time := 3 }, pwr := 0, rep := 0xFFFF, lastTime := 3, mirrored := m, loaded := false, repSat := false }
    ∀ m, let s := { State.reset with recd := { State.reset.recd with raised := [ev0], log := [r m], mirrorQ := [r false] } }
      s.recd.raised = ev0 :: [] ∧ s.recd.log = [] ++ [r m] ∧ { (r m).ev with time := ev0.time } = ev0 ∧ (r m).mirrored = m ∧
      ∃ y ∈ s.recd.mirrorQ, y.seq = (r m).seq := by
  intro r m; exact ⟨rfl, rfl, rfl, rfl, r false, by simp, rfl⟩

/-- A log that one record of severity 7 fills to the last unit. -/
theorem test_witness_DropsKeepTheLog (xs : List Nat) (hx : xs.length = 64 * 16384 - 40) :
    let r : Record := { seq := 1, ev := { ev0 with sev := 7, data := xs }, pwr := 0, rep := 0, lastTime := 3, mirrored := true, loaded := false,
                        repSat := false }
    let s : State := { State.reset with recd := { State.reset.recd with raised := [ev0], log := [r] } }
    s.recd.raised = ev0 :: [] ∧ (∀ x, s.recd.log.getLast? = some x → { x.ev with time := ev0.time } ≠ ev0) ∧
    (logUnits - unitsUsed s.recd.log) + unitsUsed (s.recd.log.filter fun x => decide (x.ev.sev ≤ ev0.sev) && !s.beingRead x) < ev0.units := by
  refine ⟨rfl, ?_, ?_⟩
  · intro x h
    cases h
    simp [ev0]
  · simp [logUnits, unitsUsed, Event.units, ev0, hx]

theorem test_witness_DropsKeepTheLog_exists : ∃ xs : List Nat, xs.length = 64 * 16384 - 40 := ⟨List.replicate _ 0, List.length_replicate⟩

theorem test_witness_BlockHeadersRoundTrip :
    let h : BlockHeader := headerOf (List.replicate 4096 0xFF)
    h.kind < 2 ^ 8 ∧ h.flags < 2 ^ 16 ∧ h.discId < 2 ^ 64 ∧ h.pba < 2 ^ 32 ∧ h.homePba < 2 ^ 32 ∧ h.loadId < 2 ^ 64 ∧ h.nsid < 2 ^ 32 ∧
    h.zone < 2 ^ 16 ∧ h.lane < 2 ^ 8 ∧ h.position < 2 ^ 8 ∧ h.stripe < 2 ^ 32 ∧ h.width < 2 ^ 8 ∧ h.member < 2 ^ 8 ∧
    h.generation < 2 ^ 32 ∧ h.nonce < 2 ^ 96 ∧ h.tag < 2 ^ 128 ∧ h.lbaFirst < 2 ^ 64 ∧ h.journalPtr.length = 16 ∧ h.metadata.length = 256 := by
  decide +kernel

theorem test_witness_DiscPlacesAreOneToOne :
    layersPerDisc - 1 < layersPerDisc ∧ settingsPerLayer - 1 < settingsPerLayer ∧ 5823 < 5824 ∧ 5824 < settingsPerLayer ∧ (3 : Nat) < 4 := by decide

theorem test_witness_CrossingAndLaneFrames :
    (∃ t, exec (.controlCapture ⟨0, 60, 0⟩) State.reset = .next t) ∧ (∃ t, exec (.dataItemWrite ⟨0, 1, 0⟩ 7) State.reset = .next t) ∧
    (∃ t, exec (.resyncEntry ⟨0, 1, 0⟩ .data ⟨true, false⟩) State.reset = .next t) ∧
    (∃ t, exec (.frameLockGained 32 10) State.reset = .next t) ∧ ∃ t, exec (.echoRsp 32 0 5 3) State.reset = .next t :=
  ⟨⟨_, rfl⟩, ⟨_, rfl⟩, ⟨_, rfl⟩, ⟨_, rfl⟩, ⟨_, rfl⟩⟩

theorem test_witness_RecorderQueueAndSessionFrames :
    (∃ t, exec .eventRaised { State.reset with recd := { State.reset.recd with raised := [ev0] } } = .next t) ∧
    (∃ t, exec .mirrorRetry State.reset = .next t) ∧ (∃ t, exec (.queueItemWrite 63) flushing = .next t) ∧
    (∃ t, exec (.telemetryPeriod 63) flushing = .next t) ∧ ∃ t, exec (.eventAck 15 0) guarded = .next t :=
  ⟨⟨_, rfl⟩, ⟨_, rfl⟩, ⟨_, rfl⟩, ⟨_, rfl⟩, ⟨_, rfl⟩⟩

theorem test_witness_TimeReadsLatchPerPath : guarded.pathLive .mc = true ∧ guarded.pathLive .host = true ∧ guarded.pathLive (.steb 15) = true := by
  decide +kernel

/-- Every register write of a list passes on the path of the management cores. -/
def allPass (s : State) (ws : List (Nat × Nat)) : Bool := ws.all fun w => passesB s .mc w.1 w.2

theorem test_witness_EngineRegisterCommands :
    let s := State.reset
    let c := ctrlengPage
    allPass s [(c + 0x68, 0), (c + 0x68 + 4 * 5, 0xFFFFFFFF), (c + 0xD4, 0), (c + 0xD4, 32 + 31 * 2 ^ 8), (c + 0x80, 0),
      (c + 0x80 + 4 * 5, 0), (c + 0xCC, 191 + 3 * 2 ^ 8 + 2 ^ 10), (0x100000, 7), (0x1FFFFC, 7), (0x200000, 7), (0x2FFFFC, 7),
      (firePage + 0x14, 0xFFFFFFFF), (firePage + 0x18, 1), (firePage + 0x18, 0), (firePage + 0x1C, 0xFFFFFFFF), (firePage + 0x20, 1)] = true ∧
    s.hits .mc (c + 0xCC) (191 + 3 * 2 ^ 8 + 2 ^ 10) CTRLENG.TRACE_CFG_START = true ∧
    passesB s .mc 0x200040 7 = true ∧ isWindow 0x200040 = true ∧ (fieldsAt 0x200040).isEmpty = true ∧ windowMask 0x200040 ≠ 0 := by
  decide +kernel

/-- Wheel 8 is this side's, and its state is n. -/
def wheelIn (n : Nat) : State :=
  let b := wheelPage 8
  withFlds State.reset ([(b, WHEEL.WH_STAT_OWN_OUT, 0, 1), (b, WHEEL.WH_STAT_STATE, 0, n), (b, WHEEL.WH_STAT_REST_OK, 0, 1),
    (b, WHEEL.WH_STAT_SHADOW_VALID, 0, 1)] ++ (wheelHeads 8).map fun h => (headPage h, HEAD.COMP_STAT, 0, 2 ^ 26))

theorem test_witness_WheelAndAxisRegisterCommands_wheel :
    let p := wheelPage 8
    allPass (wheelIn whRest) [(p + 0x4C, 0), (p + 0x4C, 9000), (p + 0x74, 1), (p + 0x74, 2), (p + 0x74, 5), (p + 0x74, 6)] = true ∧
    (wheelIn whRest).whOwns 8 = true ∧ (wheelIn whRest).flag p WHEEL.WH_STAT_REST_OK = true ∧ (wheelIn whRest).whState 8 = whRest ∧
    (wheelHeads 8).all (fun h => (wheelIn whRest).headParked h) = true ∧ (wheelIn whRest).flag p WHEEL.WH_STAT_SHADOW_VALID = true ∧
    passesB (wheelIn whFault) .mc (p + 0x74) 3 = true ∧ (wheelIn whFault).whState 8 = whFault ∧
    allPass (wheelIn whRunning) [(p + 0x74, 4), (p + 0x74, 7)] = true ∧ (wheelIn whRunning).whState 8 = whRunning ∧
    (wheelIn whRunning).whOwns 8 = true ∧ ((wheelIn whRunning).wheel 8).episode = false := by decide +kernel

/-- The loader's axes and sled 32 are this side's, homed and at rest; the targets are the soft limits. -/
def axesIn : State :=
  withFlds State.reset ([(loaderPage, LOADER.LD_STAT_OWN_OUT, 0, 1), (headPage 32, HEAD.LINK_STAT_COMP_OWNER, 0, 1),
    (wheelPage 8, WHEEL.WH_STAT_OWN_OUT, 0, 1)] ++
    ([32, axX, axZ, axP, axG, axElv].flatMap fun a => [(axisBlock a, AXIS.AX_STAT_STATE, 0, 1), (axisBlock a, AXIS.AX_STAT_HOMED, 0, 1),
      (axisBlock a, AXIS.SOFT_MAX, 0, 100)]))

theorem test_witness_WheelAndAxisRegisterCommands_axes :
    let s := axesIn
    let a := motionPage + 0x4C
    allPass s ([mvWordOf 1 1 32 0 0, mvWordOf 1 3 63 63 63, mvWordOf 2 1 32 0 0, mvWordOf 3 1 37 0 0, mvWordOf 4 1 0 0 0, mvWordOf 5 1 37 0 0].map
      fun v => (a, v)) = true ∧
    (s.axesApply [32]).moveCheck [32] [0] = 0 ∧
    ([32, 37].all fun x => let t := s.axesApply [x]
      t.axOwned x && !t.axMoving x && t.accepts motionPage && t.profileOk x &&
        (!isLoader x || t.homeInterlockOk x && !t.flag loaderPage LOADER.LD_STAT_G_HOLD)) = true ∧ (s.axOwned 32 ∧ s.axOwned 33 ∧ s.axOwned 37) ∧ s.axMoving 32 = false ∧ s.axMoving 37 = false ∧
    s.accepts motionPage = true ∧ s.profileOk 32 = true ∧ s.flag loaderPage LOADER.LD_STAT_G_HOLD = false ∧
    allPass s [(motionPage + 0x6C, 1), (kickPage + 0x44, 0), (kickPage + 0x44, 7)] = true ∧
    (let b := headPage 32 + 0x44
     let w := s.shownWord .mc b
     ([8, 14].all fun n =>
       let v := w - w / 2 ^ 4 % 16 * 2 ^ 4 + n * 2 ^ 4
       passesB s .mc b v && decide (v / 2 ^ 4 % 16 = n) && s.hits .mc b v HEAD.LINK_CTRL_FORCE_POS && !s.hits .mc b v HEAD.LINK_CTRL_RETRAIN) = true ∧
     passesB s .mc b (setBit w 0 true) = true ∧ s.hits .mc b (setBit w 0 true) HEAD.LINK_CTRL_RETRAIN = true ∧
     s.hits .mc b (setBit w 0 true) HEAD.LINK_CTRL_FORCE_POS = false) := by decide +kernel

theorem test_witness_StripeAndMemoryRegisterCommands :
    allPass State.reset ([(stripePage + 0x5C, 0 + 1 * 2 ^ 4), (stripePage + 0x5C, 7 + 2 * 2 ^ 4), (stripePage + 0x5C, 3 * 2 ^ 4), (setterPage + 0x78, 5),
      (setterPage + 0x78, 6), (ecctabPage + 0x60, 1)] ++ [1, 2, 3, 4].flatMap fun op =>
      [(setterPage + 0x78, maintWordOf op true 8191 15), (setterPage + 0x78, maintWordOf op false 0 0)]) = true := by decide +kernel

theorem test_witness_TrustAndTwinRegisterCommands :
    let s := withFlds State.reset [(tePage, TE.PIN_VALID, 0, 1), (chipPage, CHIP.ROLE, 0, 1)]
    let a := tePage + 0x58
    allPass s [(a, 0x4C4B), (a, 0x5356), (a, 0x4C56), (a, 0x4443), (mediacryptPage + 0x5C, 1), (twPage + 0x5C, 63 + 2 ^ 8), (twPage + 0x5C, 2 * 2 ^ 8),
      (hyPage + 0x58, 0), (hyPage + 0x58, 0xFFFFFFFF), (hyPage + 0x78, 0xFFFFFFFF), (stPage + 0x4C, 0), (stPage + 0x4C, 15 + 4095 * 2 ^ 4 + 255 * 2 ^ 16),
      (stPage + 0x4C, 15 + 4095 * 2 ^ 4 + 255 * 2 ^ 16 + 2 ^ 24)] = true ∧
    s.flag tePage TE.TE_STAT_ENROLLED = false ∧ s.te.healthOk = true ∧
    (let m := s.setFlag hyPage HY.HY_STAT_ACTIVE_MGR true
     m.activeMgr = true ∧ allPass m [(hyPage + 0x94, 63 + 2 ^ 8), (hyPage + 0x94, 2 * 2 ^ 8), (hyPage + 0x94, 63 + 3 * 2 ^ 8)] = true) := by decide +kernel

theorem test_witness_MailboxCommandsReachTheirMessage :
    let ws (ty : Nat) (body : List Nat) : List (Nat × Nat) :=
      (((wordsLE (mboxMsg ty body)).take 256).zipIdx.map fun x => (tePage + 0x800 + 4 * x.2, x.1)) ++ [(tePage + 0x100, 1)]
    ([0x0001, 0x0003, 0x0010, 0x0011, 0x0020, 0x0021].all fun ty => passesAllB State.reset .mc (ws ty []) && passesAllB State.reset .mc (ws ty [1, 2, 3, 4, 5])) = true ∧
    ([0x0001, 0x0003, 0x0010, 0x0011, 0x0020, 0x0021].all fun ty =>
      let u := withFlds State.reset ((wordsLE (mboxMsg ty [9, 8, 7, 6])).zipIdx.map fun x => (tePage, TE.MBOX_IN, x.2, x.1))
      ((List.range 256).flatMap fun i => bytesLE 4 (u.fld tePage TE.MBOX_IN i)) = mboxMsg ty [9, 8, 7, 6] ++ List.replicate 1016 0) = true := by
  decide +kernel

theorem test_witness_WindowAndFlushCommands :
    allPass State.reset [(erPage + 0x60, 0), (erPage + 0x60, 0xFFFFFFFF), (erPage + 0x74, 0x0000C1EA), (erPage + 0x74, 0x0001C1EA),
      (obsqPage + 0x58, 0), (obsqPage + 0x58, 63), (obsqPage + 0x58, 2 ^ 6), (outerPage + 0xC4, 0), (outerPage + 0xC4, 65535)] = true ∧
    State.reset.pathLive .mc = true := by decide +kernel

theorem test_witness_HeaderAndChipCommands :
    let s := State.reset
    (let a := headPage 32 + 0x0C
     let w (n : Nat) (on : Bool) : Nat := setBit (s.shownWord .mc a) n on
     let only (v : Nat) (f : Fld) : Bool := [HDR.ENABLE, HDR.QUIESCE, HDR.ISOLATE, HDR.SOFT_RESET].all fun g => s.hits .mc a v g == decide (g = f)
     let u := s.setFlag (headPage 32) HDR.ISOLATE true
     (pageAt (headPage 32)).isSome = true ∧
     only (w 3 true) HDR.SOFT_RESET = true ∧ only (w 0 false) HDR.ENABLE = true ∧ only (w 1 true) HDR.QUIESCE = true ∧
     allPass s [(a, w 3 true), (a, w 0 false), (a, w 1 true)] = true ∧ (s.put .mc a (w 0 false)).flag (headPage 32) HDR.ENABLE = false ∧
     (s.put .mc a (w 1 true)).flag (headPage 32) HDR.QUIESCE = true ∧
     u.flag (headPage 32) HDR.ISOLATE = true ∧ passesB u .mc a (setBit (u.shownWord .mc a) 2 false) = true ∧
     u.hits .mc a (setBit (u.shownWord .mc a) 2 false) HDR.ISOLATE = true ∧
     ([HDR.ENABLE, HDR.QUIESCE, HDR.SOFT_RESET].all fun g => !u.hits .mc a (setBit (u.shownWord .mc a) 2 false) g) = true) ∧
    (let f := setBit (s.shownWord .mc (ckPage + 0x54)) 31 true
     allPass s [(chipPage + 0x70, 0xA5A5), (chipPage + 0x70, 0x5A5A), (ckPage + 0x60, 0), (ckPage + 0x60, 59), (ckPage + 0x54, f),
       (nvmePage + 0x4C, 0), (nvmePage + 0x4C, 7 * 2 ^ 4), (erPage + 0x60, 5)] = true ∧ s.hits .mc (ckPage + 0x54) f CK.FMON_START = true) ∧
    (let a := bandPage 32 + 0x7C
     let w (n : Nat) : Nat := setBit (s.shownWord .mc a) n true
     bitOf (w 0) 2 = false ∧ bitOf (w 2) 0 = false ∧ allPass s [(a, w 0), (a, w 2)] = true) ∧
    (let s := withFlds s [(stebaroPage, STEBARO.EN_M, 0, 1), (stebaroPage, STEBARO.EN_P0, 0, 1), (stebaroPage, STEBARO.EN_P1, 0, 1)]
     let a := stebaroPage + 0x40
     ([(0, STEBARO.EN_M), (1, STEBARO.EN_P0), (2, STEBARO.EN_P1)].all fun x =>
       let v := setBit (s.shownWord .mc a) x.1 false
       passesB s .mc a v && [STEBARO.EN_M, STEBARO.EN_P0, STEBARO.EN_P1].all fun g => s.hits .mc a v g == decide (g = x.2)) = true) := by decide +kernel

theorem test_witness_RcReadReturnsAndClears : State.reset.pathLive .host = true := by decide +kernel

/-! Witnesses: the host's register access, STEBARO, clocks, crossings, faults -/

def conn0 : Conn :=
  { port := 0, tcp := .established, rcvNxt := 0, sndNxt := 0, sndUna := 0, rto := 1000000000, tls := none, ic := true, hdgst := false, ddgst := false,
    maxR2t := 1, assoc := some 1, qid := 0, size := 32, stopped := false, window := [], timer := 0, mss := 1460 }

def assoc0 : Assoc :=
  { host := 5, disc := false, kato := 100, last := 0, acre := false, aec := 0, aers := [], pend := [], ps := 0, auto := 0, apst := true, errs := [] }

def ctxOf (c cid : Nat) (w : HostWork) : Ctx := { conn := c, cid := cid, op := 0, work := w, data := [], since := 0, gone := 0 }

/-- Host 5 has every right. Connection 0 is the admin queue of its association, connection 1 an I/O queue; command 0xFFFF has been taken on both. -/
def hosted : State :=
  let s := withFlds State.reset [(nvmePage, NVME.ACL_VALID, 0, 1), (nvmePage, NVME.ACL_HOST0, 0, 5), (nvmePage, NVME.ACL_RIGHTS, 0, 0x3F),
    (nvmePage, NVME.ACL_MASK_LO, 0, 0xFFFFFFFF), (nvmePage, NVME.ACL_MASK_HI, 0, 0xFFFFFFFF)]
  { s with host := { s.host with assocs := [(1, some assoc0)], conns := [(0, some conn0), (1, some { conn0 with qid := 1 })],
                                 ctxs := [ctxOf 0 0xFFFF .fresh, ctxOf 1 0xFFFF .fresh] } }

theorem test_witness_HostRegisterFeature :
    hosted.freshAdmin 0 0xFFFF = true ∧ hosted.hasRight 0 5 = true ∧ badAddress 0xFFFFFC = true ∧ badAddress chipPage = false := by decide +kernel

/-- NewRequest as a test. -/
def newReqB (s : State) (sid : SessionIx) (h : SbHeader) (words : Nat) : Bool :=
  decide (s.svc.held = .no) && (s.session sid.val).isSome &&
  (((s.sbTouch sid.val).session sid.val).all fun x => x.kept.all fun k => decide (k.req ≠ h)) &&
  ((s.sbTouch sid.val).arb.waiting.all fun w => decide (pathKey w.path ≠ 2 + sid.val) || decide (w.for' ≠ .steb h)) &&
  ((s.sbHeard sid).requestFault sid.val h words).isNone

theorem newReq_of (s : State) (sid : SessionIx) (h : SbHeader) (words : Nat) (hh : newReqB s sid h words = true) : s.NewRequest sid h words := by
  simp only [newReqB, Bool.and_eq_true, Option.isNone_iff_eq_none, decide_eq_true_eq, List.all_eq_true, Bool.or_eq_true] at hh
  obtain ⟨⟨⟨⟨h1, h2⟩, h3⟩, h4⟩, h5⟩ := hh
  refine ⟨h1, h2, ?_, ?_, h5⟩
  · intro x hx k hk
    rw [hx] at h3
    simp only [Option.all_some, List.all_eq_true, decide_eq_true_eq] at h3
    exact h3 k hk
  · intro w hw hp
    rcases h4 w hw with h | h
    · exact absurd hp h
    · exact h

/-- A custodian in session 15. -/
def stebbed : State :=
  State.reset.setSession 15 (some { port := 3, role := .custodian, cert := [], sub := none, kept := [], lastDatagram := 0 })

def hdrOf (op count addr : Nat) : SbHeader := { version := 1, opcode := op, tag := 0xFFFF, count := count, address := addr, status := 0, flags := 0 }

theorem test_witness_RequestsReadAndWrite :
    ([1, 256].all fun n => newReqB stebbed 15 (hdrOf 1 n 0) n) = true ∧ badAddress erPage = false ∧
    (newReqB stebbed 15 (hdrOf 2 128 0) 256 && newReqB stebbed 15 (hdrOf 2 1 0) 2) = true ∧
    passesAllB (stebbed.sbHeard 15) (.steb 15) [(erPage + 0x14, 1), (erPage + 0x60, 5)] = true ∧
    newReqB stebbed 15 (hdrOf 3 2 (erPage + 0x10)) 0 = true ∧ blockArea (erPage + 0x10) = blockArea (erPage + 0x10 + 4 * (2 - 1)) ∧
    ((blockAddrs (erPage + 0x10) 2).all fun a => !badAddress a) = true ∧
    newReqB stebbed 15 (hdrOf 4 2 (erPage + 0x10)) 2 = true ∧
    passesAllB (stebbed.sbHeard 15) (.steb 15) ((blockAddrs (erPage + 0x10) 2).zip [1, 2]) = true ∧
    newReqB stebbed 15 (hdrOf 5 256 (erPage + 0x64)) 0 = true ∧ badAddress (erPage + 0x64) = false ∧
    ([(hdrOf 1 257 0, 257), (hdrOf 1 1 0, 2), (hdrOf 7 1 0, 1), ({ hdrOf 1 1 0 with version := 2 }, 1), (hdrOf 1 1 (2 ^ 24), 1)].all fun x =>
      ((stebbed.sbHeard 15).requestFault 15 x.1 x.2).isSome && !newReqB stebbed 15 x.1 x.2) = true := by decide +kernel

/-- Session 15 has a subscription with an entry to send, and eight EVENTs that are not acknowledged where n is 8. -/
def subbed (n : Nat) : State :=
  let u : Sub := { filter := { minSev := 0, selectors := 3, regionMask := 0, reserved := 0, queueMask := 0 }, buffer := [.record [1, 2]], nextNo := 1,
                   evTag := 0xFFFF, unacked := (List.range n).map fun i => (i, [i]) }
  State.reset.setSession 15 (some { port := 3, role := .observer, cert := [], sub := some u, kept := [], lastDatagram := 0 })

/-- Sessions 0 to 7 have subscriptions and session 15 has none. -/
def crowded : State :=
  let u : Sub := { filter := { minSev := 0, selectors := 3, regionMask := 0, reserved := 0, queueMask := 0 }, buffer := [], nextNo := 0, evTag := 0,
                   unacked := [] }
  stebbed.forEach (List.range 8) fun s i =>
    s.setSession i (some { port := 0, role := .observer, cert := [], sub := some u, kept := [], lastDatagram := 0 })

def filt (sel : Nat) : SubFilter := { minSev := 0, selectors := sel, regionMask := 0x1FF, reserved := 0, queueMask := 0 }

theorem test_witness_SubscriptionAndSessionCommands_subscribe :
    newReqB stebbed 15 (hdrOf 6 0 0) 4 = true ∧ (filt 0).reserved = 0 ∧ (filt 0).selectors = 0 ∧ (filt 3).selectors < 4 ∧ (filt 3).selectors ≠ 0 ∧
    (stebbed.sbHeard 15).subscribed.length < 8 ∧ newReqB crowded 15 (hdrOf 6 0 0) 4 = true ∧ 15 ∉ (crowded.sbHeard 15).subscribed ∧
    8 ≤ (crowded.sbHeard 15).subscribed.length := by decide +kernel

theorem test_witness_SubscriptionAndSessionCommands_events :
    (((subbed 7).sbTouch 15).subOf 15).isSome = true ∧ ((subbed 7).subOf 15).any (fun u => decide (u.unacked.length < 8) && decide (u.buffer ≠ []) &&
      (u.unacked.find? fun e => decide (e.1 = 6)).isSome && decide (u.unacked ≠ [])) = true ∧
    ((subbed 8).subOf 15).any (fun u => decide (8 ≤ u.unacked.length)) = true := by decide +kernel

/-- STEBARO serves port M; ROLE_ANCHOR[15] is valid with the role of a custodian; where open is set, the trust engine is open and has no anchor 0. -/
def serving (opened : Bool) : State :=
  (withFlds State.reset [(stebaroPage, STEBARO.EN_M, 0, 1), (rdyPage, RDY.STEBARO, 0, 1), (tePage, TE.ROLE_ANCHOR_VALID, 15, 1), (tePage, TE.ROLE_ANCHOR_ROLE, 15, 3),
    (stebaroPage, HDR.ENABLE, 0, 1),
    (tePage, TE.TE_STAT_OPEN, 0, boolNat opened)])

theorem test_witness_SubscriptionAndSessionCommands_sessions :
    let s := serving false
    (s.svc.held = .no ∧ s.served 3 = true ∧ s.flag rdyPage RDY.STEBARO = true ∧ s.accepts stebaroPage = true ∧
      (List.range 16).find? (fun k => (s.session k).isNone) = some 0 ∧ (s.chainRole [s.anchorDigest 15]).isSome = true ∧
      s.flag tePage TE.TE_STAT_OPEN = false) ∧
    ((serving true).flag tePage TE.TE_STAT_OPEN = true ∧ (serving true).flag tePage TE.ROLE_ANCHOR_VALID 0 = false) ∧
    (stebbed.session 15).isSome = true ∧
    (s.served 3 = true ∧ sbHeaderOf [0x42, 0x53] = none ∧ sbHeaderOf (List.replicate 16 0) = none) ∧
    (let u : State := { stebbed with now := 300000000000 }
     u.idleTimeout = 300000000000 ∧ (u.session 15).any (fun x => decide (x.lastDatagram + u.idleTimeout ≤ u.now)) = true) := by decide +kernel

/-- Page ST is being transferred and a write of the management cores waits for it. -/
def transferring (n : Nat) : State :=
  let s := State.reset.setFld stPage HDR.XFER_PENDING n
  s.setArb { s.arb with waiting := [{ path := .mc, pairs := [(stPage + 0x14, 1)], arrival := 0, for' := .plain }] }

theorem test_witness_SubscriptionAndSessionCommands_waiting :
    (takeHeld (fun w => ((transferring 0).transferring w.pairs).isNone) [] (transferring 0).arb.waiting).isSome = true ∧
    (transferring 0).pathLive .mc = true ∧
    (let u : State := { transferring 1 with now := 10000000 }
     (u.arb.waiting.find? fun w => (u.transferring w.pairs).isSome && decide (w.arrival + 10000000 ≤ u.now)).isSome = true) := by decide +kernel

theorem test_witness_ClockAndObjectResetCommands :
    let r := State.reset
    let up := (withFlds r [(ckPage, CK.PLL_LOCK, 0, 2 ^ 23 - 1), (ckPage, CK.REF_SYS, 0, 1), (ckPage, CK.REF_ETH, 0, 3), (ckPage, CK.REF_HEAD, 0, 15)])
    (r.setArb { r.arb with fmon := some 3, islandResets := [59] }).arb.fmon ≠ none ∧
    59 ∈ (r.setArb { r.arb with fmon := some 3, islandResets := [59] }).arb.islandResets ∧
    ([0, 3, 4, 13, 14, 17, 18, 19, 22].all fun p => up.fldBit ckPage CK.PLL_LOCK p) = true ∧
    ([0, 3, 14, 15, 16].all fun p => pllFatal p) = true ∧ ([4, 13, 17, 18, 19, 22].all fun p => !pllFatal p) = true ∧
    ([0, 18, 19, 22].all fun p => !(r.setFld ckPage CK.PLL_LOCK 0).fldBit ckPage CK.PLL_LOCK p) = true ∧
    up.fldBit ckPage CK.REF_SYS 0 = true ∧ up.fldBit ckPage CK.REF_ETH 1 = true ∧ up.fldBit ckPage CK.REF_HEAD 3 = true ∧ r.arb.aoOnRef = false ∧
    (pageAt (pageBase (.head 32))).isSome = true := by decide +kernel

/-- Crossing 4095 from island 60 to 0: a value under transfer, captured or not; its data side with one item on its way, in RESYNC or not. -/
def crossed (captured resync : Bool) : State :=
  let k := xingKey ⟨60, 0, 4095⟩
  let s := withFlds State.reset [(ckPage, CK.ISL_RUN0, 0, 2 ^ 32 - 1), (ckPage, CK.ISL_RUN1, 0, 2 ^ 29 - 1)]
  { s with arb := { s.arb with
      ctl := [(k, { cur := 9, flight := if resync then none else some (9, captured), update := some 10, recv := 0, stale := false, resync := resync, used := true })],
      data := [(k, { inFlight := [7], readable := [], heldOff := false, resync := resync })] } }

theorem test_witness_CrossingCommands :
    let k := xingKey ⟨60, 0, 4095⟩
    ((crossed false false).ctl k).flight = some (9, false) ∧ ((crossed false false).ctl k).resync = false ∧
    ((crossed true false).ctl k).flight = some (9, true) ∧ ((crossed false false).dat k).inFlight = 7 :: [] ∧
    ((crossed false false).dat k).resync = false ∧
    ((crossed false true).ctl k).resync = true ∧ ((crossed false true).dat k).resync = true ∧ ((crossed false true).ctl k).flight = none ∧
    ((crossed false true).islRun 60 = true ∧ (crossed false true).islRun 0 = true) ∧
    (⟨true, false⟩ : Sides).src = true ∧ (⟨false, true⟩ : Sides).dst = true ∧
    ((⟨60, 0, 4095⟩ : Crossing).dst.val ≠ spineIsland) ∧
    (let k := xingKey ⟨60, 33, 4095⟩
     let s := State.reset.setDat k { inFlight := [7], readable := [], heldOff := false, resync := true }
     (⟨60, 33, 4095⟩ : Crossing).dst.val = spineIsland ∧ s.islandIdle (keySrc k) = false ∧ (s.dat k).inFlight = 7 :: []) := by decide +kernel

theorem test_witness_CrossingCommands_room (k : Nat) : ([] : List Nat).length ≤ Config.fifoDepth k := Nat.zero_le _

/-! Witnesses: faults, links, firing -/

theorem test_witness_FaultAndOverloadCommands_levels :
    let rep (r : Nat) (whole : Bool) : UpReport := { region := r, block := 0, cell := 17, whole := whole }
    let lostCell (r : Nat) : State := { State.reset with flt := { State.reset.flt with chip := [rep r false], regions := [(8, [rep 8 true])] } }
    let w := withFlds State.reset [(wheelPage 8, WHEEL.WH_STAT_STATE, 0, whRunning), (ctrlengPage, CTRLENG.CE_STAT_LANE_MAP, 0, 31)]
    let w := w.setWheel 8 { WheelSt.off with missW := 3 }
    8 < blocksOf 3 ∧ 0 < blocksOf 8 ∧ (lostCell 3).flt.chip ≠ [] ∧ (lostCell 4).flt.chip ≠ [] ∧ (lostCell 3).regionReports 8 ≠ [] ∧
    (lostCell 5).flt.chip ≠ [] ∧ ({ State.reset with flt := { State.reset.flt with chip := [rep 8 true] } } : State).flt.chip = rep 8 true :: [] ∧
    (let u := (withFlds (lostCell 3) [(regionPage 6, REGION.AUTO_REROUTE, 0, 1), (regionPage 6, REGION.AUTO_ISOLATE, 0, 0), (ethPage 1, ETH.ETH_STAT_LINK, 0, 1)]).setRegionReports 6 [rep 6 true]
     u.regionReports 6 = rep 6 true :: [] ∧ u.flag (regionPage 6) REGION.AUTO_REROUTE = true ∧ u.otherCarries 6 0 = true) ∧
    ((lostCell 3).setFlag (regionPage 8) REGION.CHIP_ESC_EN true).flag (regionPage 8) REGION.CHIP_ESC_EN = true ∧
    ((lostCell 3).setFlag (regionPage 8) REGION.AUTO_REROUTE false).flag (regionPage 8) REGION.AUTO_REROUTE = false ∧
    w.fldBit ctrlengPage CTRLENG.CE_STAT_LANE_MAP 4 = true ∧ w.comparatorCause 8 2 = true := by decide +kernel

theorem test_witness_FaultAndOverloadCommands_cores :
    let s := withFlds State.reset [(mcPage, MC.CORE_STATE, 9, coreRun)]
    s.coreSt 9 = coreRun ∧ s.svc.wdt = [] ∧
    (let t := { s with svc := { s.svc with wdt := [(9, 0)] } }
     ∃ e ∈ t.svc.wdt, e.1 = 9 ∧ t.poweredS < e.2 + 86400) ∧
    10 * State.reset.fldIn mcPage MC.WDT_CFG_OVL_ON 50 99 < min 1000 1000 ∧
    State.reset.flag mcPage MC.MC_STAT_OVERLOAD = false ∧
    (let t := State.reset.setFlag mcPage MC.MC_STAT_OVERLOAD true
     min 0 1000 < 10 * t.fldIn mcPage MC.WDT_CFG_OVL_OFF 30 (t.fldIn mcPage MC.WDT_CFG_OVL_ON 50 99) ∧ t.flag mcPage MC.MC_STAT_OVERLOAD = true ∧
       ({ t with now := 100000000 } : State).svc.ovlAt + 100000000 ≤ ({ t with now := 100000000 } : State).now) := by decide +kernel

theorem test_witness_FaultAndOverloadCommands_poison :
    State.reset.lbaMirrored 1199 0 = false ∧ (hosted.conn 1).isSome = true ∧
    (let r : Record := { seq := 1, ev := ev0, pwr := 0, rep := 0, lastTime := 3, mirrored := false, loaded := false, repSat := false }
     ({ State.reset with recd := { State.reset.recd with log := [r] } } : State).recd.log.reverse ≠ []) ∧ (flushing.oqueue 63).items ≠ [] ∧
    (({ hosted with host := { hosted.host with ctxs := [ctxOf 1 0xFFFF (.read 1 0 0 1)] } } : State).ctx 1 0xFFFF).isSome = true := by decide +kernel

/-- Head 32's link is in state n; lane 10 is in lock, lane 8 is not, and the data lanes carry their positions. -/
def linkIn (n : Nat) : State :=
  let up : LaneSt := { LaneSt.down with block := true, frame := true, lpos := some 1 }
  let s := State.reset.setLink 32 { LinkSt.down with lanes := ((List.range 8).map fun i => (i, up)) ++ [(9, up), (10, up)], identOk := true }
  s.setFld (headPage 32) HEAD.LINK_STAT_STATE n

/-- A frame of zeros at FSEQ 5 and position 7 with its CRC, scrambled. -/
def frame0 (ty : Nat) : UpFrame :=
  let zs := List.replicate 33 0
  let tr := ty * 2 ^ 56 + 7 * 2 ^ 52 + 5 * 2 ^ 48
  ⟨(scrambleAll 0 (zs.map (fun w => (hdrData, w)) ++ [(hdrControl, tr + frameCrc zs tr * 2 ^ 32)])).1⟩

/-- Lane `i` of head 32 in state 5 carries position 7, in block and frame lock, unless `block` is false. -/
def laneOf (i : Nat) (block : Bool) : State :=
  (linkIn 5).setLane 32 i { LaneSt.down with block := block, frame := block, lpos := some 7 }

theorem test_witness_LinkLaneCommands :
    let s := linkIn 5
    let seen (n : Nat) : State := s.setLane 32 8 { LaneSt.down with block := true, hdrs := List.replicate 64 (decide (n = 0)), good := 4, bad := 4 }
    ((s.lane 32 10).seeHdrs []).block = true ∧ (((seen 0).lane 32 8).seeHdrs (List.replicate 64 1)).blockGains = true ∧
    (((seen 1).lane 32 8).seeHdrs [0]).blockLoses = true ∧ (((seen 0).lane 32 8).seeHdrs [0]).blockLoses = false ∧
    (((seen 0).lane 32 8).block = true ∧ ((seen 0).lane 32 8).good = 4 ∧ ((seen 0).lane 32 8).bad = 4) ∧
    s.linkState 32 = 5 ∧ s.laneCause 32 8 .lockLost = true ∧ s.laneCause 32 7 .duplicateLpos = true ∧
    s.laneCause 32 10 .crcThreshold = true ∧ s.laneFailed 32 8 = false ∧ s.laneFailed 32 10 = false := by decide +kernel

set_option maxRecDepth 100000 in
theorem test_witness_LinkLaneCommands_frames :
    ([0xB4, 0xB6].all fun ty =>
      let w := (upWords 0 (frame0 ty)).1
      decide ((frame0 ty).blocks.length = 34) && w.crcOk && decide (w.type = ty) && decide (w.lpos = 7) && decide (w.fseq = 5)) = true ∧
    (upWords 1 (frame0 0xB4)).1.crcOk = false := by decide +kernel

set_option maxRecDepth 100000 in
theorem test_witness_LinkLaneCommands_lanes :
    let y (s : State) (i ty : Nat) : LaneSt := s.laneFrame 32 (s.lane 32 i) (frame0 ty) (upWords 0 (frame0 ty)).1 0
    ((laneOf 8 false).lane 32 8).block = false ∧ ((laneOf 8 true).lane 32 8).block = true ∧
    (y (laneOf 8 true) 8 0xB4).lpos = some 7 ∧ (y (laneOf 8 true) 8 0xB4).frame = true ∧ (y (laneOf 8 true) 8 0xB6).lpos = none ∧
    (linkIn 3).linkState 32 = 3 ∧ (linkIn 6).linkState 32 = 6 := by decide +kernel

/-- What head 32's companion shows in a step of training on every upstream lane. -/
def obsOf (step : Nat) : TrainObs :=
  { blocks := (List.range 9).map fun i => BitVec.ofNat 64 (trainBlock i step 0 0 0), dl := 3, eyes := List.replicate 9 (39, 40), skew := 31 }

set_option maxRecDepth 100000 in
theorem test_witness_LinkTrainingCommands :
    let all (n : Nat) : State := (List.range 9).foldl (fun s i =>
      s.setLane 32 i { LaneSt.down with block := true, frame := true, lpos := some i }) (linkIn n)
    let up (s : State) (p : Nat → Bool) : Nat := ((s.upLanes 32).filter fun i => (s.lane 32 i).block && p i).length
    (1 ≤ ((all 1).downLanes 32 (obsOf 0)).length ∧ (all 1).linkState 32 = 1 ∧ 8 ≤ up (all 1) (peerStep (obsOf 0) · 0)) ∧
    ((all 2).linkState 32 = 2 ∧ 8 ≤ up (all 2) (fun i => peerStep (obsOf 1) i 1 && eyeOk ((obsOf 1).eyes.getD i (0, 0))) ∧
      up (all 2) (fun i => peerStep (obsOf 0) i 1 && eyeOk ((obsOf 0).eyes.getD i (0, 0))) < 8) ∧
    ((all 3).linkState 32 = 3 ∧ (obsOf 1).skew ≤ 31 ∧
      8 ≤ up (all 3) (fun i => ((all 3).lane 32 i).frame && ((all 3).lane 32 i).lpos.isSome)) ∧
    ((linkIn 4).linkState 32 = 4 ∧ ((linkIn 4).link 32).identOk = true) := by decide +kernel

theorem test_witness_LinkTrainingCommands_retries :
    (linkIn 4).flag (headPage 32) HEAD.LINK_CTRL_AUTO_RETRAIN = true ∧
    ((linkIn 4).setFlag (headPage 32) HEAD.LINK_CTRL_AUTO_RETRAIN false).flag (headPage 32) HEAD.LINK_CTRL_AUTO_RETRAIN = false ∧
    ((linkIn 4).link 32).uncounted = false ∧ ((linkIn 4).link 32).attempt < (linkIn 4).fld (headPage 32) HEAD.CRC_CFG_RETRY_MAX ∧
    (let s : State := { (linkIn 1).setLink 32 { LinkSt.down with attempt := 8, retryDue := true } with now := 100000000 * 255 }
     s.fld (headPage 32) HEAD.CRC_CFG_RETRY_MAX ≤ (s.link 32).attempt ∧ (s.link 32).retryDue = true ∧ (s.link 32).uncounted = false ∧
     (s.link 32).began + s.fld (headPage 32) HEAD.CRC_CFG_RETRY_GAP * 100000000 ≤ s.now) ∧
    (let s := (linkIn 1).setLink 32 { LinkSt.down with attempt := 7, retryDue := true, uncounted := true }
     (s.link 32).attempt < s.fld (headPage 32) HEAD.CRC_CFG_RETRY_MAX ∧ (s.link 32).retryDue = true ∧ (s.link 32).uncounted = true) ∧
    State.reset.fld chipPage CHIP.SIDE < 2 := by decide +kernel

def status0 (owner : Fin 3) (epoch : Fin 256) : StatusBody :=
  { port := 0, owner := owner, epoch := epoch, flags := 0, dlCrc := 0, nonownDrop := 0, eye0w := 0, eye0h := 0, eye1w := 0, eye1h := 0, temp := 0 }

theorem test_witness_CompanionReports :
    ((linkIn 5).linkState 32 = 5 ∧ (linkIn 6).linkState 32 = 6) ∧
    (let s := (linkIn 5).setFld (headPage 32) HEAD.LINK_MAP_DL_FAILED 3
     s.laneFailed 32 9 = true ∧ s.laneFailed 32 10 = true) ∧
    ((linkIn 5).setFld ckPage CK.PLL_LOCK 0).fldBit ckPage CK.PLL_LOCK (19 + headGroup 32) = false ∧
    (let s := linkIn 5
     let t := s.statusFields 32 (status0 2 3)
     s.headObeys 32 = t.headObeys 32 ∧ t.tokenMine 32 = false) ∧
    (let s := (linkIn 5).setFld (headPage 32) HEAD.LINK_STAT_COMP_OWNER 1
     let t := s.statusFields 32 (status0 1 255)
     s.headObeys 32 = t.headObeys 32 ∧ newer 255 (t.token 32).2 = false) ∧
    ((((linkIn 5).setSeq 32 { SeqSt.idle with phase := .address }).grooveQuarter 32 9 3 9).seq 32).phase = .address ∧
    (let s := ((linkIn 5).setFld (firestatPage 32) FIRESTAT.STATE 1).setBand 32 { BandSt.idle with expect := some (5, 0) }
     let t := s.grooveQuarter 32 9 3 9
     (t.seq 32).phase ≠ .address ∧ t.fireState 32 = 1 ∧ (t.band 32).expect = some (5, 0) ∧ (5 : Nat) ≠ 6) ∧
    (let t := (linkIn 5).grooveQuarter 32 9 3 9
     (t.seq 32).phase ≠ .address ∧ t.fireState 32 ≠ 1 ∧ t.headFires 32 = false) := by decide +kernel

def servo0 : ServoErr := { sfn := 0, capture := false, laserOn := false, focus := 0, track := 0, tilt := 0, sum := 0, sa := 0, rf := 0 }

theorem test_witness_CompanionReports_servo :
    let s := withFlds State.reset [(headPage 31, HEAD.LINK_STAT_COMP_OWNER, 0, 1), (ctrlengPage, CTRLENG.FP_STAT_LO, 0, 2 ^ 31)]
    let x : CtlXing := { cur := 0, flight := none, update := none, recv := 0, stale := true, resync := true, used := true }
    let stale : State := { s with arb := { s.arb with ctl := [(31 + 64 * 57, x)] } }
    s.flag ctrlengPage HDR.ISOLATE = false ∧ s.xingStale 31 57 0 = false ∧ stale.xingStale 31 57 0 = true ∧
    (s.setFlag ctrlengPage HDR.ISOLATE true).flag ctrlengPage HDR.ISOLATE = true := by decide +kernel

theorem test_witness_CompanionReports_table :
    let m : DownMsg := .tableLoad 3 0 0 0xFFFF []
    let hit (m : DownMsg) : Bool := match m with
      | .tableLoad t _ _ o _ => decide (t = 3) && decide (o = 0xFFFF)
      | _ => false
    ([0, 3].all fun n =>
      decide ((((linkIn 5).setLink 32 { LinkSt.down with tables := [(m, n)] }).link 32).tables.find? (fun x => hit x.1) = some (m, n))) = true := by decide +kernel

/-! Witnesses: firing, axes, the read channel, the ladder -/

def header0 : BlockHeader := headerOf []

/-- Head 32 fires the test setting 5, which is ready and scanned; run 1 is in the phase given. -/
def firing32 (phase : Nat) : State :=
  let r : ReadySet := { head := 32, sa := 5, kind := .test 7, blocks := [] }
  let s := withFlds State.reset [(firestatPage 32, FIRESTAT.STATE, 0, 2), (headPage 32, HEAD.LINK_STAT_COMP_OWNER, 0, 1),
    (ctrlengPage, CTRLENG.FP_STAT_HI, 0, 1), (wheelPage 8, WHEEL.WH_STAT_AT_SPEED, 0, 1), (wheelPage 8, WHEEL.SPD_CMD, 0, 4500)]
  let s := s.setFireHead 32 { FireHead.idle with scanned := [5], half := some (2 * 255 + 1, [1, 2, 3, 4, 5, 6, 7, 8]) }
  { s with fire := { s.fire with ready := [r], runs := [(1, { phase := phase, start := 0 })] } }

theorem test_witness_FiringCommands_run :
    ((firing32 0).run 1).phase = 0 ∧ (firing32 0).fire.holdup = false ∧ (firing32 0).svc.hold = false ∧ (firing32 0).runWanted 1 = true ∧
    (∀ h ∈ groupHeads 1, ((firing32 0).fireHead h).await = []) ∧ State.reset.rtHolds = false ∧
    ((firing32 1).run 1).phase = 1 ∧ (∀ w ∈ groupWheels 1, (firing32 1).wheelAt w 4500 = true) ∧ ((firing32 2).run 1).phase = 2 ∧
    (let t := { firing32 2 with pool := { State.reset.pool with wants := [{ head := 32, sa := 5, why := .host, on := false, since := 0 }] }, now := 255000000000 }
     (t.run 1).start + 10 ^ 9 * t.ffldIn FIRE.RUN_MAX_S 1 255 ≤ t.now ∧
     ∃ h ∈ groupHeads 1, t.headFires h = true ∧ ∃ r ∈ t.pool.wants, r.head = h ∧ r.why = .host ∧ r.on = false ∧
       r.since + 10 ^ 8 * t.ffldIn FIRE.READ_WAIT_MAX 1 255 ≤ t.now) ∧
    (let t := { firing32 2 with fire := { (firing32 2).fire with ready := [] } }
     t.runIdle 1 = true) ∧
    (let t := { firing32 4 with fire := { (firing32 4).fire with ready := [] } }
     (t.run 1).phase = 4 ∧ t.runIdle 1 = true) ∧
    (let t := State.reset.setRun 0 { phase := 5, start := 0 }
     (t.run 0).phase = 5 ∧ t.runIdle 0 = true) := by decide +kernel

theorem test_witness_FiringCommands_arm :
    let s := firing32 2
    s.accepts (headPage 32) = true ∧ s.headFires 32 = true ∧ (s.fireHead 32).stopping = false ∧ s.headObeys 32 = true ∧ s.permit 32 = true ∧
    s.retired 32 = false ∧ s.freeSlot 32 = some 0 ∧ (s.nextReady 32).isSome = true ∧
    s.journalled { head := 32, sa := 5, kind := .test 7, blocks := [] } = true ∧
    ({ s with jr := { s.jr with xspiFail := true } } : State).journalled { head := 32, sa := 5, kind := .test 7, blocks := [] } = false := by
  decide +kernel

theorem test_witness_FiringCommands_reports :
    let s := firing32 2
    (s.fireHead 32).half = some (2 * 255 + (1 - 0), [1, 2, 3, 4, 5, 6, 7, 8]) ∧ (s.fireHead 31).half = none ∧
    s.headFires 31 = false ∧ s.headFires 32 = true ∧ s.powerOk (s.ffld FIRE.READ_PWR_MIN) = true ∧ s.powerOk 0xFFFF = false ∧
    (let u : State := ({ s with fire := { s.fire with holdup := true }, now := 100000000 } : State).setFlag journalPage JOURNAL.JR_STAT_SEALED true
     u.endBootHold.fire.holdup = true ∧ u.fire.holdupAt + 100000000 ≤ u.now ∧ u.flag journalPage JOURNAL.JR_STAT_SEALED = true) ∧
    (s.fire.holdup = false ∧ s.svc.hold = false) := by decide +kernel

theorem test_witness_FiringCommands_twins :
    let r : ReadySet := { head := 32, sa := 5, kind := .forTwin, blocks := [] }
    let s := (firing32 2).setFireHead 32 { FireHead.idle with arm := [(1, some r)] }
    s.slotOfSetting 32 5 = some 1 ∧ s.armed 32 1 = some r ∧ r.kind = .forTwin ∧ (4 : Nat) ≠ 3 ∧ (firing32 2).slotOfSetting 32 5 = none := by
  decide +kernel

theorem test_witness_FiringCommands_replay :
    let s := State.reset.setZone 1199 { ZoneSt.empty with replaying := true }
    (s.zone 1199).replaying = true ∧ s.pool.wants = [] ∧ s.journalUnread = false := by decide +kernel

def fig0 : SettingFig := { sa := 5, fly := 0, miss := 0, blank := 60, segs := 60, beams := List.replicate 16 (some (-150)), mse := -150 }

def cfg0 : LadderCfg :=
  { rungEn := 0x7F, revPolicy := false, outerCheck := true, altMask := 0, turboMax := 0, slideMax := 0, budget := 0, l4 := [], l4Steps := 0, l5 := [],
    l5Steps := 0, tmo := 150 }

/-- Head 32 reads setting 5; the setting's ladder stands at a step with its re-detections to come. -/
def laddered (step : LadderStep) (todo : List Redet) (why : ReadFor) : State :=
  let x : SettingRd :=
    { head := 32, sa := 5, why := why, slots := [], cfg := cfg0, since := some 0, step := step, pass := some (.turbo 0), norevStart := 0, todo := todo,
      ran := [], decoding := [], rev := 0, revs := 0, top := 0, outer := 0, timedOut := false, revAfter := false, blocks := [0, 0, 0, 0] }
  { State.reset with pool := { State.reset.pool with settings := [x], figs := [(32, fig0)],
                                                     wants := [{ head := 32, sa := 5, why := .blankScan, on := true, since := 0 }] } }

theorem test_witness_BisqueAndTraceCommands :
    ((laddered .blocks [] .bisque).figFor 32 .blankScan).isSome = true ∧
    (let r (k : FireKind) : ReadySet := { head := 32, sa := 5, kind := k, blocks := [] }
     let s := (laddered .blocks [] .bisque).setFireHead 32 { FireHead.idle with await := [r (.test 7)] }
     ((s.fireHead 32).await.filter fun r => decide (r.kind.rank = 0)) = r (.test 7) :: [] ∧ (s.figOf 32 (r (.test 7)).sa).isSome = true ∧
     (s.setting 32 5).any (fun x => decide (x.why = .bisque) && decide (x.step = .blocks)) = true ∧ (s.figOf 32 5).isSome = true) ∧
    (let s := State.reset.setFireHead 32 { FireHead.idle with stops := 3 }
     s.retired 32 = false ∧ s.retireDue 32 .laser = true) ∧
    (State.reset.setFld (bandPage 32) BAND.BEAM_DEAD 1).retireDue 32 .beamDead = true ∧
    State.reset.jr.failAt = none ∧ State.reset.ce.traceLeft = 0 ∧
    (State.reset.setFlag ctrlengPage CTRLENG.TRACE_CFG_START true).flag ctrlengPage CTRLENG.TRACE_CFG_START = true := by decide +kernel

/-- Axis 37 moves, or homes, as the mode says. -/
def axisAs (mode : AxMode) (stopping : Bool) (fault : Nat) : State :=
  (State.reset.setAxState 37 2).setAxis 37 { AxisSt.rest with mode := mode, stopping := stopping, fault := fault }

theorem test_witness_AxisCommands :
    ([(.move, false, 0), (.presence, false, 0), (.home 5 true, false, 0), (.home 1 true, false, 0), (.home 3 true, false, 0),
      (.home 4 false, false, 0), (.move, true, 0), (.home 4 false, true, 5)].all fun (x : AxMode × Bool × Nat) =>
      let s := axisAs x.1 x.2.1 x.2.2
      let y := (s.axSync 37).axis 37
      s.axMoving 37 && s.axArrived 37 && decide (y.mode = x.1) && decide (y.stopping = x.2.1) && decide (y.fault = x.2.2)) = true ∧
    isSled 37 = false ∧ isSled 31 = true ∧
    (let s : State := { State.reset.setFlag (axisBlock 37) AXIS.SW_CFG_HOLD_EN false with now := 1000000 * 65535 }
     s.axCfg 37 AXIS.SW_CFG_HOLD_EN ≠ 1 ∧ s.axMoving 37 = false ∧
     (s.axis 37).endAt + 1000000 * s.axCfg 37 AXISP.STEP_CFG_EN_LAG ≤ s.now) ∧
    (let s := withFlds State.reset [(axisBlock 37, AXIS.SW_CFG_DEBOUNCE, 0, 16)]
     s.debounce 37 ≤ 16000000 ∧ 15999999 < s.debounce 37) ∧
    (let s := withFlds State.reset [(axisBlock 37, AXIS.SW_CFG_CHAT_N, 0, 2), (axisBlock 37, AXIS.SW_CFG_CHAT_WIN, 0, 1)]
     s.fldIn (axisBlock 37) AXIS.SW_CFG_CHAT_N 2 255 <
       ([0, 1, 1000000].filter fun t => decide (t ≤ 1000000 * s.fldIn (axisBlock 37) AXIS.SW_CFG_CHAT_WIN 1 255)).length ∧
     s.fld (axisBlock 37) AXIS.AX_STAT_FAULT ≠ 2 ∧ (s.axis 37).fault ≠ 2 ∧
     ((s.istat motionPage 12).event motionPage 0x7302 4 0xFF 37).axMoving 37 = false ∧
     (((s.setAxState 37 2).istat motionPage 12).event motionPage 0x7302 4 0xFF 37).axMoving 37 = true) ∧
    (let s := withFlds State.reset [(headPage 32, HEAD.LINK_STAT_COMP_OWNER, 0, 1)]
     ((s.sledSwitch 32 .home true).sledSwitch 32 .far false).headObeys 32 = true ∧ (s.axis 32).ofs = none ∧
     ((s.setAxis 32 { AxisSt.rest with ofs := some 0 }).axis 32).ofs = some 0 ∧ ((64 : Int) - 0 - 0).natAbs ≤ 64 ∧ 64 < ((65 : Int) - 0 - 0).natAbs) := by
  decide +kernel

/-- Head 32 is read: the band in a mode, with what it expects next. -/
def banded (mode : Nat) (b : BandSt) : State :=
  withFlds (State.reset.setBand 32 b) [(headPage 32, HEAD.LINK_STAT_STATE, 0, 5), (headPage 32, HEAD.LINK_STAT_COMP_OWNER, 0, 1),
    (bandPage 32, BAND.BAND_STAT_MODE, 0, mode)]

theorem test_witness_ReadChannelCommands :
    let b := BandSt.idle
    (banded 2 b).cellsRun 32 = true ∧
    (let lost (op : Nat) (p : SeqPhase) : State :=
       let t := ((banded 2 { b with missAt := some 5, miss := 3 }).setSeq 32 { SeqSt.idle with op := op, phase := p }).triggerReacq 32 true
       t.setBand 32 { t.band 32 with miss := 0, missAt := none, expect := none }
     (banded 2 { b with missAt := some 5, miss := 3 }).cellsRun 32 = true ∧
     (lost 0 .idle).headObeys 32 = true ∧ ((lost 0 .idle).seq 32).op = 0 ∧
     (((lost 3 .address).seq 32).op ≠ 0 ∧ ((lost 3 .address).seq 32).phase = .address) ∧
     (((lost 5 .stepHold).seq 32).op ≠ 0 ∧ ((lost 5 .stepHold).seq 32).phase = .stepHold) ∧
     (((lost 3 .exporting).seq 32).op ≠ 0 ∧ ((lost 3 .exporting).seq 32).phase ≠ .address ∧ ((lost 3 .exporting).seq 32).phase ≠ .stepHold)) ∧
    (State.reset.setBand 32 { b with missAt := some 5, miss := 3 }).headObeys 32 = false ∧
    (banded 2 { b with lockOut := true }).bandMode 32 = 2 ∧ (banded 3 b).bandMode 32 = 3 ∧ ((banded 2 { b with lockOut := true }).band 32).lockOut = true ∧
    ((banded 2 { b with reacq := true, expect := some (5, 0) }).band 32).reacq = true ∧
    (banded 2 { b with reacq := true, expect := some (5, 0) }).cellsRun 32 = true ∧
    (banded 1 { b with run := 2 }).bandMode 32 = 1 ∧ ((banded 1 { b with run := 2 }).band 32).run = 2 ∧
    (banded 1 { b with run := 2 }).cellsRun 32 = true ∧
    (let s := banded 2 { b with expect := some (5, 0) }
     s.bandLayer 32 = saLayer 5 ∧ (s.setFld (bandPage 32) BAND.BAND_STAT_RING (ringOfSetting (saSetting 5))).bandRing 32 = ringOfSetting (saSetting 5) ∧
     (s.setFld (bandPage 32) BAND.BAND_STAT_LAYER 9).bandLayer 32 ≠ saLayer 5) := by decide +kernel

def piece0 (seg beam : Nat) (fly : Bool) : Piece :=
  { head := 32, sa := 5, seg := seg, beam := beam, attempt := 0, mse := -300, cand := none, cand2 := none, slide := none, offset := 0, retimed := false,
    fly := fly, invalid := false, erased := false, bounds := 0, weakCopy := false, bestSet := none, samples := [] }

/-- The shelf of head 32 with 129 pieces, of which all or none are weak, and a cap for weak copies. -/
def shelved (fly : Bool) (cap : Nat) : State :=
  let x : SettingRd :=
    { head := 32, sa := 5, why := .host, slots := [], cfg := cfg0, since := some 0, step := .reading, pass := none, norevStart := 0, todo := [],
      ran := [], decoding := [], rev := 0, revs := 0, top := 0, outer := 0, timedOut := false, revAfter := false, blocks := [0, 0, 0, 0] }
  let s : State := { State.reset with pool := { State.reset.pool with settings := [x] } }
  withFlds (s.setBand 32 { BandSt.idle with shelf := (List.range 129).map fun i => piece0 (i / 16) (i % 16) fly })
    [(bandPage 32, BAND.SHELF_CFG_CAPTURE_EN, 0, 1), (bandPage 32, BAND.SHELF_CFG_WEAK_CAP, 0, cap), (bandPage 32, BAND.SHELF_CFG_FAIL_COPY, 0, 1)]

theorem test_witness_ReadChannelCommands_shelf :
    128 < ((shelved true 1).band 32).shelf.length ∧ (shelved true 1).pieceWeak (piece0 0 0 true) = true ∧
    (shelved true 1).pool.caps.any (piece0 0 0 true).same = false ∧ (shelved true 1).pieceOver (piece0 0 0 true) = false ∧ (shelved true 1).bfld 32 BAND.SHELF_CFG_CAPTURE_EN = 1 ∧
    (shelved false 1).pieceWeak (piece0 0 0 false) = false ∧ 0 < (shelved true 1).bfld 32 BAND.SHELF_CFG_WEAK_CAP ∧
    (shelved true 0).bfld 32 BAND.SHELF_CFG_WEAK_CAP = 0 ∧ (shelved true 1).bfld 32 BAND.SHELF_CFG_FAIL_COPY = 1 ∧
    (let s := { shelved true 1 with pool := { State.reset.pool with failed := [(32, 5, 71)] } }
     s.pool.failed.find? (fun x => decide (x.1 = 32)) = some (32, 5, 71)) := by decide +kernel

theorem test_witness_LadderAndPoolCommands_ladder :
    let j : CwJob := { head := 32, sa := 5, slot := 71, attempt := 0, rung := 0, llrs := [], norm := 12, limit := 20 }
    let d : Redet := { slot := 71, beam := 15, set := 0, slide := false, turbo := false, taps := [], canc := [] }
    let cap : Piece := { piece0 71 15 false with samples := List.replicate 2880 0 }
    let s := laddered .norev [d] .host
    let t := withFlds s [(bandPage 32, HDR.READY, 0, 1), (bandPage 32, BAND.CC_MAP_SPARE_BEAM, 0, 0x1F), (bandPage 32, BAND.SHELF_CFG_REDET_EN, 0, 1)]
    ({ s with pool := { s.pool with cells := [(17, some j)] } } : State).cellJob 17 = some j ∧ s.flag ldpcPage HDR.ISOLATE = false ∧
    (let y := { cap with seg := piecePos 71 15 }
     (({ t with pool := { t.pool with caps := [y] } } : State).capAt 32 5 71 15).isSome = true) ∧
    (s.redetNext 32).isSome = true ∧ s.redetCell 32 = none ∧ t.redetCell 32 = some 32 ∧ storeFind (fun _ => none) t.pool.redet 32 = none ∧
    (s.setting 32 5).any (fun x => decide (x.step = .norev)) = true ∧
    ((laddered .outer [] .host).setting 32 5).any (fun x => x.rung 6 && decide (x.step = .outer)) = true ∧
    ((laddered .revOuter [] .host).setting 32 5).any (fun x => x.rung 6 && decide (x.step = .revOuter) && decide (x.decoding = [])) = true ∧
    ((laddered .revWait [] .host).setting 32 5).any (fun x => decide (x.since = some 0 ∧ x.norevStart = 0) && decide (0 + 1000000 * x.cfg.tmo ≤ 1000000 * 150 ∧ 0 + 10000 * x.cfg.budget ≤ 0) && !x.timedOut && decide (x.step ≠ .blocks ∧ x.step ≠ .l7)) = true ∧
    (let u := { t with pool := { t.pool with redet := [(32, some (32, 5, d))] } }
     storeFind (fun _ => none) u.pool.redet 32 = some (32, 5, d)) := by decide +kernel

theorem test_witness_LadderAndPoolCommands_pool :
    let want (on : Bool) : ReadReq := { head := 32, sa := 5, why := .host, on := on, since := 0 }
    let s := withFlds { State.reset with pool := { State.reset.pool with wants := [want false] } } [(ldpcPage, LDPC.CELL_MAP, 0, 2 ^ 18 - 1)]
    let j (e : Nat) : CwJob := { head := 32, sa := 5, slot := 71, attempt := 0, rung := 0, llrs := List.replicate e 0, norm := 12, limit := 20 }
    let a (e : Nat) : State := { s with pool := { s.pool with queueA := [j e] } }
    let b (e : Nat) : State := { s with pool := { s.pool with queueB := [j e] } }
    (s.startRev 32) = s ∧ (∀ x ∈ s.pool.settings, x.head = 32 → x.step ≠ .rev) ∧
    s.flag (wheelPage (wheelOfHead 32)) WHEEL.WH_STAT_ROTOR_UNSURE = false ∧
    (s.nextRead 32).isSome = true ∧ s.accepts (headPage 32) = true ∧ s.accepts (bandPage 32) = true ∧
    (∀ x ∈ s.pool.wants, x.head = 32 → x.on = false) ∧ s.flag (bandPage 32) BAND.BAND_STAT_NO_READ = false ∧
    s.fld (firestatPage 32) FIRESTAT.STATE ≠ 2 ∧ s.fld (firestatPage 32) FIRESTAT.STATE ≠ 3 ∧ s.admits (ringOfSetting (saSetting 5)) = true ∧
    s.accepts ldpcPage = true ∧ (s.nextCell).isSome = true ∧ (b 0).classB = true ∧ (a 0).classB = false ∧
    s.flag ldpcPage HDR.ISOLATE = false ∧
    (let a : Arrival := { head := 32, sa := 5, seg := 71, beam := 15, attempt := 0, piece := { llrs := [], erased := true, mse := 0 } }
     ({ s with pool := { s.pool with arrivals := [a] } } : State).pool.arrivals = a :: []) ∧
    s.fldIn ldpcPage LDPC.ERASE_MAX 0 8192 < erasedBits (j 8193).llrs ∧ erasedBits (j 0).llrs ≤ s.fldIn ldpcPage LDPC.ERASE_MAX 0 8192 := by decide +kernel

/-! Witnesses: the host -/

def ns1 : NsSt :=
  { home := 0, mirrorAck := false, lbaf := 0, extents := [{ load := 77, lane := 3, first := 0, zones := 300 }], attached := [1], keyId := 1,
    deleting := false, keyRaised := false }

/-- Namespace 1 lies on lane 3 of load 77, which is mounted; its keys are held and its access is optimized. Zone 0 of the lane is in a state. -/
def zoned (st wp : Nat) : State :=
  let s := withFlds hosted [(rdyPage, RDY.DOMAIN, 0, 1), (rdyPage, RDY.LANE_IO, 0, 15), (nvmePage, NVME.ANA_STATE, 0, 1), (rdyPage, RDY.CATALOGUE, 0, 1)]
  let s := { s with host := { s.host with nss := [(1, some ns1)] }, te := { s.te with nk := [(1, some 4)] },
                    load := { s.load with mounted := true, id := 77 } }
  s.setZone 900 { ZoneSt.empty with ns := 1, state := st, wp := wp, zcap := 3145728 }

/-- The place of an LBA is that of zone 0 of lane 3 at offset j. -/
def placed (s : State) (lba j : Nat) : Bool := match s.ioPlace 1 1 lba with
  | .ok (n, k, i) => decide (n = ns1) && decide (k = 900) && decide (i = j)
  | .error _ => false

theorem freshIo_of (s : State) (c cid : Nat) (x : Ctx) (q : Conn) (h1 : s.ctx c cid = some x) (h2 : x.work = .fresh) (h3 : s.conn c = some q)
    (h4 : q.qid ≠ 0) (h5 : s.fld nvmePage NVME.PS_CUR ≠ 2) : s.FreshIo c cid := ⟨⟨x, h1, h2⟩, ⟨q, h3, h4⟩, h5⟩

theorem test_witness_HostIoCommands_fresh : (zoned 1 0).FreshIo 1 0xFFFF ∧ (zoned 4 0).FreshIo 1 0xFFFF :=
  ⟨freshIo_of _ _ _ (ctxOf 1 0xFFFF .fresh) { conn0 with qid := 1 } (by decide +kernel) (by decide +kernel) (by decide +kernel)
    (by decide +kernel) (by decide +kernel),
   freshIo_of _ _ _ (ctxOf 1 0xFFFF .fresh) { conn0 with qid := 1 } (by decide +kernel) (by decide +kernel) (by decide +kernel)
    (by decide +kernel) (by decide +kernel)⟩

theorem test_witness_HostIoCommands_read :
    let t := (zoned 1 0).setWork 1 0xFFFF 1 .fresh
    placed t (zsze - 512) (zsze - 512) = true ∧ sizeOk ns1 512 false = true ∧ zsze - 512 + 512 ≤ ns1.zones * zsze ∧ zsze - 512 + 512 ≤ zsze ∧
    (t.zone 900).state ≠ 6 ∧ ((t.setWork 1 0xFFFF 1 (.read 1 900 (zsze - 512) 512)).ctx 1 0xFFFF).isSome = true := by decide +kernel

theorem test_witness_HostIoCommands_write :
    let t := (zoned 2 3145216).setWork 1 0xFFFF 2 .fresh
    let e := (zoned 0 0).setWork 1 0xFFFF 2 .fresh
    placed t 3145216 3145216 = true ∧ sizeOk ns1 512 false = true ∧ (t.zone 900).wp + t.pendingLbas 900 = 3145216 ∧
    3145216 + 512 ≤ (t.zone 900).zcap ∧ ((t.zone 900).state ≠ 4 ∧ (t.zone 900).state ≠ 5 ∧ (t.zone 900).state ≠ 6) ∧
    placed e 0 0 = true ∧ (e.zone 900).state = 0 ∧ sizeOk ns1 256 true = true ∧ 0 + 256 ≤ e.newZcap 900 ∧ (e.openLimit 1 (e.zone 900)).isNone = true ∧
    (((t.setWork 1 0xFFFF 2 (.write 1 900 3145216 512 true false false false)).ctx 1 0xFFFF).isSome = true ∧
     (((e.openZone 1 ns1 900 1).setWork 1 0xFFFF 2 (.write 1 900 0 256 false true false false)).ctx 1 0xFFFF).isSome = true) := by decide +kernel

theorem test_witness_HostIoCommands_rest :
    (0xFFFFFFFE : Nat) ≠ 0xFFFFFFFF ∧ ((zoned 1 0).nsRefusal 1 1).isNone = true ∧ (((zoned 1 0).setWork 1 0xFFFF 0 (.flush [(900, 0)])).ctx 1 0xFFFF).isSome = true ∧
    ([0, 1, 2, 3, 4, 5].all fun st => placed (zoned st 0) 0 0 && decide (((zoned st 0).zone 900).state = st)) = true ∧
    ((zoned 0 0).openLimit 1 ((zoned 0 0).zone 900)).isNone = true ∧ ((zoned 3 0).openLimit 1 ((zoned 3 0).zone 900)).isNone = true ∧
    (zoned 1 0).holdsFired 900 = false ∧
    (((zoned 1 0).finishZone 1 ns1 900).setWork 1 0xFFFF 0 (.finish [900]) |>.ctx 1 0xFFFF).isSome = true := by decide +kernel

def img0 : FwImage := { version := 1, svn := 1, bytes := [], sig := [] }

theorem test_witness_HostProgressCommands :
    (let s := { hosted with host := { hosted.host with ctxs := [ctxOf 1 0xFFFF (.write 1 900 0 1 false false false false)] } }
     (s.ctx 1 0xFFFF).isSome = true ∧
     (let u : State := { s with now := 100000000 * 255 }
      (u.ctx 1 0xFFFF).any (fun x => decide (x.since + 100000000 * u.fldIn nvmePage NVME.CTX_CFG_STG_WAIT_MAX 1 255 ≤ u.now)) = true) ∧
     ({ s with st := { s.st with stgOver := true } } : State).stgAccepts = false) ∧
    (let s := { hosted.setFld twPage TW.TW_STAT_STATE 2 with host := { hosted.host with fw := some img0 } }
     s.freshAdmin 0 0xFFFF = true ∧ s.hasRight 0 4 = true ∧ s.paired = true ∧ s.twinActivating = false ∧ s.host.fw = some img0) ∧
    ([1, 2].all fun n => let s : State := { State.reset.setFld nvmePage NVME.FW_ACT n with now := 2000000000 }
      decide (s.fld nvmePage NVME.FW_ACT = n) && decide (s.host.fwAt + 2000000000 ≤ s.now)) = true ∧
    State.reset.flag mediacryptPage HDR.ISOLATE = false ∧ State.reset.flag stripePage HDR.ISOLATE = false := by
  decide +kernel

theorem test_witness_NetworkCommands :
    let s := State.reset
    let up := withFlds s [(ethPage 0, ETH.ETH_STAT_LINK, 0, 1), (ethPage 0, ETH.IPV4, 3, 0x0A000001), (ethPage 3, ETH.ETH_STAT_LINK, 0, 1)]
    s.flag (ethPage 3) ETH.ETH_STAT_LINK = false ∧ bitOf 1 0 = true ∧ s.fld nvmePage NVME.PS_CUR < 3 ∧
    (0x0F : Nat) % 16 = 15 ∧ s.cfg (ethPage 1) ETH.ETH_CFG_RATE ≠ 2 ∧ 1 ∉ s.host.fallback ∧
    (laneGroup 0x0F).isSome = true ∧ (laneGroup 0xF0).isSome = true ∧ (s.setFld (ethPage 1) ETH.ETH_CFG_RATE 2).cfg (ethPage 1) ETH.ETH_CFG_RATE = 2 ∧
    (s.cfg (ethPage 1) ETH.ETH_CFG_RATE = 0) ∧
    (let u : State := { s with now := 500000000 }
     storeFind (fun _ => 0) u.host.linkStart 1 + 500000000 ≤ u.now) ∧ up.flag (ethPage 0) HDR.ISOLATE = false ∧
    (up.fld (ethPage 0) ETH.VLAN_VID ≠ 4095) ∧ (0 : Nat) ≠ portT ∧
    up.flag (ethPage 0) ETH.ETH_STAT_LINK = true ∧ up.hasIp4 0 0x0A000001 = true ∧ up.hasIp4 0 0 = false ∧
    up.hasIp6 0 (up.linkLocal 0) = true ∧ up.hasIp6 0 0 = false ∧
    (let u : State := { hosted with now := 100000000 }
     (u.assoc 1).any fun x => decide (x.kato ≠ 0) && decide (x.last + 1000000 * x.kato ≤ u.now)) = true := by decide +kernel

def seg0 : TcpSeg := { dst := 4420, six := true, syn := true, ack := false, fin := false, rst := false, seq := 0xFFFFFFFF, ackNo := 0, len := 0 }

theorem test_witness_ConnectionCommands :
    (let s := withFlds State.reset [(rdyPage, RDY.ADMIN, 0, 1), (ethPage 1, ETH.ETH_STAT_LINK, 0, 1)]
     s.flag (ethPage 1) ETH.ETH_STAT_LINK = true ∧ s.conn 575 = none ∧ s.listens seg0.dst = true ∧ seg0.syn = true ∧ seg0.ack = false ∧ seg0.rst = false ∧
     s.flag (ethPage 1) HDR.ISOLATE = false ∧ s.flag nvmePage HDR.ISOLATE = false) ∧
    (let u : State := { hosted with now := 1000000000 }
     u.conn 0 = some conn0 ∧ conn0.timer + conn0.rto ≤ u.now) ∧
    (let c (tls : Option Bool) (ic : Bool) : State := { hosted with host := { hosted.host with conns := [(575, some { conn0 with tls := tls, ic := ic })] },
                                                                    te := { hosted.te with psks := [(9, 1, []), (7, 2, [])] } }
     (c none false).conn 575 = some { conn0 with tls := none, ic := false } ∧ (c none false).accepts tlsPage = true ∧
     (∃ e ∈ (c none false).te.psks, e.1 = 9 ∧ e.2.1 = 1) ∧ (∃ e ∈ (c none false).te.psks, e.1 = 7 ∧ e.2.1 = 2) ∧
     ((c none false).setFlag tlsPage TLS.TLS_CFG_SUITE_128 true).flag tlsPage TLS.TLS_CFG_SUITE_128 = true ∧
     ¬ (∃ e ∈ (c none false).te.psks, e.1 = 8) ∧ ((c (some true) true).conn 575).any (fun k => k.tls.isSome) = true ∧
     ({ conn0 with hdgst := true } : Conn).hdgst = true ∧
     ((c none false).setFlag tlsPage TLS.TLS_CFG_REQUIRE true).flag tlsPage TLS.TLS_CFG_REQUIRE = true ∧
     ((c none false).setFlag tlsPage TLS.TLS_CFG_REQUIRE false).flag tlsPage TLS.TLS_CFG_REQUIRE = false ∧
     (c none true).ctx 575 7 = none ∧ (c none true).ctxRoom 575 = true) ∧
    (let full := { hosted with host := { hosted.host with exhausted := true, conns := [(1, some { conn0 with qid := 1, stopped := true })] } }
     full.conn 1 = some { conn0 with qid := 1, stopped := true } ∧ full.ctx 1 3 = none ∧ full.host.exhausted = true) ∧
    (let x := { ctxOf 1 0xFFFF (.write 1 900 0 2 false false false true) with data := [] }
     let s := { zoned 2 0 with host := { (zoned 2 0).host with ctxs := [x] } }
     s.ctx 1 0xFFFF = some x ∧ (s.nsp 1).any (fun d => decide ((List.replicate 4096 0).length ≤ 2 * d.lbaBytes)) = true) := by decide +kernel

theorem test_witness_ConnectionCommands_connect :
    let s := { hosted with host := { hosted.host with conns := [(1, some { conn0 with assoc := none })] } }
    s.conn 1 = some { conn0 with assoc := none } ∧ (s.ctx 1 0xFFFF).any (fun x => decide (x.work = .fresh)) = true ∧ (s.aclOf 5).isSome = true ∧
    (List.range 64).find? (fun i => (s.assoc (i + 1)).isNone) = some 1 ∧ (1 : Nat) ≠ 0 ∧ (32 : Nat) ≤ 32 ∧
    (s.setFlag chipPage CHIP.ROLE true).flag chipPage CHIP.ROLE = true := by decide +kernel

theorem test_witness_AdminCommands :
    let s := zoned 1 0
    s.freshAdmin 0 0xFFFF = true ∧ (s.nsp 1).any (fun n => n.attached.contains (s.cntlid 0)) = true ∧ s.inMask 0 1 = true ∧ s.hasRight 0 3 = true ∧
    s.hasRight 0 0 = true ∧ s.hasRight 0 2 = true ∧ s.hasRight 0 4 = true ∧ (s.setFld nvmePage NVME.ACL_RIGHTS 0).hasRight 0 3 = false ∧
    (s.assocOf 0).any (fun x => decide (x.pend = []) && x.apst) = true ∧
    (let t := { s with host := { s.host with fw := some img0, assocs := [(1, some { assoc0 with pend := [.ana] })] } }
     (t.assocOf 0).any (fun x => decide (x.pend = [.ana])) = true ∧ t.host.fw = some img0) ∧ (s.assoc 1).any (fun x => x.apst) = true := by decide +kernel

/-- A binding of 20 zones of lane 0 of load 77. -/
def binding0 : List Nat :=
  bytesLE 4 0x444E4942 ++ [1, 0, 0, 1] ++ List.replicate 8 0 ++ bytesLE 8 77 ++ bytesLE 2 0 ++ bytesLE 2 0 ++ bytesLE 2 20 ++ bytesLE 2 0

/-- The catalogue lists six saggers of load 77, and the loader is this side's and homed. -/
def stocked (mounted : Bool) : State :=
  let s := withFlds (zoned 1 0) [(rdyPage, RDY.LOADER_HOMED, 0, 1), (loaderPage, LOADER.LD_STAT_OWN_OUT, 0, 1)]
  { s with
      st := { s.st with cat := { s.st.cat with saggers := (List.range 6).map fun i => { serial := i + 1, load := 77, pos := i, discs := [], seq := 0 } } }
      te := { s.te with drk := some 1 }
      tw := { s.tw with table := List.replicate 44 (0, 0) }
      load := { s.load with mounted := mounted } }

theorem test_witness_NamespaceAndLoadCommands :
    let s := stocked false
    s.freshAdmin 0 0xFFFF = true ∧ s.flag rdyPage RDY.CATALOGUE = true ∧ s.hasRight 0 1 = true ∧ s.hasRight 0 2 = true ∧
    bindingOk binding0 = true ∧ ((bindingExtents binding0).map fun e => e.zones).sum * zsze = 20 * zsze ∧ s.capacityOk (bindingExtents binding0) = true ∧
    (∃ i < 64, s.nsp (i + 1) = none) ∧ ([1, 0x140].all fun x => cntlidOk x) = true ∧ s.te.drk = some 1 ∧ s.te.healthOk = true ∧ (s.nsp 1).isSome = true ∧
    s.paired = false ∧ (s.setFld twPage TW.TW_STAT_STATE 2).paired = true ∧ s.loaderTwin = false ∧
    ¬(s.load.mounted = true ∧ s.load.id = 77 ∧ s.load.phase = .none) ∧ s.otherShelf 77 = none ∧ s.stageRefusal 77 = none ∧
    (stocked true).unmountRefusal 77 = none := by decide +kernel

theorem test_witness_NamespaceAndLoadCommands_wait :
    let s : State := { hosted with host := { hosted.host with ctxs := [ctxOf 0 0xFFFF (.catWait (.stage 77) 0), ctxOf 0 2 (.create 64)] }, now := 1000000000 }
    (s.ctx 0 0xFFFF).any (fun x => decide (x.work = .catWait (.stage 77) 0)) = true ∧ 0 + 1000000000 ≤ s.now ∧
    (s.host.ctxs.find? fun x => decide (x.work = .create 64) && decide (x.since + 1000000000 ≤ s.now)).isSome = true := by decide +kernel

/-! Witnesses: servo, wheels, stripes, memory -/

/-- The sequencer of head 32 in a phase, with its counters and its time at their limits. -/
def seqAs (op : Nat) (phase : SeqPhase) (now : Nat) : State :=
  { ((State.reset.setSeq 32 { SeqSt.idle with op := op, phase := phase, missRun := 255, fsLow := 4, trErr := 8, stepRun := true }).setFld
      (headPage 32) HEAD.LINK_STAT_COMP_OWNER 1) with now := now }

theorem test_witness_ServoLossCommands :
    let s := seqAs 0 .idle 0
    s.headObeys 32 = true ∧ State.reset.headObeys 32 = false ∧ s.cfgIn ctrlengPage CTRLENG.FRAME_CFG_MISS_MAX 2 255 ≤ (s.seq 32).missRun ∧
    4 ≤ (s.seq 32).fsLow ∧ (State.reset.setMode (slotFo 32) modeFault).slotMode (slotFo 32) = modeFault ∧ 8 ≤ (s.seq 32).trErr ∧
    (State.reset.setMode (slotTr 32) modeFault).slotMode (slotTr 32) = modeFault ∧
    (let t := seqAs 1 .sweep 50000001
     (t.seq 32).phase = .sweep ∧ (t.seq 32).since + 1000000 * t.cfgIn ctrlengPage CTRLENG.ACQ_CFG_ACQ_SWEEP_TMO 5 50 < t.now) ∧
    (let t := seqAs 1 .capture 5000000
     (t.seq 32).phase = .capture ∧ (t.seq 32).since + 5000000 ≤ t.now) ∧
    ([SeqPhase.kick, .watch].all fun p =>
      let t := seqAs 2 p 25500000
      decide ((t.seq 32).op = 2) && decide ((t.seq 32).phase = p) &&
        decide ((t.seq 32).since + 100000 * t.cfg ctrlengPage CTRLENG.JUMP_CFG_LJ_TMO ≤ t.now)) = true ∧
    (let t := { (seqAs 5 .stepHold 0).setFld (wheelPage 8) WHEEL.SPD_MEAS_N 45000 with now := 13333333 }
     (t.seq 32).phase = .stepHold ∧ (t.seq 32).stepRun = true ∧ (t.seq 32).since + t.revolutionNs 32 ≤ t.now) := by decide +kernel

theorem test_witness_WheelAndLoaderEvents :
    (wheelIn whRunning).flag (wheelPage 8) WHEEL.WH_STAT_OWN_OUT = true ∧ (wheelIn whRunning).whState 8 ≠ whConflict ∧
    (State.reset.speedTick 8).fireSpeedLost 8 = true ∧
    (let s := (wheelIn whShadow).setFld (wheelPage 8) WHEEL.SPD_MEAS_N 45450
     s.fireSpeedLost 8 = false ∧ (s.setFld (wheelPage 8) WHEEL.SPD_MEAS_N 45451).fireSpeedLost 8 = true) ∧
    axesIn.flag loaderPage LOADER.LD_STAT_OWN_OUT = true ∧ axesIn.flag loaderPage LOADER.LD_STAT_CONFLICT = false ∧
    ([0, 1, 164, 165, 173, 174, 191].all fun n =>
      let s := withFlds State.reset [(ceSlot n, CESLOT.MODE, 0, modeClosed), (ceSlot n, CESLOT.LIMIT_RUN, 0, 1023)]
      decide (s.slotMode n = modeClosed) && decide (4 * s.cfgIn ctrlengPage CTRLENG.FRAME_CFG_SAT_RUN 1 255 ≤ s.fld (ceSlot n) CESLOT.LIMIT_RUN)) = true ∧
    axesIn.flag loaderPage LOADER.LD_STAT_RECOVERY = false ∧ axesIn.flag loaderPage LOADER.LD_STAT_HOMED = false ∧
    ([0, 1, 2, 3].all fun i => decide (({ axesIn with mot := { axesIn.mot with custodyXspi := (2, i, 8, 0) } } : State).mot.custodyXspi = (2, i, 8, 0))) = true ∧
    (axesIn.setFlag (wheelPage 8) WHEEL.WH_STAT_CLAMP_SNS true).flag (wheelPage 8) WHEEL.WH_STAT_CLAMP_SNS = true ∧
    axesIn.flag (wheelPage 8) WHEEL.WH_STAT_CLAMP_SNS = false := by decide +kernel

/-- Ten seconds in. -/
def later (s : State) : State := { s with now := 10000000000 }

theorem test_witness_WheelCommands_start :
    ([whMeasuring, whBraking, whChecking, whRest, whFault, whAligning, whOpenLoop, whShadow, whConflict].all fun n =>
      decide ((wheelIn n).whState 8 = n)) = true ∧
    ((later (wheelIn whMeasuring)).whFor 8 20000000 = true ∧ (later (wheelIn whBraking)).whFor 8 2550000000 = true ∧
      (wheelIn whRest).restWin 8 ≤ 1000000000 ∧ (wheelIn whOpenLoop).olLimit 8 ≤ 10000000000) ∧
    (((wheelIn whBraking).wheel 8).hold = false ∧ (((wheelIn whBraking).setWheel 8 { WheelSt.off with hold := true }).wheel 8).hold = true) ∧
    ([BrakeFor.start, BrakeFor.stop].all fun b => decide ((((wheelIn whChecking).setWheel 8 { WheelSt.off with brakeFor := b }).wheel 8).brakeFor = b)) = true ∧
    (let s := (wheelIn whRest).setWheel 8 { WheelSt.off with release := true }
     let t := s.setWheel 8 WheelSt.off
     (s.wheel 8).release = true ∧ t.whOwns 8 = true ∧ ∀ h ∈ wheelHeads 8, t.headParked h = true) ∧
    ((wheelIn whFault).faultBrakes 8 = false ∧ ((wheelIn whFault).setFld (wheelPage 8) WHEEL.WH_STAT_FAULT_CAUSE 1).faultBrakes 8 = true ∧
      ((wheelIn whFault).wheel 8).window = false ∧ (((wheelIn whFault).setWheel 8 { WheelSt.off with window := true }).wheel 8).window = true) ∧
    ([1, 2].all fun n => decide ((((wheelIn whOpenLoop).setWheel 8 { WheelSt.off with tries := n }).wheel 8).tries = n)) = true ∧
    (let s := later ((wheelIn whCoasting).setWheel 8 { WheelSt.off with relWait := true, episode := true, armed := true, given := some (9000, 90000000) })
     (s.wheel 8).relWait = true ∧ (s.wheel 8).episode = true ∧ (s.wheel 8).relAt + 100000000 ≤ s.now ∧ (s.wheel 8).armed = true ∧
       (s.wheel 8).given = some (9000, 90000000)) ∧
    1000 * State.reset.cfgIn (wheelPage 8) WHEEL.REST_CFG_SHADOW_HOLD 10 100 ≤ 100000 ∧
    ((wheelIn whCoasting).wheel 8).armed = false ∧ State.reset.flag (wheelPage 8) WHEEL.WH_STAT_OWN_OUT = false ∧ State.reset.svc.held = .no := by
  decide +kernel

/-- Wheel 8 in a state at step 0 with six equal intervals of 1,000,000 ns, its ownership line long settled. -/
def turning (n : Nat) (x : WheelSt) : State :=
  later ((wheelIn n).setWheel 8 { x with ivals := List.replicate 6 1000000, base := 5000000 })

/-- A transition long after its edge, in the PWM high interval. -/
def transAt (p : Fin 3) (rising : Bool) (t : Nat) : Trans := { phase := p, rising := rising, t := t, hold := 100000, edge := 100000, highOn := true }

theorem test_witness_WheelCommands_turning :
    let s := turning whRunning WheelSt.off
    let v := transAt 2 false 6000000
    stepOf v = s.fld (wheelPage 8) WHEEL.WH_STAT_STEP ∧ s.phaseUsable 8 2 = true ∧ s.transTaken 8 v = true ∧ s.whState 8 = whRunning ∧
    s.inWindow 8 ((s.wheel 8).base + meanInterval (s.wheel 8).ivals) (meanInterval (s.wheel 8).ivals) v.t = true ∧
    (turning whFlywheel WheelSt.off).whState 8 = whFlywheel ∧ (turning whOpenLoop WheelSt.off).whState 8 = whOpenLoop ∧
    s.commDue 8 5500000 = true ∧ s.windowEnd 8 ≤ 6400000 ∧ (turning whOpenLoop WheelSt.off).windowEnd 8 ≤ 2000000000 ∧
    ((turning whRunning { WheelSt.off with atComm := .release }).wheel 8).atComm = .release ∧
    ((turning whRunning { WheelSt.off with atComm := .coast }).wheel 8).atComm = .coast ∧ (s.wheel 8).atComm = .none ∧
    ((turning whRunning { WheelSt.off with steps := 23999 }).wheel 8).steps + 1 = 24000 ∧ (s.wheel 8).steps + 1 < 24000 ∧
    s.phaseUsable 8 (floatPhase (s.fld (wheelPage 8) WHEEL.WH_STAT_STEP)) = true ∧ (s.wheel 8).caught = false := by decide +kernel

theorem test_witness_WheelCommands_catch :
    let s := turning whCoasting WheelSt.off
    s.whState 8 = whCoasting ∧ (s.wheel 8).coasting = false ∧ s.whFor 8 (12 * meanInterval (s.wheel 8).ivals) = true ∧
    (s.catchRule 8 [transAt 2 false 0, transAt 1 true 250000]).isSome = true ∧ s.catchRule 8 [] = none ∧
    s.sixStep 8 = false ∧ (turning whRunning WheelSt.off).sixStep 8 = true ∧
    (let r := withFlds (turning whRunning { WheelSt.off with nref := 9000 * 10000, within := some 0 }) [(wheelPage 8, WHEEL.SPD_CMD, 0, 9000),
      (wheelPage 8, WHEEL.SPD_MEAS_N, 0, 90000), (wheelPage 8, WHEEL.SPD_MEAS_STALE, 0, 0)]
     r.spdTarget 8 ≠ 0 ∧ (r.wheel 8).stopping = false ∧ (r.wheel 8).nref = r.spdTarget 8 * 10000 ∧
     r.flag (wheelPage 8) WHEEL.SPD_MEAS_STALE = false ∧ r.spdWithin 8 1 = true ∧ (r.wheel 8).within = some 0 ∧
     0 + 1000000 * r.cfgIn (wheelPage 8) WHEEL.TOL_CFG_SPD_SETTLE 1 255 ≤ r.now) := by decide +kernel

theorem test_witness_WheelCommands_trips :
    let k := (wheelIn whRunning).cfgIn (wheelPage 8) WHEEL.OC_CFG_OC_MAX 1 255
    let s := turning whRunning { WheelSt.off with trips := List.replicate (k - 1) 0 }
    s.cfg (wheelPage 8) WHEEL.OC_CFG_OC_TRIP ≤ ((0 : Int) - 2048).natAbs ∧
    1 ≤ k ∧ (((s.wheel 8).trips.filter fun x => decide (1 < x + 10000000)) ++ [1]).length = k ∧ s.sixStep 8 = true := by decide +kernel

/-- The settings of a cone of layer 9 of head 32's disc, all but the last excluded, which has been read to its blocks. -/
def coned (last : Nat) : State :=
  let x : SettingRd :=
    { head := 32, sa := last, why := .cone, slots := [], cfg := cfg0, since := some 0, step := .blocks, pass := none, norevStart := 0, todo := [],
      ran := [], decoding := [], rev := 0, revs := 0, top := 0, outer := 1, timedOut := false, revAfter := false, blocks := [3, 3, 3, 3] }
  let s := State.reset
  { s with pool := { s.pool with settings := [x], figs := [(32, { fig0 with sa := last })] },
           st := { s.st with cat := { s.st.cat with excluded := (List.range 63).map fun i => (0, settingAddr 9 (3136 + i)) } } }

theorem test_witness_StripeAndRethrowCommands :
    let s := withFlds (zoned 1 0) [(stripePage, STRIPE.RT_CFG_RT_AUTO, 0, 1), (stripePage, STRIPE.RT_CFG_PATROL_EN, 0, 1)]
    let s : State := { s.setZone 900 { s.zone 900 with conf := 1 } with now := 600000000000 }
    let s : State := { s with load := { s.load with missing := [(7, some 0)] }, host := { s.host with ctxs := [] },
                              jr := { s.jr with failAt := some (599990000000) }, fire := { s.fire with runs := [(0, { phase := 4, start := 0 })] } }
    (s.accepts stripePage = true ∧ s.accepts mediacryptPage = true) ∧ s.jr.failAt = some 599990000000 ∧ 599990000000 + 10000000 ≤ s.now ∧
    s.cfg stripePage STRIPE.RT_CFG_RT_AUTO ≠ 0 ∧ s.load.mounted = true ∧ s.positionBad 7 = true ∧ s.st.rt.pending = none ∧
    s.fld stripePage STRIPE.RT_STAT_STATE < 2 ∧
    ([2, 3, 4, 5, 6, 7].all fun n => decide ((s.setFld stripePage STRIPE.RT_STAT_STATE n).fld stripePage STRIPE.RT_STAT_STATE = n)) = true ∧
    (s.run 0).phase = 4 ∧ s.jr.waiting = [] ∧
    s.cfg stripePage STRIPE.RT_CFG_PATROL_EN ≠ 0 ∧ s.mcSpare = true ∧ (s.zone 900).conf ≠ 0 ∧ (s.zone 900).replaying = false := by decide +kernel

theorem test_witness_StripeAndRethrowCommands_cone :
    let last := settingAddr 9 (3136 + 63)
    let s := coned last
    let sas := s.coneSettings 32 9
    sas = [last] ∧ (sas.filterMap (s.coneFig 32)).length = sas.length ∧ (State.reset.coneSettings 0 0).length = 64 ∧
    (State.reset.coneSettings 0 0).filterMap (State.reset.coneFig 0) = [] := by decide +kernel

theorem test_witness_StripeAndRethrowCommands_compact (xs : List JRec) (hx : xs.length = 196608 - 16383) :
    xspiRing - ({ State.reset with jr := { State.reset.jr with xspi := xs } } : State).jr.xspi.length < 16384 := by
  simp [xspiRing, hx]

theorem test_witness_StripeAndRethrowCommands_compact_exists (r : JRec) : ∃ xs : List JRec, xs.length = 196608 - 16383 :=
  ⟨List.replicate _ r, List.length_replicate⟩

/-- Both stacks in a state, filled whole, with repairs due in block 39, in stack 1 and of a page; an hour in. -/
def stacked (n : Nat) : State :=
  let s := withFlds State.reset [(hbmPage 0, HBM.HB_STAT_STATE, 0, n), (hbmPage 1, HBM.HB_STAT_STATE, 0, n), (hbmPage 1, HBM.SCRUB_CFG_SCRUB_EN, 0, 1),
    (hbmPage 1, HBM.FILL_STAT_MIN_WM, 0, 0x2000)]
  { s with now := 255 * 3600 * 10 ^ 9, mem := { s.mem with repairs := [(39, 5, .sramRow), (7, 9, .package), (6, reservePage * 2 ^ 21 / 8 - 1, .page)],
                                                           wm := (List.range 64).map fun k => (k, 2 ^ 29) } }

theorem test_witness_StackCommands :
    ([1, 2, 3, 4].all fun n => decide ((stacked n).hbmState 1 = n)) = true ∧ 0x2000 ≤ (stacked 2).fld (hbmPage 1) HBM.FILL_STAT_MIN_WM ∧
    (stacked 3).repairOf 39 .sramRow = some 5 ∧ (stacked 3).repairOf 7 .package = some 9 ∧
    (reservePage - 1 < reservePage ∧ ∃ x ∈ (stacked 3).mem.repairs, x.2.2 = .page ∧ x.2.1 * 8 / 2 ^ 21 = reservePage - 1) ∧
    (stacked 3).scrubDue 1 = true ∧
    (let s := (stacked 3).setFld nvmePage NVME.PS_CUR 3
     s.fld nvmePage NVME.PS_CUR = 3 ∧ s.hbmState 0 = 3 ∧ s.hbmState 1 = 3 ∧ s.mem.fills = [] ∧ s.mem.waiting = [] ∧ s.mem.maint = none) ∧
    (stacked 4).fld nvmePage NVME.PS_CUR ≠ 3 ∧ (stacked 4).hbmState 0 = 4 := by decide +kernel

theorem test_witness_CacheCommands :
    let ws := List.replicate 32 MWord.zero
    let f : FillSt := { line := 0, way := 0, joined := [], kept := true, stalled := none }
    let s := stacked 3
    let t := { s with mem := { s.mem with fills := [(15, some f)], evb := [(2, ws)] } }
    let m := { s with mem := { s.mem with maint := some { op := 5, tags := [], pend := [] } } }
    t.fillAt 15 = some f ∧ t.lineReady 0 = true ∧ t.evbOf 0 = none ∧ t.mem.evb[0]? = some (2, ws) ∧
    t.mem.evb.find? (fun x => x.1 == 2) = some (2, ws) ∧ t.lineReady 2 = true ∧
    m.pendingDone.mem.maint.any (fun m => decide (m.tags = []) && decide (m.pend = [])) = true ∧ m.pendingDone.mem.waiting = [] ∧
    m.pendingDone.mem.fills = [] := by decide +kernel

/-! Witnesses: trust, the rack, the recorder -/

theorem test_witness_TrustCommands_spdm :
    hosted.freshAdmin 0 0xFFFF = true ∧ (hosted.certSlot 0).isSome = true ∧ ((hosted.setFld twPage TW.TW_STAT_STATE 2).certSlot 1).isSome = true ∧
    ((hosted.conn 0).bind fun k => k.assoc).getD 0 = 1 ∧
    ({ hosted with host := { hosted.host with spdm := [(1, [9])] } } : State).host.spdm.find? (fun e => decide (e.1 = 1)) = some (1, [9]) := by decide +kernel

theorem test_witness_TrustCommands :
    let s := zoned 4 0
    let x : StripeRec :=
      { zone := 900, stripe := 0, width := 8, excluded := 0xFF, gen := 0, expect := 0, fired := 0, passed := 0, plain := [(0, [1])], blocks := [],
        staged := true, replay := false, recorded := false, journalled := false, msn := 0, sent := false }
    let e : State := { s with te := { s.te with slots := [(1, 77)] }, st := { s.st with stripes := [x] }, tw := { s.tw with writers := [1] } }
    let en : EnrolSt := { domain := 1, mgr := 0, nonceM := [], nonceW := [], ephM := [], priv := 0, since := 0 }
    2 ^ 20 ≤ ({ s with te := { s.te with requests := 2 ^ 20 } } : State).te.requests ∧
    (let u : State := { s with te := { s.te with enrol := some en }, now := 10000000000 }
     u.te.enrol = some en ∧ en.since + 10000000000 ≤ u.now) ∧
    s.loadKey 2 77 = none ∧ (s.loadKey 1 77).isSome = true ∧
    e.stripe 900 0 = some x ∧ x.plain ≠ [] ∧ e.flag mediacryptPage HDR.ISOLATE = false ∧
    e.fldBit mediacryptPage MEDIACRYPT.MX_STAT_ENGINE_MAP 3 = true ∧ (1, 77) ∈ e.te.slots ∧ ((e.zone 900).ns, e.load.id) = (1, 77) ∧
    (e.nsp (e.zone 900).ns).isSome = true ∧ (e.zone 900).state = 4 ∧ (e.zone 900).allConfirmed = true ∧ (e.zone 900).sealed = false ∧
    e.zoneWriter 900 = true ∧ s.te.challenge = none ∧ ({ s with te := { s.te with challenge := some [1] } } : State).te.challenge = some [1] := by
  decide +kernel

def worker0 : Worker := { serial := (1, 2), hb := (5, 5), silent := (9, 3599), ps := (0, 0), catGen := 0, load := 0 }

/-- An active manager that knows shelf 63. -/
def managing (st silent : Nat) : State :=
  let s := withFlds State.reset [(hyPage, HY.HY_STAT_ACTIVE_MGR, 0, 1), (rdyPage, RDY.STEBARO, 0, 1), (rdyPage, RDY.RDY_TIME, 2, 0), (hyPage, workerFld 0, 63, st),
    (hyPage, workerFld 1, 63, st), (hyPage, HY.MGR_CFG_PC_EN, 0, 1), (hyPage, HY.RACK_W, 0, 10000)]
  s.setWorker 63 { worker0 with silent := (silent, silent) }

theorem test_witness_RackCommands :
    let p (op tries : Nat) : Pmbus := { shelf := 63, op := op, tries := tries, cycle := false }
    let s := managing 1 0
    s.flag rdyPage RDY.STEBARO = true ∧ s.flag hyPage HY.HY_STAT_REGISTERED = false ∧ s.hy.noMgr = false ∧ s.hy.announced = none ∧
    (let u : State := { s with hy := { s.hy with announced := some 0 }, now := 60000000000 }
     u.hy.announced = some 0 ∧ 0 + 200000000 ≤ u.now ∧ u.fld rdyPage RDY.RDY_TIME 2 * 1000 + 60000000000 ≤ u.now) ∧ s.activeMgr = true ∧
    ((List.replicate 16 (6 : Word)).length = 16 ∧ ((List.replicate 16 (6 : Word)).getD 5 0).toNat ≠ sideOf worker0.hb 1 ∧
      (s.takeBlock 63 1 (List.replicate 16 6)).hy.stage = none) ∧
    (s.worker 63).isSome = true ∧ s.workerSt 63 1 ≠ 0 ∧ s.workerSt 63 1 = 1 ∧
    ([0x80, 0x40, 0x00, 0x79].all fun op => [0, 1, 2].all fun n => decide ((s.setHy { s.hy with pmbus := [p op n] }).hy.pmbus = p op n :: [])) = true ∧
    (let d := managing 2 3600
     d.flag hyPage HY.MGR_CFG_PC_EN = true ∧ d.workerSt 63 0 = 2 ∧ d.workerSt 63 1 = 2 ∧ d.fldIn hyPage HY.MGR_CFG_WMISS_PC 10 3600 ≤ min 3600 3600 ∧
     (∀ p ∈ d.hy.pmbus, p.shelf ≠ 63)) ∧
    ((s.setHy { s.hy with queue := [63] }).hy.queue = 63 :: [] ∧ (s.setHy { s.hy with queue := [63] }).powerRoom = true) := by decide +kernel

theorem test_witness_RecorderCommands :
    let s := flushing
    let r : Record := { seq := 1, ev := ev0, pwr := 0, rep := 0, lastTime := 7, mirrored := false, loaded := false, repSat := false }
    let m : State := { s with recd := { s.recd with raised := [ev0], mirrorBusy := true, mirrorQ := [r], mirrorFailAt := 0 }, now := 255000000 }
    m.recd.raised = ev0 :: [] ∧ m.recd.mirrorBusy = true ∧ m.recd.mirrorQ = r :: [] ∧ m.recd.mirrorQ ≠ [] ∧ m.recd.mirrorFailAt + 10000000 ≤ m.now ∧
    (s.oq.waiting.find? fun x => x.1 == 63).isSome = true ∧
    ([1, 2, 3, 4, 5, 6].all fun n => [16, 63].all fun q =>
      decide (((m.setFld obsqPage OBSQ.Q_CFG_SRC n q).cfg obsqPage OBSQ.Q_CFG_SRC q) = n) &&
        decide (storeFind (fun _ => 0) m.oq.telAt q + 1000000 * clampNat 1 255 (m.cfg obsqPage OBSQ.Q_CFG_PERIOD q) ≤ m.now)) = true ∧
    (s.oqueue 63).flush = true ∧ s.oqInProgress 63 = false := by decide +kernel

/-! Witnesses: the twin, resets, self-test -/

def hello0 : HelloBody := { serial := 8, domain := 0, kcv := 0, side := 1, role := 0, shelf := 0, split := 0, tokens := List.replicate 44 (255, 0) }

def thdr0 (msn : Nat) : THdr := { boot := BitVec.ofNat 32 (2 ^ 31 + 1), seq := 7, msn := msn }

def twin0 : TwinState :=
  { rdySys := 0xFFFFFFFF, headLo := 0xFFFFFFFF, headHi := 1, wheel := 0x1FF, linkLo := 0xFFFFFFFF, linkHi := 1, cmpOk := [], tokens := List.replicate 44 (1, 3) }

/-- Paired with the twin, whose HELLO has come; every token is this side's. -/
def twinned : State :=
  let s := withFlds State.reset [(twPage, TW.TW_STAT_STATE, 0, 2), (twPage, TW.TW_STAT_PIN_ALIVE, 0, 1)]
  { s with tw := { s.tw with hello := some hello0, rx := some (1, 6), table := List.replicate 44 (0, 1), twin := some twin0 },
           te := { s.te with drk := some 1 } }

/-- The twin is not paired yet; its HELLO has come or not. -/
def lonely (st : Nat) : State :=
  let s := withFlds State.reset [(twPage, TW.TW_STAT_STATE, 0, st), (rdyPage, RDY.PORT_T, 0, 1), (rdyPage, RDY.MC_RUN, 0, 1)]
  { s with te := { s.te with drk := some 1 }, tw := { s.tw with hello := some hello0 } }

theorem hears_of (s : State) (h : THdr) (cls : Nat) (h1 : s.tw.hello.isSome = true) (h2 : s.tFresh h = true) (h3 : s.paired = true)
    (h4 : h.msn = s.msnSeen cls + 1) : s.Hears h cls := ⟨h1, h2, h3, .inr h4⟩

theorem test_witness_TwinMessages : twinned.Hears (thdr0 1) clsToken ∧ twinned.Hears (thdr0 1) clsMirror ∧ twinned.Hears (thdr0 1) clsFire ∧
    twinned.Hears (thdr0 1) clsControl ∧ twinned.Hears (thdr0 0) clsNone :=
  ⟨hears_of _ _ _ (by decide +kernel) (by decide +kernel) (by decide +kernel) (by decide +kernel),
   hears_of _ _ _ (by decide +kernel) (by decide +kernel) (by decide +kernel) (by decide +kernel),
   hears_of _ _ _ (by decide +kernel) (by decide +kernel) (by decide +kernel) (by decide +kernel),
   hears_of _ _ _ (by decide +kernel) (by decide +kernel) (by decide +kernel) (by decide +kernel),
   ⟨by decide +kernel, by decide +kernel, by decide +kernel, .inl rfl⟩⟩

theorem test_witness_TwinMessages_members :
    let t := twinned.twinHeard (thdr0 1) clsFire
    let full := (List.range 36).map fun i => ((32 : Nat), (6000 : Nat), i / 9, 8192 * (i % 9), ([] : List Nat))
    let u := t.setTw { t.tw with partials := full.drop 1 ++ [(32, 6000, 0, 0, [])] }
    t.tokenMine 32 = true ∧ ((List.range 4).map fun k => t.memberBytes 32 6000 k).all Option.isSome = false ∧
    ((List.range 4).map fun k => u.memberBytes 32 6000 k).all Option.isSome = true := by decide +kernel

theorem test_witness_TwinMessages_setting :
    let s := { twinned with load := { twinned.load with mounted := true, id := 77, members :=
      [{ pos := 7, serial := 1, wheel := some 8, discs := [], accepted := true }] } }
    let t := s.twinHeard (thdr0 1) clsFire
    (t.twinSetting 32 6000).isSome = true := by decide +kernel

theorem test_witness_TwinMessages_loads :
    let s := { stocked false with tw := { twinned.tw with table := (stocked false).tw.table } }
    let t := (s.setFld twPage TW.TW_STAT_STATE 2).twinHeard (thdr0 1) clsControl
    let m := { t with load := { t.load with mounted := true } }
    t.stageRefusal 77 = none ∧ ¬(t.load.mounted = true ∧ t.load.id = 77 ∧ t.load.phase = .none) ∧ m.unmountRefusal 77 = none := by decide +kernel

theorem test_witness_TwinLinkCommands :
    ((lonely 0).paired = false ∧ (lonely 5).paired = false ∧ (lonely 0).flag rdyPage RDY.PORT_T = true ∧ (lonely 0).te.drk.isSome = true) ∧
    ((lonely 0).tFresh (thdr0 0) = true ∧ (lonely 0).foreignHello hello0 = false) ∧ (lonely 1).tw.hello.isSome = true ∧ twinned.paired = true ∧
    State.reset.svc.held = .no ∧
    (let q : Unacked := { cls := 3, msn := 1, msg := .mirrorAck 0, sent := 0 }
     let s : State := { twinned.setTw { twinned.tw with unacked := [q], lastEdge := some 0 } with now := 15000000000 }
     s.resendDue 3 = true ∧ s.tw.lastEdge = some 0 ∧ ({ s with now := 99999 } : State).now < 0 + 100000 ∧
     (let n := 1500000; (0 + 100000 ≤ n ∧ 0 + 500000 ≤ n ∧ n ≤ 0 + 1500000)) ∧ ¬(0 + 500000 ≤ 1500001 ∧ 1500001 ≤ 0 + 1500000) ∧
     s.edgesMissed = true ∧ s.tw.lastFrame + s.fldIn twPage TW.TW_CFG_T_HB_MISS 10 255 * 100000 ≤ s.now ∧
     s.tw.declared + s.fldIn twPage TW.TW_CFG_PART_WAIT 10 255 * 1000000 ≤ s.now) ∧
    (let s := withFlds State.reset [(chipPage, CHIP.STATE, 0, 2), (mcPage, MC.MC_STAT_WDOG_OK, 0, 1), (ckPage, CK.ISL_RUN1, 0, 2 ^ 25)]
     s.hbRuns = true) ∧
    twinned.flag twPage TW.TW_STAT_PIN_ALIVE = true ∧ twinned.side = 0 ∧ twinned.flag twPage TW.TW_STAT_T_ALIVE = false ∧
    (let s := twinned.setFlag twPage TW.TW_STAT_PIN_ALIVE false
     s.twinAbsent = true ∧ s.paired = true ∧ s.flag twPage TW.TW_CFG_AUTO_TAKE = true) ∧ (lonely 4).twState = 4 ∧ (lonely 4).twinAbsent = true := by
  decide +kernel

theorem test_witness_TokenCommands :
    let ho (stage : HoStage) : Handover := { tok := 43, release := true, stage := stage, since := 0 }
    let b : ExportBody := { record := [], axes := [], custody := (0, 0, 0, 0), spd := 0, ref := 0 }
    let s := twinned.setTw { twinned.tw with ho := [ho .exportSent] }
    let t := s.twinHeard (thdr0 1) clsToken
    (t.hoOf 43).any (fun x => x.release && decide (x.stage = .exportSent)) = true ∧ (t.hoImport 43 b).2 = true ∧ (t.hoImport 41 b).2 = false ∧
    (let a := twinned.setFlag twPage TW.TW_CFG_AUTO_RETURN true
     let a := a.setTw { a.tw with table := (List.replicate 44 (0, 1)) }
     let a := (a.setFld twPage TW.SPLIT_LO 0xFFFFFFFF).setFld twPage TW.SPLIT_HI 0xFFF
     a.twState = 2 ∧ a.twinUp = true ∧ a.hoBack.1.filter (fun n => a.twinTakes n) ≠ []) ∧
    (let m := twinned.setTw { twinned.tw with moves := [(64, 1)] }
     (m.tw.moves.find? fun x => decide (x.1 = 64)).isSome = true ∧ (∀ n ∈ m.tw.hoQueue, 33 ≤ n) ∧ (∀ x ∈ m.tw.ho, 33 ≤ x.tok) ∧
     m.fld journalPage JOURNAL.MIRROR_LAG = 0) ∧
    (let c := twinned.setTw { twinned.tw with pendingConflict := [43] }
     c.inConflict 43 = true ∧ c.flag twPage TW.TW_STAT_T_ALIVE = false ∧ c.side = 0 ∧
     (c.setFlag twPage TW.TW_STAT_T_ALIVE true).flag twPage TW.TW_STAT_T_ALIVE = true ∧ newer 3 1 = true ∧ newer 1 3 = false) := by decide +kernel

theorem test_witness_ResetAndTemperatureCommands :
    let s := State.reset
    s.svc.held ≠ .porst ∧ ({ s with svc := { s.svc with held := .thermal } } : State).svc.held = .thermal ∧ (799 : BitVec 12).toInt < 800 ∧
    (0 : BitVec 12).toInt < (s.dieTemp 0).fldS chipPage CHIP.TEMP_ALARM ∧
    (s.dieTemp 0x2D0).fldS chipPage CHIP.TEMP_ALARM ≤ (0x2D0 : BitVec 12).toInt ∧
    (s.setFld chipPage CHIP.STATE 6).fld chipPage CHIP.STATE = 6 ∧
    (s.setFlag mcPage MC.BOOT_CFG_FATAL_RESET_EN true).flag mcPage MC.BOOT_CFG_FATAL_RESET_EN = true ∧
    ({ s with svc := { s.svc with fatals := [0, 0] } } : State).recentFatals.length < 3 ∧
    (let b : State := { (lonely 1).setFld rdyPage RDY.RDY_TIME 0 1 with now := 25500000000 }
     b.fld rdyPage RDY.RDY_TIME 1 * 1000 + b.fldIn mcPage MC.BOOT_CFG_BOOT_HOLD 1 255 * 100000000 ≤ b.now ∧
     b.svc.fatalAt + b.fldIn mcPage MC.BOOT_CFG_FATAL_HOLD 1 255 * 100000000 ≤ b.now ∧ (b.wheel 8).clampAt + 1000000000 ≤ b.now) ∧
    ((lonely 1).flag rdyPage RDY.MC_RUN = true ∧ (lonely 1).tw.everPaired = false ∧ (lonely 1).twState = 1 ∧ (lonely 1).twinAbsent = true) ∧
    (let c := withFlds s [(loaderPage, LOADER.CUSTODY_KIND, 0, 2), (loaderPage, LOADER.CUSTODY_WHEEL, 0, 8)]
     c.fld loaderPage LOADER.CUSTODY_KIND = 2 ∧ c.fld loaderPage LOADER.CUSTODY_WHEEL = 8 ∧ c.flag (wheelPage 8) WHEEL.WH_STAT_CLAMP_SNS = false) ∧
    (s.setFlag loaderPage LOADER.LD_STAT_RECOVERY true).flag loaderPage LOADER.LD_STAT_RECOVERY = true := by decide +kernel

/-- Self-test is on; test 9 of stack 1 is asked for. -/
def testing : State :=
  let s := withFlds State.reset [(stPage, ST.ST_CFG_ST_EN, 0, 1), (stPage, ST.TEST_MASK, 0, 0x1FF), (stPage, ST.ST_CFG_AUTO_FORCE, 0, 1)]
  let s := { s with now := 2000000 * 1000000000 }
  { s with svc := { s.svc with request := some { test := 9, page := hbmPage 1 / 0x1000, cells := [0], failed := false, force := true } } }

theorem test_witness_SelfTestCommands_start :
    let s := testing
    let o := testObject 9 (s.covCursor 9)
    s.accepts stPage = true ∧ s.svc.request.any (fun q => decide (q.test = 9) && decide (q.cells = [0])) = true ∧
    s.mayTest (hbmPage 1 / 0x1000) = true ∧ s.spareFree 9 (hbmPage 1 / 0x1000) 0 = true ∧ s.mcSpare = true ∧ s.idleSlot 9 (hbmPage 1 / 0x1000) = true ∧ s.idleSlot 9 o.1 = true ∧
    s.fldBit stPage ST.TEST_MASK 8 = true ∧ s.flag stPage ST.ST_CFG_ST_EN = true ∧ s.flag (o.1 * 0x1000) HDR.TEST_PERMIT = true ∧
    s.mayTest o.1 = true ∧ s.spareFree 9 o.1 o.2 = true ∧
    (s.setFlag (o.1 * 0x1000) HDR.TEST_PERMIT false).flag (o.1 * 0x1000) HDR.TEST_PERMIT = false ∧
    s.stPeriod ≤ s.passAge 9 ∧ 9 ∉ s.svc.overdue ∧ s.flag stPage ST.ST_CFG_AUTO_FORCE = true ∧
    9 ∈ ({ s with svc := { s.svc with overdue := [9] } } : State).svc.overdue ∧ s.svc.forcedAt = [] ∧
    (let u : State := { s with svc := { s.svc with forcedAt := [(9, 0)] } }
     u.svc.forcedAt.find? (fun e => decide (e.1 = 9)) = some (9, 0) ∧ 0 + 600 ≤ u.poweredS) := by decide +kernel

theorem test_witness_SelfTestCommands_done :
    let r (k : TestKind) : TestRun := { test := 9, page := hbmPage 1 / 0x1000, cell := 0, kind := k }
    let s (f : Bool) (k : TestKind) (n : Nat) : State := { testing with svc := { testing.svc with
      tests := [r k], request := some { test := 9, page := hbmPage 1 / 0x1000, cells := List.range n, failed := false, force := f } } }
    ([true, false].all fun f => [TestKind.pass, .forced, .request].all fun k => [1, 2].all fun n =>
      decide ((s f k n).svc.tests.find? (fun x => decide (x.test = 9) && decide (x.kind = k)) = some (r k)) &&
      (((s f k n).testLeaves (r k)).istat (hbmPage 1) 5).svc.request.any (fun q => decide (q.cells.length = n) && decide (q.force = f))) = true ∧
    (let u := ((s true .request 2).testLeaves (r .request)).istat (hbmPage 1) 5
     u.spareFree 9 (hbmPage 1 / 0x1000) 1 = true ∧ u.flag (hbmPage 1) HDR.TEST_PERMIT = true) ∧
    ({ s true .pass 1 with fire := { State.reset.fire with holdup := true } } : State).fire.holdup = true := by decide +kernel

/-! Single steps, with what the rules say of them -/

/-- A condition on the next state. -/
def after (r : Res) (p : State → Bool) : Bool := match r with
  | .next t => p t
  | _ => false

/-- R54, R60: an interrupt enable takes its value and the write is answered with class 0. -/
theorem test_write_ien : after (exec (.registerWrite .mc (erPage + 0x14) ⟨0x80000001, 0⟩) State.reset)
    (fun t => decide (t.fld erPage HDR.PG_IEN = 0x80000001) && decide (t.out = [.writeDone .mc (erPage + 0x14) 0])) = true := by decide +kernel

/-- R58: PG_SEQ counts a write that changes a field and not one that changes none. -/
theorem test_page_seq : after (exec (.registerWrite .mc (erPage + 0x14) ⟨1, 0⟩) State.reset) (fun t => decide (t.fld erPage HDR.PG_SEQ = 1)) = true ∧
    after (exec (.registerWrite .mc (erPage + 0x14) ⟨0, 0⟩) State.reset) (fun t => decide (t.fld erPage HDR.PG_SEQ = 0)) = true := by decide +kernel

/-- R60: an address that is not a multiple of 4 is refused with CLASS 6, recorded in CHIP. -/
theorem test_write_unaligned : after (exec (.registerWrite .mc (erPage + 0x15) ⟨1, 0⟩) State.reset)
    (fun t => decide (t.fld chipPage HDR.LAST_ERR_CLASS = 6) && decide (t.fld erPage HDR.PG_IEN = 0)) = true := by decide +kernel

/-- R60, R87: an observer's write is refused with CLASS 5. -/
theorem test_write_observer : after (exec (.registerWrite (.steb 15) (erPage + 0x14) ⟨1, 0⟩) guarded)
    (fun t => decide (t.fld erPage HDR.LAST_ERR_CLASS = 5) && decide (t.fld erPage HDR.PG_IEN = 0)) = true := by decide +kernel

/-- R63: TIME_LO returns the low word and latches the high word. -/
theorem test_time_lo : after (exec (.timeLoRead .mc) { State.reset with now := 0x500000007 })
    (fun t => decide (t.out = [.readData .mc (chipPage + 0x54) 7]) && decide (storeFind (fun _ => 0) t.arb.latches 0 = 5)) = true := by decide +kernel

/-- R311: a command 11 of the sequencer is refused with CLASS 8 and result 11. -/
theorem test_seq_undefined : after (exec (.seqCmdUndefined .mc 0 11 0) State.reset)
    (fun t => decide (t.fld ctrlengPage HDR.LAST_ERR_CLASS = 8) && decide (t.out = [.writeDone .mc (ctrlengPage + 0x60) 8])) = true := by decide +kernel

/-- R168: the round trip saturates at 0xFFFF and excludes the companion's own delay. -/
theorem test_echo : after (exec (.echoRsp 32 0 0x12345 0x10) State.reset) (fun t => decide (t.fld (headPage 32) HEAD.LAT_RTT = 0xFFFF)) = true ∧
    after (exec (.echoRsp 0 0 0x35 0x10) State.reset) (fun t => decide (t.fld (headPage 0) HEAD.LAT_RTT = 0x25)) = true := by decide +kernel

/-- R11: an RC register clears when it is read. -/
theorem test_rc_read : after (exec (.rcRegisterRead .host (ckPage + 0x18) []) (State.reset.setFld ckPage HDR.PG_ECNT_C 9))
    (fun t => decide (t.fld ckPage HDR.PG_ECNT_C = 0) && decide (t.out = [.readData .host (ckPage + 0x18) 9])) = true := by decide +kernel

/-- R83: a repeat gets the kept response with FLAGS.REPLAYED (bit 1). -/
theorem test_repeat : after (exec (.sbRead 0 { version := 1, opcode := 0, tag := 0, count := 1, address := 0, status := 0, flags := 0 } [0]) keeping)
    (fun t => decide (t.out.length = 1) && t.out.all fun o => match o with
      | .sbDatagram _ b => decide ((b.drop 14).take 2 = [2, 0])
      | _ => false) = true := by decide +kernel

/-- R607: a flush discards what is complete and QSEQ goes on. -/
theorem test_flush : after (exec (.qFlushEffect 63) flushing)
    (fun t => decide ((t.oqueue 63).items = []) && decide ((t.oqueue 63).nextQseq = 5)) = true := by decide +kernel

/-- R554: HB_CNT counts. -/
theorem test_hb_cnt : after (exec .hbCntTick (State.reset.setFld hyPage HY.HB_CNT 6)) (fun t => decide (t.fld hyPage HY.HB_CNT = 7)) = true := by
  decide +kernel

/-- R620: a power-good that falls holds the chip in reset, and a command then changes nothing. -/
theorem test_held : after (exec .pwrgdFall State.reset) (fun t => decide (t.svc.held = .power)) = true := by decide +kernel

/-- R13: a set that meets the write of a 1 to its W1C bit wins; the bits that no set meets clear. -/
theorem test_w1c : after (exec (.registerWrite .mc (erPage + 0x10) ⟨3, 1⟩) (withFlds State.reset [(erPage, HDR.ISTAT, 0, 7)]))
    (fun t => decide (t.fld erPage HDR.ISTAT = 5)) = true := by decide +kernel

/-- R77: the 16 header bytes, each field in little-endian order at its offset. -/
theorem test_sb_header : sbHeaderBytes { version := 1, opcode := 2, tag := 0x1234, count := 3, address := 0xABCDEF, status := 4, flags := 0 } =
    [0x42, 0x53, 1, 2, 0x34, 0x12, 3, 0, 0xEF, 0xCD, 0xAB, 0, 4, 0, 0, 0] := by decide

/-- R633: the IDCODE. -/
theorem test_idcode : jtagIdcode = 0x16633A0F := by decide

/-- R171: a mark, which reads low, is negated and reads high; 64 is a gain of 1, and an offset of 2 is one LSB. -/
theorem test_conditioned : conditioned false 0 64 0 (-50) = 50 ∧ conditioned true 2 64 0 50 = 49 ∧ conditioned true 0 128 0 50 = 100 ∧
    conditioned true 0 64 32767 100 < 100 := by decide

/-- R185: no reliability gives an erasure, a long one saturates, 1 is a negative value; the fifth channel bit is dropped. -/
theorem test_softBit : softBit true true 0 255 = 0 ∧ softBit true true 4096 255 = -15 ∧ softBit false true 4096 255 = 15 ∧
    softBit true false 4096 255 = 0 ∧ softWord [1, 2, 3, 4, 5, 6, 7, 8, 9] = [1, 2, 3, 4, 6, 7, 8, 9] := by decide

/-- R221: the least of the other magnitudes times NORM/16 with the product of the other signs. -/
theorem test_checkNode : checkNode 12 [5, -3, 8] = [-2, 3, -2] ∧ checkNode 16 [-1, -2] = [-2, -1] := by decide

/-- R46: after an urgent grant, three cycles grant other classes before the next urgent one. -/
theorem test_spine_urgent :
    let i (n : Nat) : SpineItem := { port := 0, item := n, dest := none }
    let s := State.reset.setSpineOut 3 { SpineOut.idle with urgent := [i 1, i 2], data := { items := [i 3, i 4, i 5, i 6], credit := [] } }
    ((s.spineCycle 3).spineOut 3).urgent = [i 2] ∧ (((s.spineCycle 3).spineCycle 3).spineOut 3).data.items = [i 4, i 5, i 6] ∧
    ((((((s.spineCycle 3).spineCycle 3).spineCycle 3).spineCycle 3).spineCycle 3).spineOut 3).urgent = [] := by decide +kernel

/-- R341: commutation and float phase of step 0, with the transition that ends it: W falling. -/
theorem test_step0 : floatPhase 0 = 2 ∧ stepOf (transAt 2 false 0) = 0 ∧ stepOf (transAt 0 true 0) = 5 := by decide
end Sys2Proof.Tests
end

/-!
SUPPORT. Settling and the crossings: no RDY_SYS bit and no event touches the state of a control-class crossing,
so that a crossing holds after a command what the command's own effect gave it.
-/
namespace Sys2Proof.Machine

variable (s : State)

/-! What settling does to the crossings -/

@[simp] theorem State.event_arb (base code sev cell arg1 : Nat) (data : List Nat) :
    (s.event base code sev cell arg1 data).arb = s.arb := by
  unfold State.event
  split <;> rfl

@[simp] theorem State.setCut_arb_ctl (ns : List Nat) : (s.setCut ns).arb.ctl = s.arb.ctl := rfl

@[simp] theorem State.summaryRose_arb_ctl : s.summaryRose.arb.ctl = s.arb.ctl := by
  unfold State.summaryRose
  dsimp only
  split <;> simp

@[simp] theorem State.setRdy_arb_ctl (f : Fld) (b : Bool) : (s.setRdy f b).arb.ctl = s.arb.ctl := by
  unfold State.setRdy
  dsimp only
  split
  · simp
  · split <;> simp

@[simp] theorem State.settleBit_arb_ctl (x : Nat × Fld) : (s.settleBit x).arb.ctl = s.arb.ctl := by
  unfold State.settleBit
  split
  · split <;> simp
  · split <;> simp

@[simp] theorem State.settle_arb_ctl : s.settle.arb.ctl = s.arb.ctl :=
  settle_frame (fun t => t.arb.ctl) State.settleBit_arb_ctl s

@[simp] theorem State.settle_ctl (k : Nat) : s.settle.ctl k = s.ctl k := by
  simp only [State.ctl, State.settle_arb_ctl]

/-- The crossing that a command writes reads back as written, and in use. -/
@[simp] theorem State.ctl_setCtl_self (k : Nat) (c : CtlXing) : (s.setCtl k c).ctl k = { c with used := true } :=
  storeFind_storePut_self ..

end Sys2Proof.Machine

/-!
SUPPORT. Runs of commands that all complete, and how a control-class crossing outside RESYNC goes through its
handshake (R40, R41): one rule for each command and each stage of the transfer.
-/
namespace Sys2Proof.Machine

/-! Runs -/

/-- The state after some commands in order; none where one of them does not complete. -/
def runCmds (s : State) (cs : List Instr) : Option State :=
  cs.foldl (fun o c => o.bind fun u => match exec c u with
    | .next t => some t
    | _ => none) (some s)

theorem runCmds_cons {s t : State} {c : Instr} (h : exec c s = .next t) (cs : List Instr) :
    runCmds s (c :: cs) = runCmds t cs := by
  simp only [runCmds, List.foldl_cons, Option.bind_some, h]

theorem runCmds_append {s t : State} {cs : List Instr} (h : runCmds s cs = some t) (ds : List Instr) :
    runCmds s (cs ++ ds) = runCmds t ds := by
  unfold runCmds at h ⊢
  rw [List.foldl_append, h]

/-! The stages of a transfer -/

/-- A control-class crossing outside RESYNC: the value under transfer and whether the receiver has captured it, the
pending update, and the value the receiver holds. -/
structure CtlXing.Holds (c : CtlXing) (flight : Option (Nat × Bool)) (update : Option Nat) (recv : Nat) : Prop where
  resync : c.resync = false
  flight : c.flight = flight
  update : c.update = update
  recv : c.recv = recv

/-- A command that completes with a crossing written leaves the crossing holding what was written. -/
theorem done_setCtl_holds (s : State) {k : Nat} {c : CtlXing} {f : Option (Nat × Bool)} {p : Option Nat} {r : Nat}
    (h : c.Holds f p r) : ∃ t, done (s.setCtl k c) = .next t ∧ (t.ctl k).Holds f p r := by
  refine ⟨_, rfl, ?_⟩
  rw [State.settle_ctl, State.ctl_setCtl_self]
  exact ⟨h.resync, h.flight, h.update, h.recv⟩

section Rules
variable {x : Crossing} {s : State} {p : Option Nat} {r : Nat}

/-- Of a crossing at rest a value written is launched (R40). -/
theorem exec_controlValueWrite_idle (v : Nat) (h : (s.ctl (xingKey x)).Holds none p r) :
    ∃ t, exec (.controlValueWrite x v) s = .next t ∧ (t.ctl (xingKey x)).Holds (some (v, false)) none r := by
  have launches : exec (.controlValueWrite x v) s = done (s.setCtl (xingKey x)
      { s.ctl (xingKey x) with cur := v, flight := some (v, false), update := none }) := by
    change execControlValueWrite x v s = _
    simp [execControlValueWrite, h.resync, h.flight]
  rw [launches]
  exact done_setCtl_holds s ⟨h.resync, rfl, rfl, h.recv⟩

/-- While a transfer is pending a value written takes the place of the pending update (R41). -/
theorem exec_controlValueWrite_pending {f : Nat × Bool} (v : Nat) (h : (s.ctl (xingKey x)).Holds (some f) p r) :
    ∃ t, exec (.controlValueWrite x v) s = .next t ∧ (t.ctl (xingKey x)).Holds (some f) (some v) r := by
  have waits : exec (.controlValueWrite x v) s = done (s.setCtl (xingKey x)
      { s.ctl (xingKey x) with cur := v, update := some v }) := by
    change execControlValueWrite x v s = _
    simp [execControlValueWrite, h.resync, h.flight]
  rw [waits]
  exact done_setCtl_holds s ⟨h.resync, h.flight, rfl, h.recv⟩

/-- The receiver takes the value under transfer, and the pending update goes on waiting. -/
theorem exec_controlCapture_pending {v : Nat} (h : (s.ctl (xingKey x)).Holds (some (v, false)) p r) :
    ∃ t, exec (.controlCapture x) s = .next t ∧ (t.ctl (xingKey x)).Holds (some (v, true)) p v := by
  have takes : exec (.controlCapture x) s = done (s.setCtl (xingKey x)
      { s.ctl (xingKey x) with recv := v, stale := false, flight := some (v, true) }) := by
    change execControlCapture x s = _
    simp [execControlCapture, h.flight]
  rw [takes]
  exact done_setCtl_holds s ⟨h.resync, rfl, h.update, rfl⟩

/-- With no transfer pending there is nothing to take. -/
theorem exec_controlCapture_idle (h : (s.ctl (xingKey x)).Holds none p r) :
    ∃ t, exec (.controlCapture x) s = .next t ∧ (t.ctl (xingKey x)).Holds none p r := by
  have nothing : exec (.controlCapture x) s = done s := by
    change execControlCapture x s = _
    simp [execControlCapture, h.flight]
  exact ⟨_, nothing, by rwa [State.settle_ctl]⟩

/-- The acknowledgement of a captured value launches the pending update, if any (R41). -/
theorem exec_controlAckArrival_captured {v : Nat} (h : (s.ctl (xingKey x)).Holds (some (v, true)) p r) :
    ∃ t, exec (.controlAckArrival x) s = .next t ∧
      (t.ctl (xingKey x)).Holds (p.map fun n => (n, false)) none r := by
  have launches : exec (.controlAckArrival x) s = done (s.setCtl (xingKey x)
      { s.ctl (xingKey x) with flight := p.map fun n => (n, false), update := none }) := by
    change execControlAckArrival x s = _
    simp [execControlAckArrival, h.flight, h.update]
  rw [launches]
  exact done_setCtl_holds s ⟨h.resync, rfl, rfl, h.recv⟩

/-! Writes in a row -/

/-- While a transfer is pending, of any number of writes only the last is kept: each replaces the one before (R41). -/
theorem runCmds_writes_pending {f : Nat × Bool} (vs : List Nat) (h : (s.ctl (xingKey x)).Holds (some f) p r) :
    ∃ t, runCmds s (vs.map (.controlValueWrite x)) = some t ∧
      (t.ctl (xingKey x)).Holds (some f) (vs.getLast?.or p) r := by
  induction vs generalizing s p with
  | nil => exact ⟨s, rfl, h⟩
  | cons v vs ih =>
    obtain ⟨t, write, ht⟩ := exec_controlValueWrite_pending v h
    obtain ⟨u, run, hu⟩ := ih ht
    refine ⟨u, (runCmds_cons write _).trans run, ?_⟩
    have newest : (v :: vs).getLast?.or p = vs.getLast?.or (some v) := by
      rw [List.getLast?_cons]
      cases vs.getLast? <;> rfl
    rwa [newest]

/-- A crossing at rest: the first value is launched, the writes behind it leave the last of them pending, and the
receiver takes the first. -/
theorem runCmds_first_captured (v : Nat) (before : List Nat) (h : (s.ctl (xingKey x)).Holds none p r) :
    ∃ t, runCmds s ([.controlValueWrite x v] ++ before.map (.controlValueWrite x) ++ [.controlCapture x]) = some t ∧
      (t.ctl (xingKey x)).Holds (some (v, true)) before.getLast? v := by
  obtain ⟨s₁, write, h₁⟩ := exec_controlValueWrite_idle v h
  obtain ⟨s₂, run, h₂⟩ := runCmds_writes_pending before h₁
  rw [Option.or_none] at h₂
  obtain ⟨t, capture, ht⟩ := exec_controlCapture_pending h₂
  have writes : runCmds s ([.controlValueWrite x v] ++ before.map (.controlValueWrite x)) = some s₂ :=
    (runCmds_cons write _).trans run
  exact ⟨t, (runCmds_append writes _).trans (runCmds_cons capture []), ht⟩

/-- After the capture: the writes go on replacing the pending update, and the acknowledgement launches what is left
of them, while the receiver keeps the first value. -/
theorem runCmds_newest_launched {v : Nat} (after : List Nat) (h : (s.ctl (xingKey x)).Holds (some (v, true)) p r) :
    ∃ t, runCmds s (after.map (.controlValueWrite x) ++ [.controlAckArrival x]) = some t ∧
      (t.ctl (xingKey x)).Holds ((after.getLast?.or p).map fun n => (n, false)) none r := by
  obtain ⟨s₁, writes, h₁⟩ := runCmds_writes_pending after h
  obtain ⟨t, ack, ht⟩ := exec_controlAckArrival_captured h₁
  exact ⟨t, (runCmds_append writes _).trans (runCmds_cons ack []), ht⟩

end Rules

/-- Settles O9: each write behind the first takes the place of the pending update, so that the acknowledgement of the
first value launches the last of them, and a second capture brings it to the receiver. -/
theorem pendingUpdateIsTheNewest : Obligations.PendingUpdateIsTheNewest := by
  intro x s v before after k go hresync hflight
  obtain ⟨t, first, ht⟩ := runCmds_first_captured v before ⟨hresync, hflight, rfl, rfl⟩
  obtain ⟨u, second, hu⟩ := runCmds_newest_launched after ht
  rw [← List.getLast?_append] at hu
  cases newest : (before ++ after).getLast? with
  | none =>
    rw [newest] at hu
    obtain ⟨w, capture, hw⟩ := exec_controlCapture_idle hu
    exact ⟨t, u, w, first, ht.recv, second, hu.recv, runCmds_cons capture [], hu.flight, hw.recv⟩
  | some n =>
    rw [newest] at hu
    obtain ⟨w, capture, hw⟩ := exec_controlCapture_pending hu
    exact ⟨t, u, w, first, ht.recv, second, hu.recv, runCmds_cons capture [], hu.flight, hu.update, hw.recv⟩

end Sys2Proof.Machine

/-!
SUPPORT. Reads of the time (R63): what settling leaves of the arbiter's state, the number of a path, and the two
words of CHIP that make up a time.
-/
namespace Sys2Proof.Machine

/-! What settling does to the arbiter -/

section Arbiter

variable {α : Type} {o : ArbSt → α} (hseen : ∀ a b, o { a with summarySeen := b } = o a)
  (hcut : ∀ a ns, o { a with cut := ns } = o a) (s : State)

include hseen in
theorem summaryRose_arb_frame : o s.summaryRose.arb = o s.arb := by
  unfold State.summaryRose
  dsimp only
  split
  · rfl
  · rw [State.event_arb]
    exact hseen s.arb true

include hseen hcut in
theorem setRdy_arb_frame (f : Fld) (b : Bool) : o (s.setRdy f b).arb = o s.arb := by
  unfold State.setRdy
  dsimp only
  split
  · exact hcut s.arb _
  · split
    · rw [summaryRose_arb_frame hseen]
      exact hcut s.arb _
    · exact hcut s.arb _

include hseen hcut in
/-- Of the arbiter's state, settling changes only the bits that wait for READY and the mark that SUMMARY has been seen. -/
theorem settle_arb_frame : o s.settle.arb = o s.arb := by
  refine settle_frame (fun t => o t.arb) (fun t x => ?_) s
  unfold State.settleBit
  split
  · split
    · exact setRdy_arb_frame hseen hcut t x.2 true
    · rfl
  · split
    · exact hcut t.arb _
    · rfl

end Arbiter

@[simp] theorem State.settle_arb_latches (s : State) : s.settle.arb.latches = s.arb.latches :=
  settle_arb_frame (o := fun a => a.latches) (fun _ _ => rfl) (fun _ _ => rfl) s

/-! Paths and their latches -/

/-- No two paths have the same number. -/
theorem pathKey_injective : Function.Injective pathKey
  | .mc, .mc, _ | .host, .host, _ => rfl
  | .steb _, .steb _, h => congrArg Path.steb (Fin.ext (Nat.add_left_cancel h))
  | .mc, .host, h | .mc, .steb _, h | .host, .mc, h | .host, .steb _, h | .steb _, .mc, h | .steb _, .host, h => by
    simp only [pathKey] at h
    omega

/-- The latch of TIME_HI of a path. -/
def State.timeHi (s : State) (path : Path) : Nat := storeFind (fun _ => 0) s.arb.latches (pathKey path)

/-- The high word of the time is latched for a path (R63). -/
def State.latchTime (s : State) (path : Path) : State :=
  s.setArb { s.arb with latches := storePut (fun _ => 0) s.arb.latches (pathKey path) (s.now / 2 ^ 32 % 2 ^ 32) }

theorem State.latchTime_timeHi_self (s : State) (path : Path) :
    (s.latchTime path).timeHi path = s.now / 2 ^ 32 % 2 ^ 32 :=
  storeFind_storePut_self ..

theorem State.latchTime_timeHi_ne (s : State) {path other : Path} (h : other ≠ path) :
    (s.latchTime path).timeHi other = s.timeHi other :=
  storeFind_storePut_ne _ _ _ (pathKey_injective.ne h)

theorem State.settle_timeHi (s : State) (path : Path) : s.settle.timeHi path = s.timeHi path := by
  simp only [State.timeHi, State.settle_arb_latches]

/-! The words of the time -/

/-- The page CHIP. -/
def chipRef : PageRef := { kind := .chip, idx := 0, base := chipPage }

/-- A word of CHIP that is one read-only field, at the bit 0, is read as that field shows it; only TIME_LO latches. -/
theorem State.readWord_chip (s : State) (path : Path) {a : Nat} {f : Fld} (ha : a / 0x1000 = 0) (h4 : a % 4 = 0)
    (hx : fieldsAt a = [⟨chipPage, f, 0⟩]) (hacc : f.acc = .ro) (hlsb : f.lsb = 0) :
    s.readWord path a = (s.shown path chipRef ⟨chipPage, f, 0⟩, false, if a = chipPage + 0x54 then s.latchTime path else s) := by
  have hp : pageAt a = some chipRef := by
    unfold pageAt
    simp only [ha]
    rfl
  have good : badAddress a = false := by
    have inMap : a < 2 ^ 24 := by omega
    simpa [badAddress, assigned, hp, h4] using inMap
  have hwin : a ≠ erPage + 0x64 ∧ a ≠ obsqPage + 0x50 ∧ a ≠ outerPage + 0xC8 := by
    simp only [erPage, obsqPage, outerPage]
    omega
  obtain ⟨hlog, hqueue, hshard⟩ := hwin
  have nothingClears : s.clearRc [⟨chipPage, f, 0⟩] = s := by
    simp [State.clearRc, State.forEach, hacc]
  unfold State.readWord
  simp [good, hlog, hqueue, hshard, hp, hx, State.readFlds, State.readFld, nothingClears, State.meetRc, State.forEach, hacc, hlsb,
    State.latchTime]

theorem State.readWord_timeLo (s : State) (path : Path) :
    s.readWord path (chipPage + 0x54) = (s.now % 2 ^ 32, false, s.latchTime path) :=
  s.readWord_chip path (f := CHIP.TIME_LO) rfl rfl (by decide +kernel) rfl rfl

theorem State.readWord_timeHi (s : State) (path : Path) :
    s.readWord path (chipPage + 0x58) = (s.timeHi path % 2 ^ 32, false, s) :=
  s.readWord_chip path (f := CHIP.TIME_HI) rfl rfl (by decide +kernel) rfl rfl

/-- A live path reads TIME_LO: it gets the low word, and the high word is latched for it. -/
theorem exec_timeLoRead {s : State} {path : Path} (h : s.pathLive path = true) :
    exec (.timeLoRead path) s = .next ((s.latchTime path).send (.readData path (chipPage + 0x54) (s.now % 2 ^ 32))).settle := by
  change execTimeLoRead path s = _
  simp [execTimeLoRead, State.regRead, h, State.readWord_timeLo, done]

/-- A live path reads TIME_HI: it gets its own latch, and no latch moves. -/
theorem exec_timeHiRead {s : State} {path : Path} (h : s.pathLive path = true) :
    exec (.rcRegisterRead path (chipPage + 0x58) []) s =
      .next (s.send (.readData path (chipPage + 0x58) (s.timeHi path % 2 ^ 32))).settle := by
  change execRcRegisterRead path (chipPage + 0x58) [] s = _
  simp [execRcRegisterRead, State.regRead, h, State.readWord_timeHi, done]

/-- Settles O17: the read of TIME_LO writes the latch at its path's own number, and the later read of TIME_HI
returns what stands there. -/
theorem timeReadsLatchPerPath : Obligations.TimeReadsLatchPerPath := by
  intro path s hlive
  refine ⟨_, exec_timeLoRead hlive, ?_, ?_, ?_, ?_, ?_⟩
  · rw [State.settle_out]
    rfl
  · exact (State.settle_timeHi _ _).trans (s.latchTime_timeHi_self path)
  · exact fun other hne => (State.settle_timeHi _ _).trans (s.latchTime_timeHi_ne hne)
  · exact fun k hk => State.settle_reg _ hk
  · intro u hu hlatch
    have hhi : u.timeHi path = s.now / 2 ^ 32 % 2 ^ 32 :=
      hlatch.trans ((State.settle_timeHi _ _).trans (s.latchTime_timeHi_self path))
    refine ⟨_, exec_timeHiRead hu, State.settle_arb_latches _, ?_⟩
    rw [State.settle_out, hhi, Nat.mod_mod]
    rfl

end Sys2Proof.Machine

/-!
SUPPORT. Responses that a session keeps, and repeats of the requests they answer (R83).
-/
namespace Sys2Proof.Machine

/-! Sessions and registers -/

@[simp] theorem State.session_setSession_self (s : State) (i : Nat) (x : Option Session) :
    (s.setSession i x).session i = x :=
  storeFind_storePut_self ..

@[simp] theorem State.count_session (s : State) (b : Nat) (f : Fld) (n i j : Nat) :
    (s.count b f n i).session j = s.session j := rfl

@[simp] theorem State.send_session (s : State) (o : Out) (j : Nat) : (s.send o).session j = s.session j := rfl

theorem State.count_reg_ne (s : State) {b : Nat} {f : Fld} (n : Nat) {i k : Nat} (h : k ≠ fldKey b f i) :
    (s.count b f n i).reg k = s.reg k :=
  State.reg_setFld_ne s _ h

/-! Responses kept -/

/-- What a session keeps of a response (R83). -/
def State.keptOf (s : State) (req : SbHeader) (status count short : Nat) (payload : List Nat) : Kept :=
  { req := req, payload := payload, time := s.now,
    resp := { version := 1, opcode := if status = 0 then 0x20 else 0x21, tag := req.tag, count := count,
              address := req.address, status := status, flags := req.opcode % 256 * 256 + short } }

/-- A session keeps one more response, and of all the last 64. -/
def Session.keep (x : Session) (k : Kept) : Session :=
  let kept := x.kept ++ [k]
  { x with kept := kept.drop (kept.length - 64) }

/-- Behind 64 responses or fewer the new one is last, and at 64 the oldest goes. -/
theorem Session.keep_kept {x : Session} (h : x.kept.length ≤ 64) (k : Kept) :
    (x.keep k).kept = (if x.kept.length = 64 then x.kept.drop 1 else x.kept) ++ [k] := by
  simp only [Session.keep, List.length_append, List.length_singleton]
  split
  next full => rw [full, List.drop_append_of_le_length (by omega)]
  next room => rw [show x.kept.length + 1 - 64 = 0 by omega, List.drop_zero]

theorem Session.keep_kept_length (x : Session) (k : Kept) : (x.keep k).kept.length ≤ 64 := by
  simp only [Session.keep, List.length_drop]
  omega

section Respond

variable {s : State} {sid : SessionIx} {x : Session} (hx : s.session sid.val = some x) (req : SbHeader)
  (status count short : Nat) (payload : List Nat)

include hx

/-- A response to an open session is kept and sent, and a NAK counts. -/
theorem State.sbRespond_open :
    s.sbRespond sid req status count payload short =
      (let k := s.keptOf req status count short payload
       let t := (s.setSession sid.val (some (x.keep k))).send (.sbDatagram sid (sbDatagram k.resp payload))
       if status = 0 then t else t.count stebaroPage STEBARO.SB_NAK_CNT) := by
  unfold State.sbRespond
  simp only [hx]
  rfl

theorem State.sbRespond_session :
    (s.sbRespond sid req status count payload short).session sid.val =
      some (x.keep (s.keptOf req status count short payload)) := by
  rw [State.sbRespond_open hx]
  dsimp only
  split <;> simp

theorem State.sbRespond_out :
    (s.sbRespond sid req status count payload short).out =
      s.out ++ [.sbDatagram sid (sbDatagram (s.keptOf req status count short payload).resp payload)] := by
  rw [State.sbRespond_open hx]
  dsimp only
  split <;> rfl

end Respond

/-! Repeats -/

/-- The header with which a kept response is sent again: FLAGS.REPLAYED is set (R83). -/
def Kept.replayed (k : Kept) : SbHeader := { k.resp with flags := k.resp.flags / 4 * 4 + k.resp.flags % 2 + 2 }

/-- A kept response goes out again; a NAK counts again. -/
def State.replay (s : State) (sid : SessionIx) (k : Kept) : State :=
  let t := s.send (.sbDatagram sid (sbDatagram k.replayed k.payload))
  if k.replayed.opcode = 0x21 then t.count stebaroPage STEBARO.SB_NAK_CNT else t

section Replay

variable (s : State) (sid : SessionIx) (k : Kept)

theorem State.replay_out : (s.replay sid k).out = s.out ++ [.sbDatagram sid (sbDatagram k.replayed k.payload)] := by
  unfold State.replay
  dsimp only
  split <;> rfl

theorem State.replay_words : (s.replay sid k).words = s.words := by
  unfold State.replay
  dsimp only
  split <;> rfl

theorem State.replay_reg {key : Nat} (h : key ≠ fldKey stebaroPage STEBARO.SB_NAK_CNT 0) :
    (s.replay sid k).reg key = s.reg key := by
  unfold State.replay
  dsimp only
  split
  · exact State.count_reg_ne _ _ h
  · rfl

end Replay

/-- The responses of a session that are not older than 1 s (R83). -/
def Session.unexpired (x : Session) (now : Nat) : List Kept := x.kept.filter fun k => decide (now ≤ k.time + 1000000000)

/-- A datagram of an open session moves nothing but the session. -/
theorem State.sbTouch_open {s : State} {i : Nat} {x : Session} (hx : s.session i = some x) :
    s.sbTouch i = s.setSession i (some { x with lastDatagram := s.now, kept := x.unexpired s.now }) := by
  unfold State.sbTouch
  simp only [hx]
  rfl

/-- A kept response that is not expired, and the only one for its request, is the one that a repeat finds. -/
theorem Session.find_unexpired {x : Session} {k : Kept} {now : Nat} (hk : k ∈ x.kept) (hnow : now ≤ k.time + 1000000000)
    (only : ∀ j ∈ x.kept, j.req = k.req → j = k) : (x.unexpired now).find? (fun j => decide (j.req = k.req)) = some k := by
  have mem : k ∈ x.unexpired now := List.mem_filter.2 ⟨hk, decide_eq_true hnow⟩
  cases found : (x.unexpired now).find? (fun j => decide (j.req = k.req)) with
  | none => exact absurd (decide_eq_true rfl) (List.find?_eq_none.1 found k mem)
  | some j =>
    have hj : j ∈ x.kept := (List.mem_filter.1 (List.mem_of_find?_eq_some found)).1
    exact congrArg some (only j hj (by simpa using List.find?_some found))

/-- A repeat is answered from what is kept, whatever its payload and whatever its operation would do (R83). -/
theorem State.sbRequest_repeat {s : State} {sid : SessionIx} {x : Session} {k : Kept} (hlive : s.svc.held = .no)
    (hx : s.session sid.val = some x) (found : (x.unexpired s.now).find? (fun j => decide (j.req = k.req)) = some k)
    (words : Nat) (run : State → State) :
    s.sbRequest sid k.req words run = (s.sbTouch sid.val).replay sid k := by
  have heard : (s.sbTouch sid.val).session sid.val = some { x with lastDatagram := s.now, kept := x.unexpired s.now } := by
    rw [State.sbTouch_open hx, State.session_setSession_self]
  unfold State.sbRequest
  simp only [hlive, hx, heard, found, ne_eq, not_true_eq_false, if_false]
  rfl

/-- Settles O8: the response is appended to the last 64; and a request with the header of a kept one takes the
branch of repeats, which runs no operation. -/
theorem repeatsAreNotExecutedAgain : Obligations.RepeatsAreNotExecutedAgain := by
  intro sid s
  constructor
  · intro x req status count short payload hx hlen
    exact ⟨_, s.keptOf req status count short payload, State.sbRespond_session hx .., rfl, rfl, rfl,
      x.keep_kept_length _, Session.keep_kept hlen _, State.sbRespond_out hx ..⟩
  · intro x k i hlive hx hk hnow only hi
    obtain ⟨words, run, command⟩ : ∃ words run, exec i s = done (s.sbRequest sid k.req words run) := by
      rcases hi with ⟨hdr, addrs, hreq, rfl⟩ | ⟨hdr, pairs, hreq, rfl⟩ | ⟨hdr, hreq, rfl⟩ | ⟨hdr, values, hreq, rfl⟩ |
        ⟨hdr, hreq, rfl⟩ | ⟨hdr, f, hreq, rfl⟩ | ⟨words, rfl⟩
      rotate_right
      · exact ⟨words, _, rfl⟩
      all_goals exact hreq ▸ ⟨_, _, rfl⟩
    have replayed := State.sbRequest_repeat hlive hx (Session.find_unexpired hk hnow only) words run
    rw [State.sbTouch_open hx] at replayed
    refine ⟨_, command.trans (congrArg done replayed), ?_, ?_, ?_⟩
    · rw [State.settle_out, State.replay_out]
      rfl
    · rw [State.settle_words, State.replay_words]
      rfl
    · intro key hnak hkey
      rw [State.settle_reg _ hkey, State.replay_reg _ _ _ hnak]
      rfl

end Sys2Proof.Machine

/-!
SUPPORT. The recorder when an event comes (R595-R597): what settling leaves of it, counters and PG_ISTAT bits, and the
two ways in which an event is not stored.
-/
namespace Sys2Proof.Machine

/-! What settling does to the recorder -/

section Raised

variable {α : Type} {o : RecSt → α} (hraised : ∀ r es, o { r with raised := es } = o r) (s : State)

include hraised

theorem event_recd_frame (base code sev cell arg1 : Nat) (data : List Nat) :
    o (s.event base code sev cell arg1 data).recd = o s.recd := by
  unfold State.event
  split <;> exact hraised _ _

theorem summaryRose_recd_frame : o s.summaryRose.recd = o s.recd := by
  unfold State.summaryRose
  dsimp only
  split
  · rfl
  · exact event_recd_frame hraised ..

theorem setRdy_recd_frame (f : Fld) (b : Bool) : o (s.setRdy f b).recd = o s.recd := by
  unfold State.setRdy
  dsimp only
  split
  · rfl
  · split
    · exact summaryRose_recd_frame hraised _
    · rfl

/-- Of the recorder's state, settling changes only the events that have been raised. -/
theorem settle_recd_frame : o s.settle.recd = o s.recd := by
  refine settle_frame (fun t => o t.recd) (fun t x => ?_) s
  unfold State.settleBit
  split
  · split
    · exact setRdy_recd_frame hraised t x.2 true
    · rfl
  · split <;> rfl

end Raised

section Settled

variable (s : State)

@[simp] theorem State.settle_recd_log : s.settle.recd.log = s.recd.log :=
  settle_recd_frame (o := fun r => r.log) (fun _ _ => rfl) s

@[simp] theorem State.settle_recd_nextSeq : s.settle.recd.nextSeq = s.recd.nextSeq :=
  settle_recd_frame (o := fun r => r.nextSeq) (fun _ _ => rfl) s

@[simp] theorem State.settle_recd_mirror : s.settle.recd.mirror = s.recd.mirror :=
  settle_recd_frame (o := fun r => r.mirror) (fun _ _ => rfl) s

@[simp] theorem State.settle_recd_mirrorQ : s.settle.recd.mirrorQ = s.recd.mirrorQ :=
  settle_recd_frame (o := fun r => r.mirrorQ) (fun _ _ => rfl) s

end Settled

/-! Counters and PG_ISTAT bits -/

/-- A counter that counts stops at the highest value of its field. -/
theorem State.fld_count_self (s : State) (b : Nat) (f : Fld) (n i : Nat) :
    (s.count b f n i).fld b f i = min (2 ^ f.width - 1) (s.fld b f i + n) := by
  have fits : min (2 ^ f.width - 1) (s.fld b f i + n) < 2 ^ f.width := by
    have := Nat.two_pow_pos f.width
    omega
  exact (State.fld_setFld_self ..).trans (Nat.mod_eq_of_lt fits)

/-- A cut to a width keeps the bits below it. -/
theorem bitOf_mod_two_pow (v : Nat) {n w : Nat} (h : n < w) : bitOf (v % 2 ^ w) n = bitOf v n := by
  have e : ∀ u, bitOf u n = u.testBit n := fun u => Nat.testBit_eq_decide_div_mod_eq.symm
  rw [e, e, Nat.testBit_mod_two_pow, decide_eq_true h, Bool.true_and]

/-- A PG_ISTAT bit that hardware sets reads 1. -/
theorem State.fldBit_istat_self (s : State) (b : Nat) {n : Nat} (h : n < 32) :
    (s.istat b n).fldBit b HDR.ISTAT n = true := by
  have e : (s.istat b n).fld b HDR.ISTAT = setBit (s.fld b HDR.ISTAT) n true % 2 ^ 32 := State.fld_setFld_self ..
  rw [State.fldBit, e, bitOf_mod_two_pow _ h, bitOf_setBit_self]

theorem State.istat_reg_ne (s : State) {b k : Nat} (n : Nat) (h : k ≠ fldKey b HDR.ISTAT 0) :
    (s.istat b n).reg k = s.reg k :=
  State.reg_setFld_ne s _ h

theorem State.settle_fldBit (s : State) {b : Nat} {f : Fld} {i : Nat} (n : Nat) (h : fldKey b f i ∉ settleKeys) :
    s.settle.fldBit b f n i = s.fldBit b f n i := by
  simp only [State.fldBit, State.settle_fld s h]

/-! An event comes -/

/-- The oldest raised event leaves the queue of raised events and is recorded. -/
theorem exec_eventRaised_cons {s : State} {e : Event} {rest : List Event} (h : s.recd.raised = e :: rest) :
    exec .eventRaised s = .next ((s.withRec fun r => { r with raised := rest }).record e).settle := by
  change execEventRaised s = _
  unfold execEventRaised State.recordNext
  rw [h]
  rfl

/-- Two events are identical when a change of the time alone makes one the other (R595). -/
theorem Event.same_iff (a b : Event) : a.same b = true ↔ { a with time := b.time } = b := by
  cases a
  cases b
  simp [Event.same]

/-! Folding -/

/-- The record of an event that has come once more at `time` (R595). -/
def Record.again (r : Record) (time : Nat) : Record :=
  { r with rep := min 0xFFFF (r.rep + 1), lastTime := time, repSat := r.repSat || decide (0xFFFF ≤ r.rep + 1) }

/-- A record has a copy in the mirror, or one that waits for it. -/
def State.hasCopy (s : State) (r : Record) : Bool := r.mirrored || s.recd.mirrorQ.any fun y => y.seq == r.seq

theorem State.hasCopy_iff (s : State) (r : Record) :
    s.hasCopy r = true ↔ r.mirrored = true ∨ ∃ y ∈ s.recd.mirrorQ, y.seq = r.seq := by
  simp [State.hasCopy]

/-- An event at `time` folds into the newest record (R595): FOLD_CNT counts, and the copy of a record that has one is due
for renewal. -/
def State.foldNewest (s : State) (old : List Record) (r : Record) (time : Nat) : State :=
  let t := (s.withRec fun x => { x with log := old ++ [r.again time] }).count erPage ER.FOLD_CNT
  if s.hasCopy r then t.queueMirror (r.again time) else t

/-- An event identical to the newest record folds into it. -/
theorem State.record_same {s : State} {e : Event} {old : List Record} {r : Record} (hlog : s.recd.log = old ++ [r])
    (same : { r.ev with time := e.time } = e) : s.record e = s.foldNewest old r e.time := by
  unfold State.record
  simp only [hlog, (Event.same_iff _ _).2 same, if_true, List.dropLast_concat, List.getLast?_concat, Option.map_some,
    Option.toList_some, State.count, State.withRec, State.setFld_recd]
  rfl

/-- A record that is to be mirrored waits for it as it stands now. -/
theorem State.mem_queueMirror (s : State) (x : Record) : x ∈ (s.queueMirror x).recd.mirrorQ := by
  unfold State.queueMirror State.withRec
  dsimp only
  split
  next waits =>
    obtain ⟨y, hy, hseq⟩ := List.any_eq_true.1 waits
    exact List.mem_map.2 ⟨y, hy, if_pos (eq_of_beq hseq)⟩
  next => exact List.mem_append_right _ (List.mem_singleton_self x)

section Fold

variable (s : State) (old : List Record) (r : Record) (time : Nat)

/-- What the queue of the mirror does not show is after a fold as the new record and FOLD_CNT leave it. -/
theorem State.foldNewest_frame {α : Type} (o : State → α) (ho : ∀ t x, o (State.queueMirror t x) = o t) :
    o (s.foldNewest old r time) = o ((s.withRec fun x => { x with log := old ++ [r.again time] }).count erPage ER.FOLD_CNT) := by
  unfold State.foldNewest
  dsimp only
  split
  · exact ho _ _
  · rfl

theorem State.foldNewest_log : (s.foldNewest old r time).recd.log = old ++ [r.again time] :=
  State.foldNewest_frame s old r time (fun t => t.recd.log) fun _ _ => rfl

theorem State.foldNewest_nextSeq : (s.foldNewest old r time).recd.nextSeq = s.recd.nextSeq :=
  State.foldNewest_frame s old r time (fun t => t.recd.nextSeq) fun _ _ => rfl

theorem State.foldNewest_words : (s.foldNewest old r time).words = s.words :=
  State.foldNewest_frame s old r time State.words fun _ _ => rfl

theorem State.foldNewest_sess : (s.foldNewest old r time).sess = s.sess :=
  State.foldNewest_frame s old r time State.sess fun _ _ => rfl

/-- Of the registers, a fold counts FOLD_CNT. -/
theorem State.foldNewest_reg (k : Nat) : (s.foldNewest old r time).reg k = (s.count erPage ER.FOLD_CNT).reg k :=
  State.foldNewest_frame s old r time (fun t => t.reg k) fun _ _ => rfl

theorem State.foldNewest_mirrorQ_of_copy (h : s.hasCopy r = true) : r.again time ∈ (s.foldNewest old r time).recd.mirrorQ := by
  unfold State.foldNewest
  rw [if_pos h]
  exact State.mem_queueMirror _ _

theorem State.foldNewest_mirrorQ_of_no_copy (h : s.hasCopy r = false) :
    (s.foldNewest old r time).recd.mirrorQ = s.recd.mirrorQ := by
  unfold State.foldNewest
  rw [h, if_neg Bool.false_ne_true]
  rfl

end Fold

/-- Settles O11: the event folds into the newest record, whose copy, if it has one, is queued for the mirror. -/
theorem identicalEventsFold : Obligations.IdenticalEventsFold := by
  intro s e rest old r hraised hlog same
  let s₀ := s.withRec fun x => { x with raised := rest }
  have folds : exec .eventRaised s = .next (s₀.foldNewest old r e.time).settle := by
    rw [exec_eventRaised_cons hraised, State.record_same (s := s₀) hlog same]
  have log : (s₀.foldNewest old r e.time).settle.recd.log = old ++ [r.again e.time] := by
    rw [State.settle_recd_log, State.foldNewest_log]
  refine ⟨_, folds, ?_, ⟨r.again e.time, log, rfl, rfl, rfl, rfl, rfl⟩, ?_, ⟨fun due => ?_, fun notDue => ?_⟩, ?_, ?_, ?_⟩
  · rw [State.settle_recd_nextSeq, State.foldNewest_nextSeq]
    rfl
  · have key : fldKey erPage ER.FOLD_CNT 0 ∉ settleKeys := by decide +kernel
    rw [State.settle_fld _ key, State.fld_eq_reg, State.foldNewest_reg, ← State.fld_eq_reg, State.fld_count_self]
    rfl
  · refine ⟨r.again e.time, by rw [log, List.getLast?_concat]; rfl, ?_⟩
    rw [State.settle_recd_mirrorQ]
    exact State.foldNewest_mirrorQ_of_copy _ _ _ _ ((State.hasCopy_iff s r).2 due)
  · rw [State.settle_recd_mirrorQ]
    exact State.foldNewest_mirrorQ_of_no_copy s₀ _ _ _ (Bool.eq_false_iff.2 fun copied => notDue ((State.hasCopy_iff s r).1 copied))
  · rw [State.settle_words, State.foldNewest_words]
    rfl
  · rw [State.settle_sess, State.foldNewest_sess]
    rfl
  · intro k hk hs
    rw [State.settle_reg _ hs, State.foldNewest_reg, State.count_reg_ne _ _ hk]
    rfl

/-! Drops -/

/-- A new event of severity `sev` may remove a record (R596). -/
def mayRemove (keep : Record → Bool) (sev : Nat) (r : Record) : Bool := decide (r.ev.sev ≤ sev) && !keep r

theorem mayRemove_eq_not (keep : Record → Bool) (sev : Nat) (r : Record) :
    mayRemove keep sev r = !(decide (sev < r.ev.sev) || keep r) := by
  rw [mayRemove, Bool.not_or, ← decide_not, decide_eq_decide.2 Nat.not_lt]

/-- The removals free no more units than the removable records take. -/
theorem removeOld_free_le (keep : Record → Bool) (sev need free : Nat) (rs : List Record) :
    (removeOld keep sev need free rs).2.1 ≤ free + unitsUsed (rs.filter (mayRemove keep sev)) := by
  induction rs generalizing free with
  | nil => exact Nat.le_refl _
  | cons r rs ih =>
    unfold removeOld
    split
    next => exact Nat.le_add_right ..
    next =>
      rw [List.filter_cons, mayRemove_eq_not]
      split
      next passedOver =>
        rw [passedOver]
        exact ih free
      next removed =>
        rw [Bool.eq_false_iff.2 removed]
        exact Nat.le_trans (ih (free + r.ev.units)) (Nat.le_of_eq (Nat.add_assoc ..))

/-- A new event for which the removable records cannot free enough units is counted, and nothing else is done (R597). -/
theorem State.record_no_room {s : State} {e : Event} (new : ∀ r, s.recd.log.getLast? = some r → { r.ev with time := e.time } ≠ e)
    (full : (logUnits - unitsUsed s.recd.log) + unitsUsed (s.recd.log.filter (mayRemove s.beingRead e.sev)) < e.units) :
    s.record e = (s.count erPage ER.DROP_CNT).istat erPage 9 := by
  have short := Nat.lt_of_le_of_lt (removeOld_free_le s.beingRead e.sev e.units (logUnits - unitsUsed s.recd.log) s.recd.log) full
  unfold State.record
  cases newest : s.recd.log.getLast? with
  | none => exact if_pos short
  | some r =>
    have differs : r.ev.same e ≠ true := fun same => new r newest ((Event.same_iff _ _).1 same)
    exact (if_neg differs).trans (if_pos short)

/-- Settles O12: the removals free at most what the removable records take, so that the event is dropped. -/
theorem dropsKeepTheLog : Obligations.DropsKeepTheLog := by
  intro s e rest hraised new removable full t
  have drops : exec .eventRaised s = .next ((t.count erPage ER.DROP_CNT).istat erPage 9).settle := by
    rw [exec_eventRaised_cons hraised]
    exact congrArg (fun u : State => Host.Outcome.next u.settle) (State.record_no_room (s := t) new full)
  refine ⟨_, drops, rfl, ?_, ?_, ?_, ?_, ?_, ?_, ?_⟩
  · rw [State.settle_recd_log]
    rfl
  · rw [State.settle_recd_nextSeq]
    rfl
  · rw [State.settle_recd_mirror]
    rfl
  · rw [State.settle_recd_mirrorQ]
    rfl
  · have key : fldKey erPage ER.DROP_CNT 0 ∉ settleKeys := by decide +kernel
    have apart : fldKey erPage ER.DROP_CNT 0 ≠ fldKey erPage HDR.ISTAT 0 := by decide
    rw [State.settle_fld _ key, State.fld_eq_reg, State.istat_reg_ne _ _ apart, ← State.fld_eq_reg, State.fld_count_self]
    rfl
  · have key : fldKey erPage HDR.ISTAT 0 ∉ settleKeys := by decide +kernel
    rw [State.settle_fldBit _ _ key]
    exact State.fldBit_istat_self _ _ (by decide)
  · intro k hcount histat hs
    rw [State.settle_reg _ hs, State.istat_reg_ne _ _ histat, State.count_reg_ne _ _ hcount]
    rfl

end Sys2Proof.Machine

/-!
SUPPORT. The observation queues (R602, R606, R607): which updates leave the queues alone, an item that enters an empty
queue, and a flush from the write of Q_FLUSH to the packet boundary.
-/
namespace Sys2Proof.Machine

/-! Queues -/

theorem State.oqueue_congr {s t : State} (h : t.oq = s.oq) (q : Nat) : t.oqueue q = s.oqueue q := by
  unfold State.oqueue
  rw [h]

@[simp] theorem State.oqueue_setOqueue_self (s : State) (q : Nat) (x : OQueue) : (s.setOqueue q x).oqueue q = x :=
  storeFind_storePut_self ..

theorem State.oqueue_setOqueue_ne (s : State) {p q : Nat} (x : OQueue) (h : p ≠ q) :
    (s.setOqueue q x).oqueue p = s.oqueue p :=
  storeFind_storePut_ne _ _ _ h

@[simp] theorem State.settle_oqueue (s : State) (q : Nat) : s.settle.oqueue q = s.oqueue q :=
  State.oqueue_congr s.settle_oq q

theorem State.send_oqueue (s : State) (o : Out) (q : Nat) : (s.send o).oqueue q = s.oqueue q := rfl

/-! Updates that leave the queues alone -/

theorem State.hbmPut_oq (s : State) (a : Nat) (bs : List Nat) : (s.hbmPut a bs).oq = s.oq := by
  unfold State.hbmPut State.setMemWord
  rw [State.setMem_oq, State.setMem_oq]

theorem State.hbmRingPut_oq (s : State) (base size off n : Nat) (bs : List Nat) :
    (s.hbmRingPut base size off n bs).oq = s.oq := by
  induction n generalizing s off bs with
  | zero => rfl
  | succ n ih =>
    unfold State.hbmRingPut
    rw [ih, State.hbmPut_oq]

theorem State.storeItem_oq (s : State) (q : Nat) (i : OqItem) : (s.storeItem q i).oq = s.oq := by
  unfold State.storeItem
  split
  · rfl
  · exact State.hbmRingPut_oq ..

theorem State.forEach_oq {α : Type} {f : State → α → State} (hf : ∀ s x, (f s x).oq = s.oq) (s : State) (xs : List α) :
    (s.forEach xs f).oq = s.oq := by
  induction xs generalizing s with
  | nil => rfl
  | cons x xs ih => exact (ih (f s x)).trans (hf s x)

/-- The copies for subscribers leave the queues alone. -/
theorem State.deliver_oq (s : State) (p : SubFilter → Bool) (e : SubEntry) : (s.deliver p e).oq = s.oq := by
  refine State.forEach_oq (fun t k => ?_) s _
  split
  · split
    · split
      · dsimp only
        split <;> rfl
      · rfl
    · rfl
  · rfl

/-! An item enters an empty queue -/

/-- The only item of a queue leaves the write buffer for a place in HBM, or stays as it is. -/
theorem State.drainQueue_single {s : State} {q : Nat} {i : OqItem} (h : (s.oqueue q).items = [i]) :
    ∃ pos, ((s.drainQueue q).oqueue q).items = [{ i with pos := pos }] := by
  unfold State.drainQueue
  rw [h, List.foldl_cons, List.foldl_nil]
  split
  · split
    · refine ⟨some (s.oqueue q).wptr, ?_⟩
      unfold State.placeItem
      dsimp only
      rw [State.oqueue_congr (State.storeItem_oq ..), State.oqueue_setOqueue_self, h, List.map_singleton, if_pos rfl]
    · exact ⟨i.pos, h⟩
  · exact ⟨i.pos, h⟩

/-- An item that fits into an enabled, empty queue takes the queue's next number and stands there alone (R606). -/
theorem State.putItem_empty {s : State} {q : Nat} {i : OqItem} (empty : (s.oqueue q).items = [])
    (enabled : s.cfg obsqPage OBSQ.Q_CFG_ENABLE q ≠ 0) (fits : s.itemFits (s.oqueue q) i.len = true) :
    ∃ pos, ((s.putItem q i).oqueue q).items = [{ i with qseq := (s.oqueue q).nextQseq, pos := pos }] := by
  let numbered : OqItem := { i with qseq := (s.oqueue q).nextQseq }
  let x : OQueue := { s.oqueue q with items := (s.oqueue q).items ++ [numbered], nextQseq := ((s.oqueue q).nextQseq + 1) % 2 ^ 32
                                      dropRaised := (s.oqueue q).dropRaised && !(s.oqueue q).items.isEmpty }
  have entered : ((s.setOqueue q x).oqueue q).items = [numbered] := by
    rw [State.oqueue_setOqueue_self]
    exact congrArg (· ++ [numbered]) empty
  obtain ⟨pos, drained⟩ := State.drainQueue_single entered
  refine ⟨pos, ?_⟩
  have put : (s.putItem q i).oq = ((s.setOqueue q x).drainQueue q).oq := by
    unfold State.putItem
    dsimp only
    rw [if_neg enabled, if_pos (show s.itemFits _ numbered.len = true from fits), State.deliver_oq]
    split <;> rfl
  rw [State.oqueue_congr put, drained]

/-- QUEUE_ITEM_WRITE takes the oldest item that waits for the queue (R606). -/
theorem exec_queueItemWrite_waiting {s : State} {q : QueueIx} {x : Nat × OqItem}
    (h : s.oq.waiting.find? (fun x => x.1 == q.val) = some x) :
    exec (.queueItemWrite q) s =
      .next (State.putItem { s with oq := { s.oq with waiting := s.oq.waiting.erase x } } q.val x.2).settle := by
  change execQueueItemWrite q s = _
  unfold execQueueItemWrite
  rw [h]
  rfl

/-! Flushes -/

/-- A write of Q_FLUSH without ALL that passes marks the queue it names (R607). -/
theorem exec_qFlush_passes {s : State} {path : Path} {q : QueueIx} (h : s.Passes path (obsqPage + 0x58) q.val) :
    exec (.qFlush path q) s = answered path (obsqPage + 0x58) (s.requestFlush q.val) := by
  have page : pageAt (obsqPage + 0x58) = some ⟨.obsq, 0, obsqPage⟩ := by decide +kernel
  have plain : s.put path (obsqPage + 0x58) q.val = s := State.put_of_plain page (by decide +kernel)
  have below : q.val < 2 ^ 6 := q.isLt
  have one : bitOf q.val 6 = false := by
    rw [bitOf, Nat.div_eq_of_lt below]
    rfl
  change execQFlush path q s = _
  unfold execQFlush
  rw [State.regSet_passes h page (by decide +kernel) (by decide) (by decide) (by decide), plain]
  simp only [State.wrote, one, Nat.mod_eq_of_lt q.isLt]
  rfl

theorem State.requestFlush_oqueue_self (s : State) (q : Nat) : (s.requestFlush q).oqueue q = { s.oqueue q with flush := true } :=
  State.oqueue_setOqueue_self ..

theorem exec_qFlushEffect_reading {s : State} {q : QueueIx} (h : s.oqInProgress q.val = true) :
    exec (.qFlushEffect q) s = .next s.settle := by
  change execQFlushEffect q s = _
  simp [execQFlushEffect, h, done]

theorem exec_qFlushEffect_boundary {s : State} {q : QueueIx} (hflush : (s.oqueue q.val).flush = true)
    (hread : s.oqInProgress q.val = false) : exec (.qFlushEffect q) s = .next (s.flushQueue q.val).settle := by
  change execQFlushEffect q s = _
  simp [execQFlushEffect, hflush, hread, done]

theorem State.flushQueue_oqueue_self (s : State) (q : Nat) :
    (s.flushQueue q).oqueue q = { s.oqueue q with items := [], flush := false, dropRaised := false } :=
  State.oqueue_setOqueue_self ..

theorem State.flushQueue_oqueue_ne (s : State) {p q : Nat} (h : p ≠ q) : (s.flushQueue q).oqueue p = s.oqueue p :=
  State.oqueue_setOqueue_ne s _ h

/-- Settles O10: the write marks the queue, the boundary empties it and nothing more, and the next item to be written
stands alone in it, with the number that was next before the flush. -/
theorem flushDiscardsCompleteItems : Obligations.FlushDiscardsCompleteItems := by
  intro q s
  refine ⟨fun path h => ⟨_, exec_qFlush_passes h, ?_, ?_⟩, fun _ hread => exec_qFlushEffect_reading hread, fun hflush hread => ?_⟩
  · rw [State.settle_oqueue, State.send_oqueue, State.requestFlush_oqueue_self]
  · rw [State.settle_oqueue, State.send_oqueue, State.requestFlush_oqueue_self]
  · have flushed : (s.flushQueue q.val).settle.oqueue q.val =
        { s.oqueue q.val with items := [], flush := false, dropRaised := false } := by
      rw [State.settle_oqueue, State.flushQueue_oqueue_self]
    refine ⟨_, exec_qFlushEffect_boundary hflush hread, congrArg OQueue.items flushed, congrArg OQueue.flush flushed,
      by rw [flushed], fun p hp => ?_, ?_, ?_, ?_, fun k histat hs => ?_, fun i next enabled fits => ?_⟩
    · rw [State.settle_oqueue, State.flushQueue_oqueue_ne s hp]
    · rw [State.settle_oq]
      rfl
    · rw [State.settle_oq]
      rfl
    · have key : fldKey obsqPage HDR.ISTAT 0 ∉ settleKeys := by decide +kernel
      rw [State.settle_fldBit _ _ key]
      exact State.fldBit_istat_self _ _ (by decide)
    · rw [State.settle_reg _ hs]
      exact State.istat_reg_ne _ _ histat
    · have waits : (s.flushQueue q.val).settle.oq.waiting.find? (fun x => x.1 == q.val) = some (q.val, i) := by
        rw [State.settle_oq]
        exact next
      obtain ⟨pos, written⟩ := State.putItem_empty
        (s := let t := (s.flushQueue q.val).settle; { t with oq := { t.oq with waiting := t.oq.waiting.erase (q.val, i) } })
        (congrArg OQueue.items flushed) enabled fits
      refine ⟨_, pos, exec_queueItemWrite_waiting waits, ?_⟩
      rw [State.settle_oqueue, written]
      exact congrArg (fun x : OQueue => [{ i with qseq := x.nextQseq, pos := pos }]) flushed

end Sys2Proof.Machine

/-!
SUPPORT. Every command ends in a settled state (R65), but for the two malformed messages of log entry 11: one lemma for
each command whose meaning has branches, that each of them completes.
-/
namespace Sys2Proof.Machine

/-- A command completes: its readiness bits are settled. -/
def Completes (r : Res) : Prop := ∃ t, r = done t

theorem Completes.quiet {r : Res} (h : Completes r) {t : State} (next : r = .next t) : t.Quiet := by
  obtain ⟨u, rfl⟩ := h
  obtain rfl : u.settle = t := Host.Outcome.next.inj next
  exact u.settle_quiet

section Branches
variable (s : State)

/-! The recorder and the queues -/

theorem execMirrorRetry_completes : Completes (execMirrorRetry s) := by
  dsimp only [execMirrorRetry]
  (repeat' split) <;> exact ⟨_, rfl⟩
theorem execQueueItemWrite_completes (q : QueueIx) : Completes (execQueueItemWrite q s) := by
  dsimp only [execQueueItemWrite]
  (repeat' split) <;> exact ⟨_, rfl⟩
theorem execTelemetryPeriod_completes (q : QueueIx) : Completes (execTelemetryPeriod q s) := by
  dsimp only [execTelemetryPeriod]
  (repeat' split) <;> exact ⟨_, rfl⟩
theorem execQFlushEffect_completes (q : QueueIx) : Completes (execQFlushEffect q s) := by
  dsimp only [execQFlushEffect]
  (repeat' split) <;> exact ⟨_, rfl⟩

/-! HBM -/

theorem execHbmTrainingDone_completes (k : StackIx) (lanes : List (Fin 32 × Fin 36)) (failed : BitVec 32) :
    Completes (execHbmTrainingDone k lanes failed s) := by
  dsimp only [execHbmTrainingDone]
  (repeat' split) <;> exact ⟨_, rfl⟩
theorem execSramRowSubstitution_completes (blk : MemBlockIx) (ok : Bool) : Completes (execSramRowSubstitution blk ok s) := by
  dsimp only [execSramRowSubstitution]
  (repeat' split) <;> exact ⟨_, rfl⟩
theorem execPostPackageRepair_completes (k : StackIx) (res : PprEnd) : Completes (execPostPackageRepair k res s) := by
  dsimp only [execPostPackageRepair]
  (repeat' split) <;> exact ⟨_, rfl⟩
theorem execPageRetirement_completes (page : Fin 16384) : Completes (execPageRetirement page s) := by
  dsimp only [execPageRetirement]
  (repeat' split) <;> exact ⟨_, rfl⟩
theorem execScrubWord_completes (k : StackIx) (syn : Fin 256) (res : ScrubEnd) : Completes (execScrubWord k syn res s) := by
  dsimp only [execScrubWord]
  (repeat' split) <;> exact ⟨_, rfl⟩

/-! The setter -/

theorem execCacheFillDone_completes (tag : FillTag) : Completes (execCacheFillDone tag s) := by
  dsimp only [execCacheFillDone]
  (repeat' split) <;> exact ⟨_, rfl⟩
theorem execWritebackDone_completes (k : EvbIx) : Completes (execWritebackDone k s) := by
  dsimp only [execWritebackDone]
  (repeat' split) <;> exact ⟨_, rfl⟩
theorem execMaintenanceDone_completes : Completes (execMaintenanceDone s) := by
  dsimp only [execMaintenanceDone]
  (repeat' split) <;> exact ⟨_, rfl⟩
theorem execWatermarkStallRelease_completes (k : StackIx) (o o1 : Computed) : Completes (execWatermarkStallRelease k o o1 s) := by
  dsimp only [execWatermarkStallRelease]
  (repeat' split) <;> exact ⟨_, rfl⟩
theorem execZeroFillComplete_completes (k : StackIx) : Completes (execZeroFillComplete k s) := by
  dsimp only [execZeroFillComplete]
  (repeat' split) <;> exact ⟨_, rfl⟩
theorem execSelfRefreshEntry_completes : Completes (execSelfRefreshEntry s) := by
  dsimp only [execSelfRefreshEntry]
  (repeat' split) <;> exact ⟨_, rfl⟩
theorem execSelfRefreshExit_completes : Completes (execSelfRefreshExit s) := by
  dsimp only [execSelfRefreshExit]
  (repeat' split) <;> exact ⟨_, rfl⟩

/-! The control engine -/

theorem execTraceFull_completes : Completes (execTraceFull s) := by
  dsimp only [execTraceFull]
  (repeat' split) <;> exact ⟨_, rfl⟩

/-! Servo frames -/

theorem execLoopMissFault_completes (h : HeadIx) : Completes (execLoopMissFault h s) := by
  dsimp only [execLoopMissFault]
  (repeat' split) <;> exact ⟨_, rfl⟩
theorem execFocusLost_completes (h : HeadIx) : Completes (execFocusLost h s) := by
  dsimp only [execFocusLost]
  (repeat' split) <;> exact ⟨_, rfl⟩
theorem execTrackingLost_completes (h : HeadIx) : Completes (execTrackingLost h s) := by
  dsimp only [execTrackingLost]
  (repeat' split) <;> exact ⟨_, rfl⟩
theorem execAcqSweepTimeout_completes (h : HeadIx) : Completes (execAcqSweepTimeout h s) := by
  dsimp only [execAcqSweepTimeout]
  (repeat' split) <;> exact ⟨_, rfl⟩
theorem execTrackingCaptureTimeout_completes (h : HeadIx) : Completes (execTrackingCaptureTimeout h s) := by
  dsimp only [execTrackingCaptureTimeout]
  (repeat' split) <;> exact ⟨_, rfl⟩
theorem execLayerJumpTimeout_completes (h : HeadIx) : Completes (execLayerJumpTimeout h s) := by
  dsimp only [execLayerJumpTimeout]
  (repeat' split) <;> exact ⟨_, rfl⟩
theorem execStepRemoved_completes (h : HeadIx) : Completes (execStepRemoved h s) := by
  dsimp only [execStepRemoved]
  (repeat' split) <;> exact ⟨_, rfl⟩

/-! The axes -/

theorem execMoveEnd_completes (a : AxisIx) (o : Computed) : Completes (execMoveEnd a o s) := by
  dsimp only [execMoveEnd]
  (repeat' split) <;> exact ⟨_, rfl⟩
theorem execEnLagExpiry_completes (a : AxisIx) : Completes (execEnLagExpiry a s) := by
  dsimp only [execEnLagExpiry]
  (repeat' split) <;> exact ⟨_, rfl⟩
theorem execSwitchAccepted_completes (a : AxisIx) (sw : Switch) (level : Bool) (stable : Nat) (o : Computed) :
    Completes (execSwitchAccepted a sw level stable o s) := by
  dsimp only [execSwitchAccepted]
  (repeat' split) <;> exact ⟨_, rfl⟩
theorem execSwitchChatter_completes (a : Chatter) : Completes (execSwitchChatter a s) := by
  dsimp only [execSwitchChatter]
  (repeat' split) <;> exact ⟨_, rfl⟩
theorem execSledMsg_completes (h : HeadIx) (home far : Bool) (pos : Int) : Completes (execSledMsg h home far pos s) := by
  dsimp only [execSledMsg]
  (repeat' split) <;> exact ⟨_, rfl⟩

/-! The journal -/

theorem execXspiWriteRetry_completes : Completes (execXspiWriteRetry s) := by
  dsimp only [execXspiWriteRetry]
  (repeat' split) <;> exact ⟨_, rfl⟩
theorem execXspiRingCompact_completes : Completes (execXspiRingCompact s) := by
  dsimp only [execXspiRingCompact]
  (repeat' split) <;> exact ⟨_, rfl⟩

/-! The crossings -/

theorem execControlValueWrite_completes (x : Crossing) (v : Nat) : Completes (execControlValueWrite x v s) := by
  dsimp only [execControlValueWrite]
  (repeat' split) <;> exact ⟨_, rfl⟩
theorem execControlCapture_completes (x : Crossing) : Completes (execControlCapture x s) := by
  dsimp only [execControlCapture]
  (repeat' split) <;> exact ⟨_, rfl⟩
theorem execControlAckArrival_completes (x : Crossing) : Completes (execControlAckArrival x s) := by
  dsimp only [execControlAckArrival]
  (repeat' split) <;> exact ⟨_, rfl⟩
theorem execDataItemWrite_completes (x : Crossing) (item : Nat) : Completes (execDataItemWrite x item s) := by
  dsimp only [execDataItemWrite]
  (repeat' split) <;> exact ⟨_, rfl⟩
theorem execResyncEntry_completes (x : Crossing) (cls : XingClass) (sides : Sides) :
    Completes (execResyncEntry x cls sides s) := by
  dsimp only [execResyncEntry]
  (repeat' split) <;> exact ⟨_, rfl⟩
theorem execResyncHandshakeDone_completes (x : Crossing) (cls : XingClass) : Completes (execResyncHandshakeDone x cls s) := by
  dsimp only [execResyncHandshakeDone]
  (repeat' split) <;> exact ⟨_, rfl⟩

/-! The links -/

theorem execBlockLockLost_completes (h : HeadIx) (lane : LaneHdrs) : Completes (execBlockLockLost h lane s) := by
  dsimp only [execBlockLockLost]
  (repeat' split) <;> exact ⟨_, rfl⟩
theorem execFrameLockGained_completes (h : HeadIx) (lane : LaneIx) : Completes (execFrameLockGained h lane s) := by
  dsimp only [execFrameLockGained]
  (repeat' split) <;> exact ⟨_, rfl⟩
theorem execFrameLockLost_completes (h : HeadIx) (lane : LaneIx) : Completes (execFrameLockLost h lane s) := by
  dsimp only [execFrameLockLost]
  (repeat' split) <;> exact ⟨_, rfl⟩
theorem execLinkLaneFault_completes (h : HeadIx) (lane : LaneIx) (why : LaneFault) :
    Completes (execLinkLaneFault h lane why s) := by
  dsimp only [execLinkLaneFault]
  (repeat' split) <;> exact ⟨_, rfl⟩
theorem execTrainingStepAdvance_completes (h : HeadIx) (obs : TrainObs) : Completes (execTrainingStepAdvance h obs s) := by
  dsimp only [execTrainingStepAdvance]
  (repeat' split) <;> exact ⟨_, rfl⟩
theorem execTrainingStepTimeout_completes (h : HeadIx) : Completes (execTrainingStepTimeout h s) := by
  dsimp only [execTrainingStepTimeout]
  (repeat' split) <;> exact ⟨_, rfl⟩
theorem execRetrainRetry_completes (h : HeadIx) : Completes (execRetrainRetry h s) := by
  dsimp only [execRetrainRetry]
  (repeat' split) <;> exact ⟨_, rfl⟩
theorem execIdentMsg_completes (h : HeadIx) (b : IdentBody) : Completes (execIdentMsg h b s) := by
  dsimp only [execIdentMsg]
  (repeat' split) <;> exact ⟨_, rfl⟩

/-! The read channel -/

theorem execSegmentVote_completes (h : HeadIx) (obs : SegmentObs) : Completes (execSegmentVote h obs s) := by
  dsimp only [execSegmentVote]
  (repeat' split) <;> exact ⟨_, rfl⟩
theorem execBandLost_completes (h : HeadIx) : Completes (execBandLost h s) := by
  dsimp only [execBandLost]
  (repeat' split) <;> exact ⟨_, rfl⟩
theorem execBandLockLost_completes (h : HeadIx) : Completes (execBandLockLost h s) := by
  dsimp only [execBandLockLost]
  (repeat' split) <;> exact ⟨_, rfl⟩
theorem execReacquisitionStart_completes (h : HeadIx) : Completes (execReacquisitionStart h s) := by
  dsimp only [execReacquisitionStart]
  (repeat' split) <;> exact ⟨_, rfl⟩
theorem execBandLocked_completes (h : HeadIx) : Completes (execBandLocked h s) := by
  dsimp only [execBandLocked]
  (repeat' split) <;> exact ⟨_, rfl⟩
theorem execRingBoundary_completes (h : HeadIx) : Completes (execRingBoundary h s) := by
  dsimp only [execRingBoundary]
  (repeat' split) <;> exact ⟨_, rfl⟩
theorem execPieceLeavesShelf_completes (h : HeadIx) : Completes (execPieceLeavesShelf h s) := by
  dsimp only [execPieceLeavesShelf]
  (repeat' split) <;> exact ⟨_, rfl⟩
theorem execFailedCodewordCopy_completes (h : HeadIx) : Completes (execFailedCodewordCopy h s) := by
  dsimp only [execFailedCodewordCopy]
  (repeat' split) <;> exact ⟨_, rfl⟩

/-! The ladder and the pool -/

theorem execDecodeResult_completes (cell : Fin 18) (o o1 o2 : Computed) : Completes (execDecodeResult cell o o1 o2 s) := by
  dsimp only [execDecodeResult]
  (repeat' split) <;> exact ⟨_, rfl⟩
theorem execDecodeStart_completes : Completes (execDecodeStart s) := by
  dsimp only [execDecodeStart]
  (repeat' split) <;> exact ⟨_, rfl⟩
theorem execPieceFiled_completes : Completes (execPieceFiled s) := by
  dsimp only [execPieceFiled]
  (repeat' split) <;> exact ⟨_, rfl⟩
theorem execBandReadStart_completes (h : HeadIx) : Completes (execBandReadStart h s) := by
  dsimp only [execBandReadStart]
  (repeat' split) <;> exact ⟨_, rfl⟩
theorem execRedetectionRequest_completes (h : HeadIx) : Completes (execRedetectionRequest h s) := by
  dsimp only [execRedetectionRequest]
  (repeat' split) <;> exact ⟨_, rfl⟩
theorem execNorevBudgetExpiry_completes (h : HeadIx) (sa : Nat) : Completes (execNorevBudgetExpiry h sa s) := by
  dsimp only [execNorevBudgetExpiry]
  (repeat' split) <;> exact ⟨_, rfl⟩
theorem execOuterAttemptDone_completes (h : HeadIx) (sa : Nat) : Completes (execOuterAttemptDone h sa s) := by
  dsimp only [execOuterAttemptDone]
  (repeat' split) <;> exact ⟨_, rfl⟩
theorem execLadderTimeout_completes (h : HeadIx) (sa : Nat) : Completes (execLadderTimeout h sa s) := by
  dsimp only [execLadderTimeout]
  (repeat' split) <;> exact ⟨_, rfl⟩

/-! The wheels -/

theorem execMeasuringEnd_completes (w : WheelIx) (seen : List Trans) : Completes (execMeasuringEnd w seen s) := by
  dsimp only [execMeasuringEnd]
  (repeat' split) <;> exact ⟨_, rfl⟩
theorem execBrakeOnExpiry_completes (w : WheelIx) : Completes (execBrakeOnExpiry w s) := by
  dsimp only [execBrakeOnExpiry]
  (repeat' split) <;> exact ⟨_, rfl⟩
theorem execBrakeHoldExpiry_completes (w : WheelIx) : Completes (execBrakeHoldExpiry w s) := by
  dsimp only [execBrakeHoldExpiry]
  (repeat' split) <;> exact ⟨_, rfl⟩
theorem execRestWindowEnd_completes (w : WheelIx) (seen : Nat) : Completes (execRestWindowEnd w seen s) := by
  dsimp only [execRestWindowEnd]
  (repeat' split) <;> exact ⟨_, rfl⟩
theorem execAlignEnd_completes (w : WheelIx) (t : Nat) : Completes (execAlignEnd w t s) := by
  dsimp only [execAlignEnd]
  (repeat' split) <;> exact ⟨_, rfl⟩
theorem execOpenLoopTimeout_completes (w : WheelIx) : Completes (execOpenLoopTimeout w s) := by
  dsimp only [execOpenLoopTimeout]
  (repeat' split) <;> exact ⟨_, rfl⟩
theorem execZeroCrossing_completes (w : WheelIx) (x : Trans) : Completes (execZeroCrossing w x s) := by
  dsimp only [execZeroCrossing]
  (repeat' split) <;> exact ⟨_, rfl⟩
theorem execCommutation_completes (w : WheelIx) (t : Nat) : Completes (execCommutation w t s) := by
  dsimp only [execCommutation]
  (repeat' split) <;> exact ⟨_, rfl⟩
theorem execCrossingWindowEmpty_completes (w : WheelAt) : Completes (execCrossingWindowEmpty w s) := by
  dsimp only [execCrossingWindowEmpty]
  (repeat' split) <;> exact ⟨_, rfl⟩
theorem execCoastEnd_completes (w : WheelIx) (seen : List Trans) : Completes (execCoastEnd w seen s) := by
  dsimp only [execCoastEnd]
  (repeat' split) <;> exact ⟨_, rfl⟩
theorem execAtSpeedSet_completes (w : WheelIx) : Completes (execAtSpeedSet w s) := by
  dsimp only [execAtSpeedSet]
  (repeat' split) <;> exact ⟨_, rfl⟩
theorem execCurrentSample_completes (w : WheelIx) (code : Fin 4096) : Completes (execCurrentSample w code s) := by
  dsimp only [execCurrentSample]
  (repeat' split) <;> exact ⟨_, rfl⟩
theorem execOvercurrentTrip_completes (w : WheelIx) (t : TripSample) : Completes (execOvercurrentTrip w t s) := by
  dsimp only [execOvercurrentTrip]
  (repeat' split) <;> exact ⟨_, rfl⟩
theorem execHandoverRelTimeout_completes (w : WheelIx) : Completes (execHandoverRelTimeout w s) := by
  dsimp only [execHandoverRelTimeout]
  (repeat' split) <;> exact ⟨_, rfl⟩
theorem execShadowCrossing_completes (w : WheelIx) (x : Trans) : Completes (execShadowCrossing w x s) := by
  dsimp only [execShadowCrossing]
  (repeat' split) <;> exact ⟨_, rfl⟩
theorem execOwnxFall_completes (w : WheelIx) : Completes (execOwnxFall w s) := by
  dsimp only [execOwnxFall]
  (repeat' split) <;> exact ⟨_, rfl⟩
theorem execUnplannedWheelTake_completes (w : WheelIx) : Completes (execUnplannedWheelTake w s) := by
  dsimp only [execUnplannedWheelTake]
  (repeat' split) <;> exact ⟨_, rfl⟩

/-! The stripes -/

theorem execStripeEncode_completes (lane : LaneOf) (zone : ZoneIx) : Completes (execStripeEncode lane zone s) := by
  dsimp only [execStripeEncode]
  (repeat' split) <;> exact ⟨_, rfl⟩

/-! Firing -/

theorem execFiringRunStart_completes (g : RunIx) : Completes (execFiringRunStart g s) := by
  dsimp only [execFiringRunStart]
  (repeat' split) <;> exact ⟨_, rfl⟩
theorem execRunMaxExpiry_completes (g : RunIx) : Completes (execRunMaxExpiry g s) := by
  dsimp only [execRunMaxExpiry]
  (repeat' split) <;> exact ⟨_, rfl⟩
theorem execReadWaitExpiry_completes (g : RunIx) : Completes (execReadWaitExpiry g s) := by
  dsimp only [execReadWaitExpiry]
  (repeat' split) <;> exact ⟨_, rfl⟩
theorem execFiringBegin_completes (g : RunIx) : Completes (execFiringBegin g s) := by
  dsimp only [execFiringBegin]
  (repeat' split) <;> exact ⟨_, rfl⟩
theorem execSettingArm_completes (h : HeadIx) : Completes (execSettingArm h s) := by
  dsimp only [execSettingArm]
  (repeat' split) <;> exact ⟨_, rfl⟩
theorem execLaserMon_completes (h : HeadIx) (power current : Nat) (temp : BitVec 16) :
    Completes (execLaserMon h power current temp s) := by
  dsimp only [execLaserMon]
  (repeat' split) <;> exact ⟨_, rfl⟩

/-! The end of a run -/

theorem execFiringRunEnd_completes (g : RunIx) : Completes (execFiringRunEnd g s) := by
  dsimp only [execFiringRunEnd]
  (repeat' split) <;> exact ⟨_, rfl⟩

/-! The bisque pass -/

theorem execBlankScanDone_completes (h : HeadIx) : Completes (execBlankScanDone h s) := by
  dsimp only [execBlankScanDone]
  (repeat' split) <;> exact ⟨_, rfl⟩
theorem execCalibration_completes (h : HeadIx) (o o1 : Computed) : Completes (execCalibration h o o1 s) := by
  dsimp only [execCalibration]
  (repeat' split) <;> exact ⟨_, rfl⟩
theorem execBisqueVerdict_completes (h : HeadIx) : Completes (execBisqueVerdict h s) := by
  dsimp only [execBisqueVerdict]
  (repeat' split) <;> exact ⟨_, rfl⟩
theorem execWriteRetirement_completes (h : HeadIx) (cause : RetireCause) : Completes (execWriteRetirement h cause s) := by
  dsimp only [execWriteRetirement]
  (repeat' split) <;> exact ⟨_, rfl⟩

/-! Hold-up -/

theorem execXspiWriteDone_completes (ok : Bool) : Completes (execXspiWriteDone ok s) := by
  dsimp only [execXspiWriteDone]
  (repeat' split) <;> exact ⟨_, rfl⟩
theorem execHoldupRearm_completes : Completes (execHoldupRearm s) := by
  dsimp only [execHoldupRearm]
  (repeat' split) <;> exact ⟨_, rfl⟩
theorem execJournalReplay_completes (lane : LaneOf) (zone : ZoneIx) : Completes (execJournalReplay lane zone s) := by
  dsimp only [execJournalReplay]
  (repeat' split) <;> exact ⟨_, rfl⟩

/-! Re-throws -/

theorem execRethrowAutoStart_completes (pos : PosIx) : Completes (execRethrowAutoStart pos s) := by
  dsimp only [execRethrowAutoStart]
  (repeat' split) <;> exact ⟨_, rfl⟩
theorem execRethrowStepDone_completes (step : RtStep) : Completes (execRethrowStepDone step s) := by
  dsimp only [execRethrowStepDone]
  (repeat' split) <;> exact ⟨_, rfl⟩
theorem execRunClose_completes : Completes (execRunClose s) := by
  dsimp only [execRunClose]
  (repeat' split) <;> exact ⟨_, rfl⟩
theorem execCrazePatrol_completes (lane : LaneOf) (zone : ZoneIx) : Completes (execCrazePatrol lane zone s) := by
  dsimp only [execCrazePatrol]
  (repeat' split) <;> exact ⟨_, rfl⟩
theorem execConeRead_completes (h : HeadIx) (layer : Fin 10) (o : Computed) : Completes (execConeRead h layer o s) := by
  dsimp only [execConeRead]
  (repeat' split) <;> exact ⟨_, rfl⟩

/-! Host I/O -/

theorem execStagingWaitExpiry_completes (c : ConnIx) (cid : Nat) : Completes (execStagingWaitExpiry c cid s) := by
  dsimp only [execStagingWaitExpiry]
  (repeat' split) <;> exact ⟨_, rfl⟩
theorem execGcmVerifyDone_completes (h : HeadIx) (sa : Nat) (blk : BlockIx) (o : Computed) :
    Completes (execGcmVerifyDone h sa blk o s) := by
  dsimp only [execGcmVerifyDone]
  (repeat' split) <;> exact ⟨_, rfl⟩
theorem execReconstructionDone_completes (h : HeadIx) (sa : Nat) (blk : BlockIx) (o : Computed) :
    Completes (execReconstructionDone h sa blk o s) := by
  dsimp only [execReconstructionDone]
  (repeat' split) <;> exact ⟨_, rfl⟩

/-! The network -/

theorem execEthLinkUp_completes (p : PortIx) (lanes : BitVec 8) (fec74 : Bool) : Completes (execEthLinkUp p lanes fec74 s) := by
  dsimp only [execEthLinkUp]
  (repeat' split) <;> exact ⟨_, rfl⟩
theorem execEthLinkFallback_completes (p : PortIx) (lanes : BitVec 8) : Completes (execEthLinkFallback p lanes s) := by
  dsimp only [execEthLinkFallback]
  (repeat' split) <;> exact ⟨_, rfl⟩
theorem execEthFrameReceive_completes (p : PortIx) (f : RxEth) : Completes (execEthFrameReceive p f s) := by
  dsimp only [execEthFrameReceive]
  (repeat' split) <;> exact ⟨_, rfl⟩
theorem execKeepAliveExpiry_completes (a : Fin 64) : Completes (execKeepAliveExpiry a s) := by
  dsimp only [execKeepAliveExpiry]
  (repeat' split) <;> exact ⟨_, rfl⟩
theorem execTcpSegment_completes (c : ConnIx) (p : PortIx) (seg : TcpSeg) : Completes (execTcpSegment c p seg s) := by
  dsimp only [execTcpSegment]
  (repeat' split) <;> exact ⟨_, rfl⟩
theorem execTcpRetransmitTimeout_completes (c : ConnIx) : Completes (execTcpRetransmitTimeout c s) := by
  dsimp only [execTcpRetransmitTimeout]
  (repeat' split) <;> exact ⟨_, rfl⟩
theorem execTlsHandshake_completes (c : ConnIx) (psk : Nat) (suite128 ok : Bool) :
    Completes (execTlsHandshake c psk suite128 ok s) := by
  dsimp only [execTlsHandshake]
  (repeat' split) <;> exact ⟨_, rfl⟩
theorem execIcreq_completes (c : ConnIx) (pfv : Nat) (hdgst ddgst : Bool) (maxr2t : Nat) :
    Completes (execIcreq c pfv hdgst ddgst maxr2t s) := by
  dsimp only [execIcreq]
  (repeat' split) <;> exact ⟨_, rfl⟩
theorem execCapsuleCmd_completes (c : ConnIx) (cid : Nat) (data : List Nat) (chk : PduCheck) :
    Completes (execCapsuleCmd c cid data chk s) := by
  dsimp only [execCapsuleCmd]
  (repeat' split) <;> exact ⟨_, rfl⟩
theorem execH2cData_completes (c : ConnIx) (cid offset : Nat) (bytes : List Nat) (chk : PduCheck) :
    Completes (execH2cData c cid offset bytes chk s) := by
  dsimp only [execH2cData]
  (repeat' split) <;> exact ⟨_, rfl⟩
theorem execNvmeConnect_completes (c : ConnIx) (cid host : Nat) (disc : Bool) (qid size cntlid kato : Nat) :
    Completes (execNvmeConnect c cid host disc qid size cntlid kato s) := by
  dsimp only [execNvmeConnect]
  (repeat' split) <;> exact ⟨_, rfl⟩

/-! Admin commands -/

theorem execCatalogueWaitExpiry_completes (c : ConnIx) (cid : Nat) : Completes (execCatalogueWaitExpiry c cid s) := by
  dsimp only [execCatalogueWaitExpiry]
  (repeat' split) <;> exact ⟨_, rfl⟩
theorem execNamespaceKeyAckTimeout_completes (ns : Nat) : Completes (execNamespaceKeyAckTimeout ns s) := by
  dsimp only [execNamespaceKeyAckTimeout]
  (repeat' split) <;> exact ⟨_, rfl⟩
theorem execAutonomousPsTransition_completes (a : Fin 64) (ps : Fin 5) : Completes (execAutonomousPsTransition a ps s) := by
  dsimp only [execAutonomousPsTransition]
  (repeat' split) <;> exact ⟨_, rfl⟩

/-! The trust engine -/

theorem execSpdmChallenge_completes (c : ConnIx) (cid : Nat) (slot : Fin 8) (nonce : List Nat) :
    Completes (execSpdmChallenge c cid slot nonce s) := by
  dsimp only [execSpdmChallenge]
  (repeat' split) <;> exact ⟨_, rfl⟩
theorem execGetMeasurements_completes (c : ConnIx) (cid : Nat) (index : Fin 256) (nonce : List Nat) :
    Completes (execGetMeasurements c cid index nonce s) := by
  dsimp only [execGetMeasurements]
  (repeat' split) <;> exact ⟨_, rfl⟩
theorem execEnrolTimeout_completes : Completes (execEnrolTimeout s) := by
  dsimp only [execEnrolTimeout]
  (repeat' split) <;> exact ⟨_, rfl⟩
theorem execLoadKeyDerived_completes (ns load : Nat) : Completes (execLoadKeyDerived ns load s) := by
  dsimp only [execLoadKeyDerived]
  (repeat' split) <;> exact ⟨_, rfl⟩
theorem execEncryptBlock_completes (lane : LaneOf) (zone : ZoneIx) (stripe : Nat) (engine : Fin 5) (checkOk : Bool) :
    Completes (execEncryptBlock lane zone stripe engine checkOk s) := by
  dsimp only [execEncryptBlock]
  (repeat' split) <;> exact ⟨_, rfl⟩
theorem execZoneSeal_completes (lane : LaneOf) (zone : ZoneIx) (readBack : List Nat) :
    Completes (execZoneSeal lane zone readBack s) := by
  dsimp only [execZoneSeal]
  (repeat' split) <;> exact ⟨_, rfl⟩

/-! The twin -/

theorem execHelloSend_completes : Completes (execHelloSend s) := by
  dsimp only [execHelloSend]
  (repeat' split) <;> exact ⟨_, rfl⟩
theorem execHelloMsg_completes (h : THdr) (b : HelloBody) : Completes (execHelloMsg h b s) := by
  dsimp only [execHelloMsg]
  (repeat' split) <;> exact ⟨_, rfl⟩
theorem execHelloAuth_completes (h : THdr) (serial boot : Nat) : Completes (execHelloAuth h serial boot s) := by
  dsimp only [execHelloAuth]
  (repeat' split) <;> exact ⟨_, rfl⟩
theorem execHeartbeatSend_completes : Completes (execHeartbeatSend s) := by
  dsimp only [execHeartbeatSend]
  (repeat' split) <;> exact ⟨_, rfl⟩
theorem execReliableResend_completes (cls : Fin 4) : Completes (execReliableResend cls s) := by
  dsimp only [execReliableResend]
  (repeat' split) <;> exact ⟨_, rfl⟩
theorem execTwinHbInEdge_completes : Completes (execTwinHbInEdge s) := by
  dsimp only [execTwinHbInEdge]
  (repeat' split) <;> exact ⟨_, rfl⟩
theorem execTwinHbPinLost_completes : Completes (execTwinHbPinLost s) := by
  dsimp only [execTwinHbPinLost]
  (repeat' split) <;> exact ⟨_, rfl⟩
theorem execPortTLost_completes : Completes (execPortTLost s) := by
  dsimp only [execPortTLost]
  (repeat' split) <;> exact ⟨_, rfl⟩
theorem execUnplannedTakeover_completes : Completes (execUnplannedTakeover s) := by
  dsimp only [execUnplannedTakeover]
  (repeat' split) <;> exact ⟨_, rfl⟩
theorem execPartitionWithdraw_completes : Completes (execPartitionWithdraw s) := by
  dsimp only [execPartitionWithdraw]
  (repeat' split) <;> exact ⟨_, rfl⟩
theorem execPartWaitExpiry_completes : Completes (execPartWaitExpiry s) := by
  dsimp only [execPartWaitExpiry]
  (repeat' split) <;> exact ⟨_, rfl⟩
theorem execAutoReturn_completes : Completes (execAutoReturn s) := by
  dsimp only [execAutoReturn]
  (repeat' split) <;> exact ⟨_, rfl⟩
theorem execWriterMove_completes (ns : Nat) : Completes (execWriterMove ns s) := by
  dsimp only [execWriterMove]
  (repeat' split) <;> exact ⟨_, rfl⟩
theorem execConflictResolution_completes (tok : TokenIx) : Completes (execConflictResolution tok s) := by
  dsimp only [execConflictResolution]
  (repeat' split) <;> exact ⟨_, rfl⟩

/-! The rack -/

theorem execAnnounceSend_completes : Completes (execAnnounceSend s) := by
  dsimp only [execAnnounceSend]
  (repeat' split) <;> exact ⟨_, rfl⟩
theorem execAnnounceMsg_completes (b : AnnounceBody) (block : List Word) : Completes (execAnnounceMsg b block s) := by
  dsimp only [execAnnounceMsg]
  (repeat' split) <;> exact ⟨_, rfl⟩
theorem execNoManagerTimeout_completes : Completes (execNoManagerTimeout s) := by
  dsimp only [execNoManagerTimeout]
  (repeat' split) <;> exact ⟨_, rfl⟩
theorem execWorkerPoll_completes (shelf : Fin 64) (side : Side) (block : Option (List Word)) :
    Completes (execWorkerPoll shelf side block s) := by
  dsimp only [execWorkerPoll]
  (repeat' split) <;> exact ⟨_, rfl⟩
theorem execPmbusTransactionDone_completes (ok : Bool) (status : Nat) : Completes (execPmbusTransactionDone ok status s) := by
  dsimp only [execPmbusTransactionDone]
  (repeat' split) <;> exact ⟨_, rfl⟩
theorem execShelfPowerCycle_completes (shelf : Fin 64) : Completes (execShelfPowerCycle shelf s) := by
  dsimp only [execShelfPowerCycle]
  (repeat' split) <;> exact ⟨_, rfl⟩
theorem execPowerOnDequeue_completes : Completes (execPowerOnDequeue s) := by
  dsimp only [execPowerOnDequeue]
  (repeat' split) <;> exact ⟨_, rfl⟩

/-! Faults -/

theorem execBlockIsolation_completes (region : RegionIx) : Completes (execBlockIsolation region s) := by
  dsimp only [execBlockIsolation]
  (repeat' split) <;> exact ⟨_, rfl⟩
theorem execChipDegrade_completes : Completes (execChipDegrade s) := by
  dsimp only [execChipDegrade]
  (repeat' split) <;> exact ⟨_, rfl⟩
theorem execMacResidueFail_completes (lane : Fin 5) : Completes (execMacResidueFail lane s) := by
  dsimp only [execMacResidueFail]
  (repeat' split) <;> exact ⟨_, rfl⟩
theorem execWatchdogExpiry_completes (core : Fin 10) : Completes (execWatchdogExpiry core s) := by
  dsimp only [execWatchdogExpiry]
  (repeat' split) <;> exact ⟨_, rfl⟩
theorem execOverloadEnter_completes (load : Nat) : Completes (execOverloadEnter load s) := by
  dsimp only [execOverloadEnter]
  (repeat' split) <;> exact ⟨_, rfl⟩
theorem execOverloadLeave_completes (load : Nat) : Completes (execOverloadLeave load s) := by
  dsimp only [execOverloadLeave]
  (repeat' split) <;> exact ⟨_, rfl⟩
theorem execPoisonConsumed_completes (use : PoisonUse) : Completes (execPoisonConsumed use s) := by
  dsimp only [execPoisonConsumed]
  (repeat' split) <;> exact ⟨_, rfl⟩

/-! Resets and self-tests -/

theorem execTempAlarm_completes (temp : BitVec 12) : Completes (execTempAlarm temp s) := by
  dsimp only [execTempAlarm]
  (repeat' split) <;> exact ⟨_, rfl⟩
theorem execFatalReset_completes : Completes (execFatalReset s) := by
  dsimp only [execFatalReset]
  (repeat' split) <;> exact ⟨_, rfl⟩
theorem execBootHoldExpiry_completes : Completes (execBootHoldExpiry s) := by
  dsimp only [execBootHoldExpiry]
  (repeat' split) <;> exact ⟨_, rfl⟩
theorem execSelfTestStart_completes (test : TestIx) (kind : TestKind) : Completes (execSelfTestStart test kind s) := by
  dsimp only [execSelfTestStart]
  (repeat' split) <;> exact ⟨_, rfl⟩
theorem execSelfTestDone_completes (test : TestIx) (kind : TestKind) (pass : Bool) :
    Completes (execSelfTestDone test kind pass s) := by
  dsimp only [execSelfTestDone]
  (repeat' split) <;> exact ⟨_, rfl⟩
theorem execSelfTestEarlyEnd_completes (test : TestIx) (why : EarlyEnd) : Completes (execSelfTestEarlyEnd test why s) := by
  dsimp only [execSelfTestEarlyEnd]
  (repeat' split) <;> exact ⟨_, rfl⟩
theorem execPassOverdue_completes (test : TestIx) : Completes (execPassOverdue test s) := by
  dsimp only [execPassOverdue]
  (repeat' split) <;> exact ⟨_, rfl⟩
theorem execForcedTestTick_completes (test : TestIx) : Completes (execForcedTestTick test s) := by
  dsimp only [execForcedTestTick]
  (repeat' split) <;> exact ⟨_, rfl⟩

/-! Activation -/

theorem execFwActivationDrainEnd_completes : Completes (execFwActivationDrainEnd s) := by
  dsimp only [execFwActivationDrainEnd]
  (repeat' split) <;> exact ⟨_, rfl⟩
theorem execDebugUnlock_completes (sig : List Nat) : Completes (execDebugUnlock sig s) := by
  dsimp only [execDebugUnlock]
  (repeat' split) <;> exact ⟨_, rfl⟩

/-! The spine -/

theorem execDataItemReadable_completes (x : Crossing) : Completes (execDataItemReadable x s) := by
  dsimp only [execDataItemReadable]
  (repeat' split) <;> exact ⟨_, rfl⟩

/-! Link events -/

theorem execLinkLoss_completes (h : HeadIx) (why : LossCause) : Completes (execLinkLoss h why s) := by
  dsimp only [execLinkLoss]
  (repeat' split) <;> exact ⟨_, rfl⟩
theorem execTableAck_completes (h : HeadIx) (table result offset nbody : Nat) :
    Completes (execTableAck h table result offset nbody s) := by
  dsimp only [execTableAck]
  (repeat' split) <;> exact ⟨_, rfl⟩
theorem execGrooveWord_completes (h : HeadIx) (crcOk : Bool) (setting quarter q : Nat) :
    Completes (execGrooveWord h crcOk setting quarter q s) := by
  dsimp only [execGrooveWord]
  (repeat' split) <;> exact ⟨_, rfl⟩
theorem execServoErr_completes (h : HeadIx) (e : ServoErr) (obs : ServoObs) : Completes (execServoErr h e obs s) := by
  dsimp only [execServoErr]
  (repeat' split) <;> exact ⟨_, rfl⟩

/-! Wheel events -/

theorem execSpeedTick_completes (w : WheelIx) : Completes (execSpeedTick w s) := by
  dsimp only [execSpeedTick]
  (repeat' split) <;> exact ⟨_, rfl⟩
theorem execOwnConflict_completes (w : WheelIx) : Completes (execOwnConflict w s) := by
  dsimp only [execOwnConflict]
  (repeat' split) <;> exact ⟨_, rfl⟩
theorem execLdOwnConflict_completes : Completes (execLdOwnConflict s) := by
  dsimp only [execLdOwnConflict]
  (repeat' split) <;> exact ⟨_, rfl⟩
theorem execSaturationRun_completes (slot : SlotIx) : Completes (execSaturationRun slot s) := by
  dsimp only [execSaturationRun]
  (repeat' split) <;> exact ⟨_, rfl⟩

/-! Object resets -/

theorem execSoftResetComplete_completes (page : Page) : Completes (execSoftResetComplete page s) := by
  dsimp only [execSoftResetComplete]
  (repeat' split) <;> exact ⟨_, rfl⟩
theorem execObjectDrained_completes (page : Page) : Completes (execObjectDrained page s) := by
  dsimp only [execObjectDrained]
  (repeat' split) <;> exact ⟨_, rfl⟩

/-! Clocks -/

theorem execFmonResult_completes (khz : Nat) : Completes (execFmonResult khz s) := by
  dsimp only [execFmonResult]
  (repeat' split) <;> exact ⟨_, rfl⟩
theorem execIslandRelease_completes (island : IslandIx) : Completes (execIslandRelease island s) := by
  dsimp only [execIslandRelease]
  (repeat' split) <;> exact ⟨_, rfl⟩
theorem execPllLossOfLock_completes (pll : PllIx) : Completes (execPllLossOfLock pll s) := by
  dsimp only [execPllLossOfLock]
  (repeat' split) <;> exact ⟨_, rfl⟩
theorem execPllRelock_completes (pll : PllIx) : Completes (execPllRelock pll s) := by
  dsimp only [execPllRelock]
  (repeat' split) <;> exact ⟨_, rfl⟩
theorem execReferenceClockLost_completes (clk : RefClock) : Completes (execReferenceClockLost clk s) := by
  dsimp only [execReferenceClockLost]
  (repeat' split) <;> exact ⟨_, rfl⟩
theorem execXtalAoLost_completes : Completes (execXtalAoLost s) := by
  dsimp only [execXtalAoLost]
  (repeat' split) <;> exact ⟨_, rfl⟩

/-! Stebaro sessions -/

theorem execWriteReleasedAfterTransfer_completes : Completes (execWriteReleasedAfterTransfer s) := by
  dsimp only [execWriteReleasedAfterTransfer]
  (repeat' split) <;> exact ⟨_, rfl⟩
theorem execWriteTransferTimeout_completes : Completes (execWriteTransferTimeout s) := by
  dsimp only [execWriteTransferTimeout]
  (repeat' split) <;> exact ⟨_, rfl⟩
theorem execDtlsHandshake_completes (port : PortIx) (chain : CertChain) : Completes (execDtlsHandshake port chain s) := by
  dsimp only [execDtlsHandshake]
  (repeat' split) <;> exact ⟨_, rfl⟩
theorem execSessionIdleTimeout_completes (sid : SessionIx) : Completes (execSessionIdleTimeout sid s) := by
  dsimp only [execSessionIdleTimeout]
  (repeat' split) <;> exact ⟨_, rfl⟩
theorem execEventAck_completes (sid : SessionIx) (tag : Nat) : Completes (execEventAck sid tag s) := by
  dsimp only [execEventAck]
  (repeat' split) <;> exact ⟨_, rfl⟩
theorem execEventSend_completes (sid : SessionIx) : Completes (execEventSend sid s) := by
  dsimp only [execEventSend]
  (repeat' split) <;> exact ⟨_, rfl⟩
theorem execEventResend_completes (sid : SessionIx) (tag : Nat) : Completes (execEventResend sid tag s) := by
  dsimp only [execEventResend]
  (repeat' split) <;> exact ⟨_, rfl⟩
theorem execSubscriptionCancel_completes (sid : SessionIx) : Completes (execSubscriptionCancel sid s) := by
  dsimp only [execSubscriptionCancel]
  (repeat' split) <;> exact ⟨_, rfl⟩

/-! Windows and islands -/

theorem execRegisterWrite_completes (path : Path) (addr : Nat) (value : RegWord) :
    Completes (execRegisterWrite path addr value s) := by
  dsimp only [execRegisterWrite]
  (repeat' split) <;> exact ⟨_, rfl⟩
theorem execStebaroPortDisable_completes (path : Path) (port : PortIx) : Completes (execStebaroPortDisable path port s) := by
  dsimp only [execStebaroPortDisable]
  (repeat' split) <;> exact ⟨_, rfl⟩
theorem execTableWindowWrite_completes (path : Path) (addr : Nat) (value : Word) :
    Completes (execTableWindowWrite path addr value s) := by
  dsimp only [execTableWindowWrite]
  (repeat' split) <;> exact ⟨_, rfl⟩
theorem execCeMemoryWrite_completes (path : Path) (addr : Nat) (value : Word) :
    Completes (execCeMemoryWrite path addr value s) := by
  dsimp only [execCeMemoryWrite]
  (repeat' split) <;> exact ⟨_, rfl⟩

/-! Transfers -/

theorem execLoaderRecovery_completes (o : Computed) : Completes (execLoaderRecovery o s) := by
  dsimp only [execLoaderRecovery]
  (repeat' split) <;> exact ⟨_, rfl⟩
theorem execClampSenseTimeout_completes (w : WheelIx) : Completes (execClampSenseTimeout w s) := by
  dsimp only [execClampSenseTimeout]
  (repeat' split) <;> exact ⟨_, rfl⟩
end Branches

/-! The two messages whose lists have a fixed length -/

theorem execUpstreamFrame_completes {h : HeadIx} {lane : Fin 9} {f : UpArrival} (whole : f.frame.blocks.length = 34) (s : State) :
    Completes (execUpstreamFrame h lane f s) := by
  dsimp only [execUpstreamFrame]
  rw [if_neg (Classical.not_not.2 whole)]
  (repeat' split) <;> exact ⟨_, rfl⟩

theorem execFireMon_completes {h : HeadIx} {segment : Fin 256} {half : Fin 2} {power : List Nat} (eight : power.length = 8) (s : State) :
    Completes (execFireMon h segment half power s) := by
  dsimp only [execFireMon]
  rw [if_neg (Classical.not_not.2 eight)]
  (repeat' split) <;> exact ⟨_, rfl⟩

/-- A command completes, or it is a message of a length that its format excludes. -/
theorem exec_completes_or_malformed (c : Instr) (s : State) :
    Completes (exec c s) ∨ c.wf = false ∧ ∃ what, exec c s = .fault (.malformed what) := by
  cases c
  case upstreamFrame h lane f =>
    by_cases whole : f.frame.blocks.length = 34
    · exact .inl (execUpstreamFrame_completes whole s)
    · exact .inr ⟨decide_eq_false whole, _, if_pos whole⟩
  case fireMon h segment half power =>
    by_cases eight : power.length = 8
    · exact .inl (execFireMon_completes eight s)
    · exact .inr ⟨decide_eq_false eight, _, if_pos eight⟩
  case rcRegisterRead | softReset | enableClear | quiesce | isolateClear | chipResetHandover | chipResetImmediate |
      timeLoRead | fmonStart | islRstReq | cellFaultDetected | spareSubstitution | datagramDiscard | badRequest |
      sbRead | sbWrite | readBlock | writeBlock | windowRead | subscribe | eventNak | sessionClose | blockLockGained |
      forcePos | linkRetrain | statusMsg | fireEvent | fireCredit | echoRsp | adaptReload | adaptReacq |
      bandConfigApply | redetectionDone | shardIdx | shardWin | revolutionStepDone | calReq | wrRetire |
      bankCrcRecompute | servoFrameMissing | swapReq | swapHead | slotEn | seqAcquire | layerJump | bandJump | seqSeek
      | seqStep | seqHold | seqResume | seqPark | seqExport | seqImport | seqCmdUndefined | traceStart | spdCmd |
      wheelRelease | wheelClamp | clearFault | handoverRel | handoverArm | wheelDisarm | wheelCoast | clampSenseChange
      | comparatorFault | axisMove | axisHome | axisStop | axisDisable | setPos | stopAll | elvCmd | writeCompletion |
      journalRecordWrite | holdup | rethrowStart | rethrowAbort | correctableError | uncorrectableError | cacheRequest
      | bypassAccess | cleanLine | invalidateLine | cleanInvalidate | zeroLine | cleanAll | cleanInvalidateAll |
      waySparing | ectClear | ethLinkDown | h2cTermReq | nvmeIdentify | namespaceCreate | namespaceDelete |
      namespaceAttachment | readCommand | writeCommand | zoneAppend | writeZeroes | nvmeFlush | zoneOpen | zoneClose |
      zoneFinish | zoneReset | zoneOffline | setZoneDescriptorExt | stageLoad | unmountLoad | getLogC0 | getLogC1 |
      getLogC2 | getLogC3 | getLogC4 | getLogC5 | getLogSmart | getFeaturesC0 | setFeaturesC0 | setFeaturesC1 |
      setFeaturesStandard | powerManagement | psReq | keepAlive | connectionLoss | controllerReset | firmwareDownload
      | firmwareCommitStore | firmwareCommitActivate | securityReceive | getVersion | getCapabilities |
      negotiateAlgorithms | getDigests | getCertificate | spdmUnsupported | trustLock | svnCommit | trustLeave |
      domainCreate | enrolOffer | drkWrap | pskAdd | pskDel | nskeyRestore | eraseConfirm | eraseConfirmRetry |
      drbgReseed | entropyHealthFail | debugChallengeRead | keyFlush | tFrameRefused | heartbeat | tokenOffer |
      exportMessage | tokenTake | tokenDone | journalMsg | stageMsg | stageFree | mirrorAck | memberMsg | fireReport |
      releaseConf | forwardMsg | writerMsg | twinState | twinStateSend | hoGive | hoReturn | regAck | pwrCmdOn |
      pwrCmdSoftOff | pwrCmdPowerCycle | stageReq | porstNRelease | testReq | testReqForce | poweredTimeSave |
      eventRaised | winCursor | winData | erClearLog | erClearMirror | mirrorWriteDone | oqWin | qFlush | qFlushAll |
      pwrgdFall | thermalTrip | thermalTripEnd | hbmOvertemp | porstNAssertion | twinHbOutToggle | ldOwnxFall |
      asynchronousEventRequest | hbCntTick | tempAlarmClear =>
    exact .inl ⟨_, rfl⟩
  case mirrorRetry => exact .inl (execMirrorRetry_completes ..)
  case queueItemWrite => exact .inl (execQueueItemWrite_completes ..)
  case telemetryPeriod => exact .inl (execTelemetryPeriod_completes ..)
  case qFlushEffect => exact .inl (execQFlushEffect_completes ..)
  case hbmTrainingDone => exact .inl (execHbmTrainingDone_completes ..)
  case sramRowSubstitution => exact .inl (execSramRowSubstitution_completes ..)
  case postPackageRepair => exact .inl (execPostPackageRepair_completes ..)
  case pageRetirement => exact .inl (execPageRetirement_completes ..)
  case scrubWord => exact .inl (execScrubWord_completes ..)
  case cacheFillDone => exact .inl (execCacheFillDone_completes ..)
  case writebackDone => exact .inl (execWritebackDone_completes ..)
  case maintenanceDone => exact .inl (execMaintenanceDone_completes ..)
  case watermarkStallRelease k pc wm => exact .inl (execWatermarkStallRelease_completes s k pc wm)
  case zeroFillComplete => exact .inl (execZeroFillComplete_completes ..)
  case selfRefreshEntry => exact .inl (execSelfRefreshEntry_completes ..)
  case selfRefreshExit => exact .inl (execSelfRefreshExit_completes ..)
  case traceFull => exact .inl (execTraceFull_completes ..)
  case loopMissFault => exact .inl (execLoopMissFault_completes ..)
  case focusLost => exact .inl (execFocusLost_completes ..)
  case trackingLost => exact .inl (execTrackingLost_completes ..)
  case acqSweepTimeout => exact .inl (execAcqSweepTimeout_completes ..)
  case trackingCaptureTimeout => exact .inl (execTrackingCaptureTimeout_completes ..)
  case layerJumpTimeout => exact .inl (execLayerJumpTimeout_completes ..)
  case stepRemoved => exact .inl (execStepRemoved_completes ..)
  case moveEnd a pos => exact .inl (execMoveEnd_completes s a pos)
  case enLagExpiry => exact .inl (execEnLagExpiry_completes ..)
  case switchAccepted a sw level stable pos => exact .inl (execSwitchAccepted_completes s a sw level stable pos)
  case switchChatter => exact .inl (execSwitchChatter_completes ..)
  case sledMsg => exact .inl (execSledMsg_completes ..)
  case xspiWriteRetry => exact .inl (execXspiWriteRetry_completes ..)
  case xspiRingCompact => exact .inl (execXspiRingCompact_completes ..)
  case controlValueWrite => exact .inl (execControlValueWrite_completes ..)
  case controlCapture => exact .inl (execControlCapture_completes ..)
  case controlAckArrival => exact .inl (execControlAckArrival_completes ..)
  case dataItemWrite => exact .inl (execDataItemWrite_completes ..)
  case resyncEntry => exact .inl (execResyncEntry_completes ..)
  case resyncHandshakeDone => exact .inl (execResyncHandshakeDone_completes ..)
  case blockLockLost => exact .inl (execBlockLockLost_completes ..)
  case frameLockGained => exact .inl (execFrameLockGained_completes ..)
  case frameLockLost => exact .inl (execFrameLockLost_completes ..)
  case linkLaneFault => exact .inl (execLinkLaneFault_completes ..)
  case trainingStepAdvance => exact .inl (execTrainingStepAdvance_completes ..)
  case trainingStepTimeout => exact .inl (execTrainingStepTimeout_completes ..)
  case retrainRetry => exact .inl (execRetrainRetry_completes ..)
  case identMsg => exact .inl (execIdentMsg_completes ..)
  case segmentVote => exact .inl (execSegmentVote_completes ..)
  case bandLost => exact .inl (execBandLost_completes ..)
  case bandLockLost => exact .inl (execBandLockLost_completes ..)
  case reacquisitionStart => exact .inl (execReacquisitionStart_completes ..)
  case bandLocked => exact .inl (execBandLocked_completes ..)
  case ringBoundary => exact .inl (execRingBoundary_completes ..)
  case pieceLeavesShelf => exact .inl (execPieceLeavesShelf_completes ..)
  case failedCodewordCopy => exact .inl (execFailedCodewordCopy_completes ..)
  case decodeResult cell pass iters info => exact .inl (execDecodeResult_completes s cell pass iters info)
  case decodeStart => exact .inl (execDecodeStart_completes ..)
  case pieceFiled => exact .inl (execPieceFiled_completes ..)
  case bandReadStart => exact .inl (execBandReadStart_completes ..)
  case redetectionRequest => exact .inl (execRedetectionRequest_completes ..)
  case norevBudgetExpiry => exact .inl (execNorevBudgetExpiry_completes ..)
  case outerAttemptDone => exact .inl (execOuterAttemptDone_completes ..)
  case ladderTimeout => exact .inl (execLadderTimeout_completes ..)
  case measuringEnd => exact .inl (execMeasuringEnd_completes ..)
  case brakeOnExpiry => exact .inl (execBrakeOnExpiry_completes ..)
  case brakeHoldExpiry => exact .inl (execBrakeHoldExpiry_completes ..)
  case restWindowEnd => exact .inl (execRestWindowEnd_completes ..)
  case alignEnd => exact .inl (execAlignEnd_completes ..)
  case openLoopTimeout => exact .inl (execOpenLoopTimeout_completes ..)
  case zeroCrossing => exact .inl (execZeroCrossing_completes ..)
  case commutation => exact .inl (execCommutation_completes ..)
  case crossingWindowEmpty => exact .inl (execCrossingWindowEmpty_completes ..)
  case coastEnd => exact .inl (execCoastEnd_completes ..)
  case atSpeedSet => exact .inl (execAtSpeedSet_completes ..)
  case currentSample => exact .inl (execCurrentSample_completes ..)
  case overcurrentTrip => exact .inl (execOvercurrentTrip_completes ..)
  case handoverRelTimeout => exact .inl (execHandoverRelTimeout_completes ..)
  case shadowCrossing => exact .inl (execShadowCrossing_completes ..)
  case ownxFall => exact .inl (execOwnxFall_completes ..)
  case unplannedWheelTake => exact .inl (execUnplannedWheelTake_completes ..)
  case stripeEncode => exact .inl (execStripeEncode_completes ..)
  case firingRunStart => exact .inl (execFiringRunStart_completes ..)
  case runMaxExpiry => exact .inl (execRunMaxExpiry_completes ..)
  case readWaitExpiry => exact .inl (execReadWaitExpiry_completes ..)
  case firingBegin => exact .inl (execFiringBegin_completes ..)
  case settingArm => exact .inl (execSettingArm_completes ..)
  case laserMon => exact .inl (execLaserMon_completes ..)
  case firingRunEnd => exact .inl (execFiringRunEnd_completes ..)
  case blankScanDone => exact .inl (execBlankScanDone_completes ..)
  case calibration h mse mon => exact .inl (execCalibration_completes s h mse mon)
  case bisqueVerdict => exact .inl (execBisqueVerdict_completes ..)
  case writeRetirement => exact .inl (execWriteRetirement_completes ..)
  case xspiWriteDone => exact .inl (execXspiWriteDone_completes ..)
  case holdupRearm => exact .inl (execHoldupRearm_completes ..)
  case journalReplay => exact .inl (execJournalReplay_completes ..)
  case rethrowAutoStart => exact .inl (execRethrowAutoStart_completes ..)
  case rethrowStepDone => exact .inl (execRethrowStepDone_completes ..)
  case runClose => exact .inl (execRunClose_completes ..)
  case crazePatrol => exact .inl (execCrazePatrol_completes ..)
  case coneRead h layer witnesses => exact .inl (execConeRead_completes s h layer witnesses)
  case stagingWaitExpiry => exact .inl (execStagingWaitExpiry_completes ..)
  case gcmVerifyDone h sa blk ok => exact .inl (execGcmVerifyDone_completes s h sa blk ok)
  case reconstructionDone h sa blk tagOk => exact .inl (execReconstructionDone_completes s h sa blk tagOk)
  case ethLinkUp => exact .inl (execEthLinkUp_completes ..)
  case ethLinkFallback => exact .inl (execEthLinkFallback_completes ..)
  case ethFrameReceive => exact .inl (execEthFrameReceive_completes ..)
  case keepAliveExpiry => exact .inl (execKeepAliveExpiry_completes ..)
  case tcpSegment => exact .inl (execTcpSegment_completes ..)
  case tcpRetransmitTimeout => exact .inl (execTcpRetransmitTimeout_completes ..)
  case tlsHandshake => exact .inl (execTlsHandshake_completes ..)
  case icreq => exact .inl (execIcreq_completes ..)
  case capsuleCmd => exact .inl (execCapsuleCmd_completes ..)
  case h2cData => exact .inl (execH2cData_completes ..)
  case nvmeConnect => exact .inl (execNvmeConnect_completes ..)
  case catalogueWaitExpiry => exact .inl (execCatalogueWaitExpiry_completes ..)
  case namespaceKeyAckTimeout => exact .inl (execNamespaceKeyAckTimeout_completes ..)
  case autonomousPsTransition => exact .inl (execAutonomousPsTransition_completes ..)
  case spdmChallenge => exact .inl (execSpdmChallenge_completes ..)
  case getMeasurements => exact .inl (execGetMeasurements_completes ..)
  case enrolTimeout => exact .inl (execEnrolTimeout_completes ..)
  case loadKeyDerived => exact .inl (execLoadKeyDerived_completes ..)
  case encryptBlock => exact .inl (execEncryptBlock_completes ..)
  case zoneSeal => exact .inl (execZoneSeal_completes ..)
  case helloSend => exact .inl (execHelloSend_completes ..)
  case helloMsg => exact .inl (execHelloMsg_completes ..)
  case helloAuth => exact .inl (execHelloAuth_completes ..)
  case heartbeatSend => exact .inl (execHeartbeatSend_completes ..)
  case reliableResend => exact .inl (execReliableResend_completes ..)
  case twinHbInEdge => exact .inl (execTwinHbInEdge_completes ..)
  case twinHbPinLost => exact .inl (execTwinHbPinLost_completes ..)
  case portTLost => exact .inl (execPortTLost_completes ..)
  case unplannedTakeover => exact .inl (execUnplannedTakeover_completes ..)
  case partitionWithdraw => exact .inl (execPartitionWithdraw_completes ..)
  case partWaitExpiry => exact .inl (execPartWaitExpiry_completes ..)
  case autoReturn => exact .inl (execAutoReturn_completes ..)
  case writerMove => exact .inl (execWriterMove_completes ..)
  case conflictResolution => exact .inl (execConflictResolution_completes ..)
  case announceSend => exact .inl (execAnnounceSend_completes ..)
  case announceMsg => exact .inl (execAnnounceMsg_completes ..)
  case noManagerTimeout => exact .inl (execNoManagerTimeout_completes ..)
  case workerPoll => exact .inl (execWorkerPoll_completes ..)
  case pmbusTransactionDone => exact .inl (execPmbusTransactionDone_completes ..)
  case shelfPowerCycle => exact .inl (execShelfPowerCycle_completes ..)
  case powerOnDequeue => exact .inl (execPowerOnDequeue_completes ..)
  case blockIsolation => exact .inl (execBlockIsolation_completes ..)
  case chipDegrade => exact .inl (execChipDegrade_completes ..)
  case macResidueFail => exact .inl (execMacResidueFail_completes ..)
  case watchdogExpiry => exact .inl (execWatchdogExpiry_completes ..)
  case overloadEnter => exact .inl (execOverloadEnter_completes ..)
  case overloadLeave => exact .inl (execOverloadLeave_completes ..)
  case poisonConsumed => exact .inl (execPoisonConsumed_completes ..)
  case tempAlarm => exact .inl (execTempAlarm_completes ..)
  case fatalReset => exact .inl (execFatalReset_completes ..)
  case bootHoldExpiry => exact .inl (execBootHoldExpiry_completes ..)
  case selfTestStart => exact .inl (execSelfTestStart_completes ..)
  case selfTestDone => exact .inl (execSelfTestDone_completes ..)
  case selfTestEarlyEnd => exact .inl (execSelfTestEarlyEnd_completes ..)
  case passOverdue => exact .inl (execPassOverdue_completes ..)
  case forcedTestTick => exact .inl (execForcedTestTick_completes ..)
  case fwActivationDrainEnd => exact .inl (execFwActivationDrainEnd_completes ..)
  case debugUnlock => exact .inl (execDebugUnlock_completes ..)
  case dataItemReadable => exact .inl (execDataItemReadable_completes ..)
  case linkLoss => exact .inl (execLinkLoss_completes ..)
  case tableAck h table result offset nbody => exact .inl (execTableAck_completes s h table result offset nbody)
  case grooveWord => exact .inl (execGrooveWord_completes ..)
  case servoErr => exact .inl (execServoErr_completes ..)
  case speedTick => exact .inl (execSpeedTick_completes ..)
  case ownConflict => exact .inl (execOwnConflict_completes ..)
  case ldOwnConflict => exact .inl (execLdOwnConflict_completes ..)
  case saturationRun => exact .inl (execSaturationRun_completes ..)
  case softResetComplete => exact .inl (execSoftResetComplete_completes ..)
  case objectDrained => exact .inl (execObjectDrained_completes ..)
  case fmonResult => exact .inl (execFmonResult_completes ..)
  case islandRelease => exact .inl (execIslandRelease_completes ..)
  case pllLossOfLock => exact .inl (execPllLossOfLock_completes ..)
  case pllRelock => exact .inl (execPllRelock_completes ..)
  case referenceClockLost => exact .inl (execReferenceClockLost_completes ..)
  case xtalAoLost => exact .inl (execXtalAoLost_completes ..)
  case writeReleasedAfterTransfer => exact .inl (execWriteReleasedAfterTransfer_completes ..)
  case writeTransferTimeout => exact .inl (execWriteTransferTimeout_completes ..)
  case dtlsHandshake => exact .inl (execDtlsHandshake_completes ..)
  case sessionIdleTimeout => exact .inl (execSessionIdleTimeout_completes ..)
  case eventAck => exact .inl (execEventAck_completes ..)
  case eventSend => exact .inl (execEventSend_completes ..)
  case eventResend => exact .inl (execEventResend_completes ..)
  case subscriptionCancel => exact .inl (execSubscriptionCancel_completes ..)
  case registerWrite => exact .inl (execRegisterWrite_completes ..)
  case stebaroPortDisable => exact .inl (execStebaroPortDisable_completes ..)
  case tableWindowWrite => exact .inl (execTableWindowWrite_completes ..)
  case ceMemoryWrite => exact .inl (execCeMemoryWrite_completes ..)
  case loaderRecovery farTripped => exact .inl (execLoaderRecovery_completes s farTripped)
  case clampSenseTimeout => exact .inl (execClampSenseTimeout_completes ..)

theorem exec_completes {c : Instr} (h : c.wf = true) (s : State) : Completes (exec c s) :=
  (exec_completes_or_malformed c s).resolve_right fun ⟨bad, _⟩ => by simp [h] at bad

/-- Settles O3: whatever a command does, it ends in a settled state. -/
theorem everyStepSettlesReadiness : Obligations.EveryStepSettlesReadiness := by
  intro s t next
  unfold step at next
  split at next
  · exact Completes.quiet ⟨_, rfl⟩ next
  · next c rest _ =>
    obtain completes | ⟨_, what, stops⟩ := exec_completes_or_malformed c { s with pending := rest }
    · exact completes.quiet next
    · simp [stops] at next

/-- Settles O4: a command of a length that its format admits completes, and the others stop with a fault. -/
theorem wellFormedCommandsRun : Obligations.WellFormedCommandsRun := by
  intro c s
  refine ⟨fun h => ?_, fun r refuses => ?_⟩
  · obtain ⟨t, completes⟩ := exec_completes h s
    exact ⟨t.settle, completes⟩
  · obtain ⟨t, completes⟩ | ⟨_, what, stops⟩ := exec_completes_or_malformed c s
    · simp [completes, done] at refuses
    · simp [stops] at refuses

end Sys2Proof.Machine

/-!
SUPPORT. The step, and the state that reset leaves: the common header of every page and the fields of the Reset columns.
-/
namespace Sys2Proof.Machine

-- The kernel decides facts below: one at a time, and not each in a thread of its own that waits for all before it.
set_option Elab.async false

/-- Settles O1, by the two equations of the step. -/
theorem stepRunsTheFrontCommand : Obligations.StepRunsTheFrontCommand := by
  intro s
  constructor
  · intro c rest front
    simp only [step, front]
  · intro empty
    simp only [step, empty]
    rfl

/-- The fields of the common header and what they read after reset (R54). -/
def headerAtReset : List (Fld × Nat) :=
  [(HDR.READY, 0), (HDR.DEGRADED, 0), (HDR.RETIRED, 0), (HDR.ENABLE, 1), (HDR.QUIESCE, 0), (HDR.ISOLATE, 0), (HDR.SOFT_RESET, 0),
   (HDR.TEST_PERMIT, 1), (HDR.ISTAT, 0), (HDR.PG_IEN, 0), (HDR.PG_ECNT_C, 0), (HDR.PG_ECNT_U, 0), (HDR.LAST_ERR_VALID, 0),
   (HDR.OWN_SELF, 1), (HDR.OWN_TWIN, 0), (HDR.XFER_PENDING, 0), (HDR.LOCK, 0), (HDR.PG_SEQ, 0)]

/-- The page at an index of its kind, or the page itself, has its header at the Reset column. -/
theorem reset_header (page : Page) : ∀ x ∈ headerAtReset, State.reset.fld (pageBase page) x.1 = x.2 := by
  cases page with
  | region r => revert r; decide +kernel
  | head h => revert h; decide +kernel
  | band h => revert h; decide +kernel
  | wheel w => revert w; decide +kernel
  | hbm k => revert k; decide +kernel
  | eth p => revert p; decide +kernel
  | _ => decide +kernel

theorem reset_quiet : State.reset.Quiet := ⟨by decide +kernel⟩

theorem reset_wheels (w : WheelIx) : State.reset.fld (wheelPage w.val) WHEEL.TOL_CFG_FLY_STEPS = 6 ∧
    State.reset.fld (wheelPage w.val) WHEEL.SPD_MEAS_STALE = 1 := by
  revert w
  decide +kernel

theorem reset_heads (h : HeadIx) : State.reset.fld (headPage h.val) HEAD.CRC_CFG_RETRY_MAX = 8 ∧
    State.reset.fld (headPage h.val) HEAD.LINK_CTRL_AUTO_RETRAIN = 1 := by
  revert h
  decide +kernel

/-- Settles O2: the state after reset lists nothing, so that each field reads its Reset column. -/
theorem resetLeavesStatedValues : Obligations.ResetLeavesStatedValues := by
  refine ⟨rfl, rfl, reset_quiet, rfl, fun page _ _ => ?_, by decide +kernel, by decide +kernel, by decide +kernel, by decide +kernel,
    by decide +kernel, by decide +kernel, by decide +kernel, by decide +kernel, reset_wheels, reset_heads, ?_⟩
  · simpa [headerAtReset] using reset_header page
  · decide +kernel

end Sys2Proof.Machine

/-!
SUPPORT. The header codeword of a block (R113, R115): its fields stand one after the other, each at the offset where
the decoder looks for it, and a number below the bound of its width comes back from its bytes.
-/
namespace Sys2Proof.Machine

/-! Numbers as bytes, the most significant first -/

@[simp] theorem bytesBE_length (n v : Nat) : (bytesBE n v).length = n := by
  induction n with
  | zero => rfl
  | succ n ih => rw [bytesBE, List.length_cons, ih]

theorem foldl_bytesBE (n v acc : Nat) :
    (bytesBE n v).foldl (fun a b => 256 * a + b % 256) acc = acc * 256 ^ n + v % 256 ^ n := by
  induction n generalizing acc with
  | zero => simp [bytesBE, Nat.mod_one]
  | succ n ih =>
    rw [bytesBE, List.foldl_cons, ih, Nat.mod_mod, Nat.pow_succ, Nat.mod_mul, Nat.add_mul, Nat.mul_comm 256 acc, Nat.mul_assoc acc,
      Nat.mul_comm 256 (256 ^ n), Nat.mul_comm (256 ^ n) (v / 256 ^ n % 256), Nat.add_assoc, Nat.add_comm (v % 256 ^ n)]

theorem ofBytesBE_bytesBE {n v : Nat} (h : v < 256 ^ n) : ofBytesBE (bytesBE n v) = v := by
  unfold ofBytesBE
  rw [foldl_bytesBE, Nat.zero_mul, Nat.zero_add, Nat.mod_eq_of_lt h]

theorem ofBytesBE_singleton {v : Nat} (h : v < 2 ^ 8) : ofBytesBE [v] = v := by
  simpa [ofBytesBE] using h

/-! The CRC fits its field -/

theorem crcStep_lt {poly c : Nat} (hp : poly < 2 ^ 64) (b : Bool) : crcStep 64 poly c b < 2 ^ 64 := by
  have shifted : c * 2 % 2 ^ 64 < 2 ^ 64 := Nat.mod_lt _ (by decide)
  unfold crcStep
  dsimp only
  split
  · exact Nat.xor_lt_two_pow shifted hp
  · exact shifted

theorem crc_lt {poly c : Nat} (hp : poly < 2 ^ 64) (hc : c < 2 ^ 64) (bs : List Bool) : crc 64 poly c bs < 2 ^ 64 := by
  unfold crc
  induction bs generalizing c with
  | nil => exact hc
  | cons b bs ih => exact ih (crcStep_lt hp b)

theorem crc64_lt (bytes : List Nat) : crc64 bytes < 2 ^ 64 :=
  Nat.xor_lt_two_pow (crc_lt (by decide) (by decide) _) (by decide)

/-! The fields of a header -/

namespace BlockHeader

variable (h : BlockHeader)

/-- The fields of a header in their order, but for the CRC. -/
def fields : List (List Nat) :=
  [bytesBE 4 0x4C554248, [1], [h.kind], bytesBE 2 h.flags, bytesBE 8 h.discId, bytesBE 4 h.pba, bytesBE 4 h.homePba,
   bytesBE 8 h.loadId, bytesBE 4 h.nsid, bytesBE 2 h.zone, [h.lane], [h.position], bytesBE 4 h.stripe, [h.width], [h.member],
   [0, 0], bytesBE 4 h.generation, bytesBE 12 h.nonce, bytesBE 16 h.tag, bytesBE 8 h.lbaFirst, h.journalPtr,
   List.replicate 152 0, h.metadata, List.replicate 3576 0]

/-- All fields, the CRC over the others at the end. -/
def allFields : List (List Nat) := h.fields ++ [bytesBE 8 (crc64 h.fields.flatten)]

/-- The widths of the fields in bytes. -/
def widths : List Nat := [4, 1, 1, 2, 8, 4, 4, 8, 4, 2, 1, 1, 4, 1, 1, 2, 4, 12, 16, 8, 16, 152, 256, 3576, 8]

/-- A list of a concatenation stands behind those before it. -/
theorem drop_take_flatten {α : Type} {L : List (List α)} {k : Nat} (hk : k < L.length) :
    (L.flatten.drop (L.take k).flatten.length).take L[k].length = L[k] := by
  have parts : L.flatten = (L.take k).flatten ++ (L[k] ++ (L.drop (k + 1)).flatten) := by
    rw [← List.flatten_cons, List.getElem_cons_drop, ← List.flatten_append, List.take_append_drop]
  rw [parts, List.drop_append_length, List.take_left]

variable {h} (hj : h.journalPtr.length = 16) (hm : h.metadata.length = 256)
include hj hm

theorem allFields_widths : h.allFields.map List.length = widths := by
  simp [allFields, fields, widths, hj, hm, -List.reduceReplicate]

theorem headerBytes_eq_flatten : headerBytes h = h.allFields.flatten := by
  have journal : (h.journalPtr ++ List.replicate 16 0).take 16 = h.journalPtr := by rw [← hj, List.take_left]
  have metadata : (h.metadata ++ List.replicate 256 0).take 256 = h.metadata := by rw [← hm, List.take_left]
  unfold headerBytes allFields fields
  dsimp only
  rw [journal, metadata]
  simp only [List.flatten_cons, List.flatten_nil, List.append_nil, List.append_assoc, List.cons_append,
    List.nil_append]

theorem headerBytes_length : (headerBytes h).length = 4096 := by
  rw [headerBytes_eq_flatten hj hm, List.length_flatten, allFields_widths hj hm]
  rfl

/-- A field stands where the widths before it end. -/
theorem field_at (k o : Nat) {n : Nat} {bs : List Nat} (ho : (widths.take k).sum = o) (hn : widths[k]? = some n)
    (hf : h.allFields[k]? = some bs) : ((headerBytes h).drop o).take n = bs := by
  obtain ⟨hk, rfl⟩ := List.getElem?_eq_some_iff.1 hf
  have width : h.allFields[k].length = n := by
    rw [← allFields_widths hj hm, List.getElem?_map, List.getElem?_eq_getElem hk] at hn
    exact Option.some.inj hn
  have before : (h.allFields.take k).flatten.length = o := by
    rw [List.length_flatten, List.map_take, allFields_widths hj hm, ho]
  rw [headerBytes_eq_flatten hj hm, ← before, ← width]
  exact drop_take_flatten hk

/-- What the CRC runs over is what stands before it. -/
theorem take_crc : (headerBytes h).take 0xFF8 = h.fields.flatten := by
  have ends : h.fields.flatten.length = 0xFF8 := by
    have := headerBytes_length hj hm
    rw [headerBytes_eq_flatten hj hm] at this
    simpa [allFields] using this
  rw [headerBytes_eq_flatten hj hm, ← ends]
  simp [allFields]

end BlockHeader

/-- Settles O13: each field is read where it stands, and the CRC is that of the fields before it. -/
theorem blockHeadersRoundTrip : Obligations.BlockHeadersRoundTrip := by
  intro h kind flags discId pba homePba loadId nsid zone lane position stripe width member generation nonce tag lbaFirst hj hm
  have number (k o : Nat) {n v : Nat} (ho : (BlockHeader.widths.take k).sum = o) (hn : BlockHeader.widths[k]? = some n)
      (hf : h.allFields[k]? = some (bytesBE n v)) (hv : v < 256 ^ n) : ofBytesBE (((headerBytes h).drop o).take n) = v := by
    rw [BlockHeader.field_at hj hm k o ho hn hf, ofBytesBE_bytesBE hv]
  have byte (k o : Nat) {v : Nat} (ho : (BlockHeader.widths.take k).sum = o) (hn : BlockHeader.widths[k]? = some 1)
      (hf : h.allFields[k]? = some [v]) (hv : v < 2 ^ 8) : ofBytesBE (((headerBytes h).drop o).take 1) = v := by
    rw [BlockHeader.field_at hj hm k o ho hn hf, ofBytesBE_singleton hv]
  refine ⟨BlockHeader.headerBytes_length hj hm, ?_, ?_⟩
  · unfold headerOf
    dsimp only
    rw [byte 2 5 rfl rfl rfl kind, number 3 6 rfl rfl rfl flags, number 4 8 rfl rfl rfl discId,
      number 5 0x10 rfl rfl rfl pba, number 6 0x14 rfl rfl rfl homePba, number 7 0x18 rfl rfl rfl loadId,
      number 8 0x20 rfl rfl rfl nsid, number 9 0x24 rfl rfl rfl zone, byte 10 0x26 rfl rfl rfl lane,
      byte 11 0x27 rfl rfl rfl position, number 12 0x28 rfl rfl rfl stripe, byte 13 0x2C rfl rfl rfl width,
      byte 14 0x2D rfl rfl rfl member, number 16 0x30 rfl rfl rfl generation, number 17 0x34 rfl rfl rfl nonce,
      number 18 0x40 rfl rfl rfl tag, number 19 0x50 rfl rfl rfl lbaFirst, BlockHeader.field_at hj hm 20 0x58 rfl rfl rfl,
      BlockHeader.field_at hj hm 22 0x100 rfl rfl rfl]
  · have magic := number 0 0 rfl rfl rfl (by decide)
    have version : (headerBytes h).getD 4 0 = 1 := by
      have first := congrArg (fun bs => bs[0]?) (BlockHeader.field_at hj hm 1 4 rfl rfl rfl)
      simp only [List.getElem?_take, List.getElem?_drop] at first
      rw [List.getD_eq_getElem?_getD]
      exact congrArg (fun b => b.getD 0) first
    have address := number 5 0x10 rfl rfl rfl pba
    have check := number 24 0xFF8 rfl rfl rfl (crc64_lt _)
    rw [List.drop_zero] at magic
    simp only [headerOk, magic, version, address, check, BlockHeader.take_crc hj hm, decide_true, Bool.and_self]

end Sys2Proof.Machine

/-!
SUPPORT. Places on a disc (R93-R96, R109, R116, R130): a setting is a ring, a band of the ring and an angle, and the
layers of odd number are recorded band by band from the last.
-/
namespace Sys2Proof.Machine

-- The kernel decides facts below: one at a time, and not each in a thread of its own that waits for all before it.
set_option Elab.async false

/-! Rings (R95) -/

/-- How many bands a ring has. -/
def ringBands (k : Nat) : Nat := if k = 0 then 450 else if k = 20 then 106 else 530

theorem ring_succ : ∀ k < 21, ringFirstSetting (k + 1) = ringFirstSetting k + ringBands k * ringS k := by decide

theorem ring_mono : ∀ j < 22, ∀ k < 22, j ≤ k → ringFirstSetting j ≤ ringFirstSetting k := by decide

theorem rings_upTo : ∀ k < 21, ((List.range 21).filter fun j => decide (j ≤ k)).length = k + 1 := by decide

/-- A setting lies in the ring between whose first setting and the next ring's it stands. -/
theorem ringOfSetting_eq {g k : Nat} (hk : k < 21) (lo : ringFirstSetting k ≤ g) (hi : g < ringFirstSetting (k + 1)) :
    ringOfSetting g = k := by
  have upTo : (List.range 21).filter (fun j => decide (ringFirstSetting j ≤ g)) = (List.range 21).filter fun j => decide (j ≤ k) := by
    refine List.filter_congr fun j hj => decide_eq_decide.2 ⟨fun h => ?_, fun h => ?_⟩ <;> rw [List.mem_range] at hj
    · refine Decidable.byContradiction fun after => ?_
      have := ring_mono (k + 1) (by omega) j (by omega) (by omega)
      omega
    · exact Nat.le_trans (ring_mono j (by omega) k (by omega) h) lo
  rw [ringOfSetting, upTo, rings_upTo k hk, Nat.add_sub_cancel]

theorem exists_ring {g : Nat} (hg : g < settingsPerLayer) : ∃ k < 21, ringFirstSetting k ≤ g ∧ g < ringFirstSetting (k + 1) := by
  have below : ∀ n ≤ 21, g < ringFirstSetting n → ∃ k < n, ringFirstSetting k ≤ g ∧ g < ringFirstSetting (k + 1) := by
    intro n
    induction n with
    | zero => exact fun _ h => absurd h (Nat.not_lt_zero g)
    | succ n ih =>
      intro hn h
      by_cases lo : ringFirstSetting n ≤ g
      · exact ⟨n, Nat.lt_succ_self n, lo, h⟩
      · obtain ⟨k, hk, bounds⟩ := ih (by omega) (by omega)
        exact ⟨k, by omega, bounds⟩
  exact below 21 (Nat.le_refl 21) hg

theorem ringOfBand_eq {k q : Nat} (hk : k < 21) (hq : q < ringBands k) : ringOfBand (ringFirstBand k + q) = k := by
  unfold ringBands at hq
  unfold ringOfBand ringFirstBand
  (repeat' split) <;> (repeat' split at hq) <;> omega

/-! Bands and angles (R96) -/

/-- The setting at angle a of the q-th band of ring k. -/
def placeOf (k q a : Nat) : Nat := ringFirstSetting k + q * ringS k + a

section Place
variable {k q a : Nat} (hk : k < 21) (hq : q < ringBands k)
include hk hq

theorem bandFirstSetting_place : bandFirstSetting (ringFirstBand k + q) = ringFirstSetting k + q * ringS k := by
  unfold bandFirstSetting
  simp only [ringOfBand_eq hk hq, Nat.add_sub_cancel_left]

theorem band_ends : ringFirstSetting k + q * ringS k + ringS k ≤ ringFirstSetting (k + 1) := by
  rw [ring_succ k hk, Nat.add_assoc, ← Nat.succ_mul]
  exact Nat.add_le_add_left (Nat.mul_le_mul_right _ hq) _

theorem bandOfSetting_place (ha : a < ringS k) : bandOfSetting (placeOf k q a) = ringFirstBand k + q := by
  have hi := band_ends hk hq
  have ring : ringOfSetting (placeOf k q a) = k := ringOfSetting_eq hk (by unfold placeOf; omega) (by unfold placeOf; omega)
  have offset : placeOf k q a - ringFirstSetting k = a + q * ringS k := by unfold placeOf; omega
  unfold bandOfSetting
  simp only [ring, offset, Nat.add_mul_div_right _ _ (Nat.zero_lt_of_lt ha), Nat.div_eq_of_lt ha, Nat.zero_add]

theorem angleOfSetting_place (ha : a < ringS k) : angleOfSetting (placeOf k q a) = a := by
  rw [angleOfSetting, bandOfSetting_place hk hq ha, bandFirstSetting_place hk hq, placeOf, Nat.add_sub_cancel_left]

theorem place_band_lt : ringFirstBand k + q < bandsPerLayer := by
  unfold ringBands at hq
  unfold ringFirstBand bandsPerLayer
  (repeat' split) <;> (repeat' split at hq) <;> omega

end Place

theorem exists_place {g : Nat} (hg : g < settingsPerLayer) :
    ∃ k q a, k < 21 ∧ q < ringBands k ∧ a < ringS k ∧ g = placeOf k q a := by
  obtain ⟨k, hk, lo, hi⟩ := exists_ring hg
  have pos : 0 < ringS k := by unfold ringS; omega
  refine ⟨k, (g - ringFirstSetting k) / ringS k, (g - ringFirstSetting k) % ringS k, hk, ?_, Nat.mod_lt _ pos, ?_⟩
  · rw [ring_succ k hk] at hi
    exact Nat.div_lt_of_lt_mul (by rw [Nat.mul_comm]; omega)
  · have := Nat.div_add_mod (g - ringFirstSetting k) (ringS k)
    rw [Nat.mul_comm] at this
    unfold placeOf
    omega

/-! The recording order (R93) -/

/-- Before a band of an odd layer the bands behind it are recorded. -/
theorem recordingPos_odd {layer k q a : Nat} (odd : layer % 2 ≠ 0) (hk : k < 21) (hq : q < ringBands k) (ha : a < ringS k) :
    recordingPos layer (placeOf k q a) = settingsPerLayer - (ringFirstSetting k + q * ringS k + ringS k) + a := by
  unfold recordingPos
  simp only [odd, if_false, bandOfSetting_place hk hq ha, angleOfSetting_place hk hq ha, bandFirstSetting_place hk hq,
    ringOfBand_eq hk hq]

theorem place_lt {k q : Nat} (hk : k < 21) (hq : q < ringBands k) : ringFirstSetting k + q * ringS k + ringS k ≤ settingsPerLayer :=
  Nat.le_trans (band_ends hk hq) (ring_mono (k + 1) (by omega) 21 (by decide) (by omega))

theorem settingAtPos_recordingPos (layer : Nat) {g : Nat} (hg : g < settingsPerLayer) :
    settingAtPos layer (recordingPos layer g) = g := by
  obtain ⟨k, q, a, hk, hq, ha, rfl⟩ := exists_place hg
  by_cases even : layer % 2 = 0
  · simp [recordingPos, settingAtPos, even]
  · have room := place_lt hk hq
    have mirrored : settingsPerLayer - 1 - (settingsPerLayer - (ringFirstSetting k + q * ringS k + ringS k) + a) =
        placeOf k q (ringS k - 1 - a) := by
      unfold placeOf
      omega
    have last : ringS k - 1 - a < ringS k := by omega
    rw [recordingPos_odd even hk hq ha]
    unfold settingAtPos
    simp only [even, if_false, mirrored, bandOfSetting_place hk hq last, bandFirstSetting_place hk hq, ringOfBand_eq hk hq,
      Nat.add_sub_cancel_left]
    rfl

theorem recordingPos_lt (layer : Nat) {g : Nat} (hg : g < settingsPerLayer) : recordingPos layer g < settingsPerLayer := by
  obtain ⟨k, q, a, hk, hq, ha, rfl⟩ := exists_place hg
  by_cases even : layer % 2 = 0
  · simpa [recordingPos, even] using hg
  · have room := place_lt hk hq
    rw [recordingPos_odd even hk hq ha]
    omega

/-! Zones (R130): the user area begins with a band, so that an odd layer records all of it before the rest -/

/-- How many settings of a layer are no zone's. -/
def reservedSettings : Nat := 5824

theorem band_of_user {k q a : Nat} (hk : k < 21) (ha : a < ringS k) (user : reservedSettings ≤ placeOf k q a) :
    reservedSettings ≤ ringFirstSetting k + q * ringS k := by
  unfold placeOf reservedSettings at *
  by_cases first : k = 0
  · subst first
    simp only [ringFirstSetting, ringS, List.getD_cons_zero] at *
    omega
  · have := ring_mono 1 (by decide) k (by omega) (by omega)
    simp only [ringFirstSetting, List.getD_cons_succ, List.getD_cons_zero] at this ⊢
    omega

/-- The place of a user setting among those of its layer's zones, in recording order. -/
def userPos (layer g : Nat) : Nat := if layer % 2 = 0 then recordingPos layer g - reservedSettings else recordingPos layer g

theorem userPos_lt (layer : Nat) {g : Nat} (hg : g < settingsPerLayer) (user : reservedSettings ≤ g) :
    userPos layer g < zonesPerLayer * settingsPerZone := by
  have size : zonesPerLayer * settingsPerZone = settingsPerLayer - reservedSettings := by decide
  have reservedLt : reservedSettings < settingsPerLayer := by decide
  obtain ⟨k, q, a, hk, hq, ha, rfl⟩ := exists_place hg
  rw [userPos, size]
  by_cases even : layer % 2 = 0
  · simp only [even, if_true, recordingPos]
    omega
  · have room := place_lt hk hq
    have band := band_of_user hk ha user
    simp only [even, if_false, recordingPos_odd even hk hq ha]
    omega

theorem zoneOfSetting_user {layer g : Nat} (user : reservedSettings ≤ g) :
    zoneOfSetting layer g = some (30 * layer + userPos layer g / settingsPerZone, userPos layer g % settingsPerZone) :=
  if_neg (Nat.not_lt.2 user)

theorem zoneSetting_zone (layer : Nat) {g : Nat} (hg : g < settingsPerLayer) (user : reservedSettings ≤ g) :
    zoneLayer (30 * layer + userPos layer g / settingsPerZone) = layer ∧
      zoneSetting (30 * layer + userPos layer g / settingsPerZone) (userPos layer g % settingsPerZone) = g := by
  have zone : userPos layer g / settingsPerZone < 30 := Nat.div_lt_of_lt_mul (by
    rw [Nat.mul_comm]
    exact userPos_lt layer hg user)
  have ofLayer : zoneLayer (30 * layer + userPos layer g / settingsPerZone) = layer := by
    rw [zoneLayer, Nat.mul_add_div (by decide), Nat.div_eq_of_lt zone, Nat.add_zero]
  have within : (30 * layer + userPos layer g / settingsPerZone) % 30 = userPos layer g / settingsPerZone := by
    rw [Nat.mul_add_mod, Nat.mod_eq_of_lt zone]
  have place : (if layer % 2 = 0 then 5824 + userPos layer g else userPos layer g) = recordingPos layer g := by
    unfold userPos reservedSettings
    split
    next even =>
      simp only [recordingPos, even, if_true]
      exact Nat.add_sub_cancel' user
    next => rfl
  refine ⟨ofLayer, ?_⟩
  unfold zoneSetting
  simp only [ofLayer, within, Nat.div_add_mod, place, settingAtPos_recordingPos layer hg]

/-! Slots (R109) -/

theorem slotAtPos_piecePos : ∀ c < 72, ∀ b < 16, piecePos c b < 72 ∧ slotAtPos (piecePos c b) b = c := by decide +kernel

theorem piecePos_slotAtPos : ∀ p < 72, ∀ b < 16, slotAtPos p b < 72 ∧ piecePos (slotAtPos p b) b = p := by decide +kernel

/-- Settles O14: the ring, the band and the angle of a setting give its place and back. -/
theorem discPlacesAreOneToOne : Obligations.DiscPlacesAreOneToOne := by
  refine ⟨fun layer g blk hlayer hg hblk => ?_, fun c b hc hb => slotAtPos_piecePos c hc b hb,
    fun p b hp hb => piecePos_slotAtPos p hp b hb⟩
  have pba : pbaLayer (pbaOf layer g blk) = layer ∧ pbaSetting (pbaOf layer g blk) = g ∧ pbaBlock (pbaOf layer g blk) = blk := by
    unfold layersPerDisc at hlayer
    unfold settingsPerLayer at hg
    unfold pbaLayer pbaSetting pbaBlock pbaOf
    omega
  obtain ⟨k, q, a, hk, hq, ha, place⟩ := exists_place hg
  have band : bandOfSetting g = ringFirstBand k + q := place ▸ bandOfSetting_place hk hq ha
  have angle : angleOfSetting g = a := place ▸ angleOfSetting_place hk hq ha
  refine ⟨?_, ?_, ?_, recordingPos_lt layer hg, settingAtPos_recordingPos layer hg, pba.1, pba.2.1, pba.2.2, fun other => if_pos other,
    fun user => ⟨_, _, zoneOfSetting_user user, ?_, Nat.mod_lt _ (by decide), zoneSetting_zone layer hg user⟩⟩
  · exact band ▸ place_band_lt hk hq
  · rw [settingAt, band, angle, bandFirstSetting_place hk hq, place, placeOf]
  · rw [angle, band, ringOfBand_eq hk hq]
    exact ha
  · have zone := userPos_lt layer hg user
    have : userPos layer g / settingsPerZone < 30 := Nat.div_lt_of_lt_mul (by rw [Nat.mul_comm]; exact zone)
    unfold layersPerDisc at hlayer
    unfold zonesPerLane
    omega

end Sys2Proof.Machine

/-!
SUPPORT. The axes (R358, R362, R365-R367, R369).
-/
namespace Sys2Proof.Machine

section
variable {s : State}

/-! Moves -/

/-- The axis where it arrived, its travel counted. -/
def State.arrived (s : State) (n : Nat) : State :=
  let t := s.axSync n
  t.setAxis n { t.axis n with travel := (t.axis n).travel + moveLen (t.axis n).start (t.axPos n) }

/-- What the end of a move does, by why the axis moved. -/
def State.moveDone (s : State) (n : Nat) (x : AxisSt) : Res :=
  let t := s.arrived n
  if x.stopping then done (t.endMotion n (if x.fault = 0 then 2 else 3) x.fault)
  else match x.mode with
    | .none => done s
    | .move => done (t.moveEnds n)
    | .presence => done (t.presenceSeen true)
    | .home 5 _ => done (t.homeDone n)
    | .home step rest =>
      if !rest then
        let u := t.setAxis n { t.axis n with made := 0, start := t.axPos n, segs := cruiseSeg x.prof.vMax 1, t0 := t.now, run := 0 }
        done (u.homeNotFound n)
      else done (t.homeStep n (match step with
        | 0 => 2
        | 1 => 2
        | 2 => 3
        | _ => 4))

theorem exec_moveEnd_arrived {a : AxisIx} (moving : s.axMoving a.val = true) (there : s.axArrived a.val = true) :
    exec (.moveEnd a ()) s = s.moveDone a.val ((s.axSync a.val).axis a.val) := by
  have goes : ¬((!s.axMoving a.val) = true ∨ (!s.axArrived a.val) = true) := by
    rw [moving, there]
    simp
  exact if_neg goes

section Done
variable {n : Nat} {x : AxisSt}

theorem State.moveDone_stopped (stop : x.stopping = true) :
    s.moveDone n x = done ((s.arrived n).endMotion n (if x.fault = 0 then 2 else 3) x.fault) := if_pos stop

variable (goes : x.stopping = false)
include goes

theorem State.moveDone_move (mode : x.mode = .move) : s.moveDone n x = done ((s.arrived n).moveEnds n) := by
  simp only [State.moveDone, goes, mode, Bool.false_eq_true, if_false]

theorem State.moveDone_presence (mode : x.mode = .presence) : s.moveDone n x = done ((s.arrived n).presenceSeen true) := by
  simp only [State.moveDone, goes, mode, Bool.false_eq_true, if_false]

theorem State.moveDone_homed {rest : Bool} (mode : x.mode = .home 5 rest) : s.moveDone n x = done ((s.arrived n).homeDone n) := by
  simp only [State.moveDone, goes, mode, Bool.false_eq_true, if_false]

/-- The first three steps of homing are followed by the next. -/
theorem State.moveDone_step {step : Nat} (mode : x.mode = .home step true) (low : 1 ≤ step) (high : step ≤ 3) :
    s.moveDone n x = done ((s.arrived n).homeStep n (step + 1)) := by
  obtain rfl | rfl | rfl : step = 1 ∨ step = 2 ∨ step = 3 := by omega
  all_goals simp [State.moveDone, goes, mode]

theorem State.moveDone_notFound {step : Nat} (mode : x.mode = .home step false) (ne : step ≠ 5) :
    s.moveDone n x = done (((s.arrived n).setAxis n { (s.arrived n).axis n with
      made := 0, start := (s.arrived n).axPos n, segs := cruiseSeg x.prof.vMax 1, t0 := (s.arrived n).now, run := 0 }).homeNotFound n) := by
  simp [State.moveDone, goes, mode]

end Done

/-! Switches and sleds -/

theorem exec_switchAccepted_long {a : AxisIx} {sw : Switch} {level : Bool} {stable : Nat} (pin : isSled a.val = false)
    (long : s.debounce a.val ≤ stable) :
    exec (.switchAccepted a sw level stable ()) s =
      .next ((s.axSync a.val).switchAccepted a.val sw (s.switchActive a.val sw level) (s.axPosAgo a.val stable)).settle :=
  (if_neg (Bool.eq_false_iff.1 pin)).trans (if_neg (Nat.not_lt.2 long))

theorem exec_switchAccepted_short {a : AxisIx} {sw : Switch} {level : Bool} {stable : Nat} (pin : isSled a.val = false)
    (short : stable < s.debounce a.val) : exec (.switchAccepted a sw level stable ()) s = .next s.settle :=
  (if_neg (Bool.eq_false_iff.1 pin)).trans (if_pos short)

/-- The state once both switches of a sled are taken. -/
def State.sledSeen (s : State) (h : Nat) (home far : Bool) : State := (s.sledSwitch h .home home).sledSwitch h .far far

section Sled
variable {h : HeadIx} {home far : Bool} {pos : Int} (obeys : (s.sledSeen h.val home far).headObeys h.val = true)
include obeys

theorem exec_sledMsg_first (unknown : ((s.sledSeen h.val home far).axis h.val).ofs = none) :
    exec (.sledMsg h home far pos) s = .next ((s.sledSeen h.val home far).setAxis h.val
      { (s.sledSeen h.val home far).axis h.val with ofs := some (pos - (s.sledSeen h.val home far).axPos h.val) }).settle := by
  unfold State.sledSeen at obeys unknown
  change execSledMsg h home far pos s = _
  simp only [execSledMsg, obeys, unknown, Bool.not_true, Bool.false_eq_true, if_false]
  rfl

/-- A sled whose offset has drifted is faulted. -/
def State.sledDrifted (s : State) (h : Nat) (d : Int) : State :=
  let t := (s.setAxFault h 5).setFlag (axisBlock h) AXIS.AX_STAT_REFD false
  let t := if t.axMoving h then t.stopAxis h 5 else t.setAxState h 5
  let t := t.setAxis h { t.axis h with ofs := some d }
  (t.istat motionPage 9).event motionPage 0x7305 3 0xFF h

theorem exec_sledMsg_again {o : Int} (known : ((s.sledSeen h.val home far).axis h.val).ofs = some o) :
    exec (.sledMsg h home far pos) s =
      let d := pos - (s.sledSeen h.val home far).axPos h.val
      if (d - o).natAbs ≤ 64 then done (s.sledSeen h.val home far) else done ((s.sledSeen h.val home far).sledDrifted h.val d) := by
  unfold State.sledSeen at obeys known
  change execSledMsg h home far pos s = _
  simp only [execSledMsg, obeys, known, Bool.not_true, Bool.false_eq_true, if_false]
  rfl

end Sled
end

/-- Settles O38, command by command: what each clause says of the axis decides the branch that its command takes. -/
theorem axisCommands : Obligations.AxisCommands := by
  intro s
  refine ⟨?_, ?_, ?_, ?_, ?_⟩
  · intro a moving there u x t
    have ends := exec_moveEnd_arrived moving there
    refine ⟨fun go mode => ends.trans (State.moveDone_move go mode), fun go mode => ends.trans (State.moveDone_presence go mode),
      fun _ go mode => ends.trans (State.moveDone_homed go mode), fun _ go mode low high => ends.trans (State.moveDone_step go mode low high),
      fun _ go mode ne => ends.trans (State.moveDone_notFound go mode ne), fun stop noFault => ?_, fun stop fault => ?_⟩
    · exact (ends.trans (State.moveDone_stopped stop)).trans (by rw [if_pos noFault, noFault]; rfl)
    · exact (ends.trans (State.moveDone_stopped stop)).trans (by rw [if_neg fault]; rfl)
  · intro a pin free still late t
    exact if_neg (by simp [pin, free, still, late])
  · exact fun _ _ _ _ => ⟨fun sled => if_pos sled, exec_switchAccepted_long, exec_switchAccepted_short⟩
  · intro a sw ages b seen chat noFault noCause t
    have guard := not_or.2 ⟨Nat.not_le.2 chat, not_or.2 ⟨noFault, noCause⟩⟩
    exact ⟨fun moving => (if_neg guard).trans (if_pos moving),
      fun still => (if_neg guard).trans (if_neg (Bool.eq_false_iff.1 still))⟩
  · exact fun h home far pos obeys => ⟨exec_sledMsg_first obeys, fun o known =>
      ⟨fun near => (exec_sledMsg_again obeys known).trans (if_pos near),
        fun apart => (exec_sledMsg_again obeys known).trans (if_neg (Nat.not_le.2 apart))⟩⟩

end Sys2Proof.Machine

/-!
SUPPORT. Lost servo frames and lost loops (R296, R312-R314, R316, R317).
-/
namespace Sys2Proof.Machine

/-- Settles O47: a frame missing of a companion that obeys reaches the slots of its head, of another it reaches none;
every other command meets its condition and takes that branch. -/
theorem servoLossCommands : Obligations.ServoLossCommands := by
  intro h s q
  refine ⟨?_, ?_, ?_, ?_, ?_, ?_, ?_, ?_, ?_⟩
  · intro obeys
    change done (s.frameMissing h.val) = _
    rw [State.frameMissing, if_neg (by simp [obeys])]
    rfl
  · intro obeys
    change done (s.frameMissing h.val) = _
    rw [State.frameMissing, if_pos (by simp [obeys])]
    rfl
  · exact fun missed => if_neg (Nat.not_lt.2 missed)
  · exact fun lost => if_neg fun ⟨low, ne⟩ => lost.elim (Nat.not_le.2 low) ne
  · exact fun lost => if_neg fun ⟨low, ne⟩ => lost.elim (Nat.not_le.2 low) ne
  · exact fun phase late => if_pos ⟨phase, late⟩
  · exact fun phase late => if_pos ⟨phase, late⟩
  · exact fun op phase late => if_pos ⟨op, phase, decide_eq_true late⟩
  · exact fun phase run late => if_pos ⟨phase, run, late⟩

end Sys2Proof.Machine

/-!
SUPPORT. Commands that write one register of a page's own: which words such a command can name, and what the write
does once it passes the checks of R60.
-/
namespace Sys2Proof.Machine

/-- `a` is a word of page `p` with fields, outside the header, the profile tables and the reset word. -/
def ownWord (a : Nat) (p : PageRef) : Bool :=
  decide (pageAt a = some p) && !(fieldsAt a).isEmpty && (decide (0x40 ≤ a - p.base) || !p.kind.hasHeader) &&
    !decide (0x240000 ≤ a ∧ a < 0x261000) && decide (a ≠ chipPage + 0x70)

/-- An own word that holds nothing: a write of it acts and stores no value. -/
def pulseWord (a : Nat) (p : PageRef) : Bool :=
  ownWord a p && (fieldsAt a).all fun x => decide (effAcc p x = .wo) || decide (effAcc p x = .ro) || decide (effAcc p x = .rc)

section
variable {s : State} {path : Path} {a v : Nat} {p : PageRef}

/-- A write of an own word that passes: its fields take their values, and the page acts. -/
theorem State.regSet_own (hf : s.Passes path a v) (h : ownWord a p = true) :
    s.regSet path a v = answered path a ((s.put path a v).wrote path p (a - p.base) v (s.hits path a v) s) := by
  simp only [ownWord, Bool.and_eq_true, Bool.or_eq_true, Bool.not_eq_true', decide_eq_true_eq, decide_eq_false_iff_not] at h
  obtain ⟨⟨⟨⟨page, fields⟩, own⟩, table⟩, reset⟩ := h
  exact State.regSet_passes hf page fields own table reset

theorem pulseWord_own (h : pulseWord a p = true) : ownWord a p = true := (Bool.and_eq_true_iff.1 h).1

/-- A write of a word that holds nothing leaves the fields and the page acts. -/
theorem State.regSet_pulse (hf : s.Passes path a v) (h : pulseWord a p = true) :
    s.regSet path a v = answered path a (s.wrote path p (a - p.base) v (s.hits path a v) s) := by
  have own := pulseWord_own h
  rw [State.regSet_own hf own]
  simp only [pulseWord, ownWord, Bool.and_eq_true, decide_eq_true_eq] at h
  rw [State.put_of_plain h.1.1.1.1.1 h.2]


/-- A write of one word that passes, but the immediate reset of the chip: the word is written, and its table marked. -/
theorem State.regWrite_word (hf : s.Passes path a v) (h : a ≠ chipPage + 0x70 ∨ v ≠ 0x5A5A) :
    s.regWrite path [(a, v)] = ((s.writeWord path a v).pulsesWritten [a]).send (.writeDone path a 0) := by
  have all : s.PassesAll path [(a, v)] :=
    ⟨hf.live, hf.still, hf.alone, by simp only [State.firstFault, hf.allowed]⟩
  have off : (chipPage + 0x70, 0x5A5A) ∉ [(a, v)] := by
    rw [List.mem_singleton, Prod.mk.injEq]
    exact fun e => h.elim (fun n => n e.1.symm) (fun n => n e.2.symm)
  have one : s.writeWords path [(a, v)] = s.writeWord path a v := by simp only [State.writeWords, ite_self]
  rw [State.regWrite_passes all off, one]
  rfl

theorem State.regSet_word (hf : s.Passes path a v) (h : a ≠ chipPage + 0x70 ∨ v ≠ 0x5A5A) :
    s.regSet path a v = answered path a ((s.writeWord path a v).pulsesWritten [a]) :=
  congrArg done (State.regWrite_word hf h)

/-- A window word outside the fields takes the bits that the window has. -/
theorem State.writeWord_window (window : isWindow a = true) (empty : (fieldsAt a).isEmpty = true) (mask : windowMask a ≠ 0) :
    s.writeWord path a v = s.setWord a (maskIn (s.word a) v (windowMask a)) := by
  unfold State.writeWord
  cases pageAt a with
  | none => exact if_neg mask
  | some p => simp [window, empty, mask]

end
end Sys2Proof.Machine

/-!
SUPPORT. The control engine's and the firing page's register commands, one rule each (R262, R277, R300, R301, R322).
-/
namespace Sys2Proof.Machine

-- The kernel decides facts below: one at a time, and not each in a thread of its own that waits for all before it.
set_option Elab.async false
section
variable {s : State} {path : Path} {mask : Word}

/-- The swap words act by their place in the register file (R300, R301). -/
theorem State.wrote_swapReq (t : State) {i b v : Nat} (k : Fin 6) (hits : Fld → Bool) :
    t.wrote path ⟨.ctrleng, i, b⟩ (0x68 + 4 * k.val) v hits s = t.swapMask k.val v := by
  unfold State.wrote
  dsimp only
  rw [if_neg (by omega), if_pos (by omega), show (0x68 + 4 * k.val - 0x68) / 4 = k.val by omega]

/-- The enable words act by their place, against what was enabled before. -/
theorem State.wrote_slotEn (t : State) {i b v : Nat} (k : Fin 6) (hits : Fld → Bool) :
    t.wrote path ⟨.ctrleng, i, b⟩ (0x80 + 4 * k.val) v hits s = t.applySlotEn k.val (s.fld ctrlengPage CTRLENG.SLOT_EN k.val) v := by
  unfold State.wrote
  dsimp only
  rw [if_neg (by omega), if_neg (by omega), if_pos (by omega), show (0x80 + 4 * k.val - 0x80) / 4 = k.val by omega]

theorem exec_swapReq_passes {k : Fin 6} (h : s.Passes path (ctrlengPage + 0x68 + 4 * k.val) mask.toNat) :
    exec (.swapReq path k mask) s = answered path (ctrlengPage + 0x68 + 4 * k.val) (s.swapMask k.val mask.toNat) := by
  have word : ∀ k : Fin 6, pulseWord (ctrlengPage + 0x68 + 4 * k.val) ⟨.ctrleng, 0, ctrlengPage⟩ = true := by decide +kernel
  refine (State.regSet_pulse h (word k)).trans ?_
  have offset : ctrlengPage + 0x68 + 4 * k.val - ctrlengPage = 0x68 + 4 * k.val := by omega
  rw [offset, State.wrote_swapReq]

theorem exec_swapHead_passes {h : Fin 64} {slots : Fin 32} (hp : s.Passes path (ctrlengPage + 0xD4) (h.val + slots.val * 2 ^ 8)) :
    exec (.swapHead path h slots) s = answered path (ctrlengPage + 0xD4) (s.swapHead h.val slots.val) := by
  have word : pulseWord (ctrlengPage + 0xD4) ⟨.ctrleng, 0, ctrlengPage⟩ = true := by decide +kernel
  have head : (h.val + slots.val * 2 ^ 8) % 64 = h.val := by omega
  have mask : (h.val + slots.val * 2 ^ 8) / 2 ^ 8 % 32 = slots.val := by omega
  refine (State.regSet_pulse hp word).trans ?_
  rw [← congr (congrArg s.swapHead head) mask]
  rfl

theorem exec_slotEn_passes {k : Fin 6} (h : s.Passes path (ctrlengPage + 0x80 + 4 * k.val) mask.toNat) :
    exec (.slotEn path k mask) s = answered path (ctrlengPage + 0x80 + 4 * k.val)
      ((s.put path (ctrlengPage + 0x80 + 4 * k.val) mask.toNat).applySlotEn k.val (s.fld ctrlengPage CTRLENG.SLOT_EN k.val) mask.toNat) := by
  have word : ∀ k : Fin 6, ownWord (ctrlengPage + 0x80 + 4 * k.val) ⟨.ctrleng, 0, ctrlengPage⟩ = true := by decide +kernel
  refine (State.regSet_own h (word k)).trans ?_
  have offset : ctrlengPage + 0x80 + 4 * k.val - ctrlengPage = 0x80 + 4 * k.val := by omega
  rw [offset, State.wrote_slotEn]

theorem exec_traceStart_passes {slot : SlotIx} {what : Fin 4}
    (start : s.hits path (ctrlengPage + 0xCC) (slot.val + what.val * 2 ^ 8 + 2 ^ 10) CTRLENG.TRACE_CFG_START = true)
    (h : s.Passes path (ctrlengPage + 0xCC) (slot.val + what.val * 2 ^ 8 + 2 ^ 10)) :
    exec (.traceStart path slot what) s = answered path (ctrlengPage + 0xCC)
      (((s.put path (ctrlengPage + 0xCC) (slot.val + what.val * 2 ^ 8 + 2 ^ 10)).setFlag ctrlengPage CTRLENG.TRACE_CFG_START true).traceStart) := by
  have word : ownWord (ctrlengPage + 0xCC) ⟨.ctrleng, 0, ctrlengPage⟩ = true := by decide +kernel
  have bit : bitOf (slot.val + what.val * 2 ^ 8 + 2 ^ 10) 10 = true := by
    have : (slot.val + what.val * 2 ^ 8 + 2 ^ 10) / 2 ^ 10 = 1 := by omega
    rw [bitOf, this]
    rfl
  refine (State.regSet_own h word).trans (congrArg (answered _ _) ?_)
  exact if_pos (Bool.and_eq_true_iff.2 ⟨start, bit⟩)

theorem exec_ceMemoryWrite_passes {addr : Nat} (h : s.Passes path addr mask.toNat) (low : 0x100000 ≤ addr) (high : addr < 0x200000) :
    exec (.ceMemoryWrite path addr mask) s = answered path addr ((s.writeWord path addr mask.toNat).pulsesWritten [addr]) :=
  (if_pos ⟨low, high⟩).trans (State.regSet_word h (.inl fun e => absurd (e ▸ low) (by decide)))

theorem exec_tableWindowWrite_passes {addr : Nat} (h : s.Passes path addr mask.toNat) (low : 0x200000 ≤ addr) (high : addr < 0x300000) :
    exec (.tableWindowWrite path addr mask) s = answered path addr ((s.writeWord path addr mask.toNat).pulsesWritten [addr]) :=
  (if_pos ⟨low, high⟩).trans (State.regSet_word h (.inl fun e => absurd (e ▸ low) (by decide)))

theorem exec_calReq_lo_passes (h : s.Passes path (firePage + 0x14) mask.toNat) :
    exec (.calReq path false mask) s =
      answered path (firePage + 0x14) (s.calRequest ((List.range 32).filter fun h => bitOf mask.toNat h)) := by
  have word : pulseWord (firePage + 0x14) ⟨.fire, 0, firePage⟩ = true := by decide +kernel
  exact State.regSet_pulse h word

theorem exec_calReq_hi_passes (h : s.Passes path (firePage + 0x18) mask.toNat) :
    exec (.calReq path true mask) s = answered path (firePage + 0x18) (if bitOf mask.toNat 0 then s.calRequest [32] else s) := by
  have word : pulseWord (firePage + 0x18) ⟨.fire, 0, firePage⟩ = true := by decide +kernel
  exact State.regSet_pulse h word

theorem exec_wrRetire_lo_passes (h : s.Passes path (firePage + 0x1C) mask.toNat) :
    exec (.wrRetire path false mask) s = answered path (firePage + 0x1C)
      ((s.put path (firePage + 0x1C) mask.toNat).wrRetireWritten ((List.range 32).map fun h => (h, bitOf mask.toNat h))) := by
  have word : ownWord (firePage + 0x1C) ⟨.fire, 0, firePage⟩ = true := by decide +kernel
  exact State.regSet_own h word

theorem exec_wrRetire_hi_passes (h : s.Passes path (firePage + 0x20) mask.toNat) :
    exec (.wrRetire path true mask) s = answered path (firePage + 0x20)
      ((s.put path (firePage + 0x20) mask.toNat).wrRetireWritten [(32, bitOf mask.toNat 0)]) := by
  have word : ownWord (firePage + 0x20) ⟨.fire, 0, firePage⟩ = true := by decide +kernel
  exact State.regSet_own h word

end

/-- Settles O19: each command writes one word of its page, and the page's rule for that word names what runs. -/
theorem engineRegisterCommands : Obligations.EngineRegisterCommands := by
  intro path s
  exact ⟨fun _ _ => exec_swapReq_passes, fun _ _ => exec_swapHead_passes, fun _ _ => exec_slotEn_passes,
    fun _ _ => exec_traceStart_passes,
    fun _ _ h => ⟨exec_ceMemoryWrite_passes h, exec_tableWindowWrite_passes h, State.writeWord_window⟩,
    fun _ => exec_calReq_lo_passes, fun _ => exec_calReq_hi_passes, fun _ => exec_wrRetire_lo_passes, fun _ => exec_wrRetire_hi_passes⟩

end Sys2Proof.Machine

/-!
SUPPORT. The stripes', the setter's and the error table's register commands, one rule each (R409-R414, R432, R450).
-/
namespace Sys2Proof.Machine

-- The kernel decides facts below: one at a time, and not each in a thread of its own that waits for all before it.
set_option Elab.async false
section
variable {s : State} {path : Path}

theorem exec_rethrowStart_passes {pos : PosIx} {relocate : Bool}
    (h : s.Passes path (stripePage + 0x5C) (pos.val + (if relocate then 2 else 1) * 2 ^ 4)) :
    exec (.rethrowStart path pos relocate) s = answered path (stripePage + 0x5C) (s.rtStart pos.val (if relocate then 2 else 1)) := by
  have word : pulseWord (stripePage + 0x5C) ⟨.stripe, 0, stripePage⟩ = true := by decide +kernel
  refine (State.regSet_pulse h word).trans (congrArg (answered _ _) ?_)
  have below := pos.isLt
  change s.rtCmd _ _ = _
  cases relocate
  · rw [show (pos.val + (if false = true then 2 else 1) * 2 ^ 4) / 2 ^ 4 % 4 = 1 by simp; omega,
      show (pos.val + (if false = true then 2 else 1) * 2 ^ 4) % 8 = pos.val by simp; omega]
    rfl
  · rw [show (pos.val + (if true = true then 2 else 1) * 2 ^ 4) / 2 ^ 4 % 4 = 2 by simp; omega,
      show (pos.val + (if true = true then 2 else 1) * 2 ^ 4) % 8 = pos.val by simp; omega]
    rfl

theorem exec_rethrowAbort_passes (h : s.Passes path (stripePage + 0x5C) (3 * 2 ^ 4)) :
    exec (.rethrowAbort path) s = answered path (stripePage + 0x5C) s.rtAbort := by
  have word : pulseWord (stripePage + 0x5C) ⟨.stripe, 0, stripePage⟩ = true := by decide +kernel
  exact State.regSet_pulse h word

/-- A word of cache maintenance gives its operation, its kind of address, its set and its way back. -/
theorem maintWordOf_fields {op set way : Nat} (bySw : Bool) (ho : op < 8) (hs : set < 2 ^ 13) (hw : way < 16) :
    maintWordOf op bySw set way % 8 = op ∧ bitOf (maintWordOf op bySw set way) 3 = bySw ∧
      maintWordOf op bySw set way / 2 ^ 4 % 2 ^ 13 = set ∧ maintWordOf op bySw set way / 2 ^ 17 % 16 = way := by
  have small : boolNat bySw < 2 := by cases bySw <;> decide
  have bit : maintWordOf op bySw set way / 2 ^ 3 % 2 = boolNat bySw := by unfold maintWordOf; omega
  refine ⟨by unfold maintWordOf; omega, ?_, by unfold maintWordOf; omega, by unfold maintWordOf; omega⟩
  rw [bitOf, bit]
  cases bySw <;> rfl

/-- Cache maintenance by a word that passes: its operation runs on its set and way. -/
theorem State.regSet_maint {op set way : Nat} {bySw : Bool} (ho : 1 ≤ op ∧ op ≤ 6) (hs : set < 2 ^ 13) (hw : way < 16)
    (h : s.Passes path (setterPage + 0x78) (maintWordOf op bySw set way)) :
    s.regSet path (setterPage + 0x78) (maintWordOf op bySw set way) = answered path (setterPage + 0x78) (s.maintCmd op bySw set way) := by
  have word : pulseWord (setterPage + 0x78) ⟨.setter, 0, setterPage⟩ = true := by decide +kernel
  obtain ⟨eo, eb, es, ew⟩ := maintWordOf_fields bySw (Nat.lt_of_le_of_lt ho.2 (by decide)) hs hw
  refine (State.regSet_pulse h word).trans (congrArg (answered _ _) ?_)
  refine Eq.trans (if_pos ⟨rfl, by rw [eo]; exact ho.1, by rw [eo]; exact ho.2⟩) ?_
  rw [eo, eb, es, ew]

theorem exec_ectClear_passes (h : s.Passes path (ecctabPage + 0x60) 1) :
    exec (.ectClear path) s = answered path (ecctabPage + 0x60) s.ectClear := by
  have word : pulseWord (ecctabPage + 0x60) ⟨.ecctab, 0, ecctabPage⟩ = true := by decide +kernel
  exact State.regSet_pulse h word

end

/-- Settles O21: a re-throw, a maintenance and a table command are decoded from the word that each writes. -/
theorem stripeAndMemoryRegisterCommands : Obligations.StripeAndMemoryRegisterCommands := by
  intro path s
  have line {op : Nat} (ho : 1 ≤ op ∧ op ≤ 6) (bySw : Bool) (set : Fin 8192) (way : Fin 16) :=
    State.regSet_maint (s := s) (path := path) (bySw := bySw) ho set.isLt way.isLt
  exact ⟨fun _ _ => exec_rethrowStart_passes, exec_rethrowAbort_passes,
    fun b x y => ⟨line (by decide) b x y, line (by decide) b x y, line (by decide) b x y, line (by decide) b x y⟩,
    line (op := 5) (by decide) false 0 0, line (op := 6) (by decide) false 0 0, exec_ectClear_passes⟩

end Sys2Proof.Machine

/-!
SUPPORT. The trust engine's, the twin's, the rack's and the self-test's register commands, one rule each (R510, R526,
R535, R536, R549, R554-R557, R580).
-/
namespace Sys2Proof.Machine

-- The kernel decides facts below: one at a time, and not each in a thread of its own that waits for all before it.
set_option Elab.async false
section
variable {s : State} {path : Path}

theorem tePage_cmd : pulseWord (tePage + 0x58) ⟨.te, 0, tePage⟩ = true := by decide +kernel

/-- A write of TRUST_CMD that passes runs the command of its word. -/
theorem State.regSet_trust {v : Nat} (h : s.Passes path (tePage + 0x58) v) :
    s.regSet path (tePage + 0x58) v = answered path (tePage + 0x58) (s.trustCmd v) :=
  State.regSet_pulse h tePage_cmd

theorem exec_trustLock_passes (h : s.Passes path (tePage + 0x58) 0x4C4B) :
    exec (.trustLock path) s = answered path (tePage + 0x58) s.trustLock := by
  refine (State.regSet_trust h).trans ?_
  simp only [State.trustCmd]

theorem exec_svnCommit_passes (h : s.Passes path (tePage + 0x58) 0x5356) :
    exec (.svnCommit path) s = answered path (tePage + 0x58) s.svnCommit := by
  refine (State.regSet_trust h).trans ?_
  simp only [State.trustCmd]

theorem exec_trustLeave_passes (h : s.Passes path (tePage + 0x58) 0x4C56) :
    exec (.trustLeave path) s = answered path (tePage + 0x58) (s.zeroise.trustResult 0) := by
  refine (State.regSet_trust h).trans ?_
  simp only [State.trustCmd]

theorem exec_domainCreate_passes (stranger : s.flag tePage TE.TE_STAT_ENROLLED = false) (healthy : s.te.healthOk = true)
    (h : s.Passes path (tePage + 0x58) 0x4443) :
    exec (.domainCreate path) s = answered path (tePage + 0x58)
      ((((s.random 32).2.random 8).2.joinDomain (s.random 32).1 ((s.random 32).2.random 8).1).trustResult 0) := by
  refine (State.regSet_trust h).trans ?_
  simp only [State.trustCmd, State.domainCreate, stranger, healthy, Bool.false_eq_true, Bool.not_true, if_false]

theorem exec_keyFlush_passes (h : s.Passes path (mediacryptPage + 0x5C) 1) :
    exec (.keyFlush path) s = answered path (mediacryptPage + 0x5C) (s.setSlots []) := by
  have word : pulseWord (mediacryptPage + 0x5C) ⟨.mediacrypt, 0, mediacryptPage⟩ = true := by decide +kernel
  exact State.regSet_pulse h word

theorem twPage_handover : pulseWord (twPage + 0x5C) ⟨.tw, 0, twPage⟩ = true := by decide +kernel

theorem exec_hoGive_passes {tok : Fin 64} (h : s.Passes path (twPage + 0x5C) (tok.val + 2 ^ 8)) :
    exec (.hoGive path tok) s = answered path (twPage + 0x5C) (s.hoGive tok.val) := by
  have op : (tok.val + 2 ^ 8) / 2 ^ 8 % 4 = 1 := by omega
  have named : (tok.val + 2 ^ 8) % 64 = tok.val := by omega
  refine (State.regSet_pulse h twPage_handover).trans (congrArg (answered _ _) ?_)
  simp only [State.wrote, op, named]
  rfl

theorem exec_hoReturn_passes {tok : Fin 64} (h : s.Passes path (twPage + 0x5C) (tok.val + 2 * 2 ^ 8)) :
    exec (.hoReturn path tok) s = answered path (twPage + 0x5C) (s.hoReturn tok.val) := by
  have op : (tok.val + 2 * 2 ^ 8) / 2 ^ 8 % 4 = 2 := by omega
  have named : (tok.val + 2 * 2 ^ 8) % 64 = tok.val := by omega
  refine (State.regSet_pulse h twPage_handover).trans (congrArg (answered _ _) ?_)
  simp only [State.wrote, op, named]
  rfl

theorem exec_regAck_passes {value : Word} (h : s.Passes path (hyPage + 0x58) value.toNat) :
    exec (.regAck path value) s = answered path (hyPage + 0x58) s.regAck := by
  have word : pulseWord (hyPage + 0x58) ⟨.hy, 0, hyPage⟩ = true := by decide +kernel
  exact State.regSet_pulse h word

/-- A power command that passes goes to the active manager's shelf by its operation. -/
theorem State.regSet_power {shelf : Fin 64} {op : Nat} (ho : op < 4) (h : s.Passes path (hyPage + 0x94) (shelf.val + op * 2 ^ 8)) :
    s.regSet path (hyPage + 0x94) (shelf.val + op * 2 ^ 8) = answered path (hyPage + 0x94) (s.pwrCmd shelf.val op) := by
  have word : pulseWord (hyPage + 0x94) ⟨.hy, 0, hyPage⟩ = true := by decide +kernel
  have named : (shelf.val + op * 2 ^ 8) % 64 = shelf.val := by omega
  have does : (shelf.val + op * 2 ^ 8) / 2 ^ 8 % 4 = op := by omega
  refine (State.regSet_pulse h word).trans (congrArg (answered _ _) ?_)
  rw [← congr (congrArg s.pwrCmd named) does]
  rfl

section
variable {shelf : Fin 64} (manages : s.activeMgr = true)
include manages

theorem exec_pwrCmdOn_passes (h : s.Passes path (hyPage + 0x94) (shelf.val + 2 ^ 8)) :
    exec (.pwrCmdOn path shelf) s = answered path (hyPage + 0x94) (s.powerOn shelf.val) := by
  refine (State.regSet_power (op := 1) (by decide) (by rwa [Nat.one_mul])).trans ?_
  simp only [State.pwrCmd, manages, Bool.not_true, Bool.false_eq_true, if_false]

theorem exec_pwrCmdSoftOff_passes (h : s.Passes path (hyPage + 0x94) (shelf.val + 2 * 2 ^ 8)) :
    exec (.pwrCmdSoftOff path shelf) s = answered path (hyPage + 0x94) (s.powerSoftOff shelf.val) := by
  refine (State.regSet_power (op := 2) (by decide) h).trans ?_
  simp only [State.pwrCmd, manages, Bool.not_true, Bool.false_eq_true, if_false]

theorem exec_pwrCmdPowerCycle_passes (h : s.Passes path (hyPage + 0x94) (shelf.val + 3 * 2 ^ 8)) :
    exec (.pwrCmdPowerCycle path shelf) s = answered path (hyPage + 0x94) (s.powerCycle shelf.val) := by
  refine (State.regSet_power (op := 3) (by decide) h).trans ?_
  simp only [State.pwrCmd, manages, Bool.not_true, Bool.false_eq_true, if_false]

end

theorem exec_stageReq_passes {value : Word} (h : s.Passes path (hyPage + 0x78) value.toNat) :
    exec (.stageReq path value) s = answered path (hyPage + 0x78) (s.put path (hyPage + 0x78) value.toNat).stageReq := by
  have word : ownWord (hyPage + 0x78) ⟨.hy, 0, hyPage⟩ = true := by decide +kernel
  exact State.regSet_own h word

/-- A word of TEST_REQ names its test, page and cell, and says whether the test is forced. -/
theorem State.regSet_testReq {test : Fin 16} {page : Fin 4096} {cell : Fin 256} {v : Nat} {force : Bool}
    (hv : v = test.val + page.val * 2 ^ 4 + cell.val * 2 ^ 16 + boolNat force * 2 ^ 24) (h : s.Passes path (stPage + 0x4C) v) :
    s.regSet path (stPage + 0x4C) v = answered path (stPage + 0x4C) (s.testReq test.val page.val cell.val force) := by
  have word : pulseWord (stPage + 0x4C) ⟨.st, 0, stPage⟩ = true := by decide +kernel
  have small : boolNat force < 2 := by cases force <;> decide
  have ht : v % 16 = test.val := by omega
  have hp : v / 2 ^ 4 % 2 ^ 12 = page.val := by omega
  have hc : v / 2 ^ 16 % 2 ^ 8 = cell.val := by omega
  have hf : bitOf v 24 = force := by
    have : v / 2 ^ 24 % 2 = boolNat force := by omega
    rw [bitOf, this]
    cases force <;> rfl
  refine (State.regSet_pulse h word).trans (congrArg (answered _ _) ?_)
  simp only [State.wrote, ht, hp, hc, hf]
  rfl

theorem exec_testReq_passes {test : Fin 16} {page : Fin 4096} {cell : Fin 256}
    (h : s.Passes path (stPage + 0x4C) (test.val + page.val * 2 ^ 4 + cell.val * 2 ^ 16)) :
    exec (.testReq path test page cell) s = answered path (stPage + 0x4C) (s.testReq test.val page.val cell.val false) :=
  State.regSet_testReq (by simp only [boolNat, Bool.false_eq_true, if_false, Nat.zero_mul, Nat.add_zero]) h

theorem exec_testReqForce_passes {test : Fin 16} {page : Fin 4096} {cell : Fin 256}
    (h : s.Passes path (stPage + 0x4C) (test.val + page.val * 2 ^ 4 + cell.val * 2 ^ 16 + 2 ^ 24)) :
    exec (.testReqForce path test page cell) s = answered path (stPage + 0x4C) (s.testReq test.val page.val cell.val true) :=
  State.regSet_testReq (by simp only [boolNat, if_true, Nat.one_mul]) h

end

/-- Settles O22: each command is decoded from the word that it writes, and its page's rule names what runs. -/
theorem trustAndTwinRegisterCommands : Obligations.TrustAndTwinRegisterCommands := by
  refine ⟨fun path s => ?_, fun path s => ?_⟩
  · exact ⟨exec_trustLock_passes, exec_svnCommit_passes, exec_trustLeave_passes, exec_domainCreate_passes, exec_keyFlush_passes⟩
  · exact ⟨fun _ => exec_hoGive_passes, fun _ => exec_hoReturn_passes, fun _ => exec_regAck_passes,
      fun _ manages => ⟨exec_pwrCmdOn_passes manages, exec_pwrCmdSoftOff_passes manages, exec_pwrCmdPowerCycle_passes manages⟩,
      fun _ => exec_stageReq_passes, fun _ _ _ => ⟨exec_testReq_passes, exec_testReqForce_passes⟩⟩

end Sys2Proof.Machine

/-!
SUPPORT. The recorder's, the queues' and the shard window's register commands, one rule each (R231, R598-R600, R607).
-/
namespace Sys2Proof.Machine

-- The kernel decides facts below: one at a time, and not each in a thread of its own that waits for all before it.
set_option Elab.async false
section
variable {s : State} {path : Path}

theorem exec_winCursor_passes {seq : Word} (h : s.Passes path (erPage + 0x60) seq.toNat) :
    exec (.winCursor path seq) s =
      answered path (erPage + 0x60) ((s.put path (erPage + 0x60) seq.toNat).moveCursor (pathKey path) seq.toNat) := by
  have word : ownWord (erPage + 0x60) ⟨.er, 0, erPage⟩ = true := by decide +kernel
  exact State.regSet_own h word

theorem erPage_clear : pulseWord (erPage + 0x74) ⟨.er, 0, erPage⟩ = true := by decide +kernel

theorem exec_erClearLog_passes (h : s.Passes path (erPage + 0x74) 0x0000C1EA) :
    exec (.erClearLog path) s = answered path (erPage + 0x74) (s.clearLog false) := by
  exact State.regSet_pulse h erPage_clear

theorem exec_erClearMirror_passes (h : s.Passes path (erPage + 0x74) 0x0001C1EA) :
    exec (.erClearMirror path) s = answered path (erPage + 0x74) (s.clearLog true) := by
  exact State.regSet_pulse h erPage_clear

theorem exec_qFlushAll_passes (h : s.Passes path (obsqPage + 0x58) (2 ^ 6)) :
    exec (.qFlushAll path) s = answered path (obsqPage + 0x58) (s.forEach (List.range 64) State.requestFlush) := by
  have word : pulseWord (obsqPage + 0x58) ⟨.obsq, 0, obsqPage⟩ = true := by decide +kernel
  have all : bitOf (2 ^ 6) 6 = true := by decide
  refine (State.regSet_pulse h word).trans (congrArg (answered _ _) ?_)
  simp only [State.wrote, all, if_true]
  rfl

theorem exec_shardIdx_passes {n : Fin 65536} (h : s.Passes path (outerPage + 0xC4) n.val) :
    exec (.shardIdx path n) s = answered path (outerPage + 0xC4) ((s.put path (outerPage + 0xC4) n.val).shardSelect n.val) := by
  have word : ownWord (outerPage + 0xC4) ⟨.outer, 0, outerPage⟩ = true := by decide +kernel
  refine (State.regSet_own h word).trans ?_
  rw [← congrArg (State.shardSelect _) (Nat.mod_eq_of_lt n.isLt)]
  rfl

/-- A read by a path that stands returns the word that `readWord` gives, and leaves what it leaves. -/
theorem State.regRead_live {a v : Nat} {b : Bool} {t : State} (live : s.pathLive path = true) (h : s.readWord path a = (v, b, t)) :
    s.regRead path a = t.send (.readData path a v) := by
  unfold State.regRead
  rw [h]
  simp only [live, Bool.not_true, Bool.false_eq_true, if_false]

theorem State.readWord_winData : s.readWord path (erPage + 0x64) = s.readWinData (pathKey path) := rfl

theorem State.readWord_oqWin : s.readWord path (obsqPage + 0x50) = s.readOqWin (pathKey path) := rfl

theorem State.readWord_shardWin :
    s.readWord path (outerPage + 0xC8) = (s.shardRead.1, s.flag outerPage OUTER.SHARD_STAT_EMPTY, s.shardRead.2) := rfl

end

/-- Settles O24: writes are decoded by their page, and each window's word is read by its own rule. -/
theorem windowAndFlushCommands : Obligations.WindowAndFlushCommands := by
  intro path s
  exact ⟨fun _ => exec_winCursor_passes, exec_erClearLog_passes, exec_erClearMirror_passes, fun _ => exec_qFlush_passes,
    exec_qFlushAll_passes, fun _ => exec_shardIdx_passes, fun live =>
      ⟨congrArg done (State.regRead_live live State.readWord_winData), congrArg done (State.regRead_live live State.readWord_oqWin),
        congrArg done (State.regRead_live live State.readWord_shardWin)⟩⟩

end Sys2Proof.Machine

/-!
SUPPORT. The sequencer's command register (R311, R312, R314-R316, R318, R319): its word, and what each operation does
where nothing forbids it.
-/
namespace Sys2Proof.Machine

-- The kernel decides facts below: one at a time, and not each in a thread of its own that waits for all before it.
set_option Elab.async false
section
variable {s : State} {path : Path} {k op arg : Nat}

/-- A word of SEQ_CMD gives its head, its operation and its argument back. -/
theorem seqWordOf_fields (hk : k < 64) (ho : op < 16) (ha : arg < 2 ^ 20) :
    seqWordOf k op arg % 64 = k ∧ seqWordOf k op arg / 2 ^ 8 % 16 = op ∧ seqWordOf k op arg / 2 ^ 12 % 2 ^ 20 = arg := by
  unfold seqWordOf
  omega

/-- A write of SEQ_CMD that passes: the jump is prepared, the command runs, and what the motion cuts off ends. -/
theorem State.regSet_seq (hk : k < 64) (ho : op < 16) (ha : arg < 2 ^ 20) (h : s.Passes path (ctrlengPage + 0x60) (seqWordOf k op arg)) :
    s.regSet path (ctrlengPage + 0x60) (seqWordOf k op arg) =
      answered path (ctrlengPage + 0x60) (((s.prepareJump k op arg).seqCmd k op arg).abortGo k) := by
  have word : pulseWord (ctrlengPage + 0x60) ⟨.ctrleng, 0, ctrlengPage⟩ = true := by decide +kernel
  obtain ⟨ek, eo, ea⟩ := seqWordOf_fields hk ho ha
  refine (State.regSet_pulse h word).trans (congrArg (answered _ _) ?_)
  rw [← congrArg (State.abortGo _) ek]
  simp only [State.wrote, ek, eo, ea]
  rfl

/-- Only operations 1 and 2 prepare a layer. -/
theorem State.prepareJump_other (h1 : op ≠ 1) (h2 : op ≠ 2) : s.prepareJump k op arg = s := by
  simp [State.prepareJump, h1, h2]

/-- What the sequencer of a head needs to take a motion. -/
structure State.SeqFree (s : State) (k : Nat) : Prop where
  idle : (s.seq k).op = 0
  accepts : s.accepts ctrlengPage = true
  obeys : s.headObeys k = true

theorem State.seqCmd_acquire (f : s.SeqFree k) (ok : s.seqArgOk k 1 arg = true) :
    s.seqCmd k 1 arg = (s.seqRead k).startAcquire k (arg % 16) (arg / 16 % 2 ^ 14) 0 := by
  simp [State.seqCmd, f.idle, f.accepts, f.obeys, ok]

theorem State.seqCmd_layerJump (f : s.SeqFree k) (ok : s.seqArgOk k 2 arg = true) :
    s.seqCmd k 2 arg = (s.seqRead k).startLayerJump k (arg % 16) (arg / 16 % 2 ^ 14) := by
  simp [State.seqCmd, f.idle, f.accepts, f.obeys, ok]

theorem State.seqCmd_bandJump (f : s.SeqFree k) (ok : s.seqArgOk k 3 arg = true) :
    s.seqCmd k 3 arg = (s.seqRead k).startBandJump k (signed 20 arg) := by
  simp [State.seqCmd, f.idle, f.accepts, f.obeys, ok]

theorem State.seqCmd_seek (f : s.SeqFree k) (refd : s.flag (axisBlock k) AXIS.AX_STAT_REFD = true) (ok : s.seqArgOk k 4 arg = true) :
    s.seqCmd k 4 arg = (s.seqRead k).startBandSeek k (arg % 2 ^ 14) := by
  simp [State.seqCmd, f.idle, f.accepts, f.obeys, refd, ok]

theorem State.seqCmd_step (f : s.SeqFree k) (ok : s.seqArgOk k 5 arg = true) :
    s.seqCmd k 5 arg = (s.seqRead k).startStep k (arg % 8) (signed 8 (arg / 16)) := by
  simp [State.seqCmd, f.idle, f.accepts, f.obeys, ok]

theorem State.seqCmd_hold : s.seqCmd k 6 arg = s.holdHead k := by
  simp [State.seqCmd, State.seqArgOk]

theorem State.seqCmd_park (obeys : s.headObeys k = true) : s.seqCmd k 8 arg = s.parkNow k := by
  simp [State.seqCmd, State.seqArgOk, obeys]

section
variable (idle : (s.seq k).op = 0) (accepts : s.accepts ctrlengPage = true)
include idle accepts

theorem State.seqCmd_resume (obeys : s.headObeys k = true) : s.seqCmd k 7 arg = s.resumeHead k := by
  simp [State.seqCmd, State.seqArgOk, idle, accepts, obeys]

theorem State.seqCmd_export : s.seqCmd k 9 arg = s.setSeq k { s.seq k with op := 9, phase := .exporting } := by
  simp [State.seqCmd, State.seqArgOk, idle, accepts]

theorem State.seqCmd_import : s.seqCmd k 10 arg = (s.importHead k).refreshHead k := by
  simp [State.seqCmd, State.seqArgOk, idle, accepts]

end

/-- A word read as a signed number of its width. -/
theorem signed_toNat {w : Nat} (hw : 0 < w) (x : BitVec w) : signed w x.toNat = x.toInt := by
  have half : 2 ^ w = 2 * 2 ^ (w - 1) := by
    rw [← Nat.pow_succ', Nat.succ_eq_add_one, Nat.sub_add_cancel hw]
  have low := x.isLt
  unfold signed
  rw [Nat.mod_eq_of_lt low, BitVec.toInt_eq_toNat_cond]
  exact ite_congr (propext (by omega)) (fun _ => rfl) fun _ => by rw [Int.natCast_pow, Int.cast_ofNat_Int]

/-- Layer and band of a jump, as the argument holds them. -/
theorem seqPlace_fields {layer : Fin 16} {band : Fin 16384} :
    (layer.val + band.val * 2 ^ 4) % 16 = layer.val ∧ (layer.val + band.val * 2 ^ 4) / 16 % 2 ^ 14 = band.val := by
  omega

section
variable {h : HeadIx}

/-- The jumps with a place: layer and band that the disc has are allowed. -/
theorem State.seqArgOk_place {layer : Fin 16} {band : Fin 16384} (ho : op = 1 ∨ op = 2) (hl : layer.val ≤ 9) (hb : band.val < bandsPerLayer) :
    s.seqArgOk k op (layer.val + band.val * 2 ^ 4) = true := by
  obtain ⟨el, eb⟩ := seqPlace_fields (layer := layer) (band := band)
  rcases ho with rfl | rfl <;> simp only [State.seqArgOk, el, eb, hl, hb, decide_true, Bool.and_self]

theorem headIx_lt_64 (h : HeadIx) : h.val < 64 := Nat.lt_of_lt_of_le h.isLt (by decide)

theorem exec_seqAcquire_passes {layer : Fin 16} {band : Fin 16384} (hl : layer.val ≤ 9) (hb : band.val < bandsPerLayer)
    (f : (s.prepareJump h.val 1 (layer.val + band.val * 2 ^ 4)).SeqFree h.val)
    (hp : s.Passes path (ctrlengPage + 0x60) (seqWordOf h.val 1 (layer.val + band.val * 2 ^ 4))) :
    exec (.seqAcquire path h layer band) s = answered path (ctrlengPage + 0x60)
      ((((s.prepareJump h.val 1 (layer.val + band.val * 2 ^ 4)).seqRead h.val).startAcquire h.val layer.val band.val 0).abortGo h.val) := by
  obtain ⟨el, eb⟩ := seqPlace_fields (layer := layer) (band := band)
  refine (State.regSet_seq (headIx_lt_64 h) (by decide) (by omega) hp).trans ?_
  rw [State.seqCmd_acquire f (State.seqArgOk_place (.inl rfl) hl hb), el, eb]

theorem exec_layerJump_passes {layer : Fin 16} {band : Fin 16384} (hl : layer.val ≤ 9) (hb : band.val < bandsPerLayer)
    (f : (s.prepareJump h.val 2 (layer.val + band.val * 2 ^ 4)).SeqFree h.val)
    (hp : s.Passes path (ctrlengPage + 0x60) (seqWordOf h.val 2 (layer.val + band.val * 2 ^ 4))) :
    exec (.layerJump path h layer band) s = answered path (ctrlengPage + 0x60)
      ((((s.prepareJump h.val 2 (layer.val + band.val * 2 ^ 4)).seqRead h.val).startLayerJump h.val layer.val band.val).abortGo h.val) := by
  obtain ⟨el, eb⟩ := seqPlace_fields (layer := layer) (band := band)
  refine (State.regSet_seq (headIx_lt_64 h) (by decide) (by omega) hp).trans ?_
  rw [State.seqCmd_layerJump f (State.seqArgOk_place (.inr rfl) hl hb), el, eb]

/-- A command but a jump to a layer that passes runs on the state as it stands. -/
theorem State.regSet_seq_other (ho : op < 16) (ha : arg < 2 ^ 20) (h1 : op ≠ 1) (h2 : op ≠ 2)
    (hp : s.Passes path (ctrlengPage + 0x60) (seqWordOf h.val op arg)) :
    s.regSet path (ctrlengPage + 0x60) (seqWordOf h.val op arg) =
      answered path (ctrlengPage + 0x60) ((s.seqCmd h.val op arg).abortGo h.val) := by
  rw [State.regSet_seq (headIx_lt_64 h) ho ha hp, State.prepareJump_other h1 h2]

theorem exec_bandJump_passes {bands : BitVec 20} (f : s.SeqFree h.val)
    (reach : bands.toInt.natAbs ≤ s.cfgIn ctrlengPage CTRLENG.JUMP_CFG_BJ_MAX 1 63)
    (hp : s.Passes path (ctrlengPage + 0x60) (seqWordOf h.val 3 bands.toNat)) :
    exec (.bandJump path h bands) s =
      answered path (ctrlengPage + 0x60) (((s.seqRead h.val).startBandJump h.val bands.toInt).abortGo h.val) := by
  have value := signed_toNat (by decide) bands
  refine (State.regSet_seq_other (by decide) bands.isLt (by decide) (by decide) hp).trans ?_
  rw [State.seqCmd_bandJump f (decide_eq_true (by rwa [value])), value]

theorem exec_seqSeek_passes {band : Fin 16384} (f : s.SeqFree h.val) (hb : band.val < bandsPerLayer)
    (refd : s.flag (axisBlock h.val) AXIS.AX_STAT_REFD = true) (hp : s.Passes path (ctrlengPage + 0x60) (seqWordOf h.val 4 band.val)) :
    exec (.seqSeek path h band) s =
      answered path (ctrlengPage + 0x60) (((s.seqRead h.val).startBandSeek h.val band.val).abortGo h.val) := by
  have value : band.val % 2 ^ 14 = band.val := Nat.mod_eq_of_lt band.isLt
  refine (State.regSet_seq_other (by decide) (by omega) (by decide) (by decide) hp).trans ?_
  rw [State.seqCmd_seek f refd (decide_eq_true (by rwa [value])), value]

theorem exec_seqStep_passes {kind : Fin 8} {value : BitVec 8} (f : s.SeqFree h.val) (low : 1 ≤ kind.val) (high : kind.val ≤ 3)
    (hp : s.Passes path (ctrlengPage + 0x60) (seqWordOf h.val 5 (kind.val + value.toNat * 2 ^ 4))) :
    exec (.seqStep path h kind value) s =
      answered path (ctrlengPage + 0x60) (((s.seqRead h.val).startStep h.val kind.val value.toInt).abortGo h.val) := by
  have small := value.isLt
  have what : (kind.val + value.toNat * 2 ^ 4) % 8 = kind.val := by omega
  have field : signed 8 ((kind.val + value.toNat * 2 ^ 4) / 16) = value.toInt := by
    rw [show (kind.val + value.toNat * 2 ^ 4) / 16 = value.toNat by omega]
    exact signed_toNat (by decide) value
  have ok : s.seqArgOk h.val 5 (kind.val + value.toNat * 2 ^ 4) = true := by
    have not4 : kind.val ≠ 4 := by omega
    have le4 : kind.val ≤ 4 := by omega
    simp only [State.seqArgOk, what]
    simp [low, not4, le4]
  refine (State.regSet_seq_other (by decide) (by omega) (by decide) (by decide) hp).trans ?_
  rw [State.seqCmd_step f ok, what, field]

theorem exec_seqHold_passes (hp : s.Passes path (ctrlengPage + 0x60) (seqWordOf h.val 6 0)) :
    exec (.seqHold path h) s = answered path (ctrlengPage + 0x60) ((s.holdHead h.val).abortGo h.val) := by
  refine (State.regSet_seq_other (by decide) (by decide) (by decide) (by decide) hp).trans ?_
  rw [State.seqCmd_hold]

theorem exec_seqPark_passes (obeys : s.headObeys h.val = true) (hp : s.Passes path (ctrlengPage + 0x60) (seqWordOf h.val 8 0)) :
    exec (.seqPark path h) s = answered path (ctrlengPage + 0x60) ((s.parkNow h.val).abortGo h.val) := by
  refine (State.regSet_seq_other (by decide) (by decide) (by decide) (by decide) hp).trans ?_
  rw [State.seqCmd_park obeys]

section
variable (idle : (s.seq h.val).op = 0) (accepts : s.accepts ctrlengPage = true)
include idle accepts

theorem exec_seqResume_passes (obeys : s.headObeys h.val = true) (hp : s.Passes path (ctrlengPage + 0x60) (seqWordOf h.val 7 0)) :
    exec (.seqResume path h) s = answered path (ctrlengPage + 0x60) ((s.resumeHead h.val).abortGo h.val) := by
  refine (State.regSet_seq_other (by decide) (by decide) (by decide) (by decide) hp).trans ?_
  rw [State.seqCmd_resume idle accepts obeys]

theorem exec_seqExport_passes (hp : s.Passes path (ctrlengPage + 0x60) (seqWordOf h.val 9 0)) :
    exec (.seqExport path h) s =
      answered path (ctrlengPage + 0x60) ((s.setSeq h.val { s.seq h.val with op := 9, phase := .exporting }).abortGo h.val) := by
  refine (State.regSet_seq_other (by decide) (by decide) (by decide) (by decide) hp).trans ?_
  rw [State.seqCmd_export idle accepts]

theorem exec_seqImport_passes (hp : s.Passes path (ctrlengPage + 0x60) (seqWordOf h.val 10 0)) :
    exec (.seqImport path h) s =
      answered path (ctrlengPage + 0x60) (((s.importHead h.val).refreshHead h.val).abortGo h.val) := by
  refine (State.regSet_seq_other (by decide) (by decide) (by decide) (by decide) hp).trans ?_
  rw [State.seqCmd_import idle accepts]

end
end

/-- A write that the checks refuse is recorded and answered with its class. -/
theorem State.regWrite_refused {a v c : Nat} (live : s.pathLive path = true) (still : s.transferring [(a, v)] = none)
    (alone : behind [(a, v)] s.arb.waiting = false) (refused : s.checkWrite path a v = some c) :
    s.regWrite path [(a, v)] = (s.recordRefusal a v c).send (.writeDone path a c) := by
  have fault : s.tryWrite path [(a, v)] = (some (0, a, c), s.recordRefusal a v c) := by
    simp only [State.tryWrite, State.firstFault, refused]
    rfl
  unfold State.regWrite
  simp only [live, still, alone, Bool.not_true, Bool.false_eq_true, if_false, Option.isSome_none, Bool.or_false]
  unfold State.finishWrite
  rw [fault]
  rfl

theorem State.regSet_refused {a v c : Nat} (live : s.pathLive path = true) (still : s.transferring [(a, v)] = none)
    (alone : behind [(a, v)] s.arb.waiting = false) (refused : s.checkWrite path a v = some c) :
    s.regSet path a v = done ((s.recordRefusal a v c).send (.writeDone path a c)) :=
  congrArg done (State.regWrite_refused live still alone refused)

/-- A command that is not defined is recorded with CLASS 8 and has result 11. -/
theorem State.recordRefusal_undefined (hk : k < 64) (ho : op < 16) (ha : arg < 2 ^ 20) :
    s.recordRefusal (ctrlengPage + 0x60) (seqWordOf k op arg) 8 = (s.refuse ctrlengPage 8).seqResult k op 11 := by
  obtain ⟨ek, eo, _⟩ := seqWordOf_fields hk ho ha
  have page : arbiterBase (ctrlengPage + 0x60) = ctrlengPage := by decide
  simp only [State.recordRefusal, ek, eo, page]
  rfl

end

/-- Settles O18: the word of SEQ_CMD is decoded, and each operation runs where nothing forbids it; an operation that is
not defined fails the check of its value. -/
theorem sequencerCommands : Obligations.SequencerCommands := by
  refine ⟨fun path h s => ?_, fun path h s => ?_⟩
  · have free {t : State} (f : (t.seq h.val).op = 0 ∧ t.accepts ctrlengPage = true ∧ t.headObeys h.val = true) : t.SeqFree h.val :=
      ⟨f.1, f.2.1, f.2.2⟩
    exact ⟨fun _ _ hl hb => ⟨fun f => exec_seqAcquire_passes hl hb (free f), fun f => exec_layerJump_passes hl hb (free f)⟩,
      fun _ f => exec_bandJump_passes (free f), fun _ f => exec_seqSeek_passes (free f), fun _ _ f => exec_seqStep_passes (free f)⟩
  · refine ⟨exec_seqHold_passes, exec_seqPark_passes, fun idle accepts => ⟨exec_seqResume_passes idle accepts,
      exec_seqExport_passes idle accepts, exec_seqImport_passes idle accepts⟩, fun k op arg _ live still alone refused => ?_⟩
    refine (State.regSet_refused live still alone refused).trans ?_
    rw [State.recordRefusal_undefined k.isLt op.isLt arg.isLt]
    rfl

end Sys2Proof.Machine

/-!
SUPPORT. The wheels', the axes', the elevator's and the links' register commands, one rule each (R144, R166, R332, R336,
R343-R345, R349, R350, R352, R360, R364, R366, R373, R375, R376).
-/
namespace Sys2Proof.Machine

-- The kernel decides facts below: one at a time, and not each in a thread of its own that waits for all before it.
set_option Elab.async false
section
variable {s : State} {path : Path} {w : WheelIx}

theorem exec_spdCmd_passes {rpm : Fin 16384} (h : s.Passes path (wheelPage w.val + 0x4C) rpm.val) :
    exec (.spdCmd path w rpm) s =
      answered path (wheelPage w.val + 0x4C) ((s.put path (wheelPage w.val + 0x4C) rpm.val).spdWritten w.val) := by
  have word : ∀ w : Fin 9, ownWord (wheelPage w.val + 0x4C) ⟨.wheel, w.val, wheelPage w.val⟩ = true := by decide +kernel
  refine (State.regSet_own h (word w)).trans ?_
  rw [Nat.add_sub_cancel_left]
  rfl

/-- A write of WH_CMD that passes runs its command. -/
theorem State.regSet_wheel {op : Nat} (ho : op < 16) (h : s.Passes path (wheelPage w.val + 0x74) op) :
    s.regSet path (wheelPage w.val + 0x74) op = answered path (wheelPage w.val + 0x74) (s.whCmd w.val op) := by
  have word : ∀ w : Fin 9, pulseWord (wheelPage w.val + 0x74) ⟨.wheel, w.val, wheelPage w.val⟩ = true := by decide +kernel
  refine (State.regSet_pulse h (word w)).trans ?_
  rw [Nat.add_sub_cancel_left, ← congrArg (s.whCmd w.val) (Nat.mod_eq_of_lt ho)]
  rfl

theorem exec_wheelRelease_passes (owns : s.whOwns w.val = true) (still : s.flag (wheelPage w.val) WHEEL.WH_STAT_REST_OK = true)
    (rest : s.whState w.val = whRest) (parked : (wheelHeads w.val).all (fun h => s.headParked h) = true)
    (h : s.Passes path (wheelPage w.val + 0x74) 1) :
    exec (.wheelRelease path w) s = answered path (wheelPage w.val + 0x74)
      ((s.setWheel w.val { s.wheel w.val with release := true, phaseAt := s.now }).whResult w.val 1 1) := by
  refine (State.regSet_wheel (by decide) h).trans (congrArg (answered _ _) ?_)
  simp only [State.whCmd, State.cmdRelease, owns, still, rest, parked, Bool.not_true, Bool.false_eq_true, if_false, ne_eq, not_true_eq_false, or_self]

theorem exec_wheelClamp_passes (h : s.Passes path (wheelPage w.val + 0x74) 2) :
    exec (.wheelClamp path w) s = answered path (wheelPage w.val + 0x74)
      ((((s.setWheel w.val { s.wheel w.val with release := false, clampAt := s.now }).setFlag (wheelPage w.val) WHEEL.WH_STAT_REL_OUT false).whResult w.val 2 0).relConf w.val 3) :=
  State.regSet_wheel (by decide) h

theorem exec_clearFault_passes (faulty : s.whState w.val = whFault) (still : s.flag (wheelPage w.val) WHEEL.WH_STAT_REST_OK = true)
    (h : s.Passes path (wheelPage w.val + 0x74) 3) :
    exec (.clearFault path w) s = answered path (wheelPage w.val + 0x74)
      ((((s.setFld (wheelPage w.val) WHEEL.WH_STAT_FAULT_CAUSE 0).setFld (wheelPage w.val) WHEEL.WH_STAT_CATCH_FAILS 0).setWhState w.val whRest).whResult w.val 3 0) := by
  refine (State.regSet_wheel (by decide) h).trans (congrArg (answered _ _) ?_)
  simp only [State.whCmd, State.cmdClearFault, faulty, still, Bool.not_true, Bool.false_eq_true, if_false, ne_eq, not_true_eq_false, or_self]

theorem exec_handoverRel_passes (owns : s.whOwns w.val = true) (runs : s.whState w.val = whRunning) (calm : (s.wheel w.val).episode = false)
    (h : s.Passes path (wheelPage w.val + 0x74) 4) :
    exec (.handoverRel path w) s = answered path (wheelPage w.val + 0x74)
      ((s.setWheel w.val { s.wheel w.val with atComm := .release }).whResult w.val 4 1) := by
  refine (State.regSet_wheel (by decide) h).trans (congrArg (answered _ _) ?_)
  have notFly : whRunning ≠ whFlywheel := by decide
  simp only [State.whCmd, State.cmdHandoverRel, owns, runs, calm, notFly, Bool.not_true, Bool.false_eq_true, if_false, and_false, or_self, if_true]

theorem exec_handoverArm_passes (valid : s.flag (wheelPage w.val) WHEEL.WH_STAT_SHADOW_VALID = true) (h : s.Passes path (wheelPage w.val + 0x74) 5) :
    exec (.handoverArm path w) s = answered path (wheelPage w.val + 0x74)
      ((s.setWheel w.val { s.wheel w.val with armed := true }).whResult w.val 5 0) :=
  (State.regSet_wheel (by decide) h).trans (congrArg (answered _ _) (if_pos valid))

theorem exec_wheelDisarm_passes (h : s.Passes path (wheelPage w.val + 0x74) 6) :
    exec (.wheelDisarm path w) s = answered path (wheelPage w.val + 0x74)
      ((s.setWheel w.val { s.wheel w.val with armed := false }).whResult w.val 6 0) :=
  State.regSet_wheel (by decide) h

theorem exec_wheelCoast_passes (owns : s.whOwns w.val = true) (runs : s.whState w.val = whRunning) (h : s.Passes path (wheelPage w.val + 0x74) 7) :
    exec (.wheelCoast path w) s =
      let t := ((s.parkHeads w.val).clearAtSpeed w.val).whResult w.val 7 0
      answered path (wheelPage w.val + 0x74) (t.setWheel w.val { t.wheel w.val with atComm := .coast }) := by
  refine (State.regSet_wheel (by decide) h).trans (congrArg (answered _ _) ?_)
  have notRest : whRunning ≠ whRest := by decide
  simp only [State.whCmd, State.cmdCoast, owns, runs, notRest, Bool.not_true, Bool.false_eq_true, if_false, ne_eq, not_true_eq_false, false_and, or_self]

/-! The axes -/

/-- A word of MV_CMD gives its operation, its number of axes and the axes back. -/
theorem mvWordOf_fields {op n x y z : Nat} (ho : op < 16) (hn : n < 4) (hx : x < 64) (hy : y < 64) (hz : z < 64) :
    mvWordOf op n x y z % 16 = op ∧ mvWordOf op n x y z / 2 ^ 4 % 4 = n ∧ mvWordOf op n x y z / 2 ^ 8 % 64 = x ∧
      mvWordOf op n x y z / 2 ^ 16 % 64 = y ∧ mvWordOf op n x y z / 2 ^ 24 % 64 = z := by
  unfold mvWordOf
  omega

/-- A write of MV_CMD that passes runs its command. -/
theorem State.regSet_move {op n x y z : Nat} (ho : op < 16) (hn : n < 4) (hx : x < 64) (hy : y < 64) (hz : z < 64)
    (h : s.Passes path (motionPage + 0x4C) (mvWordOf op n x y z)) :
    s.regSet path (motionPage + 0x4C) (mvWordOf op n x y z) = answered path (motionPage + 0x4C) (s.mvCmd op n x y z) := by
  have word : pulseWord (motionPage + 0x4C) ⟨.motion, 0, motionPage⟩ = true := by decide +kernel
  obtain ⟨eo, en, ex, ey, ez⟩ := mvWordOf_fields ho hn hx hy hz
  refine (State.regSet_pulse h word).trans (congrArg (answered _ _) ?_)
  simp only [State.wrote, eo, en, ex, ey, ez]
  rfl

theorem exec_axisMove_passes {nax : Fin 4} {x y z : Fin 64} (some' : 1 ≤ nax.val)
    (h : s.Passes path (motionPage + 0x4C) (mvWordOf 1 nax.val x.val y.val z.val)) :
    exec (.axisMove path nax x y z) s = answered path (motionPage + 0x4C) (s.mvMove ([x.val, y.val, z.val].take nax.val)
      ([s.fldS motionPage MOTION.MV_TGT 0, s.fldS motionPage MOTION.MV_TGT 1, s.fldS motionPage MOTION.MV_TGT 2].take nax.val)) :=
  (State.regSet_move (by decide) nax.isLt x.isLt y.isLt z.isLt h).trans
    (congrArg (answered _ _) (if_neg (Nat.ne_of_gt some')))

section
variable {x : Nat} (small : x < 38)
include small

/-- A command of one axis that passes runs for that axis. -/
theorem State.regSet_axis {op : Nat} (ho : op < 16) (h : s.Passes path (motionPage + 0x4C) (mvWordOf op 1 x 0 0)) :
    s.regSet path (motionPage + 0x4C) (mvWordOf op 1 x 0 0) = answered path (motionPage + 0x4C) (s.mvCmd op 1 x 0 0) :=
  State.regSet_move ho (by decide) (Nat.lt_trans small (by decide)) (by decide) (by decide) h

theorem State.mvHome_free (standing : s.axMoving x = false) (owned : (s.axesApply [x]).axOwned x = true)
    (still : (s.axesApply [x]).axMoving x = false) (accepts : (s.axesApply [x]).accepts motionPage = true)
    (profile : (s.axesApply [x]).profileOk x = true)
    (lock : isLoader x = true → (s.axesApply [x]).homeInterlockOk x = true ∧ (s.axesApply [x]).flag loaderPage LOADER.LD_STAT_G_HOLD = false) :
    s.mvHome x = (((s.axesApply [x]).mvResult x 2 0).interlockRefused 0).beginHome x := by
  have open' : (isLoader x && (!(s.axesApply [x]).homeInterlockOk x ||
      (s.axesApply [x]).flag loaderPage LOADER.LD_STAT_G_HOLD && !(s.axesApply [x]).mot.plan.contains (.home x))) = false := by
    cases hl : isLoader x with
    | false => rfl
    | true =>
      obtain ⟨lockOk, holds⟩ := lock hl
      simp [lockOk, holds]
  unfold State.mvHome
  simp only [standing, Bool.false_eq_true, if_false, Nat.not_le.2 small, owned, still, accepts, profile, open', Bool.not_true, Bool.or_self,
    ne_eq, not_true_eq_false]

variable (owned : s.axOwned x = true)
include owned

theorem State.mvStop_owned : s.mvStop x = (s.mvResult x 3 0).stopAxis x 0 := by
  simp [State.mvStop, Nat.not_le.2 small, owned]

theorem State.mvDisable_owned : s.mvDisable x = (s.mvResult x 4 0).disableAxis x := by
  simp [State.mvDisable, Nat.not_le.2 small, owned]

theorem State.mvSetPos_owned (standing : s.axMoving x = false) (pos : Int) :
    s.mvSetPos x pos = ((s.mvResult x 5 0).clearAxFault x).setAxPos x pos := by
  simp [State.mvSetPos, Nat.not_le.2 small, owned, standing]

end

theorem exec_stopAll_passes (h : s.Passes path (motionPage + 0x6C) 1) :
    exec (.stopAll path) s = answered path (motionPage + 0x6C) s.stopAll := by
  have word : pulseWord (motionPage + 0x6C) ⟨.motion, 0, motionPage⟩ = true := by decide +kernel
  have stops : bitOf 1 0 = true := by decide
  refine (State.regSet_pulse h word).trans (congrArg (answered _ _) ?_)
  rw [Nat.add_sub_cancel_left]
  simp [State.wrote, stops]

theorem exec_elvCmd_passes {target : Fin 8} (h : s.Passes path (kickPage + 0x44) target.val) :
    exec (.elvCmd path target) s =
      answered path (kickPage + 0x44) (s.elvCmd target.val (decide (s.seqState 32 = sqParked))) := by
  have word : pulseWord (kickPage + 0x44) ⟨.kick, 0, kickPage⟩ = true := by decide +kernel
  refine (State.regSet_pulse h word).trans ?_
  rw [← congrArg (fun n => s.elvCmd n _) (Nat.mod_eq_of_lt target.isLt)]
  rfl

/-! A head's link -/

/-- LINK_CTRL of a head is a word of its own. -/
theorem headPage_linkCtrl (h : HeadIx) : ownWord (headPage h.val + 0x44) ⟨.head, h.val, headPage h.val⟩ = true := by
  have word : ∀ h : Fin 33, ownWord (headPage h.val + 0x44) ⟨.head, h.val, headPage h.val⟩ = true := by decide +kernel
  exact word h

/-- A write of LINK_CTRL that passes forces a position where it names one, and retrains where it asks for it. -/
theorem State.regSet_linkCtrl {h : HeadIx} {v : Nat} (hp : s.Passes path (headPage h.val + 0x44) v) :
    s.regSet path (headPage h.val + 0x44) v = answered path (headPage h.val + 0x44)
      (let t := s.put path (headPage h.val + 0x44) v
       let u := if s.hits path (headPage h.val + 0x44) v HEAD.LINK_CTRL_FORCE_POS then t.forcePos h.val (v / 2 ^ 4 % 16) else t
       if s.hits path (headPage h.val + 0x44) v HEAD.LINK_CTRL_RETRAIN && bitOf v 0 then u.retrain h.val else u) := by
  rw [State.regSet_own hp (headPage_linkCtrl h), Nat.add_sub_cancel_left]
  rfl

end

/-- Settles O20: each command is decoded from the word that it writes, and runs where the conditions of its own rule hold. -/
theorem wheelAndAxisRegisterCommands : Obligations.WheelAndAxisRegisterCommands := by
  refine ⟨fun path w s => ?_, fun path s => ?_⟩
  · exact ⟨fun _ => exec_spdCmd_passes, exec_wheelRelease_passes, exec_wheelClamp_passes, exec_clearFault_passes,
      exec_handoverRel_passes, exec_handoverArm_passes, exec_wheelDisarm_passes, exec_wheelCoast_passes⟩
  · refine ⟨fun nax x y z some' _ => exec_axisMove_passes some', fun x owned => ⟨?_, ?_, ?_, ?_⟩, exec_stopAll_passes,
      fun _ => exec_elvCmd_passes, fun h n => ?_, fun h => ?_⟩
    · exact fun standing owned still accepts profile lock h => (State.regSet_axis x.isLt (op := 2) (by decide) h).trans
        (congrArg (answered _ _) (State.mvHome_free x.isLt standing owned still accepts profile lock))
    · exact fun h => (State.regSet_axis x.isLt (op := 3) (by decide) h).trans (congrArg (answered _ _) (State.mvStop_owned x.isLt owned))
    · exact fun h => (State.regSet_axis x.isLt (op := 4) (by decide) h).trans (congrArg (answered _ _) (State.mvDisable_owned x.isLt owned))
    · exact fun standing h => (State.regSet_axis x.isLt (op := 5) (by decide) h).trans
        (congrArg (answered _ _) (State.mvSetPos_owned x.isLt owned standing _))
    · intro b w v forces still hp field
      refine (State.regSet_linkCtrl hp).trans (congrArg (answered _ _) ?_)
      rw [forces, still, field]
      rfl
    · intro b v still retrains hp
      refine (State.regSet_linkCtrl hp).trans (congrArg (answered _ _) ?_)
      rw [still, retrains, bitOf_setBit_self]
      rfl

end Sys2Proof.Machine

/-!
SUPPORT. The host path to the registers (R73, R492).
-/
namespace Sys2Proof.Machine

/-- Settles O26: a command that has been taken, with the right for registers, runs its read or its write as the host. -/
theorem hostRegisterFeature : Obligations.HostRegisterFeature := by
  intro c cid addr value s fresh right
  refine ⟨fun good => ?_, congrArg done (State.adminWith_fresh fresh right)⟩
  refine congrArg done ((State.adminWith_fresh fresh right).trans ?_)
  exact if_neg (Bool.eq_false_iff.1 good)

end Sys2Proof.Machine

/-!
SUPPORT. Requests of a Stebaro session that read or write, and what a request with a fault of its form gets (R79-R84).
-/
namespace Sys2Proof.Machine
section
variable {s : State} {sid : SessionIx} {h : SbHeader}

/-- A request with a fault of its form: the fault is recorded where it is a bad address, and the request is NAKed. -/
theorem State.sbRequest_faulty {words code : Nat} {run : State → State} (live : s.svc.held = .no) (isOpen : (s.session sid.val).isSome = true)
    (fresh : ∀ x, (s.sbTouch sid.val).session sid.val = some x → ∀ k ∈ x.kept, k.req ≠ h)
    (alone : ∀ w ∈ (s.sbTouch sid.val).arb.waiting, pathKey w.path = 2 + sid.val → w.for' ≠ .steb h)
    (fault : (s.sbHeard sid).requestFault sid.val h words = some code) :
    s.sbRequest sid h words run = (if code = 4 then (s.sbHeard sid).refuse chipPage 6 else s.sbHeard sid).sbNak sid h code 0 := by
  obtain ⟨x0, hs⟩ := Option.isSome_iff_exists.1 isOpen
  have waits : ((s.sbTouch sid.val).count stebaroPage STEBARO.SB_RX_CNT).arb.waiting.any
      (fun w => decide (pathKey w.path = 2 + sid.val) && decide (w.for' = .steb h)) = false := by
    simpa using alone
  have fault' : ((s.sbTouch sid.val).count stebaroPage STEBARO.SB_RX_CNT).requestFault sid.val h words = some code := fault
  unfold State.sbRequest
  simp only [live, hs, ne_eq, not_true_eq_false, if_false]
  cases ht : (s.sbTouch sid.val).session sid.val with
  | none => simp only [List.find?_nil, waits, fault', Bool.false_eq_true, if_false]; rfl
  | some x =>
    have kept : x.kept.find? (fun k => decide (k.req = h)) = none := by simpa [List.find?_eq_none] using fresh x ht
    simp only [kept, waits, fault', Bool.false_eq_true, if_false]
    rfl

/-- Reads of good addresses are all carried out, and the words sent in order. -/
theorem State.sbReads_good {addrs : List Nat} (good : ∀ a ∈ addrs, badAddress a = false) :
    s.sbReads sid h addrs =
      (s.readMany (.steb sid) addrs).2.sbRespond sid h 0 (s.readMany (.steb sid) addrs).1.length (s.readMany (.steb sid) addrs).1 := by
  have none_bad : firstBad addrs = none := by
    rw [firstBad, List.findIdx?_eq_none_iff]
    exact good
  unfold State.sbReads
  rw [none_bad]

/-- A write of a request that passes is answered with an empty response. -/
theorem State.regWrite_steb {t : State} {ws : List (Nat × Nat)} (passes : t.PassesAll (.steb sid) ws) (noReset : (chipPage + 0x70, 0x5A5A) ∉ ws) :
    t.regWrite (.steb sid) ws (.steb h) =
      ((t.writeWords (.steb sid) ws).pulsesWritten (ws.map Prod.fst)).sbRespond sid h 0 0 [] :=
  State.regWrite_passes passes noReset

end

/-- Settles O28: a new request runs its operation once it is counted, and one with a fault is NAKed with that fault. -/
theorem requestsReadAndWrite : Obligations.RequestsReadAndWrite := by
  intro sid hdr s op
  refine ⟨fun addrs new good => ?_, fun pairs new passes noReset => ?_, fun new area good => ?_, fun values new area passes noReset => ?_,
    fun new good => ?_, fun words code live isOpen fresh alone fault => congrArg done (State.sbRequest_faulty live isOpen fresh alone fault)⟩
  · exact congrArg done ((State.sbRequest_new new).trans (State.sbReads_good good))
  · exact congrArg done ((State.sbRequest_new new).trans (State.regWrite_steb passes noReset))
  · exact congrArg done ((State.sbRequest_new new).trans ((if_pos area).trans (State.sbReads_good good)))
  · exact congrArg done ((State.sbRequest_new new).trans ((if_pos area).trans (State.regWrite_steb passes noReset)))
  · exact congrArg done ((State.sbRequest_new new).trans (if_neg (Bool.eq_false_iff.1 good)))

end Sys2Proof.Machine

/-!
SUPPORT. Registers of the common header (R54): where they stand, which of them settling may move, and what the
updates of one write (R13, R57) do to them.
-/
namespace Sys2Proof.Machine

-- The kernel decides facts below: one at a time, and not each in a thread of its own that waits for all before it.
set_option Elab.async false

/-! Bits -/

theorem bitOf_setBit_ne (v : Nat) {m n : Nat} (b : Bool) (h : n ≠ m) : bitOf (setBit v m b) n = bitOf v n := by
  have flips : ∀ u, u / 2 ^ m % 2 = 0 → bitOf (u + 2 ^ m) n = bitOf u n := by
    intro u clear
    unfold bitOf
    rcases Nat.lt_or_gt_of_ne h with lt | gt
    · obtain ⟨d, rfl⟩ : ∃ d, m = n + (d + 1) := ⟨m - n - 1, by omega⟩
      rw [Nat.pow_add, Nat.add_mul_div_left _ _ (Nat.two_pow_pos n), Nat.pow_succ, Nat.add_mul_mod_self_right]
    · obtain ⟨d, rfl⟩ : ∃ d, n = m + 1 + d := ⟨n - m - 1, by omega⟩
      have half : (u + 2 ^ m) / 2 ^ (m + 1) = u / 2 ^ (m + 1) := by
        rw [Nat.pow_succ, ← Nat.div_div_eq_div_mul, ← Nat.div_div_eq_div_mul, Nat.add_div_right _ (Nat.two_pow_pos m)]
        omega
      rw [Nat.pow_add, ← Nat.div_div_eq_div_mul, ← Nat.div_div_eq_div_mul, half]
  by_cases set : bitOf v m = true
  · cases b with
    | true => simp only [setBit, set, if_true]
    | false =>
      have le : 2 ^ m ≤ v := by
        refine Decidable.byContradiction fun lt => ?_
        simp [bitOf, Nat.div_eq_of_lt (Nat.not_le.1 lt)] at set
      have clear : (v - 2 ^ m) / 2 ^ m % 2 = 0 := by
        have := Nat.sub_mul_div v (2 ^ m) 1
        simp only [bitOf, decide_eq_true_eq] at set
        rw [Nat.mul_one] at this
        omega
      simp only [setBit, set, if_true, Bool.false_eq_true, if_false]
      rw [← flips _ clear, Nat.sub_add_cancel le]
  · have clear : v / 2 ^ m % 2 = 0 := by
      simp only [bitOf, decide_eq_true_eq] at set
      omega
    cases b with
    | true => simp only [setBit, set, if_true, Bool.false_eq_true, if_false]; exact flips v clear
    | false => simp only [setBit, set, Bool.false_eq_true, if_false]

/-! Addresses (R53) -/

/-- Where the page of an address stands: a page with its header lies at the address's own 4 KiB, and the areas of the
windows have none (R53, R70). -/
inductive OnPage (a : Nat) : Option PageRef → Prop
  | none : OnPage a none
  | page (k : PageKind) (i : Nat) (low : a < 0x100000) : OnPage a (some { kind := k, idx := i, base := a / 0x1000 * 0x1000 })
  | area (k : PageKind) (i b : Nat) (window : 0x100000 ≤ a ∧ a < 0x300000) (bare : k.hasHeader = false) :
      OnPage a (some { kind := k, idx := i, base := b })

theorem pageAt_onPage (a : Nat) : OnPage a (pageAt a) := by
  unfold pageAt
  dsimp only
  refine iteInduction (motive := OnPage a) (fun low => ?_) fun high => ?_
  · split
    iterate 10 exact .page _ _ (by omega)
    exact .none
  · clear high
    iterate 21 refine iteInduction (motive := OnPage a) (fun _ => .page _ _ (by omega)) fun _ => ?_
    iterate 3 refine iteInduction (motive := OnPage a) (fun _ => .area _ _ _ (by omega) rfl) fun _ => ?_
    exact .none
theorem pageAt_header {a : Nat} {p : PageRef} (h : pageAt a = some p) (header : p.kind.hasHeader = true) :
    isWindow a = false ∧ p.base = a / 0x1000 * 0x1000 := by
  have place := pageAt_onPage a
  rw [h] at place
  cases place with
  | page k i low => exact ⟨decide_eq_false (by omega), rfl⟩
  | area k i b window bare => exact absurd header (by simp [bare])

theorem pageAt_of_ge {a : Nat} (h : 2 ^ 24 ≤ a) : pageAt a = none := by
  have place := pageAt_onPage a
  revert place
  generalize pageAt a = o
  intro place
  cases place with
  | none => rfl
  | page _ _ low => omega
  | area _ _ _ window _ => omega

theorem arbiterBase_aligned (a : Nat) : arbiterBase a % 0x1000 = 0 := by
  unfold arbiterBase
  split
  · split
    · rfl
    · rfl
  · exact Nat.mul_mod_left ..

theorem fldKey_header_div {f : Fld} (h : f.lsb < 32) (b : Nat) : fldKey b f 0 / 32 = b + f.off := by
  unfold fldKey
  omega

theorem settleKeys_offset : ∀ k ∈ settleKeys, k / 32 % 0x1000 = 0x10 ∨ 0x40 ≤ k / 32 % 0x1000 := by decide +kernel

theorem header_notMem_settleKeys {k : Nat} (low : k / 32 % 0x1000 < 0x40) (notIstat : k / 32 % 0x1000 ≠ 0x10) : k ∉ settleKeys :=
  fun h => (settleKeys_offset k h).elim notIstat (Nat.not_le.2 low)

/-- Below the windows an address stands on the page of its 4 KiB. -/
theorem pageAt_base {a : Nat} (low : a < 0x100000) : pageAt a = pageAt (a / 0x1000 * 0x1000) := by
  have same : a / 0x1000 * 0x1000 / 0x1000 = a / 0x1000 := Nat.mul_div_cancel _ (by decide)
  have high : ¬ 0x100000 ≤ a := Nat.not_le.2 low
  have high' : ¬ 0x100000 ≤ a / 0x1000 * 0x1000 := by omega
  have other : ¬ 0x261000 ≤ a ∧ ¬ 0x262000 ≤ a ∧ ¬ 0x261000 ≤ a / 0x1000 * 0x1000 ∧ ¬ 0x262000 ≤ a / 0x1000 * 0x1000 := by omega
  obtain ⟨h1, h2, h3, h4⟩ := other
  unfold pageAt
  simp only [same, high, high', h1, h2, h3, h4, false_and, if_false]

/-- Whether a page with its header starts at an address. -/
def headered (b : Nat) : Bool :=
  match pageAt b with
  | some p => p.kind.hasHeader && decide (p.base = b)
  | none => false

theorem pageBase_headered (page : Page) : headered (pageBase page) = true := by
  cases page with
  | region r => revert r; decide +kernel
  | head h => revert h; decide +kernel
  | band h => revert h; decide +kernel
  | wheel w => revert w; decide +kernel
  | hbm k => revert k; decide +kernel
  | eth p => revert p; decide +kernel
  | _ => decide +kernel

theorem pageAt_header_lt {a : Nat} {p : PageRef} (h : pageAt a = some p) (header : p.kind.hasHeader = true) : a < 0x100000 := by
  have place := pageAt_onPage a
  rw [h] at place
  cases place with
  | page k i low => exact low
  | area k i b window bare => exact absurd header (by simp [bare])

/-- Each page of the map stands with its header at its base (R53, R54). -/
theorem pageAt_pageBase (page : Page) :
    ∃ k i, k.hasHeader = true ∧ pageAt (pageBase page) = some ⟨k, i, pageBase page⟩ ∧ pageBase page % 0x1000 = 0 := by
  have h := pageBase_headered page
  unfold headered at h
  split at h
  next p hp =>
    simp only [Bool.and_eq_true, decide_eq_true_eq] at h
    obtain ⟨header, base⟩ := h
    obtain ⟨k, i, b⟩ := p
    obtain rfl : b = pageBase page := base
    have aligned := (pageAt_header hp header).2
    exact ⟨k, i, header, hp, by dsimp only at aligned; omega⟩
  next => cases h

/-- A word of a page's 4 KiB is on that page. -/
theorem pageAt_pageBase_add {page : Page} {p : PageRef} (hp : pageAt (pageBase page) = some p) {o : Nat} (ho : o < 0x1000) :
    pageAt (pageBase page + o) = some p := by
  obtain ⟨k, i, header, hk, aligned⟩ := pageAt_pageBase page
  have low := pageAt_header_lt hk header
  have start : (pageBase page + o) / 0x1000 * 0x1000 = pageBase page := by omega
  rw [pageAt_base (by omega), start, hp]

/-! Fields that are cleared by a written 1 (R11): the common header's PG_ISTAT alone -/

theorem page_w1c (k : PageKind) : ∀ f ∈ k.fields, f.acc ≠ .w1c := by
  cases k <;> decide

theorem axis_w1c : ∀ f ∈ AXIS.fields ++ AXISS.fields ++ AXISP.fields, f.acc ≠ .w1c := by decide

theorem header_w1c : ∀ f ∈ HDR.fields, f.acc = .w1c → f = HDR.ISTAT := by decide

theorem mem_fieldsIn {base o : Nat} {fs : List Fld} {x : FldAt} (h : x ∈ fieldsIn base o fs) :
    x.fld ∈ fs ∧ x.base = base ∧ x.fld.indexAt o = some x.idx := by
  obtain ⟨f, hf, hx⟩ := List.mem_filterMap.1 h
  obtain ⟨i, hi, rfl⟩ := Option.map_eq_some_iff.1 hx
  exact ⟨hf, rfl, hi⟩

/-- A field that a written 1 clears is PG_ISTAT of the page. -/
theorem w1c_field {a : Nat} {x : FldAt} (hx : x ∈ fieldsAt a) (w1c : x.fld.acc = .w1c) :
    ∃ p, pageAt a = some p ∧ p.kind.hasHeader = true ∧ a = p.base + 0x10 ∧ x = ⟨p.base, HDR.ISTAT, 0⟩ := by
  unfold fieldsAt at hx
  split at hx
  · cases hx
  next p hp =>
    dsimp only at hx
    split at hx
    next low =>
      simp only [Bool.and_eq_true, decide_eq_true_eq] at low
      obtain ⟨hf, hb, hi⟩ := mem_fieldsIn hx
      obtain ⟨base, f, i⟩ := x
      obtain rfl : f = HDR.ISTAT := header_w1c f hf w1c
      obtain rfl : base = p.base := hb
      have at10 : a - p.base = 0x10 ∧ i = 0 := by
        have there : (if a - p.base < 0x10 then none else if a - p.base = 0x10 then some 0 else none) = some i := hi
        split at there
        · cases there
        · split at there
          next here => exact ⟨here, (Option.some.inj there).symm⟩
          next => cases there
      have base := (pageAt_header hp low.1).2
      obtain rfl := at10.2
      exact ⟨p, hp, low.1, by omega, rfl⟩
    next =>
      split at hx
      · split at hx
        · rcases List.mem_append.1 hx with h | h
          · exact absurd w1c (axis_w1c _ (by simp [(mem_fieldsIn h).1]))
          · exact absurd w1c (axis_w1c _ (by simp [(mem_fieldsIn h).1]))
        · rcases List.mem_append.1 hx with h | h
          · exact absurd w1c (axis_w1c _ (by simp [(mem_fieldsIn h).1]))
          · exact absurd w1c (axis_w1c _ (by simp [(mem_fieldsIn h).1]))
      · exact absurd w1c (page_w1c _ _ (mem_fieldsIn hx).1)

/-! Updates in order -/

theorem forEach_frame {α β : Type} (o : State → β) {f : State → α → State} (xs : List α) (h : ∀ u, ∀ x ∈ xs, o (f u x) = o u) (s : State) :
    o (s.forEach xs f) = o s := by
  unfold State.forEach
  induction xs generalizing s with
  | nil => rfl
  | cons x xs ih =>
    rw [List.foldl_cons, ih (fun u y hy => h u y (List.mem_cons_of_mem _ hy)), h s x List.mem_cons_self]

/-- What the hardware sets as a write clears it (R13) is set in PG_ISTAT of the page alone. -/
theorem State.setMeets_reg {s : State} {a k : Nat} (sets : Nat)
    (h : ∀ p, pageAt a = some p → p.kind.hasHeader = true → a = p.base + 0x10 → k ≠ fldKey p.base HDR.ISTAT 0) :
    (s.setMeets a sets).reg k = s.reg k := by
  unfold State.setMeets
  split
  · rfl
  · refine forEach_frame (fun u => u.reg k) _ (fun u x hx => ?_) s
    obtain ⟨there, w1c⟩ := List.mem_filter.1 hx
    obtain ⟨p, hp, header, here, rfl⟩ := w1c_field there (of_decide_eq_true w1c)
    exact State.reg_setFld_ne u _ (h p hp header here)

theorem State.setMeets_frame {α : Type} (o : State → α) (ho : ∀ s x, o { s with regs := x } = o s) (s : State) (a sets : Nat) :
    o (s.setMeets a sets) = o s := by
  unfold State.setMeets
  split
  · rfl
  · exact forEach_frame o _ (fun u x _ => ho u _) s

theorem fieldsAt_header {p : PageRef} {a : Nat} (hp : pageAt a = some p) (header : p.kind.hasHeader = true) (low : a - p.base < 0x40) :
    fieldsAt a = fieldsIn p.base (a - p.base) HDR.fields := by
  unfold fieldsAt
  simp [hp, header, low]

theorem State.setMeets_istat {s : State} {a : Nat} {p : PageRef} (hp : pageAt a = some p) (header : p.kind.hasHeader = true)
    (here : a = p.base + 0x10) (sets : Nat) :
    s.setMeets a sets = s.setFld p.base HDR.ISTAT (s.fld p.base HDR.ISTAT ||| (sets % 2 ^ 32 &&& istatBits p.kind)) := by
  have offset : a - p.base = 0x10 := by omega
  have fields : fieldsAt a = [⟨p.base, HDR.ISTAT, 0⟩] := by
    rw [fieldsAt_header hp header (by omega), offset]
    rfl
  unfold State.setMeets
  simp only [hp, fields]
  show s.setFld p.base HDR.ISTAT (_ ||| (sets / 2 ^ 0 % 2 ^ 32 &&& istatBits p.kind)) 0 = _
  rw [Nat.pow_zero, Nat.div_one]

/-! Bits of PG_ISTAT -/

theorem State.istat_fldBit_ne (s : State) (b : Nat) {m n : Nat} (h : n < 32) (ne : n ≠ m) :
    (s.istat b m).fldBit b HDR.ISTAT n = s.fldBit b HDR.ISTAT n := by
  unfold State.fldBit State.istat State.setFldBit
  rw [State.fld_setFld_self]
  exact (bitOf_mod_two_pow _ h).trans (bitOf_setBit_ne _ _ ne)

theorem State.fldBit_congr {s t : State} {b : Nat} {f : Fld} {i : Nat} (h : t.reg (fldKey b f i) = s.reg (fldKey b f i)) (n : Nat) :
    t.fldBit b f n i = s.fldBit b f n i :=
  congrArg (bitOf · n) h

@[simp] theorem State.event_regs (s : State) (base code sev cell arg1 : Nat) (data : List Nat) :
    (s.event base code sev cell arg1 data).regs = s.regs := by
  unfold State.event
  split <;> rfl

section Settled
variable {n : Nat} (low : n < 32) (h8 : n ≠ 8) (h9 : n ≠ 9) (s : State)
include low

include h9 in
theorem State.summaryRose_istat : s.summaryRose.fldBit rdyPage HDR.ISTAT n = s.fldBit rdyPage HDR.ISTAT n := by
  refine Eq.trans (State.fldBit_congr (s := s.istat rdyPage 9) ?_ n) (s.istat_fldBit_ne rdyPage low h9)
  unfold State.summaryRose
  dsimp only
  split
  · rfl
  · exact congrArg (storeFind regDefault · _) (State.event_regs ..)

include h8 h9

theorem State.setRdy_istat {f : Fld} (key : fldKey rdyPage HDR.ISTAT 0 ≠ fldKey rdyPage f 0) (b : Bool) :
    (s.setRdy f b).fldBit rdyPage HDR.ISTAT n = s.fldBit rdyPage HDR.ISTAT n := by
  have written (u : State) : ((u.setFlag rdyPage f b).istat rdyPage 8).fldBit rdyPage HDR.ISTAT n = u.fldBit rdyPage HDR.ISTAT n :=
    (State.istat_fldBit_ne _ _ low h8).trans (State.fldBit_congr (State.reg_setFld_ne u _ key) n)
  unfold State.setRdy
  dsimp only
  split
  · rfl
  · split
    · exact (State.summaryRose_istat low h9 _).trans (written _)
    · exact written _

theorem State.settleBit_istat {x : Nat × Fld} (hx : x ∈ rdyOwners) :
    (s.settleBit x).fldBit rdyPage HDR.ISTAT n = s.fldBit rdyPage HDR.ISTAT n := by
  have key : fldKey rdyPage HDR.ISTAT 0 ≠ fldKey rdyPage x.2 0 := (rdyOwners_keys x hx x hx).2.2.1.symm
  unfold State.settleBit
  split
  · split
    · exact State.setRdy_istat low h8 h9 s key true
    · rfl
  · split
    · exact (State.istat_fldBit_ne _ _ low h8).trans (State.fldBit_congr (State.reg_setFld_ne s _ key) n)
    · rfl

/-- Of PG_ISTAT of RDY, settling may set bits 8 and 9 alone (R64). -/
theorem State.settle_istat_rdy : s.settle.fldBit rdyPage HDR.ISTAT n = s.fldBit rdyPage HDR.ISTAT n := by
  unfold State.settle
  exact forEach_frame (fun t => t.fldBit rdyPage HDR.ISTAT n) rdyOwners (fun u x hx => State.settleBit_istat low h8 h9 u hx) s

end Settled

theorem State.settle_istat {b n : Nat} (aligned : b % 0x1000 = 0) (low : n < 32) (own : b ≠ rdyPage ∨ (n ≠ 8 ∧ n ≠ 9)) (s : State) :
    s.settle.fldBit b HDR.ISTAT n = s.fldBit b HDR.ISTAT n := by
  by_cases rdy : b = rdyPage
  · subst rdy
    obtain ⟨h8, h9⟩ := own.resolve_left fun h => h rfl
    exact State.settle_istat_rdy low h8 h9 s
  · refine State.settle_fldBit s n fun h => ?_
    have place : ∀ k ∈ settleKeys, k / 32 / 0x1000 = rdyPage / 0x1000 := by decide +kernel
    have := place _ h
    rw [fldKey_header_div (by decide)] at this
    simp only [HDR.ISTAT, rdyPage] at *
    omega

end Sys2Proof.Machine

/-!
SUPPORT. The corrected-error counter of a page (R11, R13, R54), which a read clears.
-/
namespace Sys2Proof.Machine

/-- The address of PG_ECNT_C of a page is a good one, and holds that field alone. -/
theorem pgEcntC_word (page : Page) :
    badAddress (pageBase page + 0x18) = false ∧ fieldsAt (pageBase page + 0x18) = [⟨pageBase page, HDR.PG_ECNT_C, 0⟩] ∧
      ∃ k i, k.hasHeader = true ∧ pageAt (pageBase page + 0x18) = some ⟨k, i, pageBase page⟩ := by
  obtain ⟨k, i, header, hp, aligned⟩ := pageAt_pageBase page
  have here := pageAt_pageBase_add hp (o := 0x18) (by decide)
  have low := pageAt_header_lt hp header
  refine ⟨?_, ?_, k, i, header, here⟩
  · have words : (pageBase page + 0x18) % 4 = 0 := by omega
    have inMap : pageBase page + 0x18 < 2 ^ 24 := by omega
    simp only [badAddress, assigned, here, words, Nat.not_le.2 inMap, decide_false, Option.isSome_some, Bool.or_true, Bool.not_true,
      ne_eq, not_true_eq_false, Bool.or_self]
  · have offset : pageBase page + 0x18 - pageBase page = 0x18 := Nat.add_sub_cancel_left ..
    rw [fieldsAt_header here header (by rw [offset]; decide), offset]
    rfl

/-- What the counter shows is what it holds. -/
theorem State.shown_pgEcntC (s : State) (path : Path) {k : PageKind} {i b : Nat} (header : k.hasHeader = true) :
    s.shown path ⟨k, i, b⟩ ⟨b, HDR.PG_ECNT_C, 0⟩ = s.fld b HDR.PG_ECNT_C % 2 ^ 32 := by
  have present : absent ⟨k, i, b⟩ ⟨b, HDR.PG_ECNT_C, 0⟩ = false := by cases k <;> rfl
  have word : HDR.PG_ECNT_C.off < 0x40 ∧ HDR.PG_ECNT_C ≠ HDR.BUSY ∧ HDR.PG_ECNT_C ≠ HDR.PG_SEQ ∧ HDR.PG_ECNT_C ≠ HDR.TRUST_LOCKED := by
    decide
  obtain ⟨low, notBusy, notSeq, notTrust⟩ := word
  unfold State.shown
  simp only [present, header, low, notBusy, notSeq, notTrust, decide_true, Bool.and_self, Bool.false_eq_true, if_false, if_true]
  rfl

theorem regDefault_pgEcntC (page : Page) : regDefault (fldKey (pageBase page) HDR.PG_ECNT_C 0) = 0 := by
  obtain ⟨_, fields, k, i, header, hp⟩ := pgEcntC_word page
  have place : fldKey (pageBase page) HDR.PG_ECNT_C 0 / 32 = pageBase page + 0x18 := fldKey_header_div (by decide) _
  have bit : fldKey (pageBase page) HDR.PG_ECNT_C 0 % 32 = 0 := by
    change ((pageBase page + 0x18 + 0) * 32 + 0) % 32 = 0
    omega
  have found : [(⟨pageBase page, HDR.PG_ECNT_C, 0⟩ : FldAt)].find? (fun x => decide (x.fld.lsb = 0)) = some ⟨pageBase page, HDR.PG_ECNT_C, 0⟩ := rfl
  have reset : resetOf ⟨k, i, pageBase page⟩ HDR.PG_ECNT_C 0 = 0 := by
    have low : HDR.PG_ECNT_C.off < 0x40 := by decide
    simp only [resetOf, header, low, decide_true, Bool.and_self, if_true]
    rfl
  unfold regDefault
  simp only [place, bit, fields, hp, found, reset, ne_eq, not_true_eq_false, and_false, if_false]

/-- A read of PG_ECNT_C clears it, and then meets its update. -/
theorem State.readWord_pgEcntC (s : State) (path : Path) (page : Page) (n : Nat) :
    s.readWord path (pageBase page + 0x18) [(0, n)] =
      (s.fld (pageBase page) HDR.PG_ECNT_C % 2 ^ 32, false,
        (s.setFld (pageBase page) HDR.PG_ECNT_C 0).count (pageBase page) HDR.PG_ECNT_C n) := by
  obtain ⟨good, fields, k, i, header, hp⟩ := pgEcntC_word page
  obtain ⟨window, -⟩ := pageAt_header hp header
  obtain ⟨_, _, _, _, aligned⟩ := pageAt_pageBase page
  have notPort : pageBase page + 0x18 ≠ erPage + 0x64 ∧ pageBase page + 0x18 ≠ obsqPage + 0x50 ∧
      pageBase page + 0x18 ≠ outerPage + 0xC8 ∧ pageBase page + 0x18 ≠ chipPage + 0x54 := by
    simp only [erPage, obsqPage, outerPage, chipPage]
    omega
  obtain ⟨notLog, notQueue, notShard, notTime⟩ := notPort
  unfold State.readWord
  simp only [good, notLog, notQueue, notShard, notTime, hp, fields, window, Bool.false_eq_true, if_false, Bool.and_false]
  change ((if HDR.PG_ECNT_C.acc = .wo then 0 else s.shown path _ _) * 2 ^ 0 + 0, false,
    (s.setFld (pageBase page) HDR.PG_ECNT_C (regDefault (fldKey (pageBase page) HDR.PG_ECNT_C 0))).count (pageBase page) HDR.PG_ECNT_C n) = _
  rw [regDefault_pgEcntC, if_neg (by decide), State.shown_pgEcntC s path header, Nat.pow_zero, Nat.mul_one, Nat.add_zero]

/-- Settles O27: the read shows what the field holds, clears it and counts the update, and settling moves no counter. -/
theorem rcReadReturnsAndClears : Obligations.RcReadReturnsAndClears := by
  intro path page n s live b
  have key : fldKey b HDR.PG_ECNT_C 0 ∉ settleKeys := by
    obtain ⟨_, _, _, _, aligned⟩ := pageAt_pageBase page
    have offset : fldKey b HDR.PG_ECNT_C 0 / 32 % 0x1000 = 0x18 := by
      rw [fldKey_header_div (by decide)]
      change (pageBase page + 0x18) % 0x1000 = 0x18
      omega
    exact header_notMem_settleKeys (by rw [offset]; decide) (by rw [offset]; decide)
  have read : s.regRead path (b + 0x18) [(0, n)] = ((s.setFld b HDR.PG_ECNT_C 0).count b HDR.PG_ECNT_C n).send
      (.readData path (b + 0x18) (s.fld b HDR.PG_ECNT_C % 2 ^ 32)) := by
    unfold State.regRead
    rw [State.readWord_pgEcntC]
    simp only [live, Bool.not_true, Bool.false_eq_true, if_false]
    rfl
  refine ⟨_, congrArg done read, ?_, ?_, fun k other hk => ?_⟩
  · rw [State.settle_out]
    rfl
  · rw [State.settle_fld _ key, State.send_fld, State.count, State.fld_setFld_self, State.fld_setFld_self]
    have small : min (2 ^ 32 - 1) n < 2 ^ 32 := Nat.lt_of_le_of_lt (Nat.min_le_left ..) (by decide)
    change min (2 ^ 32 - 1) (0 % 2 ^ 32 + n) % 2 ^ 32 = _
    rw [Nat.zero_mod, Nat.zero_add, Nat.mod_eq_of_lt small]
  · rw [State.settle_reg _ hk]
    exact (State.reg_setFld_ne _ _ other).trans (State.reg_setFld_ne _ _ other)

end Sys2Proof.Machine

/-!
SUPPORT. PG_CTRL of every page, and the reset, clock, band, power and Stebaro registers (R30, R43, R50, R54, R55, R62,
R67, R207, R492, R495).
-/
namespace Sys2Proof.Machine

-- The kernel decides facts below: one at a time, and not each in a thread of its own that waits for all before it.
set_option Elab.async false
section
variable {s : State} {path : Path} {a v : Nat}

/-- Only the words of the profile tables mark a table. -/
theorem State.pulsesWritten_out (h : ¬(0x240000 ≤ a ∧ a < 0x261000)) : s.pulsesWritten [a] = s := by
  simp only [State.pulsesWritten, List.filter_cons, h, decide_false, Bool.false_eq_true, if_false, List.filter_nil]
  rfl

/-! PG_CTRL (R54) -/

section PgCtrl
variable {page : Page} {p : PageRef}

/-- A write of PG_CTRL that passes: the fields take their values, and what the bits touched ask for is done. -/
theorem State.regSet_pgCtrl (hp : pageAt (pageBase page) = some p) (hf : s.Passes path (pageBase page + 0x0C) v) :
    s.regSet path (pageBase page + 0x0C) v = answered path (pageBase page + 0x0C)
      ((s.put path (pageBase page + 0x0C) v).pgCtrlWritten p v (s.hits path (pageBase page + 0x0C) v)) := by
  obtain ⟨k, i, header, hk, aligned⟩ := pageAt_pageBase page
  obtain rfl : p = ⟨k, i, pageBase page⟩ := Option.some.inj (hp.symm.trans hk)
  have low := pageAt_header_lt hk header
  have here := pageAt_pageBase_add hk (o := 0x0C) (by decide)
  have window := (pageAt_header here header).1
  have offset : pageBase page + 0x0C - pageBase page = 0x0C := Nat.add_sub_cancel_left ..
  have notReset : pageBase page + 0x0C ≠ chipPage + 0x70 := by
    simp only [chipPage]
    omega
  have word : s.writeWord path (pageBase page + 0x0C) v =
      (s.put path (pageBase page + 0x0C) v).pgCtrlWritten ⟨k, i, pageBase page⟩ v (s.hits path (pageBase page + 0x0C) v) := by
    unfold State.writeWord State.put State.hits
    simp only [here, window, offset, header, Bool.and_false, Bool.false_eq_true, if_false]
    rfl
  rw [State.regSet_word hf (.inl notReset), State.pulsesWritten_out (by omega), word]

variable {t : State} {f : Fld → Bool}

/-- Of the four bits of PG_CTRL only one is touched. -/
def OnlyTouches (f : Fld → Bool) (x : Fld) : Prop :=
  ∀ g ∈ [HDR.ENABLE, HDR.QUIESCE, HDR.ISOLATE, HDR.SOFT_RESET], f g = decide (g = x)

theorem OnlyTouches.bits {x : Fld} (h : OnlyTouches f x) (enable quiesce isolate soft : Bool)
    (e : [HDR.ENABLE, HDR.QUIESCE, HDR.ISOLATE, HDR.SOFT_RESET].map (fun g => decide (g = x)) = [enable, quiesce, isolate, soft]) :
    f HDR.ENABLE = enable ∧ f HDR.QUIESCE = quiesce ∧ f HDR.ISOLATE = isolate ∧ f HDR.SOFT_RESET = soft := by
  simp only [List.map_cons, List.map_nil, List.cons.injEq, and_true] at e
  obtain ⟨he, hq, hi, hs⟩ := e
  exact ⟨(h _ (by simp)).trans he, (h _ (by simp)).trans hq, (h _ (by simp)).trans hi, (h _ (by simp)).trans hs⟩

theorem State.pgCtrlWritten_softReset (only : OnlyTouches f HDR.SOFT_RESET) (on : bitOf v 3 = true) :
    t.pgCtrlWritten p v f = t.softReset p := by
  obtain ⟨enable, quiesce, isolate, soft⟩ := only.bits false false false true (by decide)
  unfold State.pgCtrlWritten
  simp [enable, quiesce, isolate, soft, on]

/-- A page that drains is not enabled by it. -/
theorem State.accepts_drainPage (t : State) (b : Nat) : (t.drainPage b).accepts b = t.accepts b := by
  unfold State.drainPage
  split <;> rfl

theorem State.pgCtrlWritten_disable (only : OnlyTouches f HDR.ENABLE) (off : bitOf v 0 = false)
    (cleared : t.flag p.base HDR.ENABLE = false) : t.pgCtrlWritten p v f = t.drainPage p.base := by
  obtain ⟨enable, quiesce, isolate, soft⟩ := only.bits true false false false (by decide)
  have shut : (t.drainPage p.base).accepts p.base = false := by
    rw [State.accepts_drainPage, State.accepts, cleared]
    rfl
  unfold State.pgCtrlWritten
  simp [enable, quiesce, isolate, soft, off, shut]

theorem State.pgCtrlWritten_quiesce (only : OnlyTouches f HDR.QUIESCE) (on : bitOf v 1 = true)
    (set : t.flag p.base HDR.QUIESCE = true) : t.pgCtrlWritten p v f = t.drainPage p.base := by
  obtain ⟨enable, quiesce, isolate, soft⟩ := only.bits false true false false (by decide)
  have shut : (t.drainPage p.base).accepts p.base = false := by
    rw [State.accepts_drainPage, State.accepts, set]
    simp
  unfold State.pgCtrlWritten
  simp [enable, quiesce, isolate, soft, on, shut]

theorem State.pgCtrlWritten_unisolate (only : OnlyTouches f HDR.ISOLATE) (off : bitOf v 2 = false) :
    t.pgCtrlWritten p v f = t.isolateWritten p false := by
  obtain ⟨enable, quiesce, isolate, soft⟩ := only.bits false false true false (by decide)
  unfold State.pgCtrlWritten
  simp [enable, quiesce, isolate, soft, off]

end PgCtrl

/-! The chip, the clocks, the bands, the power state -/

/-- A write of the reset word: 0xA5A5 asks for a reset with the hand-over first, 0x5A5A for one at once (R62). -/
theorem State.writeWord_chipReset (s : State) (path : Path) (v : Nat) :
    s.writeWord path (chipPage + 0x70) v =
      if v = 0xA5A5 then s.resetHandover else if v = 0x5A5A then s.chipReset 1 else s := by
  have page : pageAt (chipPage + 0x70) = some chipRef := by decide +kernel
  have fields : (fieldsAt (chipPage + 0x70)).isEmpty = false := by decide +kernel
  have plain : s.put path (chipPage + 0x70) v = s := State.put_of_plain page (by decide +kernel)
  have word : s.writeWord path (chipPage + 0x70) v =
      (s.put path (chipPage + 0x70) v).wrote path chipRef 0x70 v (s.hits path (chipPage + 0x70) v) s := by
    have offset : chipPage + 0x70 - chipRef.base = 0x70 := rfl
    have own : (chipRef.kind.hasHeader && decide (0x70 < 0x40)) = false := by decide
    unfold State.writeWord State.put State.hits
    simp only [page, fields, offset, own, Bool.false_and, Bool.false_eq_true, if_false]
  rw [word, plain]
  simp [State.wrote, chipRef]

theorem exec_chipResetHandover_passes (h : s.Passes path (chipPage + 0x70) 0xA5A5) :
    exec (.chipResetHandover path) s = answered path (chipPage + 0x70) s.resetHandover := by
  refine (State.regSet_word h (.inr (by decide))).trans ?_
  rw [State.pulsesWritten_out (by decide), State.writeWord_chipReset, if_pos rfl]

theorem exec_chipResetImmediate_passes (h : s.Passes path (chipPage + 0x70) 0x5A5A) :
    exec (.chipResetImmediate path) s = .next (s.chipReset 1).settle := by
  have tried : s.tryWrite path [(chipPage + 0x70, 0x5A5A)] = (none, s.chipReset 1) := by
    simp only [State.tryWrite, State.firstFault, h.allowed, State.writeWords, and_self, if_true, List.map_cons, List.map_nil]
    rw [State.pulsesWritten_out (by decide), State.writeWord_chipReset, if_neg (by decide), if_pos rfl]
  refine congrArg done ?_
  unfold State.regWrite
  simp only [h.live, h.still, h.alone, Bool.not_true, Bool.false_eq_true, if_false, Option.isSome_none, Bool.or_false]
  unfold State.finishWrite
  simp only [tried]
  simp

theorem exec_islRstReq_passes {k : Fin 64} (h : s.Passes path (ckPage + 0x60) k.val) :
    exec (.islRstReq path k) s = answered path (ckPage + 0x60) (s.islandReset k.val) := by
  have word : pulseWord (ckPage + 0x60) ⟨.ck, 0, ckPage⟩ = true := by decide +kernel
  refine (State.regSet_pulse h word).trans ?_
  rw [← congrArg s.islandReset (Nat.mod_eq_of_lt k.isLt)]
  rfl

theorem State.regSet_fmon (start : s.hits path (ckPage + 0x54) v CK.FMON_START = true) (on : bitOf v 31 = true)
    (h : s.Passes path (ckPage + 0x54) v) :
    s.regSet path (ckPage + 0x54) v = answered path (ckPage + 0x54) (s.put path (ckPage + 0x54) v).fmonStart := by
  have word : ownWord (ckPage + 0x54) ⟨.ck, 0, ckPage⟩ = true := by decide +kernel
  refine (State.regSet_own h word).trans (congrArg (answered _ _) ?_)
  rw [Nat.add_sub_cancel_left]
  simp [State.wrote, start, on]

/-- A write of a band's ADAPT_CMD that passes: the bits that are set act. -/
theorem State.regSet_adapt {h : HeadIx} (hp : s.Passes path (bandPage h.val + 0x7C) v) :
    s.regSet path (bandPage h.val + 0x7C) v = answered path (bandPage h.val + 0x7C)
      (let t := s.put path (bandPage h.val + 0x7C) v
       let u := if bitOf v 0 then t.bandReload h.val else t
       if bitOf v 2 then u.bandReacq h.val else u) := by
  have word : ∀ h : Fin 33, ownWord (bandPage h.val + 0x7C) ⟨.band, h.val, bandPage h.val⟩ = true := by decide +kernel
  rw [State.regSet_own hp (word h), Nat.add_sub_cancel_left]
  rfl

theorem exec_psReq_passes {value : Fin 8} (h : s.Passes path (nvmePage + 0x4C) (value.val * 2 ^ 4)) :
    exec (.psReq path value) s =
      answered path (nvmePage + 0x4C) (s.put path (nvmePage + 0x4C) (value.val * 2 ^ 4)).psReqWritten := by
  have word : ownWord (nvmePage + 0x4C) ⟨.nvme, 0, nvmePage⟩ = true := by decide +kernel
  exact State.regSet_own h word

/-- Ports whose enable is touched and cleared close their sessions. -/
def State.portsClosed (u : State) (t : Fld → Bool) (v : Nat) : State :=
  let u := if t STEBARO.EN_M && !bitOf v 0 then u.closePortSessions 3 else u
  let u := if t STEBARO.EN_P0 && !bitOf v 1 then u.closePortSessions 0 else u
  if t STEBARO.EN_P1 && !bitOf v 2 then u.closePortSessions 1 else u

theorem State.regSet_stebaro (hp : s.Passes path (stebaroPage + 0x40) v) :
    s.regSet path (stebaroPage + 0x40) v = answered path (stebaroPage + 0x40)
      ((s.put path (stebaroPage + 0x40) v).portsClosed (s.hits path (stebaroPage + 0x40) v) v) := by
  have word : ownWord (stebaroPage + 0x40) ⟨.stebaro, 0, stebaroPage⟩ = true := by decide +kernel
  exact State.regSet_own hp word

section
variable {u : State} {t : Fld → Bool}

theorem State.portsClosed_m (only : ∀ g ∈ [STEBARO.EN_M, STEBARO.EN_P0, STEBARO.EN_P1], t g = decide (g = STEBARO.EN_M))
    (off : bitOf v 0 = false) : u.portsClosed t v = u.closePortSessions 3 := by
  have m : t STEBARO.EN_M = true := (only _ (by simp)).trans (by decide)
  have p0 : t STEBARO.EN_P0 = false := (only _ (by simp)).trans (by decide)
  have p1 : t STEBARO.EN_P1 = false := (only _ (by simp)).trans (by decide)
  simp [State.portsClosed, m, p0, p1, off]

theorem State.portsClosed_p0 (only : ∀ g ∈ [STEBARO.EN_M, STEBARO.EN_P0, STEBARO.EN_P1], t g = decide (g = STEBARO.EN_P0))
    (off : bitOf v 1 = false) : u.portsClosed t v = u.closePortSessions 0 := by
  have m : t STEBARO.EN_M = false := (only _ (by simp)).trans (by decide)
  have p0 : t STEBARO.EN_P0 = true := (only _ (by simp)).trans (by decide)
  have p1 : t STEBARO.EN_P1 = false := (only _ (by simp)).trans (by decide)
  simp [State.portsClosed, m, p0, p1, off]

theorem State.portsClosed_p1 (only : ∀ g ∈ [STEBARO.EN_M, STEBARO.EN_P0, STEBARO.EN_P1], t g = decide (g = STEBARO.EN_P1))
    (off : bitOf v 2 = false) : u.portsClosed t v = u.closePortSessions 1 := by
  have m : t STEBARO.EN_M = false := (only _ (by simp)).trans (by decide)
  have p0 : t STEBARO.EN_P0 = false := (only _ (by simp)).trans (by decide)
  have p1 : t STEBARO.EN_P1 = true := (only _ (by simp)).trans (by decide)
  simp [State.portsClosed, m, p0, p1, off]

end

end

/-- Settles O25: each command writes one word, and the rule of its page says what the word sets going; a register write
then meets what the hardware sets (R13). -/
theorem headerAndChipCommands : Obligations.HeaderAndChipCommands := by
  intro path s
  refine ⟨fun page p hp => ⟨?_, ?_, ?_, ?_⟩, exec_chipResetHandover_passes, exec_chipResetImmediate_passes, fun k _ => exec_islRstReq_passes,
    fun start => State.regSet_fmon start (bitOf_setBit_self ..), fun h => ⟨?_, ?_⟩, fun _ => exec_psReq_passes, ⟨?_, ?_, ?_⟩, fun addr value other passes sets => ?_⟩
  · exact fun only passes => (State.regSet_pgCtrl hp passes).trans
      (congrArg (answered _ _) (State.pgCtrlWritten_softReset only (bitOf_setBit_self ..)))
  · exact fun only passes cleared => (State.regSet_pgCtrl hp passes).trans
      (congrArg (answered _ _) (State.pgCtrlWritten_disable only (bitOf_setBit_self ..) cleared))
  · exact fun only passes set => (State.regSet_pgCtrl hp passes).trans
      (congrArg (answered _ _) (State.pgCtrlWritten_quiesce only (bitOf_setBit_self ..) set))
  · exact fun only passes => (State.regSet_pgCtrl hp passes).trans
      (congrArg (answered _ _) (State.pgCtrlWritten_unisolate only (bitOf_setBit_self ..)))
  · intro calm passes
    refine (State.regSet_adapt passes).trans (congrArg (answered _ _) ?_)
    rw [calm, bitOf_setBit_self]
    rfl
  · intro calm passes
    refine (State.regSet_adapt passes).trans (congrArg (answered _ _) ?_)
    rw [calm, bitOf_setBit_self]
    rfl
  · exact fun only passes => (State.regSet_stebaro passes).trans
      (congrArg (answered _ _) (State.portsClosed_m only (bitOf_setBit_self ..)))
  · exact fun only passes => (State.regSet_stebaro passes).trans
      (congrArg (answered _ _) (State.portsClosed_p0 only (bitOf_setBit_self ..)))
  · exact fun only passes => (State.regSet_stebaro passes).trans
      (congrArg (answered _ _) (State.portsClosed_p1 only (bitOf_setBit_self ..)))
  · have powered : s.svc.held = .no := of_decide_eq_true (Bool.and_eq_true_iff.1 passes.live).1
    refine (if_neg (Classical.not_not.2 powered)).trans (congrArg (fun t => done (State.setMeets t addr sets.toNat)) ?_)
    exact State.regWrite_word passes (.inl other)

end Sys2Proof.Machine

/-!
SUPPORT. The mailbox (R513, R535): a message as the words of MBOX_IN, and its type and length read back from its bytes.
-/
namespace Sys2Proof.Machine

/-! Messages -/

theorem ofBytesLE_bytesLE (w n : Nat) : ofBytesLE (bytesLE w n) = n % 256 ^ w := by
  induction w generalizing n with
  | zero => simp [bytesLE, ofBytesLE, Nat.mod_one]
  | succ w ih =>
    rw [bytesLE, ofBytesLE, ih, Nat.mod_mod, Nat.pow_succ', Nat.mod_mul]

theorem bytesLE_length (w n : Nat) : (bytesLE w n).length = w := by
  induction w generalizing n with
  | zero => rfl
  | succ w ih => rw [bytesLE, List.length_cons, ih]

section Message
variable {ty : Nat} {body rest : List Nat}

/-- A message starts with its type. -/
theorem mboxMsg_type (ht : ty < 256 ^ 2) : ofBytesLE ((mboxMsg ty body ++ rest).take 2) = ty := by
  have start : (mboxMsg ty body ++ rest).take 2 = bytesLE 2 ty := by
    rw [mboxMsg, List.append_assoc, List.append_assoc]
    exact List.take_left' (bytesLE_length 2 ty)
  rw [start, ofBytesLE_bytesLE, Nat.mod_eq_of_lt ht]

theorem mboxMsg_drop_type : (mboxMsg ty body ++ rest).drop 2 = bytesLE 2 body.length ++ (body ++ rest) := by
  rw [mboxMsg, List.append_assoc, List.append_assoc]
  exact List.drop_left' (bytesLE_length 2 ty)

/-- After its type stands its length. -/
theorem mboxMsg_length (hb : body.length < 256 ^ 2) : ofBytesLE (((mboxMsg ty body ++ rest).drop 2).take 2) = body.length := by
  rw [mboxMsg_drop_type, List.take_left' (bytesLE_length 2 _), ofBytesLE_bytesLE, Nat.mod_eq_of_lt hb]

theorem mboxMsg_body : ((mboxMsg ty body ++ rest).drop 4).take body.length = body := by
  rw [show 4 = 2 + 2 from rfl, ← List.drop_drop, mboxMsg_drop_type, List.drop_left' (bytesLE_length 2 _), List.take_left' rfl]

/-- What the management cores do with a body of each type (R535). -/
def State.mboxTake (u : State) (peer body : List Nat) (ty : Nat) : State :=
  match ty with
  | 0x0001 => u.mboxOffer peer body
  | 0x0003 => u.mboxWrap body
  | 0x0010 => u.mboxPsk body
  | 0x0011 => u.mboxPskDel body
  | 0x0020 => u.mboxRestore body
  | 0x0021 => u.mboxErase body
  | _ => u.mboxEnd 1 []

/-- A message is taken with the type and the body that it was sent with. -/
theorem State.mboxGo_message {u : State} (peer : List Nat) (hb : body.length ≤ 1020) (ht : ty < 256 ^ 2)
    (holds : ((List.range 256).flatMap fun i => bytesLE 4 (u.fld tePage TE.MBOX_IN i)) = mboxMsg ty body ++ rest) :
    u.mboxGo peer = u.mboxTake peer body ty := by
  unfold State.mboxGo
  simp only [holds, mboxMsg_type ht, mboxMsg_length (Nat.lt_of_le_of_lt hb (by decide)), mboxMsg_body, Nat.not_lt.2 hb, if_false]
  rfl

end Message

/-! Sending -/

/-- The words of MBOX_IN that hold a message. -/
def mboxWords (ty : Nat) (body : List Nat) : List (Nat × Nat) :=
  ((wordsLE (mboxMsg ty body)).take 256).zipIdx.map fun x => (tePage + 0x800 + 4 * x.2, x.1)

theorem mem_mboxWords {ty : Nat} {body : List Nat} {w : Nat × Nat} (h : w ∈ mboxWords ty body) :
    tePage + 0x800 ≤ w.1 ∧ w.1 < tePage + 0xC00 := by
  obtain ⟨⟨v, i⟩, there, rfl⟩ := List.mem_map.1 h
  have below := (List.mem_zipIdx' there).1
  rw [List.length_take] at below
  have : i < 256 := Nat.lt_of_lt_of_le below (Nat.min_le_left ..)
  dsimp only
  omega

/-- A message begins at the first word of MBOX_IN. -/
theorem mboxWords_head (ty : Nat) (body : List Nat) : ∃ v r, mboxWords ty body = (tePage + 0x800, v) :: r := ⟨_, _, rfl⟩

/-- Writes of several words end with the last, where none of them resets the chip. -/
theorem State.writeWords_append {path : Path} {s : State} (xs : List (Nat × Nat)) (a v : Nat)
    (h : ∀ x ∈ xs, x.1 ≠ chipPage + 0x70) : s.writeWords path (xs ++ [(a, v)]) = (s.writeWords path xs).writeWord path a v := by
  induction xs generalizing s with
  | nil => simp only [List.nil_append, State.writeWords, ite_self]
  | cons x xs ih =>
    obtain ⟨b, w⟩ := x
    have other : ¬(b = chipPage + 0x70 ∧ w = 0x5A5A) := fun e => h (b, w) List.mem_cons_self e.1
    simp only [List.cons_append, State.writeWords, other, if_false]
    exact ih fun y hy => h y (List.mem_cons_of_mem _ hy)

section Send
variable {s : State} {path : Path} {ty : Nat} {body : List Nat}

/-- A message that passes is one write of MBOX_IN and GO. -/
theorem State.mboxSend_passes (passes : s.PassesAll path (mboxWords ty body ++ [(tePage + 0x100, 1)])) :
    s.mboxSend path ty body =
      answered path (tePage + 0x800) ((s.writeWords path (mboxWords ty body)).writeWord path (tePage + 0x100) 1) := by
  have place : ∀ x ∈ mboxWords ty body ++ [(tePage + 0x100, 1)], tePage ≤ x.1 ∧ x.1 < tePage + 0xC00 := by
    intro x hx
    rcases List.mem_append.1 hx with h | h
    · obtain ⟨low, high⟩ := mem_mboxWords h
      exact ⟨Nat.le_trans (Nat.le_add_right ..) low, high⟩
    · rw [List.mem_singleton.1 h]
      dsimp only
      omega
  have noReset : (chipPage + 0x70, 0x5A5A) ∉ mboxWords ty body ++ [(tePage + 0x100, 1)] :=
    fun h => absurd (place _ h).1 (by decide)
  have noTable : ∀ u : State, u.pulsesWritten ((mboxWords ty body ++ [(tePage + 0x100, 1)]).map Prod.fst) = u := by
    intro u
    have out : ((mboxWords ty body ++ [(tePage + 0x100, 1)]).map Prod.fst).filter
        (fun a => decide (0x240000 ≤ a ∧ a < 0x261000)) = [] := by
      refine List.filter_eq_nil_iff.2 fun a ha => ?_
      obtain ⟨x, hx, rfl⟩ := List.mem_map.1 ha
      have := place x hx
      simp only [tePage] at this
      rw [decide_eq_true_eq]
      omega
    simp only [State.pulsesWritten, out]
    rfl
  have words : s.writeWords path (mboxWords ty body ++ [(tePage + 0x100, 1)]) = _ := State.writeWords_append _ _ _ fun x hx => by
    have := (place x (List.mem_append_left _ hx)).1
    simp only [tePage, chipPage] at this ⊢
    omega
  obtain ⟨v, r, first⟩ := mboxWords_head ty body
  have sent := State.regWrite_passes (f := .plain) passes noReset
  have head : ((mboxWords ty body ++ [(tePage + 0x100, 1)]).map Prod.fst).headD 0 = tePage + 0x800 := by
    rw [first, List.cons_append, List.map_cons, List.headD_cons]
  rw [noTable, words] at sent
  simp only [State.answerWrite, head] at sent
  exact congrArg done sent

end Send

/-- Settles O23: a message is sent as one write, and its type and length are read back from the bytes that it is. -/
theorem mailboxCommandsReachTheirMessage : Obligations.MailboxCommandsReachTheirMessage := by
  refine ⟨fun path body s => ?_, fun u peer body rest short => ?_⟩
  · intro ws sent
    have sends (ty : Nat) (live : s.pathLive path = true) (still : s.transferring (ws ty ++ [(tePage + 0x100, 1)]) = none)
        (alone : behind (ws ty ++ [(tePage + 0x100, 1)]) s.arb.waiting = false)
        (allowed : s.firstFault path 0 (ws ty ++ [(tePage + 0x100, 1)]) = none) :=
      State.mboxSend_passes (s := s) (path := path) (ty := ty) (body := body) ⟨live, still, alone, allowed⟩
    exact ⟨sends _, sends _, sends _, sends _, sends _, sends _⟩
  · intro holds
    exact ⟨State.mboxGo_message peer short (by decide), State.mboxGo_message peer short (by decide),
      State.mboxGo_message peer short (by decide), State.mboxGo_message peer short (by decide),
      State.mboxGo_message peer short (by decide), State.mboxGo_message peer short (by decide)⟩

end Sys2Proof.Machine

/-!
SUPPORT. The crossings, one rule for each command of a control-class crossing that leaves something behind (R40, R41).
-/
namespace Sys2Proof.Machine
section
variable {x : Crossing} {s : State}

/-- A value written becomes the current one, whatever the crossing does; it is launched at once where the crossing
rests, and becomes the pending update while a transfer is pending. -/
theorem exec_controlValueWrite_leaves (v : Nat) : ∃ t, exec (.controlValueWrite x v) s = .next t ∧
    (t.ctl (xingKey x)).cur = v ∧ (t.ctl (xingKey x)).recv = (s.ctl (xingKey x)).recv ∧
    ((s.ctl (xingKey x)).resync = false → (s.ctl (xingKey x)).flight = none → (t.ctl (xingKey x)).flight = some (v, false)) ∧
    (∀ f, (s.ctl (xingKey x)).resync = false → (s.ctl (xingKey x)).flight = some f →
      (t.ctl (xingKey x)).flight = some f ∧ (t.ctl (xingKey x)).update = some v) := by
  change ∃ t, execControlValueWrite x v s = .next t ∧ _
  unfold execControlValueWrite
  cases resync : (s.ctl (xingKey x)).resync with
  | true =>
    simp only [resync, if_true]
    exact ⟨_, rfl, by simp⟩
  | false =>
    cases flight : (s.ctl (xingKey x)).flight with
    | none =>
      simp only [resync, flight, Bool.false_eq_true, if_false]
      exact ⟨_, rfl, by simp⟩
    | some f =>
      simp only [resync, flight, Bool.false_eq_true, if_false]
      exact ⟨_, rfl, by simp⟩

theorem exec_controlCapture_leaves {v : Nat} (pending : (s.ctl (xingKey x)).flight = some (v, false)) :
    ∃ t, exec (.controlCapture x) s = .next t ∧
      (t.ctl (xingKey x)).recv = v ∧ (t.ctl (xingKey x)).stale = false ∧ (t.ctl (xingKey x)).flight = some (v, true) := by
  change ∃ t, execControlCapture x s = .next t ∧ _
  unfold execControlCapture
  simp only [pending]
  exact ⟨_, rfl, by simp⟩

theorem exec_controlAckArrival_leaves {v : Nat} (captured : (s.ctl (xingKey x)).flight = some (v, true)) :
    ∃ t, exec (.controlAckArrival x) s = .next t ∧ (t.ctl (xingKey x)).update = none ∧
      (t.ctl (xingKey x)).flight = (s.ctl (xingKey x)).update.map fun u => (u, false) := by
  change ∃ t, execControlAckArrival x s = .next t ∧ _
  unfold execControlAckArrival
  simp only [captured]
  exact ⟨_, rfl, by simp⟩

/-- Of two sides that one at least resets, not both stand. -/
theorem sides_some {sides : Sides} (h : sides.src = true ∨ sides.dst = true) : ¬((!sides.src) = true ∧ (!sides.dst) = true) := by
  rintro ⟨src, dst⟩
  rw [Bool.not_eq_true'] at src dst
  rw [src, dst] at h
  exact h.elim Bool.false_ne_true Bool.false_ne_true

/-- Of two sides that both run, neither stands. -/
theorem sides_run (src : s.islRun x.src.val = true) (dst : s.islRun x.dst.val = true) :
    ¬((!s.islRun x.src.val) = true ∨ (!s.islRun x.dst.val) = true) := by
  rw [src, dst]
  simp

end

/-- Settles O31: each command of a crossing goes by whether the crossing resynchronises and by what is in flight. -/
theorem crossingCommands : Obligations.CrossingCommands := by
  refine ⟨fun x s => ?_, fun x s => ?_⟩
  · exact ⟨exec_controlValueWrite_leaves, fun _ => exec_controlCapture_leaves, fun _ => exec_controlAckArrival_leaves,
      fun _ some' => if_neg (sides_some some'), fun src dst resync => (if_neg (sides_run src dst)).trans (if_pos resync)⟩
  · refine ⟨fun item calm room => ?_, fun v r first => ⟨fun other => ?_, fun spine busy => ?_⟩,
      fun _ some' => if_neg (sides_some some'), fun src dst resync => (if_neg (sides_run src dst)).trans (if_pos resync)⟩
    · exact if_neg (not_or.2 ⟨Bool.eq_false_iff.1 calm, Nat.not_lt.2 room⟩)
    · change execDataItemReadable x s = _
      simp only [execDataItemReadable, first, other, if_false]
      rfl
    · change execDataItemReadable x s = _
      simp only [execDataItemReadable, first, spine, busy, if_true, Bool.false_eq_true, if_false]
      rfl

end Sys2Proof.Machine

/-!
SUPPORT. The frequency monitor's result is a field, and holds no count above its width (R67).
-/
namespace Sys2Proof.Machine

-- The kernel decides facts below: one at a time, and not each in a thread of its own that waits for all before it.
set_option Elab.async false

/-- A count of the monitor above its field's width: the field keeps its low bits. -/
theorem exec_fmonResult_wraps {s : State} (runs : s.arb.fmon ≠ none) (khz : Nat) :
    ∃ t, exec (.fmonResult khz) s = .next t ∧ t.fld ckPage CK.FMON_KHZ = khz % 2 ^ CK.FMON_KHZ.width := by
  obtain ⟨gate, running⟩ := Option.ne_none_iff_exists'.1 runs
  have keys : fldKey ckPage CK.FMON_KHZ 0 ∉ settleKeys ∧ fldKey ckPage CK.FMON_KHZ 0 ≠ fldKey ckPage CK.FMON_VALID 0 ∧
      fldKey ckPage CK.FMON_KHZ 0 ≠ fldKey ckPage CK.FMON_START 0 := by decide +kernel
  obtain ⟨settles, valid, start⟩ := keys
  change ∃ t, execFmonResult khz s = .next t ∧ _
  simp only [execFmonResult, running]
  refine ⟨_, rfl, ?_⟩
  rw [State.settle_fld _ settles]
  change (((s.setFld ckPage CK.FMON_KHZ khz).setFld ckPage CK.FMON_VALID 1).setFld ckPage CK.FMON_START 0).fld ckPage CK.FMON_KHZ = _
  exact (State.fld_setFld_ne _ _ start).trans ((State.fld_setFld_ne _ _ valid).trans (State.fld_setFld_self ..))

/-- Refutes O30: a result of 2^31 kHz, while the monitor runs, leaves FMON_KHZ at 0. -/
theorem not_clockAndObjectResetCommands : ¬ Obligations.ClockAndObjectResetCommands := by
  rintro ⟨clocks, -⟩
  let s : State := State.reset.setArb { State.reset.arb with fmon := some 0 }
  have runs : s.arb.fmon ≠ none := nofun
  obtain ⟨t, ran, shows, -⟩ := (clocks s).1 (2 ^ CK.FMON_KHZ.width) runs
  obtain ⟨u, ran', wraps⟩ := exec_fmonResult_wraps runs (2 ^ CK.FMON_KHZ.width)
  obtain rfl : t = u := by
    rw [ran] at ran'
    injection ran'
  rw [shows] at wraps
  exact absurd wraps (by decide)

end Sys2Proof.Machine

/-!
SUPPORT. Subscriptions and their EVENTs, and what a session leaves when it closes (R75, R76, R85, R86).
-/
namespace Sys2Proof.Machine
section
variable {s : State} {sid : SessionIx}

theorem State.subOf_setSub_self {i : Nat} (open' : (s.session i).isSome = true) (v : Option Sub) :
    (s.setSub i v).subOf i = v := by
  obtain ⟨x, hx⟩ := Option.isSome_iff_exists.1 open'
  simp only [State.setSub, hx, State.subOf, State.session_setSession_self, Option.bind_some]

/-- A session with a subscription is open. -/
theorem State.subOf_open {u : Sub} {i : Nat} (h : s.subOf i = some u) : (s.session i).isSome = true := by
  obtain ⟨x, hx, -⟩ := Option.bind_eq_some_iff.1 h
  rw [hx]
  rfl

theorem State.setSub_out (i : Nat) (v : Option Sub) : (s.setSub i v).out = s.out := by
  unfold State.setSub
  split <;> rfl

@[simp] theorem State.settle_subOf (i : Nat) : s.settle.subOf i = s.subOf i := by
  simp only [State.subOf, State.session, State.settle_sess]

section Subscribe
variable {hdr : SbHeader} {f : SubFilter} (new : s.NewRequest sid { hdr with opcode := 6 } 4) (reserved : f.reserved = 0)
  (selectors : f.selectors < 4)
include new reserved

theorem exec_subscribe_none (nothing : f.selectors = 0) :
    exec (.subscribe sid hdr f) s = .next (((s.sbHeard sid).setSub sid.val none).sbRespond sid { hdr with opcode := 6 } 0 0 []).settle := by
  have formed : ¬(f.reserved ≠ 0 ∨ f.selectors / 4 ≠ 0) := by omega
  exact congrArg done ((State.sbRequest_new new).trans ((if_neg formed).trans (if_pos nothing)))

variable (something : f.selectors ≠ 0)
include selectors something

theorem exec_subscribe_room (room : sid.val ∈ (s.sbHeard sid).subscribed ∨ (s.sbHeard sid).subscribed.length < 8) :
    exec (.subscribe sid hdr f) s = .next (((s.sbHeard sid).setSub sid.val
      (some { filter := f, buffer := [], nextNo := 0, evTag := 0, unacked := [] })).sbRespond sid { hdr with opcode := 6 } 0 0 []).settle := by
  have formed : ¬(f.reserved ≠ 0 ∨ f.selectors / 4 ≠ 0) := by omega
  have free : ¬((!(s.sbHeard sid).subscribed.contains sid.val && decide (8 ≤ (s.sbHeard sid).subscribed.length)) = true) := by
    rw [Bool.and_eq_true, Bool.not_eq_true', decide_eq_true_eq]
    rintro ⟨out, full⟩
    rcases room with mine | room
    · rw [List.contains_iff_mem.2 mine] at out
      cases out
    · omega
  exact congrArg done ((State.sbRequest_new new).trans ((if_neg formed).trans ((if_neg something).trans (if_neg free))))

theorem exec_subscribe_full (out : sid.val ∉ (s.sbHeard sid).subscribed) (full : 8 ≤ (s.sbHeard sid).subscribed.length) :
    exec (.subscribe sid hdr f) s = .next ((s.sbHeard sid).sbNak sid { hdr with opcode := 6 } 0xB 0).settle := by
  have formed : ¬(f.reserved ≠ 0 ∨ f.selectors / 4 ≠ 0) := by omega
  have none' : (!(s.sbHeard sid).subscribed.contains sid.val && decide (8 ≤ (s.sbHeard sid).subscribed.length)) = true := by
    rw [Bool.and_eq_true, Bool.not_eq_true', decide_eq_true_eq]
    exact ⟨Bool.eq_false_iff.2 fun h => out (List.contains_iff_mem.1 h), full⟩
  exact congrArg done ((State.sbRequest_new new).trans ((if_neg formed).trans ((if_neg something).trans (if_pos none'))))

end Subscribe

theorem exec_eventAck_subscribed {tag : Nat} {u : Sub} (h : (s.sbTouch sid.val).subOf sid.val = some u) :
    exec (.eventAck sid tag) s = .next ((s.sbTouch sid.val).setSub sid.val
      (some { u with unacked := u.unacked.filter fun e => decide (e.1 ≠ tag) })).settle := by
  change execEventAck sid tag s = _
  simp only [execEventAck, h]
  rfl

/-- A subscription once its next EVENT is sent: what is packed has left the buffer, and waits under its tag. -/
def Sub.sent (u : Sub) (left : List SubEntry) (ws : List Nat) : Sub :=
  { u with buffer := left, evTag := (u.evTag + 1) % 2 ^ 16, unacked := u.unacked ++ [(u.evTag, ws)] }

theorem exec_eventSend_sends {u : Sub} (h : s.subOf sid.val = some u) (room : u.unacked.length < 8) (filled : u.buffer ≠ []) :
    exec (.eventSend sid) s =
      .next ((s.setSub sid.val (some (u.sent (s.nextEvent u).2 (wordsLE (s.nextEvent u).1)))).send
        (.sbDatagram sid (sbDatagram (eventHeader u.evTag (wordsLE (s.nextEvent u).1).length) (wordsLE (s.nextEvent u).1)))).settle := by
  have goes : ¬(8 ≤ u.unacked.length ∨ u.buffer.isEmpty = true) := not_or.2 ⟨Nat.not_le.2 room, fun e => filled (List.isEmpty_iff.1 e)⟩
  change execEventSend sid s = _
  simp only [execEventSend, h, goes, if_false]
  rfl

theorem exec_eventSend_full {u : Sub} (h : s.subOf sid.val = some u) (full : 8 ≤ u.unacked.length) :
    exec (.eventSend sid) s = .next s.settle := by
  change execEventSend sid s = _
  simp only [execEventSend, h, full, true_or, if_true]
  rfl

theorem exec_eventResend_found {u : Sub} {e : Nat × List Nat} {tag : Nat} (h : s.subOf sid.val = some u)
    (found : u.unacked.find? (fun e => decide (e.1 = tag)) = some e) :
    exec (.eventResend sid tag) s = .next (s.send (.sbDatagram sid (sbDatagram (eventHeader tag e.2.length) e.2))).settle := by
  change execEventResend sid tag s = _
  simp only [execEventResend, h, found]
  rfl

theorem exec_subscriptionCancel_waiting {u : Sub} (h : s.subOf sid.val = some u) (waits : u.unacked ≠ []) :
    exec (.subscriptionCancel sid) s = .next (((s.setSub sid.val none).istat stebaroPage 9).event stebaroPage 0x6201 2).settle := by
  have some' : u.unacked.isEmpty = false := Bool.eq_false_iff.2 fun e => waits (List.isEmpty_iff.1 e)
  change execSubscriptionCancel sid s = _
  simp only [execSubscriptionCancel, h, some', Bool.false_eq_true, if_false]
  rfl

/-! Sessions -/

section Handshake
variable {port : PortIx} {key : CertKey} {chain : List (List Nat)} {i : Nat} {r : Role} (known : key ≠ .other) (live : s.svc.held = .no)
  (served : s.served port.val = true) (ready : s.flag rdyPage RDY.STEBARO = true) (accepts : s.accepts stebaroPage = true)
  (place : (List.range 16).find? (fun k => (s.session k).isNone) = some i)
include known live served ready accepts place

theorem exec_dtlsHandshake_role
    (later : (decide (port.val = 3) && s.flag tePage TE.TE_STAT_OPEN && !s.flag tePage TE.ROLE_ANCHOR_VALID 0 && !chain.isEmpty) = false)
    (role : s.chainRole chain = some r) :
    exec (.dtlsHandshake port ⟨key, chain⟩) s = .next ((s.setSession i (some
      { port := port.val, role := r, cert := chain.headD [], sub := none, kept := [], lastDatagram := s.now })).istat stebaroPage 8).settle := by
  change execDtlsHandshake port ⟨key, chain⟩ s = _
  simp only [execDtlsHandshake, known, live, served, ready, accepts, ne_eq, not_true_eq_false, Bool.not_true, Bool.false_eq_true, or_self,
    if_false, place, later, role]
  rfl

theorem exec_dtlsHandshake_first
    (first : (decide (port.val = 3) && s.flag tePage TE.TE_STAT_OPEN && !s.flag tePage TE.ROLE_ANCHOR_VALID 0 && !chain.isEmpty) = true) :
    exec (.dtlsHandshake port ⟨key, chain⟩) s = .next (((s.bindAnchor (chain.headD [])).setSession i (some
      { port := port.val, role := .custodian, cert := chain.headD [], sub := none, kept := [], lastDatagram := s.now })).istat stebaroPage 8).settle := by
  change execDtlsHandshake port ⟨key, chain⟩ s = _
  simp only [execDtlsHandshake, known, live, served, ready, accepts, ne_eq, not_true_eq_false, Bool.not_true, Bool.false_eq_true, or_self,
    if_false, place, first, if_true]
  rfl

end Handshake

theorem State.session_setOqReading (k : Nat) (x : Option OqRead) (i : Nat) : (s.setOqReading k x).session i = s.session i := by
  unfold State.setOqReading
  dsimp only
  split
  · split <;> rfl
  · rfl

/-- A session that closes is gone, and so are the writes that wait for it. -/
theorem State.closeSession_gone {i : Nat} (open' : (s.session i).isSome = true) :
    (s.closeSession i).session i = none ∧ ∀ w ∈ (s.closeSession i).arb.waiting, pathKey w.path ≠ 2 + i := by
  obtain ⟨x, hx⟩ := Option.isSome_iff_exists.1 open'
  unfold State.closeSession
  simp only [hx]
  refine ⟨?_, fun w hw => of_decide_eq_true (List.mem_filter.1 hw).2⟩
  refine Eq.trans ?_ (s.session_setSession_self i none)
  exact State.session_setOqReading ..

theorem exec_sessionIdleTimeout_idle {x : Session} (hx : s.session sid.val = some x) (idle : x.lastDatagram + s.idleTimeout ≤ s.now) :
    exec (.sessionIdleTimeout sid) s = .next (s.closeSession sid.val).settle := by
  change execSessionIdleTimeout sid s = _
  simp only [execSessionIdleTimeout, hx, idle, if_true]
  rfl

/-! Waiting writes -/

theorem exec_writeReleasedAfterTransfer_first {w : HeldWrite} {r : List HeldWrite}
    (first : takeHeld (fun w => (s.transferring w.pairs).isNone) [] s.arb.waiting = some (w, r)) (live : s.pathLive w.path = true) :
    exec .writeReleasedAfterTransfer s = .next ((s.setArb { s.arb with waiting := r }).finishWrite w).settle := by
  have still : (s.setArb { s.arb with waiting := r }).pathLive w.path = true := live
  change execWriteReleasedAfterTransfer s = _
  simp only [execWriteReleasedAfterTransfer, first, still, if_true]
  rfl

theorem exec_writeTransferTimeout_late {w : HeldWrite} {n a m : Nat}
    (late : s.arb.waiting.find? (fun w => (s.transferring w.pairs).isSome && decide (w.arrival + 10000000 ≤ s.now)) = some w)
    (busy : s.transferring w.pairs = some (n, a, m)) (live : s.pathLive w.path = true) :
    exec .writeTransferTimeout s = .next (((s.setArb { s.arb with waiting := s.arb.waiting.erase w }).refuse (arbiterBase a) 4).answerWrite
      w (some (n, a, 4))).settle := by
  have still : (s.setArb { s.arb with waiting := s.arb.waiting.erase w }).pathLive w.path = true := live
  have busy' : (s.setArb { s.arb with waiting := s.arb.waiting.erase w }).transferring w.pairs = some (n, a, m) := busy
  change execWriteTransferTimeout s = _
  simp only [execWriteTransferTimeout, late, busy', still, if_true]
  rfl

end

/-- Settles O29: a request runs by its selectors and the room left, an EVENT by what waits, a handshake by the first
free place, and a waiting write by its transfer. -/
theorem subscriptionAndSessionCommands : Obligations.SubscriptionAndSessionCommands := by
  refine ⟨fun sid s => ⟨fun hdr f => ?_, fun tag u h => ⟨exec_eventAck_subscribed h, rfl⟩, fun u h => ⟨fun room some' => ?_, exec_eventSend_full h,
    fun e tag => exec_eventResend_found h, exec_subscriptionCancel_waiting h⟩⟩, fun s => ⟨fun port key chain i r known live served ready
      accepts place => ⟨exec_dtlsHandshake_role known live served ready accepts place, ?_⟩, fun port ok bytes live served bad => ?_, fun sid open' => ?_,
      fun w r => exec_writeReleasedAfterTransfer_first, fun w n a m => exec_writeTransferTimeout_late⟩⟩
  · exact fun new reserved selectors => ⟨exec_subscribe_none new reserved, exec_subscribe_room new reserved selectors,
      exec_subscribe_full new reserved selectors⟩
  · refine ⟨_, _, exec_eventSend_sends h room some', rfl, ?_, ?_⟩
    · rw [State.settle_out]
      exact congrArg (· ++ [_]) (State.setSub_out ..)
    · rw [State.settle_subOf]
      exact State.subOf_setSub_self (State.subOf_open h) _
  · rintro first rfl
    exact exec_dtlsHandshake_first known live served ready accepts place first
  · exact congrArg done (if_pos ⟨live, served, bad⟩)
  · obtain ⟨gone, waiting⟩ := State.closeSession_gone open'
    exact ⟨rfl, fun x => exec_sessionIdleTimeout_idle, gone, waiting⟩

end Sys2Proof.Machine

/-!
SUPPORT. Faults that climb from cell to region to chip, watchdogs, overload and poison: one rule for each way that a
command goes (R46-R48, R50, R439, R583, R584, R586).
-/
namespace Sys2Proof.Machine
section
variable {s : State}

/-! Faults -/

section Isolation
variable {r : RegionIx} {x : UpReport} {rest : List UpReport} (first : s.regionReports r.val = x :: rest)
include first

/-- A report that no reroute settles goes on to the chip. -/
theorem exec_blockIsolation_escalates (up : s.flag (regionPage r.val) REGION.CHIP_ESC_EN = true)
    (stays : x.whole = false ∨ s.flag (regionPage r.val) REGION.AUTO_REROUTE = false) :
    exec (.blockIsolation r) s =
      let t := if x.whole && s.flag (regionPage r.val) REGION.AUTO_ISOLATE then s.isolate r.val x.block else s
      let u := (t.setRegionReports r.val rest).istat (regionPage r.val) 9
      .next (u.setFlt { u.flt with chip := u.flt.chip ++ [x] }).settle := by
  have noReroute : ∀ t : State, (x.whole && s.flag (regionPage r.val) REGION.AUTO_REROUTE && t.otherCarries r.val x.block) = false := by
    intro t
    rcases stays with part | off
    · rw [part]; rfl
    · rw [off, Bool.and_false, Bool.false_and]
  change execBlockIsolation r s = _
  simp only [execBlockIsolation, first, noReroute, up, Bool.not_true, Bool.false_eq_true, if_false]
  rfl

/-- A whole block that another carries is rerouted. -/
theorem exec_blockIsolation_reroutes (whole : x.whole = true) (reroute : s.flag (regionPage r.val) REGION.AUTO_REROUTE = true) :
    let t := if s.flag (regionPage r.val) REGION.AUTO_ISOLATE then s.isolate r.val x.block else s
    t.otherCarries r.val x.block = true → exec (.blockIsolation r) s =
      .next (s.reportsTo (((t.regionCode r.val).2.setRegionReports r.val rest).event (regionPage r.val) (t.regionCode r.val).1 4 x.block)
        r.val).settle := by
  intro t carries
  dsimp only [t] at carries
  change execBlockIsolation r s = _
  simp only [execBlockIsolation, first, whole, reroute, Bool.true_and, carries, if_true]
  rfl

end Isolation

section Degrade
variable {x : UpReport} {rest : List UpReport} (first : s.flt.chip = x :: rest)
include first

theorem exec_chipDegrade_block (whole : x.whole = true) :
    exec .chipDegrade s =
      let u := (s.setFlt { s.flt with chip := rest }).blockLost x.region x.block
      .next ((s.reportsTo u.2 15).lastEsc x.region u.1).settle := by
  change execChipDegrade s = _
  simp only [execChipDegrade, first, whole, if_true]
  rfl

/-- The state in which a lost cell is on the chip's list. -/
def State.cellListed (s : State) (x : UpReport) (rest : List UpReport) : State :=
  let t := s.setFlt { s.flt with chip := rest }
  t.setFlt { t.flt with lost := t.flt.lost ++ [(x.region, x.block, x.cell)] }

variable (part : x.whole = false)
include part

theorem exec_chipDegrade_beam (head : x.region < 4) :
    exec .chipDegrade s = .next ((s.reportsTo (if x.cell < 16 then (s.cellListed x rest).beamLost (blockHead x.region x.block) x.cell
      else s.cellListed x rest).degraded 15).lastEsc x.region (headCode (blockHead x.region x.block) 0x202)).settle := by
  change execChipDegrade s = _
  simp only [execChipDegrade, first, part, head, Bool.false_eq_true, if_false, if_true]
  rfl

theorem exec_chipDegrade_ldpc (region : x.region = 4) (block : x.block = 0) :
    exec .chipDegrade s = .next ((s.reportsTo (((s.cellListed x rest).worsen ldpcPage HDR.DEGRADED).poolCapacity.degraded) 15).lastEsc
      x.region 0x4108).settle := by
  have notHead : ¬ x.region < 4 := by omega
  change execChipDegrade s = _
  simp only [execChipDegrade, first, part, notHead, Bool.false_eq_true, if_false]
  exact if_pos ⟨region, block⟩

theorem exec_chipDegrade_cell (region : 4 ≤ x.region) (other : ¬(x.region = 4 ∧ x.block = 0)) :
    exec .chipDegrade s = .next ((s.reportsTo ((s.cellListed x rest).cellLost x.region x.block).2.degraded 15).lastEsc x.region
      ((s.cellListed x rest).cellLost x.region x.block).1).settle := by
  change execChipDegrade s = _
  simp only [execChipDegrade, first, part, Nat.not_lt.2 region, other, Bool.false_eq_true, if_false]
  rfl

end Degrade

theorem exec_macResidueFail_mapped {lane : Fin 5} (mapped : s.fldBit ctrlengPage CTRLENG.CE_STAT_LANE_MAP lane.val = true) :
    exec (.macResidueFail lane) s =
      .next (s.reportsTo (((s.count ctrlengPage CTRLENG.DEADLINE_MISS).istat ctrlengPage 11).laneOut lane.val) 7).settle :=
  if_neg (by rw [mapped]; decide)

/-! Watchdogs and overload -/

section Watchdog
variable {core : Fin 10} (runs : s.coreSt core.val = coreRun)
include runs

/-- What an expiry leaves of the record of expiries. -/
def State.wdtListed (s : State) (core : Nat) : State :=
  let t := s.count mcPage MC.WDT_EXPIRED
  t.setSvc { t.svc with wdt := t.svc.wdt ++ [(core, t.poweredS)] }

/-- An expiry retires a core that has expired within the day, and resets any other. -/
theorem exec_watchdogExpiry_running :
    exec (.watchdogExpiry core) s = .next (s.reportsTo (if s.svc.wdt.any (fun e => decide (e.1 = core.val) && decide (s.poweredS < e.2 + 86400))
      then (s.wdtListed core.val).retireCore core.val else (s.wdtListed core.val).resetCore core.val) 8).settle :=
  if_neg (Classical.not_not.2 runs)

theorem exec_watchdogExpiry_again (again : ∃ e ∈ s.svc.wdt, e.1 = core.val ∧ s.poweredS < e.2 + 86400) :
    exec (.watchdogExpiry core) s = .next (s.reportsTo ((s.wdtListed core.val).retireCore core.val) 8).settle := by
  have seen : s.svc.wdt.any (fun e => decide (e.1 = core.val) && decide (s.poweredS < e.2 + 86400)) = true := by
    simpa [List.any_eq_true] using again
  rw [exec_watchdogExpiry_running runs, if_pos seen]

theorem exec_watchdogExpiry_once (once : ¬ ∃ e ∈ s.svc.wdt, e.1 = core.val ∧ s.poweredS < e.2 + 86400) :
    exec (.watchdogExpiry core) s = .next (s.reportsTo ((s.wdtListed core.val).resetCore core.val) 8).settle := by
  have unseen : ¬ s.svc.wdt.any (fun e => decide (e.1 = core.val) && decide (s.poweredS < e.2 + 86400)) = true := by
    simpa [List.any_eq_true] using once
  rw [exec_watchdogExpiry_running runs, if_neg unseen]

end Watchdog

/-- The state with its load shown. -/
def State.loadShown (s : State) (load : Nat) : State :=
  (s.setFld mcPage MC.LOAD_NOW (min load 1000)).peak mcPage MC.LOAD_PEAK (min load 1000)

theorem exec_overloadEnter_over {load : Nat} (heavy : 10 * (s.loadShown load).fldIn mcPage MC.WDT_CFG_OVL_ON 50 99 < min load 1000)
    (off : (s.loadShown load).flag mcPage MC.MC_STAT_OVERLOAD = false) :
    exec (.overloadEnter load) s =
      let u := (s.loadShown load).setSvc { (s.loadShown load).svc with ovlAt := (s.loadShown load).now }
      .next (((u.setFlag mcPage MC.MC_STAT_OVERLOAD true).istat mcPage 10).event mcPage 0x8803 3).testShow.settle :=
  if_neg (not_or.2 ⟨Nat.not_le.2 heavy, Bool.eq_false_iff.1 off⟩)

theorem exec_overloadLeave_under {load : Nat}
    (under : min load 1000 < 10 * (s.loadShown load).fldIn mcPage MC.WDT_CFG_OVL_OFF 30 (s.fldIn mcPage MC.WDT_CFG_OVL_ON 50 99))
    (on : (s.loadShown load).flag mcPage MC.MC_STAT_OVERLOAD = true)
    (held : (s.loadShown load).svc.ovlAt + 100000000 ≤ (s.loadShown load).now) :
    exec (.overloadLeave load) s =
      .next (((s.loadShown load).setFlag mcPage MC.MC_STAT_OVERLOAD false).istat mcPage 11).testShow.settle :=
  if_neg (not_or.2 ⟨Nat.not_le.2 under, not_or.2 ⟨fun e => Bool.eq_false_iff.1 (Bool.not_eq_true' _ ▸ e) on, Nat.not_lt.2 held⟩⟩)

/-! Poison -/

theorem exec_poisonConsumed_stagedRead {lane : Fin 4} {zone : Fin 300} {lba : Nat}
    (single : s.lbaMirrored (300 * lane.val + zone.val) lba = false) :
    exec (.poisonConsumed (.stagedRead lane zone lba)) s =
      let k := 300 * lane.val + zone.val
      let st := (List.range stripesPerZone).find? fun i => decide (lba < stripeFirstLba (s.zone k).width (i + 1))
      .next (((s.addInt k 8).rollback k (st.getD 0)).intAfter k 8 0).poisonLost.settle :=
  if_neg (Bool.eq_false_iff.1 single)

theorem exec_poisonConsumed_tcp {c : Nat} {k : Conn} (open' : s.conn c = some k) :
    exec (.poisonConsumed (.tcp c)) s =
      .next (((s.loseConn c 2).send (.tcp c false false false true k.sndNxt k.rcvNxt)).poisonLost).settle := by
  change execPoisonConsumed (.tcp c) s = _
  simp only [execPoisonConsumed, open']
  rfl

theorem exec_poisonConsumed_recorder {e : Record} {r : List Record} (last : s.recd.log.reverse = e :: r) :
    exec (.poisonConsumed .recorder) s =
      .next ((((s.withRec fun x => { x with log := r.reverse }).count erPage ER.DROP_CNT).istat erPage 9).poisonUsed).settle := by
  change execPoisonConsumed .recorder s = _
  simp only [execPoisonConsumed, last]
  rfl

theorem exec_poisonConsumed_queue {q : QueueIx} {i : OqItem} {r : List OqItem} (first : (s.oqueue q.val).items = i :: r) :
    exec (.poisonConsumed (.queue q)) s =
      .next (((s.setOqueue q.val { s.oqueue q.val with items := r }).poisonUsed).dropItem q.val i.qseq).settle := by
  change execPoisonConsumed (.queue q) s = _
  simp only [execPoisonConsumed, first]
  rfl

theorem exec_poisonConsumed_firedRead {c cid : Nat} {x : Ctx} {op k first n : Nat} (taken : s.ctx c cid = some x)
    (reads : x.work = .read op k first n) :
    exec (.poisonConsumed (.firedRead c cid)) s =
      let bs := s.readBlocks k first n
      let t := s.setPool { s.pool with released := s.pool.released.filter fun o => !(decide (o.why = .host) &&
        bs.any fun b => decide (o.head = b.1) && decide (o.blk = b.2.2) && decide (o.sa = s.placeOf b.1 b.2.1)) }
      .next (t.forEach bs fun u b => u.askBlock b.1 b.2.1 b.2.2).poisonOk.settle := by
  change execPoisonConsumed (.firedRead c cid) s = _
  simp only [execPoisonConsumed, taken, reads]
  rfl

end

/-- Settles O32: each command goes one way, by the report it finds, by the record of expiries, by the load, or by the
user of the poisoned word. -/
theorem faultAndOverloadCommands : Obligations.FaultAndOverloadCommands := by
  refine ⟨fun s => ⟨fun _ _ _ _ _ inside => congrArg done (if_pos inside), fun _ _ _ => rfl, fun r x rest => ?_, fun r x rest => ?_,
    fun x rest first part => ?_, fun x rest first => exec_chipDegrade_block first, fun _ => exec_macResidueFail_mapped, fun w c byTest cause => ?_⟩,
    fun s => ⟨fun core runs => ⟨exec_watchdogExpiry_again runs, exec_watchdogExpiry_once runs⟩,
      fun load => ⟨exec_overloadEnter_over, exec_overloadLeave_under⟩, fun use which => ?_, fun _ => rfl, fun _ _ => rfl, fun _ => rfl,
      fun _ _ _ _ => rfl, fun _ _ _ _ => rfl, fun _ _ _ => exec_poisonConsumed_stagedRead, fun _ _ => exec_poisonConsumed_tcp,
      fun _ _ => exec_poisonConsumed_recorder, fun _ _ _ => exec_poisonConsumed_queue,
      fun _ _ _ _ _ _ _ => exec_poisonConsumed_firedRead⟩⟩
  · exact fun first up stays => exec_blockIsolation_escalates first up stays
  · exact fun first whole reroute => exec_blockIsolation_reroutes first whole reroute
  · exact ⟨exec_chipDegrade_beam first part, exec_chipDegrade_ldpc first part, exec_chipDegrade_cell first part⟩
  · have found : (byTest || s.comparatorCause w.val c.val) = true := Bool.or_eq_true_iff.2 cause
    exact congrArg done (if_pos found)
  · rcases which with rfl | rfl | rfl | rfl <;> rfl

end Sys2Proof.Machine

/-!
SUPPORT. Frames of a link's lane (R133, R140, R141, R143, R146): what the lane shows decides where the frame goes.
-/
namespace Sys2Proof.Machine
section
variable {s : State} {h : HeadIx}

/-! Locks -/

theorem exec_blockLockGained_on {lane : LaneIx} {hdrs : List (Fin 4)}
    (on : ((s.lane h.val lane.val).seeHdrs hdrs).block = true ∨ ((s.lane h.val lane.val).seeHdrs hdrs).blockGains = true ∨ 9 ≤ lane.val) :
    exec (.blockLockGained h ⟨lane, hdrs⟩) s =
      .next ((s.setLane h.val lane.val { (s.lane h.val lane.val).seeHdrs hdrs with block := true }).bandClock h.val).settle := by
  have gains : (((s.lane h.val lane.val).seeHdrs hdrs).block || ((s.lane h.val lane.val).seeHdrs hdrs).blockGains || decide (9 ≤ lane.val)) = true := by
    simpa [or_assoc] using on
  change execBlockLockGained h ⟨lane, hdrs⟩ s = _
  simp only [execBlockLockGained, gains]
  rfl

theorem exec_blockLockLost_off {lane : LaneIx} {hdrs : List (Fin 4)}
    (off : ((s.lane h.val lane.val).seeHdrs hdrs).blockLoses = true ∨ 9 ≤ lane.val) :
    exec (.blockLockLost h ⟨lane, hdrs⟩) s = .next ((s.setLane h.val lane.val { (s.lane h.val lane.val).seeHdrs hdrs with
      block := false, frame := false, hdrs := [], good := 0, bad := 0 }).bandClock h.val).settle :=
  if_pos (by rwa [Bool.or_eq_true, decide_eq_true_eq])

theorem exec_blockLockLost_stays {lane : LaneIx} {hdrs : List (Fin 4)}
    (holds : ((s.lane h.val lane.val).seeHdrs hdrs).blockLoses = false) (data : lane.val < 9) :
    exec (.blockLockLost h ⟨lane, hdrs⟩) s = .next (s.setLane h.val lane.val ((s.lane h.val lane.val).seeHdrs hdrs)).settle :=
  if_neg (by rw [Bool.or_eq_true, decide_eq_true_eq]; exact not_or.2 ⟨Bool.eq_false_iff.1 holds, Nat.not_le.2 data⟩)

theorem exec_linkLaneFault_cause {lane : LaneIx} {why : LaneFault} (runs : s.linkState h.val = 5)
    (cause : s.laneCause h.val lane.val why = true) (first : s.laneFailed h.val lane.val = false) :
    exec (.linkLaneFault h lane why) s = .next (s.laneFault h.val lane.val).settle :=
  if_neg (by simp [runs, cause, first])

/-! Frames -/

section Frame
variable {lane : Fin 9} {f : UpFrame} {obs : ServoObs} (blocks : f.blocks.length = 34)
include blocks

theorem exec_upstreamFrame_unlocked (off : (s.lane h.val lane.val).block = false) :
    exec (.upstreamFrame h lane ⟨f, obs⟩) s = .next s.settle := by
  change execUpstreamFrame h lane ⟨f, obs⟩ s = _
  simp only [execUpstreamFrame, blocks, off, ne_eq, not_true_eq_false, if_false, Bool.not_false, if_true]
  rfl

/-- The lane once the frame's header is taken. -/
def State.laneHeard (s : State) (h lane : Nat) (f : UpFrame) : LaneSt :=
  s.laneFrame h (s.lane h lane) f (upWords (s.lane h lane).scr f).1 (upWords (s.lane h lane).scr f).2

/-- The state once the frame's header is taken: the lane and its place in the link's map, and a wrong CRC counted. -/
def State.frameHeard (s : State) (h lane : Nat) (f : UpFrame) : State :=
  let w := (upWords (s.lane h lane).scr f).1
  let t := (s.setLane h lane (s.laneHeard h lane f)).mapSeen h lane (s.laneHeard h lane f) w.crcOk
  if w.crcOk then t else t.count (headPage h) HEAD.UL_CRC_ERR

variable (on : (s.lane h.val lane.val).block = true)
include on

theorem exec_upstreamFrame_standby (nowhere : (s.laneHeard h.val lane.val f).lpos = none) :
    exec (.upstreamFrame h lane ⟨f, obs⟩) s = .next (s.frameHeard h.val lane.val f).settle := by
  unfold State.laneHeard at nowhere
  change execUpstreamFrame h lane ⟨f, obs⟩ s = _
  simp only [execUpstreamFrame, blocks, on, ne_eq, not_true_eq_false, if_false, Bool.not_true, Bool.false_eq_true, nowhere]
  rfl

theorem exec_upstreamFrame_joins {p : Nat} (place : (s.laneHeard h.val lane.val f).lpos = some p)
    (locked : (s.laneHeard h.val lane.val f).frame = true) (low : 3 ≤ (s.frameHeard h.val lane.val f).linkState h.val)
    (high : (s.frameHeard h.val lane.val f).linkState h.val ≤ 6) :
    exec (.upstreamFrame h lane ⟨f, obs⟩) s =
      let w := (upWords (s.lane h.val lane.val).scr f).1
      .next ((s.frameHeard h.val lane.val f).joinSet h obs (s.laneHeard h.val lane.val f).fseq p
        { ok := w.crcOk, sv := (s.laneHeard h.val lane.val f).sv, payload := w.payload, sb := w.sb }).settle := by
  have live : (decide (3 ≤ (s.frameHeard h.val lane.val f).linkState h.val ∧ (s.frameHeard h.val lane.val f).linkState h.val ≤ 6) &&
      (s.laneHeard h.val lane.val f).frame) = true := by
    simp [low, high, locked]
  unfold State.frameHeard State.laneHeard at live
  unfold State.laneHeard at place
  change execUpstreamFrame h lane ⟨f, obs⟩ s = _
  simp only [execUpstreamFrame, blocks, on, ne_eq, not_true_eq_false, if_false, Bool.not_true, Bool.false_eq_true, place]
  exact if_pos live

end Frame

/-- A servo frame with a good CRC names its place, its number and whether it is valid. -/
theorem State.laneFrame_servo {n scr : Nat} {x : LaneSt} {f : UpFrame} {w : UpWords} (ok : w.crcOk = true) (type : w.type = 0xB4) :
    let y := s.laneFrame n x f w scr
    y.lpos = some w.lpos ∧ y.standby = false ∧ y.fseq = w.fseq ∧ y.sv = w.sv := by
  simp [State.laneFrame, ok, type]

/-- A standby frame with a good CRC has its number and no place. -/
theorem State.laneFrame_standby {n scr : Nat} {x : LaneSt} {f : UpFrame} {w : UpWords} (ok : w.crcOk = true) (type : w.type = 0xB6) :
    let y := s.laneFrame n x f w scr
    y.lpos = none ∧ y.standby = true ∧ y.fseq = w.fseq := by
  simp [State.laneFrame, ok, type]

end

/-- Settles O33: a lock follows the headers and counts that its lane has seen, and a frame the lane's lock and place. -/
theorem linkLaneCommands : Obligations.LinkLaneCommands := by
  intro h s
  refine ⟨fun _ _ => ⟨exec_blockLockGained_on, exec_blockLockLost_off, exec_blockLockLost_stays, fun block good => if_pos ⟨block, good⟩,
    fun bad => if_pos bad, fun _ => exec_linkLaneFault_cause⟩, fun lane f obs blocks => ?_, fun _ _ _ => rfl⟩
  exact ⟨exec_upstreamFrame_unlocked blocks, exec_upstreamFrame_standby blocks,
    fun p on place locked low high => exec_upstreamFrame_joins (s := s) (h := h) (lane := lane) (f := f) blocks on place locked low high,
    State.laneFrame_servo, State.laneFrame_standby⟩

end Sys2Proof.Machine

/-!
SUPPORT. The four steps of a link's training, its retries, and the port that must match (R162, R163, R166).
-/
namespace Sys2Proof.Machine
section
variable {s : State} {h : HeadIx}

/-! Steps -/

section Steps
variable {obs : TrainObs}

/-- Lanes that see the companion's first step take block lock downstream. -/
theorem exec_trainingStepAdvance_block (down : 1 ≤ (s.downLanes h.val obs).length) (step : s.linkState h.val = 1)
    (up : 8 ≤ ((s.upLanes h.val).filter fun i => (s.lane h.val i).block && peerStep obs i 0).length) :
    exec (.trainingStepAdvance h obs) s =
      .next ((((s.forEach (s.downLanes h.val obs) fun u i => u.setLane h.val i { u.lane h.val i with block := true }).setLinkState h.val 2).sendTrain
        h.val 1).bandClock h.val).settle := by
  change execTrainingStepAdvance h obs s = _
  simp only [execTrainingStepAdvance, step]
  exact if_pos ⟨up, down⟩

/-- The state with the eyes shown and the presets taken. -/
def State.eyesTaken (s : State) (h : Nat) (obs : TrainObs) : State :=
  let t := s.forEach (List.range 9) fun u i =>
    match obs.eyes[i]? with
    | some e => ((u.setFld (headPage h) HEAD.EYE_UL_WIDTH e.1 i).setFld (headPage h) HEAD.EYE_UL_HEIGHT e.2 i).setFld (headPage h) HEAD.EYE_UL_VALID 1 i
    | none => u
  (t.takePresets h obs.blocks).sendTrain h 1

/-- The lanes that pass the second step. -/
def State.eyesPass (s : State) (h : Nat) (obs : TrainObs) : List Nat :=
  (s.upLanes h).filter fun i => (s.lane h i).block && peerStep obs i 1 && eyeOk (obs.eyes.getD i (0, 0))

theorem exec_trainingStepAdvance_fewEyes (step : s.linkState h.val = 2) (few : (s.eyesPass h.val obs).length < 8) :
    exec (.trainingStepAdvance h obs) s = .next (s.eyesTaken h.val obs).settle := by
  have short : ¬(8 ≤ (s.eyesPass h.val obs).length ∧ 1 ≤ (s.downLanes h.val obs).length) := fun e => Nat.not_le.2 few e.1
  change execTrainingStepAdvance h obs s = _
  simp only [execTrainingStepAdvance, step]
  exact if_neg short

theorem exec_trainingStepAdvance_eyes (down : 1 ≤ (s.downLanes h.val obs).length) (step : s.linkState h.val = 2)
    (pass : 8 ≤ (s.eyesPass h.val obs).length) :
    exec (.trainingStepAdvance h obs) s =
      let u := (s.eyesTaken h.val obs).forEach (s.eyesPass h.val obs).zipIdx fun u x =>
        u.setLane h.val x.1 { u.lane h.val x.1 with lpos := if x.2 < 8 then some x.2 else none, standby := decide (x.2 = 8) }
      .next (((match (s.eyesPass h.val obs).zipIdx.find? (fun (x : Nat × Nat) => decide (x.1 = 8)) with
        | some x => u.setFld (headPage h.val) HEAD.LINK_MAP_UL8_POS (if x.2 < 8 then x.2 else 0xF)
        | none => u).useDownLanes h.val (s.downLanes h.val obs)).setLinkState h.val 3).settle := by
  change execTrainingStepAdvance h obs s = _
  simp only [execTrainingStepAdvance, step]
  refine (if_pos ⟨pass, down⟩).trans ?_
  change done (State.setLinkState (State.useDownLanes (match (s.eyesPass h.val obs).zipIdx.find? _ with
    | some (_, _) => _
    | none => _) _ _) _ _) = _
  cases (s.eyesPass h.val obs).zipIdx.find? (fun (x : Nat × Nat) => decide (x.1 = 8)) <;> rfl

theorem exec_trainingStepAdvance_frame (down : 1 ≤ (s.downLanes h.val obs).length) (step : s.linkState h.val = 3) (skew : obs.skew ≤ 31)
    (placed : 8 ≤ ((s.upLanes h.val).filter fun i => (s.lane h.val i).block && (s.lane h.val i).frame && (s.lane h.val i).lpos.isSome).length) :
    exec (.trainingStepAdvance h obs) s =
      let t := (s.setFld (headPage h.val) HEAD.LAT_SKEW (min 255 obs.skew)).forEach (s.downLanes h.val obs) fun u i =>
        u.setLane h.val i { u.lane h.val i with frame := true }
      .next ((t.useDownLanes h.val (s.downLanes h.val obs)).setLinkState h.val 4).settle := by
  change execTrainingStepAdvance h obs s = _
  simp only [execTrainingStepAdvance, step]
  exact if_pos ⟨placed, down, skew⟩

theorem exec_trainingStepAdvance_ident (step : s.linkState h.val = 4) (ident : (s.link h.val).identOk = true) :
    exec (.trainingStepAdvance h obs) s = .next (s.linkUp h.val).settle := by
  change execTrainingStepAdvance h obs s = _
  simp only [execTrainingStepAdvance, step]
  exact if_pos ident

end Steps

/-! Retries -/

section Timeout
variable (low : 1 ≤ s.linkState h.val) (high : s.linkState h.val ≤ 4)
include low high

theorem trains : ¬(s.linkState h.val = 0 ∨ 4 < s.linkState h.val) := by omega

theorem exec_trainingStepTimeout_manual (manual : s.flag (headPage h.val) HEAD.LINK_CTRL_AUTO_RETRAIN = false) :
    exec (.trainingStepTimeout h) s = .next (s.linkFailed h.val false).settle :=
  (if_neg (trains low high)).trans (if_pos (by rw [manual]; rfl))

variable (auto : s.flag (headPage h.val) HEAD.LINK_CTRL_AUTO_RETRAIN = true)
include auto

theorem exec_trainingStepTimeout_spent (counted : (s.link h.val).uncounted = false)
    (spent : s.fld (headPage h.val) HEAD.CRC_CFG_RETRY_MAX ≤ (s.link h.val).attempt) :
    exec (.trainingStepTimeout h) s = .next (s.linkFailed h.val true).settle :=
  (if_neg (trains low high)).trans ((if_neg (by rw [auto]; decide)).trans (if_pos ⟨by rw [counted]; rfl, spent⟩))

theorem exec_trainingStepTimeout_retry
    (left : (s.link h.val).uncounted = true ∨ (s.link h.val).attempt < s.fld (headPage h.val) HEAD.CRC_CFG_RETRY_MAX) :
    exec (.trainingStepTimeout h) s =
      .next ((s.setLink h.val { s.link h.val with retryDue := true }).setLinkState h.val 0).settle := by
  have more : ¬((!(s.link h.val).uncounted) = true ∧ s.fld (headPage h.val) HEAD.CRC_CFG_RETRY_MAX ≤ (s.link h.val).attempt) := by
    rintro ⟨counted, spent⟩
    rcases left with uncounted | left
    · rw [uncounted] at counted
      cases counted
    · exact Nat.not_le.2 left spent
  exact (if_neg (trains low high)).trans ((if_neg (by rw [auto]; decide)).trans (if_neg more))

end Timeout

section Retry
variable (due : (s.link h.val).retryDue = true)
  (gap : (s.link h.val).began + s.fld (headPage h.val) HEAD.CRC_CFG_RETRY_GAP * 100000000 ≤ s.now)
include due gap

theorem retryWaits : ¬((!(s.link h.val).retryDue) = true ∨
    s.now < (s.link h.val).began + s.fld (headPage h.val) HEAD.CRC_CFG_RETRY_GAP * 100000000) := by
  rw [due]
  exact not_or.2 ⟨by decide, Nat.not_lt.2 gap⟩

theorem exec_retrainRetry_uncounted (uncounted : (s.link h.val).uncounted = true) :
    exec (.retrainRetry h) s = .next (s.startTraining h.val (s.link h.val).attempt true).settle :=
  (if_neg (retryWaits due gap)).trans (if_pos uncounted)

variable (counted : (s.link h.val).uncounted = false)
include counted

theorem exec_retrainRetry_left (left : (s.link h.val).attempt < s.fld (headPage h.val) HEAD.CRC_CFG_RETRY_MAX) :
    exec (.retrainRetry h) s = .next (s.startTraining h.val ((s.link h.val).attempt + 1) false).settle :=
  (if_neg (retryWaits due gap)).trans ((if_neg (Bool.eq_false_iff.1 counted)).trans (if_neg (Nat.not_le.2 left)))

theorem exec_retrainRetry_spent (spent : s.fld (headPage h.val) HEAD.CRC_CFG_RETRY_MAX ≤ (s.link h.val).attempt) :
    exec (.retrainRetry h) s = .next (s.linkFailed h.val true).settle :=
  (if_neg (retryWaits due gap)).trans ((if_neg (Bool.eq_false_iff.1 counted)).trans (if_pos spent))

end Retry
end

/-- Settles O34: the step that a link is in, the lanes that pass it and the attempts left say how its training goes on. -/
theorem linkTrainingCommands : Obligations.LinkTrainingCommands := by
  intro h s b
  refine ⟨fun obs => ?_, fun low high => ⟨exec_trainingStepTimeout_manual low high, exec_trainingStepTimeout_spent low high,
      exec_trainingStepTimeout_retry low high⟩, fun due gap => ⟨exec_retrainRetry_uncounted due gap, exec_retrainRetry_left due gap,
      exec_retrainRetry_spent due gap⟩, fun body => ⟨fun same => if_pos same, fun other => if_neg other⟩⟩
  intro up dl down
  exact ⟨exec_trainingStepAdvance_block down, fun step => ⟨exec_trainingStepAdvance_eyes down step, exec_trainingStepAdvance_fewEyes step⟩,
    exec_trainingStepAdvance_frame down, exec_trainingStepAdvance_ident⟩

end Sys2Proof.Machine

/-!
SUPPORT. What a companion reports (R155, R156, R160, R166, R269, R295): which way each report goes.
-/
namespace Sys2Proof.Machine
section
variable {s : State} {h : HeadIx}

/-! Losses of the link -/

section Loss
variable (up : s.linkState h.val = 5 ∨ s.linkState h.val = 6)
include up

theorem linkCarries : ¬(s.linkState h.val ≠ 5 ∧ s.linkState h.val ≠ 6) := fun ⟨h5, h6⟩ => up.elim h5 h6

theorem exec_linkLoss_noFrame : exec (.linkLoss h .noFrame) s = .next (s.linkLost h.val false).settle := if_neg (linkCarries up)

theorem exec_linkLoss_bothDown (low : s.laneFailed h.val 9 = true) (high : s.laneFailed h.val 10 = true) :
    exec (.linkLoss h .bothDown) s = .next (s.linkLost h.val true).settle :=
  (if_neg (linkCarries up)).trans (if_pos ⟨low, high⟩)

theorem exec_linkLoss_uncovered (degraded : s.linkState h.val = 6) :
    exec (.linkLoss h .uncovered) s = .next (s.linkLost h.val false).settle :=
  (if_neg (linkCarries up)).trans (if_pos degraded)

theorem exec_linkLoss_pll (unlocked : s.fldBit ckPage CK.PLL_LOCK (19 + headGroup h.val) = false) :
    exec (.linkLoss h .pll) s = .next (s.linkClockLost h.val).settle :=
  (if_neg (linkCarries up)).trans (if_neg (Bool.eq_false_iff.1 unlocked))

end Loss

/-! Status -/

/-- A status that leaves the head's obedience and its token as they are refreshes the head. -/
theorem exec_statusMsg_same {b : StatusBody} (same : s.headObeys h.val = (s.statusFields h.val b).headObeys h.val)
    (old : newer b.epoch.val ((s.statusFields h.val b).token h.val).2 = false ∨ (s.statusFields h.val b).tokenMine h.val = false) :
    exec (.statusMsg h b) s = .next (((s.statusFields h.val b).refreshHead h.val).parkedAll).settle := by
  have noMove : ∀ c : Bool, (c && !c) = false ∧ (!c && c) = false := by decide
  have settled : ∀ t u : State, (if (s.headObeys h.val && !(s.statusFields h.val b).headObeys h.val) = true then t
      else if (!s.headObeys h.val && (s.statusFields h.val b).headObeys h.val && decide ((s.statusFields h.val b).axState h.val = 6)) = true then u
      else s.statusFields h.val b) = s.statusFields h.val b := by
    intro t u
    rw [same, (noMove _).1, (noMove _).2]
    rfl
  have noConflict : ((s.statusFields h.val b).tokenMine h.val && newer b.epoch.val ((s.statusFields h.val b).token h.val).2 &&
      !(s.statusFields h.val b).tw.pendingConflict.contains h.val) = false := by
    rcases old with old | other
    · rw [old, Bool.and_false, Bool.false_and]
    · rw [other, Bool.false_and, Bool.false_and]
  change execStatusMsg h b s = _
  simp only [execStatusMsg, settled, noConflict, Bool.false_eq_true, if_false]
  rfl

/-! Tables, grooves and servo words -/

section Table
variable {table result offset nbody n : Nat} {m : DownMsg}

/-- A message that loads the table at the offset. -/
def loadsAt (table offset : Nat) (m : DownMsg) : Bool :=
  match m with
  | .tableLoad t _ _ o _ => decide (t = table) && decide (o = offset)
  | _ => false

variable (waits : (s.link h.val).tables.find? (fun x => loadsAt table offset x.1) = some (m, n))
include waits

theorem exec_tableAck_found :
    exec (.tableAck h table result offset nbody) s =
      let rest := (s.link h.val).tables.erase (m, n)
      if result = 0 then done (s.setLink h.val { s.link h.val with tables := rest })
      else if n < 3 then done ((s.setLink h.val { s.link h.val with tables := rest ++ [(m, n + 1)] }).send (.down h.val m))
      else done ((s.setLink h.val { s.link h.val with tables := rest }).dropFiring h.val) := by
  change execTableAck h table result offset nbody s = _
  unfold execTableAck
  dsimp only
  split
  next missing => exact nomatch (missing.symm.trans waits : none = some (m, n))
  next m' n' found =>
    obtain ⟨rfl, rfl⟩ := Prod.mk.inj (Option.some.inj (found.symm.trans waits : some (m', n') = some (m, n)))
    rfl

theorem exec_tableAck_ok (ok : result = 0) :
    exec (.tableAck h table result offset nbody) s =
      .next (s.setLink h.val { s.link h.val with tables := (s.link h.val).tables.erase (m, n) }).settle :=
  (exec_tableAck_found waits).trans (if_pos ok)

theorem exec_tableAck_again (bad : result ≠ 0) (left : n < 3) :
    exec (.tableAck h table result offset nbody) s = .next ((s.setLink h.val { s.link h.val with
      tables := (s.link h.val).tables.erase (m, n) ++ [(m, n + 1)] }).send (.down h.val m)).settle :=
  (exec_tableAck_found waits).trans ((if_neg bad).trans (if_pos left))

theorem exec_tableAck_spent (bad : result ≠ 0) (spent : 3 ≤ n) :
    exec (.tableAck h table result offset nbody) s =
      .next ((s.setLink h.val { s.link h.val with tables := (s.link h.val).tables.erase (m, n) }).dropFiring h.val).settle :=
  (exec_tableAck_found waits).trans ((if_neg bad).trans (if_neg (Nat.not_lt.2 spent)))

end Table

section Groove
variable {setting quarter q : Nat}

theorem exec_grooveWord_address (seeks : ((s.grooveQuarter h.val (saLayer setting) q quarter).seq h.val).phase = .address) :
    exec (.grooveWord h true setting quarter q) s = .next ((s.grooveQuarter h.val (saLayer setting) q quarter).seqAddress h.val
      (saLayer setting) (bandOfSetting (saSetting setting))).settle := if_pos seeks

variable (other : ((s.grooveQuarter h.val (saLayer setting) q quarter).seq h.val).phase ≠ .address)
include other

/-- While the head scans or fires, a groove word of a setting other than the one expected loses the band. -/
theorem exec_grooveWord_off {sa seg : Nat}
    (scans : (s.grooveQuarter h.val (saLayer setting) q quarter).fireState h.val = 1 ∨
      (s.grooveQuarter h.val (saLayer setting) q quarter).headFires h.val = true)
    (expects : ((s.grooveQuarter h.val (saLayer setting) q quarter).band h.val).expect = some (sa, seg)) (off : sa ≠ setting) :
    exec (.grooveWord h true setting quarter q) s = .next ((s.grooveQuarter h.val (saLayer setting) q quarter).bandLost h.val
      (saLayer setting) (bandOfSetting (saSetting setting))).settle := by
  have scanning : (decide ((s.grooveQuarter h.val (saLayer setting) q quarter).fireState h.val = 1) ||
      (s.grooveQuarter h.val (saLayer setting) q quarter).headFires h.val) = true := by
    rwa [Bool.or_eq_true, decide_eq_true_eq]
  change execGrooveWord h true setting quarter q s = _
  simp only [execGrooveWord, Bool.not_true, Bool.false_eq_true, if_false, other, scanning, expects, decide_eq_true off, Bool.and_self, if_true]
  rfl

theorem exec_grooveWord_idle (still : (s.grooveQuarter h.val (saLayer setting) q quarter).fireState h.val ≠ 1)
    (silent : (s.grooveQuarter h.val (saLayer setting) q quarter).headFires h.val = false) :
    exec (.grooveWord h true setting quarter q) s = .next (s.grooveQuarter h.val (saLayer setting) q quarter).settle := by
  change execGrooveWord h true setting quarter q s = _
  simp only [execGrooveWord, Bool.not_true, Bool.false_eq_true, if_false, other, decide_eq_false still, silent, Bool.or_self, Bool.false_and]
  rfl

end Groove

section Servo
variable {e : ServoErr} {obs : ServoObs}

theorem exec_servoErr_fresh (inside : s.flag ctrlengPage HDR.ISOLATE = false) (fresh : s.xingStale h.val 57 0 = false) :
    exec (.servoErr h e obs) s = .next ((s.servoFrame h.val e obs).bandLayerEntered h.val).settle :=
  (if_neg (Bool.eq_false_iff.1 inside)).trans (if_neg (Bool.eq_false_iff.1 fresh))

theorem exec_servoErr_stale (inside : s.flag ctrlengPage HDR.ISOLATE = false) (stale : s.xingStale h.val 57 0 = true) :
    exec (.servoErr h e obs) s = .next (s.frameMissing h.val).settle :=
  (if_neg (Bool.eq_false_iff.1 inside)).trans (if_pos stale)

end Servo
end

/-- Settles O35: each report goes by the link's state, by what the head obeys, and by the table or setting it names. -/
theorem companionReports : Obligations.CompanionReports := by
  intro h s
  exact ⟨fun up => ⟨exec_linkLoss_noFrame up, exec_linkLoss_bothDown up, exec_linkLoss_uncovered up, exec_linkLoss_pll up⟩,
    fun _ => exec_statusMsg_same, fun _ _ _ _ _ _ waits => ⟨exec_tableAck_ok waits, exec_tableAck_again waits, exec_tableAck_spent waits⟩,
    fun _ _ _ => ⟨rfl, exec_grooveWord_address, fun other => ⟨fun _ _ => exec_grooveWord_off other, exec_grooveWord_idle other⟩⟩,
    fun _ _ => ⟨exec_servoErr_fresh, exec_servoErr_stale, fun isolated => if_pos isolated⟩, fun _ _ _ => rfl⟩

end Sys2Proof.Machine

/-!
SUPPORT. Firing runs, hold-up and replay (R255-R258, R272, R273, R279, R394, R395, R397-R400, R551, R625, R626): which
way each command goes.
-/
namespace Sys2Proof.Machine
section
variable {s : State}

/-! Runs -/

section Runs
variable {g : RunIx}

theorem exec_firingRunStart_wanted (off : (s.run g.val).phase = 0) (power : s.fire.holdup = false) (free : s.svc.hold = false)
    (wanted : s.runWanted g.val = true) (none' : ∀ h ∈ groupHeads g.val, (s.fireHead h).await = []) (quiet : g.val ≠ 0 ∨ s.rtHolds = false) :
    exec (.firingRunStart g) s =
      let t := ({ s with fire := { s.fire with held := [] } } : State).setRun g.val { phase := 1, start := s.now }
      .next (State.commandWheels
        (if g.val = 0 then (t.setJr { t.jr with run := t.jr.run + 1 }).jput (runJRec (t.jr.run + 1) 0) else t) g.val 4500).settle := by
  have idle : (groupHeads g.val).any (fun h => !(s.fireHead h).await.isEmpty) = false := by
    simp only [List.any_eq_false, Bool.not_eq_true']
    exact fun h hh => by rw [none' h hh]; decide
  have still : ¬(g.val = 0 ∧ s.rtHolds = true) := fun ⟨zero, holds⟩ => quiet.elim (fun h => h zero) fun h => by rw [h] at holds; cases holds
  refine if_neg ?_
  rw [power, free, wanted, idle]
  simp only [off, still, ne_eq, not_true_eq_false, Bool.false_eq_true, Bool.not_true, or_self, not_false_eq_true]

theorem exec_firingBegin_speed (waits : (s.run g.val).phase = 1) (speed : ∀ w ∈ groupWheels g.val, s.wheelAt w 4500 = true) :
    exec (.firingBegin g) s =
      .next ((s.setRun g.val { phase := 2, start := s.now }).forEach (groupHeads g.val) State.headBegin).settle := by
  have all : (groupWheels g.val).all (fun w => s.wheelAt w 4500) = true := List.all_eq_true.2 speed
  exact if_neg (by rw [all]; simp [waits])

section Running
variable (runs : (s.run g.val).phase = 2)
include runs

theorem exec_readWaitExpiry_late (late : ∃ h ∈ groupHeads g.val, s.headFires h = true ∧ ∃ r ∈ s.pool.wants, r.head = h ∧ r.why = .host ∧
      r.on = false ∧ r.since + 10 ^ 8 * s.ffldIn FIRE.READ_WAIT_MAX 1 255 ≤ s.now) :
    exec (.readWaitExpiry g) s = .next (s.endRun g.val).settle := by
  obtain ⟨h, hh, fires, r, hr, head, why, off, since⟩ := late
  refine if_pos ⟨runs, List.any_eq_true.2 ⟨h, hh, Bool.and_eq_true_iff.2 ⟨fires, List.any_eq_true.2 ⟨r, hr, ?_⟩⟩⟩⟩
  rw [head, why, off, decide_eq_true since]
  simp

theorem exec_firingRunEnd_over (over' : s.runIdle g.val = true ∨ ∃ h ∈ groupHeads g.val, s.scanEnded h = true) :
    exec (.firingRunEnd g) s = .next (if g.val = 0 then s.endRun g.val else (s.endRun g.val).beginPass g.val).settle := by
  have ends : s.runIdle g.val = true ∨ (groupHeads g.val).any s.scanEnded = true := over'.imp id List.any_eq_true.2
  refine (if_pos ⟨runs, ends⟩).trans ?_
  change (if g.val = 0 then done (s.endRun g.val) else done _) = _
  split <;> rfl

end Running

theorem exec_firingRunEnd_phase4 (phase : (s.run 1).phase = 4) (idle : s.runIdle 1 = true) :
    exec (.firingRunEnd 1) s = .next (s.beginPass 1).settle := by
  have other : ¬((s.run 1).phase = 2 ∧ (s.runIdle 1 = true ∨ (groupHeads 1).any s.scanEnded = true)) := by rw [phase]; simp
  exact (if_neg other).trans (if_pos ⟨rfl, phase, idle⟩)

theorem exec_firingRunEnd_phase5 (phase : (s.run 0).phase = 5) (idle : s.runIdle 0 = true) :
    exec (.firingRunEnd 0) s = .next (s.beginPass 0).settle := by
  have other : ¬((s.run 0).phase = 2 ∧ (s.runIdle 0 = true ∨ (groupHeads 0).any s.scanEnded = true)) := by rw [phase]; simp
  have group : ¬((0 : RunIx).val = 1 ∧ (s.run 0).phase = 4 ∧ s.runIdle 1 = true) := fun e => absurd e.1 (by decide)
  exact (if_neg other).trans ((if_neg group).trans (if_pos ⟨rfl, phase, idle⟩))

end Runs

/-! Settings and what a head reports -/

section Head
variable {h : HeadIx}

section Arm
variable (accepts : s.accepts (headPage h.val) = true) (fires : s.headFires h.val = true) (power : s.fire.holdup = false)
  (free : s.svc.hold = false) (goes : (s.fireHead h.val).stopping = false) (obeys : s.headObeys h.val = true)
  (permit : s.permit h.val = true) (writes : s.retired h.val = false) {k : Nat} {r : ReadySet} (slot : s.freeSlot h.val = some k)
  (ready : s.nextReady h.val = some r)
include accepts fires power free goes obeys permit writes slot ready

/-- A head that may fire takes its next setting: armed where it is journalled, recorded where it is not. -/
theorem exec_settingArm_ready :
    exec (.settingArm h) s = if s.journalled r then done (s.armSlot h.val k r) else done (s.recordSetting r) := by
  change execSettingArm h s = _
  unfold execSettingArm
  simp [accepts, fires, power, free, goes, obeys, permit, writes, slot, ready]

end Arm

section Mon
variable {segment : Fin 256} {half : Fin 2} {power : List Nat} (beams : power.length = 8)
include beams

theorem exec_fireMon_second {p : List Nat} (first : (s.fireHead h.val).half = some (2 * segment.val + (1 - half.val), p)) :
    exec (.fireMon h segment half power) s =
      .next (s.rpcSegment h.val segment.val (if half.val = 1 then p ++ power else power ++ p)).settle := by
  change execFireMon h segment half power s = _
  simp only [execFireMon, beams, ne_eq, not_true_eq_false, if_false, first, if_true]
  rfl

theorem exec_fireMon_first (alone : ∀ p, (s.fireHead h.val).half ≠ some (2 * segment.val + (1 - half.val), p)) :
    exec (.fireMon h segment half power) s = .next (s.setFireHead h.val
      { s.fireHead h.val with half := some (2 * segment.val + half.val, power) }).settle := by
  have other : (match (s.fireHead h.val).half with
      | some (n, p) => if n = 2 * segment.val + (1 - half.val) then some p else none
      | none => none) = none := by
    cases held : (s.fireHead h.val).half with
    | none => rfl
    | some x =>
      obtain ⟨n, p⟩ := x
      exact if_neg fun e => alone p (by rw [held, e])
  change execFireMon h segment half power s = _
  unfold execFireMon
  simp only [beams, ne_eq, not_true_eq_false, if_false]
  split
  next found => exact absurd (found.symm.trans other) (by simp)
  next => rfl

end Mon

/-- The head with its laser's power, current and temperature shown. -/
def State.laserSeen (s : State) (h power current : Nat) (temp : BitVec 16) : State :=
  s.setLink h { s.link h with laserPower := power, laserCurrent := current, laserTemp := temp.toInt }

theorem exec_laserMon_good {power current : Nat} {temp : BitVec 16}
    (good : (s.laserSeen h.val power current temp).headFires h.val = false ∨ (s.laserSeen h.val power current temp).powerOk power = true) :
    exec (.laserMon h power current temp) s = .next (s.laserSeen h.val power current temp).settle := by
  refine if_neg ?_
  change ¬((s.laserSeen h.val power current temp).headFires h.val && !(s.laserSeen h.val power current temp).powerOk power) = true
  rcases good with still | ok
  · simp [still]
  · simp [ok]

theorem exec_laserMon_bad {power current : Nat} {temp : BitVec 16}
    (fires : (s.laserSeen h.val power current temp).headFires h.val = true)
    (bad : (s.laserSeen h.val power current temp).powerOk power = false) :
    exec (.laserMon h power current temp) s =
      let u := (s.laserSeen h.val power current temp).dropFiring h.val
      .next (u.setFireHead h.val { u.fireHead h.val with stops := (u.fireHead h.val).stops + 1 }).settle := by
  refine if_pos ?_
  change ((s.laserSeen h.val power current temp).headFires h.val && !(s.laserSeen h.val power current temp).powerOk power) = true
  rw [fires, bad]
  rfl

/-- Whether an event of the head is told to the twin, whose setting it is. -/
def State.eventTwins (s : State) (h : Nat) (b : FireEventBody) : Prop :=
  ∃ k r, s.slotOfSetting h b.setting = some k ∧ s.armed h k = some r ∧ r.kind = .forTwin ∧ b.event.val ≠ 3

theorem State.eventTwins_iff (h : Nat) (b : FireEventBody) :
    (match (s.slotOfSetting h b.setting).bind (s.armed h) with
      | some r => decide (r.kind = .forTwin) && decide (b.event.val ≠ 3)
      | none => false) = true ↔ s.eventTwins h b := by
  unfold State.eventTwins
  cases slot : s.slotOfSetting h b.setting with
  | none => simp
  | some k =>
    cases armed : s.armed h k with
    | none => simp [armed]
    | some r => simp [armed]

theorem exec_fireEvent_own {b : FireEventBody} (own : ¬ s.eventTwins h.val b) :
    exec (.fireEvent h b) s = .next (s.fireEvent h.val b).holdupSeal.settle := by
  have no := mt (State.eventTwins_iff h.val b).1 own
  exact congrArg (fun t : State => done t.holdupSeal) (if_neg no)

theorem exec_fireEvent_twins {b : FireEventBody} (twins : s.eventTwins h.val b) :
    exec (.fireEvent h b) s = .next ((s.fireEvent h.val b).tSend clsFire
      (.fireReport h.val b.setting b.event.val b.segment.val none)).holdupSeal.settle := by
  have yes := (State.eventTwins_iff h.val b).2 twins
  exact congrArg (fun t : State => done t.holdupSeal) (if_pos yes)

end Head

/-! Hold-up and replay -/

theorem exec_holdupRearm_over (held : s.endBootHold.fire.holdup = true) (late : s.fire.holdupAt + 100000000 ≤ s.now)
    (sealed : s.fire.holdup = false ∨ s.flag journalPage JOURNAL.JR_STAT_SEALED = true ∨ s.jr.failAt.isSome = true) :
    exec .holdupRearm s =
      let b := s.endBootHold
      let t := ({ b with fire := { b.fire with holdup := false, parked := [] } } : State).setFlag journalPage JOURNAL.JR_STAT_SEALED false
      let t := (t.setJr { t.jr with run := t.jr.run + 1 }).jput (runJRec (t.jr.run + 1) 0)
      let t := t.forEach b.fire.parked fun u x => u.seqCmd x.1 1 (x.2.1 + 16 * x.2.2)
      .next (t.forEach [0, 1] fun u g => if (u.run g).phase = 0 ∨ (u.run g).phase = 3 then u else u.beginPass g).settle := by
  have shut : (s.fire.holdup && !s.flag journalPage JOURNAL.JR_STAT_SEALED && s.jr.failAt.isNone) = false := by
    rcases sealed with off | done' | failed
    · rw [off]; rfl
    · rw [done']; simp
    · rw [Option.isNone_eq_false_iff.2 failed, Bool.and_false]
  have goes : ¬(s.now < s.fire.holdupAt + 100000000 ∨ (s.fire.holdup && !s.flag journalPage JOURNAL.JR_STAT_SEALED && s.jr.failAt.isNone) = true) := by
    rw [shut]
    exact not_or.2 ⟨Nat.not_lt.2 late, Bool.false_ne_true⟩
  refine (if_neg goes).trans ((if_neg ?_).trans rfl)
  rw [held]
  decide

theorem exec_journalReplay_read {lane : LaneOf} {zone : ZoneIx} (replays : (s.zone (300 * lane.val + zone.val)).replaying = true)
    (none' : s.pool.wants = []) (read : s.journalUnread = false) :
    exec (.journalReplay lane zone) s =
      let k := 300 * lane.val + zone.val
      let t := (s.mergeRecords fun r => decide (r.zone = k)).adoptFired k
      let z := t.zone k
      let t := ((t.replayFrom k (z.enc - z.fired) z.fired).advanceFired k).recheck k
      let flags := (if (t.zone k).gen ≠ z.gen then 8 else 0) + if t.st.stripes.any fun x => decide (x.zone = k) && x.replay then 16 else 0
      let u := t.intAfter k 1 flags
      .next ((u.setZone k { u.zone k with replaying := false }).replayOver.stgShow).settle := by
  change execJournalReplay lane zone s = _
  unfold execJournalReplay
  simp only [none', List.any_nil, replays, read, Bool.not_true, Bool.false_eq_true, or_self, if_false, decide_eq_true_eq]
  rfl

end

/-- Settles O36: a command of a run goes by the run's phase, one of a head by what the head may do, and one of hold-up
or replay by what still waits. -/
theorem firingCommands : Obligations.FiringCommands := by
  refine ⟨fun s => ⟨fun g => exec_firingRunStart_wanted, fun g => exec_firingBegin_speed, fun g runs => ⟨fun late => if_pos ⟨runs, late⟩,
    exec_readWaitExpiry_late runs, exec_firingRunEnd_over runs⟩, exec_firingRunEnd_phase4, exec_firingRunEnd_phase5,
    fun h accepts fires power free goes obeys permit writes k r slot ready => ?_, fun h segment half power beams =>
      ⟨fun p => exec_fireMon_second beams, exec_fireMon_first beams⟩, fun h power current temp => ⟨exec_laserMon_good, exec_laserMon_bad⟩⟩,
    fun s => ⟨rfl, exec_holdupRearm_over, fun h b => ⟨exec_fireEvent_own, exec_fireEvent_twins⟩, fun lane zone => exec_journalReplay_read⟩⟩
  have arms := exec_settingArm_ready accepts fires power free goes obeys permit writes slot ready
  exact ⟨fun yes => arms.trans (if_pos yes), fun no => arms.trans (if_neg (Bool.eq_false_iff.1 no))⟩

end Sys2Proof.Machine

/-!
SUPPORT. Scans, calibration, verdicts, write retirement and traces (R259, R262, R274, R277, R291, R322, R395).
-/
namespace Sys2Proof.Machine

-- The kernel decides a fact below: in its turn, and not in a thread of its own that waits for all before it.
set_option Elab.async false

section
variable {s : State} {h : HeadIx}

theorem exec_blankScanDone_figure {g : SettingFig} (figure : s.figFor h.val .blankScan = some g) :
    exec (.blankScanDone h) s = .next (s.blankScanned h.val g).settle := by
  change execBlankScanDone h s = _
  simp only [execBlankScanDone, figure]
  rfl

theorem exec_calibration_read {r : ReadySet} {rest : List ReadySet}
    (tests : (s.fireHead h.val).await.filter (fun r => decide (r.kind.rank = 0)) = r :: rest)
    (read : ∀ x ∈ r :: rest, (s.figOf h.val x.sa).isSome = true) :
    exec (.calibration h () ()) s = .next (s.calibrateHead h.val (r :: rest) r).settle := by
  have all : (r :: rest).all (fun x => (s.figOf h.val x.sa).isSome) = true := List.all_eq_true.2 read
  change execCalibration h () () s = _
  simp only [execCalibration, tests, all, if_true]
  rfl

/-- The read of a setting that its verdict waits for, with its figure. -/
def State.verdictRead (s : State) (h : Nat) (r : ReadySet) : Option (SettingRd × SettingFig) :=
  match s.setting h r.sa, s.figOf h r.sa with
  | some x, some g => if x.why = .bisque ∧ x.step = .blocks then some (x, g) else none
  | _, _ => none

/-- Whether a setting's bisque read has its blocks and its figure. -/
def State.verdictDue (s : State) (h : Nat) (r : ReadySet) : Bool :=
  match s.setting h r.sa, s.figOf h r.sa with
  | some x, some _ => decide (x.why = .bisque) && decide (x.step = .blocks)
  | _, _ => false

theorem State.verdictRead_isSome (h : Nat) (r : ReadySet) : (s.verdictRead h r).isSome = s.verdictDue h r := by
  unfold State.verdictRead State.verdictDue
  split
  next x g _ _ =>
    by_cases due : x.why = .bisque ∧ x.step = .blocks
    · rw [if_pos due, decide_eq_true due.1, decide_eq_true due.2]
      rfl
    · rw [if_neg due]
      exact (Bool.eq_false_iff.2 fun e => due (by simpa using e)).symm
  next => rfl

theorem State.verdictRead_due {n : Nat} {r : ReadySet} {x : SettingRd} {g : SettingFig} (due : s.verdictDue n r = true)
    (read : s.setting n r.sa = some x) (figure : s.figOf n r.sa = some g) : s.verdictRead n r = some (x, g) := by
  unfold State.verdictDue at due
  unfold State.verdictRead
  simp only [read, figure, Bool.and_eq_true, decide_eq_true_eq] at due ⊢
  exact if_pos due

theorem exec_bisqueVerdict_due {r : ReadySet} {x : SettingRd} {g : SettingFig}
    (first : (s.fireHead h.val).await.find? (s.verdictDue h.val) = some r)
    (read : s.setting h.val r.sa = some x) (figure : s.figOf h.val r.sa = some g) :
    exec (.bisqueVerdict h) s = .next (s.giveVerdict h.val r x g).settle := by
  have found : (s.fireHead h.val).await.find? (fun r => (s.verdictRead h.val r).isSome) = some r := by
    rw [funext (State.verdictRead_isSome h.val)]
    exact first
  have value := State.verdictRead_due (List.find?_some first) read figure
  change execBisqueVerdict h s = _
  unfold execBisqueVerdict
  dsimp only
  split
  next missing => exact nomatch (missing.symm.trans found : none = some r)
  next r' there =>
    obtain rfl : r' = r := Option.some.inj (there.symm.trans found)
    split
    next missing => exact nomatch (missing.symm.trans value : none = some (x, g))
    next x' g' there' =>
      obtain ⟨rfl, rfl⟩ := Prod.mk.inj (Option.some.inj (there'.symm.trans value : some (x', g') = some (x, g)))
      rfl

theorem exec_writeRetirement_due {cause : RetireCause} (writes : s.retired h.val = false) (due : s.retireDue h.val cause = true) :
    exec (.writeRetirement h cause) s = .next (s.retireHead h.val (retireCode cause)).settle :=
  if_neg (by rw [writes, due]; decide)

theorem exec_xspiWriteDone_good {ok : Bool} (works : s.jr.failAt = none) :
    exec (.xspiWriteDone ok) s = .next (s.xspiDone ok).sendDueMembers.holdupSeal.settle :=
  if_neg (by rw [works]; decide)

theorem exec_traceFull_stops (runs : s.flag ctrlengPage CTRLENG.TRACE_CFG_START = true) (full : s.ce.traceLeft = 0) :
    ∃ t, exec .traceFull s = .next t ∧ t.flag ctrlengPage CTRLENG.TRACE_CFG_START = false := by
  have key : fldKey ctrlengPage CTRLENG.TRACE_CFG_START 0 ∉ settleKeys := by decide +kernel
  refine ⟨_, if_pos ⟨runs, full⟩, ?_⟩
  rw [State.settle_flag _ key]
  exact State.flag_setFlag_self s (by decide)

end

/-- Settles O37: each command runs where the figure, the tests, the read or the cause that it waits for is there. -/
theorem bisqueAndTraceCommands : Obligations.BisqueAndTraceCommands := by
  intro s
  refine ⟨fun _ _ => exec_blankScanDone_figure, fun h r rest tests read => ?_, fun h r x g first => ?_,
    fun _ _ => exec_writeRetirement_due, fun _ => exec_xspiWriteDone_good, fun _ _ => rfl, exec_traceFull_stops⟩
  · rw [tests] at read ⊢
    exact exec_calibration_read tests read
  · exact exec_bisqueVerdict_due first

end Sys2Proof.Machine

/-!
SUPPORT. The segments of a head's band and what leaves its shelf (R176, R186-R195, R197, R198, R217): which way each
command goes.
-/
namespace Sys2Proof.Machine
section
variable {s : State} {h : HeadIx}

/-! Segments -/

theorem exec_segmentVote_runs {obs : SegmentObs} (runs : s.cellsRun h.val = true) :
    exec (.segmentVote h obs) s = .next (s.voteSegment h.val obs.ahead obs.edgeEmpty).settle :=
  if_neg (by rw [runs]; decide)

theorem exec_segmentVote_still {obs : SegmentObs} (still : s.cellsRun h.val = false) :
    exec (.segmentVote h obs) s = .next s.settle :=
  if_pos (by rw [still]; rfl)

/-- Three misses in a row lose the band. -/
theorem exec_bandLost_missed {sa : Nat} (at' : (s.band h.val).missAt = some sa) (three : 3 ≤ (s.band h.val).miss)
    (runs : s.cellsRun h.val = true) :
    exec (.bandLost h) s = .next (s.bandLost h.val (saLayer sa) (bandOfSetting (saSetting sa))).settle := by
  have goes : ¬((s.band h.val).miss < 3 ∨ (!s.cellsRun h.val) = true) := not_or.2 ⟨Nat.not_lt.2 three, by rw [runs]; decide⟩
  change execBandLost h s = _
  simp only [execBandLost, at', goes, if_false]
  rfl

/-! What the loss of a band does to the sequencer -/

section Lost
variable {n layer band : Nat}

/-- The state of a lost band: it re-acquires, and nothing is expected of it. -/
def State.bandGone (s : State) (n : Nat) : State :=
  let t := s.triggerReacq n true
  t.setBand n { t.band n with miss := 0, missAt := none, expect := none }

/-- The sequencer goes back to the address that was lost. -/
def State.seqBack (u : State) (n layer band : Nat) : State :=
  (u.setSeq n { u.seq n with op := 16, phase := .address, layer := u.seqLayer n, band := u.seqBand n, jumps := 0, seeks := 0 }).seqAddress n layer band

theorem State.bandLost_eq : s.bandLost n layer band =
    if !(s.bandGone n).headObeys n then s.bandGone n
    else if ((s.bandGone n).seq n).op = 0 then (s.bandGone n).seqBack n layer band
    else if ((s.bandGone n).seq n).phase = .address then (s.bandGone n).seqAddress n layer band
    else if ((s.bandGone n).seq n).phase = .stepHold then (((s.bandGone n).undoStep n).seqResult n 5 5).seqBack n layer band
    else s.bandGone n := rfl

theorem State.bandLost_foreign (foreign : (s.bandGone n).headObeys n = false) : s.bandLost n layer band = s.bandGone n := by
  rw [State.bandLost_eq, foreign, if_pos (by decide)]

variable (obeys : (s.bandGone n).headObeys n = true)
include obeys

theorem State.bandLost_idle (idle : ((s.bandGone n).seq n).op = 0) : s.bandLost n layer band = (s.bandGone n).seqBack n layer band := by
  rw [State.bandLost_eq, obeys, if_neg (by decide), if_pos idle]

variable (busy : ((s.bandGone n).seq n).op ≠ 0)
include busy

theorem State.bandLost_address (phase : ((s.bandGone n).seq n).phase = .address) :
    s.bandLost n layer band = (s.bandGone n).seqAddress n layer band := by
  rw [State.bandLost_eq, obeys, if_neg (by decide), if_neg busy, if_pos phase]

theorem State.bandLost_step (phase : ((s.bandGone n).seq n).phase = .stepHold) :
    s.bandLost n layer band = (((s.bandGone n).undoStep n).seqResult n 5 5).seqBack n layer band := by
  rw [State.bandLost_eq, obeys, if_neg (by decide), if_neg busy, if_neg (by rw [phase]; decide), if_pos phase]

theorem State.bandLost_other (notAddress : ((s.bandGone n).seq n).phase ≠ .address) (notStep : ((s.bandGone n).seq n).phase ≠ .stepHold) :
    s.bandLost n layer band = s.bandGone n := by
  rw [State.bandLost_eq, obeys, if_neg (by decide), if_neg busy, if_neg notAddress, if_neg notStep]

end Lost

/-! Locks and boundaries -/

theorem exec_bandLockLost_out (locked : s.bandMode h.val = 2 ∨ s.bandMode h.val = 3) (out : (s.band h.val).lockOut = true) :
    exec (.bandLockLost h) s = .next (s.triggerReacq h.val true).settle := by
  refine if_neg (not_or.2 ⟨fun ⟨n2, n3⟩ => locked.elim n2 n3, ?_⟩)
  rw [out]
  decide

theorem exec_reacquisitionStart_due (due : (s.band h.val).reacq = true) (runs : s.cellsRun h.val = true)
    (start : ∀ sa seg, (s.band h.val).expect = some (sa, seg) → seg = 0) :
    exec (.reacquisitionStart h) s = .next (s.startAcq h.val true).settle := by
  change execReacquisitionStart h s = _
  unfold execReacquisitionStart
  cases expects : (s.band h.val).expect with
  | none =>
    simp only [expects, due, runs, Bool.and_self, if_true]
    rfl
  | some x =>
    obtain ⟨sa, seg⟩ := x
    simp only [expects, due, runs, decide_eq_true (start sa seg expects), Bool.and_self, if_true]
    rfl

theorem exec_bandLocked_run (mode : s.bandMode h.val = 1) (run : 2 ≤ (s.band h.val).run) (runs : s.cellsRun h.val = true) :
    exec (.bandLocked h) s =
      let t := ((s.setBandMode h.val 2).setBand h.val { s.band h.val with again := false }).refreshHead h.val
      .next (if (s.band h.val).again then (t.istat (bandPage h.val) 8).event (bandPage h.val) (headCode h.val 0x204) 1 else t).settle :=
  if_pos ⟨mode, run, runs⟩

theorem exec_ringBoundary_expected {sa : Nat} (expects : (s.band h.val).expect = some (sa, 0)) (runs : s.cellsRun h.val = true) :
    exec (.ringBoundary h) s = .next (s.placeBand h.val sa).settle := by
  change execRingBoundary h s = _
  simp only [execRingBoundary, expects, runs, if_true]
  rfl

/-! The shelf -/

section Shelf
variable {x : Piece} {r : List Piece}

/-- A piece that is weak enough for a copy, and has none. -/
def State.weakPiece (s : State) (y : Piece) : Bool := s.pieceWeak y && !s.pool.caps.any y.same && !s.pieceOver y

/-- The weak pieces of the segment that leaves the shelf. -/
def State.leavingGroup (s : State) (n : Nat) (x : Piece) : List Piece :=
  let b := s.band n
  let fresh := match b.group with
    | [] => true
    | y :: _ => !(decide (y.sa = x.sa) && decide (y.seg = x.seg))
  if fresh then b.shelf.filter fun y => decide (y.sa = x.sa) && decide (y.seg = x.seg) && s.weakPiece y else b.group

/-- The shelf without the piece that leaves it. -/
def State.shelfLeft (s : State) (n : Nat) (x : Piece) (r : List Piece) : State :=
  s.setBand n { s.band n with shelf := r, group := s.leavingGroup n x }

/-- A piece leaves a full shelf: copied where it is among the weakest of its segment, dropped where it is weak, and
else gone. -/
theorem exec_pieceLeavesShelf_eq (first : (s.band h.val).shelf = x :: r) (full : 128 < (s.band h.val).shelf.length) :
    exec (.pieceLeavesShelf h) s =
      if !s.weakPiece x || decide (s.bfld h.val BAND.SHELF_CFG_CAPTURE_EN ≠ 1) then done (s.shelfLeft h.val x r)
      else if ((s.leavingGroup h.val x).filter fun y => weakBefore y x).length < s.bfld h.val BAND.SHELF_CFG_WEAK_CAP then
        done ((s.shelfLeft h.val x r).shelfCopy x true)
      else done ((s.shelfLeft h.val x r).shelfDrop h.val false) := by
  have more : ¬ (x :: r).length ≤ 128 := by rw [← first]; exact Nat.not_le.2 full
  have whole : s.shelfLeft h.val x r = s.setBand h.val { s.band h.val with shelf := r, group := s.leavingGroup h.val x } := rfl
  rw [whole]
  change execPieceLeavesShelf h s = _
  unfold execPieceLeavesShelf State.leavingGroup
  simp only [first, more, if_false]
  rfl

theorem weakPiece_captures (weak : s.weakPiece x = true ∧ s.bfld h.val BAND.SHELF_CFG_CAPTURE_EN = 1) :
    ¬((!s.weakPiece x || decide (s.bfld h.val BAND.SHELF_CFG_CAPTURE_EN ≠ 1)) = true) := by
  rw [weak.1, weak.2]
  decide

theorem weakPiece_goes (strong : ¬(s.weakPiece x = true ∧ s.bfld h.val BAND.SHELF_CFG_CAPTURE_EN = 1)) :
    (!s.weakPiece x || decide (s.bfld h.val BAND.SHELF_CFG_CAPTURE_EN ≠ 1)) = true := by
  rw [Bool.or_eq_true, Bool.not_eq_true', decide_eq_true_eq, ← Bool.not_eq_true]
  exact Classical.not_and_iff_not_or_not.1 strong

end Shelf

theorem exec_failedCodewordCopy_on {sa c : Nat} (failed : s.pool.failed.find? (fun x => decide (x.1 = h.val)) = some (h.val, sa, c))
    (on : s.bfld h.val BAND.SHELF_CFG_FAIL_COPY = 1) :
    exec (.failedCodewordCopy h) s =
      .next ((s.setPool { s.pool with failed := s.pool.failed.erase (h.val, sa, c) }).forEach
        ((s.band h.val).shelf.filter fun x => decide (x.sa = sa) && decide (x.slot = c) && !s.pool.caps.any x.same)
        fun u x => u.shelfCopy x false).settle := by
  change execFailedCodewordCopy h s = _
  simp only [execFailedCodewordCopy, failed, on, ne_eq, not_true_eq_false, if_false]
  rfl

end

/-- Settles O39: a segment's command goes by the band's mode and by what the band has seen, and a piece that leaves the
shelf by how weak it is in its segment. -/
theorem readChannelCommands : Obligations.ReadChannelCommands := by
  refine ⟨fun h s => ⟨fun _ _ => ⟨exec_segmentVote_runs, exec_segmentVote_still⟩, fun sa at' three runs => ?_, exec_bandLockLost_out,
    exec_reacquisitionStart_due, exec_bandLocked_run, fun _ => exec_ringBoundary_expected, rfl⟩, fun h s => ⟨fun x r first full => ?_,
      fun _ _ => exec_failedCodewordCopy_on⟩⟩
  · have lost := exec_bandLost_missed at' three runs
    exact ⟨fun foreign => lost.trans (congrArg done (State.bandLost_foreign foreign)),
      fun obeys idle => lost.trans (congrArg done (State.bandLost_idle obeys idle)),
      fun obeys busy => ⟨fun phase => lost.trans (congrArg done (State.bandLost_address obeys busy phase)),
        fun phase => lost.trans (congrArg done (State.bandLost_step obeys busy phase)),
        fun notAddress notStep => lost.trans (congrArg done (State.bandLost_other obeys busy notAddress notStep))⟩⟩
  · have leaves := exec_pieceLeavesShelf_eq first full
    exact ⟨fun strong => leaves.trans (if_pos (weakPiece_goes strong)),
      fun weak room => leaves.trans ((if_neg (weakPiece_captures weak)).trans (if_pos room)),
      fun weak none' => leaves.trans ((if_neg (weakPiece_captures weak)).trans (if_neg (Nat.not_lt.2 none')))⟩

end Sys2Proof.Machine

/-!
SUPPORT. Decodes, the steps of the ladder, band reads and the pool (R200, R202, R218, R222-R225, R241, R242, R249,
R257): which way each command goes.
-/
namespace Sys2Proof.Machine
section
variable {s : State} {h : HeadIx}

/-! The ladder -/

theorem exec_decodeResult_runs {cell : Fin 18} {j : CwJob} (job : s.cellJob cell.val = some j) (inside : s.flag ldpcPage HDR.ISOLATE = false) :
    exec (.decodeResult cell () () ()) s = .next (s.decodeEnds cell.val j (ldpcDecode j.norm j.limit j.llrs)).settle := by
  change execDecodeResult cell () () () s = _
  simp only [execDecodeResult, job, inside, Bool.false_eq_true, if_false]
  rfl

section Redet
variable {x : SettingRd} {r : Redet} (next : s.redetNext h.val = some (x, r))
include next

theorem exec_redetectionRequest_noCell (none' : s.redetCell h.val = none) :
    exec (.redetectionRequest h) s = .next (s.passDecode { x with todo := x.todo.drop 1 }).settle := by
  change execRedetectionRequest h s = _
  simp only [execRedetectionRequest, next, none']
  rfl

theorem exec_redetectionRequest_starts {c : Nat} {y : Piece} (cell : s.redetCell h.val = some c)
    (cap : s.capAt x.head x.sa r.slot r.beam = some y) (free : storeFind (fun _ => none) s.pool.redet c = none) :
    exec (.redetectionRequest h) s =
      let run := { r with taps := s.redetTaps y r.set, canc := (s.curVals x.head r.beam).canc }
      let t := s.setPool { s.pool with redet := storePut (fun _ => none) s.pool.redet c (some (x.head, x.sa, run)) }
      .next (t.setFlag (bandPage c) BAND.CC_MAP_REDET_BUSY true).settle := by
  change execRedetectionRequest h s = _
  simp only [execRedetectionRequest, next, cell, cap, free]
  rfl

end Redet

/-- The state once a cell's re-detection is taken from it. -/
def State.redetTaken (s : State) (c : Nat) : State :=
  (s.setPool { s.pool with redet := storePut (fun _ => none) s.pool.redet c none }).setFlag (bandPage c) BAND.CC_MAP_REDET_BUSY false

theorem exec_redetectionDone_found {hh sa : Nat} {r : Redet} {x : SettingRd} {y : Piece}
    (runs : storeFind (fun _ => none) s.pool.redet h.val = some (hh, sa, r)) (read : (s.redetTaken h.val).setting hh sa = some x)
    (cap : (s.redetTaken h.val).capAt hh sa r.slot r.beam = some y) :
    exec (.redetectionDone h ()) s =
      let t := s.redetTaken h.val
      let z := { x with todo := x.todo.filter fun y => decide (y ≠ { r with taps := [], canc := [] }) }
      let res := t.redetRun y r (z.slot r.slot).ext
      let took (w : Piece) : Piece := if w = y then Piece.tookSet w r.set (res.mse.getD worstMse) else w
      let u := t.setPool { t.pool with caps := t.pool.caps.map took }
      .next ((u.count (bandPage h.val) BAND.REDET_CNT).passDecode (z.takeRedet r res.llrs)).settle := by
  unfold State.redetTaken at read cap
  refine congrArg done ?_
  unfold State.redetEnd
  simp only [runs, read, cap]
  rfl

/-- Whether a re-detection of the setting runs. -/
def State.redetRuns (s : State) (x : SettingRd) (sa : Nat) : Bool :=
  s.pool.redet.any fun y => match y.2 with
    | some (hh, a, _) => decide (hh = x.head) && decide (a = sa)
    | none => false

/-- The state once a setting may try no more without a revolution. -/
def State.norevOver (s : State) (x : SettingRd) (sa : Nat) : State :=
  s.putSetting { x with todo := if s.redetRuns x sa then x.todo.take 1 else [], cfg := { x.cfg with altMask := 0, turboMax := 0, slideMax := 0 } }

section Norev
variable {sa : Nat} {x : SettingRd} (read : s.setting h.val sa = some x) (step : x.step = .norev)
  (late : x.norevStart + 10000 * x.cfg.budget ≤ s.now)
include read step late

theorem exec_norevBudgetExpiry_late :
    exec (.norevBudgetExpiry h sa) s =
      if s.redetRuns x sa then done (s.norevOver x sa)
      else match (s.norevOver x sa).setting h.val sa with
        | some y => done ((s.norevOver x sa).passDecode y)
        | none => done (s.norevOver x sa) := by
  have goes : ¬(x.step ≠ .norev ∨ s.now < x.norevStart + 10000 * x.cfg.budget) :=
    not_or.2 ⟨Classical.not_not.2 step, Nat.not_lt.2 late⟩
  change execNorevBudgetExpiry h sa s = _
  unfold execNorevBudgetExpiry
  simp only [read]
  exact if_neg goes

theorem exec_norevBudgetExpiry_out (out : s.redetRuns x sa = true) :
    exec (.norevBudgetExpiry h sa) s = .next (s.norevOver x sa).settle :=
  (exec_norevBudgetExpiry_late read step late).trans (if_pos out)

theorem exec_norevBudgetExpiry_none {y : SettingRd} (none' : s.redetRuns x sa = false) (there : (s.norevOver x sa).setting h.val sa = some y) :
    exec (.norevBudgetExpiry h sa) s = .next ((s.norevOver x sa).passDecode y).settle := by
  refine (exec_norevBudgetExpiry_late read step late).trans ((if_neg (Bool.eq_false_iff.1 none')).trans ?_)
  rw [there]
  rfl

end Norev

theorem exec_outerAttemptDone_rung {sa : Nat} {x : SettingRd} (read : s.setting h.val sa = some x) (rung : x.rung 6 = true)
    (inside : s.flag outerPage HDR.ISOLATE = false) (step : x.step = .outer ∨ (x.step = .revOuter ∧ x.decoding = [])) :
    exec (.outerAttemptDone h sa) s = .next ((s.outerAttempt x).startRev h.val).settle := by
  change execOuterAttemptDone h sa s = _
  simp only [execOuterAttemptDone, read]
  exact if_pos ⟨by rw [inside]; rfl, step, rung⟩

theorem exec_ladderTimeout_late {sa t0 : Nat} {x : SettingRd} (read : s.setting h.val sa = some x) (since : x.since = some t0)
    (late : t0 + 1000000 * x.cfg.tmo ≤ s.now) (first : x.timedOut = false) (notBlocks : x.step ≠ .blocks) (notL7 : x.step ≠ .l7) :
    exec (.ladderTimeout h sa) s =
      let t := (s.count outerPage OUTER.LADDER_TIMEOUT).event outerPage 0x4105 4 0xFF sa
      let y : SettingRd := { x with timedOut := true }
      .next (if x.step = .revWait then t.toBlocks y else t.putSetting y).settle := by
  change execLadderTimeout h sa s = _
  simp only [execLadderTimeout, read, since, decide_eq_false (Nat.not_lt.2 late), first, decide_eq_false notBlocks, decide_eq_false notL7,
    Bool.or_self, Bool.false_eq_true, if_false]
  split <;> rfl

/-! The pool -/

section Read
variable {r : ReadReq}

theorem exec_bandReadStart_free (next : (s.startRev h.val).nextRead h.val = some r)
    (head : (s.startRev h.val).accepts (headPage h.val) = true) (band : (s.startRev h.val).accepts (bandPage h.val) = true)
    (idle : ∀ x ∈ (s.startRev h.val).pool.wants, x.head = h.val → x.on = false)
    (still : ∀ x ∈ (s.startRev h.val).pool.settings, x.head = h.val → x.step ≠ .rev)
    (reads : (s.startRev h.val).flag (bandPage h.val) BAND.BAND_STAT_NO_READ = false)
    (rotor : (s.startRev h.val).flag (wheelPage (wheelOfHead h.val)) WHEEL.WH_STAT_ROTOR_UNSURE = false)
    (not2 : (s.startRev h.val).fld (firestatPage h.val) FIRESTAT.STATE ≠ 2)
    (not3 : (s.startRev h.val).fld (firestatPage h.val) FIRESTAT.STATE ≠ 3)
    (admits : (s.startRev h.val).admits (ringOfSetting (saSetting r.sa)) = true) :
    exec (.bandReadStart h) s = .next ((s.startRev h.val).startBandRead h.val r.sa).settle := by
  have noRead : (s.startRev h.val).pool.wants.any (fun x => decide (x.head = h.val) && x.on) = false := by
    simpa [List.any_eq_false] using idle
  have noRev : (s.startRev h.val).pool.settings.any (fun x => decide (x.head = h.val) && decide (x.step = .rev)) = false := by
    simpa [List.any_eq_false] using still
  change execBandReadStart h s = _
  unfold execBandReadStart
  simp only [next, noRead, noRev, head, band, reads, rotor, decide_eq_false not2, decide_eq_false not3, admits, Bool.or_self, Bool.and_self,
    Bool.not_true, Bool.false_eq_true, if_false]
  rfl

end Read

theorem exec_pieceFiled_first {a : Arrival} {r : List Arrival} (first : s.pool.arrivals = a :: r) (inside : s.flag ldpcPage HDR.ISOLATE = false) :
    exec .pieceFiled s = .next ((s.filePiece a r).ladderStep a.head a.sa).settle := by
  change execPieceFiled s = _
  simp only [execPieceFiled, first, inside, Bool.false_eq_true, if_false]
  rfl

/-- What becomes of the codeword taken from a queue. -/
def State.jobStarts (s t : State) (j : CwJob) : Res :=
  if s.fldIn ldpcPage LDPC.ERASE_MAX 0 8192 < erasedBits j.llrs then done (t.eraseSkip j)
  else match if s.accepts ldpcPage then s.nextCell else none with
    | none => done s
    | some c => done (t.cellTakes c j)

theorem exec_decodeStart_B {j : CwJob} {r : List CwJob} (class' : s.classB = true) (first : s.pool.queueB = j :: r) :
    exec .decodeStart s = s.jobStarts (s.setPool { s.pool with queueB := r }) j := by
  change execDecodeStart s = _
  simp only [execDecodeStart, class', if_true, first]
  rfl

theorem exec_decodeStart_A {j : CwJob} {r : List CwJob} (class' : s.classB = false) (first : s.pool.queueA = j :: r) :
    exec .decodeStart s = s.jobStarts (s.setPool { s.pool with queueA := r }) j := by
  change execDecodeStart s = _
  simp only [execDecodeStart, class', Bool.false_eq_true, if_false, first]
  rfl

theorem State.jobStarts_erased {t : State} {j : CwJob} (erased : s.fldIn ldpcPage LDPC.ERASE_MAX 0 8192 < erasedBits j.llrs) :
    s.jobStarts t j = done (t.eraseSkip j) := if_pos erased

theorem State.jobStarts_cell {t : State} {j : CwJob} {c : Nat} (whole : erasedBits j.llrs ≤ s.fldIn ldpcPage LDPC.ERASE_MAX 0 8192)
    (accepts : s.accepts ldpcPage = true) (cell : s.nextCell = some c) : s.jobStarts t j = done (t.cellTakes c j) := by
  unfold State.jobStarts
  rw [if_neg (Nat.not_lt.2 whole), accepts, if_pos rfl, cell]

end

/-- Settles O40: a step of the ladder runs where its setting is in that step, and a read or a codeword where its turn
has come and nothing holds it. -/
theorem ladderAndPoolCommands : Obligations.LadderAndPoolCommands := by
  refine ⟨fun s => ⟨fun _ _ => exec_decodeResult_runs, fun h x r next => ⟨exec_redetectionRequest_noCell next,
    fun _ _ => exec_redetectionRequest_starts next⟩, fun _ _ _ _ _ _ => exec_redetectionDone_found, fun h sa x read step late =>
      ⟨exec_norevBudgetExpiry_out read step late, fun _ => exec_norevBudgetExpiry_none read step late⟩, fun _ _ _ => exec_outerAttemptDone_rung,
    fun _ => rfl, fun _ _ _ _ => exec_ladderTimeout_late⟩, fun s => ⟨fun _ _ => exec_bandReadStart_free, fun _ _ => exec_pieceFiled_first,
      fun j r => ⟨fun class' first => ?_, fun class' first => ?_⟩⟩⟩
  · have starts := exec_decodeStart_B class' first
    exact ⟨fun erased => starts.trans (State.jobStarts_erased erased),
      fun _ whole accepts cell => starts.trans (State.jobStarts_cell whole accepts cell)⟩
  · have starts := exec_decodeStart_A class' first
    exact ⟨fun erased => starts.trans (State.jobStarts_erased erased),
      fun _ whole accepts cell => starts.trans (State.jobStarts_cell whole accepts cell)⟩

end Sys2Proof.Machine

/-!
SUPPORT. Host reads, writes, flushes and the management of one zone (R247, R464, R467-R472, R475-R478, R390, R391):
what each command does that passes its checks.
-/
namespace Sys2Proof.Machine
section
variable {s : State} {c cid ns slba : Nat} {n : NsSt} {k j : Nat} {x : Ctx}

/-! I/O -/

theorem State.ioRead_goes {nlb : Nat} (place : (s.setWork c cid 1 .fresh).ioPlace c ns slba = .ok (n, k, j)) (size : sizeOk n nlb false = true)
    (inside : slba + nlb ≤ n.zones * zsze) (zone : j + nlb ≤ zsze) (online : ((s.setWork c cid 1 .fresh).zone k).state ≠ 6)
    (taken : ((s.setWork c cid 1 .fresh).setWork c cid 1 (.read ns k j nlb)).ctx c cid = some x) :
    s.ioRead c cid ns slba nlb = ((s.setWork c cid 1 .fresh).setWork c cid 1 (.read ns k j nlb)).readGo x ns k j nlb := by
  unfold State.ioRead
  simp only [place, size, Bool.not_true, Bool.false_eq_true, if_false, Nat.not_lt.2 inside, Nat.not_lt.2 zone, online, taken]

/-- A write that may go, once its zone is open and its work listed. -/
def State.writeListed (t : State) (c cid ns : Nat) (n : NsSt) (k nlb : Nat) (fua append zeroes : Bool) : State :=
  (if (t.zone k).state = 0 ∨ (t.zone k).state = 3 then t.openZone ns n k 1 else t).setWork c cid 2
    (.write ns k ((t.zone k).wp + t.pendingLbas k) nlb fua append zeroes false)

theorem State.ioWrite_goes {nlb : Nat} {fua append zeroes : Bool} {t : State} (ht : t = s.setWork c cid 2 .fresh)
    (place : t.ioPlace c ns slba = .ok (n, k, j)) (some' : nlb ≠ 0) (size : zeroes = true ∨ sizeOk n nlb append = true)
    (notFull : (t.zone k).state ≠ 4) (writable : (t.zone k).state ≠ 5) (online : (t.zone k).state ≠ 6)
    (pointer : if append then j = 0 else j = (t.zone k).wp + t.pendingLbas k)
    (room : (t.zone k).wp + t.pendingLbas k + nlb ≤ if (t.zone k).state = 0 then t.newZcap k else (t.zone k).zcap)
    (limit : (t.zone k).state = 0 ∨ (t.zone k).state = 3 → t.openLimit ns (t.zone k) = none)
    (taken : (t.writeListed c cid ns n k nlb fua append zeroes).ctx c cid = some x) :
    s.ioWrite c cid ns slba nlb fua append zeroes =
      (t.writeListed c cid ns n k nlb fua append zeroes).writeGo x ns k ((t.zone k).wp + t.pendingLbas k) nlb fua append zeroes false := by
  subst ht
  have formed : ¬(nlb = 0 ∨ ((!zeroes) = true ∧ (!sizeOk n nlb append) = true)) := by
    rintro (none' | ⟨data, big⟩)
    · exact some' none'
    · rcases size with zero | fits
      · rw [zero] at data
        cases data
      · rw [fits] at big
        cases big
  have start : ¬(append = true ∧ j ≠ 0) := by
    rintro ⟨on, other⟩
    rw [if_pos on] at pointer
    exact other pointer
  have next : ¬((!append) = true ∧ j ≠ ((s.setWork c cid 2 .fresh).zone k).wp + (s.setWork c cid 2 .fresh).pendingLbas k) := by
    rintro ⟨off, other⟩
    rw [if_neg (Bool.eq_false_iff.1 ((Bool.not_eq_true' _).mp off))] at pointer
    exact other pointer
  have free : (if ((s.setWork c cid 2 .fresh).zone k).state = 0 ∨ ((s.setWork c cid 2 .fresh).zone k).state = 3 then
      (s.setWork c cid 2 .fresh).openLimit ns ((s.setWork c cid 2 .fresh).zone k) else none) = none := by
    split
    next new => exact limit new
    next => rfl
  unfold State.writeListed at taken ⊢
  unfold State.ioWrite
  simp only [place, formed, notFull, writable, online, start, next, Nat.not_lt.2 room, free, if_false, taken]

theorem State.ioFlush_goes (one : ns ≠ 0xFFFFFFFF) (allowed : s.nsRefusal c ns = none)
    (taken : (s.setWork c cid 0 (.flush ((s.st.zones.filter fun e => [ns].contains e.2.ns && decide (1 ≤ e.2.state ∧ e.2.state ≤ 5)).map
      fun e => (e.1, 0)))).ctx c cid = some x) :
    s.ioFlush c cid ns =
      let ks := (s.st.zones.filter fun e => [ns].contains e.2.ns && decide (1 ≤ e.2.state ∧ e.2.state ≤ 5)).map fun e => (e.1, 0)
      (s.setWork c cid 0 (.flush ks)).flushGo x ks := by
  unfold State.ioFlush
  simp only [decide_eq_false one, Bool.false_eq_true, if_false, allowed, taken]

theorem State.ioRun_zoneExt (allowed : s.nsRefusal c ns = none) : s.ioRun c cid ns (.zoneExt slba) = s.complete c cid .invalidField := by
  unfold State.ioRun
  simp only [allowed]

/-! One zone -/

section Zone
variable (place : s.ioPlace c ns slba = .ok (n, k, 0))
include place

theorem State.zoneSend_done {act : ZoneAct} {v : State} (acts : s.zoneAct ns n act k = .ok (v, false)) :
    s.zoneSend c cid ns act slba false = v.complete c cid .ok := by
  unfold State.zoneSend
  simp [place, acts]

theorem State.zoneSend_waits {act : ZoneAct} {v : State} (acts : s.zoneAct ns n act k = .ok (v, true))
    (taken : (v.setWork c cid 0 (.finish [k])).ctx c cid = some x) :
    s.zoneSend c cid ns act slba false = (v.setWork c cid 0 (.finish [k])).finishGo x [k] := by
  unfold State.zoneSend
  simp [place, acts, taken]

theorem State.zoneSend_error {act : ZoneAct} {st : NvStatus} (acts : s.zoneAct ns n act k = .error st) :
    s.zoneSend c cid ns act slba false = s.complete c cid st := by
  unfold State.zoneSend
  simp [place, acts]

end Zone

theorem State.zoneAct_open_implicit (st : (s.zone k).state = 1) : s.zoneAct ns n .open_ k = .ok (s.zoneTo k 2, false) := by
  simp [State.zoneAct, st]

theorem State.zoneAct_open_new (st : (s.zone k).state = 0 ∨ (s.zone k).state = 3) (free : s.openLimit ns (s.zone k) = none) :
    s.zoneAct ns n .open_ k = .ok (s.openZone ns n k 2, false) := by
  have other : (s.zone k).state ≠ 2 ∧ (s.zone k).state ≠ 1 := by omega
  simp [State.zoneAct, st, other.1, other.2, free]

theorem State.zoneAct_open_full (st : (s.zone k).state = 4) : s.zoneAct ns n .open_ k = .error .zoneTransition := by
  simp [State.zoneAct, st]

theorem State.zoneAct_close_open (st : (s.zone k).state = 1 ∨ (s.zone k).state = 2) :
    s.zoneAct ns n .close k = .ok (s.zoneTo k 3, false) := by
  have other : (s.zone k).state ≠ 3 := by omega
  simp [State.zoneAct, st, other]

theorem State.zoneAct_close_full (st : (s.zone k).state = 4) : s.zoneAct ns n .close k = .error .zoneTransition := by
  simp [State.zoneAct, st]

theorem State.zoneAct_finish (notFull : (s.zone k).state ≠ 4) (writable : (s.zone k).state ≠ 5) (online : (s.zone k).state ≠ 6) :
    s.zoneAct ns n .finish k = .ok (s.finishZone ns n k, true) := by
  simp [State.zoneAct, notFull, writable, online]

theorem State.zoneAct_reset (used : (s.zone k).state ≠ 0) (writable : (s.zone k).state ≠ 5) (online : (s.zone k).state ≠ 6)
    (free : s.holdsFired k = false) : s.zoneAct ns n .reset k = .ok (s.resetZone k, false) := by
  simp [State.zoneAct, used, writable, online, free]

theorem State.zoneAct_offline (st : (s.zone k).state = 5) : s.zoneAct ns n .offline k = .ok (s.zoneTo k 6, false) := by
  simp [State.zoneAct, st]

end

/-- An I/O command that has been taken runs, and the urgent levels are shown. -/
theorem urgentShow_of_fresh {s t : State} {c cid ns : Nat} {cmd : IoCmd} (fresh : s.FreshIo c cid) (runs : s.ioRun c cid ns cmd = t) :
    done (s.ioCmd c cid ns cmd).urgentShow = .next t.urgentShow.settle := by
  rw [State.ioCmd_fresh fresh, runs]
  rfl

theorem hostProgress_of_fresh {s t : State} {c cid ns : Nat} {cmd : IoCmd} (fresh : s.FreshIo c cid) (runs : s.ioRun c cid ns cmd = t) :
    done (s.ioCmd c cid ns cmd).hostProgress = .next t.hostProgress.settle := by
  rw [State.ioCmd_fresh fresh, runs]
  rfl

/-- Settles O41: a command that has been taken and passes its checks goes on, and one of a zone goes by its state. -/
theorem hostIoCommands : Obligations.HostIoCommands := by
  refine ⟨fun c cid ns s fresh => ⟨fun slba nlb n k j x => ?_, fun slba nlb fua append zeroes n k j x => ?_, fun x one allowed => ?_,
    fun slba allowed => urgentShow_of_fresh fresh (State.ioRun_zoneExt allowed)⟩, fun c cid ns slba s n k fresh place => ?_⟩
  · exact fun place size inside zone online taken =>
      urgentShow_of_fresh fresh (State.ioRead_goes place size inside zone online taken)
  · intro t z start new u goes place some' size notFull writable online pointer room limit taken
    have writes := State.ioWrite_goes (t := t) rfl place some' size notFull writable online pointer room limit taken
    refine ⟨?_, ?_, ?_⟩
    · rintro rfl rfl
      exact urgentShow_of_fresh fresh writes
    · rintro rfl rfl
      exact urgentShow_of_fresh fresh writes
    · rintro rfl rfl
      exact urgentShow_of_fresh fresh writes
  · exact fun taken => urgentShow_of_fresh fresh (State.ioFlush_goes one allowed taken)
  · refine ⟨fun st => ?_, fun st free => ?_, fun st => ?_, fun x notFull writable online taken => ?_, fun used writable online free => ?_,
      fun st => ?_, fun st i which => ?_⟩
    · exact urgentShow_of_fresh fresh (State.zoneSend_done place (State.zoneAct_open_implicit st))
    · exact urgentShow_of_fresh fresh (State.zoneSend_done place (State.zoneAct_open_new st free))
    · exact urgentShow_of_fresh fresh (State.zoneSend_done place (State.zoneAct_close_open st))
    · exact urgentShow_of_fresh fresh (State.zoneSend_waits place (State.zoneAct_finish notFull writable online) taken)
    · exact hostProgress_of_fresh fresh (State.zoneSend_done place (State.zoneAct_reset used writable online free))
    · exact urgentShow_of_fresh fresh (State.zoneSend_done place (State.zoneAct_offline st))
    · rcases which with rfl | rfl
      · exact urgentShow_of_fresh fresh (State.zoneSend_error place (State.zoneAct_open_full st))
      · exact urgentShow_of_fresh fresh (State.zoneSend_error place (State.zoneAct_close_full st))

end Sys2Proof.Machine

/-!
SUPPORT. What lets waiting host commands go on (R246, R248, R390, R391, R407, R477, R498, R530, R532).
-/
namespace Sys2Proof.Machine
section
variable {s : State} {c : ConnIx} {cid : Nat}

theorem exec_stagingWaitExpiry_late {x : Ctx} {ns k first n : Nat} {fua append zeroes : Bool} (taken : s.ctx c.val cid = some x)
    (work : x.work = .write ns k first n fua append zeroes false) (full : s.stgAccepts = false)
    (late : x.since + 100000000 * s.fldIn nvmePage NVME.CTX_CFG_STG_WAIT_MAX 1 255 ≤ s.now) :
    exec (.stagingWaitExpiry c cid) s = .next (s.complete c.val cid (.interrupted 3)).hostProgress.settle := by
  change execStagingWaitExpiry c cid s = _
  simp only [execStagingWaitExpiry, taken, work, full, Nat.not_lt.2 late, Bool.false_eq_true, or_self, if_false]
  rfl

/-- A commit with activation, of an image that is there, is stored and handed over where the image is good. -/
theorem exec_firmwareCommitActivate_image {img : FwImage} (fresh : s.freshAdmin c.val cid = true) (right : s.hasRight c.val 4 = true)
    (paired : s.paired = true) (calm : s.twinActivating = false) (image : s.host.fw = some img) :
    exec (.firmwareCommitActivate c cid) s =
      let k := s.imageCheck img
      let t := (((k.2.storeImage img).complete c.val cid .ok).notice .fwAct).event nvmePage 0x6107 2
      .next (if k.1 = true then State.handAll ((t.setHost { t.host with fwAt := t.now }).setFld nvmePage NVME.FW_ACT 1)
        else (k.2.setHost { k.2.host with fw := none }).complete c.val cid .invalidImage).settle := by
  refine congrArg done ((State.adminWith_fresh fresh right).trans ?_)
  simp only [paired, calm, image, Bool.not_true, Bool.false_eq_true, or_self, if_false]
  cases (s.imageCheck img).1 <;> rfl

theorem exec_fwActivationDrainEnd_late (active : s.fld nvmePage NVME.FW_ACT = 1 ∨ s.fld nvmePage NVME.FW_ACT = 2)
    (late : s.host.fwAt + 2000000000 ≤ s.now) :
    exec .fwActivationDrainEnd s = .next (State.chipReset ((s.forEach (s.host.ctxs.filter fun x => decide (x.work ≠ .aer))
      fun u x => u.drainEnd x).setFld nvmePage NVME.FW_ACT 3) 1).settle :=
  if_neg (not_or.2 ⟨fun ⟨n1, n2⟩ => active.elim n1 n2, Nat.not_lt.2 late⟩)

theorem exec_debugUnlock_eq (sig : List Nat) :
    exec (.debugUnlock sig) s = .next (if s.unlockSigned sig = false then s.event tePage 0x8102 7
      else if s.paired = false then s.unlockNow
      else State.handAll (s.setTe { s.te with unlocking := some s.now })).settle := by
  change execDebugUnlock sig s = _
  unfold execDebugUnlock
  cases s.unlockSigned sig with
  | false => rfl
  | true => cases s.paired <;> rfl

end

/-- Settles O42: each command goes on where its engine is there, and completes or drains where its time is over. -/
theorem hostProgressCommands : Obligations.HostProgressCommands := by
  intro s
  exact ⟨fun _ _ _ _ _ _ _ _ _ _ => exec_stagingWaitExpiry_late,
    fun _ _ _ => ⟨fun inside => if_neg (Bool.eq_false_iff.1 inside), fun inside => if_neg (Bool.eq_false_iff.1 inside)⟩, rfl,
    fun _ _ _ => exec_firmwareCommitActivate_image, exec_fwActivationDrainEnd_late, exec_debugUnlock_eq⟩

end Sys2Proof.Machine

/-!
SUPPORT. Ethernet and TCP (R456-R460, R497).
-/
namespace Sys2Proof.Machine
section
variable {s : State} {p : PortIx} {lanes : BitVec 8} {fec74 : Bool} {mode ok : Nat}

theorem exec_ethLinkUp_managementPort (down : s.flag (ethPage p.val) ETH.ETH_STAT_LINK = false) (port : p.val = portM)
    (lane : bitOf lanes.toNat 0 = true) :
    exec (.ethLinkUp p lanes fec74) s = .next (((s.setFlag (ethPage p.val) ETH.ETH_STAT_AN_DONE true).setFlag
      (ethPage p.val) ETH.ETH_STAT_FEC74 fec74).portUp portM 4 1).settle :=
  (if_neg (Bool.eq_false_iff.1 down)).trans ((if_pos port).trans (if_pos lane))

/-- A data port or the twin's port comes to its lanes where no power state has put it to sleep. -/
theorem exec_ethLinkUp_awake (down : s.flag (ethPage p.val) ETH.ETH_STAT_LINK = false) (port : p.val < portM)
    (awake : s.fld nvmePage NVME.PS_CUR < 3) :
    exec (.ethLinkUp p lanes fec74) s =
      if p.val = portT then (if lanes.toNat % 16 = 15 then done (s.portUp portT 2 0x0F) else done s)
      else if s.cfg (ethPage p.val) ETH.ETH_CFG_RATE = 2 ∨ s.host.fallback.contains p.val then
        match laneGroup lanes.toNat with
        | some (mode, ok) => done (s.portUp p.val mode ok)
        | none => done s
      else if lanes.toNat = 0xFF then done (s.portUp p.val 1 0xFF)
      else done s :=
  (if_neg (Bool.eq_false_iff.1 down)).trans ((if_neg (Nat.ne_of_lt port)).trans (if_neg (Nat.not_le.2 awake)))

theorem exec_ethLinkUp_twinPort (down : s.flag (ethPage p.val) ETH.ETH_STAT_LINK = false) (port : p.val = portT)
    (awake : s.fld nvmePage NVME.PS_CUR < 3) (all : lanes.toNat % 16 = 15) :
    exec (.ethLinkUp p lanes fec74) s = .next (s.portUp portT 2 0x0F).settle :=
  (exec_ethLinkUp_awake down (port ▸ by decide) awake).trans ((if_pos port).trans (if_pos all))

theorem exec_ethLinkUp_eightLanes (down : s.flag (ethPage p.val) ETH.ETH_STAT_LINK = false) (port : p.val < portT)
    (awake : s.fld nvmePage NVME.PS_CUR < 3) (rate : s.cfg (ethPage p.val) ETH.ETH_CFG_RATE ≠ 2) (fast : p.val ∉ s.host.fallback)
    (all : lanes.toNat = 0xFF) : exec (.ethLinkUp p lanes fec74) s = .next (s.portUp p.val 1 0xFF).settle :=
  (exec_ethLinkUp_awake down (Nat.lt_succ_of_lt port) awake).trans ((if_neg (Nat.ne_of_lt port)).trans
    ((if_neg (not_or.2 ⟨rate, fun held => fast (List.contains_iff_mem.1 held)⟩)).trans (if_pos all)))

theorem exec_ethLinkUp_fourLanes (down : s.flag (ethPage p.val) ETH.ETH_STAT_LINK = false) (port : p.val < portT)
    (awake : s.fld nvmePage NVME.PS_CUR < 3) (slow : s.cfg (ethPage p.val) ETH.ETH_CFG_RATE = 2 ∨ p.val ∈ s.host.fallback)
    (group : laneGroup lanes.toNat = some (mode, ok)) :
    exec (.ethLinkUp p lanes fec74) s = .next (s.portUp p.val mode ok).settle := by
  rw [exec_ethLinkUp_awake down (Nat.lt_succ_of_lt port) awake, if_neg (Nat.ne_of_lt port), if_pos (slow.imp_right List.contains_iff_mem.2), group]
  rfl

theorem exec_ethLinkFallback_group (port : p.val < portT) (auto : s.cfg (ethPage p.val) ETH.ETH_CFG_RATE = 0)
    (short : lanes.toNat ≠ 0xFF)
    (late : s.flag (ethPage p.val) ETH.ETH_STAT_LINK = true ∨ storeFind (fun _ => 0) s.host.linkStart p.val + 500000000 ≤ s.now)
    (group : laneGroup lanes.toNat = some (mode, ok)) :
    exec (.ethLinkFallback p lanes) s = .next (((((s.setHost { s.host with fallback := (p.val :: s.host.fallback).eraseDups }).portUp
      p.val mode ok).istat (ethPage p.val) 10).event (ethPage p.val) 0x6102 3).settle) := by
  have waits : (!s.flag (ethPage p.val) ETH.ETH_STAT_LINK &&
      decide (s.now < storeFind (fun _ => 0) s.host.linkStart p.val + 500000000)) = false := by
    obtain up | long := late
    · rw [up]; rfl
    · rw [decide_eq_false (Nat.not_lt.2 long), Bool.and_false]
  change execEthLinkFallback p lanes s = _
  simp only [execEthLinkFallback, waits, auto, short, group, Nat.not_le.2 port, ne_eq, not_true_eq_false, or_self, Bool.false_eq_true, if_false]
  rfl

theorem exec_ethLinkDown_up (up : s.flag (ethPage p.val) ETH.ETH_STAT_LINK = true) :
    exec (.ethLinkDown p) s = .next (s.portDown p.val).settle :=
  congrArg done (if_pos up)

/-- A data port hears a frame that is neither too long nor of another VLAN: the frame's own case decides. -/
theorem exec_ethFrameReceive_heard {tag len : Nat} {f : RxFrame} {t : State} (up : s.flag (ethPage p.val) ETH.ETH_STAT_LINK = true)
    (there : s.flag (ethPage p.val) HDR.ISOLATE = false) (here : s.fld (ethPage p.val) ETH.VLAN_VID = tag) (short : len ≤ 9216)
    (counted : s.count (ethPage p.val) ETH.RX_FRAMES = t) :
    exec (.ethFrameReceive p ⟨tag, len, f⟩) s = .next (State.settle (match f with
      | .badFcs => s.count (ethPage p.val) ETH.RX_FCS_ERR
      | .pause => t.count (ethPage p.val) ETH.RX_DROP
      | .pfc mask => (t.count (ethPage p.val) ETH.PFC_RX).setFld (ethPage p.val) ETH.ETH_STAT_PFC_PAUSED
          (mask.toNat &&& t.fld (ethPage p.val) ETH.ETH_CFG_PFC_EN)
      | .twin => if p.val = portT then t else t.count (ethPage p.val) ETH.RX_DROP
      | .otherMac | .fragment | .options | .extHeader => t.count (ethPage p.val) ETH.RX_DROP
      | .other => t
      | .arp ip | .icmp4 ip => if p.val ≠ portT && s.hasIp4 p.val ip then t.answerFrame p.val f else t.count (ethPage p.val) ETH.RX_DROP
      | .ndp ip | .icmp6 ip => if p.val ≠ portT && s.hasIp6 p.val ip then t.answerFrame p.val f else t.count (ethPage p.val) ETH.RX_DROP
      | .tcp4 ip | .udp4 ip _ => if p.val ≠ portT && s.hasIp4 p.val ip then t else t.count (ethPage p.val) ETH.RX_DROP
      | .tcp6 ip | .udp6 ip _ => if p.val ≠ portT && s.hasIp6 p.val ip then t else t.count (ethPage p.val) ETH.RX_DROP)) := by
  subst counted
  change execEthFrameReceive p _ s = _
  cases f <;> simp only [execEthFrameReceive, up, there, here, Nat.not_lt.2 short, Bool.not_true, Bool.false_eq_true, ne_eq,
    not_true_eq_false, and_false, or_self, if_false] <;> rfl

/-- A frame longer than 9,216 bytes, whole by its checksum, counts as received and is dropped (log entry 105). -/
theorem exec_ethFrameReceive_long {tag len : Nat} {f : RxFrame} (up : s.flag (ethPage p.val) ETH.ETH_STAT_LINK = true)
    (there : s.flag (ethPage p.val) HDR.ISOLATE = false) (long : 9216 < len) (whole : f ≠ .badFcs) :
    exec (.ethFrameReceive p ⟨tag, len, f⟩) s =
      .next ((s.count (ethPage p.val) ETH.RX_FRAMES).count (ethPage p.val) ETH.RX_DROP).settle := by
  change execEthFrameReceive p _ s = _
  simp only [execEthFrameReceive, up, there, long, whole, Bool.not_true, Bool.false_eq_true, or_self, true_or, if_false, if_true]
  rfl

/-- A frame of another VLAN counts as received and is dropped (log entry 167). -/
theorem exec_ethFrameReceive_otherVlan {tag len ip : Nat} (up : s.flag (ethPage p.val) ETH.ETH_STAT_LINK = true)
    (there : s.flag (ethPage p.val) HDR.ISOLATE = false) (other : tag ≠ s.fld (ethPage p.val) ETH.VLAN_VID) :
    exec (.ethFrameReceive p ⟨tag, len, .tcp4 ip⟩) s =
      .next ((s.count (ethPage p.val) ETH.RX_FRAMES).count (ethPage p.val) ETH.RX_DROP).settle :=
  (if_neg (not_or.2 ⟨by rw [up]; decide, Bool.eq_false_iff.1 there⟩)).trans (if_pos (.inr ⟨rfl, other⟩))

theorem exec_keepAliveExpiry_late {a : Fin 64} {x : Assoc} (opened : s.assoc (a.val + 1) = some x) (timed : x.kato ≠ 0)
    (late : x.last + 1000000 * x.kato ≤ s.now) : exec (.keepAliveExpiry a) s =
      .next ((s.endAssoc (a.val + 1) 2).event nvmePage 0x6105 3 0xFF (a.val + 1)).psGo.settle := by
  change execKeepAliveExpiry a s = _
  simp only [execKeepAliveExpiry, opened, timed, Nat.not_lt.2 late, or_self, if_false]
  rfl

/-- A frame for one of a data port's own addresses passes the address filter, and one for another address does not. -/
theorem ownAddress_eq {own : Bool} (data : p.val ≠ portT) : (decide (p.val ≠ portT) && own) = own := by
  rw [decide_eq_true data, Bool.true_and]

/-- What an up port does with a frame of its VLAN that is not too long. -/
theorem exec_ethFrameReceive_cases {len : Nat} (up : s.flag (ethPage p.val) ETH.ETH_STAT_LINK = true)
    (there : s.flag (ethPage p.val) HDR.ISOLATE = false) (short : len ≤ 9216) :
    let b := ethPage p.val
    let tag := s.fld b ETH.VLAN_VID
    let t := s.count b ETH.RX_FRAMES
    let drop (f : RxFrame) : Prop := exec (.ethFrameReceive p ⟨tag, len, f⟩) s = .next (t.count b ETH.RX_DROP).settle
    exec (.ethFrameReceive p ⟨tag, len, .badFcs⟩) s = .next (s.count b ETH.RX_FCS_ERR).settle ∧
    drop .pause ∧ drop .otherMac ∧ drop .fragment ∧ drop .options ∧ drop .extHeader ∧
    (∀ mask, exec (.ethFrameReceive p ⟨tag, len, (.pfc mask)⟩) s =
      .next ((t.count b ETH.PFC_RX).setFld b ETH.ETH_STAT_PFC_PAUSED (mask.toNat &&& (t.fld b ETH.ETH_CFG_PFC_EN))).settle) ∧
    (∀ ip, p.val ≠ portT →
      (s.hasIp4 p.val ip = true → exec (.ethFrameReceive p ⟨tag, len, (.arp ip)⟩) s = .next (t.answerFrame p.val (.arp ip)).settle ∧
        exec (.ethFrameReceive p ⟨tag, len, (.icmp4 ip)⟩) s = .next (t.answerFrame p.val (.icmp4 ip)).settle) ∧
      (s.hasIp4 p.val ip = false → drop (.arp ip) ∧ drop (.icmp4 ip) ∧ drop (.tcp4 ip))) ∧
    (∀ ip, p.val ≠ portT →
      (s.hasIp6 p.val ip = true → exec (.ethFrameReceive p ⟨tag, len, (.ndp ip)⟩) s = .next (t.answerFrame p.val (.ndp ip)).settle) ∧
      (s.hasIp6 p.val ip = false → drop (.ndp ip) ∧ drop (.icmp6 ip) ∧ drop (.tcp6 ip))) := by
  intro b tag t drop
  have heard (f : RxFrame) := exec_ethFrameReceive_heard (f := f) up there (rfl : _ = tag) short (rfl : _ = t)
  refine ⟨heard _, heard _, heard _, heard _, heard _, heard _, fun _ => heard _, fun ip data => ⟨fun own => ⟨?_, ?_⟩, fun other => ⟨?_, ?_, ?_⟩⟩,
    fun ip data => ⟨fun own => ?_, fun other => ⟨?_, ?_, ?_⟩⟩⟩
  all_goals refine (heard _).trans (congrArg done ?_)
  · exact if_pos ((ownAddress_eq data).trans own)
  · exact if_pos ((ownAddress_eq data).trans own)
  · exact if_neg (Bool.eq_false_iff.1 ((ownAddress_eq data).trans other))
  · exact if_neg (Bool.eq_false_iff.1 ((ownAddress_eq data).trans other))
  · exact if_neg (Bool.eq_false_iff.1 ((ownAddress_eq data).trans other))
  · exact if_pos ((ownAddress_eq data).trans own)
  · exact if_neg (Bool.eq_false_iff.1 ((ownAddress_eq data).trans other))
  · exact if_neg (Bool.eq_false_iff.1 ((ownAddress_eq data).trans other))
  · exact if_neg (Bool.eq_false_iff.1 ((ownAddress_eq data).trans other))

end

/-- Settles O43: a port comes up by its lanes and its power state, and a frame is taken by its kind. -/
theorem networkCommands : Obligations.NetworkCommands := by
  intro s
  exact ⟨fun _ _ _ down => ⟨exec_ethLinkUp_managementPort down, exec_ethLinkUp_twinPort down, exec_ethLinkUp_eightLanes down,
      fun _ _ => exec_ethLinkUp_fourLanes down⟩,
    fun _ _ _ _ => exec_ethLinkFallback_group, fun _ => exec_ethLinkDown_up,
    fun _ _ up there => ⟨fun _ => exec_ethFrameReceive_long up there, fun _ _ => exec_ethFrameReceive_otherVlan up there,
      exec_ethFrameReceive_cases up there⟩,
    fun _ => rfl, fun _ _ => exec_keepAliveExpiry_late, fun _ => ⟨rfl, rfl⟩⟩

end Sys2Proof.Machine

/-!
SUPPORT. Connections: TCP, TLS and the NVMe/TCP start (R460-R464).
-/
namespace Sys2Proof.Machine
section
variable {s : State} {c : ConnIx} {k : Conn} {cid : Nat} {data : List Nat}

/-- The connection that a SYN opens: it waits for the handshake's end, with nothing set up above TCP. -/
def Conn.opened (s : State) (p : PortIx) (seg : TcpSeg) : Conn :=
  let iss := s.free.1 % 2 ^ 32
  { port := p.val, tcp := .synRcvd, rcvNxt := (seg.seq + 1) % 2 ^ 32, sndNxt := (iss + 1) % 2 ^ 32, sndUna := iss, rto := 1000000000,
    timer := s.free.2.now, mss := s.free.2.mss p.val seg.six, tls := none, ic := false, hdgst := false, ddgst := false, maxR2t := 0,
    assoc := none, qid := 0, size := 0, stopped := false, window := [] }

theorem State.conn_setConn_self (s : State) (c : Nat) (x : Option Conn) : (s.setConn c x).conn c = x :=
  storeFind_storePut_self _ _ _ _

/-- A SYN to a port that listens opens a connection and is answered. -/
theorem exec_tcpSegment_syn {p : PortIx} {seg : TcpSeg} (port : p.val < portT) (up : s.flag (ethPage p.val) ETH.ETH_STAT_LINK = true)
    (new : s.conn c.val = none) (there : s.flag (ethPage p.val) HDR.ISOLATE = false) (serves : s.flag nvmePage HDR.ISOLATE = false)
    (noRst : seg.rst = false) (noAck : seg.ack = false) (syn : seg.syn = true) (listens : s.listens seg.dst = true) :
    exec (.tcpSegment c p seg) s = .next (((s.free.2.setConn c.val (some (Conn.opened s p seg))).send
      (.tcpSyn c.val (Conn.opened s p seg).sndUna (Conn.opened s p seg).rcvNxt (Conn.opened s p seg).mss)).settle) := by
  change execTcpSegment c p seg s = _
  simp only [execTcpSegment, up, new, there, serves, noRst, noAck, syn, listens, Nat.not_le.2 port, Bool.not_true, Bool.false_eq_true, or_self,
    if_false]
  rfl

theorem tcpSegment_opens {p : PortIx} {seg : TcpSeg} (port : p.val < portT) (up : s.flag (ethPage p.val) ETH.ETH_STAT_LINK = true)
    (new : s.conn c.val = none) (there : s.flag (ethPage p.val) HDR.ISOLATE = false) (serves : s.flag nvmePage HDR.ISOLATE = false)
    (noRst : seg.rst = false) (noAck : seg.ack = false) (syn : seg.syn = true) (listens : s.listens seg.dst = true) :
    ∃ k t, exec (.tcpSegment c p seg) s = .next t ∧ t.conn c.val = some k ∧ k.tcp = .synRcvd ∧ k.port = p.val ∧
      k.rcvNxt = (seg.seq + 1) % 2 ^ 32 ∧ k.tls = none ∧ k.ic = false ∧ k.assoc = none ∧ k.mss = s.mss p.val seg.six ∧
      t.out = s.out ++ [.tcpSyn c.val k.sndUna k.rcvNxt k.mss] := by
  refine ⟨Conn.opened s p seg, _, exec_tcpSegment_syn port up new there serves noRst noAck syn listens, ?_, rfl, rfl, rfl, rfl, rfl, rfl, rfl, ?_⟩
  · rw [State.conn, State.settle_host]
    exact State.conn_setConn_self _ _ _
  · rw [State.settle_out]
    rfl

theorem exec_tcpRetransmitTimeout_late (there : s.conn c.val = some k) (late : k.timer + k.rto ≤ s.now) :
    exec (.tcpRetransmitTimeout c) s = .next ((s.setConn c.val
      (some { k with rto := min 1000000000 (2 * k.rto), timer := s.now })).send
      (if k.tcp = .synRcvd then .tcpSyn c.val k.sndUna k.rcvNxt k.mss
        else .tcp c.val false true false false k.sndUna k.rcvNxt)).settle := by
  change execTcpRetransmitTimeout c s = _
  simp only [execTcpRetransmitTimeout, there, Nat.not_lt.2 late, if_false]
  rfl

/-- A handshake is good with a PSK that is held, of the suite's hash, where the suite is allowed. -/
theorem tlsGood_iff {psk : Nat} {suite128 ok : Bool} :
    (ok && (s.te.psks.any fun e => decide (e.1 = psk) && decide (e.2.1 = if suite128 then 1 else 2)) &&
        (!suite128 || s.flag tlsPage TLS.TLS_CFG_SUITE_128)) = true ↔
      ok = true ∧ (∃ e ∈ s.te.psks, e.1 = psk ∧ e.2.1 = if suite128 then 1 else 2) ∧
        (suite128 = false ∨ s.flag tlsPage TLS.TLS_CFG_SUITE_128 = true) := by
  simp only [Bool.and_eq_true, Bool.or_eq_true, Bool.not_eq_true', List.any_eq_true, decide_eq_true_eq, and_assoc]

theorem exec_tlsHandshake_first {psk : Nat} {suite128 ok : Bool} (there : s.conn c.val = some k) (up : k.tcp = .established)
    (plain : k.tls = none) (early : k.ic = false) (accepts : s.accepts tlsPage = true) :
    exec (.tlsHandshake c psk suite128 ok) s = .next (State.settle (
      if ok && (s.te.psks.any fun e => decide (e.1 = psk) && decide (e.2.1 = if suite128 then 1 else 2)) &&
          (!suite128 || s.flag tlsPage TLS.TLS_CFG_SUITE_128) then
        ((s.setConn c.val (some { k with tls := some suite128 })).count tlsPage TLS.HS_OK).hostShow
      else (((s.count tlsPage TLS.HS_FAIL).istat tlsPage 8).event tlsPage 0x6103 7).finish c.val)) := by
  change execTlsHandshake c psk suite128 ok s = _
  simp only [execTlsHandshake, there, up, plain, early, accepts, Option.isSome_none, ne_eq, not_true_eq_false, Bool.not_true,
    Bool.false_eq_true, or_self, if_false]
  exact (apply_ite done _ _ _).symm

theorem exec_tlsHandshake_keyUpdate {psk : Nat} {suite128 : Bool} (there : s.conn c.val = some k) (secured : k.tls.isSome = true) :
    exec (.tlsHandshake c psk suite128 true) s = .next (s.count tlsPage TLS.KEY_UPDATES).settle ∧
    exec (.tlsHandshake c psk suite128 false) s = .next (s.badRecord c.val).settle := by
  change execTlsHandshake c psk suite128 true s = _ ∧ execTlsHandshake c psk suite128 false s = _
  simp only [execTlsHandshake, there, secured, if_true, Bool.false_eq_true, if_false]
  exact ⟨rfl, rfl⟩

theorem exec_icreq_plain {hdgst ddgst : Bool} {maxr2t : Nat} (there : s.conn c.val = some k) (up : k.tcp = .established)
    (required : s.flag tlsPage TLS.TLS_CFG_REQUIRE = true) (plain : k.tls = none) :
    exec (.icreq c 0 hdgst ddgst maxr2t) s = .next (s.finish c.val).settle := by
  change execIcreq c 0 hdgst ddgst maxr2t s = _
  simp only [execIcreq, there, up, required, plain, Option.isNone_none, ne_eq, not_true_eq_false, and_self, if_false, if_true]
  rfl

theorem exec_icreq_answered {hdgst ddgst : Bool} {maxr2t : Nat} (there : s.conn c.val = some k) (up : k.tcp = .established)
    (secure : s.flag tlsPage TLS.TLS_CFG_REQUIRE = false ∨ k.tls ≠ none) (new : k.ic = false) :
    exec (.icreq c 0 hdgst ddgst maxr2t) s = .next ((s.setConn c.val (some { k with
      ic := true, hdgst := hdgst, ddgst := ddgst, maxR2t := min 4 (maxr2t + 1) })).send (.icResp c.val hdgst ddgst)).settle := by
  have enough : ¬ (s.flag tlsPage TLS.TLS_CFG_REQUIRE = true ∧ k.tls.isNone = true) := fun ⟨required, plain⟩ =>
    secure.elim (fun free => Bool.eq_false_iff.1 free required) fun held => held (Option.isNone_iff_eq_none.1 plain)
  change execIcreq c 0 hdgst ddgst maxr2t s = _
  simp only [execIcreq, there, up, enough, new, ne_eq, not_true_eq_false, Bool.false_eq_true, or_self, if_false]
  rfl

theorem exec_capsuleCmd_taken (there : s.conn c.val = some k) (started : k.ic = true) (short : data.length ≤ 8192)
    (free : s.ctx c.val cid = none) (runs : k.stopped = false) (room : s.ctxRoom c.val = true) :
    exec (.capsuleCmd c cid data .good) s = .next (s.takeCtx c.val cid data).settle := by
  change execCapsuleCmd c cid data .good s = _
  simp only [execCapsuleCmd, there, started, Nat.not_lt.2 short, free, runs, room, reduceCtorEq, decide_false, Bool.and_false, Bool.or_self,
    Option.isSome_none, Bool.not_true, Bool.not_false, Bool.false_eq_true, and_false, and_self, if_false, if_true]
  rfl

/-- A capsule without room waits in the connection's window, and the connection takes no more. -/
theorem exec_capsuleCmd_windowed (there : s.conn c.val = some k) (started : k.ic = true) (short : data.length ≤ 8192)
    (free : s.ctx c.val cid = none) (noRoom : k.stopped = true ∨ s.ctxRoom c.val = false) (exhausted : s.host.exhausted = true) :
    exec (.capsuleCmd c cid data .good) s =
      .next (s.setConn c.val (some { k with stopped := true, window := k.window ++ [(cid, data)] })).settle := by
  have full : ¬ ((!k.stopped) = true ∧ s.ctxRoom c.val = true) := fun ⟨runs, room⟩ =>
    noRoom.elim (fun stopped => by rw [stopped] at runs; cases runs) fun none => Bool.eq_false_iff.1 none room
  have marked (w : Conn) : (s.setConn c.val (some w)).host.exhausted = true := exhausted
  change execCapsuleCmd c cid data .good s = _
  simp only [execCapsuleCmd, there, started, Nat.not_lt.2 short, free, full, marked, reduceCtorEq, decide_false, Bool.and_false, Bool.or_self,
    Option.isSome_none, Bool.not_true, Bool.false_eq_true, and_false, true_or, if_false, if_true]
  rfl

theorem exec_capsuleCmd_badRecord (there : s.conn c.val = some k) (started : k.ic = true) (secured : k.tls.isSome = true) :
    exec (.capsuleCmd c cid data .badRecord) s = .next (s.badRecord c.val).settle := by
  change execCapsuleCmd c cid data .badRecord s = _
  simp only [execCapsuleCmd, there, started, secured, Bool.not_true, Bool.false_eq_true, and_self, if_false, if_true]
  rfl

theorem exec_capsuleCmd_badDigest (there : s.conn c.val = some k) (started : k.ic = true) (digested : k.hdgst = true ∨ k.ddgst = true) :
    exec (.capsuleCmd c cid data .badDigest) s = .next (s.terminate c.val).settle := by
  have checked : (k.hdgst || k.ddgst) = true := Bool.or_eq_true_iff.2 digested
  change execCapsuleCmd c cid data .badDigest s = _
  simp only [execCapsuleCmd, there, started, checked, Bool.not_true, Bool.false_eq_true, reduceCtorEq, and_false, decide_true, Bool.true_and,
    Bool.true_or, if_false, if_true]
  rfl

theorem exec_h2cData_inOrder {x : Ctx} {bytes : List Nat} {ns kz j n : Nat} {fua append : Bool} {d : NsSt} (there : s.conn c.val = some k)
    (taken : s.ctx c.val cid = some x) (work : x.work = .write ns kz j n fua append false true) (space : s.nsp ns = some d)
    (short : bytes.length ≤ 131072) (fits : x.data.length + bytes.length ≤ n * d.lbaBytes) :
    exec (.h2cData c cid x.data.length bytes .good) s =
      .next (s.setCtx { x with data := x.data ++ bytes }).hostProgress.settle := by
  change execH2cData c cid x.data.length bytes .good s = _
  simp only [execH2cData, there, taken, work, space, Nat.not_lt.2 short, Nat.not_lt.2 fits, reduceCtorEq, decide_false, Bool.and_false,
    Bool.not_true, Bool.false_eq_true, and_false, ne_eq, not_true_eq_false, or_self, if_false]
  rfl

theorem exec_nvmeConnect_known {x : Ctx} {host qid size cntlid kato : Nat} {disc : Bool} (there : s.conn c.val = some k)
    (taken : s.ctx c.val cid = some x) (fresh : x.work = .fresh) (new : k.assoc = none) (known : (s.aclOf host).isSome = true)
    (allowed : disc = false ∨ s.flag chipPage CHIP.ROLE = true) :
    exec (.nvmeConnect c cid host disc qid size cntlid kato) s =
      if qid = 0 then done (s.connectAdmin c.val cid k host size cntlid kato disc).psGo
      else done (s.connectIo c.val cid k host qid size cntlid) := by
  have served : (disc && !s.flag chipPage CHIP.ROLE) = false := by
    obtain io | active := allowed
    · rw [io]; rfl
    · rw [active, Bool.not_true, Bool.and_false]
  have listed : ¬ (s.aclOf host).isNone = true := fun none => by rw [Option.isNone_iff_eq_none.1 none] at known; cases known
  change execNvmeConnect c cid host disc qid size cntlid kato s = _
  simp only [execNvmeConnect, there, taken, fresh, new, served, listed, ne_eq, not_true_eq_false, Option.isSome_none, Bool.false_eq_true, or_self,
    if_false]

/-- The admin queue's Connect takes the first free association. -/
theorem State.connectAdmin_free {host size cntlid kato i : Nat} {disc : Bool}
    (free : (List.range 64).find? (fun i => (s.assoc (i + 1)).isNone) = some i) (sized : size ≠ 0) (short : size ≤ 32)
    (any : cntlid = 0xFFFF) :
    let a : Assoc := { host := host, disc := disc, kato := (kato + 99) / 100 * 100, last := s.now, acre := false, aec := 0, aers := [],
                       pend := [], ps := 0, auto := 0, apst := false, errs := [] }
    let t := (s.setAssoc (i + 1) (some a)).setConn c.val (some { k with assoc := some (i + 1), qid := 0, size := size })
    s.connectAdmin c.val cid k host size cntlid kato disc =
      ((t.hostShow).istat nvmePage 8).complete c.val cid .ok (s.side * 0x100 + i + 1) := by
  intro a t
  have good : ¬ (size = 0 ∨ 32 < size ∨ cntlid ≠ 0xFFFF) := not_or.2 ⟨sized, not_or.2 ⟨Nat.not_lt.2 short, fun n => n any⟩⟩
  unfold State.connectAdmin
  simp only [free, good, if_false]
  rfl

end

/-- Settles O44: a connection opens, is secured and started, and takes its commands, each layer by its own checks. -/
theorem connectionCommands : Obligations.ConnectionCommands := by
  intro c s
  refine ⟨fun _ _ => tcpSegment_opens, fun _ => exec_tcpRetransmitTimeout_late, fun k psk suite128 ok there up plain early accepts => ⟨fun good => ?_, fun bad => ?_⟩,
    fun _ _ _ => exec_tlsHandshake_keyUpdate, fun _ _ _ _ there up => ⟨exec_icreq_plain there up, exec_icreq_answered there up⟩,
    fun _ _ _ there started short free => ⟨exec_capsuleCmd_taken there started short free, exec_capsuleCmd_windowed there started short free⟩,
    fun _ _ _ there started => ⟨exec_capsuleCmd_badRecord there started, exec_capsuleCmd_badDigest there started⟩,
    fun _ _ _ _ _ _ _ _ _ _ _ => exec_h2cData_inOrder, rfl,
    fun k x cid host size cntlid kato disc there taken fresh new known allowed => ⟨fun i free sized short any => ?_, fun qid io => ?_⟩⟩
  · exact (exec_tlsHandshake_first there up plain early accepts).trans (congrArg done (if_pos (tlsGood_iff.2 good)))
  · exact (exec_tlsHandshake_first there up plain early accepts).trans (congrArg done (if_neg fun good => bad (tlsGood_iff.1 good)))
  · refine (exec_nvmeConnect_known there taken fresh new known allowed).trans ((if_pos rfl).trans ?_)
    exact congrArg (fun u : State => done u.psGo) (State.connectAdmin_free free sized short any)
  · exact (exec_nvmeConnect_known there taken fresh new known allowed).trans (if_neg io)

end Sys2Proof.Machine

/-!
SUPPORT. Admin commands that read (R465, R479, R485-R489) and that set (R478, R492, R494, R495, R497-R499, R530).
-/
namespace Sys2Proof.Machine
section
variable {s : State} {c : ConnIx} {cid ns : Nat}

/-- An admin command that was just taken completes as its body says. -/
theorem done_admin {f : State → State} {t : State} (fresh : s.freshAdmin c.val cid = true) (acts : f s = t) :
    done (s.admin c.val cid f) = .next t.settle :=
  congrArg done ((State.admin_fresh fresh).trans acts)

theorem exec_nvmeIdentify_controllers (fresh : s.freshAdmin c.val cid = true) :
    exec (.nvmeIdentify c cid 1 ns) s = .next (s.complete c.val cid .ok 0 (s.identifyController c.val)).settle ∧
    exec (.nvmeIdentify c cid 6 ns) s = .next (s.complete c.val cid .ok 0 identifyZnsController).settle :=
  ⟨done_admin fresh rfl, done_admin fresh rfl⟩

theorem exec_nvmeIdentify_namespace {n : NsSt} (fresh : s.freshAdmin c.val cid = true) (there : s.nsp ns = some n)
    (attached : s.cntlid c.val ∈ n.attached) (seen : s.inMask c.val ns = true) :
    exec (.nvmeIdentify c cid 0 ns) s = .next (s.complete c.val cid .ok 0 (n.identify ns)).settle ∧
    exec (.nvmeIdentify c cid 5 ns) s = .next (s.complete c.val cid .ok 0 identifyZnsNs).settle := by
  have shown : (n.attached.contains (s.cntlid c.val) && s.inMask c.val ns) = true :=
    Bool.and_eq_true_iff.2 ⟨List.contains_iff_mem.2 attached, seen⟩
  constructor
  all_goals
    refine done_admin fresh ?_
    simp only [there, shown, if_true, reduceCtorEq, or_true, true_or, if_false, Nat.reduceEqDiff]

theorem exec_getLogC2_clear (fresh : s.freshAdmin c.val cid = true) (len : Nat) (right : s.hasRight c.val 3 = true) :
    exec (.getLogC2 c cid true len) s =
      let t := s.complete c.val cid .ok 0 (s.logC2.take len)
      .next (State.settle { t with jr := { t.jr with interrupted := t.jr.interrupted.drop ((len - 16) / 32) } }) :=
  done_admin fresh (if_neg (by rw [right]; decide))

theorem exec_getLogC2_denied (fresh : s.freshAdmin c.val cid = true) (len : Nat) (right : s.hasRight c.val 3 = false) :
    exec (.getLogC2 c cid true len) s = .next (s.complete c.val cid .accessDenied).settle :=
  done_admin fresh (if_pos (by rw [right]; rfl))

theorem exec_getLogC4_namespace {offset len : Nat} (fresh : s.freshAdmin c.val cid = true) (there : (s.nsp ns).isSome = true)
    (aligned : offset % 512 = 0) :
    exec (.getLogC4 c cid ns offset len) s = .next (s.complete c.val cid .ok 0 (((s.logC4 ns).drop offset).take len)).settle :=
  done_admin fresh ((if_neg fun none => by rw [Option.isNone_iff_eq_none.1 none] at there; cases there).trans (if_neg fun n => n aligned))

theorem exec_getLogC5_namespace {offset len : Nat} {n : NsSt} (fresh : s.freshAdmin c.val cid = true) (there : s.nsp ns = some n)
    (right : s.hasRight c.val 0 = true) (seen : s.inMask c.val ns = true) (aligned : offset % 8 = 0) :
    exec (.getLogC5 c cid ns offset len) s = .next (s.complete c.val cid .ok 0 (logBytes (s.logC5 n) offset len)).settle := by
  refine done_admin fresh ?_
  simp only [there, right, seen, aligned, Bool.not_true, Bool.false_eq_true, ne_eq, not_true_eq_false, if_false]

theorem exec_setFeaturesC1_namespace {on : Bool} {n : NsSt} (fresh : s.freshAdmin c.val cid = true) (there : s.nsp ns = some n) :
    let m : NsSt := { n with mirrorAck := on }
    exec (.setFeaturesC1 c cid ns on) s =
      .next (((s.setNsp ns (some m)).tSend clsControl (.forward (.nsBinding ns m.binding))).complete c.val cid .ok).settle := by
  refine done_admin fresh ?_
  simp only [there]

/-- A standard feature takes effect before the power state is brought up to date. -/
theorem done_adminPs {f : State → State} {t : State} (fresh : s.freshAdmin c.val cid = true) (acts : f s = t) :
    done (s.admin c.val cid f).psGo = .next t.psGo.settle :=
  congrArg (fun u : State => done u.psGo) ((State.admin_fresh fresh).trans acts)

theorem exec_powerManagement_allowed {ps : Fin 5} (fresh : s.freshAdmin c.val cid = true) (allowed : ps.val < 3 ∨ s.hasRight c.val 2 = true) :
    exec (.powerManagement c cid ps) s =
      .next ((s.withAssoc c.val fun x => { x with ps := ps.val, auto := 0 }).complete c.val cid .ok).psGo.settle := by
  refine done_adminPs fresh (if_neg fun ⟨deep, noRight⟩ => allowed.elim (Nat.not_lt.2 deep) fun right => ?_)
  rw [right] at noRight
  cases noRight

theorem exec_asynchronousEventRequest_pending {x : Assoc} {n : Notice} {r : List Notice} (fresh : s.freshAdmin c.val cid = true)
    (there : s.assocOf c.val = some x) (pending : x.pend = n :: r) :
    exec (.asynchronousEventRequest c cid) s =
      .next (((s.withAssoc c.val fun y => { y with pend := r }).send (.aen c.val cid n)).dropCtx c.val cid).settle := by
  refine done_admin fresh ?_
  simp only [there, pending]

theorem exec_asynchronousEventRequest_waits {x : Assoc} (fresh : s.freshAdmin c.val cid = true) (there : s.assocOf c.val = some x)
    (none : x.pend = []) :
    exec (.asynchronousEventRequest c cid) s =
      .next ((s.withAssoc c.val fun y => { y with aers := y.aers ++ [(c.val, cid)] }).setWork c.val cid 0 .aer).settle := by
  refine done_admin fresh ?_
  simp only [there, none]

theorem exec_firmwareDownload_right {img : FwImage} (fresh : s.freshAdmin c.val cid = true) (right : s.hasRight c.val 4 = true) :
    exec (.firmwareDownload c cid img) s = .next ((s.setHost { s.host with fw := some img }).complete c.val cid .ok).settle :=
  congrArg done (State.adminWith_fresh fresh right)

theorem exec_firmwareCommitStore_image {action : Fin 3} {img : FwImage} (fresh : s.freshAdmin c.val cid = true)
    (right : s.hasRight c.val 4 = true) (image : s.host.fw = some img) :
    let k := s.imageCheck img
    exec (.firmwareCommitStore c cid action) s = .next (if k.1 = true then (k.2.storeImage img).complete c.val cid .ok
      else (k.2.setHost { k.2.host with fw := none }).complete c.val cid .invalidImage).settle := by
  refine congrArg done ((State.adminWith_fresh fresh right).trans ?_)
  simp only [image]

theorem exec_autonomousPsTransition_enabled {a : Fin 64} {ps : Fin 5} {x : Assoc} (there : s.assoc (a.val + 1) = some x)
    (enabled : x.apst = true) (low : 1 ≤ ps.val) (high : ps.val ≤ 2) :
    exec (.autonomousPsTransition a ps) s = .next (s.setAssoc (a.val + 1) (some { x with auto := ps.val })).psGo.settle := by
  change execAutonomousPsTransition a ps s = _
  simp only [execAutonomousPsTransition, there, enabled, low, high, and_self, decide_true, Bool.and_self, if_true]
  rfl

end

/-- Settles O45: each admin command that was just taken completes by its own body. -/
theorem adminCommands : Obligations.AdminCommands := by
  refine ⟨fun c cid s fresh => ⟨fun _ => exec_nvmeIdentify_controllers fresh, fun _ _ => exec_nvmeIdentify_namespace fresh,
      fun _ => done_admin fresh rfl, fun _ _ => done_admin fresh rfl, fun _ => done_admin fresh rfl, exec_getLogC2_clear fresh,
      exec_getLogC2_denied fresh, fun _ => done_admin fresh rfl, fun _ _ _ => exec_getLogC4_namespace fresh,
      fun _ _ _ _ => exec_getLogC5_namespace fresh, done_admin fresh rfl⟩,
    fun c cid s => ⟨fun fresh => ⟨fun _ _ _ => exec_setFeaturesC1_namespace fresh, fun _ => done_adminPs fresh rfl,
      fun _ => done_adminPs fresh rfl, fun _ => done_adminPs fresh rfl, fun _ => done_adminPs fresh rfl, fun _ => done_adminPs fresh rfl,
      fun _ => exec_powerManagement_allowed fresh, done_admin fresh rfl,
      fun _ there => ⟨fun _ _ => exec_asynchronousEventRequest_pending fresh there, exec_asynchronousEventRequest_waits fresh there⟩,
      fun right => ⟨fun _ => exec_firmwareDownload_right fresh right, fun _ _ => exec_firmwareCommitStore_image fresh right⟩⟩,
      fun _ _ _ => exec_autonomousPsTransition_enabled⟩⟩

end Sys2Proof.Machine

/-!
SUPPORT. Namespaces and loads (R466, R473, R474, R482-R484, R518, R569).
-/
namespace Sys2Proof.Machine
section
variable {s : State} {c : ConnIx} {cid : Nat}

/-- A catalogue command that was just taken, with its right, runs where the catalogue is ready. -/
theorem done_catCmd {right : Nat} {cmd : CatCmd} {t : State} (fresh : s.freshAdmin c.val cid = true) (catalogue : s.flag rdyPage RDY.CATALOGUE = true)
    (allowed : s.hasRight c.val right = true) (runs : s.catRun c.val cid cmd = t) : done (s.catCmd c.val cid right cmd) = .next t.settle :=
  congrArg done ((State.adminWith_fresh fresh allowed).trans ((if_pos catalogue).trans runs))

theorem State.nsCreate_goes {c lbaf nsze ncap : Nat} {b : List Nat} {d : Nat} (good : bindingOk b = true) (format : lbaf ≤ 1)
    (size : nsze = ((bindingExtents b).map fun e => e.zones).sum * zsze) (cap : ncap = ((bindingExtents b).map fun e => e.zones).sum * zsze)
    (room : s.capacityOk (bindingExtents b) = true) (free : ∃ i < 64, s.nsp (i + 1) = none) (drk : s.te.drk = some d)
    (healthy : s.te.healthOk = true) : s.nsCreate c cid lbaf nsze ncap b = s.createNs c cid lbaf b d := by
  have notAll : ¬ ((List.range 64).all fun i => (s.nsp (i + 1)).isSome) = true := by
    obtain ⟨i, short, none⟩ := free
    intro all
    have held := List.all_eq_true.1 all i (List.mem_range.2 short)
    rw [none] at held
    cases held
  unfold State.nsCreate
  simp only [good, Nat.not_lt.2 format, size, cap, room, notAll, drk, healthy, Bool.not_true, Bool.false_eq_true, ne_eq, not_true_eq_false,
    or_self, if_false, if_true]

/-- A deletion ends at once in a chip that is not paired, and waits for the twin in one that is. -/
theorem State.nsDelete_eq {c ns : Nat} {n : NsSt} (there : s.nsp ns = some n) :
    let t := ((s.eraseNs ns).event tePage 0x8104 2 0xFF ns).eraseAtManager ns
    s.nsDelete c cid ns =
      if t.paired then (t.tSend clsControl (.forward (.nsDelete ns))).setWork c cid 0 (.delete ns) else t.complete c cid .ok := by
  unfold State.nsDelete
  simp only [there]

theorem State.nsAttach_goes {c ns : Nat} {ids : List Nat} {on : Bool} {n : NsSt} (there : s.nsp ns = some n) (someId : ids ≠ [])
    (good : ∀ x ∈ ids, cntlidOk x = true) :
    let rest := n.attached.filter fun x => !ids.contains x
    let now := if on then (rest ++ ids).eraseDups else rest
    s.nsAttach c cid ns ids on = ((s.attachTo ns n now).tSend clsControl (.forward (.nsAttach ns now))).complete c cid .ok := by
  have formed : ¬ (ids.isEmpty = true ∨ (!ids.all cntlidOk) = true) := not_or.2
    ⟨fun empty => someId (List.isEmpty_iff.1 empty), by rw [List.all_eq_true.2 good]; decide⟩
  unfold State.nsAttach
  simp only [there, formed, if_false]

theorem State.stageCmd_goes {c id : Nat} (away : ¬(s.load.mounted = true ∧ s.load.id = id ∧ s.load.phase = .none))
    (here : s.otherShelf id = none) (own : s.loaderTwin = false) (free : s.stageRefusal id = none) :
    s.stageCmd c cid id = (s.complete c cid .ok).startStage id := by
  unfold State.stageCmd
  simp only [away, here, own, free, Bool.false_eq_true, if_false]

theorem State.unmountCmd_goes {c id : Nat} {store : Bool} (own : s.loaderTwin = false) (free : s.unmountRefusal id = none) :
    s.unmountCmd c cid id store = (s.setWork c cid 0 .unmount).startUnmount id store := by
  unfold State.unmountCmd
  simp only [own, free, Bool.false_eq_true, if_false]

theorem exec_catalogueWaitExpiry_late {x : Ctx} {cmd : CatCmd} {since : Nat} (taken : s.ctx c.val cid = some x)
    (waits : x.work = .catWait cmd since) (late : since + 1000000000 ≤ s.now) :
    exec (.catalogueWaitExpiry c cid) s = .next (s.complete c.val cid (.interrupted 0)).settle := by
  change execCatalogueWaitExpiry c cid s = _
  simp only [execCatalogueWaitExpiry, taken, waits, late, if_true]
  rfl

theorem exec_namespaceKeyAckTimeout_late {ns : Nat} {x : Ctx}
    (waits : s.host.ctxs.find? (fun x => decide (x.work = .create ns) && decide (x.since + 1000000000 ≤ s.now)) = some x) :
    exec (.namespaceKeyAckTimeout ns) s = .next ((s.eraseNs ns).complete x.conn x.cid .internalError).settle := by
  change execNamespaceKeyAckTimeout ns s = _
  simp only [execNamespaceKeyAckTimeout, waits]
  rfl

end

/-- Settles O46: a catalogue command that passes its checks is carried out by its own engine. -/
theorem namespaceAndLoadCommands : Obligations.NamespaceAndLoadCommands := by
  intro c cid s
  refine ⟨fun fresh catalogue => ⟨fun right => ⟨fun _ _ _ _ _ good format size cap room free drk healthy => ?_, fun _ _ there => ?_,
      fun _ _ _ _ there someId good => ?_⟩,
    fun right own => ⟨fun _ away here free => ?_, fun _ _ free => ?_⟩⟩, fun _ _ _ => exec_catalogueWaitExpiry_late, fun _ _ => exec_namespaceKeyAckTimeout_late⟩
  · exact done_catCmd fresh catalogue right (State.nsCreate_goes good format size cap room free drk healthy)
  · exact ⟨fun alone => done_catCmd fresh catalogue right ((State.nsDelete_eq there).trans (if_neg (Bool.eq_false_iff.1 alone))),
      fun paired => done_catCmd fresh catalogue right ((State.nsDelete_eq there).trans (if_pos paired))⟩
  · exact done_catCmd fresh catalogue right (State.nsAttach_goes there someId good)
  · exact done_catCmd fresh catalogue right (State.stageCmd_goes away here own free)
  · exact done_catCmd fresh catalogue right (State.unmountCmd_goes own free)

end Sys2Proof.Machine

/-!
SUPPORT. Wheels and loader as the rest of the chip sees them (R331, R334, R336, R345, R351, R357, R372).
-/
namespace Sys2Proof.Machine
section
variable {s : State} {w : WheelIx}

theorem exec_speedTick_cases (w : WheelIx) (s : State) :
    let t := (s.speedTick w.val).forEach (wheelHeads w.val) State.refreshRatio
    let u := t.forEach (wheelHeads w.val) State.dropFiring
    let g := if w.val = 8 then 1 else 0
    (t.fireSpeedLost w.val = false → exec (.speedTick w) s = .next t.settle) ∧
    (t.fireSpeedLost w.val = true → exec (.speedTick w) s =
      .next (if (u.run g).phase = 2 ∧ u.owned (wheelPage w.val) then u.endRun g else u).settle) :=
  ⟨fun kept => if_neg (Bool.eq_false_iff.1 kept), fun lost => if_pos lost⟩

theorem exec_ownConflict_new (own : s.flag (wheelPage w.val) WHEEL.WH_STAT_OWN_OUT = true) (new : s.whState w.val ≠ whConflict) :
    exec (.ownConflict w) s =
      .next (((s.ownConflict w.val).contested (33 + w.val)).forEach (wheelHeads w.val) State.refreshHead).settle :=
  if_neg (not_or.2 ⟨by rw [own]; decide, new⟩)

theorem exec_ldOwnConflict_new (own : s.flag loaderPage LOADER.LD_STAT_OWN_OUT = true)
    (new : s.flag loaderPage LOADER.LD_STAT_CONFLICT = false) :
    let t := s.forEach [axX, axZ, axG, axP] fun u a => (if u.axMoving a then u.endMotion a 3 4 else u).setAxEn a false
    let t := (t.setFlag loaderPage LOADER.LD_STAT_OWNX_IN true).setFlag loaderPage LOADER.LD_STAT_CONFLICT true
    exec .ldOwnConflict s = .next (((t.istat loaderPage 9).event loaderPage 0x7306 4).contested 42).settle :=
  if_neg (not_or.2 ⟨by rw [own]; decide, Bool.eq_false_iff.1 new⟩)

/-- A closed loop at its limit for the whole run is in fault: a servo loop drops its head's permit as R331 says, a wheel's loop faults the wheel. -/
theorem exec_saturationRun_long {slot : SlotIx} (closed : s.slotMode slot.val = modeClosed)
    (long : 4 * s.cfgIn ctrlengPage CTRLENG.FRAME_CFG_SAT_RUN 1 255 ≤ s.fld (ceSlot slot.val) CESLOT.LIMIT_RUN) :
    let n := slot.val
    let t := (s.setMode n modeFault).event ctrlengPage 0x7106 4 0xFF n
    exec (.saturationRun slot) s =
      if n < 165 then
        done (if n % 5 = 0 then (t.focusLost (n / 5)).refreshHead (n / 5)
          else if n % 5 = 1 then t.trackingLost (n / 5) else (t.setPermit (n / 5) false).refreshHead (n / 5))
      else if n < 174 then done (t.wheelFault (n - 165) 6) else done t :=
  if_neg (not_or.2 ⟨fun n => n closed, Nat.not_lt.2 long⟩)

/-- The plan with which a loader that lost its place starts: known custody goes home, doubtful custody is tested first. -/
def State.recoveryPlan (s : State) (intent w : Nat) : List XferStep :=
  let homes : List XferStep := [.home axG, .home axP, .home axZ, .home axX]
  if intent = 0 then homes ++ [.over]
  else if (intent = 1 ∨ intent = 2) ∧ s.flag (wheelPage w) WHEEL.WH_STAT_CLAMP_SNS then homes ++ [.held 3, .over]
  else [.test, .decide]

theorem exec_loaderRecovery_starts {intent kind store w : Nat} {plan : List XferStep} (own : s.flag loaderPage LOADER.LD_STAT_OWN_OUT = true)
    (new : s.flag loaderPage LOADER.LD_STAT_RECOVERY = false) (lost : s.flag loaderPage LOADER.LD_STAT_HOMED = false)
    (custody : s.mot.custodyXspi = (kind, intent, w, store)) :
    let b := loaderPage
    let t := (((s.setFld b LOADER.CUSTODY_KIND kind).setFld b LOADER.CUSTODY_INTENT intent).setFld b LOADER.CUSTODY_WHEEL w).setFld b
      LOADER.CUSTODY_STORE store
    let u := t.setFlag b LOADER.LD_STAT_RECOVERY true
    u.recoveryPlan intent w = plan →
      exec (.loaderRecovery ()) s = .next (State.planGo { u with mot := { u.mot with plan := plan, stuck := false } }).settle := by
  rintro b t u rfl
  change execLoaderRecovery () s = _
  simp only [execLoaderRecovery, own, new, lost, custody, Bool.not_true, Bool.or_self, Bool.false_eq_true, if_false]
  rfl

end

/-- Settles O48: each event of a wheel or the loader acts on the heads and the groups that stand on it. -/
theorem wheelAndLoaderEvents : Obligations.WheelAndLoaderEvents := by
  intro s
  refine ⟨fun w => exec_speedTick_cases w s, fun _ _ => rfl, fun _ => exec_ownConflict_new, exec_ldOwnConflict_new,
    fun slot closed long => ⟨fun servo => ?_, fun notServo wheel => ?_, fun other => ?_⟩,
    fun intent kind w store own new lost custody => ⟨fun none => ?_, fun known high => ?_, fun known low => ?_, fun other => ?_⟩⟩
  · exact (exec_saturationRun_long closed long).trans (if_pos servo)
  · exact (exec_saturationRun_long closed long).trans ((if_neg (Nat.not_lt.2 notServo)).trans (if_pos wheel))
  · exact (exec_saturationRun_long closed long).trans ((if_neg (by omega)).trans (if_neg (Nat.not_lt.2 other)))
  · exact exec_loaderRecovery_starts own new lost custody (if_pos none)
  · exact exec_loaderRecovery_starts own new lost custody ((if_neg (by omega)).trans (if_pos ⟨known, high⟩))
  · exact exec_loaderRecovery_starts own new lost custody
      ((if_neg (by omega)).trans (if_neg fun ⟨_, up⟩ => Bool.eq_false_iff.1 low up))
  · exact exec_loaderRecovery_starts own new lost custody ((if_neg (by omega)).trans (if_neg fun ⟨known, _⟩ => by omega))

end Sys2Proof.Machine

/-!
SUPPORT. A wheel starts, is aligned and caught, and comes to rest (R337, R338, R343-R345, R349, R350); a running wheel
(R326, R328-R330, R333, R338-R342, R346-R349, R352, R354).
-/
namespace Sys2Proof.Machine
section
variable {s : State} {w : WheelIx} {v : Trans} {t seen : Nat}

/-! A wheel starts and comes to rest -/

theorem exec_measuringEnd_seen {seen : List Trans} (measuring : s.whState w.val = whMeasuring)
    (enough : 3 ≤ seen.length ∨ s.whFor w.val (1000000 * s.cfgIn (wheelPage w.val) WHEEL.START_CFG_MEAS_T 5 20) = true) :
    exec (.measuringEnd w seen) s = .next (s.measured w.val (seen.take 3)).settle := by
  have ends : (decide (3 ≤ seen.length) || s.whFor w.val (1000000 * s.cfgIn (wheelPage w.val) WHEEL.START_CFG_MEAS_T 5 20)) = true :=
    Bool.or_eq_true_iff.2 (enough.imp_left decide_eq_true)
  exact if_neg (not_or.2 ⟨fun n => n measuring, by rw [ends]; decide⟩)

theorem exec_brakeOnExpiry_braking (braking : s.whState w.val = whBraking) (on : (s.wheel w.val).hold = false)
    (long : s.whFor w.val (1000000 * s.cfgIn (wheelPage w.val) WHEEL.START_CFG_BRK_ON 10 255) = true) :
    exec (.brakeOnExpiry w) s = .next (s.setWhState w.val whChecking).settle :=
  (if_neg (by rw [long]; decide)).trans (if_pos ⟨braking, by rw [on]; rfl⟩)

theorem exec_brakeHoldExpiry_holding (braking : s.whState w.val = whBraking) (hold : (s.wheel w.val).hold = true)
    (long : s.whFor w.val (10000000 * s.cfgIn (wheelPage w.val) WHEEL.REST_CFG_BRAKE_HOLD 1 255) = true) :
    exec (.brakeHoldExpiry w) s = .next ((s.setWheel w.val { s.wheel w.val with hold := false }).setWhState w.val whChecking).settle :=
  if_pos ⟨braking, hold, long⟩

/-- A checked wheel at which something was seen is braked again; one at rest goes on as the braking was for. -/
theorem exec_restWindowEnd_checking (checking : s.whState w.val = whChecking) (long : s.whFor w.val (s.restWin w.val) = true) :
    exec (.restWindowEnd w seen) s =
      if seen ≠ 0 then done (s.setWhState w.val whBraking)
      else match (s.wheel w.val).brakeFor with
        | .start => done ((s.setFld (wheelPage w.val) WHEEL.WH_STAT_STEP 5).setWhState w.val whAligning)
        | .stop => done ((s.setWhState w.val whRest).restConfirmed w.val) :=
  (if_neg (by rw [long]; decide)).trans (if_pos checking)

theorem exec_restWindowEnd_start (checking : s.whState w.val = whChecking) (long : s.whFor w.val (s.restWin w.val) = true)
    (start : (s.wheel w.val).brakeFor = .start) :
    exec (.restWindowEnd w 0) s = .next ((s.setFld (wheelPage w.val) WHEEL.WH_STAT_STEP 5).setWhState w.val whAligning).settle := by
  rw [exec_restWindowEnd_checking checking long, start]
  rfl

theorem exec_restWindowEnd_stop (checking : s.whState w.val = whChecking) (long : s.whFor w.val (s.restWin w.val) = true)
    (stop : (s.wheel w.val).brakeFor = .stop) :
    exec (.restWindowEnd w 0) s = .next ((s.setWhState w.val whRest).restConfirmed w.val).settle := by
  rw [exec_restWindowEnd_checking checking long, stop]
  rfl

theorem exec_restWindowEnd_release (rest : s.whState w.val = whRest) (release : (s.wheel w.val).release = true)
    (long : s.whFor w.val (s.restWin w.val) = true) :
    let t := s.setWheel w.val { s.wheel w.val with release := false }
    exec (.restWindowEnd w seen) s =
      if seen ≠ 0 then done (((t.brakeToRest w.val .stop false).whResult w.val 1 3).relConf w.val 3)
      else if t.whOwns w.val && (wheelHeads w.val).all (fun h => t.headParked h) then
        done (((t.setFlag (wheelPage w.val) WHEEL.WH_STAT_REL_OUT true).whResult w.val 1 0).relConf w.val 0)
      else done ((t.whResult w.val 1 3).relConf w.val 3) :=
  (if_neg (by rw [long]; decide)).trans ((if_neg (by rw [rest]; decide)).trans (if_pos ⟨rest, release⟩))

theorem exec_restWindowEnd_fault (fault : s.whState w.val = whFault) (window : (s.wheel w.val).window = true ∨ s.faultBrakes w.val = false)
    (long : s.whFor w.val (s.restWin w.val) = true) :
    exec (.restWindowEnd w 0) s =
      .next (State.restConfirmed (s.setWheel w.val { s.wheel w.val with window := false, phaseAt := s.now }) w.val).settle :=
  (if_neg (by rw [long]; decide)).trans ((if_neg (by rw [fault]; decide)).trans ((if_neg fun ⟨rest, _⟩ => by rw [fault] at rest; cases rest).trans
    (if_pos ⟨fault, window.imp_right fun free => by rw [free]; rfl⟩)))

theorem exec_brakeOnExpiry_fault (fault : s.whState w.val = whFault) (brakes : s.faultBrakes w.val = true)
    (closed : (s.wheel w.val).window = false)
    (long : s.whFor w.val (1000000 * s.cfgIn (wheelPage w.val) WHEEL.START_CFG_BRK_ON 10 255) = true) :
    exec (.brakeOnExpiry w) s = .next (s.setWheel w.val { s.wheel w.val with window := true, phaseAt := s.now }).settle :=
  (if_neg (by rw [long]; decide)).trans ((if_neg fun ⟨braking, _⟩ => by rw [fault] at braking; cases braking).trans
    (if_pos ⟨fault, brakes, by rw [closed]; rfl⟩))

theorem exec_alignEnd_long (aligning : s.whState w.val = whAligning)
    (long : s.whFor w.val (10000000 * s.cfgIn (wheelPage w.val) WHEEL.ALIGN_CFG_ALIGN_T 5 100) = true) :
    let u := s.setWheel w.val { s.wheel w.val with olStart := t, commT := t, good := 0, ivals := [], recent := [] }
    exec (.alignEnd w t) s = .next ((u.setFld (wheelPage w.val) WHEEL.WH_STAT_STEP 0).setWhState w.val whOpenLoop).settle :=
  if_pos ⟨aligning, long⟩

theorem exec_openLoopTimeout_late (openLoop : s.whState w.val = whOpenLoop) (long : s.whFor w.val (s.olLimit w.val) = true) :
    let t := s.setWheel w.val { s.wheel w.val with tries := (s.wheel w.val).tries + 1 }
    exec (.openLoopTimeout w) s = if 3 ≤ (s.wheel w.val).tries + 1 then done ((t.wheelFault w.val 2).event (wheelPage w.val) 0x720B 5)
      else done (t.beginMeasuring w.val) :=
  if_neg (not_or.2 ⟨fun n => n openLoop, by rw [long]; decide⟩)

theorem exec_shadowCrossing_held (side : s.whState w.val = whShadow ∨ s.whState w.val = whConflict)
    (held : 1000 * s.cfgIn (wheelPage w.val) WHEEL.REST_CFG_SHADOW_HOLD 10 100 ≤ v.hold) :
    exec (.shadowCrossing w v) s = .next (s.shadowed w.val v).settle :=
  if_neg (not_or.2 ⟨fun ⟨n1, n2⟩ => side.elim n1 n2, Nat.not_lt.2 held⟩)

theorem exec_ownxFall_armed {cmd nref : Nat} (armed : (s.wheel w.val).armed = true) (given : (s.wheel w.val).given = some (cmd, nref)) :
    let s1 := s.setFlag (wheelPage w.val) WHEEL.WH_STAT_OWNX_IN false
    let t := ((s1.driveFromShadow w.val).setFld (wheelPage w.val) WHEEL.SPD_CMD cmd).setNref w.val nref
    exec (.ownxFall w) s = .next ((t.setWheel w.val { t.wheel w.val with given := none }).setWhState w.val whRunning).settle := by
  refine (if_neg (by rw [armed]; decide)).trans ?_
  simp only [given]
  rfl

/-! A running wheel -/

theorem exec_zeroCrossing_inWindow (step : stepOf v = s.fld (wheelPage w.val) WHEEL.WH_STAT_STEP)
    (usable : s.phaseUsable w.val v.phase.val = true) (taken : s.transTaken w.val v = true)
    (runs : s.whState w.val = whRunning ∨ s.whState w.val = whFlywheel)
    (inside : s.inWindow w.val ((s.wheel w.val).base + meanInterval (s.wheel w.val).ivals) (meanInterval (s.wheel w.val).ivals) v.t = true) :
    exec (.zeroCrossing w v) s = .next (s.crossing w.val v).settle := by
  have awake : ¬ (s.whState w.val = whCoasting ∧ (s.wheel w.val).coasting = true) := by
    rintro ⟨coasts, _⟩
    rw [coasts] at runs
    revert runs
    decide
  have good : ¬ (stepOf v ≠ s.fld (wheelPage w.val) WHEEL.WH_STAT_STEP ∨ (!s.phaseUsable w.val v.phase.val) = true ∨
      (!s.transTaken w.val v) = true) := not_or.2 ⟨fun n => n step, not_or.2 ⟨by rw [usable]; decide, by rw [taken]; decide⟩⟩
  exact (if_neg awake).trans ((if_neg good).trans ((if_pos runs).trans (if_pos inside)))

/-- A commutation that is due releases or coasts the wheel where that was asked for, and else goes one step on. -/
theorem exec_commutation_due (runs : s.whState w.val = whRunning ∨ s.whState w.val = whFlywheel ∨ s.whState w.val = whOpenLoop)
    (due : s.commDue w.val t = true) :
    let n := w.val
    let b := wheelPage n
    let x := s.wheel n
    exec (.commutation w t) s =
      match x.atComm with
      | .release => done (s.releaseWheel n)
      | .coast => done ((s.setWheel n { x with atComm := .none, coasting := true, episode := false }).setWhState n whCoasting)
      | .none =>
        let u := s.setFld b WHEEL.WH_STAT_STEP ((s.fld b WHEEL.WH_STAT_STEP + 1) % 6)
        let u := u.setWheel n { x with commT := t, steps := (x.steps + 1) % 24000 }
        done (if 24000 ≤ x.steps + 1 then u.count b WHEEL.REV_K else u) :=
  if_neg (not_or.2 ⟨fun ⟨n1, n2, n3⟩ => runs.elim n1 fun other => other.elim n2 n3, by rw [due]; decide⟩)

theorem exec_commutation_release (runs : s.whState w.val = whRunning ∨ s.whState w.val = whFlywheel ∨ s.whState w.val = whOpenLoop)
    (due : s.commDue w.val t = true) (asked : (s.wheel w.val).atComm = .release) :
    exec (.commutation w t) s = .next (s.releaseWheel w.val).settle := by
  rw [exec_commutation_due runs due, asked]
  rfl

theorem exec_commutation_coast (runs : s.whState w.val = whRunning ∨ s.whState w.val = whFlywheel ∨ s.whState w.val = whOpenLoop)
    (due : s.commDue w.val t = true) (asked : (s.wheel w.val).atComm = .coast) :
    exec (.commutation w t) s = .next ((s.setWheel w.val { s.wheel w.val with atComm := .none, coasting := true, episode := false }).setWhState
      w.val whCoasting).settle := by
  rw [exec_commutation_due runs due, asked]
  rfl

theorem exec_commutation_step (runs : s.whState w.val = whRunning ∨ s.whState w.val = whFlywheel ∨ s.whState w.val = whOpenLoop)
    (due : s.commDue w.val t = true) (asked : (s.wheel w.val).atComm = .none) :
    let b := wheelPage w.val
    let x := s.wheel w.val
    let u := s.setFld b WHEEL.WH_STAT_STEP ((s.fld b WHEEL.WH_STAT_STEP + 1) % 6)
    let u := u.setWheel w.val { x with commT := t, steps := (x.steps + 1) % 24000 }
    exec (.commutation w t) s = done (if 24000 ≤ x.steps + 1 then u.count b WHEEL.REV_K else u) := by
  refine (exec_commutation_due runs due).trans ?_
  dsimp only
  split
  next release => exact nomatch asked.symm.trans release
  next coast => exact nomatch asked.symm.trans coast
  next => rfl

theorem exec_crossingWindowEmpty_openLoop (openLoop : s.whState w.val = whOpenLoop) (late : s.windowEnd w.val ≤ t) :
    exec (.crossingWindowEmpty ⟨w, t⟩) s = .next (s.setWheel w.val { s.wheel w.val with good := 0, ivals := [] }).settle :=
  (if_neg (Nat.not_lt.2 late)).trans ((if_neg (by rw [openLoop]; decide)).trans (if_pos openLoop))

theorem exec_crossingWindowEmpty_runs {time : Nat} (late : s.windowEnd w.val ≤ time) (runs : s.whState w.val = whRunning ∨ s.whState w.val = whFlywheel)
    (usable : s.phaseUsable w.val (floatPhase (s.fld (wheelPage w.val) WHEEL.WH_STAT_STEP)) = true) (free : (s.wheel w.val).caught = false) :
    let n := w.val
    let x := s.wheel n
    let b := wheelPage n
    let p := floatPhase (s.fld b WHEEL.WH_STAT_STEP)
    let y : WheelSt := { x with base := x.base + meanInterval x.ivals, recent := (x.recent ++ [false]).drop (x.recent.length + 1 - 12) }
    let t := (s.setWheel n { y.setMiss p (x.miss p + 1) with empties := x.empties + 1 }).count b WHEEL.ZC_MISS
    let t := if s.whState n = whRunning then (if x.episode then t else t.beginEpisode n).setWhState n whFlywheel else t
    exec (.crossingWindowEmpty ⟨w, time⟩) s =
      .next (if s.cfgIn b WHEEL.TOL_CFG_FLY_STEPS 1 12 ≤ x.empties + 1 then t.enterCoast n else t).settle :=
  (if_neg (Nat.not_lt.2 late)).trans ((if_pos runs).trans ((if_neg (by rw [usable]; decide)).trans (if_neg (Bool.eq_false_iff.1 free))))

theorem exec_coastEnd_caught {seen : List Trans} {l : Trans} {iv : Nat} (coasts : s.whState w.val = whCoasting)
    (waited : (s.wheel w.val).coasting = false) (long : s.whFor w.val (12 * meanInterval (s.wheel w.val).ivals) = true)
    (found : s.catchRule w.val seen = some (l, iv)) : exec (.coastEnd w seen) s = .next (s.enterCatch w.val l iv).settle := by
  refine (if_neg (not_or.2 ⟨fun n => n coasts, not_or.2 ⟨Bool.eq_false_iff.1 waited, by rw [long]; decide⟩⟩)).trans ?_
  rw [found]
  rfl

theorem exec_coastEnd_lost {seen : List Trans} (coasts : s.whState w.val = whCoasting)
    (waited : (s.wheel w.val).coasting = false) (long : s.whFor w.val (12 * meanInterval (s.wheel w.val).ivals) = true)
    (lost : s.catchRule w.val seen = none) : exec (.coastEnd w seen) s = .next (s.catchFailed w.val).settle := by
  refine (if_neg (not_or.2 ⟨fun n => n coasts, not_or.2 ⟨Bool.eq_false_iff.1 waited, by rw [long]; decide⟩⟩)).trans ?_
  rw [lost]
  rfl

theorem exec_atSpeedSet_settled (runs : s.whState w.val = whRunning) (target : s.spdTarget w.val ≠ 0) (stays : (s.wheel w.val).stopping = false)
    (reached : (s.wheel w.val).nref = s.spdTarget w.val * 10000) (fresh : s.flag (wheelPage w.val) WHEEL.SPD_MEAS_STALE = false)
    (close : s.spdWithin w.val 1 = true)
    (long : ∃ a, (s.wheel w.val).within = some a ∧ a + 1000000 * s.cfgIn (wheelPage w.val) WHEEL.TOL_CFG_SPD_SETTLE 1 255 ≤ s.now) :
    exec (.atSpeedSet w) s = .next (s.reachSpeed w.val).settle := by
  obtain ⟨a, within, passed⟩ := long
  change execAtSpeedSet w s = _
  simp only [execAtSpeedSet, runs, target, stays, reached, fresh, close, within, passed, decide_true, ne_eq, not_true_eq_false, Bool.not_true,
    Bool.false_eq_true, or_self, if_false]
  rfl

/-- A current over the trip counts, and the last that the window allows faults a driven wheel. -/
theorem exec_overcurrentTrip_over {code : Fin 4096} (trips : s.cfg (wheelPage w.val) WHEEL.OC_CFG_OC_TRIP ≤ ((code.val : Int) - 2048).natAbs) :
    let n := w.val
    let b := wheelPage n
    let x := s.wheel n
    let ts := x.trips.filter (fun k => t < k + 10000000) ++ [t]
    let u := (s.setWheel n { x with trips := ts }).count b WHEEL.OC_CNT
    exec (.overcurrentTrip w ⟨code, t⟩) s = if s.cfgIn b WHEEL.OC_CFG_OC_MAX 1 255 ≤ ts.length ∧ s.sixStep n then
      done (((u.setWheel n { u.wheel n with trips := [] }).wheelFault n 3).event b 0x7207 5) else done u :=
  if_neg (Nat.not_lt.2 trips)

end

/-- What a wheel does to start, to be aligned and caught, and to come to rest. -/
theorem wheel_starts_and_rests (w : WheelIx) (s : State) :
    let n := w.val
    let x := s.wheel n
    let b := wheelPage n
    (s.whState n = whChecking → s.whFor n (s.restWin n) = true →
      (∀ seen : Nat, seen ≠ 0 → exec (.restWindowEnd w seen) s = .next (s.setWhState n whBraking).settle) ∧
      (x.brakeFor = .start →
        exec (.restWindowEnd w 0) s = .next ((s.setFld b WHEEL.WH_STAT_STEP 5).setWhState n whAligning).settle) ∧
      (x.brakeFor = .stop → exec (.restWindowEnd w 0) s = .next ((s.setWhState n whRest).restConfirmed n).settle)) ∧
    (s.whState n = whRest → x.release = true → s.whFor n (s.restWin n) = true →
      let t := s.setWheel n { x with release := false }
      (∀ seen : Nat, seen ≠ 0 →
        exec (.restWindowEnd w seen) s = .next (((t.brakeToRest n .stop false).whResult n 1 3).relConf n 3).settle) ∧
      (t.whOwns n = true → (∀ h ∈ wheelHeads n, t.headParked h = true) →
        exec (.restWindowEnd w 0) s = .next (((t.setFlag b WHEEL.WH_STAT_REL_OUT true).whResult n 1 0).relConf n 0).settle)) := by
  refine ⟨fun checking long => ⟨fun seen moved => ?_, exec_restWindowEnd_start checking long, exec_restWindowEnd_stop checking long⟩,
    fun rest release long => ⟨fun seen moved => ?_, fun own parked => ?_⟩⟩
  · exact (exec_restWindowEnd_checking checking long).trans (if_pos moved)
  · exact (exec_restWindowEnd_release rest release long).trans (if_pos moved)
  · exact (exec_restWindowEnd_release rest release long).trans ((if_neg fun n => n rfl).trans
      (if_pos (Bool.and_eq_true_iff.2 ⟨own, List.all_eq_true.2 parked⟩)))

/-- Settles O49: each event of a wheel in the state that waits for it goes on as that state's rule says. -/
theorem wheelCommands : Obligations.WheelCommands := by
  refine ⟨fun w s => ?_, fun w s => ?_⟩
  · obtain ⟨checks, releases⟩ := wheel_starts_and_rests w s
    refine ⟨fun _ => exec_measuringEnd_seen, fun braking => ⟨exec_brakeOnExpiry_braking braking, exec_brakeHoldExpiry_holding braking⟩, checks,
      releases, exec_restWindowEnd_fault, exec_brakeOnExpiry_fault, fun _ => exec_alignEnd_long,
      fun openLoop long => ⟨fun few => ?_, fun many => ?_⟩, fun wait episode late => if_pos ⟨wait, episode, late⟩, fun _ => exec_shadowCrossing_held,
      ⟨fun idle => if_pos (by rw [idle]; rfl), fun armed _ _ => exec_ownxFall_armed armed⟩,
      fun foreign held => if_neg (not_or.2 ⟨fun n => n held, Bool.eq_false_iff.1 foreign⟩)⟩
    · exact (exec_openLoopTimeout_late openLoop long).trans (if_neg (by omega))
    · exact (exec_openLoopTimeout_late openLoop long).trans (if_pos (by omega))
  · refine ⟨fun _ => exec_zeroCrossing_inWindow, fun _ runs due => ⟨exec_commutation_release runs due, exec_commutation_coast runs due,
        fun asked => ⟨fun few => ?_, fun many => ?_⟩⟩,
      fun _ => exec_crossingWindowEmpty_openLoop, fun _ => exec_crossingWindowEmpty_runs,
      fun _ coasts waited long => ⟨fun _ _ => exec_coastEnd_caught coasts waited long, exec_coastEnd_lost coasts waited long⟩,
      exec_atSpeedSet_settled, fun _ => ⟨fun off => if_pos (by rw [off]; rfl), fun on => if_neg (by rw [on]; decide)⟩,
      fun _ _ trips => ⟨fun small => ?_, fun many driven => ?_⟩⟩
    · exact (exec_commutation_step runs due asked).trans (congrArg done (if_neg (Nat.not_le.2 few)))
    · exact (exec_commutation_step runs due asked).trans (congrArg done (if_pos many))
    · refine (exec_overcurrentTrip_over trips).trans (if_neg fun ⟨many, driven⟩ => small.elim (Nat.not_lt.2 many) fun off => ?_)
      exact Bool.eq_false_iff.1 off driven
    · exact (exec_overcurrentTrip_over trips).trans (if_pos ⟨many, driven⟩)

end Sys2Proof.Machine

/-!
SUPPORT. Stripes, the journal, re-throws, the patrol and cone reads (R381, R395, R396, R401, R409-R413, R415-R417).
-/
namespace Sys2Proof.Machine
section
variable {s : State} {lane : LaneOf} {zone : ZoneIx} {pos : PosIx}

theorem exec_stripeEncode_accepted (stripes : s.accepts stripePage = true) (crypt : s.accepts mediacryptPage = true) :
    exec (.stripeEncode lane zone) s = .next (s.stripeBegin (300 * lane.val + zone.val)).stgShow.settle :=
  if_neg (not_or.2 ⟨by rw [stripes]; decide, by rw [crypt]; decide⟩)

theorem exec_xspiWriteRetry_late {t : Nat} (failed : s.jr.failAt = some t) (late : t + 10000000 ≤ s.now) :
    exec .xspiWriteRetry s = .next (s.setJr { s.jr with failAt := none }).settle := by
  change execXspiWriteRetry s = _
  simp only [execXspiWriteRetry, failed, Nat.not_lt.2 late, if_false]
  rfl

theorem exec_xspiRingCompact_short (short : xspiRing - s.jr.xspi.length < 16384) :
    let keep := jCurrent s.jLive s.jr.xspi
    exec .xspiRingCompact s = .next ((s.setJr { s.jr with xspi := keep }).count journalPage JOURNAL.XSPI_WR keep.length).xspiShow.settle :=
  if_neg (Nat.not_le.2 short)

/-- A bad position of a mounted load resumes the re-throw that is under way, or starts one. -/
theorem exec_rethrowAutoStart_bad (auto : s.cfg stripePage STRIPE.RT_CFG_RT_AUTO ≠ 0) (mounted : s.load.mounted = true)
    (bad : s.positionBad pos.val = true) (noneWaits : s.st.rt.pending = none) :
    exec (.rethrowAutoStart pos) s =
      if 2 ≤ s.fld stripePage STRIPE.RT_STAT_STATE ∧ s.fld stripePage STRIPE.RT_STAT_STATE ≤ 6 then done s.rtResume
      else done (s.rtStart pos.val 1) := by
  change execRethrowAutoStart pos s = _
  simp only [execRethrowAutoStart, auto, mounted, bad, noneWaits, Option.isSome_none, Bool.false_or, Bool.not_true, Bool.false_eq_true, or_self,
    if_false, decide_eq_true_eq]

/-- The steps of a re-throw that is in its settings: each takes its own way. -/
theorem exec_rethrowStepDone_inState (s : State) :
    let st := s.fld stripePage STRIPE.RT_STAT_STATE
    (3 ≤ st → st ≤ 5 → exec (.rethrowStepDone .settingDone) s = .next s.rtSetting.settle) ∧
    (3 ≤ st → st ≤ 5 → exec (.rethrowStepDone .slotCaught) s = .next s.rtCaught.settle) ∧
    (2 ≤ st → st ≤ 6 → exec (.rethrowStepDone .failed) s = .next s.rtFail.settle) :=
  ⟨fun low high => if_pos ⟨low, high⟩, fun low high => if_pos ⟨low, high⟩, fun low high => if_pos ⟨low, high⟩⟩

theorem exec_runClose_idle (closing : (s.run 0).phase = 4) (idle : s.jr.waiting = []) :
    exec .runClose s = .next (s.forEach (s.liveZones.filter fun z => decide (z.2.patrolSaved ≠ z.2.passes * 32768 + z.2.nextPatrol))
      fun u z => u.patrolRecord z.1).runClose.settle :=
  if_neg (not_or.2 ⟨fun n => n closing, by rw [idle]; decide⟩)

theorem exec_crazePatrol_due (enabled : s.cfg stripePage STRIPE.RT_CFG_PATROL_EN ≠ 0) (spare : s.mcSpare = true)
    (mounted : s.load.mounted = true) (confirmed : (s.zone (300 * lane.val + zone.val)).conf ≠ 0)
    (still : (s.zone (300 * lane.val + zone.val)).replaying = false) :
    exec (.crazePatrol lane zone) s = .next (s.patrolStripe lane.val (300 * lane.val + zone.val)).settle :=
  if_neg (not_or.2 ⟨enabled, not_or.2 ⟨by rw [spare]; decide, not_or.2 ⟨by rw [mounted]; decide, not_or.2
    ⟨confirmed, Bool.eq_false_iff.1 still⟩⟩⟩⟩)

/-- A cone is recorded from the words of all its settings, and not before the last of them is there. -/
theorem exec_coneRead_cases (h : HeadIx) (layer : Fin 10) (s : State) :
    let sas := s.coneSettings h.val layer.val
    let ws := sas.filterMap (s.coneFig h.val)
    (ws ≠ [] → ws.length = sas.length →
      exec (.coneRead h layer ()) s = .next ((s.coneRecord h.val layer.val ws).forEach sas fun u sa =>
        ((u.dropSetting h.val sa).unwant h.val sa).dropFig h.val sa).settle) ∧
    (ws.length < sas.length → exec (.coneRead h layer ()) s = .next s.settle) :=
  ⟨fun found whole => if_neg (not_or.2 ⟨fun empty => found (List.isEmpty_iff.1 empty), Nat.not_lt.2 (Nat.le_of_eq whole.symm)⟩), fun short => if_pos (.inr short)⟩

end

/-- Settles O50: each step of a stripe, the journal, a re-throw or the patrol runs where its own check lets it. -/
theorem stripeAndRethrowCommands : Obligations.StripeAndRethrowCommands := by
  intro s
  obtain ⟨setting, caught, failed⟩ := exec_rethrowStepDone_inState s
  refine ⟨fun _ _ => exec_stripeEncode_accepted, rfl, fun _ => exec_xspiWriteRetry_late, exec_xspiRingCompact_short,
    fun _ auto mounted bad noneWaits => ⟨fun idle => ?_, fun low high => ?_⟩,
    ⟨fun _ => rfl, setting, caught, rfl, rfl, rfl, failed⟩, exec_runClose_idle, fun _ _ => exec_crazePatrol_due, fun h layer => exec_coneRead_cases h layer s⟩
  · exact (exec_rethrowAutoStart_bad auto mounted bad noneWaits).trans (if_neg (by omega))
  · exact (exec_rethrowAutoStart_bad auto mounted bad noneWaits).trans (if_pos ⟨low, high⟩)

end Sys2Proof.Machine

/-!
SUPPORT. Stacks: training, fill, faults and repairs (R426-R429, R431-R435, R437, R438, R450, R493).
-/
namespace Sys2Proof.Machine
section
variable {s : State} {k : StackIx} {addr : Nat}

theorem exec_zeroFillComplete_full (filling : s.hbmState k.val = 2) (full : 0x2000 ≤ s.fld (hbmPage k.val) HBM.FILL_STAT_MIN_WM) :
    exec (.zeroFillComplete k) s = .next (s.stackFilled k.val).settle :=
  if_neg (not_or.2 ⟨fun n => n filling, Nat.not_lt.2 full⟩)

/-- A spare row takes an address over where one is free; else the cache gives up the way, and another block has no repair. -/
theorem exec_sramRowSubstitution_due {blk : MemBlockIx} (due : s.repairOf blk.val .sramRow = some addr) :
    let t := s.repairOver blk.val addr .sramRow
    let u := t.setEctState blk.val addr 2
    let used := ((u.ectTable blk.val).filter fun e => decide (e.state = 2)).length
    let v := if used = min 255 (Config.sramSpares blk.val) then u.notice .health else u
    exec (.sramRowSubstitution blk true) s =
      .next ((v.istat (memBlockPage blk.val) 3).event ecctabPage 0x5202 2 0xFF blk.val).settle ∧
    exec (.sramRowSubstitution blk false) s =
      .next (if blk.val = 0 then t.repairDue 0 addr .way else t.noRepair blk.val addr).settle := by
  intro t u used v
  change execSramRowSubstitution blk true s = _ ∧ execSramRowSubstitution blk false s = _
  simp only [execSramRowSubstitution, due, if_true, Bool.false_eq_true, if_false]
  exact ⟨rfl, (apply_ite done _ _ _).symm⟩

theorem exec_postPackageRepair_due (due : s.repairOf (6 + k.val) .package = some addr) :
    let b := hbmPage k.val
    let t := s.repairOver (6 + k.val) addr .package
    exec (.postPackageRepair k .repaired) s =
      .next (((((t.setEctState (6 + k.val) addr 2).count b HBM.PPR_DONE).istat b 10).istat b 3).event b 0x5203 2).settle ∧
    exec (.postPackageRepair k .failed) s =
      .next (((t.count b HBM.PPR_FAIL).istat b 11).pageDue (6 + k.val) addr).settle ∧
    exec (.postPackageRepair k .noResource) s = .next (t.pageDue (6 + k.val) addr).settle := by
  intro b t
  change execPostPackageRepair k .repaired s = _ ∧ execPostPackageRepair k .failed s = _ ∧ execPostPackageRepair k .noResource s = _
  simp only [execPostPackageRepair, due]
  exact ⟨rfl, rfl, rfl⟩

theorem exec_pageRetirement_due {page : Fin 16384} (usable : page.val < reservePage)
    (due : ∃ x ∈ s.mem.repairs, x.2.2 = .page ∧ x.2.1 * 8 / 2 ^ 21 = page.val) :
    exec (.pageRetirement page) s = .next (s.retirePage page.val).settle := by
  obtain ⟨x, listed, kind, place⟩ := due
  have mine : x ∈ s.mem.repairs.filter fun x => x.2.2 == .page && decide (x.2.1 * 8 / 2 ^ 21 = page.val) :=
    List.mem_filter.2 ⟨listed, Bool.and_eq_true_iff.2 ⟨beq_iff_eq.2 kind, decide_eq_true place⟩⟩
  exact if_neg (not_or.2 ⟨fun empty => List.ne_nil_of_mem mine (List.isEmpty_iff.1 empty), Nat.not_le.2 usable⟩)

theorem exec_scrubWord_due (due : s.scrubDue k.val = true) (syn : Fin 256) :
    let n := (s.scrubbed k.val).1 % scrubWords
    let addr := scrubAddr k.val n
    let next := (n + 1) % scrubWords
    let t := (s.setScrub k.val (next, s.now)).setFld (hbmPage k.val) HBM.SCRUB_PROG (next * 1000 / scrubWords)
    exec (.scrubWord k syn .clean) s = .next t.settle ∧
    exec (.scrubWord k syn .corrected) s =
      .next ((t.count (hbmPage k.val) HBM.SCRUB_CORR).correctable (6 + k.val) addr syn.val).settle ∧
    exec (.scrubWord k syn .bad) s = .next (t.uncorrectable (6 + k.val) addr).settle := by
  have now : ¬ (!s.scrubDue k.val) = true := by rw [due]; decide
  exact ⟨if_neg now, if_neg now, if_neg now⟩

/-- A chip in power state 3 whose memory has nothing to do writes its lines back and lets its stacks refresh themselves. -/
theorem exec_selfRefreshEntry_idle (power : s.fld nvmePage NVME.PS_CUR = 3) (first : s.hbmState 0 = 3) (second : s.hbmState 1 = 3)
    (noFill : s.mem.fills = []) (noWait : s.mem.waiting = []) (noMaint : s.mem.maint = none) :
    let t := (s.forEach s.mem.evb fun u x => u.setMemLine x.1 x.2).setEvb []
    exec .selfRefreshEntry s = .next ((((t.forEach t.heldPlaces fun u x => u.maintain 6 x.1 x.2).setHbmState 0 4).setHbmState 1 4).setReady
      setterPage false).settle := by
  refine if_neg ?_
  rw [power, first, second, noFill, noWait, noMaint]
  decide

theorem exec_selfRefreshExit_awake (power : s.fld nvmePage NVME.PS_CUR ≠ 3) (first : s.hbmState 0 = 4) (second : s.hbmState 1 = 4) :
    exec .selfRefreshExit s = .next (((s.setHbmState 0 3).setHbmState 1 3).initCache).settle :=
  if_neg (not_or.2 ⟨power, not_or.2 ⟨fun n => n first, fun n => n second⟩⟩)

end

/-- Settles O51: a stack's step runs in the state that waits for it, and a repair that is due ends by its outcome. -/
theorem stackCommands : Obligations.StackCommands := by
  intro s
  exact ⟨fun _ _ _ training => if_neg fun n => n training,
    fun _ filling => ⟨exec_zeroFillComplete_full filling, if_neg fun n => n filling⟩, fun _ _ _ => ⟨rfl, rfl⟩,
    fun _ _ => exec_sramRowSubstitution_due, fun _ _ => exec_postPackageRepair_due, fun _ => exec_pageRetirement_due,
    fun _ due => exec_scrubWord_due due, exec_selfRefreshEntry_idle, exec_selfRefreshExit_awake⟩

end Sys2Proof.Machine

/-!
SUPPORT. The setter's cache (R443-R446, R448-R450).
-/
namespace Sys2Proof.Machine
section
variable {s : State}

theorem exec_cacheFillDone_ready {tag : FillTag} {f : FillSt} (fills : s.fillAt tag.val = some f) (ready : s.lineReady f.line = true)
    (free : s.evbOf f.line = none) : exec (.cacheFillDone tag) s = .next (s.lineFilled tag.val f).settle := by
  change execCacheFillDone tag s = _
  simp only [execCacheFillDone, fills, ready, free, Option.isSome_none, Bool.not_true, Bool.or_self, Bool.false_eq_true, if_false]
  rfl

theorem exec_writebackDone_ready {k : EvbIx} {e x : Nat × List MWord} (held : s.mem.evb[k.val]? = some e)
    (first : s.mem.evb.find? (fun x => x.1 == e.1) = some x) (ready : s.lineReady x.1 = true) :
    exec (.writebackDone k) s = .next (((s.setMemLine x.1 x.2).setEvb (s.mem.evb.erase x)).pendingDone.retryMem).settle := by
  change execWritebackDone k s = _
  simp only [execWritebackDone, held, first, ready, Bool.not_true, Bool.false_eq_true, if_false]
  rfl

/-- Maintenance is done when none of its lines is left to write and no request of its kind waits or fills. -/
theorem exec_maintenanceDone_over {m : MaintSt} (maint : s.pendingDone.mem.maint = some m) (tags : m.tags = []) (pend : m.pend = [])
    (noWait : ∀ r ∈ s.pendingDone.mem.waiting, r.kind ≠ 2) (noFill : s.pendingDone.mem.fills = []) :
    exec .maintenanceDone s = .next ((((s.pendingDone.setMaint none).setFlag setterPage SETTER.MAINT_STAT_BUSY false).maintResult 0).istat
      setterPage 10).settle := by
  have quiet : (s.pendingDone.mem.waiting.any fun r => r.kind == 2) = false :=
    List.any_eq_false.2 fun r waits => fun kind => noWait r waits (beq_iff_eq.1 kind)
  change execMaintenanceDone s = _
  unfold execMaintenanceDone
  simp only [maint, tags, pend, quiet, noFill, List.any_nil, Bool.or_self, List.isEmpty_nil, Bool.not_false, Bool.and_self, if_true]
  rfl

end

/-- Settles O52: the cache's requests reach its one entry, and a fill, a write-back and maintenance end when they are ready. -/
theorem cacheCommands : Obligations.CacheCommands := by
  intro s
  exact ⟨fun _ _ _ => ⟨rfl, rfl⟩, fun _ _ => exec_cacheFillDone_ready, fun _ _ _ => exec_writebackDone_ready,
    fun _ => exec_maintenanceDone_over, fun _ => rfl⟩

end Sys2Proof.Machine

/-!
SUPPORT. SPDM over the security commands (R508, R509) and the trust engine (R506, R513, R519, R520, R522-R526, R532).
-/
namespace Sys2Proof.Machine
section
variable {s : State} {c : ConnIx} {cid : Nat}

/-! SPDM -/

/-- The answer of an SPDM request of a controller: it is kept for the receive command, and the send command completes. -/
def State.spdmKept (s : State) (c cid : Nat) (resp : List Nat) : State :=
  let a := ((s.conn c).bind fun k => k.assoc).getD 0
  (s.setHost { s.host with spdm := (s.host.spdm.filter fun e => decide (e.1 ≠ a)) ++ [(a, resp)] }).complete c cid .ok

theorem State.spdmAnswer_fresh (fresh : s.freshAdmin c.val cid = true) (resp : List Nat) :
    s.spdmAnswer c.val cid resp = s.spdmKept c.val cid resp :=
  State.admin_fresh fresh

theorem exec_getCertificate_there {slot : Fin 8} {offset len : Nat} {chain : List Nat} (fresh : s.freshAdmin c.val cid = true)
    (there : s.certSlot slot.val = some chain) :
    exec (.getCertificate c cid slot offset len) s = .next (s.spdmKept c.val cid ([0x02, slot.val] ++ (chain.drop offset).take len)).settle := by
  refine (congrArg done (State.spdmAnswer_fresh fresh _)).trans ?_
  simp only [there]
  rfl

theorem exec_spdmChallenge_there {slot : Fin 8} {nonce chain : List Nat} (there : s.certSlot slot.val = some chain) :
    let ms := (List.range 5).flatMap fun i => s.measurement (i + 1)
    exec (.spdmChallenge c cid slot nonce) s = .next ((s.random 32).2.spdmSigned c.val cid
      ([0x03, slot.val] ++ Config.sha384 chain ++ bytesBE 32 (s.random 32).1 ++ Config.sha384 ms) nonce).settle := by
  change execSpdmChallenge c cid slot nonce s = _
  simp only [execSpdmChallenge, there]
  rfl

theorem exec_getMeasurements_kept {index : Fin 256} {nonce : List Nat} (fresh : s.freshAdmin c.val cid = true) :
    let body := if index.val = 0 then [5] else if index.val = 0xFF then (List.range 5).flatMap fun i => s.measurement (i + 1)
      else s.measurement index.val
    (index.val = 0 ∨ index.val = 0xFF ∨ index.val ≤ 5 →
      exec (.getMeasurements c cid index nonce) s = .next ((s.random 32).2.spdmSigned c.val cid
        ([0x60, index.val] ++ body ++ bytesBE 32 (s.random 32).1) nonce).settle) ∧
    (5 < index.val → index.val < 0xFF →
      exec (.getMeasurements c cid index nonce) s = .next (s.spdmKept c.val cid spdmError).settle) :=
  ⟨fun known => if_pos known, fun above below => (if_neg (by omega)).trans (congrArg done (State.spdmAnswer_fresh fresh _))⟩

theorem exec_securityReceive_kept {r : List Nat} (fresh : s.freshAdmin c.val cid = true) :
    let a := ((s.conn c.val).bind fun k => k.assoc).getD 0
    s.host.spdm.find? (fun e => decide (e.1 = a)) = some (a, r) →
      exec (.securityReceive c cid 0xF2 0) s = .next (State.complete
        (s.setHost { s.host with spdm := s.host.spdm.filter fun e => decide (e.1 ≠ a) }) c.val cid .ok 0 r).settle := by
  intro a kept
  refine congrArg done ((State.admin_fresh fresh).trans ((if_neg (by decide)).trans ?_))
  simp only [a] at kept ⊢
  simp only [kept]

/-! The trust engine -/

theorem exec_enrolTimeout_late {e : EnrolSt} (enrols : s.te.enrol = some e) (late : e.since + 10000000000 ≤ s.now) :
    exec .enrolTimeout s = .next (s.setTe { s.te with enrol := none }).settle := by
  change execEnrolTimeout s = _
  simp only [execEnrolTimeout, enrols, late, if_true]
  rfl

theorem exec_loadKeyDerived_cases (ns load : Nat) (s : State) :
    (s.loadKey ns load = none → exec (.loadKeyDerived ns load) s = .next (s.keyMissing ns).settle) ∧
    (∀ key, s.loadKey ns load = some key →
      let rest := s.te.slots.filter fun e => decide (e ≠ (ns, load))
      exec (.loadKeyDerived ns load) s = .next (s.setSlots (rest.drop (rest.length - 255) ++ [(ns, load)])).settle) :=
  ⟨fun missing => if_pos (Option.isNone_iff_eq_none.2 missing), fun _ there => if_neg (by rw [there]; exact Bool.false_ne_true)⟩

/-- A block is encrypted with the key in its slot, by an engine whose self-check passes. -/
theorem exec_encryptBlock_keyed {lane : LaneOf} {zone : ZoneIx} {stripe key : Nat} {engine : Fin 5} {x : StripeRec} :
    let k := 300 * lane.val + zone.val
    let e := ((s.zone k).ns, s.load.id)
    s.stripe k stripe = some x → x.plain ≠ [] → s.flag mediacryptPage HDR.ISOLATE = false →
    s.fldBit mediacryptPage MEDIACRYPT.MX_STAT_ENGINE_MAP engine.val = true → s.loadKey e.1 e.2 = some key → e ∈ s.te.slots →
    exec (.encryptBlock lane zone stripe engine true) s =
      .next (((s.touchSlot e).encryptMember x key).count mediacryptPage MEDIACRYPT.ENC_BLOCKS).settle ∧
    exec (.encryptBlock lane zone stripe engine false) s =
      .next ((s.count mediacryptPage MEDIACRYPT.SELFCHK_FAIL).engineFail engine.val).settle := by
  intro k e there plain serves mapped keyed slotted
  have slot : s.te.slots.contains e = true := List.contains_iff_mem.2 slotted
  have held : x.plain.isEmpty = false := by
    cases content : x.plain with
    | nil => exact absurd content plain
    | cons => rfl
  change execEncryptBlock lane zone stripe engine true s = _ ∧ execEncryptBlock lane zone stripe engine false s = _
  simp only [k, e] at there keyed slot ⊢
  simp only [execEncryptBlock, there, held, serves, mapped, keyed, slot, Bool.not_true, Bool.false_eq_true, or_self, if_false, if_true]
  exact ⟨rfl, rfl⟩

/-- A finished zone whose blocks are all confirmed is sealed once, by its writer, over its digest or what was read back. -/
theorem exec_zoneSeal_finished {lane : LaneOf} {zone : ZoneIx} {readBack : List Nat} {n : NsSt} :
    let k := 300 * lane.val + zone.val
    let z := s.zone k
    let nz := (n.zoneOf s.load.id k).getD 0
    s.nsp z.ns = some n → z.state = 4 → z.allConfirmed = true → z.sealed = false → s.zoneWriter k = true →
    let bytes := s.sealBytes n k (Config.sha384 (if z.digestOk then z.digest else readBack)) false
    let t := s.setZone k { z with sealed := true, finish := false, digest := [] }
    let t := t.setHost { t.host with seals := t.host.seals ++ [(z.ns, nz, bytes)] }
    let t := ((t.count tePage TE.SEAL_CNT).event tePage 0x8105 1 0xFF z.ns).zoneRecord k
    exec (.zoneSeal lane zone readBack) s = .next (t.tSend clsControl (.forward (.seal z.ns nz bytes))).hostProgress.settle := by
  intro k z nz there full confirmed unsealed writer
  change execZoneSeal lane zone readBack s = _
  simp only [k, z] at there full confirmed unsealed writer ⊢
  simp only [execZoneSeal, there, full, confirmed, unsealed, writer, Bool.not_true, Bool.false_and, Bool.not_false, Bool.false_eq_true, ne_eq,
    not_true_eq_false, and_true, or_self, if_false]
  rfl

theorem exec_debugChallengeRead_again {ch : List Nat} (given : s.te.challenge = some ch) :
    exec .debugChallengeRead s = .next ((s.jtagSelect .challenge).send (.challenge ch)).settle := by
  change execDebugChallengeRead s = _
  simp only [execDebugChallengeRead, given, Option.getD_some]
  rfl

/-- The challenge of an interface that holds none is new: random, with the die's serial number and state. -/
def State.newChallenge (s : State) : List Nat :=
  bytesBE 32 (s.random 32).1 ++ bytesBE 8 s.serial ++ [s.svnFuse, s.trustState] ++ List.replicate 22 0

theorem exec_debugChallengeRead_first (none : s.te.challenge = none) :
    exec .debugChallengeRead s = .next (State.send (State.jtagSelect ((s.random 32).2.setTe
      { (s.random 32).2.te with challenge := some s.newChallenge }) .challenge) (.challenge s.newChallenge)).settle := by
  change execDebugChallengeRead s = _
  simp only [execDebugChallengeRead, none]
  rfl

theorem debugChallengeRead_first (none : s.te.challenge = none) :
    ∃ ch t, exec .debugChallengeRead s = .next t ∧ t.te.challenge = some ch ∧ t.out = s.out ++ [.challenge ch] := by
  refine ⟨s.newChallenge, _, exec_debugChallengeRead_first none, ?_, ?_⟩
  · rw [State.settle_te]
    rfl
  · rw [State.settle_out]
    rfl

end

/-- Settles O53: an SPDM request leaves its answer for the receive command, and the trust engine's steps run when they are due. -/
theorem trustCommands : Obligations.TrustCommands := by
  refine ⟨fun c cid s fresh => ?_, fun s => ⟨rfl, fun many => congrArg done (if_pos many), fun _ => exec_enrolTimeout_late, rfl,
    fun ns load => exec_loadKeyDerived_cases ns load s, fun _ _ _ _ _ _ => exec_encryptBlock_keyed, fun _ _ _ _ => exec_zoneSeal_finished,
    fun _ => exec_debugChallengeRead_again, debugChallengeRead_first⟩⟩
  have kept (resp : List Nat) := congrArg done (State.spdmAnswer_fresh fresh resp)
  exact ⟨kept _, kept _, kept _, kept _, fun _ _ _ _ => exec_getCertificate_there fresh, fun _ _ _ => exec_spdmChallenge_there,
    fun _ _ => exec_getMeasurements_kept fresh, kept _, fun _ => exec_securityReceive_kept fresh⟩

end Sys2Proof.Machine

/-!
SUPPORT. The rack: announcements, polls and PMBus transactions (R554-R557, R562).
-/
namespace Sys2Proof.Machine
section
variable {s : State}

/-- An announcement is due at once after a reset, and then once per gap. -/
theorem exec_announceSend_due (serves : s.flag rdyPage RDY.STEBARO = true) (alone : s.flag hyPage HY.HY_STAT_REGISTERED = false) :
    let gap := if s.hy.noMgr then 5000000000 else 200000000
    (s.hy.announced = none ∨ (∃ t, s.hy.announced = some t ∧ t + gap ≤ s.now) →
      let t := (s.setHy { s.hy with announced := some s.now }).send (.announce announceGroup 47211 s.announceBytes)
      exec .announceSend s =
        .next (if s.mgrAddr = 0 then t else t.send (.announce s.mgrAddr 47211 s.announceBytes)).settle) := by
  intro gap due t
  have now : (match s.hy.announced with
      | some t => decide (t + gap ≤ s.now)
      | none => true) = true := by
    rcases due with never | ⟨t, before, late⟩
    · rw [never]
    · rw [before]
      exact decide_eq_true late
  change execAnnounceSend s = _
  unfold execAnnounceSend
  rw [if_neg]
  · rfl
  · rintro (unready | registered | early)
    · rw [serves] at unready
      cases unready
    · exact Bool.eq_false_iff.1 alone registered
    · exact Bool.eq_false_iff.1 ((Bool.not_eq_true' _).mp early) now

theorem exec_noManagerTimeout_late (serves : s.flag rdyPage RDY.STEBARO = true) (alone : s.flag hyPage HY.HY_STAT_REGISTERED = false)
    (new : s.hy.noMgr = false) (late : s.fld rdyPage RDY.RDY_TIME 2 * 1000 + 60000000000 ≤ s.now) :
    exec .noManagerTimeout s = .next ((s.setHy { s.hy with noMgr := true }).event hyPage 0x8507 3).settle :=
  if_neg (not_or.2 ⟨Bool.eq_false_iff.1 new, not_or.2 ⟨Bool.eq_false_iff.1 alone, not_or.2 ⟨by rw [serves]; decide, Nat.not_lt.2 late⟩⟩⟩)

theorem exec_announceMsg_heard {b : AnnounceBody} {block : List Word} (active : s.activeMgr = true) (magic : b.magic = 0x4859)
    (version : b.version = 1) (whole : block.length = 16) :
    let k := b.shelf.val
    let side := b.flags % 2
    let t := (s.takeBlock k side block).send (.custodian k side (hyPage + 0x58) 1)
    let t := if s.workerSt k side ≠ 1 then (t.istat hyPage 8).event hyPage 0x8501 1 0xFF k else t
    exec (.announceMsg b block) s = .next (if b.domain = 0 ∧ t.flag hyPage HY.MGR_CFG_AUTO_ENROL = true then
      t.setHy { t.hy with enrol := (t.hy.enrol ++ [2 * k + side]).eraseDups } else t).settle := by
  intro k side t t
  change execAnnounceMsg b block s = _
  simp only [execAnnounceMsg, active, magic, version, whole, ne_eq, not_true_eq_false, Bool.not_true, Bool.false_eq_true, or_self, if_false,
    decide_eq_true_eq]
  rfl

section
variable {shelf : Fin 64} {side : Side} {w : Worker} (listed : s.worker shelf.val = some w) (active : s.activeMgr = true)
  (known : s.workerSt shelf.val side.val ≠ 0)
include listed active known

theorem exec_workerPoll_heard {block : List Word} (whole : block.length = 16) (new : (block.getD 5 0).toNat ≠ sideOf w.hb side.val)
    (noStage : (s.takeBlock shelf.val side.val block).hy.stage = none) :
    exec (.workerPoll shelf side (some block)) s = .next (s.takeBlock shelf.val side.val block).settle := by
  change execWorkerPoll shelf side (some block) s = _
  simp only [execWorkerPoll, listed, active, known, whole, new, noStage, ne_eq, not_false_eq_true, Option.getD_some, decide_true, Bool.and_self,
    Bool.not_true, Bool.false_eq_true, or_self, if_false, if_true]
  rfl

theorem exec_workerPoll_silent :
    let n := min 0xFFFF (sideOf w.silent side.val + 1)
    let t := (s.setWorker shelf.val { w with silent := setSide w.silent side.val n }).silentShow shelf.val
    exec (.workerPoll shelf side none) s =
      .next (if s.workerSt shelf.val side.val = 1 ∧ s.fldIn hyPage HY.MGR_CFG_WMISS 2 60 ≤ n
        then t.workerMissing shelf.val side.val else t).settle := by
  intro n t
  change execWorkerPoll shelf side none s = _
  simp only [execWorkerPoll, listed, active, known, Bool.not_true, Bool.false_eq_true, or_self, if_false]
  exact (apply_ite done _ _ _).symm

end

/-- The end of the transaction at the front: a failed one is tried three times, a good one acts by its operation. -/
theorem exec_pmbusTransactionDone_front {p : Pmbus} {r : List Pmbus} (status : Nat) (front : s.hy.pmbus = p :: r) :
    let k := p.shelf
    let t := s.pmbusNext
    let read : Pmbus := { shelf := k, op := 0x79, tries := 0, cycle := false }
    (p.tries < 2 → exec (.pmbusTransactionDone false status) s =
      .next ((s.setHy { s.hy with pmbus := { p with tries := p.tries + 1 } :: r }).pmbusSend p).settle) ∧
    (2 ≤ p.tries → exec (.pmbusTransactionDone false status) s =
      .next (((t.pwrResult 3).istat hyPage 11).event hyPage 0x8505 4 0xFF k).settle) ∧
    (p.op = 0x80 → exec (.pmbusTransactionDone true status) s =
      .next (((t.powerChanged k true).pwrResult 0).pmbusPut read).settle) ∧
    (p.op = 0x40 → exec (.pmbusTransactionDone true status) s =
      .next (((t.powerChanged k false).pwrResult 0).pmbusPut read).settle) ∧
    (p.op = 0x00 → exec (.pmbusTransactionDone true status) s =
      .next ((t.powerChanged k false).pmbusPut { shelf := k, op := 0x80, tries := 0, cycle := false }).settle) ∧
    (p.op = 0x79 → exec (.pmbusTransactionDone true status) s =
      .next (t.setFld hyPage HY.WORKER_STATUS_WORD status k).settle) := by
  intro k t read
  refine ⟨fun few => ?_, fun many => ?_, fun on => ?_, fun off => ?_, fun cycle => ?_, fun reads => ?_⟩
  · change execPmbusTransactionDone false status s = _
    simp only [execPmbusTransactionDone, front, few, Bool.not_false, if_true]
    rfl
  · change execPmbusTransactionDone false status s = _
    simp only [execPmbusTransactionDone, front, Nat.not_lt.2 many, Bool.not_false, if_true, if_false]
    rfl
  · change execPmbusTransactionDone true status s = _
    simp only [execPmbusTransactionDone, front, on, Bool.not_true, Bool.false_eq_true, if_false]
    rfl
  · change execPmbusTransactionDone true status s = _
    simp only [execPmbusTransactionDone, front, off, Bool.not_true, Bool.false_eq_true, if_false]
    rfl
  · change execPmbusTransactionDone true status s = _
    simp only [execPmbusTransactionDone, front, cycle, Bool.not_true, Bool.false_eq_true, if_false]
    rfl
  · change execPmbusTransactionDone true status s = _
    simp only [execPmbusTransactionDone, front, reads, Bool.not_true, Bool.false_eq_true, if_false]
    rfl

theorem exec_shelfPowerCycle_dead {shelf : Fin 64} {w : Worker} (listed : s.worker shelf.val = some w) (active : s.activeMgr = true)
    (allowed : s.flag hyPage HY.MGR_CFG_PC_EN = true) (gone0 : s.workerSt shelf.val 0 = 2) (gone1 : s.workerSt shelf.val 1 = 2)
    (long : s.fldIn hyPage HY.MGR_CFG_WMISS_PC 10 3600 ≤ min w.silent.1 w.silent.2) (idle : ∀ p ∈ s.hy.pmbus, p.shelf ≠ shelf.val) :
    exec (.shelfPowerCycle shelf) s = .next (s.powerCycle shelf.val).settle := by
  have free : (s.hy.pmbus.any fun p => decide (p.shelf = shelf.val)) = false :=
    List.any_eq_false.2 fun p waits => fun same => idle p waits (of_decide_eq_true same)
  change execShelfPowerCycle shelf s = _
  simp only [execShelfPowerCycle, listed, active, allowed, gone0, gone1, long, free, Option.getD_some, decide_true, Bool.not_false, Bool.and_self,
    if_true]
  rfl

theorem exec_powerOnDequeue_room {k : Nat} {r : List Nat} (queued : s.hy.queue = k :: r) (room : s.powerRoom = true) :
    exec .powerOnDequeue s = .next (((s.setHy { s.hy with queue := r }).setFlag hyPage HY.WORKER_QUEUED false k).pmbusPut
      { shelf := k, op := 0x80, tries := 0, cycle := false }).settle := by
  change execPowerOnDequeue s = _
  simp only [execPowerOnDequeue, queued, room, Bool.not_true, Bool.false_eq_true, if_false]
  rfl

end

/-- Settles O54: the manager hears, polls and powers its workers by what each has said and how long each has been silent. -/
theorem rackCommands : Obligations.RackCommands := by
  intro s
  exact ⟨fun serves alone => ⟨exec_announceSend_due serves alone, exec_noManagerTimeout_late serves alone⟩, fun _ _ => exec_announceMsg_heard,
    fun _ _ _ listed active known => ⟨fun _ => exec_workerPoll_heard listed active known, exec_workerPoll_silent listed active known⟩,
    fun _ _ status front => exec_pmbusTransactionDone_front status front, fun _ _ => exec_shelfPowerCycle_dead,
    fun _ _ => exec_powerOnDequeue_room, rfl⟩

end Sys2Proof.Machine

/-!
SUPPORT. The recorder and the observation queues (R594-R597, R601, R602, R606, R607).
-/
namespace Sys2Proof.Machine
section
variable {s : State} {q : QueueIx}

theorem exec_eventRaised_front {e : Event} {es : List Event} (raised : s.recd.raised = e :: es) :
    exec .eventRaised s = .next ((s.withRec fun r => { r with raised := es }).record e).settle := by
  refine congrArg done ?_
  unfold State.recordNext
  simp only [raised]

theorem exec_mirrorRetry_late (waits : s.recd.mirrorQ ≠ []) (late : s.recd.mirrorFailAt + 10000000 ≤ s.now) :
    exec .mirrorRetry s = .next (s.withRec fun r => { r with mirrorBusy := true }).settle :=
  if_neg (not_or.2 ⟨fun empty => waits (List.isEmpty_iff.1 empty), Nat.not_lt.2 late⟩)

/-- The sums of a head's decoder that telemetry queue `q` reported last. -/
def State.l0Reported (s : State) (q h : Nat) : Nat × Nat := storeFind (fun _ => (0, 0)) s.oq.l0 (64 * q + h)

/-- The sums of a head's decoder now. -/
def State.l0Now (s : State) (h : Nat) : Nat × Nat := storeFind (fun _ => (0, 0)) s.pool.l0 h

/-- The mean iterations per codeword since the last report, or a free value of `ps` where no codeword came. -/
def State.l0Mean (s : State) (q : Nat) (ps : List Nat) (h : Nat) : Nat :=
  let k := (s.l0Now h).2 - (s.l0Reported q h).2
  if k = 0 then ps.getD h 0 else ((s.l0Now h).1 - (s.l0Reported q h).1) * 256 / k

/-- A telemetry queue whose period is over takes its source's bodies. -/
theorem exec_telemetryPeriod_due (telemetry : 16 ≤ q.val)
    (due : storeFind (fun _ => 0) s.oq.telAt q.val + 1000000 * clampNat 1 255 (s.cfg obsqPage OBSQ.Q_CFG_PERIOD q.val) ≤ s.now)
    (source : 1 ≤ s.cfg obsqPage OBSQ.Q_CFG_SRC q.val) (known : s.cfg obsqPage OBSQ.Q_CFG_SRC q.val ≤ 6) :
    let src := s.cfg obsqPage OBSQ.Q_CFG_SRC q.val
    let p := if src = 1 then s.frees 33 else ([], s)
    let t := p.2.forEach (p.2.telemetryBodies (s.l0Mean q.val p.1) src) fun u b => u.queueItem q.val 2 b
    let u : State := { t with oq := { t.oq with telAt := storePut (fun _ => 0) t.oq.telAt q.val s.now } }
    exec (.telemetryPeriod q) s = done (if src = 1 then
      { u with oq := { u.oq with
        l0 := (List.range 33).foldl (fun m h => storePut (fun _ => (0, 0)) m (64 * q.val + h) (s.l0Now h)) t.oq.l0 } } else u) :=
  if_neg (not_or.2 ⟨Nat.not_lt.2 telemetry, not_or.2 ⟨Nat.ne_of_gt source, not_or.2 ⟨Nat.not_lt.2 known, Nat.not_lt.2 due⟩⟩⟩)

theorem telemetryPeriod_reports (telemetry : 16 ≤ q.val)
    (due : storeFind (fun _ => 0) s.oq.telAt q.val + 1000000 * clampNat 1 255 (s.cfg obsqPage OBSQ.Q_CFG_PERIOD q.val) ≤ s.now) :
    let src := s.cfg obsqPage OBSQ.Q_CFG_SRC q.val
    let at' (u : State) : State := { u with oq := { u.oq with telAt := storePut (fun _ => 0) u.oq.telAt q.val s.now } }
    (2 ≤ src → src ≤ 6 → ∃ l0, exec (.telemetryPeriod q) s =
      .next (at' (s.forEach (s.telemetryBodies l0 src) fun u b => u.queueItem q.val 2 b)).settle) ∧
    (src = 1 → ∃ l0 sums, exec (.telemetryPeriod q) s =
      let t := (s.frees 33).2
      let u := at' (t.forEach (t.telemetryBodies l0 1) fun u b => u.queueItem q.val 2 b)
      .next (State.settle { u with oq := { u.oq with l0 := sums } })) := by
  intro src at'
  refine ⟨fun other known => ⟨s.l0Mean q.val [], ?_⟩, fun decoder => ⟨s.l0Mean q.val (s.frees 33).1,
    (List.range 33).foldl (fun m h => storePut (fun _ => (0, 0)) m (64 * q.val + h) (s.l0Now h))
      ((s.frees 33).2.forEach ((s.frees 33).2.telemetryBodies (s.l0Mean q.val (s.frees 33).1) 1) fun u b => u.queueItem q.val 2 b).oq.l0, ?_⟩⟩
  · have notDecoder : ¬ s.cfg obsqPage OBSQ.Q_CFG_SRC q.val = 1 := fun one => absurd other (by rw [show src = 1 from one]; decide)
    refine (exec_telemetryPeriod_due telemetry due (Nat.le_of_succ_le other) known).trans ?_
    simp only [if_neg notDecoder]
    rfl
  · have one : s.cfg obsqPage OBSQ.Q_CFG_SRC q.val = 1 := decoder
    refine (exec_telemetryPeriod_due telemetry due (Nat.le_of_eq one.symm) (by rw [one]; decide)).trans ?_
    simp only [one, if_true]
    rfl

theorem exec_qFlushEffect_asked (asked : (s.oqueue q.val).flush = true) (still : s.oqInProgress q.val = false) :
    exec (.qFlushEffect q) s = .next (s.flushQueue q.val).settle :=
  if_pos (by rw [asked, still]; rfl)

end

/-- Settles O55: the recorder takes the front event, the mirror its answer, and a queue its items and its due telemetry. -/
theorem recorderCommands : Obligations.RecorderCommands := by
  intro s
  exact ⟨fun _ _ => exec_eventRaised_front, fun _ _ _ _ _ => rfl, exec_mirrorRetry_late, fun _ _ => exec_queueItemWrite_waiting,
    fun _ => telemetryPeriod_reports, fun _ => exec_qFlushEffect_asked⟩

end Sys2Proof.Machine

/-!
SUPPORT. The twin link (R540-R546): heartbeats, HELLO, loss, partition and take-over.
-/
namespace Sys2Proof.Machine
section
variable {s : State}

theorem exec_helloSend_alone (alone : s.paired = false) (port : s.flag rdyPage RDY.PORT_T = true) (key : s.te.drk.isSome = true) :
    let t := if s.twState = 5 then (s.setFld twPage TW.BOOT (s.fld twPage TW.BOOT + 1)).setTw { s.tw with seq := 0 } else s
    exec .helloSend s = .next (t.tSend0 (.hello t.helloBody)).settle := by
  have held : ¬ s.te.drk.isNone = true := fun none => by rw [Option.isNone_iff_eq_none.1 none] at key; cases key
  exact if_neg (not_or.2 ⟨Bool.eq_false_iff.1 alone, not_or.2 ⟨by rw [port]; decide, held⟩⟩)

theorem exec_helloMsg_fresh {h : THdr} {b : HelloBody} {drk : Nat} (key : s.te.drk = some drk) (alone : s.paired = false) (up : s.svc.held = .no)
    (fresh : s.tFresh h = true) (own : s.foreignHello b = false) :
    let t := s.tTaken h
    let t := t.setTw { t.tw with hello := some b, kt := t.twinKey drk b, foreign := false, authOut := true }
    let t := (t.setPair twPage TW.TWIN_SER_LO TW.TWIN_SER_HI b.serial).setFlag tePage TE.TE_STAT_TWIN_KEY true
    exec (.helloMsg h b) s = .next ((t.setTwState 1).tSend0 (.helloAuth b.serial h.boot.toNat)).tryPair.settle := by
  intro t t t
  change execHelloMsg h b s = _
  simp only [execHelloMsg, key, alone, up, fresh, own, ne_eq, not_true_eq_false, Bool.not_true, Bool.false_eq_true, or_self, if_false]
  rfl

theorem exec_helloAuth_good {h : THdr} {serial boot : Nat} (heard : s.tw.hello.isSome = true) (fresh : s.tFresh h = true)
    (alone : s.paired = false) (mine : serial = s.serial) (now : boot = s.fld twPage TW.BOOT + 2 ^ 31 * s.side) :
    let t := s.tTaken h
    exec (.helloAuth h serial boot) s = .next (t.setTw { t.tw with authIn := true, lastSign := t.now }).tryPair.settle := by
  have known : ¬ s.tw.hello.isNone = true := fun none => by rw [Option.isNone_iff_eq_none.1 none] at heard; cases heard
  exact (if_neg known).trans ((if_neg (by rw [fresh]; decide)).trans
    (if_neg (not_or.2 ⟨Bool.eq_false_iff.1 alone, not_or.2 ⟨fun n => n mine, fun n => n now⟩⟩)))

theorem exec_reliableResend_due {cls : Fin 4} (paired : s.paired = true) (due : s.resendDue cls.val = true) :
    let t := s.forEach (s.tw.unacked.filter fun x => decide (x.cls = cls.val)) fun u x => u.tFrame x.cls x.msn x.msg
    exec (.reliableResend cls) s = .next (t.setTw { t.tw with
      unacked := t.tw.unacked.map fun x => if x.cls = cls.val then { x with sent := t.now } else x }).settle :=
  if_neg (not_or.2 ⟨by rw [paired]; decide, by rw [due]; decide⟩)

/-- An edge of the twin's pin is noise, out of time, or a sign of life, by its time after the edge before (log entry 168). -/
theorem exec_twinHbInEdge_cases {e : Nat} (before : s.tw.lastEdge = some e) :
    let t := s.setTw { s.tw with lastEdge := some s.now }
    let u := (t.setFlag twPage TW.TW_STAT_PIN_ALIVE true).setFlag twPage TW.TW_STAT_PIN_FAULT false
    (s.now < e + 100000 → exec .twinHbInEdge s = .next s.settle) ∧
    (e + 100000 ≤ s.now → ¬(e + 500000 ≤ s.now ∧ s.now ≤ e + 1500000) → exec .twinHbInEdge s = .next t.settle) ∧
    (e + 500000 ≤ s.now → s.now ≤ e + 1500000 → exec .twinHbInEdge s = .next (u.setTw { u.tw with lastSign := u.now }).settle) := by
  have inTime : s.edgeInTime = decide (e + 500000 ≤ s.now ∧ s.now ≤ e + 1500000) := by
    unfold State.edgeInTime
    rw [before]
  intro t u
  change (_ → execTwinHbInEdge s = _) ∧ (_ → _ → execTwinHbInEdge s = _) ∧ (_ → _ → execTwinHbInEdge s = _)
  unfold execTwinHbInEdge
  simp only [before, inTime]
  refine ⟨fun noise => if_pos (decide_eq_true noise), fun quiet outside => ?_, fun low high => ?_⟩
  · rw [decide_eq_false outside, if_neg fun noise => Nat.not_lt.2 quiet (of_decide_eq_true noise)]
    rfl
  · have inside : e + 500000 ≤ s.now ∧ s.now ≤ e + 1500000 := ⟨low, high⟩
    rw [decide_eq_true inside, if_neg fun noise => Nat.not_lt.2 (by omega) (of_decide_eq_true noise)]
    rfl

theorem exec_twinHbPinLost_missed (alive : s.flag twPage TW.TW_STAT_PIN_ALIVE = true) (missed : s.edgesMissed = true) :
    let t := s.setFlag twPage TW.TW_STAT_PIN_ALIVE false
    exec .twinHbPinLost s = .next (if t.flag twPage TW.TW_STAT_T_ALIVE
      then ((t.setFlag twPage TW.TW_STAT_PIN_FAULT true).istat twPage 14).event twPage 0x8405 3 else t).settle :=
  if_neg (not_or.2 ⟨by rw [alive]; decide, by rw [missed]; decide⟩)

theorem exec_unplannedTakeover_absent (absent : s.twinAbsent = true) (state : s.paired = true ∨ s.twState = 4)
    (allowed : s.flag twPage TW.TW_CFG_AUTO_TAKE = true) : exec .unplannedTakeover s = .next s.takeover.takeoverGo.settle := by
  have ready : (s.paired || decide (s.twState = 4)) = true := Bool.or_eq_true_iff.2 (state.imp_right decide_eq_true)
  exact if_pos (by rw [absent, ready, allowed]; rfl)

theorem exec_partitionWithdraw_secondSide (paired : s.paired = true) (side : s.side = 0) (pin : s.flag twPage TW.TW_STAT_PIN_ALIVE = true)
    (port : s.flag twPage TW.TW_STAT_T_ALIVE = false) : exec .partitionWithdraw s = .next s.withdraw.settle :=
  if_pos (by rw [paired, pin, port, decide_eq_true side]; rfl)

end

/-- Settles O56: each step of the link runs in the state that waits for it, at its own time. -/
theorem twinLinkCommands : Obligations.TwinLinkCommands := by
  intro s
  exact ⟨fun _ => rfl, exec_helloSend_alone, fun _ _ _ => exec_helloMsg_fresh, fun _ _ _ => exec_helloAuth_good,
    fun paired => ⟨if_neg (by rw [paired]; decide), fun _ => exec_reliableResend_due paired, congrArg done (if_pos paired)⟩,
    fun runs => congrArg done (if_pos runs), fun _ => exec_twinHbInEdge_cases, exec_twinHbPinLost_missed, fun late => if_neg (Nat.not_lt.2 late),
    exec_unplannedTakeover_absent, exec_partitionWithdraw_secondSide, fun state late => if_pos ⟨state, late⟩⟩

end Sys2Proof.Machine

/-!
SUPPORT. Tokens and writer roles change sides (R546-R552).
-/
namespace Sys2Proof.Machine
section
variable {s : State} {h : THdr} {tok : TokenIx}

/-- A message of the twin that is heard acts on the state that has heard it. -/
theorem done_heard {cls : Nat} {f : State → State} {t : State} (hears : s.Hears h cls) (acts : f (s.twinHeard h cls) = t) :
    done (s.tMsg h cls f) = .next t.settle :=
  congrArg done ((State.tMsg_hears hears).trans acts)

theorem exec_exportMessage_good {epoch : Nat} {b : ExportBody} {x : Handover} (hears : s.Hears h clsToken)
    (runs : (s.twinHeard h clsToken).hoOf tok.val = some x) (good : ((s.twinHeard h clsToken).hoImport tok.val b).2 = true) :
    exec (.exportMessage h tok epoch b) s = .next (((((s.twinHeard h clsToken).hoImport tok.val b).1.putHo { x with stage := .taken }).tSend
      clsToken (.tokenTake tok.val epoch)).hoGo).settle := by
  refine done_heard hears ?_
  simp only [runs, good, if_true]

theorem exec_exportMessage_bad {epoch : Nat} {b : ExportBody} {x : Handover} (hears : s.Hears h clsToken)
    (runs : (s.twinHeard h clsToken).hoOf tok.val = some x) (bad : ((s.twinHeard h clsToken).hoImport tok.val b).2 = false) :
    exec (.exportMessage h tok epoch b) s = .next ((((s.twinHeard h clsToken).hoImport tok.val b).1.endHo tok.val).tSend
      clsToken (.tokenDone tok.val epoch 5)).settle := by
  refine done_heard hears ?_
  simp only [runs, bad, Bool.false_eq_true, if_false]

theorem exec_tokenTake_sent {epoch : Nat} {x : Handover} (hears : s.Hears h clsToken) (runs : (s.twinHeard h clsToken).hoOf tok.val = some x)
    (releases : x.release = true) (sent : x.stage = .exportSent) :
    exec (.tokenTake h tok epoch) s = .next (((s.twinHeard h clsToken).putHo { x with stage := .taken }).hoSwitch tok.val).settle := by
  refine done_heard hears ?_
  simp only [runs, releases, sent, and_self, if_true]

theorem exec_tokenDone_releasing {epoch : Nat} {x : Handover} (result : Nat) (hears : s.Hears h clsToken)
    (runs : (s.twinHeard h clsToken).hoOf tok.val = some x) (releases : x.release = true) :
    exec (.tokenDone h tok epoch result) s = .next ((s.twinHeard h clsToken).hoDone tok.val result).settle := by
  refine done_heard hears ?_
  simp only [runs, releases, if_true]

/-- What belongs to the twin goes back to it: the first group of heads, or the rest where no head is left. -/
theorem exec_autoReturn_some (asked : s.flag twPage TW.TW_CFG_AUTO_RETURN = true) (runs : s.twState = 2) (up : s.twinUp = true) :
    let back := s.hoBack
    let ns := back.1.filter fun n => s.twinTakes n
    let heads := ns.filter fun n => decide (n < 32)
    let one := match heads with
      | a :: _ => heads.filter fun n => decide (n / 8 = a / 8)
      | [] => ns
    ns ≠ [] ∨ back.2 ≠ [] → exec .autoReturn s = .next (s.hoStart one (if heads.length = one.length then back.2 else [])).settle := by
  intro back ns heads one held
  exact (if_pos ⟨asked, runs, up⟩).trans (if_neg fun ⟨noTokens, noRoles⟩ =>
    held.elim (fun n => n (List.isEmpty_iff.1 noTokens)) fun n => n (List.isEmpty_iff.1 noRoles))

theorem exec_writerMove_ready {ns : Nat} {m : Nat × Nat} (moves : s.tw.moves.find? (fun m => decide (m.1 = ns)) = some m)
    (queued : ∀ n ∈ s.tw.hoQueue, 33 ≤ n) (running : ∀ x ∈ s.tw.ho, 33 ≤ x.tok) (mirrored : s.fld journalPage JOURNAL.MIRROR_LAG = 0) :
    let t := s.tSend clsControl (.writer ns m.2)
    let t := t.setTw { t.tw with
      moves := t.tw.moves.filter (fun m => decide (m.1 ≠ ns)),
      writers := t.tw.writers.filter fun n => n != ns }
    exec (.writerMove ns) s = .next (t.setAna ns 3).hoOver.settle := by
  have noHead : ((s.tw.hoQueue ++ s.tw.ho.map fun x => x.tok).any fun n => decide (n < 33)) = false := by
    refine List.any_eq_false.2 fun n listed => fun head => ?_
    obtain waits | moving := List.mem_append.1 listed
    · exact Nat.not_lt.2 (queued n waits) (of_decide_eq_true head)
    · obtain ⟨x, there, rfl⟩ := List.mem_map.1 moving
      exact Nat.not_lt.2 (running x there) (of_decide_eq_true head)
  intro t t
  change execWriterMove ns s = _
  simp only [execWriterMove, noHead, moves, mirrored, ne_eq, not_true_eq_false, Bool.false_eq_true, or_self, if_false]
  rfl

theorem exec_conflictResolution_withdraws (conflict : s.inConflict tok.val = true) (lost : s.flag twPage TW.TW_STAT_T_ALIVE = false)
    (side : s.side = 0) : exec (.conflictResolution tok) s = .next (s.withdraw.conflictDone tok.val).settle :=
  (if_neg (by rw [conflict]; decide)).trans ((if_pos (by rw [lost]; rfl)).trans (congrArg done (if_pos side)))

/-- Each side decides by its own table whose claim is newer, and the token's home side breaks a tie (log entry 131). -/
theorem exec_conflictResolution_decides (conflict : s.inConflict tok.val = true) (alive : s.flag twPage TW.TW_STAT_T_ALIVE = true) :
    let n := tok.val
    let mine := s.token n
    let twins := (s.tw.twin.map fun b => b.tokens.getD n (255, 0)).getD (255, 0)
    exec (.conflictResolution tok) s =
      if (newer mine.2 twins.2 || (!newer twins.2 mine.2 && decide (s.splitSide n = s.side))) then
        done (((s.setToken n s.side (mine.2 + 1)).startAfresh n).conflictDone n)
      else done (((s.dropToken n).setToken n (1 - s.side) (twins.2 + 1)).conflictDone n) :=
  (if_neg (by rw [conflict]; decide)).trans (if_neg (by rw [alive]; decide))

/-- A claim wins that is newer, or that is as new at the side that the token splits to. -/
theorem claimWins_iff {mine twins : Nat} {home : Prop} [Decidable home] :
    (newer mine twins || (!newer twins mine && decide home)) = true ↔ newer mine twins = true ∨ (newer twins mine = false ∧ home) := by
  rw [Bool.or_eq_true_iff, Bool.and_eq_true_iff, Bool.not_eq_true', decide_eq_true_iff]

end

/-- Settles O57: a token changes sides step by step, a role once its data is mirrored, and a conflict by the newer claim. -/
theorem tokenCommands : Obligations.TokenCommands := by
  intro s
  refine ⟨fun _ _ _ hears => ⟨done_heard hears rfl,
      fun _ _ runs => ⟨exec_exportMessage_good hears runs, exec_exportMessage_bad hears runs⟩,
      fun _ runs releases => ⟨exec_tokenTake_sent hears runs releases, fun result => exec_tokenDone_releasing result hears runs releases⟩⟩,
    exec_autoReturn_some, fun _ _ => exec_writerMove_ready, fun _ _ _ hears => done_heard hears rfl,
    fun _ conflict => ⟨exec_conflictResolution_withdraws conflict, fun alive => ⟨fun wins => ?_, fun loses => ?_⟩⟩⟩
  · exact (exec_conflictResolution_decides conflict alive).trans (if_pos (claimWins_iff.2 wins))
  · exact (exec_conflictResolution_decides conflict alive).trans (if_neg fun wins => loses (claimWins_iff.1 wins))

end Sys2Proof.Machine

/-!
SUPPORT. What the twin tells this side (R541, R544, R550-R552).
-/
namespace Sys2Proof.Machine
section
variable {s : State} {h : THdr}

/-- A member's part is kept, and the member fires once all four of its blocks are whole. -/
theorem exec_memberMsg_mine (hears : s.Hears h clsFire) (head : HeadIx) (sa : Nat) (blk : Fin 4) (offset : Nat) (bytes : List Nat) :
    let t := s.twinHeard h clsFire
    t.tokenMine head.val = true →
    let u := t.setTw { t.tw with partials := t.tw.partials ++ [(head.val, sa, blk.val, offset, bytes)] }
    let bs := (List.range 4).map fun k => u.memberBytes head.val sa k
    (bs.all Option.isSome = false → exec (.memberMsg h head sa blk offset bytes) s = .next u.settle) ∧
    (bs.all Option.isSome = true →
      let blocks := (bs.filterMap id).map fun b => (headerOf (b.take 4096), b.drop 4096)
      let v := u.setTw { u.tw with partials := u.tw.partials.filter fun e => !(decide (e.1 = head.val) && decide (e.2.1 = sa)) }
      exec (.memberMsg h head sa blk offset bytes) s = .next (State.want { v with fire := { v.fire with
        ready := v.fire.ready ++ [{ head := head.val, sa := sa, kind := .forTwin, blocks := blocks }] } } head.val sa .blankScan).settle) := by
  intro t mine
  have own : ¬ (!t.tokenMine head.val) = true := by rw [mine]; decide
  exact ⟨fun part => done_heard hears ((if_neg own).trans (if_pos (by rw [part]; rfl))),
    fun whole => done_heard hears ((if_neg own).trans (if_neg (by rw [whole]; decide)))⟩

theorem exec_fireReport_passed {head : HeadIx} {sa event segment k pos : Nat} {r : ReadySet} (hears : s.Hears h clsFire)
    (setting : (s.twinHeard h clsFire).twinSetting head.val sa = some (k, pos, r)) :
    exec (.fireReport h head sa event segment (some true)) s = .next ((s.twinHeard h clsFire).setPassed head.val r).hostProgress.settle := by
  refine done_heard hears ?_
  simp only [setting]

theorem exec_fireReport_fired {head : HeadIx} {sa segment k pos : Nat} {r : ReadySet} (hears : s.Hears h clsFire)
    (setting : (s.twinHeard h clsFire).twinSetting head.val sa = some (k, pos, r)) :
    exec (.fireReport h head sa 3 segment none) s = .next ((s.twinHeard h clsFire).settingFired k r.home pos).hostProgress.settle := by
  refine done_heard hears ?_
  simp only [setting]

theorem exec_forwardMsg_stageLoad {id : Nat} (hears : s.Hears h clsControl) (free : (s.twinHeard h clsControl).stageRefusal id = none)
    (away : ¬((s.twinHeard h clsControl).load.mounted = true ∧ (s.twinHeard h clsControl).load.id = id ∧
      (s.twinHeard h clsControl).load.phase = .none)) :
    exec (.forwardMsg h (.stageLoad id)) s =
      .next (((s.twinHeard h clsControl).tSend clsControl (.forward (.loadResult 0))).startStage id).settle := by
  refine done_heard hears ((if_neg away).trans ?_)
  simp only [free]

theorem exec_forwardMsg_unmountLoad {id : Nat} {store : Bool} (hears : s.Hears h clsControl)
    (free : (s.twinHeard h clsControl).unmountRefusal id = none) :
    exec (.forwardMsg h (.unmountLoad id store)) s =
      .next (((s.twinHeard h clsControl).setLoad { (s.twinHeard h clsControl).load with forTwin := true }).startUnmount id store).settle := by
  refine done_heard hears ?_
  simp only [free]

theorem exec_forwardMsg_custody {kind intent wheel store : Nat} (hears : s.Hears h clsControl) :
    let t := s.twinHeard h clsControl
    ¬(t.mot.custodyXspi.1 = 3 ∧ kind = 2) → exec (.forwardMsg h (.custody kind intent wheel store)) s =
      .next (State.settle { t with mot := { t.mot with custodyXspi := (kind, intent, wheel, store) } }) := by
  intro t other
  exact done_heard hears (congrArg (fun u : State => { u with mot := { u.mot with custodyXspi := (kind, intent, wheel, store) } })
    (if_neg other))

/-- Messages of the mirror's class. -/
theorem twinMessages_mirror (hears : s.Hears h clsMirror) :
    let t := s.twinHeard h clsMirror
    (∀ recs : List JRec,
      let m := t.jr.mirror ++ recs
      let u := t.setJr { t.jr with mirror := m.drop (m.length - hbmRing) }
      exec (.journalMsg h recs) s =
        .next ((u.forEach recs fun v r => v.journalStore mirrorArea r.seq (jrecBytes r)).tSend0 (.mirrorAck h.msn)).settle) ∧
    (∀ (ns zone first : Nat) (lbas : List (List Nat)),
      let rest := t.st.mirror.filter fun e => !(decide (e.1 = zone) && decide (first ≤ e.2.1) && decide (e.2.1 < first + lbas.length))
      let u := t.setSt { t.st with mirror := rest ++ lbas.zipIdx.map fun x => (zone, first + x.2, x.1) }
      let u := if (u.zone zone).ns = 0 then u.setZone zone { u.zone zone with ns := ns } else u
      exec (.stageMsg h ns zone first lbas) s = .next ((u.stgShow).tSend0 (.mirrorAck h.msn)).settle) ∧
    (∀ (zone : Nat) (stripes : List Nat),
      let w := (t.zone zone).width
      let free (j : Nat) : Bool := stripes.any fun i => decide (stripeFirstLba w i ≤ j) && decide (j < stripeFirstLba w (i + 1))
      exec (.stageFree h zone stripes) s = .next ((t.setSt { t.st with
        mirror := t.st.mirror.filter fun e => !(decide (e.1 = zone) && free e.2.1) }).stgShow.tSend0 (.mirrorAck h.msn)).settle) :=
  ⟨fun _ => done_heard hears rfl, fun _ _ _ _ => done_heard hears rfl, fun _ _ => done_heard hears rfl⟩

end

/-- Settles O58: a message that is heard in the order of its class acts on the state that has heard it. -/
theorem twinMessages : Obligations.TwinMessages := by
  intro h s
  exact ⟨fun hears => ⟨fun _ _ _ _ => done_heard hears rfl, fun _ => done_heard hears rfl⟩, twinMessages_mirror,
    fun hears => ⟨exec_memberMsg_mine hears,
      fun _ _ _ _ _ _ _ setting => ⟨exec_fireReport_passed hears setting, exec_fireReport_fired hears setting⟩, fun _ _ => done_heard hears rfl⟩,
    fun hears => ⟨fun _ => done_heard hears rfl, fun _ => exec_forwardMsg_stageLoad hears, fun _ _ => exec_forwardMsg_unmountLoad hears,
      fun _ => done_heard hears rfl, fun _ _ => done_heard hears rfl, fun _ _ => done_heard hears rfl, fun _ _ _ => done_heard hears rfl,
      fun _ => done_heard hears rfl, fun _ _ _ _ => exec_forwardMsg_custody hears⟩⟩

end Sys2Proof.Machine

/-!
SUPPORT. Resets, temperature and bring-up (R30, R62, R565, R566, R576, R617, R620, R626, R628, R635).
-/
namespace Sys2Proof.Machine
section
variable {s : State}

/-- A trip or a fall of the power holds a chip in reset that the reset pin does not hold already. -/
theorem exec_powerLoss_running (free : s.svc.held ≠ .porst) :
    exec .pwrgdFall s = .next (s.holdReset .power 3).settle ∧
    exec .thermalTrip s = .next (((s.holdReset .thermal 2).setFld chipPage CHIP.DIE_TEMP 920).setFld chipPage
      CHIP.DIE_TEMP_PEAK 920).settle :=
  ⟨congrArg done (if_neg free), congrArg done (if_neg free)⟩

/-- A temperature is kept as it is, and one at the alarm or above raises it. -/
theorem exec_temperature (temp : BitVec 12) (s : State) :
    let t := s.dieTemp temp
    exec (.tempAlarmClear temp) s = .next t.settle ∧
    (temp.toInt < t.fldS chipPage CHIP.TEMP_ALARM → exec (.tempAlarm temp) s = .next t.settle) ∧
    (t.fldS chipPage CHIP.TEMP_ALARM ≤ temp.toInt →
      exec (.tempAlarm temp) s = .next ((t.istat chipPage 9).event chipPage 0xF002 4).settle) :=
  ⟨rfl, fun low => if_pos low, fun high => if_neg (Int.not_lt.2 high)⟩

theorem exec_fatalReset_late (fatal : s.fld chipPage CHIP.STATE = 6) (enabled : s.flag mcPage MC.BOOT_CFG_FATAL_RESET_EN = true)
    (few : s.recentFatals.length < 3)
    (late : s.svc.fatalAt + s.fldIn mcPage MC.BOOT_CFG_FATAL_HOLD 1 255 * 100000000 ≤ s.now) :
    exec .fatalReset s = .next (((s.setSvc { s.svc with fatals := s.recentFatals ++ [s.poweredS] }).chipReset 5).setFld
      mcPage MC.FATAL_RESETS (s.recentFatals.length + 1)).settle :=
  if_neg (not_or.2 ⟨fun n => n fatal, not_or.2 ⟨by rw [enabled]; decide, not_or.2 ⟨Nat.not_le.2 few, Nat.not_lt.2 late⟩⟩⟩)

theorem exec_bootHoldExpiry_alone (runs : s.flag rdyPage RDY.MC_RUN = true) (never : s.tw.everPaired = false) (waits : s.twState = 1)
    (absent : s.twinAbsent = true)
    (late : s.fld rdyPage RDY.RDY_TIME 1 * 1000 + s.fldIn mcPage MC.BOOT_CFG_BOOT_HOLD 1 255 * 100000000 ≤ s.now) :
    exec .bootHoldExpiry s = .next ((s.event twPage 0x8602 3).takeover).settle :=
  if_neg (not_or.2 ⟨by rw [runs]; decide, not_or.2 ⟨Bool.eq_false_iff.1 never, not_or.2 ⟨fun n => n waits, not_or.2
    ⟨by rw [absent]; decide, Nat.not_lt.2 late⟩⟩⟩⟩)

/-- A clamp that never closed ends the mounting, and a recovery that waited for it. -/
theorem exec_clampSenseTimeout_open {w : WheelIx}
    (mounting : s.fld loaderPage LOADER.CUSTODY_KIND = 2 ∨ s.flag loaderPage LOADER.LD_STAT_RECOVERY = true)
    (wheel : s.fld loaderPage LOADER.CUSTODY_WHEEL = w.val) (opened : s.flag (wheelPage w.val) WHEEL.WH_STAT_CLAMP_SNS = false)
    (late : (s.wheel w.val).clampAt + 1000000000 ≤ s.now) :
    let u := s.event loaderPage 0x7308 5 0xFF w.val
    let r := u.writeCustody 0 0 w.val (s.fld loaderPage LOADER.CUSTODY_STORE)
    let r := (r.setFlag loaderPage LOADER.LD_STAT_RECOVERY false).count loaderPage LOADER.RECOV_CNT
    exec (.clampSenseTimeout w) s = .next (if s.flag loaderPage LOADER.LD_STAT_RECOVERY
      then ((r.istat loaderPage 10).event loaderPage 0x7307 3).planStops else u.planStops).settle := by
  intro u r r
  have busy : (decide (s.fld loaderPage LOADER.CUSTODY_KIND = 2) || s.flag loaderPage LOADER.LD_STAT_RECOVERY) = true :=
    Bool.or_eq_true_iff.2 (mounting.imp_left decide_eq_true)
  refine (if_neg (not_or.2 ⟨by rw [busy]; decide, not_or.2 ⟨fun n => n wheel, not_or.2 ⟨Bool.eq_false_iff.1 opened, Nat.not_lt.2 late⟩⟩⟩)).trans ?_
  exact (apply_ite done _ _ _).symm

end

/-- Settles O59: a reset, a temperature and each step of the bring-up act where their condition holds. -/
theorem resetAndTemperatureCommands : Obligations.ResetAndTemperatureCommands := by
  intro s
  exact ⟨fun _ _ _ _ => rfl, rfl, exec_powerLoss_running, fun _ held cool => congrArg done (if_pos ⟨held, cool⟩),
    fun temp => exec_temperature temp s, fun _ => rfl, exec_fatalReset_late, exec_bootHoldExpiry_alone, rfl, rfl,
    fun _ => exec_clampSenseTimeout_open⟩

end Sys2Proof.Machine

/-!
SUPPORT. Self-tests (R577-R581).
-/
namespace Sys2Proof.Machine
section
variable {s : State} {test : TestIx}

/-! Starts -/

theorem exec_selfTestStart_request {q : TestReq} {c : Nat} {r : List Nat} (accepts : s.accepts stPage = true)
    (request : s.svc.request = some q) (cells : q.cells = c :: r) (mine : q.test = test.val + 1) (may : s.mayTest q.page = true)
    (spare : s.spareFree (test.val + 1) q.page c = true) (idle : s.idleSlot (test.val + 1) q.page = true) (core : s.mcSpare = true) :
    exec (.selfTestStart test .request) s = .next ((s.runTest { test := test.val + 1, page := q.page, cell := c, kind := .request }).setFld
      stPage ST.REQ_STAT_STATE 2).settle := by
  change execSelfTestStart test .request s = _
  simp only [execSelfTestStart, accepts, request, cells, mine, may, spare, idle, core, Bool.not_true, Bool.false_eq_true, and_self, if_false,
    if_true]
  rfl

/-- A test of the pass goes to the object at its cursor: it is left out without a permit, and runs where it may. -/
theorem exec_selfTestStart_pass {kind : TestKind} (own : kind ≠ .request) (accepts : s.accepts stPage = true)
    (masked : s.fldBit stPage ST.TEST_MASK test.val = true) (enabled : s.flag stPage ST.ST_CFG_ST_EN = true) (core : s.mcSpare = true) :
    let n := test.val + 1
    let o := testObject n (s.covCursor n)
    exec (.selfTestStart test kind) s =
      if !s.flag (o.1 * 0x1000) HDR.TEST_PERMIT then done (s.cursorOn n)
      else if s.mayTest o.1 ∧ s.spareFree n o.1 o.2 ∧ s.idleSlot n o.1 then done (s.runTest { test := n, page := o.1, cell := o.2, kind := .pass })
      else done s := by
  have on : ¬ ((!s.fldBit stPage ST.TEST_MASK test.val) = true ∨ (!s.flag stPage ST.ST_CFG_ST_EN) = true ∨ (!s.mcSpare) = true) := by
    rw [masked, enabled, core]
    decide
  have takes : ¬ (!s.accepts stPage) = true := by rw [accepts]; decide
  cases kind with
  | request => exact absurd rfl own
  | pass => exact (if_neg takes).trans (if_neg on)
  | forced => exact (if_neg takes).trans (if_neg on)

/-! Ends -/

/-- The state at a test's end: the object is back, its status shows it, and a failure condemns it. -/
def State.testEnded (s : State) (r : TestRun) (pass : Bool) : State :=
  let t := (s.testLeaves r).istat (r.page * 0x1000) 5
  let t := if r.test = 6 ∧ pass = true ∧ t.coreSt r.cell = coreTest then (t.setCore r.cell coreSpare 15).coresShow else t
  if pass then t.count stPage ST.TEST_PASS else t.condemn r

/-- What the end of a request's test does with the cells of the request that are left. -/
def State.requestOver (t : State) (n : Nat) (pass : Bool) (q : TestReq) : Res :=
  match q.cells.drop 1 with
  | [] => done ((t.setSvc { t.svc with request := none }).reqDone (boolNat (q.failed || !pass)))
  | c :: _ =>
    let u := t.setSvc { t.svc with request := some { q with cells := q.cells.drop 1, failed := q.failed || !pass } }
    if !q.force then done (u.setFld stPage ST.REQ_STAT_STATE 1)
    else if u.spareFree n q.page c ∧ u.flag (q.page * 0x1000) HDR.TEST_PERMIT then
      done (u.runTest { test := n, page := q.page, cell := c, kind := .request })
    else done ((u.setSvc { u.svc with request := none }).reqDone 3)

theorem State.requestOver_last {n : Nat} {pass : Bool} {q : TestReq} (last : q.cells.length ≤ 1) :
    s.requestOver n pass q = .next ((s.setSvc { s.svc with request := none }).reqDone (boolNat (q.failed || !pass))).settle := by
  unfold State.requestOver
  rw [List.drop_eq_nil_of_le last]
  rfl

theorem State.requestOver_more {n c : Nat} {rest : List Nat} {pass : Bool} {q : TestReq} (more : q.cells.drop 1 = c :: rest) :
    let u := s.setSvc { s.svc with request := some { q with cells := c :: rest, failed := q.failed || !pass } }
    s.requestOver n pass q =
      if !q.force then done (u.setFld stPage ST.REQ_STAT_STATE 1)
      else if u.spareFree n q.page c ∧ u.flag (q.page * 0x1000) HDR.TEST_PERMIT then
        done (u.runTest { test := n, page := q.page, cell := c, kind := .request })
      else done ((u.setSvc { u.svc with request := none }).reqDone 3) := by
  unfold State.requestOver
  rw [more]

/-- What the end of a test of one kind does, where such a test was running. -/
def State.testOver (s : State) (n : Nat) (kind : TestKind) (pass : Bool) : Option TestRun → Res
  | none => done s
  | some r =>
    let t := s.testEnded r pass
    match kind with
    | .pass => done (t.cursorOn n)
    | .forced => done t
    | .request => match t.svc.request with
      | some q => t.requestOver n pass q
      | none => done t

theorem exec_selfTestDone_eq {kind : TestKind} {pass : Bool} {found : Option TestRun}
    (runs : s.svc.tests.find? (fun r => decide (r.test = test.val + 1) && decide (r.kind = kind)) = found) :
    exec (.selfTestDone test kind pass) s = s.testOver (test.val + 1) kind pass found := by
  subst runs
  rfl

theorem exec_selfTestDone_request {pass : Bool} {r : TestRun} {q : TestReq}
    (runs : s.svc.tests.find? (fun r => decide (r.test = test.val + 1) && decide (r.kind = .request)) = some r)
    (request : (s.testEnded r pass).svc.request = some q) :
    exec (.selfTestDone test .request pass) s = (s.testEnded r pass).requestOver (test.val + 1) pass q := by
  rw [exec_selfTestDone_eq runs]
  unfold State.testOver
  simp only [request]

/-- A test ends early where its cause holds: the last cause is for the wheel's test alone. -/
theorem exec_selfTestEarlyEnd_cause {why : EarlyEnd} {r : TestRun}
    (runs : s.svc.tests.find? (fun r => decide (r.test = test.val + 1)) = some r)
    (cause : why = .spareNeeded ∨ (why = .holdup ∧ s.fire.holdup = true) ∨ (why = .wheelTaken ∧ test.val + 1 = 8)) :
    exec (.selfTestEarlyEnd test why) s = .next (s.testEarly r).settle := by
  change execSelfTestEarlyEnd test why s = _
  unfold execSelfTestEarlyEnd
  rw [runs]
  obtain rfl | ⟨rfl, holdup⟩ | ⟨rfl, wheel⟩ := cause
  · rfl
  · exact if_pos holdup
  · exact if_pos (decide_eq_true (Nat.succ.inj wheel))

theorem exec_passOverdue_late (late : s.stPeriod ≤ s.passAge (test.val + 1)) (new : test.val + 1 ∉ s.svc.overdue)
    (masked : s.fldBit stPage ST.TEST_MASK test.val = true) :
    exec (.passOverdue test) s = .next (((s.setSvc { s.svc with overdue := s.svc.overdue ++ [test.val + 1] }).istat stPage 10).event
      stPage 0x8702 3 0xFF (test.val + 1)).settle :=
  if_neg (not_or.2 ⟨Nat.not_lt.2 late, not_or.2 ⟨fun held => new (List.contains_iff_mem.1 held), by rw [masked]; decide⟩⟩)

/-- An overdue test that has not been forced for ten minutes is forced on the object at its cursor. -/
theorem exec_forcedTestTick_due (auto : s.flag stPage ST.ST_CFG_AUTO_FORCE = true) (overdue : test.val + 1 ∈ s.svc.overdue)
    (waited : ∀ e, s.svc.forcedAt.find? (fun e => decide (e.1 = test.val + 1)) = some e → e.2 + 600 ≤ s.poweredS) :
    let n := test.val + 1
    let o := testObject n (s.covCursor n)
    let u := s.setSvc { s.svc with forcedAt := (s.svc.forcedAt.filter fun e => decide (e.1 ≠ n)) ++ [(n, s.poweredS)] }
    exec (.forcedTestTick test) s =
      if !s.flag (o.1 * 0x1000) HDR.TEST_PERMIT then done (s.cursorOn n)
      else if s.mayTest o.1 ∧ s.spareFree n o.1 o.2 then
        done ((u.event stPage 0x8703 2 o.2 (o.1 * 0x1000)).runTest { test := n, page := o.1, cell := o.2, kind := .pass })
      else done s := by
  have due : (match s.svc.forcedAt.find? fun e => decide (e.1 = test.val + 1) with
      | some e => decide (e.2 + 600 ≤ s.poweredS)
      | none => true) = true := by
    split
    next e found => exact decide_eq_true (waited e found)
    next => rfl
  intro n o u
  change execForcedTestTick test s = _
  unfold execForcedTestTick
  rw [if_neg]
  rintro (manual | fresh | early)
  · rw [auto] at manual
    cases manual
  · rw [List.contains_iff_mem.2 overdue] at fresh
    cases fresh
  · exact Bool.eq_false_iff.1 ((Bool.not_eq_true' _).mp early) due

end

/-- Settles O60: a test starts where its object may be tested, ends by its kind, and is forced when it is overdue. -/
theorem selfTestCommands : Obligations.SelfTestCommands := by
  intro test s
  refine ⟨fun _ _ _ accepts request cells mine may spare idle core => exec_selfTestStart_request accepts request cells mine may spare idle core,
    fun kind own accepts masked enabled core => ⟨fun noPermit => ?_, fun permit may spare idle => ?_⟩,
    fun kind pass r runs => ⟨?_, ?_, ?_⟩, fun _ _ => exec_selfTestEarlyEnd_cause, exec_passOverdue_late,
    fun auto overdue waited => ⟨fun noPermit => ?_, fun permit may spare => ?_⟩⟩
  · exact (exec_selfTestStart_pass own accepts masked enabled core).trans (if_pos (by rw [noPermit]; rfl))
  · exact (exec_selfTestStart_pass own accepts masked enabled core).trans ((if_neg (by rw [permit]; decide)).trans (if_pos ⟨may, spare, idle⟩))
  · rintro rfl
    exact exec_selfTestDone_eq runs
  · rintro rfl
    exact exec_selfTestDone_eq runs
  · rintro q rfl request
    refine ⟨fun c rest more => ⟨fun single => ?_, fun forced fits => ?_, fun forced unfit => ?_⟩, fun last => ?_⟩
    · exact ((exec_selfTestDone_request runs request).trans (State.requestOver_more more)).trans (if_pos (by rw [single]; rfl))
    · exact ((exec_selfTestDone_request runs request).trans (State.requestOver_more more)).trans ((if_neg (by rw [forced]; decide)).trans (if_pos fits))
    · exact ((exec_selfTestDone_request runs request).trans (State.requestOver_more more)).trans ((if_neg (by rw [forced]; decide)).trans (if_neg unfit))
    · exact (exec_selfTestDone_request runs request).trans (State.requestOver_last last)
  · exact (exec_forcedTestTick_due auto overdue waited).trans (if_pos (by rw [noPermit]; rfl))
  · exact (exec_forcedTestTick_due auto overdue waited).trans ((if_neg (by rw [permit]; decide)).trans (if_pos ⟨may, spare⟩))

end Sys2Proof.Machine

/-!
SUPPORT. A lane's frame lock shows in the link's status register (R168), so that it is not free of register changes.
-/
namespace Sys2Proof.Machine

-- The kernel decides facts below: one at a time, and not each in a thread of its own that waits for all before it.
set_option Elab.async false

/-- Head 0's first uplink lane in block lock, after four good frames of which no frame lock has been made yet. -/
def aboutToLock : State :=
  State.reset.setLink 0 { LinkSt.down with lanes := [(0, { LaneSt.down with block := true, good := 4 })] }

/-- A lane that gains its frame lock over its block lock is up in LINK_STAT. -/
theorem State.setLane_shows (s : State) (h i : Nat) (x : LaneSt) (uplink : i < 9) :
    (s.setLane h i x).fldBit (headPage h) HEAD.LINK_STAT_UL_OK i = (x.block && x.frame) := by
  unfold State.setLane
  rw [if_pos uplink]
  change bitOf (State.fld (State.setFld _ _ _ _) _ _) i = _
  rw [State.fld_setFld_self]
  exact (bitOf_mod_two_pow _ uplink).trans (bitOf_setBit_self _ _ _)

theorem exec_frameLockGained_good {s : State} {h : HeadIx} {lane : LaneIx} (block : (s.lane h.val lane.val).block = true)
    (good : 4 ≤ (s.lane h.val lane.val).good) :
    exec (.frameLockGained h lane) s = .next (s.setLane h.val lane.val { s.lane h.val lane.val with frame := true }).settle :=
  if_pos ⟨block, .inl good⟩

theorem aboutToLock_locks : ∃ t, exec (.frameLockGained 0 0) aboutToLock = .next t ∧
    t.fldBit (headPage 0) HEAD.LINK_STAT_UL_OK 0 = true := by
  have key : fldKey (headPage 0) HEAD.LINK_STAT_UL_OK 0 ∉ settleKeys := by decide +kernel
  have block : (aboutToLock.lane 0 0).block = true := by decide +kernel
  have good : 4 ≤ (aboutToLock.lane 0 0).good := by decide +kernel
  refine ⟨_, exec_frameLockGained_good block good, ?_⟩
  rw [State.settle_fldBit _ _ key]
  refine (State.setLane_shows _ _ _ _ (by decide)).trans ?_
  exact (Bool.and_true _).trans block

/-- Refutes O15: the frame lock of a lane in block lock sets its bit of LINK_STAT, a register that settling leaves alone. -/
theorem not_crossingAndLaneFrames : ¬ Obligations.CrossingAndLaneFrames := by
  intro frames
  obtain ⟨t, locks, shows⟩ := aboutToLock_locks
  obtain ⟨-, lane, -⟩ := frames _ _ _ locks
  obtain ⟨-, regs, -⟩ := lane 0 0 (.inl rfl)
  have key : fldKey (headPage 0) HEAD.LINK_STAT_UL_OK 0 ∉ settleKeys := by decide +kernel
  have down : aboutToLock.fldBit (headPage 0) HEAD.LINK_STAT_UL_OK 0 = false := by decide +kernel
  have same : t.fldBit (headPage 0) HEAD.LINK_STAT_UL_OK 0 = aboutToLock.fldBit (headPage 0) HEAD.LINK_STAT_UL_OK 0 :=
    congrArg (fun v => bitOf v 0) (regs _ key)
  rw [shows, down] at same
  cases same

end Sys2Proof.Machine

/-!
SUPPORT. What the recorder, the queues and the subscriptions leave unchanged (R86, R592-R607): a predicate of states that
their few stores keep is kept by each of their commands.
-/
namespace Sys2Proof.Machine

/-- A predicate that events, deliveries to subscribers and the fields of page `b` do not break. -/
structure Keeps (b : Nat) (I : State → Prop) : Prop where
  raised : ∀ u x, I u → I { u with recd := { u.recd with raised := x } }
  sess : ∀ u x, I u → I { u with sess := x }
  own : ∀ (u : State) (f : Fld) v i, f.off + f.stride * i < 0x1000 → f.lsb < 32 → I u → I (u.setFld b f v i)
  dropped : ∀ u v, I u → I (State.setFld u stebaroPage STEBARO.SB_EVT_DROP v)

/-- A predicate that nothing of the recorder breaks. -/
structure RecorderKeeps (I : State → Prop) : Prop extends Keeps erPage I where
  recd : ∀ u x, I u → I { u with recd := x }

/-- A predicate that nothing of queue `q` breaks. -/
structure QueueKeeps (q : Nat) (I : State → Prop) : Prop extends Keeps obsqPage I where
  queue : ∀ u x, I u → I (u.setOqueue q x)
  waiting : ∀ u x, I u → I { u with oq := { u.oq with waiting := x } }
  telAt : ∀ u x, I u → I { u with oq := { u.oq with telAt := x } }
  l0 : ∀ u x, I u → I { u with oq := { u.oq with l0 := x } }
  free : ∀ u n, I u → I { u with freeCount := n }
  hbm : ∀ u a bs, queueArea + 65536 * q ≤ a → a < queueArea + 65536 * q + 65536 → I u → I (u.hbmPut a bs)

/-! Steps that all share -/

theorem forEach_keeps {α : Type} {I : State → Prop} {f : State → α → State} (xs : List α) (h : ∀ u x, I u → I (f u x)) {s : State} (hs : I s) :
    I (s.forEach xs f) := by
  unfold State.forEach
  induction xs generalizing s with
  | nil => exact hs
  | cons x xs ih => exact ih (h s x hs)

section
variable {b : Nat} {I : State → Prop} (keeps : Keeps b I) {s : State} (h : I s)
include keeps h

theorem Keeps.istat (n : Nat) : I (s.istat b n) := keeps.own s HDR.ISTAT _ 0 (by decide) (by decide) h

theorem Keeps.event (base code sev cell arg1 : Nat) (data : List Nat) : I (s.event base code sev cell arg1 data) := by
  unfold State.event
  split
  · exact keeps.raised s _ h
  · exact keeps.raised s _ h

theorem Keeps.deliver (p : SubFilter → Bool) (e : SubEntry) : I (s.deliver p e) := by
  unfold State.deliver
  refine forEach_keeps _ (fun u i hu => ?_) h
  split
  next x there =>
    split
    next sub subscribed =>
      split
      next matching =>
        dsimp only
        split
        · exact keeps.sess u _ hu
        · exact keeps.dropped _ _ (keeps.sess u _ hu)
      next => exact hu
    next => exact hu
  next => exact hu

end

/-! The recorder -/

section
variable {I : State → Prop} (keeps : RecorderKeeps I) {s : State} (h : I s)
include keeps h

theorem RecorderKeeps.fld (f : Fld) (v : Nat) (low : f.off + f.stride * 0 < 0x1000) (lsb : f.lsb < 32) : I (s.setFld erPage f v) :=
  keeps.own s f v 0 low lsb h

theorem RecorderKeeps.recRegs : I s.recRegs := by
  unfold State.recRegs
  dsimp only
  refine keeps.fld (keeps.fld (keeps.fld (keeps.fld (keeps.fld h _ _ ?_ ?_) _ _ ?_ ?_) _ _ ?_ ?_) _ _ ?_ ?_) _ _ ?_ ?_ <;> decide

theorem RecorderKeeps.count (f : Fld) (n : Nat) (low : f.off + f.stride * 0 < 0x1000) (lsb : f.lsb < 32) : I (s.count erPage f n) :=
  keeps.fld h f _ low lsb

theorem RecorderKeeps.withRec (f : RecSt → RecSt) : I (s.withRec f) := keeps.recd s _ h

theorem RecorderKeeps.record (e : Event) : I (s.record e) := by
  have mirror (u : State) (r : Record) (hu : I u) : I (u.queueMirror r) := keeps.withRec hu _
  unfold State.record
  refine iteInduction (motive := I) (fun folds => ?_) (fun new => ?_)
  · have folded (f : RecSt → RecSt) : I ((s.withRec f).count erPage ER.FOLD_CNT) :=
      keeps.count (keeps.withRec h f) ER.FOLD_CNT 1 (by decide) (by decide)
    dsimp only
    split
    next r newest =>
      split
      · exact mirror _ _ (folded _)
      · exact folded _
    next => exact folded _
  · refine iteInduction (motive := I) (fun full => ?_) (fun room => ?_)
    · exact keeps.istat (keeps.count h ER.DROP_CNT 1 (by decide) (by decide)) 9
    · have stored (f : RecSt → RecSt) (v n : Nat) : I (((s.withRec f).setFld erPage ER.REMOVALS v).count erPage ER.OVERWRITE_CNT n).recRegs :=
        keeps.recRegs (keeps.count (keeps.fld (keeps.withRec h f) ER.REMOVALS v (by decide) (by decide)) ER.OVERWRITE_CNT n (by decide) (by decide))
      refine keeps.deliver (iteInduction (motive := I) (fun severe => ?_) (fun mild => ?_)) _ _
      · exact mirror _ _ (keeps.istat (stored _ _ _) 8)
      · exact stored _ _ _

theorem RecorderKeeps.recordNext : I s.recordNext := by
  unfold State.recordNext
  split
  next => exact h
  next => exact keeps.record (keeps.recd s _ h) _

theorem RecorderKeeps.mirrorDone (ok : Bool) : I (s.mirrorDone ok) := by
  unfold State.mirrorDone
  split
  next q qs busy waits =>
    split
    next => exact keeps.recRegs (keeps.fld (keeps.withRec h _) ER.ER_STAT_MIRROR_OK _ (by decide) (by decide))
    next =>
      have failed (f : RecSt → RecSt) : I ((s.withRec f).count erPage ER.MIRROR_ERR) :=
        keeps.count (keeps.withRec h f) ER.MIRROR_ERR 1 (by decide) (by decide)
      refine iteInduction (motive := I) (fun third => ?_) (fun again => ?_)
      · exact keeps.event (keeps.istat (keeps.fld (failed _) ER.ER_STAT_MIRROR_OK _ (by decide) (by decide)) 10) _ _ _ _ _ _
      · exact failed _
  next => exact h

end

/-! The queues -/

section
variable {q : Nat} {I : State → Prop} (keeps : QueueKeeps q I) {s : State} (h : I s)
include keeps h

theorem QueueKeeps.hbmRingPut (off n : Nat) (bs : List Nat) : I (s.hbmRingPut (queueArea + 65536 * q) 65536 off n bs) := by
  induction n generalizing s off bs with
  | zero => exact h
  | succ n ih =>
    have inside : off % 65536 < 65536 := Nat.mod_lt _ (by decide)
    rw [State.hbmRingPut]
    exact ih (keeps.hbm s _ _ (Nat.le_add_right _ _) (Nat.add_lt_add_left inside _) h) _ _

theorem QueueKeeps.storeItem (i : OqItem) : I (s.storeItem q i) := by
  unfold State.storeItem
  split
  · exact h
  · exact keeps.hbmRingPut h _ _ _

theorem QueueKeeps.placeItem (i : OqItem) : I (s.placeItem q i) := by
  unfold State.placeItem
  exact keeps.storeItem (keeps.queue s _ h) _

theorem QueueKeeps.drainQueue : I (s.drainQueue q) := by
  unfold State.drainQueue
  split
  next =>
    refine forEach_keeps (s.oqueue q).items (fun u i hu => ?_) h
    split
    · exact keeps.placeItem hu i
    · exact hu
  next => exact h

theorem QueueKeeps.dropItem (low : q < 64) (no : Nat) : I (s.dropItem q no) := by
  have place : OBSQ.Q_DROP.off + OBSQ.Q_DROP.stride * q < 0x1000 := by
    change 0x300 + 4 * q < 0x1000
    omega
  have counted (u : State) (hu : I u) : I ((u.count obsqPage OBSQ.Q_DROP 1 q).count obsqPage OBSQ.GAP_TOTAL) :=
    keeps.own _ OBSQ.GAP_TOTAL _ 0 (by decide) (by decide) (keeps.own u OBSQ.Q_DROP _ q place (by decide) hu)
  have marked (u : State) (new : Bool) (hu : I u) : I (if new = true then u.istat obsqPage 9 else u) := by
    split
    · exact keeps.istat hu 9
    · exact hu
  have dropped (x : OQueue) (i : OqItem) := counted _ (keeps.drainQueue (keeps.storeItem (keeps.queue s x h) i))
  unfold State.dropItem
  dsimp only
  split
  · exact marked _ _ (dropped _ _)
  · exact keeps.event (marked _ _ (dropped _ _)) _ _ _ _ _ _

theorem QueueKeeps.putItem (low : q < 64) (i : OqItem) : I (s.putItem q i) := by
  unfold State.putItem
  dsimp only
  split
  next => exact h
  next =>
    split
    next =>
      refine keeps.deliver ?_ _ _
      split
      · exact keeps.istat (keeps.drainQueue (keeps.queue s _ h)) 8
      · exact keeps.drainQueue (keeps.queue s _ h)
    next => exact keeps.dropItem (keeps.queue s _ h) low _

theorem QueueKeeps.queueItem (ty : Nat) (body : List Nat) : I (s.queueItem q ty body) := keeps.waiting s _ h

theorem QueueKeeps.flushQueue : I (s.flushQueue q) := keeps.istat (keeps.queue s _ h) 10

theorem QueueKeeps.frees (n : Nat) : I (s.frees n).2 := by
  induction n generalizing s with
  | zero => exact h
  | succ n ih => exact ih (keeps.free s _ h)

end

/-! The commands -/

/-- A recorder command leaves, settling apart, a state that every predicate of the recorder still holds of. -/
theorem exec_recorder_keeps {c : Instr} {s : State} (command : c = .eventRaised ∨ c = .mirrorRetry ∨ ∃ ok, c = .mirrorWriteDone ok) :
    ∃ u : State, exec c s = .next u.settle ∧ ∀ I, RecorderKeeps I → I s → I u := by
  obtain rfl | rfl | ⟨ok, rfl⟩ := command
  · exact ⟨_, rfl, fun I keeps h => keeps.recordNext h⟩
  · by_cases waits : s.recd.mirrorQ.isEmpty = true ∨ s.now < s.recd.mirrorFailAt + 10000000
    · exact ⟨s, if_pos waits, fun I _ h => h⟩
    · exact ⟨_, if_neg waits, fun I keeps h => keeps.recd s _ h⟩
  · exact ⟨_, rfl, fun I keeps h => keeps.mirrorDone h ok⟩

theorem exec_telemetryPeriod_keeps (q : QueueIx) (s : State) :
    ∃ u : State, exec (.telemetryPeriod q) s = .next u.settle ∧ ∀ I, QueueKeeps q.val I → I s → I u := by
  by_cases idle : q.val < 16 ∨ s.cfg obsqPage OBSQ.Q_CFG_SRC q.val = 0 ∨ 6 < s.cfg obsqPage OBSQ.Q_CFG_SRC q.val ∨
    s.now < storeFind (fun _ => 0) s.oq.telAt q.val + 1000000 * clampNat 1 255 (s.cfg obsqPage OBSQ.Q_CFG_PERIOD q.val)
  · exact ⟨s, if_pos idle, fun I _ h => h⟩
  · obtain ⟨telemetry, source, known, due⟩ : 16 ≤ q.val ∧ 1 ≤ s.cfg obsqPage OBSQ.Q_CFG_SRC q.val ∧ s.cfg obsqPage OBSQ.Q_CFG_SRC q.val ≤ 6 ∧
        storeFind (fun _ => 0) s.oq.telAt q.val + 1000000 * clampNat 1 255 (s.cfg obsqPage OBSQ.Q_CFG_PERIOD q.val) ≤ s.now := by omega
    refine ⟨_, exec_telemetryPeriod_due telemetry due source known, fun I keeps h => ?_⟩
    have reported (t : State) (bodies : List (List Nat)) (ht : I t) : I (t.forEach bodies fun u b => u.queueItem q.val 2 b) :=
      forEach_keeps bodies (fun u b (hu : I u) => keeps.queueItem hu 2 b) ht
    split
    · exact keeps.l0 _ _ (keeps.telAt _ _ (reported _ _ (keeps.frees h 33)))
    · exact keeps.telAt _ _ (reported _ _ h)

/-- A command of queue `q` leaves, settling apart, a state that every predicate of the queue still holds of. -/
theorem exec_queue_keeps {c : Instr} {s : State} {q : QueueIx} (command : c = .queueItemWrite q ∨ c = .qFlushEffect q ∨ c = .telemetryPeriod q) :
    ∃ u : State, exec c s = .next u.settle ∧ ∀ I, QueueKeeps q.val I → I s → I u := by
  obtain rfl | rfl | rfl := command
  · cases first : s.oq.waiting.find? (fun x => x.1 == q.val) with
    | none =>
      refine ⟨s, ?_, fun I _ h => h⟩
      change execQueueItemWrite q s = _
      unfold execQueueItemWrite
      rw [first]
      rfl
    | some x => exact ⟨_, exec_queueItemWrite_waiting first, fun I keeps h => keeps.putItem (keeps.waiting s _ h) q.isLt x.2⟩
  · by_cases boundary : ((s.oqueue q.val).flush && !s.oqInProgress q.val) = true
    · exact ⟨_, if_pos boundary, fun I keeps h => keeps.flushQueue h⟩
    · exact ⟨s, if_neg boundary, fun I _ h => h⟩
  · exact exec_telemetryPeriod_keeps q s


/-! What they keep -/

/-- The state with the parts of `d` that a recorder command may store. -/
def State.withRecorderOf (u d : State) : State := { u with regs := d.regs, recd := d.recd, arb := d.arb, sess := d.sess }

/-- The state with the parts of `d` that a queue's command may store. -/
def State.withQueuesOf (u d : State) : State :=
  { u with regs := d.regs, recd := d.recd, arb := d.arb, sess := d.sess, oq := d.oq, freeCount := d.freeCount,
           mem := { u.mem with words := d.mem.words, cache := d.mem.cache, evb := d.mem.evb } }

/-- What settling leaves alone: all that shows neither a register nor the recorder nor the arbiters. -/
theorem State.settle_unseen {α : Type} (o : State → α) (regs : ∀ s x, o { s with regs := x } = o s) (recd : ∀ s x, o { s with recd := x } = o s)
    (arb : ∀ s x, o { s with arb := x } = o s) (s : State) : o s.settle = o s := by
  refine settle_frame o (fun u x => ?_) s
  unfold State.settleBit
  split
  · split
    · exact setRdy_frame o regs recd arb u x.2 true
    · rfl
  · split
    · exact (arb _ _).trans ((regs _ _).trans (regs _ _))
    · rfl

theorem recorderKeeps_withRecorderOf (s d : State) : RecorderKeeps fun u => u.withRecorderOf d = s.withRecorderOf d where
  raised _ _ h := h
  sess _ _ h := h
  own _ _ _ _ _ _ h := h
  dropped _ _ h := h
  recd _ _ h := h

/-- A store to HBM changes the words of memory and their copies in the cache, and nothing else. -/
theorem State.hbmPut_stores (s : State) (a : Nat) (bs : List Nat) :
    ∃ words cache evb, s.hbmPut a bs = { s with mem := { s.mem with words := words, cache := cache, evb := evb } } := by
  unfold State.hbmPut
  generalize s.translate a = p
  exact ⟨_, _, _, rfl⟩

theorem queueKeeps_withQueuesOf (q : Nat) (s d : State) : QueueKeeps q fun u => u.withQueuesOf d = s.withQueuesOf d where
  raised _ _ h := h
  sess _ _ h := h
  own _ _ _ _ _ _ h := h
  dropped _ _ h := h
  queue _ _ h := h
  waiting _ _ h := h
  telAt _ _ h := h
  l0 _ _ h := h
  free _ _ h := h
  hbm u a bs _ _ h := by
    obtain ⟨words, cache, evb, stores⟩ := u.hbmPut_stores a bs
    rw [stores]
    exact h

theorem fldKey_page {b : Nat} {f : Fld} {i : Nat} (aligned : b % 0x1000 = 0) (low : f.off + f.stride * i < 0x1000) (lsb : f.lsb < 32) :
    fldKey b f i / 32 / 0x1000 = b / 0x1000 := by
  unfold fldKey
  generalize f.stride * i = n at low ⊢
  omega

/-- Registers outside a page are kept by what stores fields of that page and counts drops at Stebaro. -/
theorem keeps_reg {b k : Nat} (aligned : b % 0x1000 = 0) (s : State) (outside : k / 32 / 0x1000 ≠ b / 0x1000)
    (notDrop : k ≠ fldKey stebaroPage STEBARO.SB_EVT_DROP 0) : Keeps b fun u => u.reg k = s.reg k where
  raised _ _ h := h
  sess _ _ h := h
  own u f v i low lsb h := (State.reg_setFld_ne u v fun same => outside (by rw [same]; exact fldKey_page aligned low lsb)).trans h
  dropped u v h := (State.reg_setFld_ne u v notDrop).trans h

theorem recorderKeeps_reg {k : Nat} (s : State) (outside : k / 32 / 0x1000 ≠ erPage / 0x1000)
    (notDrop : k ≠ fldKey stebaroPage STEBARO.SB_EVT_DROP 0) : RecorderKeeps fun u => u.reg k = s.reg k where
  toKeeps := keeps_reg (by decide) s outside notDrop
  recd _ _ h := h

theorem queueKeeps_reg {q k : Nat} (s : State) (outside : k / 32 / 0x1000 ≠ obsqPage / 0x1000)
    (notDrop : k ≠ fldKey stebaroPage STEBARO.SB_EVT_DROP 0) : QueueKeeps q fun u => u.reg k = s.reg k where
  toKeeps := keeps_reg (by decide) s outside notDrop
  queue _ _ h := h
  waiting _ _ h := h
  telAt _ _ h := h
  l0 _ _ h := h
  free _ _ h := h
  hbm u a bs _ _ h := by
    obtain ⟨words, cache, evb, stores⟩ := u.hbmPut_stores a bs
    rw [stores]
    exact h

/-- The recorder's log and the items in reading are kept, and so are the other queues. -/
theorem queueKeeps_log (q : Nat) (s : State) : QueueKeeps q fun u => u.recd.log = s.recd.log ∧ u.oq.reading = s.oq.reading ∧
    ∀ p, p ≠ q → u.oqueue p = s.oqueue p where
  raised _ _ h := h
  sess _ _ h := h
  own _ _ _ _ _ _ h := h
  dropped _ _ h := h
  queue u x h := ⟨h.1, h.2.1, fun p other => (State.oqueue_setOqueue_ne u x other).trans (h.2.2 p other)⟩
  waiting _ _ h := h
  telAt _ _ h := h
  l0 _ _ h := h
  free _ _ h := h
  hbm u a bs _ _ h := by
    obtain ⟨words, cache, evb, stores⟩ := u.hbmPut_stores a bs
    rw [stores]
    exact h

/-! Memory: a store changes no word of another line -/

theorem State.translate_hbmPut (s : State) (b : Nat) (bs : List Nat) : (s.hbmPut b bs).translate = s.translate := by
  obtain ⟨words, cache, evb, stores⟩ := s.hbmPut_stores b bs
  rw [stores]
  rfl

theorem State.memWord_setMemWord_ne (s : State) {v w : Nat} (x : MWord) (other : v ≠ w) : (s.setMemWord w x).memWord v = s.memWord v :=
  storeFind_storePut_ne _ _ _ other

/-- The words of line `p` in an entry of the cache. -/
def lineWords (p : Nat) (e : Nat × Option CLine) : Option (List MWord) := e.2.bind fun l => if l.line = p then some l.words else none

/-- What changes the words of other lines alone finds the same words in the cache. -/
theorem findSome_lineWords_map (cache : Store (Option CLine)) {line : CLine → CLine} {p : Nat} (own : ∀ l, l.line = p → line l = l)
    (same : ∀ l, (line l).line = l.line) :
    (cache.map fun e => (e.1, e.2.map line)).findSome? (lineWords p) = cache.findSome? (lineWords p) := by
  rw [List.findSome?_map]
  refine congrArg (fun g => cache.findSome? g) (funext fun e => ?_)
  change (Option.map line e.2).bind _ = e.2.bind _
  cases e.2 with
  | none => rfl
  | some l =>
    change (if (line l).line = p then _ else _) = if l.line = p then _ else _
    rw [same l]
    by_cases here : l.line = p
    · rw [own l here]
    · rw [if_neg here, if_neg here]

/-- What changes the words of line `r` alone finds the same words of line `p` among those to be written back. -/
theorem find_evb_map (evb : List (Nat × List MWord)) (put : List MWord → List MWord) {p r : Nat} (apart : p ≠ r) :
    ((evb.map fun e => if e.1 = r then (e.1, put e.2) else e).reverse.find? fun e => e.1 == p) = evb.reverse.find? fun e => e.1 == p := by
  have key : (fun e : Nat × List MWord => e.1 == p) ∘ (fun e => if e.1 = r then (e.1, put e.2) else e) = fun e => e.1 == p := by
    funext e
    change ((if e.1 = r then (e.1, put e.2) else e).1 == p) = _
    split <;> rfl
  rw [← List.map_reverse, List.find?_map, key]
  cases found : evb.reverse.find? fun e => e.1 == p with
  | none => rfl
  | some e =>
    have here : e.1 = p := beq_iff_eq.1 (List.find?_some (p := fun e : Nat × List MWord => e.1 == p) found)
    have other : e.1 ≠ r := by
      rw [here]
      exact apart
    exact congrArg some (if_neg other)

/-- A store at the place `p` of HBM, past retirement. -/
def State.putAt (s : State) (p : Nat) (bs : List Nat) : State :=
  let put (ws : List MWord) : List MWord := mergeLine ws (p % 256) bs
  let line (l : CLine) : CLine := if l.line = p / 256 then { l with words := put l.words } else l
  let t := s.setMem { s.mem with
    cache := s.mem.cache.map fun e => (e.1, e.2.map line),
    evb := s.mem.evb.map fun e => if e.1 = p / 256 then (e.1, put e.2) else e }
  t.setMemWord (p / 8) (mergeWord (t.memWord (p / 8)) 0 0 bs)

/-- The word at the place `p` of HBM, past retirement. -/
def State.wordAt (s : State) (p : Nat) : MWord :=
  match s.mem.cache.findSome? (lineWords (p / 256)) with
  | some ws => ws.getD (p % 256 / 8) MWord.zero
  | none => match s.mem.evb.reverse.find? fun e => e.1 == p / 256 with
    | some e => e.2.getD (p % 256 / 8) MWord.zero
    | none => s.memWord (p / 8)

theorem State.hbmPut_eq (s : State) (a : Nat) (bs : List Nat) : s.hbmPut a bs = s.putAt (s.translate a) bs := by
  unfold State.hbmPut State.putAt
  rfl

theorem State.hbmWord_eq (s : State) (a : Nat) : s.hbmWord a = s.wordAt (s.translate a) := by
  unfold State.hbmWord State.wordAt
  generalize s.translate a = p
  rfl

theorem State.wordAt_putAt_ne {s : State} {p r : Nat} (bs : List Nat) (apart : p / 256 ≠ r / 256) : (s.putAt r bs).wordAt p = s.wordAt p := by
  have word : p / 8 ≠ r / 8 := by omega
  have stored : (s.putAt r bs).memWord (p / 8) = s.memWord (p / 8) := by
    unfold State.putAt
    exact State.memWord_setMemWord_ne _ _ word
  have cached : (s.putAt r bs).mem.cache.findSome? (lineWords (p / 256)) = s.mem.cache.findSome? (lineWords (p / 256)) := by
    unfold State.putAt State.setMemWord State.setMem
    refine findSome_lineWords_map s.mem.cache (fun l here => if_neg ?_) fun l => ?_
    · rw [here]
      exact apart
    · split <;> rfl
  have leaving : ((s.putAt r bs).mem.evb.reverse.find? fun e => e.1 == p / 256) = s.mem.evb.reverse.find? fun e => e.1 == p / 256 := by
    unfold State.putAt State.setMemWord State.setMem
    exact find_evb_map s.mem.evb (fun ws => mergeLine ws (r % 256) bs) apart
  unfold State.wordAt
  rw [stored, cached, leaving]

theorem State.hbmWord_hbmPut_ne {s : State} {a b : Nat} (bs : List Nat) (apart : s.translate a / 256 ≠ s.translate b / 256) :
    (s.hbmPut b bs).hbmWord a = s.hbmWord a := by
  rw [State.hbmWord_eq, State.hbmWord_eq, State.translate_hbmPut, State.hbmPut_eq]
  exact State.wordAt_putAt_ne bs apart

/-- The words of HBM whose lines no word of the queue's area shares are kept. -/
theorem queueKeeps_hbmWord {q a : Nat} (s : State)
    (apart : ∀ b, queueArea + 65536 * q ≤ b → b < queueArea + 65536 * q + 65536 → s.translate a / 256 ≠ s.translate b / 256) :
    QueueKeeps q fun u => u.translate = s.translate ∧ u.hbmWord a = s.hbmWord a where
  raised _ _ h := h
  sess _ _ h := h
  own _ _ _ _ _ _ h := h
  dropped _ _ h := h
  queue _ _ h := h
  waiting _ _ h := h
  telAt _ _ h := h
  l0 _ _ h := h
  free _ _ h := h
  hbm u b bs low high h := ⟨(u.translate_hbmPut b bs).trans h.1,
    (State.hbmWord_hbmPut_ne bs (by rw [h.1]; exact apart b low high)).trans h.2⟩

/-! The subscriptions -/

/-- The state with the parts of `d` that a command of a subscription may store. -/
def State.withSessionsOf (u d : State) : State :=
  { u with regs := d.regs, recd := d.recd, arb := d.arb, sess := d.sess, out := d.out }

/-- `t` is `s` but for what was sent and for session `i`, which keeps its role. -/
structure State.SessionOnly (i : SessionIx) (s t : State) : Prop where
  parts : ∀ d, t.withSessionsOf d = s.withSessionsOf d
  regs : t.regs = s.regs
  others : ∀ j, j ≠ i.val → t.session j = s.session j
  role : t.roleOf (.steb i) = s.roleOf (.steb i)

theorem State.SessionOnly.refl (i : SessionIx) (s : State) : s.SessionOnly i s := ⟨fun _ => rfl, rfl, fun _ _ => rfl, rfl⟩

theorem State.SessionOnly.trans {i : SessionIx} {s t u : State} (h : s.SessionOnly i t) (g : t.SessionOnly i u) : s.SessionOnly i u :=
  ⟨fun d => (g.parts d).trans (h.parts d), g.regs.trans h.regs, fun j other => (g.others j other).trans (h.others j other), g.role.trans h.role⟩

theorem State.session_setSession_ne (s : State) {i j : Nat} (x : Option Session) (other : j ≠ i) :
    (s.setSession i x).session j = s.session j :=
  storeFind_storePut_ne _ _ _ other

theorem State.sessionOnly_setSession {i : SessionIx} {s : State} {x y : Session} (there : s.session i.val = some x) (role : y.role = x.role) :
    s.SessionOnly i (s.setSession i.val (some y)) where
  parts _ := rfl
  regs := rfl
  others _ other := State.session_setSession_ne s _ other
  role := by
    change (State.session _ _).map _ = (s.session i.val).map _
    rw [there, State.session_setSession_self]
    exact congrArg some role

theorem State.sessionOnly_setSub (i : SessionIx) (s : State) (u : Option Sub) : s.SessionOnly i (s.setSub i.val u) := by
  unfold State.setSub
  split
  next x there => exact State.sessionOnly_setSession there rfl
  next => exact .refl i s

theorem State.sessionOnly_sbTouch (i : SessionIx) (s : State) : s.SessionOnly i (s.sbTouch i.val) := by
  unfold State.sbTouch
  split
  next => exact .refl i s
  next x there => exact State.sessionOnly_setSession there rfl

theorem State.sessionOnly_send (i j : SessionIx) (s : State) (d : List Nat) : s.SessionOnly i (s.send (.sbDatagram j d)) :=
  ⟨fun _ => rfl, rfl, fun _ _ => rfl, rfl⟩

/-- A command of a session's subscription changes that session and sends. -/
theorem exec_subscription_only {c : Instr} {s : State} {i : SessionIx} (command : c = .eventSend i ∨ (∃ tag, c = .eventAck i tag) ∨
    (∃ tag, c = .eventNak i tag) ∨ ∃ tag, c = .eventResend i tag) : ∃ u : State, exec c s = .next u.settle ∧ s.SessionOnly i u := by
  obtain rfl | ⟨tag, rfl⟩ | ⟨tag, rfl⟩ | ⟨tag, rfl⟩ := command
  · change ∃ u : State, execEventSend i s = _ ∧ _
    unfold execEventSend
    split
    next sub subscribed =>
      split
      · exact ⟨s, rfl, .refl i s⟩
      · exact ⟨_, rfl, (State.sessionOnly_setSub i s _).trans (State.sessionOnly_send i i _ _)⟩
    next => exact ⟨s, rfl, .refl i s⟩
  · change ∃ u : State, execEventAck i tag s = _ ∧ _
    unfold execEventAck
    dsimp only
    split
    next => exact ⟨_, rfl, (State.sessionOnly_sbTouch i s).trans (State.sessionOnly_setSub i _ _)⟩
    next => exact ⟨_, rfl, State.sessionOnly_sbTouch i s⟩
  · exact ⟨_, rfl, State.sessionOnly_sbTouch i s⟩
  · change ∃ u : State, execEventResend i tag s = _ ∧ _
    unfold execEventResend
    split
    next =>
      split
      · exact ⟨_, rfl, State.sessionOnly_send i i s _⟩
      · exact ⟨s, rfl, .refl i s⟩
    next => exact ⟨s, rfl, .refl i s⟩

/-- Settles O16: each command keeps every predicate that its few stores keep, and settling touches RDY_SYS alone. -/
theorem recorderQueueAndSessionFrames : Obligations.RecorderQueueAndSessionFrames := by
  intro c s t ran
  refine ⟨fun command => ?_, fun q command => ?_, fun i command => ?_⟩
  · obtain ⟨u, leaves, keeps⟩ := exec_recorder_keeps command
    obtain rfl : u.settle = t := by rw [ran] at leaves; injection leaves with same; exact same.symm
    refine ⟨?_, fun k outside notDrop settles => ?_⟩
    · exact (State.settle_unseen (fun v => v.withRecorderOf u.settle) (fun _ _ => rfl) (fun _ _ => rfl) (fun _ _ => rfl) u).trans
        (keeps _ (recorderKeeps_withRecorderOf s u.settle) rfl)
    · exact (State.settle_reg _ settles).trans (keeps _ (recorderKeeps_reg s outside notDrop) rfl)
  · obtain ⟨u, leaves, keeps⟩ := exec_queue_keeps command
    obtain rfl : u.settle = t := by rw [ran] at leaves; injection leaves with same; exact same.symm
    obtain ⟨log, reading, others⟩ := keeps _ (queueKeeps_log q.val s) ⟨rfl, rfl, fun _ _ => rfl⟩
    refine ⟨?_, fun a apart => ?_, fun p other => ?_, ?_, ?_, fun k outside notDrop settles => ?_⟩
    · exact (State.settle_unseen (fun v => v.withQueuesOf u.settle) (fun _ _ => rfl) (fun _ _ => rfl) (fun _ _ => rfl) u).trans
        (keeps _ (queueKeeps_withQueuesOf q.val s u.settle) rfl)
    · exact (State.settle_unseen (fun v => v.hbmWord a) (fun _ _ => rfl) (fun _ _ => rfl) (fun _ _ => rfl) u).trans
        (keeps _ (queueKeeps_hbmWord s apart) ⟨rfl, rfl⟩).2
    · exact (State.settle_oqueue ..).trans (others p other)
    · rw [State.settle_oq]
      exact reading
    · rw [State.settle_recd_log]
      exact log
    · exact (State.settle_reg _ settles).trans (keeps _ (queueKeeps_reg s outside notDrop) rfl)
  · obtain ⟨u, leaves, only⟩ := exec_subscription_only command
    obtain rfl : u.settle = t := by rw [ran] at leaves; injection leaves with same; exact same.symm
    refine ⟨?_, fun j other => ?_, ?_, fun k settles => ?_⟩
    · exact (State.settle_unseen (fun v => v.withSessionsOf u.settle) (fun _ _ => rfl) (fun _ _ => rfl) (fun _ _ => rfl) u).trans
        (only.parts u.settle)
    · exact (State.settle_unseen (fun v => v.session j) (fun _ _ => rfl) (fun _ _ => rfl) (fun _ _ => rfl) u).trans (only.others j other)
    · exact (State.settle_unseen (fun v => v.roleOf (.steb i)) (fun _ _ => rfl) (fun _ _ => rfl) (fun _ _ => rfl) u).trans only.role
    · exact (State.settle_reg _ settles).trans (congrArg (fun r => storeFind regDefault r k) only.regs)

end Sys2Proof.Machine

/-!
SUPPORT. The checks of a register write in their order (R60, R636), and what a write that one of them refuses leaves.
-/
namespace Sys2Proof.Machine

/-! What a refusal records (R57) -/

/-- The keys of PG_ISTAT and PG_LAST_ERR of a page. -/
def refusalKeys (b : Nat) : List Nat :=
  [HDR.ISTAT, HDR.LAST_ERR_CODE, HDR.LAST_ERR_CLASS, HDR.LAST_ERR_CELL, HDR.LAST_ERR_VALID].map fun f => fldKey b f 0

/-- Two fields of one word have different keys. -/
theorem State.fld_setFld_sameWord (s : State) (b : Nat) {f g : Fld} (v : Nat) (apart : f.off = g.off ∧ f.stride = g.stride ∧ f.lsb ≠ g.lsb) :
    (s.setFld b g v).fld b f = s.fld b f := by
  refine State.fld_setFld_ne _ _ ?_
  obtain ⟨off, stride, lsb⟩ := apart
  unfold fldKey
  rw [off, stride]
  omega

theorem State.refuse_lastErr {cls : Nat} (s : State) (b : Nat) (small : cls < 16) :
    (s.refuse b cls).fld b HDR.LAST_ERR_CODE = 0 ∧ (s.refuse b cls).fld b HDR.LAST_ERR_CLASS = cls ∧
      (s.refuse b cls).fld b HDR.LAST_ERR_CELL = 0xFF ∧ (s.refuse b cls).flag b HDR.LAST_ERR_VALID = true := by
  unfold State.refuse State.lastErr
  refine ⟨?_, ?_, ?_, ?_⟩
  · rw [State.fld_setFld_sameWord _ _ _ (by decide), State.fld_setFld_sameWord _ _ _ (by decide), State.fld_setFld_sameWord _ _ _ (by decide),
      State.fld_setFld_self]
    rfl
  · rw [State.fld_setFld_sameWord _ _ _ (by decide), State.fld_setFld_sameWord _ _ _ (by decide), State.fld_setFld_self]
    exact Nat.mod_eq_of_lt small
  · rw [State.fld_setFld_sameWord _ _ _ (by decide), State.fld_setFld_self]
    rfl
  · unfold State.flag
    rw [State.fld_setFld_self]
    rfl

theorem State.refuse_reg (s : State) {b cls k : Nat} (other : k ∉ refusalKeys b) : (s.refuse b cls).reg k = s.reg k := by
  have ne (f : Fld) (listed : f ∈ [HDR.ISTAT, HDR.LAST_ERR_CODE, HDR.LAST_ERR_CLASS, HDR.LAST_ERR_CELL, HDR.LAST_ERR_VALID]) :
      k ≠ fldKey b f 0 := fun same => other (List.mem_map.2 ⟨f, listed, same.symm⟩)
  unfold State.refuse State.lastErr State.istat State.setFldBit
  rw [State.reg_setFld_ne _ _ (ne _ (by simp)), State.reg_setFld_ne _ _ (ne _ (by simp)), State.reg_setFld_ne _ _ (ne _ (by simp)),
    State.reg_setFld_ne _ _ (ne _ (by simp)), State.reg_setFld_ne _ _ (ne _ (by simp))]

theorem State.refuse_istat (s : State) (b cls : Nat) : (s.refuse b cls).fldBit b HDR.ISTAT 6 = true := by
  have apart {f : Fld} (off : f.off = 0x20) (lsb : f.lsb < 32) : fldKey b HDR.ISTAT 0 ≠ fldKey b f 0 := by
    unfold fldKey
    simp only [HDR.ISTAT, Nat.mul_zero]
    omega
  unfold State.refuse State.lastErr State.fldBit
  rw [State.fld_setFld_ne _ _ (apart rfl (by decide)), State.fld_setFld_ne _ _ (apart rfl (by decide)),
    State.fld_setFld_ne _ _ (apart rfl (by decide)), State.fld_setFld_ne _ _ (apart rfl (by decide))]
  exact State.fldBit_istat_self s b (by decide)

/-- Nothing that the hardware sets at a write: PG_ISTAT keeps its bits. -/
theorem State.setMeets_zero_fldBit (s : State) (a b : Nat) {n : Nat} (low : n < 32) :
    (s.setMeets a 0).fldBit b HDR.ISTAT n = s.fldBit b HDR.ISTAT n := by
  by_cases touched : ∃ p, pageAt a = some p ∧ p.kind.hasHeader = true ∧ a = p.base + 0x10 ∧ fldKey b HDR.ISTAT 0 = fldKey p.base HDR.ISTAT 0
  · obtain ⟨p, page, header, here, same⟩ := touched
    obtain rfl : b = p.base := by
      unfold fldKey at same
      omega
    rw [State.setMeets_istat page header here]
    unfold State.fldBit
    rw [State.fld_setFld_self, Nat.zero_mod, Nat.zero_and, Nat.or_zero]
    exact bitOf_mod_two_pow _ low
  · exact State.fldBit_congr (State.setMeets_reg 0 fun p page header here same => touched ⟨p, page, header, here, same⟩) n

/-- What stands after a write of `a` that was refused with class `cls` at page `b`. -/
structure State.RefusedAt (s t : State) (path : Path) (a b cls : Nat) : Prop where
  out : t.out = s.out ++ [.writeDone path a cls]
  istat : t.fldBit b HDR.ISTAT 6 = true
  code : t.fld b HDR.LAST_ERR_CODE = 0
  class' : t.fld b HDR.LAST_ERR_CLASS = cls
  cell : t.fld b HDR.LAST_ERR_CELL = 0xFF
  valid : t.flag b HDR.LAST_ERR_VALID = true
  words : t.words = s.words
  regs : ∀ k, k ∉ refusalKeys b → k ∉ settleKeys → t.reg k = s.reg k

theorem State.refusedAt_refuse {s : State} {path : Path} {a b cls : Nat} (aligned : b % 0x1000 = 0) (small : cls < 16)
    (meets : ∀ p, pageAt a = some p → p.kind.hasHeader = true → a = p.base + 0x10 → p.base = b) :
    s.RefusedAt (((s.refuse b cls).send (.writeDone path a cls)).setMeets a 0).settle path a b cls := by
  generalize sent : (s.refuse b cls).send (.writeDone path a cls) = u
  have kept {k : Nat} (notIstat : k ≠ fldKey b HDR.ISTAT 0) (settles : k ∉ settleKeys) : (u.setMeets a 0).settle.reg k = u.reg k :=
    (State.settle_reg _ settles).trans (State.setMeets_reg 0 fun p page header here same => by
      rw [meets p page header here] at same
      exact notIstat same)
  have lastErr {f : Fld} (off : f.off = 0x20) (lsb : f.lsb < 32) : (u.setMeets a 0).settle.fld b f = (s.refuse b cls).fld b f := by
    have place : fldKey b f 0 / 32 = b + 0x20 := off ▸ fldKey_header_div lsb b
    have istat : fldKey b HDR.ISTAT 0 / 32 = b + 0x10 := fldKey_header_div (by decide) b
    have key := kept (k := fldKey b f 0) (fun same => by rw [same, istat] at place; omega)
      (header_notMem_settleKeys (by omega) (by omega))
    rw [← sent] at key
    rw [← sent]
    exact key
  obtain ⟨code, class', cell, valid⟩ := s.refuse_lastErr b small
  refine ⟨?_, ?_, (lastErr rfl (by decide)).trans code, (lastErr rfl (by decide)).trans class', (lastErr rfl (by decide)).trans cell, ?_, ?_, ?_⟩
  · rw [State.settle_out, State.setMeets_frame (fun v => v.out) (fun _ _ => rfl), ← sent]
    rfl
  · rw [State.settle_istat aligned (by decide) (.inr ⟨by decide, by decide⟩), State.setMeets_zero_fldBit u a b (by decide), ← sent]
    exact s.refuse_istat b cls
  · unfold State.flag at valid ⊢
    rw [lastErr rfl (by decide)]
    exact valid
  · rw [State.settle_words, State.setMeets_frame (fun v => v.words) (fun _ _ => rfl), ← sent]
    rfl
  · intro k other settles
    rw [kept (fun same => other (by rw [same]; exact List.mem_cons_self)) settles, ← sent]
    exact s.refuse_reg other

/-! The checks, each reached when those before it pass -/

section
variable {s : State} {path : Path} {a v : Nat}

theorem badAddress_iff : badAddress a = true ↔ a % 4 ≠ 0 ∨ 2 ^ 24 ≤ a ∨ assigned a = false := by
  unfold badAddress
  rw [Bool.or_eq_true_iff, Bool.or_eq_true_iff, decide_eq_true_iff, decide_eq_true_iff, Bool.not_eq_true', or_assoc]

/-- The role with which a live path writes is the one it has. -/
theorem State.roleOf_live (live : s.pathLive path = true) : ∃ r, s.roleOf path = some r :=
  Option.isSome_iff_exists.1 (Bool.and_eq_true_iff.1 live).2

theorem State.checkWrite_noPage (noPage : badAddress a = true) : s.checkWrite path a v = some 6 := if_pos noPage

/-- Check 2: the path has no right to write, or not these fields. -/
def State.NoRole (s : State) (path : Path) (a v : Nat) : Prop :=
  s.roleOf path = some .observer ∨ (s.roleOf path = some .operator ∧ ∃ x ∈ s.touched path a v,
    operatorMay ((pageAt a).getD { kind := .chip, idx := 0, base := arbiterBase a }) v x = false)

/-- Check 3: the page is locked. -/
def State.Locked (s : State) (path : Path) (a v : Nat) : Prop :=
  s.flag (arbiterBase a) HDR.LOCK = true ∧ s.roleOf path ≠ some .custodian ∧
    (s.touchesWord a v = true ∨ s.touched path a v ≠ []) ∧
    ¬(isWindow a = false ∧ (a - arbiterBase a = 0x10 ∨ a - arbiterBase a = 0x14))

/-- Check 3: a field is locked with the trust fuse. -/
def State.TrustLocks (s : State) (path : Path) (a v : Nat) : Prop :=
  s.trustLocked = true ∧ ∃ x ∈ s.touched path a v, effAcc ((pageAt a).getD { kind := .chip, idx := 0, base := arbiterBase a }) x = .rwl

/-- Check 4: the page is the twin's. -/
def State.Twins (s : State) (path : Path) (a v : Nat) : Prop :=
  s.flag (arbiterBase a) HDR.OWN_TWIN = true ∧ (s.touchesWord a v = true ∨
    (s.touched path a v ≠ [] ∧ (0x40 ≤ a - arbiterBase a ∨ a - arbiterBase a = 0x0C)))

theorem isEmpty_not {α : Type} (xs : List α) : (!xs.isEmpty) = true ↔ xs ≠ [] := by
  cases xs with
  | nil => exact ⟨fun h => absurd h Bool.false_ne_true, fun h => absurd rfl h⟩
  | cons x xs => exact ⟨fun _ => List.cons_ne_nil x xs, fun _ => rfl⟩

theorem State.noRole_iff {r : Role} (role : s.roleOf path = some r) : s.NoRole path a v ↔ r = .observer ∨ (r = .operator ∧
    (!((s.touched path a v).all fun x => operatorMay ((pageAt a).getD { kind := .chip, idx := 0, base := arbiterBase a }) v x)) = true) := by
  unfold State.NoRole
  rw [role, Option.some.injEq, Option.some.injEq, Bool.not_eq_true', List.all_eq_false]
  simp only [Bool.not_eq_true]

theorem State.locked_iff {r : Role} (role : s.roleOf path = some r) : s.Locked path a v ↔
    (s.flag (arbiterBase a) HDR.LOCK && decide (r ≠ .custodian) &&
      !(!isWindow a && (decide (a - arbiterBase a = 0x10) || decide (a - arbiterBase a = 0x14))) &&
      (s.touchesWord a v || !(s.touched path a v).isEmpty)) = true := by
  unfold State.Locked
  rw [role]
  simp only [Bool.and_eq_true, Bool.or_eq_true, Bool.not_eq_true', List.isEmpty_iff, decide_eq_true_eq, ne_eq, Option.some.injEq, ← Bool.not_eq_true]
  exact ⟨fun ⟨lock, other, touches, header⟩ => ⟨⟨⟨lock, other⟩, header⟩, touches⟩,
    fun ⟨⟨⟨lock, other⟩, header⟩, touches⟩ => ⟨lock, other, touches, header⟩⟩

theorem State.trustLocks_iff : s.TrustLocks path a v ↔ (s.trustLocked && (s.touched path a v).any fun x =>
    decide (effAcc ((pageAt a).getD { kind := .chip, idx := 0, base := arbiterBase a }) x = .rwl)) = true := by
  unfold State.TrustLocks
  simp only [Bool.and_eq_true, List.any_eq_true, decide_eq_true_eq]

theorem State.twins_iff : s.Twins path a v ↔ (s.flag (arbiterBase a) HDR.OWN_TWIN && (s.touchesWord a v ||
    (!(s.touched path a v).isEmpty && (decide (0x40 ≤ a - arbiterBase a) || a - arbiterBase a = 0x0C)))) = true := by
  unfold State.Twins
  simp only [Bool.and_eq_true, Bool.or_eq_true, isEmpty_not, decide_eq_true_eq]

/-- Two causes with one outcome are asked for one after the other. -/
theorem if_or_then {α : Type} {P Q : Prop} [Decidable P] [Decidable Q] (x y : α) :
    (if P ∨ Q then x else y) = if P then x else if Q then x else y := by
  by_cases p : P
  · rw [if_pos (.inl p), if_pos p]
  · by_cases q : Q
    · rw [if_pos (.inr q), if_neg p, if_pos q]
    · rw [if_neg (not_or.2 ⟨p, q⟩), if_neg p, if_neg q]

/-- The checks of R60 in their order. -/
theorem State.checkWrite_eq (live : s.pathLive path = true) (page : badAddress a = false) [Decidable (s.NoRole path a v)]
    [Decidable (s.Locked path a v)] [Decidable (s.TrustLocks path a v)] [Decidable (s.Twins path a v)] :
    s.checkWrite path a v =
      if s.NoRole path a v then some 5 else if s.Locked path a v then some 3 else if s.TrustLocks path a v then some 3
      else if s.Twins path a v then some 4 else if s.refused8 path a v then some 8 else none := by
  obtain ⟨r, role⟩ := State.roleOf_live live
  simp only [State.noRole_iff role, State.locked_iff role, State.trustLocks_iff, State.twins_iff, if_or_then]
  unfold State.checkWrite
  rw [role, page]
  rfl


/-! A refused write -/

theorem arbiterBase_header {p : PageRef} (there : pageAt a = some p) (header : p.kind.hasHeader = true) : p.base = arbiterBase a := by
  obtain ⟨plain, base⟩ := pageAt_header there header
  unfold arbiterBase
  rw [plain, base]
  rfl

/-- A refused write is recorded, and answered with its class. -/
theorem exec_registerWrite_refused {w : Word} {cls : Nat} (live : s.pathLive path = true) (still : s.transferring [(a, w.toNat)] = none)
    (alone : behind [(a, w.toNat)] s.arb.waiting = false) (refused : s.checkWrite path a w.toNat = some cls) :
    exec (.registerWrite path a ⟨w, 0⟩) s =
      .next (((s.recordRefusal a w.toNat cls).send (.writeDone path a cls)).setMeets a 0).settle := by
  have free : s.svc.held = .no := of_decide_eq_true (Bool.and_eq_true_iff.1 live).1
  refine (if_neg fun held => held free).trans ?_
  rw [State.regWrite_refused live still alone refused]
  rfl

theorem registerWrite_refused_noPage {w : Word} (live : s.pathLive path = true) (still : s.transferring [(a, w.toNat)] = none)
    (alone : behind [(a, w.toNat)] s.arb.waiting = false) (noPage : badAddress a = true) :
    ∃ t, exec (.registerWrite path a ⟨w, 0⟩) s = .next t ∧ s.RefusedAt t path a chipPage 6 := by
  refine ⟨_, exec_registerWrite_refused live still alone (State.checkWrite_noPage noPage), ?_⟩
  refine State.refusedAt_refuse (b := chipPage) rfl (by decide) fun p there header here => absurd noPage ?_
  obtain ⟨-, base⟩ := pageAt_header there header
  have low := pageAt_header_lt there header
  have known : assigned a = true := by
    unfold assigned
    rw [there]
    exact Bool.or_true _
  rw [badAddress_iff, known]
  rintro (unaligned | high | unknown)
  · omega
  · omega
  · cases unknown

theorem registerWrite_refused_page {w : Word} {cls : Nat} (live : s.pathLive path = true) (still : s.transferring [(a, w.toNat)] = none)
    (alone : behind [(a, w.toNat)] s.arb.waiting = false) (refused : s.checkWrite path a w.toNat = some cls) (early : cls < 6) :
    ∃ t, exec (.registerWrite path a ⟨w, 0⟩) s = .next t ∧ s.RefusedAt t path a (arbiterBase a) cls := by
  refine ⟨_, exec_registerWrite_refused live still alone refused, ?_⟩
  have recorded : s.recordRefusal a w.toNat cls = s.refuse (arbiterBase a) cls :=
    (if_neg (by omega)).trans (if_neg fun ⟨undefined, _⟩ => by omega)
  rw [recorded]
  exact State.refusedAt_refuse (arbiterBase_aligned a) (by omega) fun p there header _ => arbiterBase_header there header

/-! Reads send their value and nothing else -/

theorem queueKeeps_out (q : Nat) (s : State) : QueueKeeps q fun u => u.out = s.out where
  raised _ _ h := h
  sess _ _ h := h
  own _ _ _ _ _ _ h := h
  dropped _ _ h := h
  queue _ _ h := h
  waiting _ _ h := h
  telAt _ _ h := h
  l0 _ _ h := h
  free _ _ h := h
  hbm u b bs _ _ h := by
    obtain ⟨words, cache, evb, stores⟩ := u.hbmPut_stores b bs
    rw [stores]
    exact h

/-- The queue that a reader is given is one of the 64. -/
theorem State.oqChoose_lt {q : Nat} (chosen : s.oqChoose = some q) : q < 64 := by
  have best (cand : List Nat) (listed : ∀ p ∈ cand, p < 64) (b : Option Nat) (hb : ∀ p, b = some p → p < 64) :
      ∀ p, cand.foldl (fun best q => match best with
        | none => some q
        | some b => if s.cfg obsqPage OBSQ.Q_CFG_PRIO b < s.cfg obsqPage OBSQ.Q_CFG_PRIO q then some q else some b) b = some p → p < 64 := by
    induction cand generalizing b with
    | nil => exact hb
    | cons c cs ih =>
      refine ih (fun p hp => listed p (List.mem_cons_of_mem _ hp)) _ fun p hp => ?_
      have hc := listed c List.mem_cons_self
      dsimp only at hp
      split at hp
      · obtain rfl := Option.some.inj hp
        exact hc
      · split at hp
        · obtain rfl := Option.some.inj hp
          exact hc
        · exact hb p hp
  refine best _ (fun p hp => ?_) none nofun q chosen
  exact List.mem_range.1 (List.mem_filter.1 hp).1

theorem State.dropPoisoned_out {q : Nat} (low : q < 64) (n : Nat) (s : State) : (s.dropPoisoned q n).out = s.out := by
  induction n generalizing s with
  | zero => rfl
  | succ n ih =>
    have dropped (u : State) (no : Nat) : (u.dropItem q no).out = u.out := (queueKeeps_out q u).dropItem rfl low no
    unfold State.dropPoisoned
    split
    · rfl
    · split
      · exact (ih _).trans (dropped _ _)
      · rfl

theorem State.setOqReading_out (k : Nat) (x : Option OqRead) : (s.setOqReading k x).out = s.out := by
  unfold State.setOqReading
  dsimp only
  split
  · split <;> rfl
  · rfl

theorem State.readWinData_out (k : Nat) : (s.readWinData k).2.2.out = s.out := by
  unfold State.readWinData
  dsimp only
  split <;> rfl

theorem State.readOqWin_out (k : Nat) : (s.readOqWin k).2.2.out = s.out := by
  unfold State.readOqWin
  split
  · split <;> exact State.setOqReading_out k _
  · split
    · rfl
    next q chosen =>
      have poisoned := State.dropPoisoned_out (State.oqChoose_lt chosen) ((s.oqueue q).items.length + 1) s
      dsimp only
      split
      · exact poisoned
      · split
        · exact poisoned
        · exact (State.setOqReading_out k _).trans poisoned

theorem State.shardRead_out : s.shardRead.2.out = s.out := by
  unfold State.shardRead
  split
  · rfl
  · dsimp only
    split <;> split <;> rfl

theorem State.readFlds_state (p : PageRef) (xs : List FldAt) : (s.readFlds path p xs).2 = s := by
  induction xs with
  | nil => rfl
  | cons x xs ih => exact ih

theorem State.clearRc_out (xs : List FldAt) : (s.clearRc xs).out = s.out := by
  unfold State.clearRc
  exact forEach_frame (fun u => u.out) _ (fun _ _ _ => State.setFld_out ..) s

theorem State.readWord_out : (s.readWord path a).2.2.out = s.out := by
  unfold State.readWord
  split
  · rfl
  · split
    · exact State.readWinData_out _
    · split
      · exact State.readOqWin_out _
      · split
        · exact State.shardRead_out
        · split
          · rfl
          · dsimp only
            split
            · rfl
            · split
              · exact (State.clearRc_out _).trans (congrArg (fun u => u.out) (State.readFlds_state _ _))
              · exact (State.clearRc_out _).trans (congrArg (fun u => u.out) (State.readFlds_state _ _))

theorem State.regRead_out (live : s.pathLive path = true) :
    ∃ t, exec (.rcRegisterRead path a []) s = .next t ∧ t.out = s.out ++ [.readData path a (s.readWord path a).1] := by
  refine ⟨(State.send (s.readWord path a).2.2 (.readData path a (s.readWord path a).1)).settle, ?_, ?_⟩
  · change done (s.regRead path a []) = _
    unfold State.regRead
    rw [live]
    rfl
  · rw [State.settle_out]
    exact congrArg (fun o => o ++ [_]) State.readWord_out

end

/-- Settles O5: the first check that fails decides the class, and its refusal alone is recorded. -/
theorem refusedWritesChangeNothing : Obligations.RefusedWritesChangeNothing := by
  intro path a v s live still alone xs base o p touches refused noPage noRole locked trust twins
  classical
  have concludes {b cls : Nat} (left : ∃ t, exec (.registerWrite path a ⟨v, 0⟩) s = .next t ∧ s.RefusedAt t path a b cls) : refused b cls := by
    obtain ⟨t, ran, at'⟩ := left
    exact ⟨t, ran, at'.out, at'.istat, at'.code, at'.class', at'.cell, at'.valid, at'.words, at'.regs⟩
  have good (page : ¬noPage) : badAddress a = false := Bool.eq_false_iff.2 fun bad => page (badAddress_iff.1 bad)
  have checks (page : ¬noPage) := State.checkWrite_eq (v := v.toNat) live (good page)
  refine ⟨fun page => ?_, fun page role => ?_, fun page role lock => ?_, fun page role lock fuse => ?_, fun page role lock fuse twin => ?_,
    fun _ => State.regRead_out live, fun page => ?_⟩
  · exact concludes (registerWrite_refused_noPage live still alone (badAddress_iff.2 page))
  · exact concludes (registerWrite_refused_page live still alone ((checks page).trans (if_pos role)) (by decide))
  · exact concludes (registerWrite_refused_page live still alone ((checks page).trans ((if_neg role).trans (if_pos lock))) (by decide))
  · exact concludes (registerWrite_refused_page live still alone
      ((checks page).trans ((if_neg role).trans ((if_neg lock).trans (if_pos fuse)))) (by decide))
  · exact concludes (registerWrite_refused_page live still alone
      ((checks page).trans ((if_neg role).trans ((if_neg lock).trans ((if_neg fuse).trans (if_pos twin))))) (by decide))
  · obtain ⟨t, ran, out⟩ := State.regRead_out (a := a) live
    have zero : (s.readWord path a).1 = 0 := by
      unfold State.readWord
      rw [if_pos (badAddress_iff.2 page)]
    rw [zero] at out
    exact ⟨t, ran, out⟩

end Sys2Proof.Machine

/-!
SUPPORT. What a write by an observer leaves (R57, R60, R84, R87): its refusal and the counters of Stebaro.
-/
namespace Sys2Proof.Machine

/-- Whether an observer's write may touch a key: PG_ISTAT and PG_LAST_ERR of a page, and the counters of Stebaro. -/
def observerTouches (k : Nat) : Prop :=
  k / 32 % 0x1000 = 0x10 ∨ k / 32 % 0x1000 = 0x20 ∨
    k ∈ [STEBARO.SB_RX_CNT, STEBARO.SB_NAK_CNT, STEBARO.SB_DROP_CNT].map fun f => fldKey stebaroPage f 0

/-- `t` has the windows of `s`, and its registers but for those that an observer's write may touch. -/
structure State.ObserverKeeps (s t : State) : Prop where
  words : t.words = s.words
  regs : ∀ k, ¬observerTouches k → t.reg k = s.reg k

theorem State.ObserverKeeps.refl (s : State) : s.ObserverKeeps s := ⟨rfl, fun _ _ => rfl⟩

theorem State.ObserverKeeps.trans {s t u : State} (h : s.ObserverKeeps t) (g : t.ObserverKeeps u) : s.ObserverKeeps u :=
  ⟨g.words.trans h.words, fun k other => (g.regs k other).trans (h.regs k other)⟩

theorem State.observerKeeps_count (s : State) {f : Fld} (counter : f ∈ [STEBARO.SB_RX_CNT, STEBARO.SB_NAK_CNT, STEBARO.SB_DROP_CNT]) :
    s.ObserverKeeps (s.count stebaroPage f) :=
  ⟨rfl, fun _ other => State.reg_setFld_ne s _ fun same => other (.inr (.inr (List.mem_map.2 ⟨f, counter, same.symm⟩)))⟩

theorem State.observerKeeps_send (s : State) (o : Out) : s.ObserverKeeps (s.send o) := ⟨rfl, fun _ _ => rfl⟩

theorem State.observerKeeps_setSession (s : State) (i : Nat) (x : Option Session) : s.ObserverKeeps (s.setSession i x) := ⟨rfl, fun _ _ => rfl⟩

theorem State.observerKeeps_refuse (s : State) {b : Nat} (aligned : b % 0x1000 = 0) (cls : Nat) : s.ObserverKeeps (s.refuse b cls) := by
  refine ⟨rfl, fun k other => State.refuse_reg s fun listed => other ?_⟩
  obtain ⟨f, header, rfl⟩ := List.mem_map.1 listed
  have places : ∀ g ∈ [HDR.ISTAT, HDR.LAST_ERR_CODE, HDR.LAST_ERR_CLASS, HDR.LAST_ERR_CELL, HDR.LAST_ERR_VALID],
      g.lsb < 32 ∧ (g.off = 0x10 ∨ g.off = 0x20) := by decide
  obtain ⟨narrow, place⟩ := places f header
  rw [observerTouches, fldKey_header_div narrow]
  obtain istat | lastErr := place
  · exact .inl (by omega)
  · exact .inr (.inl (by omega))

theorem State.observerKeeps_setMeets (s : State) (a sets : Nat) : s.ObserverKeeps (s.setMeets a sets) := by
  refine ⟨State.setMeets_frame (fun u => u.words) (fun _ _ => rfl) s a sets, fun k other => State.setMeets_reg sets fun p there header _ same => other (.inl ?_)⟩
  have base := (pageAt_header there header).2
  rw [same, fldKey_header_div (by decide)]
  change (p.base + 0x10) % 0x1000 = 0x10
  omega

theorem State.observerKeeps_sbTouch (s : State) (i : Nat) : s.ObserverKeeps (s.sbTouch i) := by
  unfold State.sbTouch
  split
  · exact .refl s
  · exact s.observerKeeps_setSession i _

theorem State.observerKeeps_sbRespond (s : State) (sid : SessionIx) (req : SbHeader) (status count : Nat) (payload : List Nat) (short : Nat) :
    s.ObserverKeeps (s.sbRespond sid req status count payload short) := by
  unfold State.sbRespond
  split
  · exact .refl s
  · have sent (x : Option Session) (o : Out) : s.ObserverKeeps ((s.setSession sid.val x).send o) :=
      (s.observerKeeps_setSession sid.val x).trans (State.observerKeeps_send _ o)
    dsimp only
    split
    · exact sent _ _
    · exact (sent _ _).trans (State.observerKeeps_count _ (by simp))

/-! The write -/

section
variable {s : State} {sid : SessionIx}

theorem State.observerKeeps_recordRefusal (s : State) (a v : Nat) {cls : Nat} (early : cls ≠ 8) : s.ObserverKeeps (s.recordRefusal a v cls) := by
  unfold State.recordRefusal
  split
  · exact s.observerKeeps_refuse (by decide) 6
  · rw [if_neg fun ⟨undefined, _⟩ => early undefined]
    exact s.observerKeeps_refuse (arbiterBase_aligned a) cls

/-- The first word of an observer's write is refused, by its address or its role. -/
theorem State.firstFault_observer {path : Path} (role : s.roleOf path = some .observer) (a v : Nat) (ws : List (Nat × Nat)) :
    ∃ c, c ≠ 8 ∧ s.firstFault path 0 ((a, v) :: ws) = some (0, a, c) := by
  have refused : s.checkWrite path a v = some 6 ∨ s.checkWrite path a v = some 5 := by
    unfold State.checkWrite
    split
    · exact .inl rfl
    · rw [role]
      exact .inr rfl
  obtain bad | noRole := refused
  · exact ⟨6, by decide, by rw [State.firstFault, bad]⟩
  · exact ⟨5, by decide, by rw [State.firstFault, noRole]⟩

theorem State.observerKeeps_tryWrite {path : Path} (role : s.roleOf path = some .observer) (ws : List (Nat × Nat)) :
    s.ObserverKeeps (s.tryWrite path ws).2 := by
  cases ws with
  | nil => exact .refl s
  | cons w ws =>
    obtain ⟨c, early, fault⟩ := State.firstFault_observer role w.1 w.2 ws
    unfold State.tryWrite
    rw [fault]
    exact s.observerKeeps_recordRefusal _ _ early

theorem State.observerKeeps_answerWrite (s : State) (w : HeldWrite) (r : Option (Nat × Nat × Nat))
    (register : w.for' = .plain ∨ ∃ h, w.for' = .steb h) : s.ObserverKeeps (s.answerWrite w r) := by
  unfold State.answerWrite
  obtain plain | ⟨h, steb⟩ := register
  · rw [plain]
    exact s.observerKeeps_send _
  · rw [steb]
    dsimp only
    split
    · split
      · exact s.observerKeeps_sbRespond _ _ _ _ _ _
      · exact s.observerKeeps_sbRespond _ _ _ _ _ _
    · exact .refl s
    · exact .refl s

theorem State.observerKeeps_regWrite {path : Path} (role : s.roleOf path = some .observer) (ws : List (Nat × Nat)) {for' : WriteFor}
    (register : for' = .plain ∨ ∃ h, for' = .steb h) : s.ObserverKeeps (s.regWrite path ws for') := by
  have tried := State.observerKeeps_tryWrite role ws
  unfold State.regWrite
  split
  · exact .refl s
  · dsimp only
    split
    · exact ⟨rfl, fun _ _ => rfl⟩
    · unfold State.finishWrite
      dsimp only
      split
      · exact tried
      · exact tried.trans (State.observerKeeps_answerWrite _ _ _ register)

/-! Stebaro requests -/

theorem State.observerKeeps_sbRequest (role : s.roleOf (.steb sid) = some .observer) (h : SbHeader) (words : Nat) {run : State → State}
    (runs : ∀ u : State, u.roleOf (.steb sid) = some .observer → u.ObserverKeeps (run u)) : s.ObserverKeeps (s.sbRequest sid h words run) := by
  have touched := s.observerKeeps_sbTouch sid.val
  have role' : (s.sbTouch sid.val).roleOf (.steb sid) = some .observer := (State.sessionOnly_sbTouch sid s).role.trans role
  unfold State.sbRequest
  split
  · exact .refl s
  · dsimp only
    split
    · exact s.observerKeeps_count (by simp)
    · split
      · have sent (o : Out) := touched.trans (State.observerKeeps_send (s.sbTouch sid.val) o)
        split
        · exact (sent _).trans (State.observerKeeps_count _ (by simp))
        · exact sent _
      · have counted := touched.trans (State.observerKeeps_count (s.sbTouch sid.val) (f := STEBARO.SB_RX_CNT) (by simp))
        split
        · exact counted
        · split
          next code fault =>
            refine counted.trans (State.ObserverKeeps.trans ?_ (State.observerKeeps_sbRespond _ _ _ _ _ _ _))
            split
            · exact State.observerKeeps_refuse _ (by decide) 6
            · exact .refl _
          next => exact counted.trans (runs _ role')

theorem State.observerKeeps_sbBlock (h : SbHeader) {run : State → State} (runs : s.ObserverKeeps (run s)) :
    s.ObserverKeeps (s.sbBlock sid h run) := by
  unfold State.sbBlock
  split
  · exact runs
  · exact s.observerKeeps_sbRespond _ _ _ _ _ _

/-- Settling touches RDY_SYS and its PG_ISTAT alone. -/
theorem State.ObserverKeeps.settled {t : State} (keeps : s.ObserverKeeps t) :
    t.settle.words = s.words ∧ ∀ k, k / 32 % 0x1000 ≠ 0x10 → k / 32 % 0x1000 ≠ 0x20 →
      k ∉ ([STEBARO.SB_RX_CNT, STEBARO.SB_NAK_CNT, STEBARO.SB_DROP_CNT].map fun f => fldKey stebaroPage f 0) → k ∉ settleKeys →
      t.settle.reg k = s.reg k := by
  refine ⟨(State.settle_words t).trans keeps.words, fun k istat lastErr counter settles => ?_⟩
  exact (State.settle_reg t settles).trans (keeps.regs k (not_or.2 ⟨istat, not_or.2 ⟨lastErr, counter⟩⟩))

end

/-- Settles O7: each word of an observer is refused by its address or its role, and each request is answered with that. -/
theorem observersWriteNothing : Obligations.ObserversWriteNothing := by
  intro sid s t role
  have kept {c : Instr} (ran : exec c s = .next t) {u : State} (leaves : exec c s = done u) (keeps : s.ObserverKeeps u) :=
    (show u.settle = t from Host.Outcome.next.inj (leaves.symm.trans ran)) ▸ keeps.settled
  refine ⟨fun a v sets ran => ?_, fun hdr pairs ran => ?_, fun hdr values ran => ?_⟩
  · by_cases held : s.svc.held ≠ .no
    · exact kept ran (if_pos held) (.refl s)
    · exact kept ran (if_neg held) ((State.observerKeeps_regWrite role _ (.inl rfl)).trans (State.observerKeeps_setMeets _ a _))
  · exact kept ran rfl (State.observerKeeps_sbRequest role _ _ fun u own => State.observerKeeps_regWrite own _ (.inr ⟨_, rfl⟩))
  · exact kept ran rfl (State.observerKeeps_sbRequest role _ _ fun u own =>
      State.observerKeeps_sbBlock _ (State.observerKeeps_regWrite own _ (.inr ⟨_, rfl⟩)))

end Sys2Proof.Machine

/-!
SUPPORT. Writes of PG_IEN, PG_LOCK and PG_ISTAT of a page's header (R13, R54, R58).
-/
namespace Sys2Proof.Machine

-- The kernel decides facts below: one at a time, and not each in a thread of its own that waits for all before it.
set_option Elab.async false

/-! Bits of a sum of bits -/

theorem sum_bits_lt (g : Nat → Bool) (N : Nat) : ((List.range N).map fun m => boolNat (g m) * 2 ^ m).sum < 2 ^ N := by
  induction N with
  | zero => exact Nat.one_pos
  | succ N ih =>
    rw [List.range_succ, List.map_append, List.sum_append, Nat.pow_succ]
    have : boolNat (g N) * 2 ^ N ≤ 2 ^ N := by
      cases g N <;> simp [boolNat]
    simp only [List.map_cons, List.map_nil, List.sum_cons, List.sum_nil]
    omega

theorem bitOf_sum_bits (g : Nat → Bool) {n N : Nat} (low : n < N) :
    bitOf ((List.range N).map fun m => boolNat (g m) * 2 ^ m).sum n = g n := by
  induction N with
  | zero => omega
  | succ N ih =>
    have below := sum_bits_lt g N
    rw [List.range_succ, List.map_append, List.sum_append]
    simp only [List.map_cons, List.map_nil, List.sum_cons, List.sum_nil, Nat.add_zero]
    rcases Nat.lt_succ_iff_lt_or_eq.1 low with lt | rfl
    · rw [← bitOf_mod_two_pow _ lt, Nat.add_mul_mod_self_right, bitOf_mod_two_pow _ lt, ih lt]
    · unfold bitOf
      rw [Nat.add_mul_div_right _ _ (Nat.two_pow_pos n), Nat.div_eq_of_lt below]
      cases g n <;> rfl

theorem bitOf_maskIn (old v mask : Nat) {n : Nat} (low : n < 32) :
    bitOf (maskIn old v mask) n = bitOf (if bitOf mask n then v else old) n := bitOf_sum_bits _ low

theorem bitOf_testBit (v n : Nat) : bitOf v n = v.testBit n := Nat.testBit_eq_decide_div_mod_eq.symm

/-! The three fields on their page -/

/-- The page of the axes stands below their blocks. -/
def motionLow (b : Nat) : Bool :=
  match pageAt b with
  | some p => decide (p.kind = .motion → p.base < axisBlock 0)
  | none => true

theorem pageBase_motionLow (page : Page) : motionLow (pageBase page) = true := by
  cases page with
  | region r => revert r; decide +kernel
  | head h => revert h; decide +kernel
  | band h => revert h; decide +kernel
  | wheel w => revert w; decide +kernel
  | hbm k => revert k; decide +kernel
  | eth p => revert p; decide +kernel
  | _ => decide +kernel

section Fields
variable {p : PageRef} {f : Fld}

/-- A header's field is none of a page's own. -/
theorem headerField_ne (low : f.off < 0x40) {g : Fld} (own : 0x40 ≤ g.off) : f ≠ g := fun same => by
  subst same
  omega

theorem absent_header (low : f.off < 0x40) (b i : Nat) : absent p ⟨b, f, i⟩ = false := by
  have own {g : Fld} (h : 0x40 ≤ g.off) : f ≠ g := headerField_ne low h
  unfold absent
  dsimp only
  split
  · simp only [own (g := REGION.RG_SPW_WEIGHT_DATA) (by decide), own (g := REGION.RG_SPW_WEIGHT_BG) (by decide),
      own (g := REGION.RG_SPW_BG_FLOOR) (by decide), decide_false, Bool.or_false, Bool.false_and]
  · simp only [own (g := ETH.ETH_CFG_RATE) (by decide), own (g := ETH.ETH_CFG_AUI) (by decide), own (g := ETH.ETH_CFG_MTU) (by decide),
      own (g := ETH.IPV4) (by decide), own (g := ETH.IPV6) (by decide), own (g := ETH.IPV4_PFX) (by decide),
      own (g := ETH.IPV6_PFX) (by decide), own (g := ETH.GW4) (by decide), own (g := ETH.GW6) (by decide), decide_false, Bool.or_false,
      Bool.false_eq_true, if_false]
  · rfl

/-- No page changes the access of a header's field, but that of PG_CTRL (R54). -/
theorem effAcc_header (header : p.kind.hasHeader = true) (low : f.off < 0x40) (ctrl : f.off ≠ 0x0C) (b i : Nat) :
    effAcc p ⟨b, f, i⟩ = f.acc := by
  have switch {g : Fld} (h : g.off = 0x0C) : f ≠ g := fun same => ctrl (same ▸ h)
  have source : f ≠ OBSQ.Q_CFG_SRC := headerField_ne low (by decide)
  unfold effAcc
  simp only [absent_header low, switch (g := HDR.ENABLE) rfl, switch (g := HDR.SOFT_RESET) rfl, source, decide_false, Bool.or_false,
    Bool.and_false, Bool.false_and, Bool.false_eq_true, if_false]
  split
  next slot =>
    rw [slot] at header
    cases header
  · rfl
  · rfl

/-- A header's field outside PG_CTRL is stored as it is written: none clears itself. -/
theorem selfClearing_header (low : f.off < 0x40) (ctrl : f.off ≠ 0x0C) : selfClearing p f = false := by
  have soft : f ≠ HDR.SOFT_RESET := fun same => ctrl (same ▸ rfl)
  unfold selfClearing
  simp only [soft, headerField_ne low (g := CK.FMON_START) (by decide), headerField_ne low (g := HEAD.LINK_CTRL_RETRAIN) (by decide),
    headerField_ne low (g := CTRLENG.TRACE_CFG_START) (by decide), decide_false, Bool.and_false, Bool.or_false]

theorem setByHook_header (header : p.kind.hasHeader = true) (low : f.off < 0x40) (ctrl : f.off ≠ 0x0C) : setByHook p f = false := by
  have isolate : f ≠ HDR.ISOLATE := fun same => ctrl (same ▸ rfl)
  have fire : p.kind ≠ .fire := fun kind => by
    rw [kind] at header
    cases header
  unfold setByHook
  simp only [selfClearing_header low ctrl, isolate, fire, headerField_ne low (g := ER.WIN_CURSOR) (by decide),
    headerField_ne low (g := OUTER.SHARD_IDX) (by decide), decide_false, Bool.and_false, Bool.false_and, Bool.or_false]

end Fields

section
variable {s : State} {path : Path} {page : Page} {p : PageRef} {f : Fld} {v : Nat}

/-- The fields of which this part speaks. -/
def HeaderWritten (f : Fld) : Prop := f = HDR.PG_IEN ∨ f = HDR.LOCK ∨ f = HDR.ISTAT

/-- Where each of the three fields stands: first in its word, with read-only fields beside it. -/
theorem headerWritten_place (own : HeaderWritten f) : f.off < 0x40 ∧ f.off ≠ 0x0C ∧ f.lsb = 0 ∧
    ∀ b, ∃ rest, fieldsIn b f.off HDR.fields = ⟨b, f, 0⟩ :: rest ∧
      ∀ y ∈ rest, y.fld.off < 0x40 ∧ y.fld.off ≠ 0x0C ∧ y.fld.acc = .ro := by
  rcases own with rfl | rfl | rfl
  · exact ⟨by decide, by decide, rfl, fun b => ⟨[], rfl, by simp⟩⟩
  · exact ⟨by decide, by decide, rfl, fun b => ⟨[⟨b, HDR.TRUST_LOCKED, 0⟩], rfl, by simp; decide⟩⟩
  · exact ⟨by decide, by decide, rfl, fun b => ⟨[], rfl, by simp⟩⟩

/-- A header shows these fields as they are held. -/
theorem State.shown_headerWritten (header : p.kind.hasHeader = true) (own : HeaderWritten f) :
    s.shown path p ⟨p.base, f, 0⟩ = s.fld p.base f % 2 ^ f.width := by
  obtain ⟨low, -, -, -⟩ := headerWritten_place own
  have other : f ≠ HDR.BUSY ∧ f ≠ HDR.PG_SEQ ∧ f ≠ HDR.TRUST_LOCKED := by
    rcases own with rfl | rfl | rfl <;> decide
  obtain ⟨busy, seq, trust⟩ := other
  unfold State.shown
  simp only [absent_header low, header, low, busy, seq, trust, decide_true, Bool.and_self, Bool.false_eq_true, if_true, if_false]

/-- A word written and answered, and met by what the hardware sets in the same bus event (R13). -/
def State.wordWritten (s : State) (path : Path) (a v sets : Nat) : State :=
  ((s.writeWord path a v).send (.writeDone path a 0)).setMeets a sets

/-- A command that writes such a word and passes: the word is written and answered. -/
theorem exec_registerWrite_headerWritten (own : HeaderWritten f) {w : Word} (passes : s.Passes path (pageBase page + f.off) w.toNat) (sets : Word) :
    exec (.registerWrite path (pageBase page + f.off) ⟨w, sets⟩) s =
      .next (s.wordWritten path (pageBase page + f.off) w.toNat sets.toNat).settle := by
  obtain ⟨k, i, header, hk, aligned⟩ := pageAt_pageBase page
  have below := pageAt_header_lt hk header
  obtain ⟨low, -, -, -⟩ := headerWritten_place own
  have notHeld : s.svc.held = .no := by
    have live := passes.live
    unfold State.pathLive at live
    simp only [Bool.and_eq_true, decide_eq_true_eq] at live
    exact live.1
  have notReset : pageBase page + f.off ≠ chipPage + 0x70 := by
    simp only [chipPage]
    omega
  refine (if_neg (Classical.not_not.2 notHeld)).trans ?_
  rw [State.regWrite_word passes (.inl notReset), State.pulsesWritten_out (by omega)]
  rfl

variable (hp : pageAt (pageBase page) = some p) (own : HeaderWritten f)
include hp own

/-- Of the word of such a field, a write touches that field or nothing. -/
theorem State.touched_headerWritten : s.touched path (pageBase page + f.off) v =
    if s.touches path p v ⟨p.base, f, 0⟩ then [⟨p.base, f, 0⟩] else [] := by
  obtain ⟨k, i, header, hk, -⟩ := pageAt_pageBase page
  obtain rfl : p = ⟨k, i, pageBase page⟩ := Option.some.inj (hp.symm.trans hk)
  obtain ⟨low, -, -, fields⟩ := headerWritten_place own
  obtain ⟨rest, word, plain⟩ := fields (pageBase page)
  have here := pageAt_pageBase_add hk (o := f.off) (by omega)
  have offset : pageBase page + f.off - pageBase page = f.off := Nat.add_sub_cancel_left ..
  have untouched : rest.filter (fun x => s.touches path ⟨k, i, pageBase page⟩ v x) = [] := by
    refine List.filter_eq_nil_iff.2 fun y hy => ?_
    obtain ⟨lowY, ctrlY, ro⟩ := plain y hy
    unfold State.touches
    rw [show y = ⟨y.base, y.fld, y.idx⟩ from rfl, effAcc_header header lowY ctrlY, ro]
    exact Bool.false_ne_true
  unfold State.touched
  simp only [here]
  rw [fieldsAt_header here header (by dsimp only; omega), offset, word, List.filter_cons, untouched]

/-- A write of such a word does what its field does, and counts once where a field with a value of its own is touched. -/
theorem State.writeWord_headerWritten : s.writeWord path (pageBase page + f.off) v =
    if s.touches path p v ⟨p.base, f, 0⟩ then
      (if f.acc = .rw then (s.putFld p v ⟨p.base, f, 0⟩).countWrap p.base HDR.PG_SEQ else s.putFld p v ⟨p.base, f, 0⟩)
    else s := by
  obtain ⟨k, i, header, hk, -⟩ := pageAt_pageBase page
  have touched := State.touched_headerWritten (s := s) (path := path) (v := v) hp own
  obtain rfl : p = ⟨k, i, pageBase page⟩ := Option.some.inj (hp.symm.trans hk)
  obtain ⟨low, ctrl, -, -⟩ := headerWritten_place own
  have here := pageAt_pageBase_add hk (o := f.off) (by omega)
  have window := (pageAt_header here header).1
  have offset : pageBase page + f.off - pageBase page = f.off := Nat.add_sub_cancel_left ..
  have counted : s.changesPage ⟨k, i, pageBase page⟩ v [⟨pageBase page, f, 0⟩] = decide (f.acc = .rw) := by
    have isolate : f ≠ HDR.ISOLATE := fun same => ctrl (same ▸ rfl)
    have unlocked : f.acc ≠ .rwl := by
      rcases own with rfl | rfl | rfl <;> decide
    unfold State.changesPage
    simp only [List.any_cons, List.any_nil, effAcc_header (p := ⟨k, i, pageBase page⟩) header low ctrl, selfClearing_header low ctrl,
      isolate, unlocked, header, decide_false, Bool.false_and, Bool.or_false, Bool.not_false, Bool.and_true, Bool.true_and]
  unfold State.writeWord
  simp only [here, window, offset, header, low, ctrl, touched, Bool.and_false, Bool.false_eq_true, decide_true, Bool.and_self, if_true, if_false]
  split
  · rw [counted]
    simp only [decide_eq_true_eq]
    rfl
  · unfold State.changesPage
    simp only [List.any_nil, Bool.and_false, Bool.false_eq_true, if_false]
    rfl

/-- A field of the header with a value of its own takes the value written. -/
theorem State.putFld_headerWritten (rw' : f.acc = .rw) :
    s.putFld p v ⟨p.base, f, 0⟩ = s.setFld p.base f (f.of v) := by
  obtain ⟨k, i, header, hk, -⟩ := pageAt_pageBase page
  obtain rfl : p = ⟨k, i, pageBase page⟩ := Option.some.inj (hp.symm.trans hk)
  obtain ⟨low, ctrl, -, -⟩ := headerWritten_place own
  have motion := pageBase_motionLow page
  unfold motionLow at motion
  simp only [hk, decide_eq_true_eq] at motion
  have eth : (0x44 ≤ f.off) = False := eq_false (by omega)
  unfold State.putFld
  simp only [effAcc_header (p := ⟨k, i, pageBase page⟩) header low ctrl, rw',
    setByHook_header (p := ⟨k, i, pageBase page⟩) header low ctrl, Bool.false_eq_true, if_false]
  cases k with
  | band => exact if_pos low
  | ctrleng => exact if_neg (by omega)
  | wheel => exact if_neg (by omega)
  | obsq => exact if_neg (by simp; omega)
  | eth => exact if_neg (by simp [eth])
  | stripe => exact if_neg (by simp; omega)
  | motion => exact if_neg (by simp [Nat.not_le.2 (motion rfl)])
  | fire => exact if_pos low
  | _ => rfl

end

/-! What a step leaves -/

/-- The state with the registers, the recorder, the arbiters and the answers of `d`. -/
def State.withRegsOf (u d : State) : State := { u with regs := d.regs, recd := d.recd, arb := d.arb, out := d.out }

theorem State.withRegsOf_setFld (s d : State) (b : Nat) (f : Fld) (v i : Nat) : (s.setFld b f v i).withRegsOf d = s.withRegsOf d := rfl

/-- A state that differs from `s` in registers and answers alone, settled. -/
theorem State.settled_frame {s u : State} {keys : List Nat} (regs : ∀ k, k ∉ keys → u.reg k = s.reg k)
    (frame : ∀ d, u.withRegsOf d = s.withRegsOf d) :
    (∀ k, k ∉ keys → k ∉ settleKeys → u.settle.reg k = s.reg k) ∧
      u.settle = { s with regs := u.settle.regs, recd := u.settle.recd, arb := u.settle.arb, out := u.settle.out } := by
  refine ⟨fun k other settles => (State.settle_reg u settles).trans (regs k other), ?_⟩
  have unseen := State.settle_unseen (fun x => x.withRegsOf u.settle) (fun _ _ => rfl) (fun _ _ => rfl) (fun _ _ => rfl) u
  exact unseen.trans (frame u.settle)

/-- Away from PG_ISTAT nothing is set as a write meets it. -/
theorem State.setMeets_other {a : Nat} (s : State) (other : a % 0x1000 ≠ 0x10) (sets : Nat) : s.setMeets a sets = s := by
  have none : (fieldsAt a).filter (fun x => decide (x.fld.acc = .w1c)) = [] := by
    refine List.filter_eq_nil_iff.2 fun x hx w1c => ?_
    obtain ⟨p, there, header, here, -⟩ := w1c_field hx (of_decide_eq_true w1c)
    have := (pageAt_header there header).2
    omega
  unfold State.setMeets
  split
  · rfl
  · rw [none]
    rfl

section
variable {s : State} {path : Path} {page : Page} {f : Fld} {w : Word}

theorem header_key_notMem_settleKeys (low : f.off < 0x40) (other : f.off ≠ 0x10) (narrow : f.lsb < 32) (page : Page) :
    fldKey (pageBase page) f 0 ∉ settleKeys := by
  obtain ⟨-, -, -, -, aligned⟩ := pageAt_pageBase page
  refine header_notMem_settleKeys ?_ ?_
  · rw [fldKey_header_div narrow]
    omega
  · rw [fldKey_header_div narrow]
    omega

/-- PG_IEN and PG_LOCK (R54, R58): the word takes its value and counts where that changes it. -/
theorem State.writeWord_headerRw {v : Nat} (own : f = HDR.PG_IEN ∨ f = HDR.LOCK) : s.writeWord path (pageBase page + f.off) v =
    if s.fld (pageBase page) f % 2 ^ f.width ≠ v % 2 ^ f.width then
      (s.setFld (pageBase page) f (v % 2 ^ f.width)).countWrap (pageBase page) HDR.PG_SEQ
    else s := by
  obtain ⟨k, i, header, hk, -⟩ := pageAt_pageBase page
  have own' : HeaderWritten f := own.imp id .inl
  obtain ⟨low, ctrl, lsb, -⟩ := headerWritten_place own'
  have rw' : f.acc = .rw := by
    rcases own with rfl | rfl <;> rfl
  have value : f.of v = v % 2 ^ f.width := by
    rw [Fld.of, lsb, Nat.pow_zero, Nat.div_one]
  have touches : s.touches path ⟨k, i, pageBase page⟩ v ⟨pageBase page, f, 0⟩ =
      decide (s.fld (pageBase page) f % 2 ^ f.width ≠ v % 2 ^ f.width) := by
    unfold State.touches
    simp only [effAcc_header (p := ⟨k, i, pageBase page⟩) header low ctrl, rw', value]
    rw [State.shown_headerWritten (p := ⟨k, i, pageBase page⟩) header own']
    exact decide_eq_decide.2 ne_comm
  rw [State.writeWord_headerWritten hk own', touches, State.putFld_headerWritten hk own' rw', value, if_pos rw']
  simp only [decide_eq_true_eq]

theorem registerWrite_headerRw (own : f = HDR.PG_IEN ∨ f = HDR.LOCK) (passes : s.Passes path (pageBase page + f.off) w.toNat) :
    ∃ t, exec (.registerWrite path (pageBase page + f.off) ⟨w, 0⟩) s = .next t ∧
      t.fld (pageBase page) f % 2 ^ f.width = w.toNat % 2 ^ f.width ∧
      ((s.fld (pageBase page) f % 2 ^ f.width ≠ w.toNat % 2 ^ f.width →
          t.fld (pageBase page) HDR.PG_SEQ = (s.fld (pageBase page) HDR.PG_SEQ + 1) % 2 ^ 32) ∧
        (¬s.fld (pageBase page) f % 2 ^ f.width ≠ w.toNat % 2 ^ f.width →
          t.fld (pageBase page) HDR.PG_SEQ = s.fld (pageBase page) HDR.PG_SEQ)) ∧
      (∀ k, k ∉ [f, HDR.PG_SEQ].map (fun f => fldKey (pageBase page) f 0) → k ∉ settleKeys → t.reg k = s.reg k) ∧
      t = { s with regs := t.regs, recd := t.recd, arb := t.arb, out := t.out } := by
  obtain ⟨k, i, header, hk, aligned⟩ := pageAt_pageBase page
  have own' : HeaderWritten f := own.imp id .inl
  obtain ⟨low, -, lsb, -⟩ := headerWritten_place own'
  have notIstat : f.off ≠ 0x10 := by
    rcases own with rfl | rfl <;> decide
  have apart : fldKey (pageBase page) f 0 ≠ fldKey (pageBase page) HDR.PG_SEQ 0 := by
    rcases own with rfl | rfl <;> simp only [fldKey, HDR.PG_IEN, HDR.LOCK, HDR.PG_SEQ] <;> omega
  have settled := header_key_notMem_settleKeys low notIstat (by omega) page
  have settledSeq := header_key_notMem_settleKeys (f := HDR.PG_SEQ) (by decide) (by decide) (by decide) page
  have ran := exec_registerWrite_headerWritten own' passes 0
  rw [State.wordWritten, State.setMeets_other _ (by omega), State.writeWord_headerRw own] at ran
  refine ⟨_, ran, ?_⟩
  by_cases changes : s.fld (pageBase page) f % 2 ^ f.width ≠ w.toNat % 2 ^ f.width
  · rw [if_pos changes]
    refine ⟨?_, ⟨fun _ => ?_, fun same => absurd changes same⟩, State.settled_frame (fun key other => ?_) fun d => rfl⟩
    · rw [State.settle_fld _ settled]
      refine (congrArg (· % 2 ^ f.width) (State.fld_setFld_ne (s := s.setFld (pageBase page) f _) _ apart)).trans ?_
      rw [State.fld_setFld_self, Nat.mod_mod, Nat.mod_mod]
    · rw [State.settle_fld _ settledSeq]
      refine (State.fld_setFld_self ..).trans ?_
      exact congrArg (fun count => (count + 1) % 2 ^ 32) (State.fld_setFld_ne (s := s) _ apart.symm)
    · simp only [List.map_cons, List.map_nil, List.mem_cons, List.not_mem_nil, or_false, not_or] at other
      exact (State.reg_setFld_ne _ _ other.2).trans (State.reg_setFld_ne s _ other.1)
  · rw [if_neg changes]
    refine ⟨?_, ⟨fun differs => absurd differs changes, fun _ => State.settle_fld _ settledSeq⟩,
      State.settled_frame (fun key _ => rfl) fun d => rfl⟩
    rw [State.settle_fld _ settled]
    exact Classical.not_not.1 changes

end

/-! PG_ISTAT -/

section
variable {s : State} {path : Path} {page : Page} {k : PageKind} {i n : Nat}

theorem State.fldBit_setFld_istat (s : State) (b v : Nat) (low : n < 32) : (s.setFld b HDR.ISTAT v).fldBit b HDR.ISTAT n = bitOf v n := by
  rw [State.fldBit, State.fld_setFld_self]
  exact bitOf_mod_two_pow v low

/-- A bit of the page that is written 1 is cleared, and no other. -/
theorem State.writeWord_istat {v : Nat} (hk : pageAt (pageBase page) = some ⟨k, i, pageBase page⟩) (header : k.hasHeader = true) :
    s.writeWord path (pageBase page + 0x10) v =
      if v % 2 ^ 32 &&& istatBits k ≠ 0 then
        s.setFld (pageBase page) HDR.ISTAT (maskIn (s.fld (pageBase page) HDR.ISTAT) 0 (v % 2 ^ 32))
      else s := by
  have own : HeaderWritten HDR.ISTAT := .inr (.inr rfl)
  have acc : effAcc ⟨k, i, pageBase page⟩ ⟨pageBase page, HDR.ISTAT, 0⟩ = .w1c :=
    effAcc_header (p := ⟨k, i, pageBase page⟩) header (by decide) (by decide) _ _
  have value : HDR.ISTAT.of v = v % 2 ^ 32 := congrArg (· % 2 ^ 32) (Nat.div_one v)
  refine (State.writeWord_headerWritten hk own).trans ?_
  unfold State.touches State.putFld
  simp only [acc, value, decide_eq_true_eq]
  rfl

theorem State.writeWord_istat_fldBit {v : Nat} (hk : pageAt (pageBase page) = some ⟨k, i, pageBase page⟩) (header : k.hasHeader = true)
    (low : n < 32) (bit : bitOf (istatBits k) n = true) :
    (s.writeWord path (pageBase page + 0x10) v).fldBit (pageBase page) HDR.ISTAT n = (s.fldBit (pageBase page) HDR.ISTAT n && !bitOf v n) := by
  rw [State.writeWord_istat hk header]
  by_cases touched : v % 2 ^ 32 &&& istatBits k ≠ 0
  · rw [if_pos touched, State.fldBit_setFld_istat _ _ _ low, bitOf_maskIn _ _ _ low, bitOf_mod_two_pow _ low]
    cases bitOf v n
    · simp [State.fldBit]
    · simp [bitOf]
  · have clear : bitOf v n = false := by
      have none : bitOf (v % 2 ^ 32 &&& istatBits k) n = false := by
        rw [Classical.not_not.1 touched, bitOf_testBit, Nat.zero_testBit]
      rw [bitOf_testBit, Nat.testBit_and, ← bitOf_testBit, ← bitOf_testBit, bit, Bool.and_true] at none
      rwa [← bitOf_mod_two_pow v low]
    rw [if_neg touched, clear, Bool.not_false, Bool.and_true]

/-- A bit that hardware sets as the write clears it stays set (R13). -/
theorem State.setMeets_istat_fldBit {sets : Nat} (hk : pageAt (pageBase page) = some ⟨k, i, pageBase page⟩) (header : k.hasHeader = true)
    (low : n < 32) (bit : bitOf (istatBits k) n = true) :
    (s.setMeets (pageBase page + 0x10) sets).fldBit (pageBase page) HDR.ISTAT n =
      (s.fldBit (pageBase page) HDR.ISTAT n || bitOf sets n) := by
  rw [State.setMeets_istat (pageAt_pageBase_add hk (by decide)) header rfl, State.fldBit_setFld_istat _ _ _ low, bitOf_testBit, Nat.testBit_or, Nat.testBit_and,
    ← bitOf_testBit, ← bitOf_testBit, ← bitOf_testBit, bit, Bool.and_true, bitOf_mod_two_pow _ low]
  rfl

theorem registerWrite_istat {w : Word} (hk : pageAt (pageBase page) = some ⟨k, i, pageBase page⟩) (header : k.hasHeader = true)
    (passes : s.Passes path (pageBase page + 0x10) w.toNat) (sets : Word) :
    ∃ t, exec (.registerWrite path (pageBase page + 0x10) ⟨w, sets⟩) s = .next t ∧
      (∀ n < 32, bitOf (istatBits k) n = true → pageBase page = rdyPage ∧ (n = 8 ∨ n = 9) ∨
        t.fldBit (pageBase page) HDR.ISTAT n = (s.fldBit (pageBase page) HDR.ISTAT n && !bitOf w.toNat n || bitOf sets.toNat n)) ∧
      t.fld (pageBase page) HDR.PG_SEQ = s.fld (pageBase page) HDR.PG_SEQ ∧
      (∀ k, k ∉ [HDR.ISTAT].map (fun f => fldKey (pageBase page) f 0) → k ∉ settleKeys → t.reg k = s.reg k) ∧
      t = { s with regs := t.regs, recd := t.recd, arb := t.arb, out := t.out } := by
  obtain ⟨-, -, -, -, aligned⟩ := pageAt_pageBase page
  have here := pageAt_pageBase_add hk (o := 0x10) (by decide)
  have settledSeq := header_key_notMem_settleKeys (f := HDR.PG_SEQ) (by decide) (by decide) (by decide) page
  have regs (key : Nat) (other : key ∉ [HDR.ISTAT].map (fun f => fldKey (pageBase page) f 0)) :
      (s.wordWritten path (pageBase page + 0x10) w.toNat sets.toNat).reg key = s.reg key := by
    have ne : key ≠ fldKey (pageBase page) HDR.ISTAT 0 := fun same => other (by simp [same])
    rw [State.wordWritten, State.setMeets_istat here header rfl, State.reg_setFld_ne _ _ ne]
    change (s.writeWord path (pageBase page + 0x10) w.toNat).reg key = _
    rw [State.writeWord_istat hk header]
    split
    · exact State.reg_setFld_ne s _ ne
    · rfl
  refine ⟨(s.wordWritten path (pageBase page + 0x10) w.toNat sets.toNat).settle,
    exec_registerWrite_headerWritten (f := HDR.ISTAT) (.inr (.inr rfl)) passes sets, fun n low bit => ?_, ?_,
    State.settled_frame regs fun d => ?_⟩
  · by_cases settles : pageBase page = rdyPage ∧ (n = 8 ∨ n = 9)
    · exact .inl settles
    · refine .inr ((State.settle_istat aligned low ?_ _).trans ((State.setMeets_istat_fldBit hk header low bit).trans ?_))
      · by_cases rdy : pageBase page = rdyPage
        · exact .inr (not_or.1 fun own => settles ⟨rdy, own⟩)
        · exact .inl rdy
      · exact congrArg (· || bitOf sets.toNat n) (State.writeWord_istat_fldBit hk header low bit)
  · rw [State.settle_fld _ settledSeq]
    refine regs _ fun listed => ?_
    simp only [List.map_cons, List.map_nil, List.mem_singleton, fldKey, HDR.PG_SEQ, HDR.ISTAT] at listed
    omega
  · refine (State.setMeets_frame (fun u => u.withRegsOf d) (fun _ _ => rfl) _ _ _).trans ?_
    change (s.writeWord path (pageBase page + 0x10) w.toNat).withRegsOf d = _
    rw [State.writeWord_istat hk header]
    split
    · exact State.withRegsOf_setFld ..
    · rfl

end

/-- Settles O6: PG_IEN and PG_LOCK take the value written, PG_ISTAT loses the bits written 1 that the hardware does not set. -/
theorem headerWritesChangeTheirFieldAlone : Obligations.HeaderWritesChangeTheirFieldAlone := by
  intro path page p v s hp
  obtain ⟨k, i, header, hk, -⟩ := pageAt_pageBase page
  obtain rfl : p = ⟨k, i, pageBase page⟩ := Option.some.inj (hp.symm.trans hk)
  refine ⟨fun passes => ?_, fun passes => ?_, fun passes sets => ?_⟩
  · have whole : v.toNat % 2 ^ 32 = v.toNat := Nat.mod_eq_of_lt v.isLt
    have written := registerWrite_headerRw (f := HDR.PG_IEN) (.inl rfl) passes
    rw [show HDR.PG_IEN.width = 32 from rfl, whole] at written
    exact written
  · exact registerWrite_headerRw (f := HDR.LOCK) (.inr rfl) passes
  · obtain ⟨t, ran, bits, seq, same⟩ := registerWrite_istat hk header passes sets
    exact ⟨t, ran, bits, ⟨False.elim, fun _ => seq⟩, same⟩

end Sys2Proof.Machine
